-- ==== Sys2Proof/Word.lean ====
section
/-! DEFINITION. The plain number types of the Basga: register words, bytes, lines and the 8-bit and 16-bit codes that the spec treats as bits. -/

namespace Sys2Proof

/-- A 64-bit register of control space or of a hart (R9, R82). -/
abbrev Word := BitVec 64

/-- The smallest addressable unit of memory. -/
abbrev Byte := BitVec 8

/-- A 64-byte cache line, byte n in bits 8n+7:8n (R141, R203). -/
abbrev Line := BitVec 512

/-- The four POISON bits of a line, bit i for bytes 16i to 16i+15 (R172). -/
abbrev Poison := BitVec 4

/-- A 48-bit performance counter (R403). -/
abbrev Count := BitVec 48

/-- A 32-bit replacement generator (R146). -/
abbrev Lfsr := BitVec 32

end Sys2Proof
end

