-- ==== Sys2Proof/Syntax.lean ====
section
/-! DEFINITION. The commands of the Basga: one constructor of `Instr` for each row of the table of operations and events, with the operands each takes.
The table gives no bits; operands are what the row's rule says comes from outside the part. -/

namespace Sys2Proof

/-- A unit in the numbering of R339: UNIT_TYPE and UNIT. -/
structure UnitId where
  ty : Nat
  no : Nat
deriving DecidableEq, Repr

/-- Who issues a control-space access (R40, R81, R221, R360). -/
inductive Agent where
  /-- the hart with this global hart ID -/
  | hart (h : Nat)
  /-- the Governor, always Secure (R360) -/
  | governor
  /-- the Clasp, always Secure (R360) -/
  | clasp
  /-- any other initiator, by its node ID (R27) -/
  | node (n : Nat)
deriving DecidableEq, Repr

/-- What a REGISTER_WRITE names: a control-space address with an access size in bytes (R9), or a CSR number (R85). -/
inductive RegTarget where
  | addr (a : Nat) (size : Nat)
  | csr (num : Nat)
deriving DecidableEq, Repr

/-- An array error that a step meets in what it reads, as the hardware's check codes find it (R117, R140, R162, R165, R195, R222). -/
inductive Upset where
  | none
  /-- parity error in the L1 or L2 TLB entry that the access hits -/
  | tlb
  /-- parity error in the locked TLB entry that the access hits -/
  | tlbLocked
  /-- single-bit, then uncorrectable, error in the L1D or victim line -/
  | l1Ce | l1Ue
  /-- single-bit, uncorrectable data, then tag or state error in the L2 line -/
  | l2Ce | l2Ue | l2Tag
  /-- the same three of the L3 line -/
  | l3Ce | l3Ue | l3Tag
  /-- corrected, then uncorrectable, directory entry -/
  | dirCe | dirUe
  /-- corrected, then uncorrectable, snoop filter entry -/
  | sfCe | sfUe
  /-- core array: corrected by re-execution, then uncorrectable -/
  | coreCe | coreUe
  /-- flit: corrected, uncorrectable data, uncorrectable header, found at a router (R222) and attributed to a lane of a direction of a crossing (R235); a number that names no crossing stands for a mesh link -/
  | flitCe (node x : Nat) (inward : Bool) (lane : Nat)
  | flitData (node x : Nat) (inward : Bool) (lane : Nat)
  | flitHdr (node x : Nat) (inward : Bool) (lane : Nat)
deriving DecidableEq, Repr

/-- An operand of a command, with the array or flit error that the command meets (log 74). -/
structure Met (α : Type) where
  it : α
  upset : Upset
deriving DecidableEq, Repr

/-- The outcome of training one crossing, as the wires gave it (R228, R229): the lanes each end's test found bad for OUT and IN, the raw latency, and whether the mark and report checked. -/
structure TrainResult where
  clocksUp : Bool
  badOut : List Nat
  badIn : List Nat
  rawLat : Nat
  markOk : Bool
deriving DecidableEq, Repr

/-- How a System Link link came up (R298, R310): its width code, and whether it runs at 64 GT/s. -/
structure LinkRate where
  width : Nat
  full : Bool
deriving DecidableEq, Repr

/-- One DIMM's SPD as read at start-up step 6 (R248): capacity in GiB and the four timings in ns. -/
structure Dimm where
  gib : Nat
  tRCD : Nat
  tRP : Nat
  cl : Nat
  tRFCsb : Nat
deriving DecidableEq, Repr

/-- What memory training found: the DIMM of each of the 16 channels, the pseudo-channels and channels that failed to train (R248, R262), and the HDM decoders set up for CXL devices: port group, base, size, interleave ways and granularity (R249). -/
structure MemTrainResult where
  dimms : List (Option Dimm)
  failedPc : List Nat
  failedCh : List Nat
  decoders : List (Nat × Nat × Nat × Nat × Nat)
deriving DecidableEq, Repr

/-- A signature block's contents (R47). -/
structure SigBlock where
  mldsaPk : List Byte
  mldsaSig : List Byte
  ecdsaPk : List Byte
  ecdsaSig : List Byte
deriving DecidableEq, Repr

/-- A register an ordinary instruction writes (R82). -/
inductive RegWrite where
  | x (n : Nat) (v : Word)
  | f (n : Nat) (v : Word)
  | vec (n : Nat) (v : BitVec 256)
deriving DecidableEq, Repr

/-- A CSR access of an ordinary instruction: csrrw, csrrs or csrrc with its operand, or a read alone. -/
inductive CsrOp where
  | read (num rd : Nat)
  | rw (num rd : Nat) (v : Word)
  | rs (num rd : Nat) (v : Word)
  | rc (num rd : Nat) (v : Word)
deriving DecidableEq, Repr

/-- The kinds of control transfer that R86, R87 and R93 tell apart. -/
inductive BranchKind where
  | cond
  | jal
  | jalr
deriving DecidableEq, Repr

/-- A control transfer: its address, its target, whether it was taken, and the registers R87 looks at. -/
structure Branch where
  kind : BranchKind
  pc : Word
  target : Word
  taken : Bool
  rd : Nat
  rs1 : Nat
  /-- the instruction's length in bytes -/
  len : Nat
deriving DecidableEq, Repr

/-- The sixteen retirement classes of counters 96 to 111 (R404). -/
inductive RetClass where
  | alu | mulDiv | branch | jump | load | store | amo | csr | fence | vint | vfp | vload | vstore | fp | xlz | system
deriving DecidableEq, Repr

/-- An ordinary instruction as it retires: its bits and length in bytes, its class, the register values it computed, its CSR access and its control transfer.
The results of the base instruction set are the sender's (log 8); what the Basga adds to retirement is the model's. -/
structure Retire where
  bits : BitVec 32
  len : Nat
  cls : RetClass
  writes : List RegWrite
  csr : Option CsrOp
  br : Option Branch
deriving DecidableEq, Repr

/-- A load or fetch (R98): destination register, virtual address, 2^size bytes, sign extension, whether it is a fetch, and whether it is speculative (R97). -/
structure LoadOp where
  rd : Nat
  va : Word
  size : Nat
  signed : Bool
  fetch : Bool
  spec : Bool
deriving DecidableEq, Repr

/-- The atomic operations of R172. -/
inductive AmoKind where
  | swap | add | and | or | xor | min | max | minu | maxu | cas
deriving DecidableEq, Repr

/-- An AMO: register, address, 2^size bytes, operation, operand, compare value of a CAS, and whether it directly follows ntl.all (R185). -/
structure AmoOp where
  rd : Nat
  va : Word
  size : Nat
  op : AmoKind
  data : BitVec 128
  cmp : BitVec 128
  ntlAll : Bool
deriving DecidableEq, Repr

/-- The three Zicbop prefetches (R160). -/
inductive PrefetchKind where
  | i | r | w
deriving DecidableEq, Repr

/-- What wakes a core (R385). -/
inductive WakeSrc where
  | interrupt
  | mailbox
  | deadline
deriving DecidableEq, Repr

/-- The trap returns of the privileged specification (R89). -/
inductive XretKind where
  | mret
  | sret
  | mnret
deriving DecidableEq, Repr

/-- The three translation CSRs whose writes flush (R89). -/
inductive SatpCsr where
  | satp
  | vsatp
  | hgatp
deriving DecidableEq, Repr

/-- A mailbox message flit (R203, KIND 1). -/
structure MailMsg where
  dstNode : Nat
  dstCore : Nat
  srcNode : Nat
  srcCore : Nat
  srcHart : Nat
  stream : Nat
  deadlineLo : BitVec 32
  secure : Bool
  payload : BitVec 384
deriving DecidableEq, Repr

/-- The three mailbox answers (R108). -/
inductive Answer where
  | accept
  | refuse
  | final
deriving DecidableEq, Repr

/-- A mailbox answer (R203, SUBTYPE 0x3). -/
structure MailAns where
  dstNode : Nat
  dstCore : Nat
  srcNode : Nat
  srcCore : Nat
  destHart : Nat
  answer : Answer
deriving DecidableEq, Repr

/-- The kinds of request that pass the pair comparator (R113). -/
inductive PairKind where
  | store | amo | cbo | ncLoad | ioLoad | lock | unlock | mbsend
deriving DecidableEq, Repr

/-- One core's copy of a request (R113): kind, address (virtual and physical), size of 2^size bytes, byte enables, data and attributes; the Svpbmt type of its page is the lowest two bits of the attributes. -/
structure PairCopy where
  kind : PairKind
  va : Word
  addr : Nat
  size : Nat
  enables : BitVec 64
  data : Line
  attrs : Nat
deriving DecidableEq, Repr

/-- The coherence messages of R171. -/
inductive Opc where
  | rds | rdu | upg | rdnc | wrnc | wbd | evc | amof | amom
  | snps | snpi | snpbi
  | rspi | rsps | rspd | rspx
  | dat | cmp | cmpack
deriving DecidableEq, Repr

/-- A coherence message with the fields of its header (R172) and its 64 data bytes.
STATE: 0 I, 1 S, 2 E, 3 M. STATUS: 0 OK, 1 NOSPEC, 2 UNSUPPORTED, 3 DEV_ERROR, 4 TIMEOUT for Dat and Cmp; HAVE for responses; LAST for WbD and Evc. `hasData`: a data flit follows (R171). `cls` is the class of its virtual channel: 0 B, 1 U, 2 G (R204). -/
structure CohMsg where
  opc : Opc
  dst : Nat
  src : Nat
  core : Nat
  tag : Nat
  addr : Nat
  qid : Nat
  spec : Bool
  secure : Bool
  except : Bool
  state : Nat
  poison : Poison
  status : Nat
  misc : Nat
  hasData : Bool
  data : Line
  cls : Nat
  /-- the G stream that carries it (R202, R210) -/
  stream : Option Nat
  issue : BitVec 32
deriving DecidableEq, Repr

/-- What the check code of a memory line gave on a read (R254, R256). -/
inductive Ecc where
  | ok
  | corrected
  | uncorrectable
  | macFail
deriving DecidableEq, Repr

/-- A descriptor in flight: its lane, its SQ and its SQ index (R279). -/
structure DescRef where
  lane : Nat
  sq : Nat
  idx : Nat
deriving DecidableEq, Repr

/-- The debug-module operations that R375 judges. -/
inductive DmiOp where
  | haltreq (h : Nat)
  | resumereq (h : Nat)
  /-- hart h put into halt group g, 0 none (dmcs2) -/
  | haltGroup (h g : Nat)
  | readCsr (h num : Nat)
  | writeCsr (h num : Nat) (v : Word)
  | readReg (h rd : Nat)
  | writeReg (h rd : Nat) (v : Word)
  | writeWorld (h : Nat) (secure : Bool)
  | sysbus (a : Nat)
deriving DecidableEq, Repr

/-- A System Link message (R300): header fields and body bytes. -/
structure SlMsg where
  kind : Nat
  hops : Nat
  secure : Bool
  poison : Bool
  srcPkg : Nat
  dstPkg : Nat
  tag : Nat
  stream : Nat
  status : Nat
  body : List Byte
deriving DecidableEq, Repr

/-- A link-layer flit (R299) as the receiver sees it: sequence number, ACK and NAK, alive byte, CHECK, whether FEC could correct it, and its messages. -/
structure SlFlit where
  seq : Nat
  ack : Nat
  nak : Bool
  alive : Nat
  check : Nat
  fecOk : Bool
  msgs : List SlMsg
deriving DecidableEq, Repr

/-- An MSI on its way to an interrupt file (R28, R362): hart, file (0 machine, 1 supervisor, 2-8 guest), identity and the world it is sent in. -/
structure MsiMsg where
  hart : Nat
  file : Nat
  id : Nat
  secure : Bool
deriving DecidableEq, Repr

/-- A view of an Error Collector (R345): the owner view, a Quire's view, or a lower collector's page named by its unit. -/
inductive EcView where
  | owner
  | quire (q : Nat)
  | low (u : UnitId)
deriving DecidableEq, Repr

/-- The causes of a warm reset (R417). -/
inductive ResetCause where
  | pin
  | refclk
  | flush
  | fatal
  | loadBinding
  | pk4Wake
  | thermal
deriving DecidableEq, Repr

/-- What the Governor reads from outside at the end of an epoch (R396-R398): average power in W, the hottest sensor in °C, and the ratio that makes it adjust B_SHARE, lending, prefetch and refresh. -/
structure Telemetry where
  powerW : Nat
  tempC : Nat
  bShare : Option Nat
  lend : List (Nat × Nat × BitVec 16)
  prefetch : List (Nat × Nat)
  refresh : Option Nat
deriving DecidableEq, Repr

/-- The inputs the Firefly sees at one evaluation (R392, R393): raw samples per channel, standby GPIO levels and SMBALERT. -/
structure FfInputs where
  ain : List (Nat × Nat)
  gpio : BitVec 16
  smbAlert : Bool
deriving DecidableEq, Repr

/-- The wake sources of a package state, in the row order of R389. -/
inductive PkSrc where
  | core
  | wakeTime
  | firefly
  | systemLink
  | pcie
  | tsn
  | smbus
deriving DecidableEq, Repr

/-- The commands. -/
inductive Instr where
  /-- REGISTER_WRITE (R10). A write to a control-space register or custom CSR that has no row of its own takes effect according to its access codes. -/
  | registerWrite (who : Agent) (tgt : RegTarget) (v : Word)
  /-- REFCLK_LOST (R36). No REFCLK edge for 40 ns makes the Basga hold every domain except standby in reset while the Firefly logs REFCLK_LOST. -/
  | refclkLost
  /-- REFCLK_RESTORED (R36). REFCLK present without interruption for 1 ms after a loss starts a warm reset with package time restarted. -/
  | refclkRestored
  /-- NOC_PLL_LOCK_LOST (R36). A die other than the IOD that loses NoC PLL lock is fenced as a region, and loss on the IOD is handled as REFCLK loss. -/
  | nocPllLockLost (die : Nat)
  /-- FRAME_BOUNDARY (R37). At each frame boundary every die advances package time by the boundary increment and pending slot-table, B_SHARE, step and slew changes take effect. -/
  | frameBoundary
  /-- SLEW_ADJUSTED_FRAME (R41). When the slew interval count reaches INTERVAL, the frame's boundary increment becomes 2 or 0. -/
  | slewAdjustedFrame
  /-- PT_STEP (R40). The time owner writes PT_STEP to schedule a forward step of package time at the next frame boundary. -/
  | ptStep (who : Agent) (v : Word)
  /-- PT_SLEW (R41). The time owner writes PT_SLEW to enable, disable or change the package-time trim. -/
  | ptSlew (who : Agent) (v : Word)
  /-- PT_STAT_READ (R40). A read of PT_STAT returns its fields and clears SKEW_COUNT. -/
  | ptStatRead (h rd : Nat)
  /-- TIME_BROADCAST (R39). Every 1,024 frames the IOD broadcasts package time and frame count, and each die corrects a lagging copy or holds a leading one. -/
  | timeBroadcast
  /-- CROSSING_MARK (R35). In each frame whose count is a multiple of 1,024, every crossing sets MARK on lane 0 in slot 0 and then sends its marker report. -/
  | crossingMark
  /-- MARK_ARRIVAL (R35). The far side of a crossing checks the slot in which a mark arrives against its calibrated slot. -/
  | markArrival (x : Nat) (inward : Bool) (slot : Nat)
  /-- MARKER_REPORT (R230). A received marker report's MAP_CRC is compared with the receiver's repair map. -/
  | markerReport (x : Nat) (inward : Bool) (mapCrc : BitVec 32)
  /-- STBY_PWRGOOD_RISE (R415). The rise of STBY_PWRGOOD boots the Firefly from ROM and it loads signed firmware within 20 ms. -/
  | stbyPwrgoodRise
  /-- STBY_PWRGOOD_FALL (R413). A fall of STBY_PWRGOOD removes everything, so the next start is a cold start. -/
  | stbyPwrgoodFall
  /-- PWRGOOD_FALL (R413). A fall of PWRGOOD holds every domain except STBY in reset at once, without draining. -/
  | pwrgoodFall
  /-- RESET_N_RISE (R415). The rise of RESET_N starts cold start-up: straps are sampled, the NoC PLLs start and ALIVE starts toggling. -/
  | resetNRise (straps : BitVec 16)
  /-- PLL_LOCKED (R38). Once the NoC PLLs lock, package time starts at 0 at the first frame boundary. -/
  | pllLocked
  /-- CLASP_BOOT (R415). The Clasp verifies its firmware, loads repair maps, retired-page lists and Governor firmware, and starts answering SMBus. -/
  | claspBoot
  /-- BINDING_SELECT (R71). The Clasp checks the commit records, chooses a candidate slot and verifies its Binding, falling back to the other candidate. -/
  | bindingSelect
  /-- CROSSING_TRAINING (R228). A vertical port, UCIe module or partner-die port trains, repairs, calibrates and marks, ending UP or FAILED. -/
  | crossingTraining (x : Nat) (r : TrainResult)
  /-- MEMORY_TRAINING (R248). HBM and the largest qualifying DDR5 channel set are trained, PERST_N is released and links train. -/
  | memoryTraining (r : MemTrainResult)
  /-- BINDING_APPLY (R73). The Basga applies a verified full Binding in its twelve steps, ending with the release of each boot hart. -/
  | bindingApply (failed : Option UnitId)
  /-- APPLY_DELTA (R77). A Quire submits a delta, which the Clasp verifies against the effective Binding and then starts the quiesce phase. -/
  | applyDelta (h : Nat) (v : Word)
  /-- HANDOVER_ACK (R79). An old owner acknowledges a pending hand-over, and when all have acknowledged the move phase starts. -/
  | handoverAck (h : Nat) (v : Word)
  /-- HANDOVER_REFUSE (R78). An old owner refuses, so the delta aborts unless FORCE applies to non-Secure resources. -/
  | handoverRefuse (h : Nat) (v : Word)
  /-- HANDOVER_TIMEOUT (R78). An old owner's HANDOVER_TIMEOUT_US passes, aborting the delta or fencing under FORCE. -/
  | handoverTimeout (q : Nat)
  /-- MOVE_PHASE_END (R77). When every reset and zeroing of the move phase has ended, the remaining records take effect and the request reports DONE. -/
  | movePhaseEnd (failed : List UnitId)
  /-- STORE (R72). A Quire submits a full Binding to be verified and written to the other boot-flash slot. -/
  | store (h : Nat) (v : Word)
  /-- FLASH_PROGRAM_DONE (R72). The flash image write finishes, is read back and compared, and the commit record is written. -/
  | flashProgramDone (imageOk recordOk : Bool)
  /-- HART_START (R73). A Quire starts a hart, or a checked pair, held in reset at its RESET_VECTOR. -/
  | hartStart (h : Nat) (v : Word)
  /-- COLOPHON_REQUEST (R372). A Quire submits COL_CTL GO to receive a Colophon signed with its nonce at COL_DEST. -/
  | colophonRequest (h : Nat) (v : Word)
  /-- COLOPHON_RESIGN (R372). Within 1 ms of a qualifying event the Clasp re-signs the current Colophon and advances EPOCH. -/
  | colophonResign
  /-- STATUS (R373). The SMBus STATUS command returns the Colophon header flags and request state. -/
  | status
  /-- COLOPHON (R373). The SMBus COLOPHON command returns a Colophon signed over the given nonce. -/
  | colophon (nonce : BitVec 256)
  /-- OWNER_ENROL (R373). While every owner slot is empty, the given keys' hashes go into slot 0 as ACTIVE. -/
  | ownerEnrol (mldsaPk ecdsaPk : List Byte)
  /-- OWNER_UPDATE (R373). An owner-signed update writes an owner slot and advances the update counter. -/
  | ownerUpdate (slot state : Nat) (hashes : List Byte) (counter : Nat) (sig : SigBlock)
  /-- LOAD_BINDING (R373). While no valid Binding exists, a full Binding is stored under R72 and a warm reset follows. -/
  | loadBinding (img : List Byte)
  /-- DEBUG_CHALLENGE (R373). The Clasp returns 32 random bytes valid for 60 s and one use. -/
  | debugChallenge
  /-- DEBUG_CHALLENGE_EXPIRY (R373). A debug challenge that has not been used within 60 s becomes invalid. -/
  | debugChallengeExpiry
  /-- DEBUG_OPEN (R374). An owner-signed DEBUG_OPEN opens the enables BITS AND CEILING and replaces any earlier session. -/
  | debugOpen (bits durationS : Nat) (sig : SigBlock)
  /-- DEBUG_CLOSE (R374). DEBUG_CLOSE ends the debug session, logs DEBUG_CLOSED and re-signs the Colophon. -/
  | debugClose
  /-- DEBUG_SESSION_EXPIRY (R374). A debug session ends when DURATION_S has passed. -/
  | debugSessionExpiry
  /-- REPAIR_CLEAR (R233). While S_INV is open, the repair-map entries of the named crossing are removed. -/
  | repairClear (x : Nat)
  /-- INSTRUCTION_RETIRE (R98). An ordinary instruction retires and commits its architectural effects. -/
  | instructionRetire (h : Nat) (i : Retire) (u : Upset)
  /-- BRANCH_RESOLVE (R93). A branch resolves, redirecting fetch on a misprediction and clearing ACTIVE when it leaves an active loop body. -/
  | branchResolve (h : Nat) (b : Branch)
  /-- LZ_LOOP (R90). lz.loop sets up a loop level with its count from rs1, or skips the body for count zero. -/
  | lzLoop (h level rs1 endOff : Nat)
  /-- LZ_LOOPI (R90). lz.loopi sets up a loop level with its 9-bit immediate count, or skips the body for count zero. -/
  | lzLoopi (h level count endOff : Nat)
  /-- LZ_SPECFENCE (R103). lz.specfence holds younger instructions until older ones resolve and invalidates unconfirmed lines and entries. -/
  | lzSpecfence (h : Nat)
  /-- LZ_LOCK (R151). lz.lock preloads a line into the L2 and locks its way, returning a status. -/
  | lzLock (h rd rs1 : Nat)
  /-- LZ_UNLOCK (R111). lz.unlock unlocks the way of a line and returns a status. -/
  | lzUnlock (h rd rs1 : Nat)
  /-- LZ_MBSEND (R106). lz.mbsend reads a 64-byte buffer and places a mailbox message in the outbox, or returns BUSY, NOT_SOURCE or NOT_PERMITTED. -/
  | lzMbsend (h rd rs1 : Nat)
  /-- LZ_MBRECV (R109). lz.mbrecv stores the oldest inbox entry and removes it, or returns 0 when the inbox is empty. -/
  | lzMbrecv (h rd rs1 : Nat)
  /-- LOAD (R98). A load is translated, checked against windows and world, and served from the caches or by a read request. -/
  | load (h : Nat) (o : LoadOp) (u : Upset)
  /-- RETIRING_STORE (R187). A retiring store is performed in an L1D line held in M, or requests ownership or issues WrNC. -/
  | retiringStore (h : Nat) (va : Met Word) (size : Nat) (data : Word)
  /-- AMO (R185). An AMO is performed near, far with AmoF, or at memory or device with AmoM. -/
  | amo (h : Nat) (o : Met AmoOp)
  /-- LR (R178). An LR obtains its line and defers snoops until the SC or 64 NoC cycles. -/
  | lr (h rd : Nat) (va : Met Word) (size : Nat)
  /-- SC (R178). An SC completes the reservation and releases deferred snoops. -/
  | sc (h rd : Nat) (va : Met Word) (size : Nat) (data : Word)
  /-- LR_SNOOP_DEFER_EXPIRY (R178). 64 NoC cycles after an LR without its SC, the deferred snoops proceed. -/
  | lrSnoopDeferExpiry (h : Nat)
  /-- FENCE (R187). A FENCE completes when every older load has data and every older store is performed. -/
  | fence (h : Nat)
  /-- FENCE_I (R161). FENCE.I invalidates the L1I in 20 core cycles. -/
  | fenceI (h : Nat)
  /-- SFENCE_VMA (R131). SFENCE.VMA invalidates the selected L1, locked and L2 TLB entries. -/
  | sfenceVma (h : Nat) (va : Option Word) (asid : Option Nat)
  /-- HFENCE_VVMA (R131). HFENCE.VVMA invalidates the selected V = 1 entries. -/
  | hfenceVvma (h : Nat) (va : Option Word) (asid : Option Nat)
  /-- HFENCE_GVMA (R131). HFENCE.GVMA invalidates the selected guest-physical entries. -/
  | hfenceGvma (h : Nat) (gpa : Option Word) (vmid : Option Nat)
  /-- CBO_CLEAN (R160). cbo.clean writes a dirty copy back to memory, keeping copies valid. -/
  | cboClean (h : Nat) (va : Word)
  /-- CBO_FLUSH (R160). cbo.flush writes back and invalidates every copy of the block, L3 included. -/
  | cboFlush (h : Nat) (va : Word)
  /-- CBO_INVAL (R160). cbo.inval invalidates every copy without write-back under CBIE 0b11. -/
  | cboInval (h : Nat) (va : Word)
  /-- CBO_ZERO (R160). cbo.zero allocates the line in M and fills it with zeros. -/
  | cboZero (h : Nat) (va : Word)
  /-- ZICBOP_PREFETCH (R160). prefetch.i, prefetch.r or prefetch.w allocates as R98 allows or does nothing. -/
  | zicbopPrefetch (h : Nat) (kind : PrefetchKind) (va : Word)
  /-- HARDWARE_PREFETCH (R101). A hardware prefetcher issues a prefetch within the triggering access's page when it lies in an R window. -/
  | hardwarePrefetch (h : Nat) (trigger va : Word)
  /-- WFI (R384). WFI puts the core into the C-state that CIDLE.DEPTH names. -/
  | wfi (h : Nat)
  /-- C_STATE_ENTRY_COMPLETE (R385). A C-state entry completes, and any wake that arrived during it starts the exit. -/
  | cStateEntryComplete (h : Nat)
  /-- CORE_WAKE (R385). A wake condition, mailbox arrival or deadline miss brings a core out of its C-state. -/
  | coreWake (h : Nat) (src : WakeSrc)
  /-- TRAP_ENTRY (R89). A trap is taken, flushing predictors and unconfirmed state when mode or V changes. -/
  | trapEntry (h cause : Nat) (tval : Word)
  /-- XRET (R89). An xRET returns from a trap, flushing predictors when mode or V changes. -/
  | xret (h : Nat) (kind : XretKind)
  /-- INTERRUPT_TAKEN (R114). A pending interrupt is taken at an instruction boundary, in a checked pair after the same count on both cores. -/
  | interruptTaken (h cause : Nat)
  /-- SATP_WRITE (R89). A write to satp, vsatp or hgatp flushes predictors and unconfirmed state, and may clear the VS lzwalk. -/
  | satpWrite (h : Nat) (csr : SatpCsr) (v : Word)
  /-- LZWORLD_WRITE (R110). A serialising lzworld write changes the hart's world in a DUAL_WORLD Quire. -/
  | lzworldWrite (h : Nat) (v : Word)
  /-- LZDLARM_WRITE (R96). A write to lzdlarmN arms or re-arms deadline channel N. -/
  | lzdlarmWrite (h n : Nat) (v : Word)
  /-- LZDLCTL_WRITE (R96). DONE bits written to lzdlctl disarm channels and clear MISSED. -/
  | lzdlctlWrite (h : Nat) (v : Word)
  /-- DEADLINE_MISS (R329). Package time reaches an armed channel's time, setting MISSED and raising exception 24 when enabled. -/
  | deadlineMiss (h n : Nat)
  /-- TLB_LOCK (R132). lztlblock LOCK walks a page and places it in a locked slot or reports why not. -/
  | tlbLock (h : Nat) (v : Word)
  /-- TLB_UNLOCK (R133). lztlblock UNLOCK invalidates a locked slot. -/
  | tlbUnlock (h : Nat) (v : Word)
  /-- TLB_QUERY (R133). lztlblock QUERY reports whether a slot holds a valid entry. -/
  | tlbQuery (h : Nat) (v : Word)
  /-- PAGE_WALK (R126). A TLB miss walks the page tables through the L2 and fills the TLBs or raises a fault. -/
  | pageWalk (h : Nat)
  /-- MAILBOX_MESSAGE (R107). A mailbox message arrives at its destination core's inbox or is answered by the destination cluster. -/
  | mailboxMessage (m : MailMsg) (u : Upset)
  /-- MAILBOX_ANSWER (R108). An ACCEPT, REFUSE or FINAL answer reaches the sending outbox, which frees, resends or discards the message. -/
  | mailboxAnswer (m : Met MailAns)
  /-- MAILBOX_RESEND (R108). At the first frame boundary after a REFUSE, the outbox sends the message again. -/
  | mailboxResend (h dest : Nat)
  /-- MAILBOX_U_TIMEOUT (R108). Once TO_U_US passes since the first send, the outbox stops resending and discards the message. -/
  | mailboxUTimeout (h dest : Nat)
  /-- G_MESSAGE_SEND (R215). A G message leaves the outbox in its stream's next source slot. -/
  | gMessageSend (stream : Nat)
  /-- PAIR_REQUEST (R113). A copy of a request from one core of a checked pair enters the comparator and is matched against its partner's copy. -/
  | pairRequest (h : Nat) (odd : Bool) (r : PairCopy)
  /-- PAIR_RELEASE (R113). Three core cycles after the second copy, the comparator releases the request once and updates both L1Ds. -/
  | pairRelease (h : Nat)
  /-- PAIR_TIMEOUT (R115). A copy that waits 2,048 NoC cycles without its partner fences the pair. -/
  | pairTimeout (h : Nat)
  /-- L2_WAYCFG_WRITE (R150). A permitted L2_WAYCFG write writes back, invalidates and unlocks changed groups, then retags them. -/
  | l2WaycfgWrite (h core : Nat) (v : Word)
  /-- FLUSH_L1D (R153). CACHE_CTL FLUSH_L1D writes back and invalidates the L1D and victim cache. -/
  | flushL1d (h core : Nat)
  /-- FLUSH_L2 (R153). CACHE_CTL FLUSH_L2 also writes back and invalidates every unlocked L2 line. -/
  | flushL2 (h core : Nat)
  /-- FLUSH_ALL (R153). CACHE_CTL FLUSH_ALL also flushes locked L2 lines, keeping their ways reserved. -/
  | flushAll (h core : Nat)
  /-- UNLOCK_ALL (R153). CACHE_CTL UNLOCK_ALL unlocks every L2 way without write-back. -/
  | unlockAll (h core : Nat)
  /-- CACHE_CTL_DONE (R153). A whole-cache operation finishes and BUSY clears. -/
  | cacheCtlDone (core : Nat)
  /-- L3Q_LOCK_WRITE (R158). A Quire locks or unlocks its lockable L3 ways in a slice. -/
  | l3qLockWrite (h slice q : Nat) (v : Word)
  /-- L3Q_FILL_WRITE (R154). A Quire steers its slice allocations into FILL_WAYS. -/
  | l3qFillWrite (h slice q : Nat) (v : Word)
  /-- L3Q_FLUSH (R158). L3Q_CTL FLUSH writes back and invalidates every line in the Quire's ways of the slice. -/
  | l3qFlush (h slice q : Nat)
  /-- L3Q_FLUSH_DONE (R158). An L3 Quire flush finishes and BUSY clears. -/
  | l3qFlushDone (slice q : Nat)
  /-- L3Q_RESEED (R149). L3Q_CTL RESEED reloads the Quire's LFSR in the slice. -/
  | l3qReseed (h slice q : Nat)
  /-- L3_SLICE_FENCE (R164). A failed L3 slice is fenced: requests wait, dirty lines are poisoned, and homing moves to the next slice. -/
  | l3SliceFence (slice : Nat) (tagsReadable : Bool)
  /-- DIR_REBUILD (R194). Once holders have written back the fenced slice's lines to the new home, waiting requests proceed there. -/
  | dirRebuild (slice : Nat)
  /-- RDS (R180). A RdS reaches its home and is ordered behind earlier requests for the line. -/
  | rds (m : Met CohMsg)
  /-- RDU (R180). A RdU reaches its home and is ordered behind earlier requests for the line. -/
  | rdu (m : Met CohMsg)
  /-- UPG (R180). An Upg reaches its home and is ordered behind earlier requests for the line. -/
  | upg (m : Met CohMsg)
  /-- RDNC (R189). A RdNC reaches its home or port and is ordered at the line's ordering point. -/
  | rdnc (m : Met CohMsg)
  /-- WRNC (R189). A WrNC reaches its home or port and is ordered at the line's ordering point. -/
  | wrnc (m : Met CohMsg)
  /-- WBD (R182). A WbD is handled in its arrival cycle, matching an RspX, serving as a snoop response, or updating the entry, and answered with Cmp. -/
  | wbd (m : Met CohMsg)
  /-- EVC (R182). An Evc is handled in its arrival cycle like a WbD without data and answered with Cmp. -/
  | evc (m : Met CohMsg)
  /-- AMOF (R186). An AmoF reaches its home, which invalidates holders and performs the atomic in its ALU. -/
  | amof (m : Met CohMsg)
  /-- AMOM (R186). An AmoM reaches its home or port and is performed by the memory controller or device. -/
  | amom (m : Met CohMsg)
  /-- TRANSACTION_START (R431). A home starts a transaction for a waiting request, sending its snoops or grant. -/
  | transactionStart (slice line : Nat) (u : Upset)
  /-- SNPS (R175). A SnpS reaches a holder, which answers after any hold window. -/
  | snps (m : CohMsg) (u : Upset)
  /-- SNPI (R175). A SnpI reaches a holder, which invalidates and answers after any hold window. -/
  | snpi (m : CohMsg) (u : Upset)
  /-- SNPBI (R175). A SnpBI reaches a holder, which invalidates and answers. -/
  | snpbi (m : CohMsg) (u : Upset)
  /-- RSPI (R180). An RspI reaches the home and the transaction may grant. -/
  | rspi (m : Met CohMsg)
  /-- RSPS (R180). An RspS reaches the home and the line becomes shared. -/
  | rsps (m : Met CohMsg)
  /-- RSPD (R180). An RspD reaches the home, which writes the data and grants from it. -/
  | rspd (m : Met CohMsg)
  /-- RSPX (R182). An RspX reaches the home, which records its tag and treats it as RspI. -/
  | rspx (m : Met CohMsg)
  /-- DAT (R175). A Dat reaches the requester, which fills, sends CmpAck and starts any hold window. -/
  | dat (m : CohMsg) (u : Upset)
  /-- CMP (R175). A Cmp reaches the requester, completing an Upg, write-back, eviction, write or NOSPEC answer. -/
  | cmp (m : Met CohMsg)
  /-- CMPACK (R431). A CmpAck reaches the home and closes the transaction. -/
  | cmpack (m : Met CohMsg)
  /-- HOLD_WINDOW_END (R177). A hold window ends and waiting snoops for the line are answered. -/
  | holdWindowEnd (h line : Nat)
  /-- SNOOP_TIMEOUT (R196). A holder that has not answered within 8,192 NoC cycles is fenced and treated as RspI. -/
  | snoopTimeout (slice line node core : Nat)
  /-- COMPLETION_TIMEOUT (R333). A request's completion timer expires and the requester acts by kind. -/
  | completionTimeout (who : Agent) (tag : Nat)
  /-- ACK_TIMEOUT (R335). A home that receives no CmpAck in time closes the transaction and logs it. -/
  | ackTimeout (slice line : Nat)
  /-- REPLAN (R238). The fabric manager computes new slot tables after a crossing degrades, demoting streams it cannot place. -/
  | replan (changed : List Nat)
  /-- SOURCE_HOLD (R219). Three frames before the switch, the sources of changing streams are held. -/
  | sourceHold
  /-- SLOT_TABLE_SWITCH (R219). At the chosen frame boundary every element switches to the new slot tables and PLAN_GEN increments. -/
  | slotTableSwitch
  /-- STAT_CLEAR (R221). STAT_CTL CLEAR sets every counter of a statistics page to 0. -/
  | statClear (who : Agent) (i : Nat)
  /-- LANE_FAILING (R235). A lane or bond reaching 256 corrected errors in a window, or an uncorrectable error, is marked bad and a spare or narrowing is planned. -/
  | laneFailing (x : Nat) (inward : Bool) (lane : Nat)
  /-- ERROR_COUNT_WINDOW (R235). Every 100,000 frames the per-lane corrected error counts start a new window. -/
  | errorCountWindow
  /-- CROSSING_REMAP (R237). At the chosen boundary the crossing switches to its new bond mapping and width. -/
  | crossingRemap (x : Nat)
  /-- REPAIR_MAP_SAVE (R233). Within 10 ms of a change the Clasp copies the repair map to boot flash. -/
  | repairMapSave
  /-- PARTNER_CERTIFICATE (R241). A partner die's certificate arrives and is checked against format, signatures and allowlist before training. -/
  | partnerCertificate (site : Nat) (cert : List Byte)
  /-- PARTNER_CERT_TIMEOUT (R241). A partner die that sends no certificate within 10 ms is rejected. -/
  | partnerCertTimeout (site : Nat)
  /-- PARTNER_TRAINED (R241). After training, DIE_INFO is checked and the site is recorded in the Colophon and set UP. -/
  | partnerTrained (site : Nat) (dieInfo : Word)
  /-- PARTNER_LOST (R243). A partner die that stops answering is put in reset, its transactions end with DEV_ERROR and the partner action is taken. -/
  | partnerLost (site : Nat)
  /-- PARTNER_RETRY (R243). 1 ms after a loss, link-up is attempted again, up to three times. -/
  | partnerRetry (site : Nat)
  /-- EXTEST (R245). The EXTEST instruction is selected on the IOD while RESET_N is low. -/
  | extest (die : Nat)
  /-- IDCODE (R245). The IDCODE instruction selects the die's identification code. -/
  | idcode (die : Nat)
  /-- SAMPLE_PRELOAD (R245). The SAMPLE/PRELOAD instruction is selected on the IOD. -/
  | samplePreload (die : Nat)
  /-- CLAMP (R245). The CLAMP instruction is selected on the IOD while RESET_N is low. -/
  | clamp (die : Nat)
  /-- HIGHZ (R245). The HIGHZ instruction is selected on the IOD while RESET_N is low. -/
  | highz (die : Nat)
  /-- CHAIN_STATUS (R244). The CHAIN_STATUS instruction reports which dies are in the chain. -/
  | chainStatus (die : Nat)
  /-- DTMCS (R245). The DTMCS instruction selects the RISC-V debug transport control register. -/
  | dtmcs (die : Nat)
  /-- DMI (R245). The DMI instruction accesses the debug module under the debug policy. -/
  | dmi (die : Nat) (op : DmiOp)
  /-- WRAP_EXTEST (R245). WRAP_EXTEST is selected in an authenticated session with every crossing of the die DOWN. -/
  | wrapExtest (die : Nat)
  /-- WRAP_INTEST (R245). WRAP_INTEST is selected under the conditions of WRAP_EXTEST. -/
  | wrapIntest (die : Nat)
  /-- IJTAG_ACCESS (R245). IJTAG_ACCESS opens the instrument network in an authenticated session. -/
  | ijtagAccess (die : Nat)
  /-- BYPASS (R245). BYPASS, or an unlisted code, selects the bypass register. -/
  | bypass (die code : Nat)
  /-- MEMORY_READ (R257). A memory controller serves a read, correcting, decrypting and checking the MAC. -/
  | memoryRead (line : Nat) (e : Ecc)
  /-- MEMORY_WRITE (R260). A memory controller performs a write or AmoM, with read-modify-write for partial or encrypted lines. -/
  | memoryWrite (line : Nat)
  /-- RETIRED_LIST_SAVE (R261). Within 10 ms of a change the Clasp copies the retired-page lists to boot flash. -/
  | retiredListSave
  /-- SCRUB (R254). Each controller scrubs every trained line once in 24 hours and rewrites corrected lines. -/
  | scrub (line : Nat) (e : Ecc)
  /-- REFRESH (R258). A controller refreshes a bank, never one for which a Class G request waits. -/
  | refresh (ctl bank : Nat)
  /-- MEMORY_UNIT_FAIL (R262). A failed HBM pseudo-channel or DDR channel is fenced and its pages treated as retired. -/
  | memoryUnitFail (u : UnitId)
  /-- PWRFAIL_N_FALL (R416). A fall of PWRFAIL_N before step 7 holds domains in reset, and later starts the 100 ns flush trigger. -/
  | pwrfailNFall
  /-- PERSISTENT_FLUSH (R266). PWRFAIL_N low for 100 ns, or a Firefly rule, stops harts and starts draining writes to persistence. -/
  | persistentFlush (byRule : Bool)
  /-- FLUSH_DRAINED (R266). Once queues have drained and GPF has run, each fully drained window has its CLEAN record written. -/
  | flushDrained (failed : List (Nat × Nat))
  /-- PFLUSH_DONE (R266). The flush records drain, DDR enters self-refresh, domains are held in reset and PFLUSH_DONE is logged. -/
  | pflushDone
  /-- PWRFAIL_RECOVERY (R266). PWRFAIL_N high for 1 ms after a flush starts a warm reset. -/
  | pwrfailRecovery
  /-- DOORBELL_WRITE (R274). A doorbell write delivers a new producer or consumer index to a queue. -/
  | doorbellWrite (who : Agent) (q off size : Nat) (v : Word)
  /-- DOORBELL_READ (R273). An aligned 64-bit doorbell read returns CONS_IDX and PROD_IDX. -/
  | doorbellRead (h q off size rd : Nat)
  /-- DESCRIPTOR_FETCH (R279). A lane takes the next descriptor of its SQs in turn and reads it, loading the context if needed. -/
  | descriptorFetch (lane : Nat)
  /-- DESCRIPTOR_START (R278). A fetched descriptor is checked and started, or completes with EXPIRED, BAD_DESC, ADDR_FAULT or POISON. -/
  | descriptorStart (d : DescRef)
  /-- NOP (R276). NOP touches no memory and completes with LENGTH 0. -/
  | nop (d : DescRef)
  /-- COPY (R276). COPY copies LENGTH bytes from SRC to DST, or fails on overlap. -/
  | copy (d : DescRef)
  /-- FILL (R276). FILL writes LENGTH bytes at DST from the ARGS pattern. -/
  | fill (d : DescRef)
  /-- CHECK_APPEND (R324). CHECK_APPEND writes the alive byte and the check after the payload. -/
  | checkAppend (d : DescRef)
  /-- CHECK_VERIFY (R325). CHECK_VERIFY checks payload and alive byte, copies the payload and reports the verdict. -/
  | checkVerify (d : DescRef)
  /-- CHECK_READOUT (R324). CHECK_READOUT computes the check over all bytes and writes nothing. -/
  | checkReadout (d : DescRef)
  /-- TSN_TX (R295). TSN_TX sends LENGTH bytes as one frame at its launch time or gate opening. -/
  | tsnTx (d : DescRef)
  /-- TSN_RX (R295). TSN_RX receives one frame of a stream filter into DST with its timestamp. -/
  | tsnRx (d : DescRef)
  /-- SL_WRITE (R306). SL_WRITE sends WRITE messages to a remote exported window and completes on every WRITE_ACK. -/
  | slWrite (d : DescRef)
  /-- SL_READ (R306). SL_READ sends READ_REQ messages and writes the returned data to DST. -/
  | slRead (d : DescRef)
  /-- SL_SEND (R306). SL_SEND sends a message to a remote SQ in segments and completes on SEND_ACK. -/
  | slSend (d : DescRef)
  /-- SL_RECV (R306). SL_RECV takes one arriving SEND into DST. -/
  | slRecv (d : DescRef)
  /-- HASH (R369). HASH writes the digest of SRC to DST. -/
  | hash (d : DescRef)
  /-- GCM_SEAL (R369). GCM_SEAL encrypts SRC under a key handle and returns the tag. -/
  | gcmSeal (d : DescRef)
  /-- GCM_OPEN (R369). GCM_OPEN decrypts and authenticates SRC, failing with CHECK_FAIL on a tag mismatch. -/
  | gcmOpen (d : DescRef)
  /-- CMAC (R369). CMAC computes an AES-256-CMAC of SRC into RESULT. -/
  | cmac (d : DescRef)
  /-- SIGN (R369). SIGN signs a 48-byte digest with ML-DSA-87 or ECDSA P-384. -/
  | sign (d : DescRef)
  /-- VERIFY (R369). VERIFY checks a signature and completes with OK or CHECK_FAIL. -/
  | verify (d : DescRef)
  /-- KEM_ENCAP (R369). KEM_ENCAP encapsulates to a public key and stores the shared secret in NEW. -/
  | kemEncap (d : DescRef)
  /-- KEM_DECAP (R369). KEM_DECAP decapsulates a ciphertext with a private key handle into NEW. -/
  | kemDecap (d : DescRef)
  /-- RANDOM (R369). RANDOM writes LENGTH bytes from the Clasp DRBG to DST. -/
  | random (d : DescRef)
  /-- KEY_GEN (R369). KEY_GEN generates a key into NEW and writes its public key to DST. -/
  | keyGen (d : DescRef)
  /-- KEY_DERIVE (R369). KEY_DERIVE derives an AES-256 key from the Quire root key into NEW. -/
  | keyDerive (d : DescRef)
  /-- KEY_ERASE (R369). KEY_ERASE empties a key handle. -/
  | keyErase (d : DescRef)
  /-- DESCRIPTOR_COMPLETE (R279). When its last write is answered and those ahead have completed, a descriptor's completion is written and any MSI sent. -/
  | descriptorComplete (d : DescRef)
  /-- LANE_FAIL (R284). A failed lane is fenced and its in-flight requests are left to finish or time out. -/
  | laneFail (lane : Nat)
  /-- LANE_DRAINED (R284). Once the failed lane's requests have ended, its descriptors complete with LANE_LOST or SQUASHED or are reissued on another lane. -/
  | laneDrained (lane : Nat)
  /-- ENABLE (R286). VI_QCMD ENABLE enables a queue in the VI from the staged fields. -/
  | enable (h vi : Nat) (v : Word)
  /-- DISABLE (R286). VI_QCMD DISABLE stops a queue, waiting for fetched descriptors of an SQ. -/
  | disable (h vi : Nat) (v : Word)
  /-- QUEUE_DISABLE_DONE (R286). The fetched descriptors of a disabling SQ complete and it becomes DISABLED. -/
  | queueDisableDone (q : Nat)
  /-- READ (R286). VI_QCMD READ copies a queue's context into the staging registers. -/
  | read (h vi : Nat) (v : Word)
  /-- DRAIN (R287). VI_RESET DRAIN stops fetching and lets fetched descriptors complete. -/
  | drain (h vi : Nat) (v : Word)
  /-- SQUASH (R287). VI_RESET SQUASH stops fetching and completes fetched descriptors with SQUASHED. -/
  | squash (h vi : Nat) (v : Word)
  /-- VI_DRAIN_EXPIRED (R287). A drain that reaches TIMEOUT_US squashes the rest and is logged. -/
  | viDrainExpired (vi : Nat)
  /-- VI_RESET_DONE (R287). Once every VI request has ended, its queues become DISABLED and its staging registers reset. -/
  | viResetDone (vi : Nat)
  /-- CONFIG_READ (R292). A PCFG_DATA read reads a permitted function's configuration register. -/
  | configRead (h q rd : Nat)
  /-- CONFIG_WRITE (R292). A PCFG_DATA write writes a permitted function's configuration register or slot control. -/
  | configWrite (h q : Nat) (v : Word)
  /-- HOT_PLUG_ARRIVAL (R293). A function that appears after hot-plug takes its QID from a matching record or QID 0. -/
  | hotPlugArrival (group bdf : Nat)
  /-- PCIE_LINK_DOWN (R294). An unrequested root-port link-down is contained by DPC and outstanding requests end with DEV_ERROR. -/
  | pcieLinkDown (group port : Nat)
  /-- DMA_REQUEST (R291). A device function's DMA is checked against its Quire's windows and world. -/
  | dmaRequest (group bdf : Nat) (write : Bool) (addr : Nat) (len : Nat) (data : List Byte)
  /-- DEVICE_MSI (R291). A device MSI or MSI-X write is delivered only to an identity its Quire may signal. -/
  | deviceMsi (group bdf : Nat) (m : MsiMsg)
  /-- PCIE_AER (R297). A received AER message is logged with its status. -/
  | pcieAer (group port : Nat) (uncor cor : BitVec 32)
  /-- TSN_FRAME_RECEIVED (R295). A received frame is timestamped and passed to its stream filter. -/
  | tsnFrameReceived (port filter : Nat) (frame : List Byte)
  /-- GCL_INTERVAL_END (R295). A gate control list entry's interval ends and the next gate states apply. -/
  | gclIntervalEnd (port : Nat)
  /-- TSN_STREAM_LOST (R296). A stream filter without frames for LOSS_US marks its stream lost and takes the partner action. -/
  | tsnStreamLost (port filter : Nat)
  /-- TSN_LINK_DOWN (R296). A TSN link-down is logged and pending TSN_RX descriptors end with DEV_ERROR. -/
  | tsnLinkDown (port : Nat)
  /-- LINK_FLIT (R301). A System Link flit is received, checked and acknowledged or NAKed. -/
  | linkFlit (p : Nat) (f : SlFlit)
  /-- REPLAY (R301). A NAK makes the sender resend every flit from the next SEQ, retraining after 8 resends. -/
  | replay (p : Nat)
  /-- SL_LINK_DOWN (R315). A System Link goes down or retrains and is logged. -/
  | slLinkDown (p : Nat) (retrain : Bool)
  /-- G_MSG (R308). A received G_MSG is delivered on the local stream with the same number. -/
  | gMsg (p : Nat) (m : SlMsg)
  /-- WRITE (R305). A received WRITE is accepted into an exported window or refused, or forwarded. -/
  | write (p : Nat) (m : SlMsg)
  /-- WRITE_ACK (R305). A WRITE_ACK completes a remote write. -/
  | writeAck (p : Nat) (m : SlMsg)
  /-- READ_REQ (R305). A received READ_REQ is served from an exported window or refused. -/
  | readReq (p : Nat) (m : SlMsg)
  /-- READ_DATA (R306). READ_DATA returns remote data to an SL_READ. -/
  | readData (p : Nat) (m : SlMsg)
  /-- SEND (R307). A received SEND segment goes to a started SL_RECV or is refused. -/
  | send (p : Nat) (m : SlMsg)
  /-- SEND_ACK (R306). A SEND_ACK completes an SL_SEND. -/
  | sendAck (p : Nat) (m : SlMsg)
  /-- HEARTBEAT (R313). A received HEARTBEAT refreshes the peer and updates the time offset and delay. -/
  | heartbeat (p : Nat) (m : SlMsg) (t4 : Nat)
  /-- HEARTBEAT_SEND (R311). Every 1 µs each UP port sends a HEARTBEAT. -/
  | heartbeatSend (p : Nat)
  /-- LINK_INIT (R302). A received LINK_INIT brings the peer UP, or ISOLATED, or keeps the port down on an ID conflict. -/
  | linkInit (p : Nat) (m : SlMsg)
  /-- RIP (R311). A received reset-in-progress ordered set moves the peer to RESETTING. -/
  | rip (p : Nat)
  /-- PEER_HEARTBEAT_TIMEOUT (R311). 3,500 ns without a valid HEARTBEAT make the peer LOST. -/
  | peerHeartbeatTimeout (p : Nat)
  /-- PEER_RESET_TIMEOUT (R311). 100 ms in RESETTING without LINK_INIT make the peer LOST. -/
  | peerResetTimeout (p : Nat)
  /-- READMIT (R311). SL_CTL READMIT makes an ISOLATED peer UP. -/
  | readmit (h p : Nat)
  /-- SL_STAT_READ (R311). A read of SL_STAT returns link and peer state and clears MISSED_HB and REPLAYS. -/
  | slStatRead (h p rd : Nat)
  /-- OCU_COMMIT (R323). OCU_COMMIT makes an open unit's shadow configuration active or rejects it. -/
  | ocuCommit (h u : Nat) (v : Word)
  /-- CHECK_UNIT_FAULT (R327). An internal Check unit fault fails its lane, downs its link or fences the open unit. -/
  | checkUnitFault (u : Nat)
  /-- RECORD_FORWARD (R340). An error record passes up to the next collector, where it is stored, coalesced or suppressed. -/
  | recordForward (u : UnitId)
  /-- FENCE_ESCALATED (R344). A fence not complete in 100 µs makes the next collector fence the container. -/
  | fenceEscalated (u : UnitId)
  /-- MSI_PACING (R331). When 10 µs after the last MSI to a target end with events held, one MSI is sent. -/
  | msiPacing (hart file id : Nat)
  /-- EC_SEL_NEXT (R345). EC_SEL NEXT moves INDEX to the next slot visible in the view, or sets EMPTY. -/
  | ecSelNext (h : Nat) (view : EcView)
  /-- CLEAR (R345). EC_CTL CLEAR removes the selected record if the view shows it. -/
  | clear (h : Nat) (view : EcView)
  /-- CLEAR_ALL (R345). EC_CTL CLEAR_ALL removes every record that the view shows. -/
  | clearAll (h : Nat) (view : EcView)
  /-- EC_IRQ_WRITE (R345). An EC_IRQ write sets the view's interrupt target if it meets the limits. -/
  | ecIrqWrite (h : Nat) (view : EcView) (v : Word)
  /-- EC_STAT_READ (R345). A read of EC_STAT returns its counts and clears LOST and DL_MISSES. -/
  | ecStatRead (h : Nat) (view : EcView) (rd : Nat)
  /-- EC_RESET (R355). EC_RESET GO fences the named unit if needed and starts its reset. -/
  | ecReset (h : Nat) (view : EcView) (v : Word)
  /-- EC_RESET_DONE (R355). A unit reset completes or fails and RESULT is set. -/
  | ecResetDone (u : UnitId) (ok : Bool)
  /-- CORE_FENCE (R346). A failed core or pair is fenced, its dirty lines written back or poisoned and its armed channels missed. -/
  | coreFence (h : Nat) (arraysReadable : Bool)
  /-- CD_REGION_FENCE (R349). A CD is fenced as a region, fencing each core and demoting its streams. -/
  | cdRegionFence (cd : Nat) (reachable : Bool)
  /-- BD_REGION_FENCE (R350). A BD is fenced as a region, fencing its CDs, serving its HBM as failed and rehoming its DDR and CXL lines. -/
  | bdRegionFence (bd : Nat) (tagsReadable : Bool)
  /-- WARM_RESET (R418). A warm reset stops harts, starts RIP on System Links and drains write-pending queues. -/
  | warmReset (cause : ResetCause)
  /-- WARM_RESET_DRAINED (R418). After the drain every domain except STBY is put in reset and start-up resumes at step 3. -/
  | warmResetDrained
  /-- IMSIC_WRITE (R28). A hart store to an interrupt file page signals the identity written if its Quire may signal it. -/
  | imsicWrite (h addr size : Nat) (v : Word)
  /-- MSI (R362). An MSI reaches an interrupt file and sets the identity pending subject to world rules. -/
  | msi (m : MsiMsg)
  /-- BLOCK_LOST (R366). A Secure-held block that loses clock or power without a request is fenced and its Quire notified. -/
  | blockLost (u : UnitId)
  /-- SECURE_WIPE (R366). When power returns, the block's arrays are zeroed and read back before it may leave reset. -/
  | secureWipe (u : UnitId) (zeros : Bool)
  /-- SWD_ENABLE (R376). SWD_CTL ENABLE starts the Secure watchdog. -/
  | swdEnable (h : Nat) (v : Word)
  /-- KICK (R376). SWD_CTL KICK sets STAGE to 0 and restarts the count. -/
  | kick (h : Nat)
  /-- SWD_FIRST (R376). The first watchdog expiry sets STAGE 1, logs and sends an MSI. -/
  | swdFirst
  /-- SWD_RESET (R376). The second watchdog expiry is uncorrected-fatal and leads to a warm reset. -/
  | swdReset
  /-- GOVERNOR_EPOCH (R397). At the end of each 100 µs epoch the Governor adjusts levels, share, lending, prefetch and refresh and logs its decisions. -/
  | governorEpoch (t : Telemetry)
  /-- FREQUENCY_SWITCH (R381). After the voltage ramp, a cluster switches to its new level with a stall of at most 1 µs. -/
  | frequencySwitch (cluster : Nat)
  /-- CURRENT_LIMITER_TRIP (R382). A package current-limiter trip drops every cluster above P4 to P4 within 1 µs. -/
  | currentLimiterTrip
  /-- PK1_ENTRY (R387). With every core in C3 and the fabric idle for 1 µs, the package enters PK1. -/
  | pk1Entry
  /-- PK_CTL_GO (R387). The error owner submits a request to enter PK2, PK3 or PK4. -/
  | pkCtlGo (h : Nat) (v : Word)
  /-- PK_ENTRY (R387). Once cores are in C3, the fabric idle and no Clasp request busy, entry into the requested state begins. -/
  | pkEntry
  /-- PK_ENTRY_COMPLETE (R386). Entry into a package state completes, and any held wake starts the exit. -/
  | pkEntryComplete
  /-- PK_WAKE (R389). A wake source of the current state starts the exit to PK0. -/
  | pkWake (src : PkSrc)
  /-- WAKE_TIME_REACHED (R389). Package time reaching PK_CTL.WAKE_TIME wakes the package. -/
  | wakeTimeReached
  /-- PK_EXIT_COMPLETE (R386). The exit from a package state completes and the package is back in PK0. -/
  | pkExitComplete
  /-- FF_RULE_EVALUATION (R393). Every 1 µs the Firefly evaluates its 64 rules and takes the actions of those that fire. -/
  | ffRuleEvaluation (i : FfInputs)
  /-- FF_DATA_WRITE (R395). An FF_DATA write updates the selected Firefly setting and commits a rule on its second word. -/
  | ffDataWrite (h : Nat) (v : Word)
  /-- FF_DATA_READ (R395). An FF_DATA read returns the selected word and advances INDEX under AUTO_INC. -/
  | ffDataRead (h rd : Nat)
  /-- FF_LOCKSTEP (R391). A Firefly lockstep mismatch is logged, asserts ALERT_N and restarts the Firefly. -/
  | ffLockstep
  /-- THERMAL_TRIP (R401). A sensor reaching 110 °C holds every domain except STBY in reset without a flush. -/
  | thermalTrip
  /-- THERMAL_RECOVERY (R401). Every sensor below 90 °C for 100 ms starts a warm reset. -/
  | thermalRecovery
  /-- RAIL_FAULT (R401). A regulator fault report fences every block that the rail feeds. -/
  | railFault (units : List UnitId)
  /-- UNGATE (R401). PWR_REQ UNGATE restores a gated unit's clock and power. -/
  | ungate (h : Nat) (v : Word)
  /-- GATE_CLOCK (R365). PWR_REQ GATE_CLOCK gates a unit's clock unless it is Secure-held against a Normal requester. -/
  | gateClock (h : Nat) (v : Word)
  /-- GATE_POWER (R365). PWR_REQ GATE_POWER gates a unit's power unless it is Secure-held against a Normal requester. -/
  | gatePower (h : Nat) (v : Word)
  /-- COUNTER_WRAP (R407). A performance counter wraps, setting its CNT_OVF bit and feeding a chained counter. -/
  | counterWrap (h n : Nat)
  /-- CNT_READ (R408). A read of a CNT register returns the counter and sets CNT_STAMP to the time served. -/
  | cntRead (h core n rd : Nat)
  /-- XL_STAT_READ (R231). A read of XL_STAT returns the crossing's state and clears CE_COUNT. -/
  | xlStatRead (h x rd : Nat)
  /-- SL_LINK_UP (R302). A System Link port's link finishes training and comes up, and the two ends exchange LINK_INIT. -/
  | slLinkUp (p : Nat) (rate : LinkRate)
  /-- LAUNCH_TIME_REACHED (R295). Package time reaches a started TSN_TX descriptor's LAUNCH_TIME and its frame is sent. -/
  | launchTimeReached (d : DescRef)
  /-- FIREFLY_RESTART_DONE (R391). The Firefly finishes its restart after a lockstep mismatch, keeping its rules and channel settings, and ALIVE starts toggling again. -/
  | fireflyRestartDone
deriving DecidableEq, Repr

end Sys2Proof
end

