-- ==== Sys2Proof/Config.lean ====
section
/-! DEFINITION. What the spec leaves to an implementation or leaves open: constants without a body, so that nothing can be proved about their values. -/

namespace Sys2Proof.Config

/-- The n-th free value: random draws (R255, R369, R372, R373), memory across a warm reset (log 20) and every other value the spec leaves open.
`State.free` counts the draws, so that each is fresh (log 12). -/
opaque freeValue : Nat → Nat

/-- What a byte of memory reads after the n-th loss of memory contents (R417; log 20). -/
opaque freeByte : Nat → Nat → Byte

/-- The unique device secret in fuses, 48 bytes that nothing outside the Clasp can read (R367; log 6). -/
opaque uds : List Byte

/-- ML-DSA-87 verification: public key, message, signature (R47, R369; log 6). -/
opaque mldsaVerify : List Byte → List Byte → List Byte → Bool

/-- ECDSA P-384 verification over a SHA-384 digest: public key, digest, signature (R47, R369; log 6). -/
opaque ecdsaVerify : List Byte → List Byte → List Byte → Bool

/-- ML-DSA-87 signature of a message with a private key; the last argument numbers the draw of its randomiser (R369, R372; log 6). -/
opaque mldsaSign : List Byte → List Byte → Nat → List Byte

/-- ECDSA P-384 signature of a digest with a private key; the last argument numbers the draw of its nonce (R369, R372; log 6). -/
opaque ecdsaSign : List Byte → List Byte → Nat → List Byte

/-- The public key of a private key, by algorithm code (R369; log 6). -/
opaque publicKey : Nat → List Byte → List Byte

/-- ML-KEM-1024 encapsulation to a public key with the n-th draw: ciphertext and shared secret (R369; log 6). -/
opaque kemEncap : List Byte → Nat → List Byte × List Byte

/-- ML-KEM-1024 decapsulation of a ciphertext with a private key (R369; log 6). -/
opaque kemDecap : List Byte → List Byte → List Byte

/-- A private key of an algorithm from the n-th draw (R369; log 6). -/
opaque keyGen : Nat → Nat → List Byte

/-- The private key of an algorithm that a seed gives (R368; log 6). -/
opaque seededKey : Nat → List Byte → List Byte

/-- SHA-384 of a firmware component, by COMPONENT of the MEASUREMENT entry (R371; log 6). -/
opaque measurement : Nat → List Byte

/-- SVN of a firmware component (R367, R371; log 6). -/
opaque svn : Nat → Nat

/-- The X.509 certificate in DER of a layer and an algorithm, as the CERT entry numbers them (R368, R371; log 6). -/
opaque certificate : Nat → Nat → List Byte

/-- The Lorzary joint-qualification key hashes in the Clasp ROM: SHA-384 of the ML-DSA-87 key, then of the P-384 key (R242; log 6). -/
opaque qualificationHashes : List Byte

/-- The bank of a controller in which an address lies, by controller and address; the spec gives no bank map (R258; log 28). -/
opaque bankOf : Nat → Nat → Nat

/-- The SECDED code of a control word, by the flit's body and bits 28:0; the spec gives no table for it (R202; log 87). -/
opaque flitEcc : Nat → Nat → Nat

end Sys2Proof.Config
end

