-- ==== Sys2Proof/Machine/Bits.lean ====
section
/-! DEFINITION. Bit fields, byte order and the other plain number helpers of the meanings. -/

namespace Sys2Proof.Machine

/-- Bits lo to lo+n-1 of a number. -/
def bitsOf (v lo n : Nat) : Nat := v / 2 ^ lo % 2 ^ n

/-- One bit of a number. -/
def bitOf (v i : Nat) : Bool := v / 2 ^ i % 2 == 1

/-- A Boolean as a bit at position i. -/
def bitAt (b : Bool) (i : Nat) : Nat := if b then 2 ^ i else 0

/-- A field of a register value (R10). -/
def fieldOf (v : Word) (lo n : Nat) : Nat := bitsOf v.toNat lo n

/-- One bit of a register value. -/
def flagOf (v : Word) (i : Nat) : Bool := bitOf v.toNat i

/-- A number as a 64-bit register value. -/
def word (n : Nat) : Word := BitVec.ofNat 64 n

/-- A number as n little-endian bytes (R42, R338). -/
def toLE (n v : Nat) : List Byte :=
  match n with
  | 0 => []
  | k + 1 => BitVec.ofNat 8 v :: toLE k (v / 256)

/-- Little-endian bytes as a number. -/
def ofLE (bs : List Byte) : Nat :=
  match bs with
  | [] => 0
  | b :: rest => b.toNat + 256 * ofLE rest

/-- n big-endian bytes of a number. -/
def toBE (n v : Nat) : List Byte := (toLE n v).reverse

/-- Big-endian bytes as a number. -/
def ofBE (bs : List Byte) : Nat := ofLE bs.reverse

/-- n bytes at an offset of a byte list; bytes past its end are 0. -/
def bytesAt (bs : List Byte) (off n : Nat) : List Byte :=
  let part := (bs.drop off).take n
  part ++ List.replicate (n - part.length) 0

/-- The little-endian number of n bytes at an offset. -/
def numAt (bs : List Byte) (off n : Nat) : Nat := ofLE (bytesAt bs off n)

/-- Whether every byte of a list is zero. -/
def allZero (bs : List Byte) : Bool := bs.all (· == 0)

/-- A list cut or filled with zeros to n bytes. -/
def padTo (n : Nat) (bs : List Byte) : List Byte := bytesAt bs 0 n

/-- The 64 bytes of a line, lowest first. -/
def lineBytes (l : Line) : List Byte := toLE 64 l.toNat

/-- A line from its bytes, lowest first. -/
def lineOf (bs : List Byte) : Line := BitVec.ofNat 512 (ofLE (bs.take 64))

/-- n bits of a line from byte offset off. -/
def lineGet (l : Line) (off n : Nat) : Nat := l.toNat / 2 ^ (8 * off) % 2 ^ (8 * n)

/-- A line with n bytes at byte offset off replaced. -/
def lineSet (l : Line) (off n v : Nat) : Line :=
  let keep := l.toNat - lineGet l off n * 2 ^ (8 * off)
  BitVec.ofNat 512 (keep + v % 2 ^ (8 * n) * 2 ^ (8 * off))

/-- A line with the bytes named by enables taken from new data (R172 partial writes). -/
def lineMerge (old new : Line) (enables : BitVec 64) : Line :=
  lineOf ((List.range 64).zipWith (fun i p => if enables.getLsbD i then p.2 else p.1)
    ((lineBytes old).zip (lineBytes new)))

/-- A two's-complement number of n bits. -/
def signedOf (n v : Nat) : Int :=
  if bitOf v (n - 1) then (v : Int) - (2 ^ n : Nat) else (v : Int)

/-- An integer in two's complement of n bits. -/
def toSigned (n : Nat) (v : Int) : Nat := (v % (2 ^ n : Nat)).toNat

/-- A value of 2^size bytes extended to 64 bits (R82). -/
def extendTo64 (size v : Nat) (signed : Bool) : Word :=
  let n := 8 * 2 ^ size
  if signed && bitOf v (n - 1) && size < 3 then BitVec.ofNat 64 (2 ^ 64 - 2 ^ n + v % 2 ^ n)
  else BitVec.ofNat 64 (v % 2 ^ n)

/-- Rounding up to a multiple. -/
def roundUp (n m : Nat) : Nat := (n + m - 1) / m * m

/-- Whether a number is a multiple of another. -/
def multipleOf (n m : Nat) : Bool := n % m == 0

/-- A count that saturates. -/
def satAdd (max a b : Nat) : Nat := min max (a + b)

/-- Elements of a list that differ, each once, in order of first appearance. -/
def distinct {α : Type} [BEq α] (l : List α) : List α :=
  l.foldl (fun acc x => if acc.contains x then acc else acc ++ [x]) []

/-- The first of the numbers 0 to n-1 that meets a test. -/
def firstBelow (n : Nat) (p : Nat → Bool) : Option Nat := (List.range n).find? p

/-- The set bits of an n-bit mask, lowest first. -/
def maskBits (n m : Nat) : List Nat := (List.range n).filter (bitOf m)

/-- A mask from its set bits. -/
def maskOf (bits : List Nat) : Nat := (distinct bits).foldl (fun a i => a + 2 ^ i) 0

/-- An element put before the first that it does not follow. -/
def insertBy {α : Type} (le : α → α → Bool) (a : α) (l : List α) : List α :=
  match l with
  | [] => [a]
  | b :: rest => if le a b then a :: b :: rest else b :: insertBy le a rest

/-- A list sorted, equal elements in their order. -/
def sortBy {α : Type} (le : α → α → Bool) (l : List α) : List α := l.foldr (insertBy le) []

end Sys2Proof.Machine
end

