-- ==== Sys2Proof/Machine/State.lean ====
section
/-! DEFINITION. The state of the Basga as plain data: every register, queue, table, mode and pin the spec names, the queue of waiting commands, and the state after reset.
Tables of many like units are association lists in rising key order; a key that is not listed holds the unit's reset value (Machine/Tab.lean reads and writes them). -/

namespace Sys2Proof.Machine

/-- Why the machine would stop with a fault. No rule of the spec stops the block, so there is no reason here: the type has no constructor. -/
inductive Fault where
deriving DecidableEq, Repr

/-- Why a command would be refused. -/
inductive Refusal where
  /-- Raised only by an arm of `exec` whose command has no meaning yet; safe, the machine stops. -/
  | notModelled (mnemonic : String)
deriving DecidableEq, Repr

/-- A table of units by number: strictly rising keys, unlisted keys at the unit's reset value. -/
abbrev Tab (α : Type) := List (Nat × α)

/-! ### The Binding (R42 to R66) -/

/-- A QUIRES record (R50). -/
structure Quire where
  qid : Nat
  dualWorld : Bool
  initialSecure : Bool
  userCounters : Bool
  checkPriv : Bool
  bootHart : Nat
  notifyHart : Nat
  notifyId : Nat
  resetVector : Nat
  handoverUs : Nat
  name : List Byte
deriving DecidableEq, Repr

/-- A CORE_MAP record (R51). -/
structure CoreRec where
  hart : Nat
  qid : Nat
  pair : Bool
deriving DecidableEq, Repr

/-- An L3_WAYS record (R52). -/
structure L3Rec where
  slice : Nat
  qid : Nat
  wayMask : BitVec 16
  lockMask : BitVec 16
deriving DecidableEq, Repr

/-- A MEM_WINDOWS record (R53); FLAGS bits 0 R, 1 W, 2 X, 3 SHARED, 4 SECURE, 5 ENCRYPT, 6 INTEGRITY, 7 PERSIST, 8 FAR_ATOMIC, 9 EXPORT. -/
structure MemWin where
  qid : Nat
  index : Nat
  flags : BitVec 10
  keySlot : Nat
  shareId : Nat
  base : Nat
  size : Nat
  homeSlices : BitVec 48
deriving DecidableEq, Repr

/-- A HOLD_SEEDS record (R55). -/
structure HoldSeed where
  qid : Nat
  hold : Nat
  seed : BitVec 32
deriving DecidableEq, Repr

/-- A stream record of G_STREAMS (R56). -/
structure GStream where
  stream : Nat
  rate : Nat
  secure : Bool
  srcQid : Nat
  dstQid : Nat
  srcCore : Nat
  dstCore : Nat
  srcNode : Nat
  dstNode : Nat
  routeId : Nat
  boundPs : Nat
deriving DecidableEq, Repr

/-- A slot entry of G_STREAMS (R211). -/
structure SlotEntry where
  node : Nat
  switch : Bool
  slot : Nat
  input : Nat
  output : Nat
  stream : Nat
deriving DecidableEq, Repr

/-- A ROUTES record (R57); 0xFF where the path has no such crossing. -/
structure RouteRec where
  routeId : Nat
  srcDie : Nat
  dstDie : Nat
  srcVport : Nat
  srcUcie : Nat
  dstUcie : Nat
  dstVport : Nat
deriving DecidableEq, Repr

/-- A QUEUES record (R58): KIND 1 a queue range, 2 a VI range. -/
structure QueueRec where
  kind : Nat
  qid : Nat
  secure : Bool
  function : Nat
  first : Nat
  count : Nat
deriving DecidableEq, Repr

/-- An INTERRUPTS record (R59). -/
structure IntrRec where
  qid : Nat
  secure : Bool
  hart : Nat
  file : Nat
  firstId : Nat
  count : Nat
deriving DecidableEq, Repr

/-- A DEVICE_FUNCTIONS record (R60). -/
structure DevFn where
  group : Nat
  qid : Nat
  bdf : Nat
  secure : Bool
  hotplugCtl : Bool
deriving DecidableEq, Repr

/-- A route record of SYSTEM_LINK (R61). -/
structure SlRoute where
  dest : Nat
  port : Nat
  altPort : Nat
deriving DecidableEq, Repr

/-- A partner record (R61, R312). -/
structure PartnerRec where
  kind : Nat
  action : Nat
  partner : Nat
  notifyQid : Nat
deriving DecidableEq, Repr

/-- The SYSTEM_LINK section (R61). -/
structure SysLinkSec where
  packageId : Nat
  portMask : BitVec 8
  routes : List SlRoute
  partners : List PartnerRec
deriving DecidableEq, Repr

/-- A CHECK_UNITS record (R62). -/
structure CheckRec where
  unit : Nat
  qid : Nat
  poly : Nat
  aliveBits : Nat
deriving DecidableEq, Repr

/-- A DEBUG_POLICY record (R63). -/
structure DebugRec where
  qid : Nat
  bits : BitVec 4
deriving DecidableEq, Repr

/-- A DEADLINE_POLICY record (R64). -/
structure DeadlineRec where
  qid : Nat
  supervisor : Nat
  excOnMiss : Bool
  msiOnMiss : Bool
  msiHart : Nat
  msiId : Nat
  toGUs : Nat
  toUUs : Nat
  toBUs : Nat
deriving DecidableEq, Repr

/-- A GOVERNOR_POLICY record of a Quire (R65). -/
structure GovRec where
  qid : Nat
  fixedP : Bool
  adaptPrefetch : Bool
  adaptL3 : Bool
  pFast : Nat
  pSlow : Nat
  initialP : Nat
  slackNs : Nat
deriving DecidableEq, Repr

/-- The QID-0 GOVERNOR_POLICY record (R396). -/
structure GovPkg where
  adaptShare : Bool
  adaptRefresh : Bool
  allowBoost : Bool
  bShareMin : Nat
  bShareMax : Nat
  lendMax : Nat
  tjTargetC : Nat
  powerLimitW : Nat
deriving DecidableEq, Repr

/-- A PARTNER_ALLOWLIST record (R66). -/
structure AllowRec where
  site : Nat
  digest : List Byte
deriving DecidableEq, Repr

/-- A Binding as parsed (R42 to R66). A section that may be absent with a default of its own is an Option. -/
structure Binding where
  generation : Nat
  raiseFloor : Bool
  delta : Bool
  force : Bool
  target : BitVec 3
  unitSerial : Nat
  baseGeneration : Nat
  present : List Nat
  quires : List Quire
  cores : List CoreRec
  l3Ways : List L3Rec
  windows : List MemWin
  holdSeeds : List HoldSeed
  streams : List GStream
  slots : List SlotEntry
  routes : List RouteRec
  queues : List QueueRec
  intrs : List IntrRec
  functions : List DevFn
  sysLink : Option SysLinkSec
  checks : List CheckRec
  debugs : List DebugRec
  deadlines : List DeadlineRec
  govs : List GovRec
  govPkg : Option GovPkg
  allow : List AllowRec
deriving DecidableEq, Repr

/-- The Binding of a package to which none has been applied: every resource carries QID 0 (R73 step 1). -/
def Binding.empty : Binding :=
  { generation := 0, raiseFloor := false, delta := false, force := false, target := 0, unitSerial := 0,
    baseGeneration := 0, present := [], quires := [], cores := [], l3Ways := [], windows := [], holdSeeds := [],
    streams := [], slots := [], routes := [], queues := [], intrs := [], functions := [], sysLink := none,
    checks := [], debugs := [], deadlines := [], govs := [], govPkg := none, allow := [] }

/-! ### Fuses, pins and start-up -/

/-- The ordering numbers (R2). -/
inductive Part where
  | vb384 | vb320 | vb256
deriving DecidableEq, Repr

/-- What manufacture fixed (R2 to R6, R367). -/
structure Fuse where
  part : Part
  xGrade : Bool
  fusedClusters : List Nat
  serial : Nat
deriving DecidableEq, Repr

/-- The simulated lands (R412, R423, R424), and the test access of the dies (R244, R245): the TAP instruction selected in each (an unlisted die has IDCODE), the data register last captured, the die wrapper registers, and the dies whose segment insertion bit lets the instrument network into the chain. -/
structure Pins where
  stbyPwrgood : Bool
  pwrgood : Bool
  resetN : Bool
  pwrfailN : Bool
  aliveToggling : Bool
  perstN : Bool
  refclk : Bool
  straps : BitVec 16
  tap : Tab Nat
  dr : Nat
  wrap : Tab Nat
  sib : List Nat
deriving DecidableEq, Repr

/-- Where the package stands in start-up and reset (R415, R418, R266, R401). `ready k`: start-up step k is the next to run. -/
inductive Phase where
  /-- no standby power -/
  | off
  /-- standby power only, RESET_N low -/
  | standby
  /-- start-up step k runs next, k = 2 to 7 -/
  | ready (k : Nat)
  /-- no valid Binding was found; only the recovery interface accepts one (R71) -/
  | noBinding
  /-- step 8 done: the package runs -/
  | running
  /-- a warm reset drains (R418) -/
  | draining
  /-- every domain except STBY held in reset: REFCLK lost -/
  | refclkLost
  /-- the same: PWRFAIL_N fell before step 7 -/
  | powerFail
  /-- the same: after a persistent flush -/
  | flushed
  /-- the same: thermal trip -/
  | tripped
deriving DecidableEq, Repr

/-- The phases of a persistent flush (R266). -/
inductive FlushPhase where
  | none | stopping | drained
deriving DecidableEq, Repr

/-- An uncorrected-fatal event carried over a warm reset into slot 0 (R356). -/
structure Fatal where
  syndrome : Nat
  origin : Nat
  addr : Option Nat
deriving DecidableEq, Repr

structure Boot where
  phase : Phase
  warm : Bool
  cause : ResetCause
  pllLocked : Bool
  claspUp : Bool
  booted : Option Nat
  candidates : List Nat
  current : Option Nat
  memTrained : Bool
  fatal : Option Fatal
  flush : FlushPhase
  flushTrigger : Nat
  flushTime : Nat
  flushByRule : Bool
  /-- the windows that a hand-over was moving at the trigger, by QID and INDEX (R266) -/
  flushMoving : List (Nat × Nat)
  bootCount : Nat
deriving DecidableEq, Repr

/-- Package time and its registers (R33, R37 to R41). -/
structure Time where
  cycle : Nat
  slot : Nat
  started : Bool
  now : Nat
  skew : Tab Int
  holding : List Nat
  frame : Nat
  step : Option Nat
  slewReg : Word
  slewWrite : Option Word
  slewOn : Bool
  slewDir : Bool
  slewInterval : Nat
  slewCount : Nat
  boundaryInc : Nat
  restarted : Bool
  lastSkewDie : Nat
  skewCount : Nat
deriving DecidableEq, Repr

/-! ### Harts -/

/-- What a hart is doing (R73, R266, R346, R374). -/
inductive Run where
  | reset | running | stopped | halted | fenced
deriving DecidableEq, Repr

/-- Privilege modes (R94, R116). -/
inductive Mode where
  | u | s | m
deriving DecidableEq, Repr

/-- MESI states (R167). -/
inductive Mesi where
  | i | s | e | m
deriving DecidableEq, Repr

/-- A line of a private cache. `line` is PA[51:6]. A locked way whose data a snoop took is `reserved`: locked with state I (R152). -/
structure CLine where
  line : Nat
  st : Mesi
  data : Line
  poison : Poison
  unconf : Bool
  locked : Bool
deriving DecidableEq, Repr

/-- A TLB entry (R127). `base` is the first virtual address, `bits` the log2 of the size, `pa` the physical address of the page; r w x u d are those of the VS stage or the single stage, `pte` and `level` the leaf that gave them.
For V = 1, gr gw gx gd, `gpa`, `gpte`, `glevel` and `gbits` are those of the G-stage leaf. -/
structure TlbEnt where
  virt : Bool
  asid : Nat
  vmid : Nat
  global : Bool
  base : Nat
  bits : Nat
  /-- the log2 size of the first-stage leaf -/
  vbits : Nat
  r : Bool
  w : Bool
  x : Bool
  u : Bool
  d : Bool
  pbmt : Nat
  pa : Nat
  level : Nat
  pte : Nat
  gr : Bool
  gw : Bool
  gx : Bool
  gd : Bool
  gpa : Nat
  glevel : Nat
  gpte : Nat
  gbits : Nat
  unconf : Bool
deriving DecidableEq, Repr

/-- A loop level: lzlc and lzle (R90). -/
structure Loop where
  active : Bool
  virt : Bool
  prv : Mode
  len : Nat
  count : Nat
  stop : Word
deriving DecidableEq, Repr

/-- An inbox entry (R105). -/
structure InboxEnt where
  srcHart : Nat
  stream : Nat
  g : Bool
  overrun : Bool
  late : Bool
  secure : Bool
  deadlineLo : BitVec 32
  arrivalLo : BitVec 32
  payload : BitVec 384
deriving DecidableEq, Repr

/-- Where an outbox entry stands (R108). -/
inductive OutSt where
  /-- not sent yet -/
  | ready
  /-- sent, its answer outstanding -/
  | sent
  /-- refused, to be sent again at the next frame boundary -/
  | refused
deriving DecidableEq, Repr

/-- An outbox entry (R106, R108). -/
structure OutboxEnt where
  dest : Nat
  stream : Nat
  deadlineLo : BitVec 32
  secure : Bool
  payload : BitVec 384
  st : OutSt
  firstSent : Option Nat
  /-- the NoC cycle in which it became ready; then package time of its last send; then the frame in which it was refused -/
  stamp : Nat
deriving DecidableEq, Repr

/-- An access that waits on a miss register. -/
inductive Waiter where
  | load (o : LoadOp) (pa : Nat)
  | store (va : Word) (pa size : Nat) (data : Word)
  | amo (o : AmoOp) (pa : Nat)
  | lr (rd : Nat) (va : Word) (pa size : Nat)
  | zero (va : Word) (pa : Nat)
  | lock (rd : Nat) (va : Word) (pa : Nat)
  /-- a prefetch, or the ownership that an SC waits for -/
  | prefetch (own : Bool) (va : Word)
  /-- a line that the page walker reads, or a PTE that it will write (R121, R126) -/
  | pte (own : Bool)
  /-- the 64-byte buffer of lz.mbsend or lz.mbrecv (R106, R109) -/
  | buffer (own : Bool) (va : Word)
  /-- a released store of a checked pair: bytes of the line under their enables (R113) -/
  | pair (va : Word) (pa : Nat) (data : Line) (enables : BitVec 64)
deriving DecidableEq, Repr

/-- The transient states of R175 that a miss register stands for. -/
inductive MissSt where
  /-- IS_D -/
  | isD
  /-- IM_D -/
  | imD
  /-- SM_A -/
  | smA
  /-- a request without allocation: RdNC, WrNC, AmoF or AmoM -/
  | nc
  /-- the same for a side-effect page, which reaches its port or home in program order (R188) -/
  | io
deriving DecidableEq, Repr

/-- A miss register (R159): the line, the request sent for it, and the accesses that wait. -/
structure Miss where
  line : Nat
  st : MissSt
  opc : Opc
  spec : Bool
  fetch : Bool
  secure : Bool
  tag : Nat
  cls : Nat
  dst : Nat
  sent : Nat
  expired : Bool
  /-- the line it brings is given back at once (R99) -/
  dropped : Bool
  /-- the memory stream it was sent on (R210) -/
  stream : Option Nat
  waiters : List Waiter
deriving DecidableEq, Repr

/-- A write-back buffer (R175): a line leaving by WbD (MI_A) or Evc (XI_A). -/
structure Wb where
  line : Nat
  dirty : Bool
  data : Line
  poison : Poison
  tag : Nat
  sent : Nat
  retried : Bool
deriving DecidableEq, Repr

/-- A hold window (R177): snoops for the line wait until NoC cycle `fin`. -/
structure Hold where
  line : Nat
  fin : Nat
deriving DecidableEq, Repr

/-- A branch target buffer entry (R87). -/
structure BtbEnt where
  pc : Word
  target : Word
deriving DecidableEq, Repr

/-- A translation that waits for its page walk (R126). -/
structure Walk where
  va : Word
  store : Bool
  exec : Bool
  spec : Bool
  /-- a walk whose fault is not raised: of a Zicbop prefetch -/
  hint : Bool
  /-- a walk of a cache-block operation: read rights suffice, and faults are those of a store -/
  cbo : Bool
deriving DecidableEq, Repr

/-- Sleep states of a core (R384). -/
inductive CState where
  | c0 | c1 | c2 | c3
deriving DecidableEq, Repr

structure Hart where
  run : Run
  qid : Nat
  paired : Bool
  secure : Bool
  mode : Mode
  virt : Bool
  pc : Word
  lastPc : Word
  x : Tab Word
  f : Tab Word
  vec : Tab (BitVec 256)
  csr : Tab Word
  triggers : Tab (Word × Word)
  lzspec : BitVec 4
  lzwalkM : Word
  lzwalkHs : Word
  lzwalkVs : Word
  lztlblock : Word
  loop0 : Loop
  loop1 : Loop
  dlTime : Tab Word
  dlArmed : BitVec 4
  dlMissed : BitVec 4
  dlExcEn : BitVec 4
  dlTake : BitVec 4
  inbox : List InboxEnt
  outbox : List OutboxEnt
  undelivered : Nat
  btb : Tab BtbEnt
  ras : List Word
  rasSpec : List Word
  loopBuf : List Nat
  lfsr : Tab Lfsr
  itlb : Tab TlbEnt
  dtlb : Tab TlbEnt
  locked : Tab TlbEnt
  l2tlb : Tab TlbEnt
  l1i : Tab CLine
  l1d : Tab CLine
  vc : Tab CLine
  l2 : Tab CLine
  l2Secure : BitVec 4
  cacheOp : Nat
  misses : List Miss
  wbs : List Wb
  holds : List Hold
  snoopWait : List CohMsg
  reserve : Option Nat
  deferTo : Option Nat
  nextTag : Nat
  /-- tags of WbD and Evc sent again, until their Cmp comes (R173, R333) -/
  oldTags : List Nat
  walk : Option Walk
  cidle : Nat
  cstate : CState
  entering : Option CState
  wakeHeld : Bool
  cSince : Nat
  cnt : Tab Count
  cntChain : BitVec 128
  cntOvf : BitVec 128
  cntStamp : Nat
  eip : List Nat
  eie : List Nat
  pairEven : Option PairCopy
  pairOdd : Option PairCopy
  pairSince : Nat
  pairReady : Option (PairCopy × Nat)
  /-- the request that the comparator has released and the pair has not yet performed (R113) -/
  pairGo : Option PairCopy
  /-- a line of non-cacheable memory read for an lz.mbsend that has not gone on yet: address, data and poison (R106) -/
  nc64 : Option (Nat × Line × Poison)
  prefetchDeg : Nat
deriving DecidableEq, Repr

def Loop.reset : Loop := { active := false, virt := false, prv := .u, len := 0, count := 0, stop := 0 }

/-- A hart in reset (R73, R354): every register at its reset value; log 3 for those the spec gives none. -/
def Hart.reset : Hart :=
  { run := .reset, qid := 0, paired := false, secure := false, mode := .m, virt := false, pc := 0, lastPc := 0,
    x := [], f := [], vec := [], csr := [], triggers := [], lzspec := 0, lzwalkM := 0, lzwalkHs := 0, lzwalkVs := 0,
    lztlblock := 0, loop0 := Loop.reset, loop1 := Loop.reset, dlTime := [], dlArmed := 0, dlMissed := 0, dlExcEn := 0,
    dlTake := 0, inbox := [], outbox := [], undelivered := 0, btb := [], ras := [], rasSpec := [], loopBuf := [],
    lfsr := [], itlb := [], dtlb := [], locked := [], l2tlb := [], l1i := [], l1d := [], vc := [], l2 := [],
    l2Secure := 0, cacheOp := 0, misses := [], wbs := [], holds := [], snoopWait := [], reserve := none,
    deferTo := none, nextTag := 0, oldTags := [], walk := none, cidle := 1, cstate := .c0, entering := none,
    wakeHeld := false, cSince := 0, cnt := [], cntChain := 0, cntOvf := 0, cntStamp := 0, eip := [], eie := [], pairEven := none,
    pairOdd := none, pairSince := 0, pairReady := none, pairGo := none, nc64 := none, prefetchDeg := 3 }

/-- A cluster's speed (R383): CLU_PSTAT and a change waiting for its voltage (R381). -/
structure Cluster where
  wanted : Nat
  granted : Nat
  fixed : Bool
  changes : BitVec 32
  ramp : Option Nat
deriving DecidableEq, Repr

def Cluster.reset : Cluster := { wanted := 4, granted := 4, fixed := false, changes := 0, ramp := none }

/-! ### L3 slices -/

/-- A line of an L3 slice. A reserved locked way has `valid` false (R152). -/
structure L3Line where
  line : Nat
  valid : Bool
  dirty : Bool
  qid : Nat
  data : Line
  poison : Poison
deriving DecidableEq, Repr

/-- A directory entry (R168): owner form (node and core) or sharer form (bit vectors of clusters and port groups). -/
structure DirEnt where
  line : Nat
  qid : Nat
  secure : Bool
  owner : Option (Nat × Nat)
  clusters : BitVec 48
  ports : BitVec 8
deriving DecidableEq, Repr

/-- A snoop whose response is outstanding; `core` 8 where it is addressed to every core of the cluster. -/
structure SnoopOut where
  node : Nat
  core : Nat
  tag : Nat
  issued : Nat
  /-- the cycles for which a hold window kept it waiting (R196) -/
  held : Nat
deriving DecidableEq, Repr

/-- A transaction of a home (R179, R180), with the directory way that its request has been given (R183). -/
structure Txn where
  req : CohMsg
  evict : Bool
  arrived : Nat
  snoops : List SnoopOut
  have_ : Bool
  keepS : Bool
  /-- the line's entry was in sharer form when it started (R180) -/
  shared : Bool
  ownerForm : Option (Nat × Nat)
  data : Option (Line × Poison)
  waitMem : Bool
  waitEvict : Option Nat
  way : Option Nat
  granted : Bool
  grantAt : Nat
deriving DecidableEq, Repr

/-- A request waiting at its home, with the cycle in which it arrived (R179). -/
structure Waiting where
  msg : CohMsg
  arrived : Nat
deriving DecidableEq, Repr

/-- A Quire's page in a slice block (R158, R410). -/
structure L3Q where
  wayMask : BitVec 16
  lockMask : BitVec 16
  govMask : BitVec 16
  lockedWays : BitVec 16
  fillWays : BitVec 16
  busy : Bool
  lfsr : Option Lfsr
  cnt : Tab Count
deriving DecidableEq, Repr

def L3Q.reset : L3Q :=
  { wayMask := 0, lockMask := 0, govMask := 0, lockedWays := 0, fillWays := 0, busy := false, lfsr := none, cnt := [] }

structure Slice where
  lines : Tab L3Line
  dir : Tab DirEnt
  q : Tab L3Q
  waiting : List Waiting
  active : List Txn
  rspx : List (Nat × Nat × Nat)
  ignore : List (Nat × Nat)
  stalled : List CohMsg
  movedTo : Option Nat
  rebuilding : Bool
  snpTag : Nat
deriving DecidableEq, Repr

def Slice.reset : Slice :=
  { lines := [], dir := [], q := [], waiting := [], active := [], rspx := [], ignore := [], stalled := [],
    movedTo := none, rebuilding := false, snpTag := 0 }

/-! ### Messages in flight and the fabric -/

/-- A mark on its way over a crossing (R35). -/
structure Mark where
  x : Nat
  inward : Bool
  frame : Nat
deriving DecidableEq, Repr

/-- A marker report on its way (R230). -/
structure Report where
  x : Nat
  inward : Bool
  frame : Nat
  crc : BitVec 32
  width : Nat
  sel : Nat
deriving DecidableEq, Repr

/-- A statistics page (R220, R221). -/
structure Stats where
  bytesG : Word
  bytesU : Word
  bytesB : Word
  freeze : Bool
  hist : Tab Count
deriving DecidableEq, Repr

def Stats.reset : Stats := { bytesG := 0, bytesU := 0, bytesB := 0, freeze := false, hist := [] }

structure Net where
  coh : List CohMsg
  mail : List MailMsg
  ans : List MailAns
  msi : List MsiMsg
  marks : List Mark
  reports : List Report
  io : List CohMsg
  /-- requests of the Clasp, the Governor and the fabric manager that have been sent once more after a timeout: source node and tag (R333) -/
  again : List (Nat × Nat)
  /-- the statistics pages of the initiators (R220), by initiator index -/
  stats : Tab Stats
deriving DecidableEq, Repr

/-- States of a G stream (R221): FM_STREAM_STAT.STATE. -/
inductive StreamSt where
  | absent | active | demoted | held
deriving DecidableEq, Repr

structure Stream where
  st : StreamSt
  desc : GStream
  removing : Bool
  planGen : BitVec 16
  boundPs : Nat
  msgs : BitVec 32
  uMsgs : BitVec 32
  /-- the NoC cycle of its last message: a slot carries one (R214, R215) -/
  sentAt : Option Nat
deriving DecidableEq, Repr

def GStream.none : GStream :=
  { stream := 0, rate := 0, secure := false, srcQid := 0, dstQid := 0, srcCore := 0, dstCore := 0, srcNode := 0,
    dstNode := 0, routeId := 0, boundPs := 0 }

def Stream.reset : Stream :=
  { st := .absent, desc := GStream.none, removing := false, planGen := 0, boundPs := 0, msgs := 0, uMsgs := 0, sentAt := none }

/-- A change of slot tables waiting for its frame boundary (R219): the entries, the streams after it, and those that are demoted. -/
structure Plan where
  boundary : Nat
  holding : Bool
  entries : List SlotEntry
  bounds : List (Nat × Nat)
  demote : List Nat
  absent : List Nat
  accept : List Nat
  changed : List Nat
  isReplan : Bool
deriving DecidableEq, Repr

structure Fabric where
  planGen : BitVec 16
  bShare : Nat
  bShareNext : Option Nat
  streams : Tab Stream
  slots : List SlotEntry
  routes : List RouteRec
  plan : Option Plan
deriving DecidableEq, Repr

/-! ### Crossings and partner dies -/

/-- States of a crossing (R231): XL_STAT.STATE. -/
inductive XlState where
  | down | training | up | failed
deriving DecidableEq, Repr

/-- Width of a direction (R231): full, half, quarter, none. -/
inductive Width where
  | full | half | quarter | none
deriving DecidableEq, Repr

/-- A spare replacement or narrowing of one direction that waits for its frame boundary (R237), none until the fabric manager has chosen it; `spares` are the lanes that a spare replaces. -/
structure Remap where
  boundary : Option Nat
  inward : Bool
  width : Width
  sel : Nat
  spares : List Nat
deriving DecidableEq, Repr

structure Xl where
  st : XlState
  gOff : Bool
  widthOut : Width
  widthIn : Width
  selOut : Nat
  selIn : Nat
  sparesOut : Nat
  sparesIn : Nat
  rawLat : Nat
  markerDev : BitVec 8
  ceCount : Nat
  errs : List (Bool × Nat × Nat)
  lastDev : Option Nat
  remaps : List Remap
  fails : Nat
  /-- a reset below the chip has come since its last training (R234, R354) -/
  partialReset : Bool
deriving DecidableEq, Repr

def Xl.reset : Xl :=
  { st := .down, gOff := false, widthOut := .full, widthIn := .full, selOut := 0, selIn := 0, sparesOut := 0,
    sparesIn := 0, rawLat := 0, markerDev := 0, ceCount := 0, errs := [], lastDev := none, remaps := [], fails := 0, partialReset := false }

/-- One bad lane or bond of the repair map (R233): crossing, direction (true IN) and lane. -/
structure BadLane where
  x : Nat
  inward : Bool
  lane : Nat
deriving DecidableEq, Repr

/-- States of a partner-die site (R243): PARTNER_STAT.STATE. -/
inductive PartnerSt where
  | reset | cert | training | up | rejected | lost
deriving DecidableEq, Repr

/-- An endpoint of a partner die's certificate (R242). -/
structure CertEnd where
  x : Nat
  y : Nat
  e : Nat
  role : Nat
deriving DecidableEq, Repr

structure Partner where
  st : PartnerSt
  reason : Nat
  match_ : Nat
  attempts : Nat
  retries : Nat
  blocked : Bool
  digest : List Byte
  meshW : Nat
  meshH : Nat
  gCapable : Bool
  /-- the endpoints that its certificate names (R21, R242) -/
  ends : List CertEnd
  since : Nat
deriving DecidableEq, Repr

def Partner.reset : Partner :=
  { st := .reset, reason := 0, match_ := 0xFF, attempts := 0, retries := 0, blocked := false, digest := [],
    meshW := 0, meshH := 0, gCapable := false, ends := [], since := 0 }

/-- The crossings, the IOD repair map, and the working copies at the ends far from and near to the IOD: for each crossing the bad lanes with their direction (R233, R234); an unlisted crossing's end has no copy. -/
structure Links where
  xl : Tab Xl
  repair : List BadLane
  far : Tab (List (Bool × Nat))
  near : Tab (List (Bool × Nat))
  repairDirty : Bool
  partner : Tab Partner
deriving DecidableEq, Repr

/-! ### Memory -/

/-- A write accepted by a controller and not yet performed (R263, R266). -/
structure MemWrite where
  line : Nat
  data : Line
  poison : Poison
deriving DecidableEq, Repr

/-- A read that a home waits for (R257), with the slice that asked. -/
structure MemRead where
  line : Nat
  slice : Nat
deriving DecidableEq, Repr

/-- A memory controller: MC_INFO, retired pages with REASON (R261, R262). -/
structure Ctl where
  st : XlState
  unitsFailed : Nat
  capacityMib : Nat
  retired : List (Nat × Bool)
  retireSel : Nat
  ce : Tab Nat
  refreshing : List Nat
  scrubbed : Nat
deriving DecidableEq, Repr

def Ctl.reset : Ctl :=
  { st := .down, unitsFailed := 0, capacityMib := 0, retired := [], retireSel := 0, ce := [], refreshing := [],
    scrubbed := 0 }

/-- What a key slot holds (R255): the window it was loaded for, whether its keys are derived (PERSIST), and the number of the fresh draw. -/
structure KeySlot where
  base : Nat
  size : Nat
  persist : Bool
  draw : Nat
deriving DecidableEq, Repr

/-- A range of memory whose contents are encrypted under derived keys (R255): the BASE and SIZE of the PERSIST window and the owner key hash that the keys come from. -/
structure Seal where
  base : Nat
  size : Nat
  owner : List Byte
deriving DecidableEq, Repr

/-- CXL memory of a port group (R249, R262): HDM decoders (base, size, interleave ways, granularity) and whether the device is lost. -/
structure Cxl where
  decoders : List (Nat × Nat × Nat × Nat)
  lost : Bool
deriving DecidableEq, Repr

def Cxl.reset : Cxl := { decoders := [], lost := false }

/-- An event that changed memory without listing its bytes, newest first in `MemSys.eras`. -/
inductive Era where
  /-- a range was zeroed (R260, R363) -/
  | zero (base size : Nat)
  /-- a range reads as poisoned until it is written (R354) -/
  | poison (base size : Nat)
  /-- every line of an HBM stack reads as poisoned until it is written (R354) -/
  | poisonStack (stack : Nat)
  /-- contents were lost; what is read is the draw-th free memory, but for the kept ranges (R417; log 20) -/
  | lost (draw : Nat) (kept : List (Nat × Nat))
deriving DecidableEq, Repr

structure MemSys where
  bytes : List Host.Cell
  poison : Tab Bool
  eras : List Era
  wpq : List MemWrite
  reads : List MemRead
  hbm : Tab Ctl
  ddr : Tab Ctl
  failedPc : List Nat
  failedCh : List Nat
  ddrN : Nat
  dimmGib : Nat
  keys : Tab KeySlot
  /-- the ranges whose contents derived keys made (R255): the model's own note of what is stored -/
  seals : List Seal
  cxl : Tab Cxl
  retireDirty : Bool
deriving DecidableEq, Repr

/-! ### Queue Engine -/

/-- States of a queue (R272). -/
inductive QState where
  | disabled | enabled | error
deriving DecidableEq, Repr

/-- A queue context (R272), and the fetch point of R274. -/
structure QCtx where
  ringBase : Nat
  prod : BitVec 32
  cons : BitVec 32
  fetch : BitVec 32
  log2 : Nat
  st : QState
  ty : Nat
  error : Nat
  vi : Nat
  qid : Nat
  secure : Bool
  irqEn : Bool
  armed : Bool
  cq : Nat
  irqHart : Nat
  irqFile : Nat
  irqId : Nat
  disabling : Bool
deriving DecidableEq, Repr

def QCtx.reset : QCtx :=
  { ringBase := 0, prod := 0, cons := 0, fetch := 0, log2 := 0, st := .disabled, ty := 0, error := 0, vi := 0, qid := 0,
    secure := false, irqEn := false, armed := false, cq := 0, irqHart := 0, irqFile := 0, irqId := 0, disabling := false }

/-- Where a descriptor in flight stands (R279). -/
inductive DescSt where
  /-- read, not started -/
  | fetched
  /-- checked and started; its operation has not acted -/
  | started
  /-- started, waiting for an outside answer (TSN, System Link) -/
  | waiting
  /-- its last write is answered -/
  | done
deriving DecidableEq, Repr

/-- A descriptor in flight (R275, R279): its 64 bytes, and what its completion will carry (R280). -/
structure Flight where
  sq : Nat
  idx : Nat
  vi : Nat
  raw : Line
  poisoned : Bool
  st : DescSt
  status : Nat
  length : Nat
  result : BitVec 128
  reissued : Bool
  /-- package time since which it has requests under way (R281, R332) -/
  since : Nat
deriving DecidableEq, Repr

/-- A lane (R284). -/
structure Lane where
  fenced : Bool
  flights : List Flight
  reissued : BitVec 32
  lastSq : Option Nat
deriving DecidableEq, Repr

def Lane.reset : Lane := { fenced := false, flights := [], reissued := 0, lastSq := none }

/-- How a VI is being reset (R287). -/
inductive ViMode where
  | none | drain | squash
deriving DecidableEq, Repr

/-- A virtual instance's registers (R285). -/
structure Vi where
  qbase : Word
  qcfg : Word
  qirq : Word
  cmdBusy : Bool
  result : Nat
  qst : QState
  qerror : Nat
  queue : Nat
  mode : ViMode
  drainExpired : Bool
  dropped : Nat
  timeoutUs : Nat
  since : Nat
deriving DecidableEq, Repr

def Vi.reset : Vi :=
  { qbase := 0, qcfg := 0, qirq := 0, cmdBusy := false, result := 0, qst := .disabled, qerror := 0, queue := 0,
    mode := .none, drainExpired := false, dropped := 0, timeoutUs := 0x3E8, since := 0 }

/-- A key handle of the Clasp crypto function (R369): its algorithm, its world and its key bytes. -/
structure KeyHandle where
  alg : Nat
  secure : Bool
  key : List Byte
deriving DecidableEq, Repr

structure Qe where
  ctx : Tab QCtx
  cached : List Nat
  lfsr : Lfsr
  lanes : Tab Lane
  vi : Tab Vi
  keys : Tab KeyHandle
deriving DecidableEq, Repr

/-! ### PCIe, CXL and TSN -/

/-- A port group (R289, R294). `ports`: for each root port its link state and whether DPC contains it. -/
structure PortGroup where
  arrange : Nat
  linkUp : List Nat
  dpc : List Nat
  functions : List Nat
deriving DecidableEq, Repr

def PortGroup.reset : PortGroup := { arrange := 0, linkUp := [], dpc := [], functions := [] }

/-- A TSN port (R295, R296). `gcl` is the list as written, `gclActive` the one that runs since the last cycle boundary. -/
structure Tsn where
  enable : Bool
  linkUp : Bool
  gcl : Tab Word
  gclActive : Tab Word
  gclPos : Nat
  gclSince : Nat
  filterHandle : Tab Word
  filterLoss : Tab Word
  lastFrame : Tab Nat
  lost : List Nat
  dropping : List Nat
  sent : List (Nat × List Byte)
deriving DecidableEq, Repr

def Tsn.reset : Tsn :=
  { enable := false, linkUp := false, gcl := [], gclActive := [], gclPos := 0, gclSince := 0, filterHandle := [], filterLoss := [],
    lastFrame := [], lost := [], dropping := [], sent := [] }

structure IoPorts where
  groups : Tab PortGroup
  cfg : Tab (BitVec 32)
  pcfgAddr : Tab Word
  tsn : Tab Tsn
  aborts : List (Nat × Nat)
  /-- device functions fenced under FORCE, as group × 65,536 + BDF, until they have moved (R78) -/
  held : List Nat
deriving DecidableEq, Repr

/-! ### System Links -/

/-- LINK of SL_STAT. -/
inductive LinkSt where
  | down | training | up | failed
deriving DecidableEq, Repr

/-- PEER of SL_STAT (R311). -/
inductive PeerSt where
  | absent | up | resetting | lost | isolated
deriving DecidableEq, Repr

structure SlPort where
  released : Bool
  link : LinkSt
  peer : PeerSt
  width : Nat
  /-- whether the link runs at 64 GT/s (R298, R310) -/
  fullRate : Bool
  peerPkg : Nat
  peerPk : Nat
  missedHb : Nat
  replays : Nat
  lastHb : Nat
  resettingAt : Nat
  txSeq : Nat
  rxSeq : Nat
  nakPending : Bool
  nakSeen : Bool
  resends : Nat
  replay : List SlFlit
  aliveTx : Nat
  aliveRx : Option Nat
  lastTtx : Nat
  lastT4 : Nat
  offs : List Int
  delays : List Int
  waiting : List SlMsg
  out : List SlMsg
  inq : List SlMsg
  peerBoot : Nat
  wake : List SlFlit
  /-- a HEARTBEAT with WAKE_REQ has come since the package left PK0 (R314, R389) -/
  wakeReq : Bool
  rip : Bool
deriving DecidableEq, Repr

def SlPort.reset : SlPort :=
  { released := false, link := .down, peer := .absent, width := 0, fullRate := false, peerPkg := 0, peerPk := 0, missedHb := 0,
    replays := 0, lastHb := 0, resettingAt := 0, txSeq := 0, rxSeq := 0, nakPending := false, nakSeen := false, resends := 0,
    replay := [], aliveTx := 0, aliveRx := none, lastTtx := 0, lastT4 := 0, offs := [], delays := [],
    waiting := [], out := [], inq := [], peerBoot := 0, wake := [], wakeReq := false, rip := false }

/-- A request sent over a System Link and not yet answered (R304, R306): its tag, port, descriptor, offset in it and length. -/
structure SlReq where
  tag : Nat
  port : Nat
  desc : DescRef
  off : Nat
  len : Nat
deriving DecidableEq, Repr

/-- A SEND being received (R307): the SL_RECV it goes to and the bytes so far. -/
structure SlRecv where
  srcPkg : Nat
  tag : Nat
  srcQid : Nat
  total : Nat
  desc : DescRef
  got : Nat
deriving DecidableEq, Repr

structure SysLink where
  ports : Tab SlPort
  reqs : List SlReq
  recvs : List SlRecv
  nextTag : Nat
deriving DecidableEq, Repr

/-! ### Check units -/

/-- The configuration of a check (R316, R322). -/
structure CheckCfg where
  width : Nat
  poly : Word
  init : Word
  xorout : Word
  refin : Bool
  refout : Bool
  alive : Nat
deriving DecidableEq, Repr

/-- An open Check unit: the shadow and the active configuration, the descriptor that executes on it, and those that wait for it in the order in which they asked (R322, R323). -/
structure OpenUnit where
  shadow : CheckCfg
  active : CheckCfg
  rejected : Bool
  busy : Option DescRef
  queue : List DescRef
deriving DecidableEq, Repr

structure Checks where
  units : Tab OpenUnit
  fenced : List Nat
deriving DecidableEq, Repr

/-! ### Errors -/

/-- An error record (R338). -/
structure ErrRec where
  severity : Nat
  addrValid : Bool
  blameValid : Bool
  secure : Bool
  saturated : Bool
  escalated : Bool
  syndrome : Nat
  origin : Nat
  unitType : Nat
  qid : Nat
  unit : Nat
  blame : Nat
  count : Nat
  first : Nat
  last : Nat
  addr : Nat
  info : BitVec 128
  seq : BitVec 32
deriving DecidableEq, Repr

/-- The registers of a view (R345). -/
structure EcRegs where
  lost : Nat
  dlMisses : Nat
  empty : Bool
  index : Nat
  irqEnable : Bool
  irqHart : Nat
  irqFile : Nat
  irqId : Nat
  irqSecure : Bool
  rstBusy : Bool
  rstResult : Nat
  rstType : Nat
  rstUnit : Nat
deriving DecidableEq, Repr

def EcRegs.reset : EcRegs :=
  { lost := 0, dlMisses := 0, empty := false, index := 0, irqEnable := false, irqHart := 0, irqFile := 0, irqId := 0,
    irqSecure := false, rstBusy := false, rstResult := 0, rstType := 0, rstUnit := 0 }

/-- A cell, block or region collector (R340): the copies it keeps, the records on their way up, its sequence number and its registers. -/
structure LowCol where
  unit : UnitId
  kept : Tab ErrRec
  upward : List ErrRec
  seq : BitVec 32
  regs : EcRegs
deriving DecidableEq, Repr

/-- Pacing of one interrupt target (R331): whose events it paces (0 the views', q the misses of Quire q, R330), package time of the last MSI, and whether events are held. -/
structure Pace where
  src : Nat
  hart : Nat
  file : Nat
  id : Nat
  secure : Bool
  last : Option Nat
  held : Bool
deriving DecidableEq, Repr

/-- A fenced unit, the syndrome of its fence and whether the fence is complete (R344). -/
structure Fenced where
  unit : UnitId
  syndrome : Nat
  complete : Bool
  /-- package time at which the fence began (R344) -/
  since : Nat
deriving DecidableEq, Repr

/-- A unit reset that runs (R355), with the view that asked; a hand-over's reset names no view. -/
structure UnitReset where
  unit : UnitId
  view : Option EcView
deriving DecidableEq, Repr

structure Errors where
  slots : Tab ErrRec
  seq : BitVec 32
  owner : EcRegs
  views : Tab EcRegs
  low : List LowCol
  fenced : List Fenced
  resets : List UnitReset
  paces : List Pace
deriving DecidableEq, Repr

/-! ### The Clasp -/

/-- States of an owner slot (R367). -/
inductive OwnerSt where
  | empty | active | revoked
deriving DecidableEq, Repr

structure Owner where
  st : OwnerSt
  hashes : List Byte
deriving DecidableEq, Repr

/-- STATE of BREQ_STAT and of COL_CTL (R81, R372). -/
inductive ReqSt where
  | idle | queued | busy | done
deriving DecidableEq, Repr

/-- A Quire's request page (R81, R372). -/
structure Breq where
  addr : Word
  op : Nat
  arg : Nat
  length : Nat
  st : ReqSt
  step : Nat
  seq : BitVec 16
  syndrome : Nat
  result : Nat
  pend : Bool
  pendSecure : Bool
  pendSeq : BitVec 16
  pendTypes : BitVec 16
  nonce : BitVec 256
  dest : Word
  colSt : ReqSt
  colResult : Nat
  colLength : Nat
deriving DecidableEq, Repr

def Breq.reset : Breq :=
  { addr := 0, op := 0, arg := 0, length := 0, st := .idle, step := 0, seq := 0, syndrome := 0, result := 0,
    pend := false, pendSecure := false, pendSeq := 0, pendTypes := 0, nonce := 0, dest := 0, colSt := .idle,
    colResult := 0, colLength := 0 }

/-- What the Clasp is working on (R77, R72): a delta between its phases, or a flash update. -/
inductive Work where
  /-- quiesce phase: the delta, its bytes' digest, the old owners that have not answered, and when it began -/
  | quiesce (q : Nat) (d : Binding) (digest : List Byte) (waiting : List Nat) (forced : List Nat) (since : Nat)
  /-- move phase: the delta and its digest -/
  | move (q : Nat) (d : Binding) (digest : List Byte)
  /-- flash update: the requesting Quire (none: SMBus), the image and the target slot -/
  | flash (q : Option Nat) (img : List Byte) (slot : Nat)
deriving DecidableEq, Repr

/-- A request waiting for the Clasp (R77, R372), with the fields as its GO submitted them: a Quire's BREQ or its Colophon request. -/
inductive Request where
  | breq (q : Nat) (addr op arg len : Nat)
  | col (q : Nat) (nonce : BitVec 256) (dest : Nat)
deriving DecidableEq, Repr

/-- A debug session (R374): the enables open and when it ends. -/
structure Session where
  bits : BitVec 4
  fin : Nat
deriving DecidableEq, Repr

/-- The Secure watchdog (R376): SWD_CTL, the nanoseconds counted and the time from which the count runs on (none: paused). -/
structure Swd where
  enable : Bool
  stage : Nat
  hart : Nat
  id : Nat
  periodMs : Nat
  counted : Nat
  since : Option Nat
deriving DecidableEq, Repr

structure Clasp where
  owners : Tab Owner
  updCounter : Nat
  floor : Nat
  svn : List Nat
  flash : List Host.Cell
  eff : Binding
  applied : Bool
  ownerHash : List Byte
  digests : List (List Byte)
  gens : List Nat
  noValid : Bool
  cand : Option (Binding × List Byte × List Byte)
  breq : Tab Breq
  seq : BitVec 16
  queue : List Request
  work : Option Work
  epoch : Nat
  resign : Bool
  colophon : List Byte
  smbAnswer : List Byte
  challenge : Option (BitVec 256 × Nat)
  session : Option Session
  swd : Swd
deriving DecidableEq, Repr

/-- The debug module (R83, R375): cmderr of the last abstract command and its data register. -/
structure Debug where
  cmderr : Nat
  data : Word
  /-- the halt group of each hart, 0 for none (dmcs2; R83) -/
  groups : Tab Nat
deriving DecidableEq, Repr

/-! ### Power, Firefly and Governor -/

structure Power where
  pk : Nat
  pkPending : Bool
  pkTarget : Nat
  pkWakeTime : Nat
  pkEntering : Option Nat
  pkDrained : Bool
  pkWakeHeld : Option PkSrc
  pkExiting : Option PkSrc
  reqBusy : Bool
  reqResult : Nat
  reqOp : Nat
  reqType : Nat
  reqUnit : Nat
  reqHart : Nat
  gated : List (UnitId × Bool)
  wiping : List UnitId
deriving DecidableEq, Repr

/-- A Firefly channel's filter chain (R392). -/
structure FfFilt where
  sum : Nat
  n : Nat
  y : Option Nat
  hist : List Nat
  value : Nat
  comp : Bool
  fresh : Bool
deriving DecidableEq, Repr

def FfFilt.reset : FfFilt := { sum := 0, n := 0, y := none, hist := [], value := 0, comp := false, fresh := false }

/-- A rule's progress (R393): the condition as debounced, the run of opposite values, since when it has been true, and whether it has fired. -/
structure FfRuleSt where
  cond : Bool
  run : Nat
  since : Nat
  fired : Bool
deriving DecidableEq, Repr

def FfRuleSt.reset : FfRuleSt := { cond := false, run := 0, since := 0, fired := false }

/-- A Firefly log entry (R394). -/
structure FfEntry where
  seq : BitVec 32
  kind : Nat
  detail : Nat
  time : Nat
  body : BitVec 512
deriving DecidableEq, Repr

structure Firefly where
  booted : Bool
  restarting : Bool
  chan : Tab Word
  rules : Tab (Word × Word)
  staged : Tab Word
  filt : Tab FfFilt
  ruleSt : Tab FfRuleSt
  sel : Word
  alert : BitVec 5
  log : Tab FfEntry
  logSeq : Nat
  gpioOut : Tab Bool
  flushRule : Option Nat
  sar : Nat
deriving DecidableEq, Repr

/-- A Governor decision-log entry (R400). -/
structure GovEntry where
  time : Nat
  kind : Nat
  reason : Nat
  qid : Nat
  old : Nat
  new : Nat
  target : Nat
  slack : Word
  seq : Nat
deriving DecidableEq, Repr

/-- What the Governor keeps of a Quire over an epoch (R397). -/
structure GovQ where
  want : Option Nat
  run8 : Nat
  slack : Option Int
  missed : Bool
deriving DecidableEq, Repr

def GovQ.reset : GovQ := { want := none, run8 := 0, slack := none, missed := false }

structure Governor where
  quires : Tab GovQ
  log : Tab GovEntry
  logSeq : Nat
  logSel : Nat
  unmet : Nat
  refreshShift : Nat
  boost : Bool
  throttle : Tab Nat
deriving DecidableEq, Repr

/-! ### The whole -/

structure State where
  pending : List Instr
  free : Nat
  fuse : Fuse
  pins : Pins
  boot : Boot
  time : Time
  harts : Tab Hart
  clusters : Tab Cluster
  slices : Tab Slice
  net : Net
  fabric : Fabric
  links : Links
  mem : MemSys
  qe : Qe
  io : IoPorts
  sl : SysLink
  chk : Checks
  err : Errors
  clasp : Clasp
  dbg : Debug
  pwr : Power
  ff : Firefly
  gov : Governor
deriving DecidableEq, Repr

def Time.reset : Time :=
  { cycle := 0, slot := 0, started := false, now := 0, skew := [], holding := [], frame := 0, step := none,
    slewReg := 0x1F4, slewWrite := none, slewOn := false, slewDir := false, slewInterval := 500, slewCount := 0,
    boundaryInc := 1, restarted := false, lastSkewDie := 0, skewCount := 0 }

def Net.reset : Net := { coh := [], mail := [], ans := [], msi := [], marks := [], reports := [], io := [], again := [], stats := [] }

def Fabric.reset : Fabric :=
  { planGen := 0, bShare := 2, bShareNext := none, streams := [], slots := [], routes := [], plan := none }

def Links.reset : Links := { xl := [], repair := [], far := [], near := [], repairDirty := false, partner := [] }

def MemSys.reset : MemSys :=
  { bytes := [], poison := [], eras := [], wpq := [], reads := [], hbm := [], ddr := [], failedPc := [], failedCh := [], ddrN := 0,
    dimmGib := 0, keys := [], seals := [], cxl := [], retireDirty := false }

/-- The Queue Engine after reset; its context-cache LFSR holds 0xB1D0_0051 (R272). -/
def Qe.reset : Qe := { ctx := [], cached := [], lfsr := 0xB1D00051, lanes := [], vi := [], keys := [] }

def IoPorts.reset : IoPorts := { groups := [], cfg := [], pcfgAddr := [], tsn := [], aborts := [], held := [] }

def SysLink.reset : SysLink := { ports := [], reqs := [], recvs := [], nextTag := 0 }

def Errors.reset : Errors :=
  { slots := [], seq := 0, owner := EcRegs.reset, views := [], low := [], fenced := [], resets := [], paces := [] }

def Swd.reset : Swd := { enable := false, stage := 0, hart := 0, id := 0, periodMs := 0, counted := 0, since := none }

def Clasp.reset : Clasp :=
  { owners := [], updCounter := 0, floor := 0, svn := [0, 0, 0], flash := [], eff := Binding.empty, applied := false,
    ownerHash := [], digests := [], gens := [], noValid := false, cand := none, breq := [], seq := 0, queue := [],
    work := none, epoch := 0, resign := false, colophon := [], smbAnswer := [], challenge := none, session := none,
    swd := Swd.reset }

def Power.reset : Power :=
  { pk := 0, pkPending := false, pkTarget := 2, pkWakeTime := 0, pkEntering := none, pkDrained := false, pkWakeHeld := none,
    pkExiting := none, reqBusy := false, reqResult := 0, reqOp := 0, reqType := 0, reqUnit := 0, reqHart := 0,
    gated := [], wiping := [] }

def Firefly.reset : Firefly :=
  { booted := true, restarting := false, chan := [], rules := [], staged := [], filt := [], ruleSt := [], sel := 0,
    alert := 0, log := [], logSeq := 0, gpioOut := [], flushRule := none, sar := 7 }

def Governor.reset : Governor :=
  { quires := [], log := [], logSeq := 0, logSel := 0, unmet := 0, refreshShift := 0, boost := false, throttle := [] }

/-- The package with its rails good and RESET_N still low: the state that the rise of RESET_N starts from (R412, R415; log 9, log 10). -/
def State.reset : State :=
  { pending := [], free := 0,
    fuse := { part := .vb384, xGrade := false, fusedClusters := [], serial := 0 },
    pins := { stbyPwrgood := true, pwrgood := true, resetN := false, pwrfailN := true, aliveToggling := false,
              perstN := false, refclk := true, straps := 0, tap := [], dr := 0, wrap := [], sib := [] },
    boot := { phase := .standby, warm := false, cause := .pin, pllLocked := false, claspUp := false, booted := none,
              candidates := [], current := none, memTrained := false, fatal := none, flush := .none, flushTrigger := 0,
              flushTime := 0, flushByRule := false, flushMoving := [], bootCount := 0 },
    time := Time.reset, harts := [], clusters := [], slices := [], net := Net.reset, fabric := Fabric.reset,
    links := Links.reset, mem := MemSys.reset, qe := Qe.reset, io := IoPorts.reset, sl := SysLink.reset,
    chk := { units := [], fenced := [] }, err := Errors.reset, clasp := Clasp.reset,
    dbg := { cmderr := 0, data := 0, groups := [] }, pwr := Power.reset, ff := Firefly.reset,
    gov := Governor.reset }

end Sys2Proof.Machine
end

