-- ==== Sys2Proof/Machine/Tab.lean ====
section
/-! DEFINITION. Tables of like units: reading, writing and removing entries of `Tab`. -/

namespace Sys2Proof.Machine

/-- The entry listed for a key, if any. -/
def Tab.find {α : Type} (t : Tab α) (k : Nat) : Option α :=
  match t with
  | [] => none
  | (j, v) :: rest => if j = k then some v else Tab.find rest k

/-- The value of a key: an unlisted key holds the unit's reset value `d`. -/
def Tab.get {α : Type} (t : Tab α) (d : α) (k : Nat) : α :=
  (Tab.find t k).getD d

/-- The table with a key set to a value, keys in rising order. -/
def Tab.set {α : Type} (t : Tab α) (k : Nat) (v : α) : Tab α :=
  match t with
  | [] => [(k, v)]
  | (j, w) :: rest =>
    if k < j then (k, v) :: (j, w) :: rest
    else if k = j then (k, v) :: rest
    else (j, w) :: Tab.set rest k v

/-- The table with a key no longer listed. -/
def Tab.del {α : Type} (t : Tab α) (k : Nat) : Tab α :=
  t.filter (fun e => e.1 != k)

/-- The table with the value of a key changed by a function. -/
def Tab.mod {α : Type} (t : Tab α) (d : α) (k : Nat) (f : α → α) : Tab α :=
  Tab.set t k (f (Tab.get t d k))

/-- Every listed value changed by a function. -/
def Tab.mapAll {α β : Type} (t : Tab α) (f : Nat → α → β) : Tab β :=
  t.map (fun e => (e.1, f e.1 e.2))

/-- The table of the keys 0 to n-1 for which `f` gives a value. -/
def Tab.build {α : Type} (n : Nat) (f : Nat → Option α) : Tab α :=
  (List.range n).filterMap (fun k => (f k).map (fun v => (k, v)))

/-- The lowest key below n that is not listed. -/
def Tab.freeKey {α : Type} (t : Tab α) (n : Nat) : Option Nat :=
  (List.range n).find? (fun k => (Tab.find t k).isNone)

end Sys2Proof.Machine
end

