-- ==== Sys2Proof/Machine/Topo.lean ====
section
/-! DEFINITION. Dies, node IDs, units and the physical address map (R14 to R31, R223): pure functions of numbers. -/

namespace Sys2Proof.Machine

/-! ### Dies (R14 to R16) -/

def iodDie : Nat := 24

/-- The base die of a compute die (R15). -/
def bdOfCd (cd : Nat) : Nat := cd / 3

/-- The kinds of die, as DIE_INFO.DIE_KIND numbers them (R16). -/
inductive DieKind where
  | cd | bd | iod | partner
deriving DecidableEq, Repr

/-- The kind of a die ID, none for an ID that belongs to no die (R16). -/
def dieKind (d : Nat) : Option DieKind :=
  if d < 12 then some .cd
  else if 16 ≤ d ∧ d < 20 then some .bd
  else if d = 24 then some .iod
  else if d = 28 ∨ d = 29 then some .partner
  else none

/-- The seventeen dies of the package itself (R14). -/
def packageDies : List Nat := List.range 12 ++ [16, 17, 18, 19, 24]

/-- Router columns and rows of a die (R16). -/
def meshSize (k : DieKind) : Nat × Nat :=
  match k with
  | .cd => (4, 2)
  | .bd => (6, 4)
  | .iod => (5, 5)
  | .partner => (0, 0)

/-! ### Node IDs (R17 to R20) -/

/-- A node ID from die, router column, router row and endpoint index (R17, R18). -/
def mkNode (die x y e : Nat) : Nat := die * 256 + (e / 2 % 2 * 8 + y) * 16 + (e % 2 * 8 + x)

def nodeDie (n : Nat) : Nat := bitsOf n 8 5
def nodeX (n : Nat) : Nat := bitsOf n 0 3
def nodeY (n : Nat) : Nat := bitsOf n 4 3
def nodeE (n : Nat) : Nat := bitsOf n 7 1 * 2 + bitsOf n 3 1

/-- A system node ID (R19). -/
def systemNode (pkg n : Nat) : Nat := pkg * 0x2000 + n

/-- The control endpoint of a die (R20). -/
def ctlNode (die : Nat) : Nat := mkNode die 0 0 3

def clusterNode (cluster : Nat) : Nat := mkNode (cluster / 4) (cluster % 4) 0 0
def vportNode (cd p : Nat) : Nat := mkNode cd p 1 0

/-- The base-die end of a vertical port (R20). -/
def vportBdNode (cd p : Nat) : Nat :=
  mkNode (16 + bdOfCd cd) (2 * (cd % 3) + p % 2) (1 + p / 2) 1

def sliceNode (n : Nat) : Nat := mkNode (16 + n / 12) (n % 12 % 6) (1 + n % 12 / 6) 0
def hbmNode (stack : Nat) : Nat := mkNode (16 + stack / 2) (if stack % 2 = 0 then 0 else 5) 0 0
def ucieNode (u : Nat) : Nat := mkNode (16 + u / 4) (u % 4 + 1) 3 0

/-- A position in a short list of routers. -/
def posAt (l : List (Nat × Nat)) (i : Nat) : Nat × Nat := l.getD i (0, 0)

def ddrNode (ch : Nat) : Nat :=
  let p := posAt [(1, 0), (3, 0), (4, 1), (4, 3), (1, 4), (3, 4), (0, 1), (0, 3)] (ch / 2)
  mkNode 24 p.1 p.2 (ch % 2)
def pcieNode (g : Nat) : Nat :=
  let p := posAt [(2, 0), (4, 2), (2, 4), (0, 2)] (g / 2)
  mkNode 24 p.1 p.2 (g % 2)
def cornerAt (c : Nat) : Nat × Nat := posAt [(0, 0), (4, 0), (4, 4), (0, 4)] c
def slNode (p : Nat) : Nat := mkNode 24 (cornerAt (p / 2)).1 (cornerAt (p / 2)).2 (p % 2)
def tsnNode (c : Nat) : Nat := mkNode 24 (cornerAt c).1 (cornerAt c).2 2
def laneNode (n : Nat) : Nat :=
  let p := posAt [(1, 1), (2, 1), (3, 1), (3, 2), (3, 3), (2, 3), (1, 3), (1, 2)] n
  mkNode 24 p.1 p.2 0
def feNode : Nat := mkNode 24 2 2 2
def switchNode : Nat := mkNode 24 2 2 0
def fmNode : Nat := mkNode 24 2 2 1
def claspNode : Nat := mkNode 24 1 1 1
def checkNode : Nat := mkNode 24 2 1 1
def govNode : Nat := mkNode 24 3 1 1
def chipEcNode : Nat := mkNode 24 3 3 1
def aplicNode : Nat := mkNode 24 2 3 1
def ffNode : Nat := mkNode 24 1 3 1

/-! ### Harts, clusters and units (R22 to R24) -/

def hartCount : Nat := 384
def clusterCount : Nat := 48
def sliceCount : Nat := 48

def hartCd (h : Nat) : Nat := h / 32
def hartCluster (h : Nat) : Nat := h / 8
def hartCore (h : Nat) : Nat := h % 8
def hartNode (h : Nat) : Nat := clusterNode (hartCluster h)

/-- ORIGIN and BLAME of a core: its cluster's node with the core index in bits 15:13 (R338). -/
def hartOrigin (h : Nat) : Nat := hartCore h * 0x2000 + hartNode h

/-- The hart with a core index at a cluster's node (R22). -/
def hartAt (node core : Nat) : Nat := nodeDie node * 32 + nodeX node * 8 + core

/-- Whether a node is a cluster endpoint. -/
def isClusterNode (n : Nat) : Bool := nodeDie n < 12 && nodeE n == 0 && nodeY n == 0 && nodeX n < 4

def sliceBd (n : Nat) : Nat := n / 12
def sliceGroup (n : Nat) : Nat := n / 12 * 3 + n % 12 / 4

/-- The slice at a node, if it is one. -/
def sliceAt (node : Nat) : Option Nat := firstBelow 48 (fun n => sliceNode n == node)

/-- The port group, System Link port, TSN port or lane at a node. -/
def pcieAt (node : Nat) : Option Nat := firstBelow 8 (fun n => pcieNode n == node)
def slAt (node : Nat) : Option Nat := firstBelow 8 (fun p => slNode p == node)
def tsnAt (node : Nat) : Option Nat := firstBelow 4 (fun n => tsnNode n == node)
def laneAt (node : Nat) : Option Nat := firstBelow 8 (fun n => laneNode n == node)

/-! ### Crossings (R223) -/

/-- What joins a crossing's two ends. -/
inductive CrossKind where
  /-- vertical port p of a CD -/
  | vport (cd p : Nat)
  /-- UCIe module m of a BD -/
  | ucie (bd m : Nat)
  /-- partner-die site -/
  | partner (site : Nat)
deriving DecidableEq, Repr

/-- The crossing with a number, none where the number names none. -/
def crossing (x : Nat) : Option CrossKind :=
  if x < 48 then some (.vport (x / 4) (x % 4))
  else if 64 ≤ x ∧ x < 80 then some (.ucie ((x - 64) / 4) ((x - 64) % 4))
  else if x = 80 ∨ x = 81 then some (.partner (x - 80))
  else none

def allCrossings : List Nat := List.range 48 ++ (List.range 18).map (· + 64)

/-- The node that reports a crossing's errors: the CD end of a vertical port, the BD end of a module (R21). -/
def crossingNode (x : Nat) : Nat :=
  match crossing x with
  | some (.vport cd p) => vportNode cd p
  | some (.ucie bd m) => ucieNode (bd * 4 + m)
  | some (.partner _) => switchNode
  | none => switchNode

/-- The calibrated latency of a crossing in NoC cycles (R34). -/
def crossingLatency (x : Nat) : Nat := if x < 48 then 4 else 7

/-! ### The address map (R25, R26, R29, R30) -/

/-- The ranges of R25. -/
inductive Range where
  | reserved | mmio32 | hbm | ddr | cxl | mmio64 | imsic | doorbell | control
deriving DecidableEq, Repr

/-- The range an address lies in (R25). -/
def rangeOf (a : Nat) : Range :=
  if a < 0x80000000 then .reserved
  else if a < 0x100000000 then .mmio32
  else if a < 0x10000000000 then .reserved
  else if a < 0x18000000000 then .hbm
  else if a < 0x100000000000 then .reserved
  else if a < 0x140000000000 then .ddr
  else if a < 0x1000000000000 then .reserved
  else if a < 0x8000000000000 then .cxl
  else if a < 0xC000000000000 then .mmio64
  else if a < 0xD000000000000 then .reserved
  else if a < 0xE000000000000 then .imsic
  else if a < 0xE000008000000 then .doorbell
  else if a < 0xF000000000000 then .reserved
  else if a < 0xF002000000000 then .control
  else .reserved

/-- Whether a range has the PMA memory (R25). -/
def Range.isMemory (r : Range) : Bool :=
  match r with
  | .hbm | .ddr | .cxl => true
  | .reserved | .mmio32 | .mmio64 | .imsic | .doorbell | .control => false

/-- Whether a range has the PMA I/O (R25). -/
def Range.isIo (r : Range) : Bool :=
  match r with
  | .mmio32 | .mmio64 | .imsic | .doorbell | .control => true
  | .reserved | .hbm | .ddr | .cxl => false

def hbmBase : Nat := 0x10000000000
def ddrBase : Nat := 0x100000000000
def hbmWindow : Nat := 0x2000000000
def gib : Nat := 0x40000000

/-- The BD whose HBM window an address lies in (R26). -/
def hbmBd (a : Nat) : Nat := (a - hbmBase) / hbmWindow

/-- The pseudo-channel of an HBM address as UNIT numbers it: stack × 32 + channel × 2 + pseudo-channel (R252, R339). -/
def hbmPc (a : Nat) : Nat :=
  let o := (a - hbmBase) % hbmWindow
  let q := (List.range 5).foldl (fun x i => x ^^^ bitsOf o (6 * i + 12) 6) 0
  (2 * hbmBd a + q / 32) * 32 + q % 32

def controlBase : Nat := 0xF000000000000
def doorbellBase : Nat := 0xE000000000000
def imsicBase : Nat := 0xD000000000000

/-- A control-space address (R30): die, block index and offset; none where bits 47:37 are not zero or the address is not control space. -/
def decodeControl (a : Nat) : Option (Nat × Nat × Nat) :=
  if bitsOf a 48 4 = 0xF ∧ bitsOf a 37 11 = 0 then some (bitsOf a 32 5, bitsOf a 20 12, bitsOf a 0 20) else none

/-- The address of a register (R30). -/
def controlAddr (die block off : Nat) : Nat := controlBase + die * 0x100000000 + block * 0x100000 + off

/-- Whether R31 lists a block. -/
def blockListed (die block : Nat) : Bool :=
  match dieKind die with
  | none => false
  | some .cd =>
    (0x010 ≤ block && block ≤ 0x013) || (0x020 ≤ block && block ≤ 0x03F) || (0x040 ≤ block && block ≤ 0x043)
      || block == 0x050 || block == 0xFFE || block == 0xFFF
  | some .bd =>
    (0x010 ≤ block && block ≤ 0x01B) || (0x020 ≤ block && block ≤ 0x022) || (0x030 ≤ block && block ≤ 0x031)
      || (0x040 ≤ block && block ≤ 0x043) || block == 0x050 || block == 0xFFE || block == 0xFFF
  | some .iod =>
    block == 0x000 || block == 0x010 || block == 0x020 || block == 0x030 || block == 0x040 || block == 0x050
      || (0x100 ≤ block && block ≤ 0x1FF) || block == 0x200 || (0x300 ≤ block && block ≤ 0x307) || block == 0x400
      || block == 0x480 || (0x500 ≤ block && block ≤ 0x50F) || block == 0x600 || block == 0x601
      || block == 0xFFE || block == 0xFFF
  | some .partner => block == 0xFFE || block == 0xFFF

/-- An IMSIC page (R28): hart and file, file 0 machine, 1 supervisor, 2 to 8 guest files 1 to 7. -/
def decodeImsic (a : Nat) : Option (Nat × Nat) :=
  if imsicBase ≤ a ∧ a < imsicBase + hartCount * 0x1000 then some ((a - imsicBase) / 0x1000, 0)
  else if imsicBase + 0x100000000 ≤ a ∧ a < imsicBase + 0x100000000 + hartCount * 0x8000 then
    let o := a - (imsicBase + 0x100000000)
    some (o / 0x8000, 1 + o % 0x8000 / 0x1000)
  else none

end Sys2Proof.Machine
end

