-- ==== Sys2Proof/Machine/Memory.lean ====
section
/-! DEFINITION. Byte memories in canonical form, and the package's memory: what an unlisted byte reads as, lines, poison (R162, R172, R254). -/

namespace Sys2Proof.Machine

/-! ### Lists of cells -/

/-- One byte: the listed one, or what an unlisted address reads as. -/
def Memory.read (d : Nat → Byte) (m : List Host.Cell) (a : Nat) : Byte :=
  match m with
  | [] => d a
  | (k, b) :: rest => if k = a then b else Memory.read d rest a

/-- Addresses from lo on, strictly rising, none equal to what its address reads as unlisted. -/
def Memory.wfFrom (d : Nat → Byte) (lo : Nat) (m : List Host.Cell) : Bool :=
  match m with
  | [] => true
  | (k, b) :: rest => decide (lo ≤ k) && b != d k && Memory.wfFrom d (k + 1) rest

/-- The canonical form. -/
def Memory.wf (d : Nat → Byte) (m : List Host.Cell) : Bool := Memory.wfFrom d 0 m

/-- A cell put in front of a memory, left out where it holds what is read unlisted. -/
def Memory.cons (d : Nat → Byte) (a : Nat) (b : Byte) (m : List Host.Cell) : List Host.Cell :=
  if b = d a then m else (a, b) :: m

/-- One byte written, keeping the canonical form. -/
def Memory.write (d : Nat → Byte) (m : List Host.Cell) (a : Nat) (b : Byte) : List Host.Cell :=
  match m with
  | [] => Memory.cons d a b []
  | (k, c) :: rest =>
    if a < k then Memory.cons d a b ((k, c) :: rest)
    else if a = k then Memory.cons d a b rest
    else (k, c) :: Memory.write d rest a b

/-- n bytes from an address. -/
def Memory.readN (d : Nat → Byte) (m : List Host.Cell) (a n : Nat) : List Byte :=
  (List.range n).map (fun i => Memory.read d m (a + i))

/-- Bytes written from an address on. -/
def Memory.writeN (d : Nat → Byte) (m : List Host.Cell) (a : Nat) (bs : List Byte) : List Host.Cell :=
  match bs with
  | [] => m
  | b :: rest => Memory.writeN d (Memory.write d m a b) (a + 1) rest

/-- The cells outside a range. -/
def Memory.dropRange (m : List Host.Cell) (base size : Nat) : List Host.Cell :=
  m.filter (fun c => decide (c.1 < base) || decide (base + size ≤ c.1))

/-- The same cells under another rule for unlisted addresses. -/
def Memory.renorm (d : Nat → Byte) (m : List Host.Cell) : List Host.Cell :=
  m.filter (fun c => c.2 != d c.1)

/-! ### The package's memory -/

/-- Whether an address lies in a range of a list. -/
def inRanges (l : List (Nat × Nat)) (a : Nat) : Bool :=
  l.any (fun r => decide (r.1 ≤ a) && decide (a < r.1 + r.2))

/-- What an unlisted byte of memory reads as (log 4, log 20): zero, unless the newest era that covers it says otherwise. -/
def eraByte (es : List Era) (a : Nat) : Byte :=
  match es with
  | [] => 0
  | .zero b n :: rest => if inRanges [(b, n)] a then 0 else eraByte rest a
  | .poison _ _ :: rest => eraByte rest a
  | .poisonStack _ :: rest => eraByte rest a
  | .lost k kept :: rest => if inRanges kept a then eraByte rest a else Config.freeByte k a

/-- Whether an address lies in an HBM stack (R252). -/
def inStack (stack a : Nat) : Bool := decide (rangeOf a = .hbm) && hbmPc a / 32 == stack

/-- Whether an unlisted 16-byte granule is poisoned. -/
def eraPoison (es : List Era) (g : Nat) : Bool :=
  match es with
  | [] => false
  | .zero b n :: rest => if inRanges [(b, n)] (16 * g) then false else eraPoison rest g
  | .poison b n :: rest => if inRanges [(b, n)] (16 * g) then true else eraPoison rest g
  | .poisonStack k :: rest => if inStack k (16 * g) then true else eraPoison rest g
  | .lost _ kept :: rest => if inRanges kept (16 * g) then eraPoison rest g else false

/-- One byte of memory. -/
def MemSys.byte (m : MemSys) (a : Nat) : Byte := Memory.read (eraByte m.eras) m.bytes a

/-- n bytes of memory. -/
def MemSys.read (m : MemSys) (a n : Nat) : List Byte := Memory.readN (eraByte m.eras) m.bytes a n

/-- Bytes of memory written. -/
def MemSys.write (m : MemSys) (a : Nat) (bs : List Byte) : MemSys :=
  { m with bytes := Memory.writeN (eraByte m.eras) m.bytes a bs }

/-- Whether a granule is poisoned. -/
def MemSys.granule (m : MemSys) (g : Nat) : Bool :=
  Tab.get m.poison (eraPoison m.eras g) g

/-- The four POISON bits of a line (R172). -/
def MemSys.linePoison (m : MemSys) (l : Nat) : Poison :=
  BitVec.ofNat 4 (maskOf ((List.range 4).filter (fun i => m.granule (4 * l + i))))

/-- The data of a line. -/
def MemSys.lineData (m : MemSys) (l : Nat) : Line := lineOf (m.read (64 * l) 64)

/-- The POISON bits of a line set. -/
def MemSys.setPoison (m : MemSys) (l : Nat) (p : Poison) : MemSys :=
  { m with poison := (List.range 4).foldl (fun t i => Tab.set t (4 * l + i) (p.getLsbD i)) m.poison }

/-- A whole line written; a poisoned one is stored with the reserved check pattern, so that all four POISON bits read back (R254). -/
def MemSys.writeLine (m : MemSys) (l : Nat) (d : Line) (p : Poison) : MemSys :=
  (m.write (64 * l) (lineBytes d)).setPoison l (if p = 0 then 0 else 0xF)

/-- A range zeroed: its cells, its poison and what it reads unlisted (R260). -/
def MemSys.zeroRange (m : MemSys) (base size : Nat) : MemSys :=
  { m with bytes := Memory.dropRange m.bytes base size,
           poison := m.poison.filter (fun e => !inRanges [(base, size)] (16 * e.1)),
           eras := .zero base size :: m.eras }

/-- A range poisoned until it is written (R354). -/
def MemSys.poisonRange (m : MemSys) (base size : Nat) : MemSys :=
  { m with poison := m.poison.filter (fun e => !inRanges [(base, size)] (16 * e.1)),
           eras := .poison base size :: m.eras }

/-- Every line of an HBM stack poisoned until it is written (R354). -/
def MemSys.poisonStack (m : MemSys) (stack : Nat) : MemSys :=
  { m with poison := m.poison.filter (fun e => !inStack stack (16 * e.1)), eras := .poisonStack stack :: m.eras }

/-- Contents lost but for the kept ranges (R417; log 20). -/
def MemSys.lose (m : MemSys) (draw : Nat) (kept : List (Nat × Nat)) : MemSys :=
  let es := Era.lost draw kept :: m.eras
  { m with bytes := Memory.renorm (eraByte es) (m.bytes.filter (fun c => inRanges kept c.1)),
           poison := m.poison.filter (fun e => inRanges kept (16 * e.1)), eras := es }

/-- The canonical form of the package's memory. -/
def MemSys.wf (m : MemSys) : Bool := Memory.wf (eraByte m.eras) m.bytes

end Sys2Proof.Machine
end

