-- ==== Sys2Proof/Machine/Syndrome.lean ====
section
/-! DEFINITION. The syndromes with their severities (R13, R336, R359): 0 corrected, 1 deferred, 2 uncorrected-contained, 3 uncorrected-fatal. -/

namespace Sys2Proof.Machine

/-- A syndrome code and the severity its table gives it (R359). -/
structure Syndrome where
  code : Nat
  sev : Nat
deriving DecidableEq, Repr

namespace Syn

/-! ### 0x01 (R117) -/

/-- PAIR_DIVERGE (R117). -/
def pairDiverge : Syndrome := { code := 0x0101, sev := 2 }

/-- PAIR_TIMEOUT (R117). -/
def pairTimeout : Syndrome := { code := 0x0102, sev := 2 }

/-- WORLD_WRITE_DENIED (R117). -/
def worldWriteDenied : Syndrome := { code := 0x0103, sev := 0 }

/-- CORE_LOST (R117). -/
def coreLost : Syndrome := { code := 0x0104, sev := 2 }

/-- CORE_ARRAY_CE (R117). -/
def coreArrayCe : Syndrome := { code := 0x0105, sev := 0 }

/-- CORE_ARRAY_UE (R117). -/
def coreArrayUe : Syndrome := { code := 0x0106, sev := 2 }

/-- MB_UNDELIVERED (R117). -/
def mbUndelivered : Syndrome := { code := 0x0107, sev := 0 }

/-- MB_OVERRUN (R117). -/
def mbOverrun : Syndrome := { code := 0x0108, sev := 0 }

/-! ### 0x02 (R140) -/

/-- WALK_PTE_POISON (R140). -/
def walkPtePoison : Syndrome := { code := 0x0201, sev := 1 }

/-- TLB_ARRAY_CE (R140). -/
def tlbArrayCe : Syndrome := { code := 0x0202, sev := 0 }

/-- TLB_LOCKED_LOST (R140). -/
def tlbLockedLost : Syndrome := { code := 0x0203, sev := 0 }

/-! ### 0x03 (R165) -/

/-- L1D_CE (R165). -/
def l1dCe : Syndrome := { code := 0x0301, sev := 0 }

/-- L1D_UE_CLEAN (R165). -/
def l1dUeClean : Syndrome := { code := 0x0302, sev := 0 }

/-- L1D_UE_DIRTY (R165). -/
def l1dUeDirty : Syndrome := { code := 0x0303, sev := 1 }

/-- L2_CE (R165). -/
def l2Ce : Syndrome := { code := 0x0304, sev := 0 }

/-- L2_UE_CLEAN (R165). -/
def l2UeClean : Syndrome := { code := 0x0305, sev := 0 }

/-- L2_UE_DIRTY (R165). -/
def l2UeDirty : Syndrome := { code := 0x0306, sev := 1 }

/-- L2_TAG_UE (R165). -/
def l2TagUe : Syndrome := { code := 0x0307, sev := 2 }

/-- L3_CE (R165). -/
def l3Ce : Syndrome := { code := 0x0308, sev := 0 }

/-- L3_UE_CLEAN (R165). -/
def l3UeClean : Syndrome := { code := 0x0309, sev := 0 }

/-- L3_UE_DIRTY (R165). -/
def l3UeDirty : Syndrome := { code := 0x030A, sev := 1 }

/-- L3_TAG_UE (R165). -/
def l3TagUe : Syndrome := { code := 0x030B, sev := 2 }

/-- L3_SLICE_FENCED (R165). -/
def l3SliceFenced : Syndrome := { code := 0x030C, sev := 2 }

/-- L3_LOCK_LOST (R165). -/
def l3LockLost : Syndrome := { code := 0x030D, sev := 0 }

/-- LOCK_REJECTED (R165). -/
def lockRejected : Syndrome := { code := 0x030E, sev := 0 }

/-- L2_WAYCFG_DENIED (R165). -/
def l2WaycfgDenied : Syndrome := { code := 0x030F, sev := 0 }

/-! ### 0x04 (R196) -/

/-- COH_TIMEOUT (R196). -/
def cohTimeout : Syndrome := { code := 0x0401, sev := 2 }

/-- SNOOP_TIMEOUT (R196). -/
def snoopTimeout : Syndrome := { code := 0x0402, sev := 2 }

/-- COH_TAG_DUPLICATE (R196). -/
def cohTagDuplicate : Syndrome := { code := 0x0403, sev := 2 }

/-- COH_UNEXPECTED (R196). -/
def cohUnexpected : Syndrome := { code := 0x0404, sev := 0 }

/-- DIR_CE (R196). -/
def dirCe : Syndrome := { code := 0x0405, sev := 0 }

/-- DIR_UE (R196). -/
def dirUe : Syndrome := { code := 0x0406, sev := 0 }

/-- SF_CE (R196). -/
def sfCe : Syndrome := { code := 0x0407, sev := 0 }

/-- SF_UE (R196). -/
def sfUe : Syndrome := { code := 0x0408, sev := 0 }

/-- DIR_REBUILD (R196). -/
def dirRebuild : Syndrome := { code := 0x0409, sev := 0 }

/-! ### 0x05 (R222) -/

/-- UNMAPPED_ADDRESS (R222). -/
def unmappedAddress : Syndrome := { code := 0x0501, sev := 0 }

/-- TIME_SKEW (R222). -/
def timeSkew : Syndrome := { code := 0x0502, sev := 0 }

/-- FLIT_CE (R222). -/
def flitCe : Syndrome := { code := 0x0503, sev := 0 }

/-- FLIT_DATA_UE (R222). -/
def flitDataUe : Syndrome := { code := 0x0504, sev := 1 }

/-- FLIT_HDR_UE (R222). -/
def flitHdrUe : Syndrome := { code := 0x0505, sev := 2 }

/-- G_REPLAN (R222). -/
def gReplan : Syndrome := { code := 0x0506, sev := 0 }

/-- G_DEMOTED (R222). -/
def gDemoted : Syndrome := { code := 0x0507, sev := 0 }

/-- ROUTE_NO_MODULE (R222). -/
def routeNoModule : Syndrome := { code := 0x0508, sev := 2 }

/-! ### 0x06 (R246) -/

/-- XL_TRAIN_FAIL (R246). -/
def xlTrainFail : Syndrome := { code := 0x0601, sev := 2 }

/-- XL_SPARE_USED (R246). -/
def xlSpareUsed : Syndrome := { code := 0x0602, sev := 0 }

/-- XL_WIDTH_REDUCED (R246). -/
def xlWidthReduced : Syndrome := { code := 0x0603, sev := 0 }

/-- XL_FAILED (R246). -/
def xlFailed : Syndrome := { code := 0x0604, sev := 2 }

/-- XL_MARKER_DEV (R246). -/
def xlMarkerDev : Syndrome := { code := 0x0605, sev := 0 }

/-- XL_MAP_MISMATCH (R246). -/
def xlMapMismatch : Syndrome := { code := 0x0606, sev := 0 }

/-- XL_NO_VPORT (R246). -/
def xlNoVport : Syndrome := { code := 0x0607, sev := 2 }

/-- PARTNER_REJECTED (R246). -/
def partnerRejected : Syndrome := { code := 0x0608, sev := 0 }

/-- PARTNER_LOST (R246). -/
def partnerLost : Syndrome := { code := 0x0609, sev := 2 }

/-- TEST_ACCESS_DENIED (R246). -/
def testAccessDenied : Syndrome := { code := 0x060A, sev := 0 }

/-! ### 0x07 (R268) -/

/-- MEM_CE (R268). -/
def memCe : Syndrome := { code := 0x0701, sev := 0 }

/-- MEM_UE (R268). -/
def memUe : Syndrome := { code := 0x0702, sev := 1 }

/-- MEM_MAC_FAIL (R268). -/
def memMacFail : Syndrome := { code := 0x0703, sev := 1 }

/-- PAGE_RETIRED (R268). -/
def pageRetired : Syndrome := { code := 0x0704, sev := 0 }

/-- RETIRE_LIST_FULL (R268). -/
def retireListFull : Syndrome := { code := 0x0705, sev := 0 }

/-- HBM_PC_FAILED (R268). -/
def hbmPcFailed : Syndrome := { code := 0x0706, sev := 2 }

/-- DDR_CHANNEL_FAILED (R268). -/
def ddrChannelFailed : Syndrome := { code := 0x0707, sev := 2 }

/-- DDR_POPULATION (R268). -/
def ddrPopulation : Syndrome := { code := 0x0708, sev := 0 }

/-- CXL_MEM_ERROR (R268). -/
def cxlMemError : Syndrome := { code := 0x0709, sev := 1 }

/-- PFLUSH_DONE (R268). -/
def pflushDone : Syndrome := { code := 0x070A, sev := 0 }

/-- PFLUSH_INCOMPLETE (R268). -/
def pflushIncomplete : Syndrome := { code := 0x070B, sev := 1 }

/-- PFLUSH_LOST (R268). -/
def pflushLost : Syndrome := { code := 0x070C, sev := 1 }

/-! ### 0x08 (R297) -/

/-- QE_LANE_LOST (R297). -/
def qeLaneLost : Syndrome := { code := 0x0801, sev := 2 }

/-- QE_DB_RANGE (R297). -/
def qeDbRange : Syndrome := { code := 0x0802, sev := 0 }

/-- QE_DOORBELL_BAD (R297). -/
def qeDoorbellBad : Syndrome := { code := 0x0803, sev := 0 }

/-- QE_DOORBELL_IGNORED (R297). -/
def qeDoorbellIgnored : Syndrome := { code := 0x0804, sev := 0 }

/-- QE_RING_FAULT (R297). -/
def qeRingFault : Syndrome := { code := 0x0805, sev := 1 }

/-- QE_CTX_POISON (R297). -/
def qeCtxPoison : Syndrome := { code := 0x0806, sev := 1 }

/-- QE_DESC_POISON (R297). -/
def qeDescPoison : Syndrome := { code := 0x0807, sev := 1 }

/-- VI_DRAIN_EXPIRED (R297). -/
def viDrainExpired : Syndrome := { code := 0x0808, sev := 0 }

/-- QE_CQ_DROPPED (R297). -/
def qeCqDropped : Syndrome := { code := 0x0809, sev := 0 }

/-- PCIE_LINK_DOWN (R297). -/
def pcieLinkDown : Syndrome := { code := 0x080A, sev := 2 }

/-- PCIE_AER (R297). -/
def pcieAer : Syndrome := { code := 0x080B, sev := 0 }

/-- PCIE_MSI_DENIED (R297). -/
def pcieMsiDenied : Syndrome := { code := 0x080C, sev := 0 }

/-- PCIE_CFG_DENIED (R297). -/
def pcieCfgDenied : Syndrome := { code := 0x080D, sev := 0 }

/-- TSN_STREAM_LOST (R297). -/
def tsnStreamLost : Syndrome := { code := 0x080E, sev := 0 }

/-- TSN_LINK_DOWN (R297). -/
def tsnLinkDown : Syndrome := { code := 0x080F, sev := 0 }

/-- QE_MSI_DENIED (R297). -/
def qeMsiDenied : Syndrome := { code := 0x0810, sev := 0 }

/-! ### 0x09 (R315) -/

/-- SL_LINK_DOWN (R315). -/
def slLinkDown : Syndrome := { code := 0x0901, sev := 2 }

/-- SL_PEER_LOST (R315). -/
def slPeerLost : Syndrome := { code := 0x0902, sev := 2 }

/-- SL_PEER_RESETTING (R315). -/
def slPeerResetting : Syndrome := { code := 0x0903, sev := 0 }

/-- SL_PEER_REAPPEARED (R315). -/
def slPeerReappeared : Syndrome := { code := 0x0904, sev := 0 }

/-- SL_ID_CONFLICT (R315). -/
def slIdConflict : Syndrome := { code := 0x0905, sev := 0 }

/-- SL_ALIVE_FAULT (R315). -/
def slAliveFault : Syndrome := { code := 0x0906, sev := 0 }

/-- SL_NO_ROUTE (R315). -/
def slNoRoute : Syndrome := { code := 0x0907, sev := 0 }

/-- SL_HOP_LIMIT (R315). -/
def slHopLimit : Syndrome := { code := 0x0908, sev := 0 }

/-- SL_REMOTE_DENIED (R315). -/
def slRemoteDenied : Syndrome := { code := 0x0909, sev := 0 }

/-- SL_G_UNKNOWN (R315). -/
def slGUnknown : Syndrome := { code := 0x090A, sev := 0 }

/-! ### 0x0A (R327) -/

/-- CHECK_MISMATCH (R327). -/
def checkMismatch : Syndrome := { code := 0x0A01, sev := 0 }

/-- ALIVE_REPEAT (R327). -/
def aliveRepeat : Syndrome := { code := 0x0A02, sev := 0 }

/-- ALIVE_GAP (R327). -/
def aliveGap : Syndrome := { code := 0x0A03, sev := 0 }

/-- CHECK_CFG_REJECTED (R327). -/
def checkCfgRejected : Syndrome := { code := 0x0A04, sev := 0 }

/-- CHECK_UNIT_DENIED (R327). -/
def checkUnitDenied : Syndrome := { code := 0x0A05, sev := 0 }

/-- CHECK_UNIT_FAULT (R327). -/
def checkUnitFault : Syndrome := { code := 0x0A06, sev := 2 }

/-! ### 0x0B (R357) -/

/-- DL_MISS (R357). -/
def dlMiss : Syndrome := { code := 0x0B01, sev := 0 }

/-- DL_G_LATE (R357). -/
def dlGLate : Syndrome := { code := 0x0B02, sev := 0 }

/-- DL_QE_LATE (R357). -/
def dlQeLate : Syndrome := { code := 0x0B03, sev := 0 }

/-- DL_QE_EXPIRED (R357). -/
def dlQeExpired : Syndrome := { code := 0x0B04, sev := 0 }

/-- REQ_TIMEOUT (R357). -/
def reqTimeout : Syndrome := { code := 0x0B05, sev := 2 }

/-- ACK_TIMEOUT (R357). -/
def ackTimeout : Syndrome := { code := 0x0B06, sev := 2 }

/-- REQ_LATE_GRANT (R357). -/
def reqLateGrant : Syndrome := { code := 0x0B07, sev := 0 }

/-- POISON_CONSUMED (R357). -/
def poisonConsumed : Syndrome := { code := 0x0B08, sev := 1 }

/-- CONFIG_WHILE_ACTIVE (R357). -/
def configWhileActive : Syndrome := { code := 0x0B10, sev := 0 }

/-- RESERVED_WRITE (R357). -/
def reservedWrite : Syndrome := { code := 0x0B11, sev := 0 }

/-- SECONDARY_SUPPRESSED (R357). -/
def secondarySuppressed : Syndrome := { code := 0x0B12, sev := 0 }

/-- FENCE_ESCALATED (R357). -/
def fenceEscalated : Syndrome := { code := 0x0B13, sev := 2 }

/-- FATAL_RESET (R357). -/
def fatalReset : Syndrome := { code := 0x0B14, sev := 3 }

/-- UNIT_RESET (R357). -/
def unitReset : Syndrome := { code := 0x0B15, sev := 0 }

/-- RESET_FAILED (R357). -/
def resetFailed : Syndrome := { code := 0x0B16, sev := 2 }

/-- EC_ACCESS_DENIED (R357). -/
def ecAccessDenied : Syndrome := { code := 0x0B17, sev := 0 }

/-- REGION_FENCED (R357). -/
def regionFenced : Syndrome := { code := 0x0B18, sev := 2 }

/-! ### 0x0C (R377) -/

/-- WORLD_ACCESS_DENIED (R377). -/
def worldAccessDenied : Syndrome := { code := 0x0C01, sev := 0 }

/-- MSI_WORLD_DENIED (R377). -/
def msiWorldDenied : Syndrome := { code := 0x0C02, sev := 0 }

/-- WORLD_HELD (R377). -/
def worldHeld : Syndrome := { code := 0x0C03, sev := 0 }

/-- BLOCK_LOST (R377). -/
def blockLost : Syndrome := { code := 0x0C04, sev := 2 }

/-- SECURE_WIPE_FAIL (R377). -/
def secureWipeFail : Syndrome := { code := 0x0C05, sev := 2 }

/-- SWD_FIRST (R377). -/
def swdFirst : Syndrome := { code := 0x0C06, sev := 0 }

/-- SWD_RESET (R377). -/
def swdReset : Syndrome := { code := 0x0C07, sev := 3 }

/-- DEBUG_OPENED (R377). -/
def debugOpened : Syndrome := { code := 0x0C08, sev := 0 }

/-- DEBUG_CLOSED (R377). -/
def debugClosed : Syndrome := { code := 0x0C09, sev := 0 }

/-- DEBUG_AUTH_FAIL (R377). -/
def debugAuthFail : Syndrome := { code := 0x0C0A, sev := 0 }

/-- OWNER_KEY_FAIL (R377). -/
def ownerKeyFail : Syndrome := { code := 0x0C0B, sev := 0 }

/-- OWNER_KEY_CHANGED (R377). -/
def ownerKeyChanged : Syndrome := { code := 0x0C0C, sev := 0 }

/-- CRYPTO_KEY_DENIED (R377). -/
def cryptoKeyDenied : Syndrome := { code := 0x0C0D, sev := 0 }

/-- KEYSTORE_FAULT (R377). -/
def keystoreFault : Syndrome := { code := 0x0C0E, sev := 3 }

/-! ### 0x0D (R402) -/

/-- REFCLK_LOST (R402). -/
def refclkLost : Syndrome := { code := 0x0D01, sev := 3 }

/-- THERMAL_THROTTLE (R402). -/
def thermalThrottle : Syndrome := { code := 0x0D02, sev := 0 }

/-- THERMAL_TRIP (R402). -/
def thermalTrip : Syndrome := { code := 0x0D03, sev := 3 }

/-- PK_ENTERED (R402). -/
def pkEntered : Syndrome := { code := 0x0D04, sev := 0 }

/-- PK_WOKEN (R402). -/
def pkWoken : Syndrome := { code := 0x0D05, sev := 0 }

/-- FF_RULE_FIRED (R402). -/
def ffRuleFired : Syndrome := { code := 0x0D06, sev := 0 }

/-- FF_LOCKSTEP (R402). -/
def ffLockstep : Syndrome := { code := 0x0D07, sev := 2 }

/-- GOV_LIMIT_UNMET (R402). -/
def govLimitUnmet : Syndrome := { code := 0x0D08, sev := 0 }

/-- PWR_REQ_DENIED (R402). -/
def pwrReqDenied : Syndrome := { code := 0x0D09, sev := 0 }

/-- RAIL_FAULT (R402). -/
def railFault : Syndrome := { code := 0x0D0A, sev := 2 }

/-! ### 0x0E (R358) -/

/-- BIND_HEADER_INVALID (R358). -/
def bindHeaderInvalid : Syndrome := { code := 0x0E01, sev := 0 }

/-- BIND_ROLLBACK (R358). -/
def bindRollback : Syndrome := { code := 0x0E02, sev := 0 }

/-- BIND_TARGET_MISMATCH (R358). -/
def bindTargetMismatch : Syndrome := { code := 0x0E03, sev := 0 }

/-- BIND_KEY_UNKNOWN (R358). -/
def bindKeyUnknown : Syndrome := { code := 0x0E04, sev := 0 }

/-- BIND_SIGNATURE_FAIL (R358). -/
def bindSignatureFail : Syndrome := { code := 0x0E05, sev := 0 }

/-- BIND_TABLE_INVALID (R358). -/
def bindTableInvalid : Syndrome := { code := 0x0E06, sev := 0 }

/-- BIND_SECTION_MISSING (R358). -/
def bindSectionMissing : Syndrome := { code := 0x0E07, sev := 0 }

/-- BIND_FIELD_INVALID (R358). -/
def bindFieldInvalid : Syndrome := { code := 0x0E08, sev := 0 }

/-- BIND_CONFLICT (R358). -/
def bindConflict : Syndrome := { code := 0x0E09, sev := 0 }

/-- BIND_FUSED_RESOURCE (R358). -/
def bindFusedResource : Syndrome := { code := 0x0E0A, sev := 0 }

/-- BIND_G_INADMISSIBLE (R358). -/
def bindGInadmissible : Syndrome := { code := 0x0E0B, sev := 0 }

/-- BIND_APPLY_FAIL (R358). -/
def bindApplyFail : Syndrome := { code := 0x0E0C, sev := 2 }

/-- NO_VALID_BINDING (R358). -/
def noValidBinding : Syndrome := { code := 0x0E0D, sev := 0 }

/-- COMMIT_RECORD_INVALID (R358). -/
def commitRecordInvalid : Syndrome := { code := 0x0E0E, sev := 0 }

/-- DELTA_REJECTED (R358). -/
def deltaRejected : Syndrome := { code := 0x0E10, sev := 0 }

/-- HANDOVER_TIMEOUT (R358). -/
def handoverTimeout : Syndrome := { code := 0x0E11, sev := 0 }

/-- HANDOVER_REFUSED (R358). -/
def handoverRefused : Syndrome := { code := 0x0E12, sev := 0 }

/-- HANDOVER_WORLD (R358). -/
def handoverWorld : Syndrome := { code := 0x0E13, sev := 0 }

/-- STORE_FAIL (R358). -/
def storeFail : Syndrome := { code := 0x0E14, sev := 0 }

end Syn

end Sys2Proof.Machine
end

