-- ==== Sys2Proof/Machine/Ops.lean ====
section
/-! DEFINITION. The named operations over the state that every family shares: units by number, free values, what the effective Binding says of a resource, messages, and the forming of error records. -/

namespace Sys2Proof.Machine

/-- The outcome of a command that takes effect. -/
abbrev Result := Host.Outcome State Fault Refusal

/-! ### Units by number -/

def State.hart (s : State) (h : Nat) : Hart := Tab.get s.harts Hart.reset h
def State.setHart (s : State) (h : Nat) (x : Hart) : State := { s with harts := Tab.set s.harts h x }
def State.modHart (s : State) (h : Nat) (f : Hart → Hart) : State := s.setHart h (f (s.hart h))

def State.cluster (s : State) (c : Nat) : Cluster := Tab.get s.clusters Cluster.reset c
def State.setCluster (s : State) (c : Nat) (x : Cluster) : State := { s with clusters := Tab.set s.clusters c x }

def State.slice (s : State) (n : Nat) : Slice := Tab.get s.slices Slice.reset n
def State.setSlice (s : State) (n : Nat) (x : Slice) : State := { s with slices := Tab.set s.slices n x }
def State.modSlice (s : State) (n : Nat) (f : Slice → Slice) : State := s.setSlice n (f (s.slice n))

def State.xl (s : State) (x : Nat) : Xl := Tab.get s.links.xl Xl.reset x
def State.setXl (s : State) (x : Nat) (v : Xl) : State :=
  { s with links := { s.links with xl := Tab.set s.links.xl x v } }

def State.partner (s : State) (i : Nat) : Partner := Tab.get s.links.partner Partner.reset i
def State.setPartner (s : State) (i : Nat) (v : Partner) : State :=
  { s with links := { s.links with partner := Tab.set s.links.partner i v } }

def State.stream (s : State) (n : Nat) : Stream := Tab.get s.fabric.streams Stream.reset n
def State.setStream (s : State) (n : Nat) (v : Stream) : State :=
  { s with fabric := { s.fabric with streams := Tab.set s.fabric.streams n v } }

def State.hbm (s : State) (i : Nat) : Ctl := Tab.get s.mem.hbm Ctl.reset i
def State.ddr (s : State) (i : Nat) : Ctl := Tab.get s.mem.ddr Ctl.reset i
def State.cxl (s : State) (g : Nat) : Cxl := Tab.get s.mem.cxl Cxl.reset g

def State.queue (s : State) (q : Nat) : QCtx := Tab.get s.qe.ctx QCtx.reset q
def State.setQueue (s : State) (q : Nat) (v : QCtx) : State := { s with qe := { s.qe with ctx := Tab.set s.qe.ctx q v } }
def State.lane (s : State) (n : Nat) : Lane := Tab.get s.qe.lanes Lane.reset n
def State.setLane (s : State) (n : Nat) (v : Lane) : State :=
  { s with qe := { s.qe with lanes := Tab.set s.qe.lanes n v } }
def State.vi (s : State) (n : Nat) : Vi := Tab.get s.qe.vi Vi.reset n
def State.setVi (s : State) (n : Nat) (v : Vi) : State := { s with qe := { s.qe with vi := Tab.set s.qe.vi n v } }

def State.group (s : State) (g : Nat) : PortGroup := Tab.get s.io.groups PortGroup.reset g
def State.setGroup (s : State) (g : Nat) (v : PortGroup) : State :=
  { s with io := { s.io with groups := Tab.set s.io.groups g v } }
def State.tsn (s : State) (c : Nat) : Tsn := Tab.get s.io.tsn Tsn.reset c
def State.setTsn (s : State) (c : Nat) (v : Tsn) : State := { s with io := { s.io with tsn := Tab.set s.io.tsn c v } }

def State.slPort (s : State) (p : Nat) : SlPort := Tab.get s.sl.ports SlPort.reset p
def State.setSlPort (s : State) (p : Nat) (v : SlPort) : State :=
  { s with sl := { s.sl with ports := Tab.set s.sl.ports p v } }

def State.breq (s : State) (q : Nat) : Breq := Tab.get s.clasp.breq Breq.reset q
def State.setBreq (s : State) (q : Nat) (v : Breq) : State :=
  { s with clasp := { s.clasp with breq := Tab.set s.clasp.breq q v } }

def State.govQ (s : State) (q : Nat) : GovQ := Tab.get s.gov.quires GovQ.reset q
def State.setGovQ (s : State) (q : Nat) (v : GovQ) : State :=
  { s with gov := { s.gov with quires := Tab.set s.gov.quires q v } }

/-! ### Free values (log 12) -/

/-- A fresh free value, and the state with the draw counted. -/
def State.draw (s : State) : Nat × State := (Config.freeValue s.free, { s with free := s.free + 1 })

/-- n fresh bytes from one draw. -/
def State.drawBytes (s : State) (n : Nat) : List Byte × State := (toLE n s.draw.1, s.draw.2)

/-! ### Package time (R37) -/

/-- Package time as a die's copy counts it. -/
def State.dieTime (s : State) (die : Nat) : Nat :=
  (((s.time.now : Int) + Tab.get s.time.skew 0 die) % (2 ^ 64 : Nat)).toNat

/-- Package time as the IOD counts it. -/
def State.now (s : State) : Nat := s.time.now % 2 ^ 64

/-- Package time as a hart reads it (R37). -/
def State.hartTime (s : State) (h : Nat) : Nat := s.dieTime (hartCd h)

/-! ### The part (R2 to R5) -/

def Fuse.hbmGibPerBd (f : Fuse) : Nat :=
  match f.part with
  | .vb384 | .vb320 => 72
  | .vb256 => 48

/-- ORDERING of the Colophon header (R370), and the bit of TARGET (R43). -/
def Fuse.ordering (f : Fuse) : Nat :=
  match f.part with
  | .vb384 => 0
  | .vb320 => 1
  | .vb256 => 2

/-- TDP in W (R2). -/
def Fuse.tdp (f : Fuse) : Nat :=
  match f.part with
  | .vb384 => 1350
  | .vb320 => 1150
  | .vb256 => 950

/-- The clusters fused off on each base die (R3). -/
def Fuse.fusedPerBd (f : Fuse) : Nat :=
  match f.part with
  | .vb384 => 0
  | .vb320 => 2
  | .vb256 => 4

/-- Enabled clusters and cores of the part (R2). -/
def Fuse.clusters (f : Fuse) : Nat := clusterCount - 4 * f.fusedPerBd
def Fuse.cores (f : Fuse) : Nat := 8 * f.clusters

/-- Whether a fuse map is one that the part can have (R2, R3): its clusters in rising order, as many on each base die as R3 says. -/
def Fuse.legal (f : Fuse) : Bool :=
  f.fusedClusters == (List.range clusterCount).filter f.fusedClusters.contains
    && (List.range 4).all (fun b => (f.fusedClusters.filter (fun c => c / 12 == b)).length == f.fusedPerBd)

/-- Whether a global cluster ID exists and is not fused off (R4, R23). -/
def Fuse.clusterOk (f : Fuse) (c : Nat) : Bool := c < clusterCount && !f.fusedClusters.contains c

/-- Whether a global hart ID belongs to a hart (R4, R23). -/
def Fuse.hartOk (f : Fuse) (h : Nat) : Bool := h < hartCount && f.clusterOk (hartCluster h)

/-! ### What the effective Binding says -/

def State.bind (s : State) : Binding := s.clasp.eff

def Binding.quire (b : Binding) (q : Nat) : Option Quire := b.quires.find? (fun r => r.qid == q)

/-- Secure-only (R50). -/
def Quire.secureOnly (r : Quire) : Bool := r.initialSecure && !r.dualWorld

def Binding.secureOnly (b : Binding) (q : Nat) : Bool := ((b.quire q).map Quire.secureOnly).getD false
def Binding.dualWorld (b : Binding) (q : Nat) : Bool := ((b.quire q).map Quire.dualWorld).getD false

/-- The QID-0 DEADLINE_POLICY record (R64). -/
def Binding.timing (b : Binding) : Option DeadlineRec := b.deadlines.find? (fun r => r.qid == 0)

/-- The time owner, who is the error owner too (R40, R64, R345); none before a Binding is applied. -/
def Binding.owner (b : Binding) : Option Nat := b.timing.map (·.supervisor)

/-- A Quire's DEADLINE_POLICY record (R330). -/
def Binding.deadline (b : Binding) (q : Nat) : Option DeadlineRec :=
  if q = 0 then none else b.deadlines.find? (fun r => r.qid == q)

/-- The Quires that name another as their supervisor (R64). -/
def Binding.supervises (b : Binding) (boss q : Nat) : Bool :=
  ((b.deadline q).map (fun r => r.supervisor == boss && boss != 0)).getD false

/-- A completion timeout in ns by class: 0 B, 1 U, 2 G (R64, R332). -/
def Binding.timeoutNs (b : Binding) (cls : Nat) : Nat :=
  match b.timing with
  | some r => 1000 * (if cls = 2 then r.toGUs else if cls = 1 then r.toUUs else r.toBUs)
  | none => 0

/-- The windows of a Quire (R53). -/
def Binding.windowsOf (b : Binding) (q : Nat) : List MemWin := b.windows.filter (fun w => w.qid == q)

def MemWin.has (w : MemWin) (i : Nat) : Bool := w.flags.getLsbD i
def MemWin.secure (w : MemWin) : Bool := w.has 4
def MemWin.covers (w : MemWin) (a n : Nat) : Bool := decide (w.base ≤ a) && decide (a + n ≤ w.base + w.size)

/-- The window of a Quire that holds n bytes from an address. -/
def Binding.window (b : Binding) (q a n : Nat) : Option MemWin := (b.windowsOf q).find? (fun w => w.covers a n)

/-- The INTERRUPTS record that covers an identity (R59). -/
def Binding.intrRec (b : Binding) (hart file id : Nat) : Option IntrRec :=
  b.intrs.find? (fun r => r.hart == hart && r.file == file && decide (r.firstId ≤ id) && decide (id < r.firstId + r.count))

/-- Whether an identity is Secure (R361). -/
def Binding.idSecure (b : Binding) (hart file id : Nat) : Bool :=
  ((b.intrRec hart file id).map (·.secure)).getD false

/-- The QUEUES record of a queue (kind 1) or a VI (kind 2) (R58). -/
def Binding.queueRec (b : Binding) (kind n : Nat) : Option QueueRec :=
  b.queues.find? (fun r => r.kind == kind && decide (r.first ≤ n) && decide (n < r.first + r.count))

/-- The owner of a queue or VI, 0 for none (R58). -/
def Binding.queueOwner (b : Binding) (kind n : Nat) : Nat := ((b.queueRec kind n).map (·.qid)).getD 0
def Binding.queueSecure (b : Binding) (kind n : Nat) : Bool := ((b.queueRec kind n).map (·.secure)).getD false

/-- The DEVICE_FUNCTIONS record of a function (R60). -/
def Binding.function (b : Binding) (group bdf : Nat) : Option DevFn :=
  b.functions.find? (fun r => r.group == group && r.bdf == bdf)

/-- The CHECK_UNITS record of a unit (R62). -/
def Binding.checkRec (b : Binding) (u : Nat) : Option CheckRec := b.checks.find? (fun r => r.unit == u)

/-- A partner record (R61, R312). -/
def Binding.partnerRec (b : Binding) (kind n : Nat) : Option PartnerRec :=
  (b.sysLink.bind (fun t => t.partners.find? (fun r => r.kind == kind && r.partner == n)))

/-- A Quire's GOVERNOR_POLICY record (R65). -/
def Binding.gov (b : Binding) (q : Nat) : Option GovRec := b.govs.find? (fun r => r.qid == q)

/-- Whether a Quire may signal an identity (R59): its record's Quire, or without a record the hart's own. -/
def State.maySignal (s : State) (q hart file id : Nat) : Bool :=
  match s.bind.intrRec hart file id with
  | some r => r.qid == q
  | none => (s.hart hart).qid == q && q != 0

/-! ### Units and fences -/

def UnitId.of (ty no : Nat) : UnitId := { ty := ty, no := no }
def coreUnit (h : Nat) : UnitId := UnitId.of 0x01 h
def dieUnit (d : Nat) : UnitId := UnitId.of 0x10 d

def State.isFenced (s : State) (u : UnitId) : Bool := s.err.fenced.any (fun f => f.unit == u)

/-- The unit of the next level up (R339), none at the package or for a unit outside the ladder. -/
def container (u : UnitId) : Option UnitId :=
  match u.ty with
  | 0x01 => some (UnitId.of 0x02 (hartCluster u.no))
  | 0x02 => some (dieUnit (u.no / 4))
  | 0x03 => some (UnitId.of 0x04 (sliceGroup u.no))
  | 0x04 => some (dieUnit (16 + u.no / 3))
  | 0x05 => some (dieUnit (nodeDie u.no))
  | 0x06 => some (UnitId.of 0x07 (u.no / 32))
  | 0x07 => some (dieUnit (16 + u.no / 2))
  | 0x08 => some (dieUnit 24)
  | 0x09 =>
    match crossing u.no with
    | some (.vport cd _) => some (dieUnit cd)
    | some (.ucie bd _) => some (dieUnit (16 + bd))
    | some (.partner _) => some (dieUnit 24)
    | none => none
  | 0x0A | 0x0B | 0x0C | 0x0D | 0x0E => some (dieUnit 24)
  | 0x0F => if u.no < 8 then some (UnitId.of 0x0A u.no) else if u.no < 16 then some (UnitId.of 0x0D (u.no - 8)) else some (dieUnit 24)
  | _ => none

/-- Whether a unit type lies at cell, block or region level (R339). -/
def fenceable (ty : Nat) : Bool := (1 ≤ ty && ty ≤ 0x10)

/-- The unit types whose fence has a command of its own that carries it out (R346, R164, R284, R349, R350); the fence of any other unit is complete at once. -/
def fencedByCommand (ty : Nat) : Bool := ty == 0x01 || ty == 0x03 || ty == 0x0A || ty == 0x10

/-- While a persistent flush or a warm reset runs, homes start no transaction and lanes and ports accept no new request (R266, R418). -/
def State.halting (s : State) : Bool := decide (s.boot.flush ≠ .none) || decide (s.boot.phase = .draining)

/-- Whether a unit's clock or power is gated (R401). -/
def State.isGated (s : State) (u : UnitId) : Bool := s.pwr.gated.any (fun e => e.1 == u)

/-! ### Messages -/

/-- An MSI put on its way (R28, R362). -/
def State.sendMsi (s : State) (hart file id : Nat) (secure : Bool) : State :=
  { s with net := { s.net with msi := s.net.msi ++ [{ hart := hart, file := file, id := id, secure := secure }] } }

/-- The initiator at a node, with its statistics index (R220): none at a home, a controller or a manager. -/
def initiatorAt (node core : Nat) : Option Nat :=
  if isClusterNode node then some (hartAt node core)
  else if node = claspNode then some 412
  else if node = govNode then some 413
  else if nodeDie node = 28 then some 414
  else if nodeDie node = 29 then some 415
  else match laneAt node with
    | some n => some (384 + n)
    | none =>
      match pcieAt node with
      | some n => some (392 + n)
      | none =>
        match slAt node with
        | some n => some (400 + n)
        | none => (tsnAt node).map (fun n => 408 + n)

/-- The histogram bin of a latency in ns (R220). -/
def histBin (l : Nat) : Nat := if l < 8 then 0 else if 131072 ≤ l then 15 else Nat.log2 l - 2

/-- Bytes by class, and the bin of a Dat or Cmp, counted in a page that is not frozen (R220). -/
def Stats.note (p : Stats) (cls bytes : Nat) (lat : Option Nat) : Stats :=
  if p.freeze then p
  else
    let b := word bytes
    let p := if cls = 2 then { p with bytesG := p.bytesG + b } else if cls = 1 then { p with bytesU := p.bytesU + b }
      else { p with bytesB := p.bytesB + b }
    match lat with
    | some l =>
      let k := histBin l
      let c := Tab.get p.hist 0 k
      { p with hist := Tab.set p.hist k (if c.toNat + 1 < 2 ^ 48 then c + 1 else c) }
    | none => p

def Net.note (n : Net) (i cls bytes : Nat) (lat : Option Nat) : Net :=
  { n with stats := Tab.set n.stats i ((Tab.get n.stats Stats.reset i).note cls bytes lat) }

/-- Counted for the initiator at a node, if there is one. -/
def Net.noteAt (n : Net) (node core cls bytes : Nat) (lat : Option Nat) : Net :=
  match initiatorAt node core with
  | some i => n.note i cls bytes lat
  | none => n

def State.noteStats (s : State) (i cls bytes : Nat) (lat : Option Nat) : State := { s with net := s.net.note i cls bytes lat }

def State.noteAt (s : State) (node core cls bytes : Nat) (lat : Option Nat) : State :=
  { s with net := s.net.noteAt node core cls bytes lat }

/-- The data flit of a message counted for the initiator that sends it (R220). -/
def Net.noteSent (n : Net) (m : CohMsg) : Net := if m.hasData then n.noteAt m.src m.core m.cls 64 none else n

/-- A message put on its way. -/
def State.sendCoh (s : State) (m : CohMsg) : State :=
  { s with net := ({ s.net with coh := s.net.coh ++ [m] }).noteSent m }

/-- A message that has arrived is no longer in flight (log 7); one that no unit of the model had sent comes from the agent at its source, which is counted as its sender. -/
def State.takeCoh (s : State) (m : CohMsg) : State :=
  { s with net := if s.net.coh.contains m then { s.net with coh := s.net.coh.erase m } else s.net.noteSent m }

/-- An event for a paced target (R331): an MSI at once, or one when the 10 µs end. -/
def State.pacedMsi (s : State) (src hart file id : Nat) (secure : Bool) : State :=
  let same := fun (p : Pace) => p.src == src && p.hart == hart && p.file == file && p.id == id
  let old := s.err.paces.find? same
  let rest := s.err.paces.filter (fun p => !same p)
  let due := match old.bind (·.last) with
    | some t => decide (t + 10000 ≤ s.time.now)
    | none => true
  if due then
    let p : Pace := { src := src, hart := hart, file := file, id := id, secure := secure, last := some s.time.now, held := false }
    ({ s with err := { s.err with paces := rest ++ [p] } }).sendMsi hart file id secure
  else
    let p : Pace := { src := src, hart := hart, file := file, id := id, secure := secure, last := old.bind (·.last), held := true }
    { s with err := { s.err with paces := rest ++ [p] } }

/-- The Colophon is to be signed again (R372). -/
def State.needResign (s : State) : State := { s with clasp := { s.clasp with resign := true } }

/-! ### Error records (R338 to R344) -/

/-- A record with the fields every record has; times, COUNT and SEQ are given by the collectors. -/
def Syndrome.record (y : Syndrome) (origin ty no qid : Nat) : ErrRec :=
  { severity := y.sev, addrValid := false, blameValid := false, secure := false, saturated := false, escalated := false,
    syndrome := y.code, origin := origin, unitType := ty, qid := qid, unit := no, blame := 0, count := 1, first := 0,
    last := 0, addr := 0, info := 0, seq := 0 }

def ErrRec.withAddr (r : ErrRec) (a : Nat) : ErrRec := { r with addr := a, addrValid := true }
def ErrRec.withBlame (r : ErrRec) (n : Nat) : ErrRec := { r with blame := n, blameValid := true }
def ErrRec.withSecure (r : ErrRec) (b : Bool) : ErrRec := { r with secure := b }

/-- n bytes of INFO from byte off on (R429). -/
def ErrRec.withInfo (r : ErrRec) (off n v : Nat) : ErrRec :=
  { r with info := BitVec.ofNat 128 (r.info.toNat - bitsOf r.info.toNat (8 * off) (8 * n) * 2 ^ (8 * off)
                                      + v % 2 ^ (8 * n) * 2 ^ (8 * off)) }

/-- The collector in which a record of an origin is formed (R340): the lowest unit that contains the origin, else the origin's die. -/
def originUnit (r : ErrRec) : UnitId :=
  let n := r.origin % 0x2000
  let die := nodeDie n
  if isClusterNode n then
    if r.unitType = 0x01 then coreUnit r.unit else UnitId.of 0x02 (die * 4 + nodeX n)
  else match sliceAt n with
    | some k => UnitId.of 0x03 k
    | none =>
      if (r.unitType = 0x06 ∨ r.unitType = 0x08 ∨ r.unitType = 0x09 ∨ r.unitType = 0x0A ∨ r.unitType = 0x05 ∨ r.unitType = 0x0F)
        ∧ (container (UnitId.of r.unitType r.unit)).isSome then UnitId.of r.unitType r.unit
      else match firstBelow 8 (fun i => hbmNode i == n), pcieAt n, firstBelow 8 (fun i => slNode i == n),
          firstBelow 4 (fun i => tsnNode i == n), laneAt n with
        | some i, _, _, _, _ => UnitId.of 0x07 i
        | _, some i, _, _, _ => UnitId.of 0x0C i
        | _, _, some i, _, _ => UnitId.of 0x0D i
        | _, _, _, some i, _ => UnitId.of 0x0E i
        | _, _, _, _, some i => UnitId.of 0x0A i
        | _, _, _, _, _ => if n = feNode then UnitId.of 0x0B 0 else dieUnit die

/-- How many copies a collector keeps (R340). -/
def capacityOf (u : UnitId) : Nat :=
  match u.ty with
  | 0x10 => 64
  | 0x02 | 0x04 | 0x07 | 0x0B | 0x0C | 0x0D | 0x0E => 16
  | _ => 2

/-- Whether two records coalesce (R341). -/
def ErrRec.matches (a b : ErrRec) : Bool := a.origin == b.origin && a.syndrome == b.syndrome && a.qid == b.qid

/-- A held record with a new one coalesced into it (R341). -/
def ErrRec.coalesce (old new : ErrRec) : ErrRec :=
  { old with count := satAdd 0xFFFFFFFF old.count new.count, last := new.last, addr := new.addr, info := new.info,
             blame := if old.blameValid then old.blame else new.blame, severity := max old.severity new.severity,
             addrValid := old.addrValid || new.addrValid, blameValid := old.blameValid || new.blameValid,
             secure := old.secure || new.secure, escalated := old.escalated || new.escalated,
             saturated := old.saturated || new.saturated || decide (0xFFFFFFFF ≤ old.count + new.count) }

/-- An empty collector of a unit. -/
def LowCol.reset (u : UnitId) : LowCol := { unit := u, kept := [], upward := [], seq := 0, regs := EcRegs.reset }

def Errors.lowCol (e : Errors) (u : UnitId) : LowCol := (e.low.find? (fun c => c.unit == u)).getD (LowCol.reset u)

def Errors.setLow (e : Errors) (c : LowCol) : Errors :=
  { e with low := if e.low.any (fun d => d.unit == c.unit) then e.low.map (fun d => if d.unit == c.unit then c else d)
                  else e.low ++ [c] }

/-- The oldest slot that meets a test: the one whose record was created first (SEQ order, R338). -/
def oldestSlot (slots : Tab ErrRec) (now : BitVec 32) (p : ErrRec → Bool) : Option Nat :=
  (slots.filter (fun e => p e.2)).foldl (fun (best : Option (Nat × Nat)) e =>
      let age := (now - e.2.seq).toNat
      match best with
      | some (i, a) => if a < age then some (e.1, age) else some (i, a)
      | none => some (e.1, age)) none |>.map (·.1)

/-- A record arrives at a lower collector (R340, R341): coalesced with a matching copy, else in the lowest free slot or over the oldest copy when full; it goes on upwards. -/
def LowCol.receive (c : LowCol) (r : ErrRec) : LowCol :=
  let up := c.upward ++ [r]
  match c.kept.find? (fun e => e.2.matches r) with
  | some (i, old) => { c with kept := Tab.set c.kept i (old.coalesce r), upward := up }
  | none =>
    let i := ((Tab.freeKey c.kept (capacityOf c.unit)).orElse (fun _ => oldestSlot c.kept c.seq (fun _ => true))).getD 0
    { c with kept := Tab.set c.kept i { r with seq := c.seq }, upward := up, seq := c.seq + 1 }

/-- One unit fenced (R344), once. -/
def State.fenceOne (s : State) (u : UnitId) (syn : Nat) : State :=
  if s.isFenced u then s
  else
    let f : Fenced := { unit := u, syndrome := syn, complete := !fencedByCommand u.ty, since := s.time.now }
    ({ s with err := { s.err with fenced := s.err.fenced ++ [f] } }).needResign

/-- A unit fenced (R344): a router takes its die with it, because XY routing cannot pass it (R7, R222). -/
def State.addFence (s : State) (u : UnitId) (syn : Nat) : State :=
  let s := s.fenceOne u syn
  if u.ty = 0x05 ∧ packageDies.contains (nodeDie u.no) = true then s.fenceOne (dieUnit (nodeDie u.no)) syn else s

/-- An uncorrected-fatal event (R356): the first one is carried to the warm reset that follows. -/
def State.raiseFatal (s : State) (r : ErrRec) : State :=
  match s.boot.fatal with
  | some _ => s
  | none =>
    { s with boot := { s.boot with
        fatal := some { syndrome := r.syndrome, origin := r.origin, addr := if r.addrValid then some r.addr else none } } }

/-- Whether a fatal record leads to the warm reset of R356: REFCLK loss and thermal trips have rules of their own (R336). -/
def fatalResets (code : Nat) : Bool := code != Syn.refclkLost.code && code != Syn.thermalTrip.code

/-- Whether a record's unit or address carries a Secure world tag (R338, R361): the window that holds ADDR, a VI, or a memory window. -/
def State.recordSecure (s : State) (r : ErrRec) : Bool :=
  let win := fun (p : MemWin → Bool) => ((s.bind.windows.find? p).map MemWin.secure).getD false
  r.secure || (r.addrValid && win (fun w => w.covers r.addr 1)) || (r.unitType == 0x16 && s.bind.queueSecure 2 r.unit)
    || (r.unitType == 0x18 && win (fun w => w.qid * 32 + w.index == r.unit))

/-- An event logged (R336, R340, R344): its record is formed in the lowest collector, an uncorrected-contained record fences its unit, and a fatal one is raised. -/
def State.log (s : State) (r : ErrRec) : State :=
  let t := s.dieTime (nodeDie r.origin)
  let r := { r with first := t, last := t, secure := s.recordSecure r }
  let u := originUnit r
  let s := { s with err := s.err.setLow ((s.err.lowCol u).receive r) }
  let s :=
    if r.severity = 2 then
      if 0x11 ≤ r.unitType ∧ r.unitType ≤ 0x15 then s.raiseFatal r
      else if (r.unitType = 0x10 ∧ r.unit = iodDie) ∨ (r.unitType = 0x05 ∧ nodeDie r.unit = iodDie) then s.raiseFatal r
      else if fenceable r.unitType then s.addFence (UnitId.of r.unitType r.unit) r.syndrome
      else s
    else s
  if r.severity = 3 ∧ fatalResets r.syndrome then s.raiseFatal r else s

/-- Several events logged in order. -/
def State.logAll (s : State) (rs : List ErrRec) : State := rs.foldl State.log s

/-- A flit error that SECDED attributes to a lane of a crossing (R231, R235): counted for the lane, an uncorrectable one as a whole window's worth; CE_COUNT counts the corrected ones. -/
def State.countFlit (s : State) (x : Nat) (inward : Bool) (lane : Nat) (corrected : Bool) : State :=
  if (crossing x).isSome then
    let c := s.xl x
    let n := ((c.errs.find? (fun e => e.1 == inward && e.2.1 == lane)).map (·.2.2)).getD 0
    let rest := c.errs.filter (fun e => !(e.1 == inward && e.2.1 == lane))
    s.setXl x { c with errs := rest ++ [(inward, lane, n + (if corrected then 1 else 256))],
                       ceCount := if corrected then satAdd 0xFFFF c.ceCount 1 else c.ceCount }
  else s

/-! ### Deadline misses (R328, R330) -/

/-- A view's DL_MISSES counted up (R345). -/
def EcRegs.countMiss (r : EcRegs) : EcRegs := { r with dlMisses := satAdd 0xFFFF r.dlMisses 1 }

/-- A deadline miss of a Quire: logged, counted in the owner view and in the Quire's view, and sent as a paced MSI where the Quire's policy says so (R328, R330, R345). -/
def State.deadlineMissOf (s : State) (q : Nat) (r : ErrRec) : State :=
  let s := s.log r
  let s := { s with err := { s.err with
      owner := s.err.owner.countMiss,
      views := if q = 0 then s.err.views else Tab.mod s.err.views EcRegs.reset q EcRegs.countMiss } }
  let s := s.setGovQ q { s.govQ q with missed := true }
  match s.bind.deadline q with
  | some d => if d.msiOnMiss then s.pacedMsi q d.msiHart 0 d.msiId true else s
  | none => s

end Sys2Proof.Machine
end

