-- ==== Sys2Proof/Machine/MemMap.lean ====
section
/-! DEFINITION. Homes and placement of lines, populated and retired memory (R26, R163, R249 to R253, R262, R350). -/

namespace Sys2Proof.Machine

/-- The parity of the bits j of n, j < 46, with j mod 7 = k (R250). -/
def parityClass (n k : Nat) : Nat :=
  (((List.range 46).filter (fun j => j % 7 == k && bitOf n j)).length) % 2

def xorBit (a b : Nat) : Nat := (a + b) % 2

/-- q of R250. -/
def homeQ (n : Nat) : Nat :=
  2 * xorBit (xorBit (parityClass n 0) (parityClass n 2)) (parityClass n 4) + parityClass n 4

/-- r of R250, from PA[51:7]. -/
def homeR (a : Nat) : Nat := a / 128 % 3

/-- u of R250. -/
def homeU (a : Nat) : Nat :=
  let n := a / 64
  12 * (2 * parityClass n 6 + parityClass n 3) + 3 * homeQ n + homeR a

/-- The home slice of an address before any fence (R250). -/
def Binding.baseHome (b : Binding) (a : Nat) : Nat :=
  if rangeOf a = .hbm then 12 * hbmBd a + 3 * homeQ (a / 64) + homeR a
  else
    let mask := ((b.windows.find? (fun w => w.covers a 1)).map (fun w => w.homeSlices.toNat)).getD 0
    let slices := maskBits 48 mask
    if slices.isEmpty then homeU a else slices.getD (homeU a % slices.length) 0

/-- The slice that serves a slice's addresses now (R163, R350). -/
def State.follow (s : State) (fuel n : Nat) : Nat :=
  match fuel with
  | 0 => n
  | k + 1 =>
    match (s.slice n).movedTo with
    | some m => s.follow k m
    | none => n

/-- The home slice of an address (R163, R250). -/
def State.homeOf (s : State) (a : Nat) : Nat := s.follow 48 (s.bind.baseHome a)

/-- The port group that serves an MMIO address (R289). -/
def mmioGroup (a : Nat) : Nat :=
  if a < 0x100000000 then (a - 0x80000000) / 0x10000000 else (a - 0x8000000000000) / 0x800000000000

/-- The node of that port group. -/
def mmioNode (a : Nat) : Nat := pcieNode (mmioGroup a)

/-- The largest naturally aligned piece of at most 64 bytes at an address, within n bytes (R172, R276). -/
def pieceSize (a n : Nat) : Nat :=
  ([64, 32, 16, 8, 4, 2].find? (fun k => a % k == 0 && decide (k ≤ n))).getD 1

/-- MISC of RdNC and WrNC: byte offset and size (R172). -/
def ncMisc (a size : Nat) : Nat := a % 64 * 64 + size * 8

/-- The address of an HBM byte within its pseudo-channel (R252). -/
def hbmInner (a : Nat) : Nat :=
  let o := (a - hbmBase) % hbmWindow
  o / 2 ^ 18 * 4096 + o % 4096

/-- log2 of the number of trained channels, 16, 8 or 4 (R253). -/
def log2Channels (n : Nat) : Nat := if n = 16 then 4 else if n = 8 then 3 else 2

/-- The channel of a DDR address (R253). -/
def ddrChannel (n a : Nat) : Nat :=
  let o := a - ddrBase
  let c := (List.range 8).foldl (fun x i => x ^^^ bitsOf o (4 * i + 12) 4) 0 % 2 ^ log2Channels n
  c * (16 / n)

/-- The address of a DDR byte within its channel (R253). -/
def ddrInner (n a : Nat) : Nat :=
  let o := a - ddrBase
  o / 4096 / 2 ^ log2Channels n * 4096 + o % 4096

/-- The port group that owns a CXL address (R249), 8 where none does. -/
def cxlGroup (a : Nat) : Nat := (a - 0x1000000000000) / 0xE00000000000

/-- Whether device capacity is placed at a CXL address (R249). -/
def State.cxlMapped (s : State) (a : Nat) : Bool :=
  cxlGroup a < 8 && (s.cxl (cxlGroup a)).decoders.any (fun d => decide (d.1 ≤ a) && decide (a < d.1 + d.2.1))

/-- Whether an address of a memory range is populated (R26, R253). -/
def State.populated (s : State) (a : Nat) : Bool :=
  match rangeOf a with
  | .hbm => (a - hbmBase) % hbmWindow < s.fuse.hbmGibPerBd * gib
  | .ddr => a - ddrBase < s.mem.ddrN * s.mem.dimmGib * gib
  | .cxl => s.cxlMapped a
  | .reserved | .mmio32 | .mmio64 | .imsic | .doorbell | .control => false

/-- The controller of an address: HBM stack, DDR channel or port group, as the Colophon's MEMORY entries number HBM and DDR (R371); 32 + group for CXL. -/
def State.controllerOf (s : State) (a : Nat) : Nat :=
  match rangeOf a with
  | .hbm => hbmPc a / 32
  | .ddr => 16 + ddrChannel s.mem.ddrN a
  | _ => 32 + cxlGroup a

/-- The node of an address's controller (R20). -/
def State.controllerNode (s : State) (a : Nat) : Nat :=
  match rangeOf a with
  | .hbm => hbmNode (hbmPc a / 32)
  | .ddr => ddrNode (ddrChannel s.mem.ddrN a)
  | _ => pcieNode (cxlGroup a)

/-- The unit that memory records of an address name (R429): pseudo-channel, channel, or port group. -/
def State.memUnit (s : State) (a : Nat) : UnitId :=
  match rangeOf a with
  | .hbm => UnitId.of 0x06 (hbmPc a)
  | .ddr => UnitId.of 0x08 (ddrChannel s.mem.ddrN a)
  | _ => UnitId.of 0x0C (cxlGroup a)

/-- The registers of a controller (R262). -/
def State.ctl (s : State) (k : Nat) : Ctl := if k < 16 then s.hbm k else s.ddr (k - 16)

def State.setCtl (s : State) (k : Nat) (c : Ctl) : State :=
  if k < 16 then { s with mem := { s.mem with hbm := Tab.set s.mem.hbm k c } }
  else { s with mem := { s.mem with ddr := Tab.set s.mem.ddr (k - 16) c } }

/-- Whether an address lies in a pseudo-channel or channel that is out of service, or on lost CXL memory (R262, R350). -/
def State.unitLost (s : State) (a : Nat) : Bool :=
  match rangeOf a with
  | .hbm => s.mem.failedPc.contains (hbmPc a) || s.isFenced (dieUnit (16 + hbmBd a)) || s.isFenced (UnitId.of 0x07 (hbmPc a / 32))
  | .ddr => s.mem.failedCh.contains (ddrChannel s.mem.ddrN a)
  | .cxl => (s.cxl (cxlGroup a)).lost
  | _ => false

/-- Whether an address's page is retired or treated as retired (R261, R262). -/
def State.retired (s : State) (a : Nat) : Bool :=
  s.unitLost a || (s.ctl (s.controllerOf a)).retired.any (fun e => e.1 == a / 4096)

/-- The window an address lies in, of any Quire. -/
def Binding.anyWindow (b : Binding) (a : Nat) : Option MemWin := b.windows.find? (fun w => w.covers a 1)

/-- The world tag of an address's window (R361). -/
def Binding.lineSecure (b : Binding) (a : Nat) : Bool := ((b.anyWindow a).map MemWin.secure).getD false

/-- Bytes of a window that are data: all of it, or the first 15/16 with INTEGRITY (R256, R264). -/
def MemWin.dataSize (w : MemWin) : Nat := if w.has 6 then w.size / 16 * 15 else w.size

/-- The flush-record page of a PERSIST window (R264). -/
def MemWin.recordPage (w : MemWin) : Nat := w.base + w.dataSize - 4096

end Sys2Proof.Machine
end

