-- ==== Sys2Proof/Machine/Errors.lean ====
section
/-! DEFINITION. The Error Collectors' commands (R340 to R345, R331): records passing upwards, the chip collector's slots, its views and their registers. -/

namespace Sys2Proof.Machine

/-! ### Views (R345) -/

/-- Whether a syndrome is that of a deadline miss (R328). -/
def isMissCode (c : Nat) : Bool := 0x0B01 ≤ c && c ≤ 0x0B04

/-- Whether a Quire's view shows a record: its own, and the misses of the Quires it supervises (R345). -/
def quireSees (b : Binding) (q : Nat) (r : ErrRec) : Bool :=
  r.qid == q || (isMissCode r.syndrome && b.supervises q r.qid)

/-- Whether a view of the chip collector shows a record (R345). -/
def State.viewSees (s : State) (v : EcView) (r : ErrRec) : Bool :=
  match v with
  | .owner => true
  | .quire q => quireSees s.bind q r
  | .low _ => true

/-- The registers of a view. -/
def State.ecRegs (s : State) (v : EcView) : EcRegs :=
  match v with
  | .owner => s.err.owner
  | .quire q => Tab.get s.err.views EcRegs.reset q
  | .low u => (s.err.lowCol u).regs

def State.setEcRegs (s : State) (v : EcView) (r : EcRegs) : State :=
  match v with
  | .owner => { s with err := { s.err with owner := r } }
  | .quire q => { s with err := { s.err with views := Tab.set s.err.views q r } }
  | .low u => { s with err := s.err.setLow { s.err.lowCol u with regs := r } }

/-- The record a view shows in a slot, if any. -/
def State.ecSlot (s : State) (v : EcView) (i : Nat) : Option ErrRec :=
  match v with
  | .owner => Tab.find s.err.slots i
  | .quire q => (Tab.find s.err.slots i).filter (quireSees s.bind q)
  | .low u => Tab.find (s.err.lowCol u).kept i

/-- How many slots a view searches (R345). -/
def ecSlots (v : EcView) : Nat :=
  match v with
  | .owner | .quire _ => 1024
  | .low u => capacityOf u

/-- An event of a view (R345): the creation of a record it shows, or a rise in its severity, sent as a paced MSI to the view's target in the world of the hart that wrote EC_IRQ (R331, R432). -/
def State.viewEvent (s : State) (r : ErrRec) : State :=
  let fire := fun (s : State) (g : EcRegs) =>
    if g.irqEnable then s.pacedMsi 0 g.irqHart g.irqFile g.irqId g.irqSecure else s
  let s := fire s s.err.owner
  s.err.views.foldl (fun s e => if quireSees s.bind e.1 r then fire s e.2 else s) s

/-! ### The chip collector (R341 to R343) -/

/-- Whether a record is uncorrected (R336). -/
def ErrRec.uncorrected (r : ErrRec) : Bool := 2 ≤ r.severity

/-- Views count a record discarded under R343 (EC_STAT.LOST). -/
def Errors.countLost (e : Errors) (b : Binding) (r : ErrRec) : Errors :=
  let up := fun (g : EcRegs) => { g with lost := satAdd 0xFFFF g.lost 1 }
  let quires := distinct ((b.quires.map (·.qid)).filter (fun q => quireSees b q r))
  { e with owner := up e.owner, views := quires.foldl (fun t q => Tab.mod t EcRegs.reset q up) e.views }

/-- A new record takes the lowest free slot, else replaces as R343 says, else is discarded and counted. -/
def State.storeRecord (s : State) (r : ErrRec) : State :=
  let r := { r with seq := s.err.seq }
  let place := fun (i : Nat) =>
    ({ s with err := { s.err with slots := Tab.set s.err.slots i r, seq := s.err.seq + 1 } }).viewEvent r
  match Tab.freeKey s.err.slots 1024 with
  | some i => place i
  | none =>
    if r.severity = 0 then { s with err := s.err.countLost s.bind r }
    else match oldestSlot s.err.slots s.err.seq (fun x => x.severity == 0) with
      | some i => place i
      | none =>
        match oldestSlot s.err.slots s.err.seq (fun x => x.severity == 1) with
        | some i => place i
        | none => { s with err := s.err.countLost s.bind r }

/-- A record coalesced into the slot that matches it (R341); a rise in severity is an event of the views. -/
def State.coalesceInto (s : State) (i : Nat) (old new : ErrRec) : State :=
  let r := old.coalesce new
  let s := { s with err := { s.err with slots := Tab.set s.err.slots i r } }
  if old.severity < r.severity then s.viewEvent r else s

/-- The SECONDARY_SUPPRESSED record that a first suppressed record forms (R342). -/
def suppressedRecord (primary r : ErrRec) : ErrRec :=
  { Syn.secondarySuppressed.record primary.origin primary.unitType primary.unit r.qid with
      secure := r.secure, count := r.count, first := r.first, last := r.last,
      info := BitVec.ofNat 128 r.syndrome }

/-- A suppressed record counted into a SECONDARY_SUPPRESSED record that exists (R342): ADDR and INFO keep their values. -/
def ErrRec.addSuppressed (old new : ErrRec) : ErrRec :=
  { old with count := satAdd 0xFFFFFFFF old.count new.count, last := new.last, secure := old.secure || new.secure,
             saturated := old.saturated || decide (0xFFFFFFFF ≤ old.count + new.count) }

/-- Whether a unit is out of service, so that suppression by its record goes on (R342). -/
def State.primaryHolds (s : State) (p : ErrRec) : Bool :=
  p.uncorrected && (if fenceable p.unitType then s.isFenced (UnitId.of p.unitType p.unit) else true)

/-- BLAME of a POISON_CONSUMED record names the controller when ADDR lies in a fenced pseudo-channel or channel (R342). -/
def State.blamePoison (s : State) (r : ErrRec) : ErrRec :=
  if r.syndrome = Syn.poisonConsumed.code ∧ r.addrValid = true ∧ s.unitLost r.addr = true then
    r.withBlame (s.controllerNode r.addr)
  else r

/-- A record arrives at the chip collector: coalesced (R341), suppressed (R342) or stored (R343). -/
def State.chipReceive (s : State) (r : ErrRec) : State :=
  let r := s.blamePoison r
  match s.err.slots.find? (fun e => e.2.matches r) with
  | some (i, old) => s.coalesceInto i old r
  | none =>
    match (if r.blameValid then s.err.slots.find? (fun e => e.2.origin == r.blame && s.primaryHolds e.2) else none) with
    | none => s.storeRecord r
    | some (_, p) =>
      let sup := suppressedRecord p r
      match s.err.slots.find? (fun e => e.2.matches sup) with
      | some (i, old) => { s with err := { s.err with slots := Tab.set s.err.slots i (old.addSuppressed r) } }
      | none => s.storeRecord sup

/-- Whether the path upwards from a collector is fenced (R340): its own unit's container or die is fenced as a region. -/
def State.pathFenced (s : State) (u : UnitId) : Bool :=
  match container u with
  | some p => s.isFenced p || ((container p).map s.isFenced).getD false
  | none => s.isFenced u

/-! ### Meanings -/

/-- RECORD_FORWARD (R340): the first record waiting in a collector passes to the next one, the chip collector above a die; nothing moves while the path is fenced or nothing waits. -/
def recordForward (s : State) (u : UnitId) : State :=
  let c := s.err.lowCol u
  match c.upward with
  | [] => s
  | r :: rest =>
    if s.pathFenced u then s
    else
      let s := { s with err := s.err.setLow { c with upward := rest } }
      match container u with
      | some p => { s with err := s.err.setLow ((s.err.lowCol p).receive r) }
      | none => s.chipReceive r

def execRecordForward (u : UnitId) (s : State) : Result := .next (recordForward s u)

/-- MSI_PACING (R331): 10 µs after the last MSI to a target whose events are held, one MSI is sent. -/
def msiPacing (s : State) (hart file id : Nat) : State :=
  let due := fun (p : Pace) => p.hart == hart && p.file == file && p.id == id && p.held
    && (match p.last with | some t => decide (t + 10000 ≤ s.time.now) | none => true)
  (s.err.paces.filter due).foldl (fun s p =>
      ({ s with err := { s.err with
          paces := s.err.paces.map (fun x => if x == p then { p with last := some s.time.now, held := false } else x) } }).sendMsi
        hart file id p.secure) s

def execMsiPacing (hart file id : Nat) (s : State) : Result := .next (msiPacing s hart file id)

/-! ### Access to the views (R345) -/

/-- Whether a hart may use a view: M-mode harts of the error owner for the owner view and the lower pages, M-mode harts of the Quire for its view (R345). -/
def State.ecAllowed (s : State) (h : Nat) (v : EcView) : Bool :=
  let x := s.hart h
  decide (x.mode = .m) &&
    match v with
    | .owner | .low _ => s.bind.owner == some x.qid && x.qid != 0
    | .quire q => x.qid == q && q != 0

/-- EC_SEL NEXT (R345): the search starts after INDEX, runs upwards with wrapping and ends with INDEX itself. -/
def State.ecNext (s : State) (v : EcView) : EcRegs :=
  let g := s.ecRegs v
  let n := ecSlots v
  match ((List.range n).map (fun k => (g.index + 1 + k) % n)).find? (fun i => (s.ecSlot v i).isSome) with
  | some i => { g with index := i, empty := false }
  | none => { g with empty := true }

/-- CLEAR (R345): the record in slot INDEX is removed if the view shows it. -/
def State.ecClear (s : State) (v : EcView) : State :=
  let i := (s.ecRegs v).index
  match s.ecSlot v i with
  | none => s
  | some _ =>
    match v with
    | .owner | .quire _ => { s with err := { s.err with slots := Tab.del s.err.slots i } }
    | .low u => { s with err := s.err.setLow { s.err.lowCol u with kept := Tab.del (s.err.lowCol u).kept i } }

/-- CLEAR_ALL (R345): every record that the view shows is removed. -/
def State.ecClearAll (s : State) (v : EcView) : State :=
  match v with
  | .owner => { s with err := { s.err with slots := [] } }
  | .quire q => { s with err := { s.err with slots := s.err.slots.filter (fun e => !quireSees s.bind q e.2) } }
  | .low u => { s with err := s.err.setLow { s.err.lowCol u with kept := [] } }

/-- How many records a view shows (EC_STAT.HELD). -/
def State.ecHeld (s : State) (v : EcView) : Nat :=
  match v with
  | .owner => s.err.slots.length
  | .quire q => (s.err.slots.filter (fun e => quireSees s.bind q e.2)).length
  | .low u => (s.err.lowCol u).kept.length

/-- EC_STAT as read (R345). -/
def State.ecStat (s : State) (v : EcView) : Word :=
  let g := s.ecRegs v
  word (s.ecHeld v * 2 ^ 41 + g.lost * 2 ^ 16 + g.dlMisses)

/-- The 64 bytes of a record (R338); a hart in the Normal world reads ADDR and INFO of a SECURE record as zero (R345). -/
def ErrRec.bytes (r : ErrRec) (normal : Bool) : List Byte :=
  let hide := normal && r.secure
  let flags := 1 + bitAt r.addrValid 1 + bitAt r.blameValid 2 + bitAt r.secure 3 + bitAt r.saturated 4 + bitAt r.escalated 5
  toLE 1 r.severity ++ toLE 1 flags ++ toLE 2 r.syndrome ++ toLE 2 r.origin ++ toLE 1 r.unitType ++ toLE 1 r.qid
    ++ toLE 2 r.unit ++ toLE 2 r.blame ++ toLE 4 r.count ++ toLE 8 r.first ++ toLE 8 r.last
    ++ toLE 8 (if hide then 0 else r.addr) ++ toLE 16 (if hide then 0 else r.info.toNat) ++ toLE 4 r.seq.toNat ++ toLE 4 0

end Sys2Proof.Machine
end

