-- ==== Sys2Proof/Machine/Aes.lean ====
section
/-! DEFINITION. AES-256 (FIPS 197), GCM (SP 800-38D) and CMAC (SP 800-38B), which R369 names. -/

namespace Sys2Proof.Machine

/-! ### The field of the S-box -/

/-- Multiplication by x modulo x^8 + x^4 + x^3 + x + 1. -/
def aesX (a : Byte) : Byte := (a <<< 1) ^^^ (if a.msb then 0x1B#8 else 0#8)

/-- The product of two field elements: Horner's rule over the bits of the second, from the top. -/
def aesMul (a b : Byte) : Byte :=
  (List.range 8).foldl (fun acc i => aesX acc ^^^ (if b.getLsbD (7 - i) then a else 0#8)) 0#8

def aesSq (a : Byte) : Byte := aesMul a a

/-- The inverse a^254, with 0 for 0. -/
def aesInv (a : Byte) : Byte :=
  let a2 := aesSq a
  let a3 := aesMul a2 a
  let a6 := aesSq a3
  let a7 := aesMul a6 a
  let a14 := aesSq a7
  let a15 := aesMul a14 a
  let a30 := aesSq a15
  let a31 := aesMul a30 a
  let a62 := aesSq a31
  let a63 := aesMul a62 a
  let a126 := aesSq a63
  aesSq (aesMul a126 a)

def aesSub (a : Byte) : Byte :=
  let b := aesInv a
  b ^^^ b.rotateLeft 1 ^^^ b.rotateLeft 2 ^^^ b.rotateLeft 3 ^^^ b.rotateLeft 4 ^^^ 0x63#8

/-! ### The cipher -/

def xorBytes (a b : List Byte) : List Byte := List.zipWith (· ^^^ ·) a b

/-- The next word of the key schedule: the words so far, newest first. -/
def aesNextWord (ws : List (List Byte)) (i : Nat) (rcon : Byte) : List Byte :=
  let last := ws.getD 0 []
  let t :=
    if i % 8 = 0 then xorBytes ((last.rotateLeft 1).map aesSub) [rcon, 0#8, 0#8, 0#8]
    else if i % 8 = 4 then last.map aesSub
    else last
  xorBytes (ws.getD 7 []) t

/-- The sixty words of the key schedule of a 32-byte key. -/
def aesWords (key : List Byte) : List (List Byte) :=
  let first := ((List.range 8).map (fun i => bytesAt key (4 * i) 4)).reverse
  ((List.range 52).foldl (fun (a : List (List Byte) × Byte) k =>
      let i := k + 8
      (aesNextWord a.1 i a.2 :: a.1, if i % 8 = 0 then aesX a.2 else a.2)) (first, 1#8)).1.reverse

/-- The round keys, sixteen bytes each. -/
def aesKeys (key : List Byte) : List (List Byte) :=
  let ws := aesWords key
  (List.range 15).map (fun r => ((ws.drop (4 * r)).take 4).flatten)

/-- SubBytes and ShiftRows: byte r of column c comes from column c + r. -/
def aesShiftSub (st : List Byte) : List Byte :=
  (List.range 16).map (fun i => aesSub (st.getD ((i + 4 * (i % 4)) % 16) 0#8))

def aesMixCol (c : List Byte) : List Byte :=
  (List.range 4).map (fun r =>
    aesX (c.getD r 0#8) ^^^ aesX (c.getD ((r + 1) % 4) 0#8) ^^^ c.getD ((r + 1) % 4) 0#8
      ^^^ c.getD ((r + 2) % 4) 0#8 ^^^ c.getD ((r + 3) % 4) 0#8)

def aesMix (st : List Byte) : List Byte :=
  (List.range 4).flatMap (fun c => aesMixCol ((st.drop (4 * c)).take 4))

/-- One block under a key schedule. -/
def aesBlock (keys : List (List Byte)) (b : List Byte) : List Byte :=
  let st := xorBytes b (keys.getD 0 [])
  let st := (List.range 13).foldl (fun st r => xorBytes (aesMix (aesShiftSub st)) (keys.getD (r + 1) [])) st
  xorBytes (aesShiftSub st) (keys.getD 14 [])

/-! ### GCM -/

/-- The product in the field of GHASH, whose bit 0 is the most significant bit of the first byte. -/
def ghashMul (a b : BitVec 128) : BitVec 128 :=
  ((List.range 128).foldl (fun (z : BitVec 128 × BitVec 128) i =>
      let acc := if a.getMsbD i then z.1 ^^^ z.2 else z.1
      let v := (z.2 >>> 1) ^^^ (if z.2.getLsbD 0 then 0xE1000000000000000000000000000000#128 else 0#128)
      (acc, v)) (0#128, b)).1

def block128 (bs : List Byte) : BitVec 128 := BitVec.ofNat 128 (ofBE bs)

/-- Bytes in blocks of sixteen, the last padded with zeros. -/
def blocks16 (bs : List Byte) : List (List Byte) :=
  (List.range ((bs.length + 15) / 16)).map (fun i => bytesAt bs (16 * i) 16)

def ghash (h : BitVec 128) (blocks : List (List Byte)) : BitVec 128 :=
  blocks.foldl (fun y b => ghashMul (y ^^^ block128 b) h) 0#128

/-- Counter mode from a counter value on, for an IV of twelve bytes. -/
def gcmCtr (keys : List (List Byte)) (iv : List Byte) (first : Nat) (bs : List Byte) : List Byte :=
  (List.range ((bs.length + 15) / 16)).flatMap (fun i =>
    xorBytes ((bs.drop (16 * i)).take 16) (aesBlock keys (iv ++ toBE 4 (first + i))))

/-- The tag of authenticated data and ciphertext. -/
def gcmTag (keys : List (List Byte)) (iv aad ct : List Byte) : List Byte :=
  let h := block128 (aesBlock keys (List.replicate 16 0#8))
  let s := ghash h (blocks16 aad ++ blocks16 ct ++ [toBE 8 (8 * aad.length) ++ toBE 8 (8 * ct.length)])
  xorBytes (toBE 16 s.toNat) (aesBlock keys (iv ++ toBE 4 1))

/-- Ciphertext and tag. -/
def gcmSeal (key iv aad pt : List Byte) : List Byte × List Byte :=
  let keys := aesKeys key
  let ct := gcmCtr keys iv 2 pt
  (ct, gcmTag keys iv aad ct)

/-- The plaintext, if the tag is right. -/
def gcmOpen (key iv aad ct tag : List Byte) : Option (List Byte) :=
  let keys := aesKeys key
  if gcmTag keys iv aad ct = tag then some (gcmCtr keys iv 2 ct) else none

/-! ### XTS (R255) -/

/-- The tweak of the next block. -/
def xtsNext (t : List Byte) : List Byte :=
  let n := 2 * ofLE t
  toLE 16 (if n < 2 ^ 128 then n else (n - 2 ^ 128) ^^^ 0x87)

/-- The blocks of a data unit encrypted in turn. -/
def xtsBlocks (keys : List (List Byte)) (t : List Byte) (blocks : List (List Byte)) : List Byte :=
  match blocks with
  | [] => []
  | b :: rest => xorBytes (aesBlock keys (xorBytes b t)) t ++ xtsBlocks keys (xtsNext t) rest

/-- AES-256-XTS of a data unit of whole blocks, under key 1 and key 2, its tweak a number. -/
def aesXts (key1 key2 : List Byte) (tweak : Nat) (pt : List Byte) : List Byte :=
  xtsBlocks (aesKeys key1) (aesBlock (aesKeys key2) (toLE 16 tweak)) (blocks16 pt)

/-! ### CMAC -/

def cmacDouble (v : BitVec 128) : BitVec 128 := (v <<< 1) ^^^ (if v.msb then 0x87#128 else 0#128)

/-- AES-256-CMAC of a message. -/
def aesCmac (key msg : List Byte) : List Byte :=
  let keys := aesKeys key
  let k1 := cmacDouble (block128 (aesBlock keys (List.replicate 16 0#8)))
  let k2 := cmacDouble k1
  let n := (msg.length + 15) / 16 - 1
  let last := msg.drop (16 * n)
  let tail :=
    if last.length = 16 then xorBytes last (toBE 16 k1.toNat)
    else xorBytes (padTo 16 (last ++ [0x80#8])) (toBE 16 k2.toNat)
  let mid := (List.range n).foldl (fun x i => aesBlock keys (xorBytes x (bytesAt msg (16 * i) 16))) (List.replicate 16 0#8)
  aesBlock keys (xorBytes mid tail)

end Sys2Proof.Machine
end

