-- ==== Sys2Proof/Machine/Sha.lean ====
section
/-! DEFINITION. The digests that the Clasp computes (R48, R369): SHA-256, SHA-384 and SHA-512 of FIPS 180-4, SHA3-256, SHA3-384 and SHA3-512 of FIPS 202, and HMAC and HKDF over SHA-384 (R368). -/

namespace Sys2Proof.Machine

/-! ### SHA-2 -/

def shaKA : List Nat := [0x428A2F98D728AE22, 0x7137449123EF65CD, 0xB5C0FBCFEC4D3B2F, 0xE9B5DBA58189DBBC, 0x3956C25BF348B538, 0x59F111F1B605D019, 0x923F82A4AF194F9B, 0xAB1C5ED5DA6D8118, 0xD807AA98A3030242, 0x12835B0145706FBE, 0x243185BE4EE4B28C, 0x550C7DC3D5FFB4E2, 0x72BE5D74F27B896F, 0x80DEB1FE3B1696B1, 0x9BDC06A725C71235, 0xC19BF174CF692694, 0xE49B69C19EF14AD2, 0xEFBE4786384F25E3, 0xFC19DC68B8CD5B5, 0x240CA1CC77AC9C65]
def shaKB : List Nat := [0x2DE92C6F592B0275, 0x4A7484AA6EA6E483, 0x5CB0A9DCBD41FBD4, 0x76F988DA831153B5, 0x983E5152EE66DFAB, 0xA831C66D2DB43210, 0xB00327C898FB213F, 0xBF597FC7BEEF0EE4, 0xC6E00BF33DA88FC2, 0xD5A79147930AA725, 0x6CA6351E003826F, 0x142929670A0E6E70, 0x27B70A8546D22FFC, 0x2E1B21385C26C926, 0x4D2C6DFC5AC42AED, 0x53380D139D95B3DF, 0x650A73548BAF63DE, 0x766A0ABB3C77B2A8, 0x81C2C92E47EDAEE6, 0x92722C851482353B]
def shaKC : List Nat := [0xA2BFE8A14CF10364, 0xA81A664BBC423001, 0xC24B8B70D0F89791, 0xC76C51A30654BE30, 0xD192E819D6EF5218, 0xD69906245565A910, 0xF40E35855771202A, 0x106AA07032BBD1B8, 0x19A4C116B8D2D0C8, 0x1E376C085141AB53, 0x2748774CDF8EEB99, 0x34B0BCB5E19B48A8, 0x391C0CB3C5C95A63, 0x4ED8AA4AE3418ACB, 0x5B9CCA4F7763E373, 0x682E6FF3D6B2B8A3, 0x748F82EE5DEFB2FC, 0x78A5636F43172F60, 0x84C87814A1F0AB72, 0x8CC702081A6439EC]
def shaKD : List Nat := [0x90BEFFFA23631E28, 0xA4506CEBDE82BDE9, 0xBEF9A3F7B2C67915, 0xC67178F2E372532B, 0xCA273ECEEA26619C, 0xD186B8C721C0C207, 0xEADA7DD6CDE0EB1E, 0xF57D4F7FEE6ED178, 0x6F067AA72176FBA, 0xA637DC5A2C898A6, 0x113F9804BEF90DAE, 0x1B710B35131C471B, 0x28DB77F523047D84, 0x32CAAB7B40C72493, 0x3C9EBE0A15C9BEBC, 0x431D67C49C100D4C, 0x4CC5D4BECB3E42B6, 0x597F299CFC657E2A, 0x5FCB6FAB3AD6FAEC, 0x6C44198C4A475817]

/-- The round constants of SHA-512; the first 64, cut to their upper halves, are those of SHA-256. -/
def shaK : List Nat := shaKA ++ shaKB ++ shaKC ++ shaKD

def sha384Init : List Nat := [0xCBBB9D5DC1059ED8, 0x629A292A367CD507, 0x9159015A3070DD17, 0x152FECD8F70E5939] ++ [0x67332667FFC00B31, 0x8EB44A8768581511, 0xDB0C2E0D64F98FA7, 0x47B5481DBEFA4FA4]
def sha512Init : List Nat := [0x6A09E667F3BCC908, 0xBB67AE8584CAA73B, 0x3C6EF372FE94F82B, 0xA54FF53A5F1D36F1] ++ [0x510E527FADE682D1, 0x9B05688C2B3E6C1F, 0x1F83D9ABFB41BD6B, 0x5BE0CD19137E2179]

/-- What SHA-256 and SHA-512 differ in: word bits, rotations of the four functions, rounds. -/
structure ShaKind where
  w : Nat
  s0 : Nat × Nat × Nat
  s1 : Nat × Nat × Nat
  e0 : Nat × Nat × Nat
  e1 : Nat × Nat × Nat
  rounds : Nat
deriving DecidableEq, Repr

def sha2Short : ShaKind := { w := 32, s0 := (7, 18, 3), s1 := (17, 19, 10), e0 := (2, 13, 22), e1 := (6, 11, 25), rounds := 64 }
def sha2Long : ShaKind := { w := 64, s0 := (1, 8, 7), s1 := (19, 61, 6), e0 := (28, 34, 39), e1 := (14, 18, 41), rounds := 80 }

/-- A word rotated right. -/
def rotr (w n v : Nat) : Nat := v / 2 ^ n + v % 2 ^ n * 2 ^ (w - n)

def shaBig (w : Nat) (r : Nat × Nat × Nat) (v : Nat) : Nat := rotr w r.1 v ^^^ rotr w r.2.1 v ^^^ rotr w r.2.2 v
def shaSmall (w : Nat) (r : Nat × Nat × Nat) (v : Nat) : Nat := rotr w r.1 v ^^^ rotr w r.2.1 v ^^^ v / 2 ^ r.2.2

/-- One round constant. -/
def ShaKind.k (t : ShaKind) (i : Nat) : Nat := if t.w = 32 then shaK.getD i 0 / 2 ^ 32 else shaK.getD i 0

/-- The message schedule, newest word first. -/
def shaSchedule (t : ShaKind) (n : Nat) (ws : List Nat) : List Nat :=
  match n with
  | 0 => ws
  | k + 1 =>
    let w := (shaSmall t.w t.s1 (ws.getD 1 0) + ws.getD 6 0 + shaSmall t.w t.s0 (ws.getD 14 0) + ws.getD 15 0) % 2 ^ t.w
    shaSchedule t k (w :: ws)

/-- One round on the eight working words. -/
def shaRound (t : ShaKind) (v : List Nat) (kw : Nat) : List Nat :=
  match v with
  | [a, b, c, d, e, f, g, h] =>
    let m := 2 ^ t.w
    let ch := (e &&& f) ^^^ ((m - 1 - e) &&& g)
    let maj := (a &&& b) ^^^ (a &&& c) ^^^ (b &&& c)
    let t1 := h + shaBig t.w t.e1 e + ch + kw
    let t2 := shaBig t.w t.e0 a + maj
    [(t1 + t2) % m, a, b, c, (d + t1) % m, e, f, g]
  | _ => v

/-- One block of 16 words. -/
def shaBlock (t : ShaKind) (h : List Nat) (block : List Nat) : List Nat :=
  let ws := (shaSchedule t (t.rounds - 16) block.reverse).reverse
  let out := ((List.range t.rounds).zip ws).foldl (fun v p => shaRound t v (t.k p.1 + p.2)) h
  h.zipWith (fun a b => (a + b) % 2 ^ t.w) out

/-- A byte list cut into big-endian words of n bytes. -/
def wordsBE (fuel n : Nat) (bs : List Byte) : List Nat :=
  match fuel with
  | 0 => []
  | f + 1 => if bs.isEmpty then [] else ofBE (bs.take n) :: wordsBE f n (bs.drop n)

/-- The padded message (FIPS 180-4). -/
def shaPad (t : ShaKind) (bs : List Byte) : List Byte :=
  let block := 2 * t.w
  let len := t.w / 4
  let used := bs.length + 1 + len
  bs ++ [0x80#8] ++ List.replicate ((block - used % block) % block) 0 ++ toBE len (8 * bs.length)

def shaBlocks (t : ShaKind) (fuel : Nat) (h : List Nat) (ws : List Nat) : List Nat :=
  match fuel with
  | 0 => h
  | f + 1 => if ws.isEmpty then h else shaBlocks t f (shaBlock t h (ws.take 16)) (ws.drop 16)

def sha2 (t : ShaKind) (init : List Nat) (out : Nat) (bs : List Byte) : List Byte :=
  let p := shaPad t bs
  let ws := wordsBE (p.length + 1) (t.w / 8) p
  ((shaBlocks t (ws.length + 1) init ws).flatMap (fun v => toBE (t.w / 8) v)).take out

def sha256 (bs : List Byte) : List Byte := sha2 sha2Short (sha512Init.map (· / 2 ^ 32)) 32 bs
def sha384 (bs : List Byte) : List Byte := sha2 sha2Long sha384Init 48 bs
def sha512 (bs : List Byte) : List Byte := sha2 sha2Long sha512Init 64 bs

/-! ### SHA-3 -/

def keccakRcA : List Nat := [0x1, 0x8082, 0x800000000000808A, 0x8000000080008000, 0x808B, 0x80000001, 0x8000000080008081, 0x8000000000008009, 0x8A, 0x88, 0x80008009, 0x8000000A]
def keccakRcB : List Nat := [0x8000808B, 0x800000000000008B, 0x8000000000008089, 0x8000000000008003, 0x8000000000008002, 0x8000000000000080, 0x800A, 0x800000008000000A, 0x8000000080008081, 0x8000000000008080, 0x80000001, 0x8000000080008008]

/-- The round constants of Keccak-f[1600]. -/
def keccakRc : List Nat := keccakRcA ++ keccakRcB

/-- The rotation offsets by x + 5y. -/
def keccakRho : List Nat :=
  [0, 1, 62, 28, 27, 36, 44, 6, 55, 20, 3, 10, 43, 25, 39, 41, 45, 15, 21, 8, 18, 2, 61, 56, 14]

def rotl64 (n v : Nat) : Nat := rotr 64 (64 - n) v % 2 ^ 64

/-- One round on the 25 lanes. -/
def keccakRound (a : List Nat) (rc : Nat) : List Nat :=
  let g := fun (l : List Nat) (i : Nat) => l.getD i 0
  let c := (List.range 5).map (fun x => g a x ^^^ g a (x + 5) ^^^ g a (x + 10) ^^^ g a (x + 15) ^^^ g a (x + 20))
  let d := (List.range 5).map (fun x => g c ((x + 4) % 5) ^^^ rotl64 1 (g c ((x + 1) % 5)))
  let t := (List.range 25).map (fun i => g a i ^^^ g d (i % 5))
  let b := (List.range 25).map (fun i =>
    let x := i % 5
    let y := i / 5
    let sx := (x + 3 * y) % 5
    let src := sx + 5 * x
    rotl64 (keccakRho.getD src 0) (g t src))
  (List.range 25).map (fun i =>
    let x := i % 5
    let y := 5 * (i / 5)
    let v := g b i ^^^ ((2 ^ 64 - 1 - g b ((x + 1) % 5 + y)) &&& g b ((x + 2) % 5 + y))
    if i = 0 then v ^^^ rc else v)

def keccakF (a : List Nat) : List Nat := keccakRc.foldl keccakRound a

/-- Absorbing in blocks of `rate` bytes. -/
def absorb (fuel rate : Nat) (a : List Nat) (bs : List Byte) : List Nat :=
  match fuel with
  | 0 => a
  | f + 1 =>
    if bs.isEmpty then a
    else
      let lanes := (List.range 25).map (fun i => if 8 * i < rate then ofLE (bytesAt (bs.take rate) (8 * i) 8) else 0)
      absorb f rate (keccakF (a.zipWith (· ^^^ ·) lanes)) (bs.drop rate)

/-- SHA3 with n output bytes. -/
def sha3 (n : Nat) (bs : List Byte) : List Byte :=
  let rate := 200 - 2 * n
  let k := rate - bs.length % rate
  let pad : List Byte := if k = 1 then [0x86#8] else [0x06#8] ++ List.replicate (k - 2) 0 ++ [0x80#8]
  let p := bs ++ pad
  ((absorb (p.length + 1) rate (List.replicate 25 0) p).flatMap (fun v => toLE 8 v)).take n

/-- HASH by ALG (R369): the digest, empty for an ALG above 5. -/
def digest (alg : Nat) (bs : List Byte) : List Byte :=
  match alg with
  | 0 => sha256 bs
  | 1 => sha384 bs
  | 2 => sha512 bs
  | 3 => sha3 32 bs
  | 4 => sha3 48 bs
  | 5 => sha3 64 bs
  | _ => []

/-- The digest size of ALG (R278). -/
def digestSize (alg : Nat) : Nat :=
  match alg with
  | 0 | 3 => 32
  | 1 | 4 => 48
  | _ => 64

/-! ### HMAC and HKDF over SHA-384 (R368) -/

def hmac384 (key msg : List Byte) : List Byte :=
  let k := padTo 128 (if 128 < key.length then sha384 key else key)
  sha384 (k.map (· ^^^ 0x5C#8) ++ sha384 (k.map (· ^^^ 0x36#8) ++ msg))

/-- The expansion steps of HKDF from step i on. -/
def hkdfExpand (fuel : Nat) (prk info prev : List Byte) (i : Nat) : List Byte :=
  match fuel with
  | 0 => []
  | f + 1 =>
    let t := hmac384 prk (prev ++ info ++ [BitVec.ofNat 8 i])
    t ++ hkdfExpand f prk info t (i + 1)

/-- HKDF-SHA-384 (RFC 5869): n bytes; an empty salt is a salt of zeros. -/
def hkdf (ikm salt info : List Byte) (n : Nat) : List Byte :=
  (hkdfExpand (n / 48 + 1) (hmac384 (if salt.isEmpty then List.replicate 48 0 else salt) ikm) info [] 1).take n

end Sys2Proof.Machine
end

