-- ==== Sys2Proof/Machine/Crc.lean ====
section
/-! DEFINITION. Checks and alive counters (R316 to R321): the fixed checks, the procedure of R317, and what a unit computes. -/

namespace Sys2Proof.Machine

/-! ### Checks (R316, R317) -/

/-- Bits lo to lo+n-1 of v in reverse order. -/
def reflectBits (n v : Nat) : Nat :=
  match n with
  | 0 => 0
  | k + 1 => v % 2 * 2 ^ k + reflectBits k (v / 2)

/-- One input bit of R317: the register shifted, and the polynomial applied where the fed-back bit is 1. -/
def crcBit (c : CheckCfg) (r : Nat) (bit : Nat) : Nat :=
  let fb := (bit + r / 2 ^ (c.width - 1)) % 2
  let r' := r * 2 % 2 ^ c.width
  if fb = 1 then r' ^^^ c.poly.toNat else r'

/-- One input byte of R317, its bits from the highest down. -/
def crcByte (c : CheckCfg) (r : Nat) (b : Byte) : Nat :=
  let v := if c.refin then reflectBits 8 b.toNat else b.toNat
  [7, 6, 5, 4, 3, 2, 1, 0].foldl (fun r j => crcBit c r (v / 2 ^ j % 2)) r

/-- The check of a byte string (R317). -/
def check (c : CheckCfg) (bs : List Byte) : Nat :=
  let r0 := if c.refout then reflectBits c.width c.init.toNat else c.init.toNat
  let r := bs.foldl (crcByte c) r0
  (if c.refout then reflectBits c.width r else r) ^^^ c.xorout.toNat

/-- The four fixed checks by POLY (R316). -/
def fixedCheck (poly : Nat) : CheckCfg :=
  match poly with
  | 0 => { width := 32, poly := 0x1EDC6F41, init := 0xFFFFFFFF, xorout := 0xFFFFFFFF, refin := true, refout := true, alive := 0 }
  | 1 => { width := 32, poly := 0x04C11DB7, init := 0xFFFFFFFF, xorout := 0xFFFFFFFF, refin := true, refout := true, alive := 0 }
  | 2 => { width := 16, poly := 0x1021, init := 0xFFFF, xorout := 0, refin := false, refout := false, alive := 0 }
  | _ => { width := 64, poly := 0x42F0E1EBA9EA3693, init := 0, xorout := 0, refin := false, refout := false, alive := 0 }

/-- CRC-32C, which commit records use (R70). -/
def crc32c (bs : List Byte) : Nat := check (fixedCheck 0) bs

/-- OCU_CFG.ALIVE for a number of alive bits (R322). -/
def aliveCode (bits : Nat) : Nat := if bits = 4 then 1 else if bits = 8 then 2 else 0

/-- The alive bits that ALIVE stands for (R322). -/
def aliveWidth (code : Nat) : Nat := if code = 1 then 4 else if code = 2 then 8 else 0

/-- The registers' reset values of an open unit (R322): CRC-32C, with ALIVE from the record. -/
def CheckCfg.reset (bits : Nat) : CheckCfg := { fixedCheck 0 with alive := aliveCode bits }

def OpenUnit.reset (bits : Nat) : OpenUnit :=
  { shadow := CheckCfg.reset bits, active := CheckCfg.reset bits, rejected := false, busy := none, queue := [] }

def State.openUnit (s : State) (u : Nat) : OpenUnit := Tab.get s.chk.units (OpenUnit.reset 0) u
def State.setOpenUnit (s : State) (u : Nat) (v : OpenUnit) : State :=
  { s with chk := { s.chk with units := Tab.set s.chk.units u v } }

/-- The configuration under which a unit computes: an open unit's active one, or the fixed check of its record, CRC-32C without a counter where there is none (R49, R62). -/
def State.checkCfg (s : State) (u : Nat) : CheckCfg :=
  if 16 ≤ u then (s.openUnit u).active
  else match s.bind.checkRec u with
    | some r => { fixedCheck r.poly with alive := aliveCode r.aliveBits }
    | none => fixedCheck 0

/-- C of R318 and A of R319. -/
def CheckCfg.bytes (c : CheckCfg) : Nat := (c.width + 7) / 8
def CheckCfg.a (c : CheckCfg) : Nat := if aliveWidth c.alive = 0 then 0 else 1

/-! ### Alive counters (R320) -/

/-- OK, REPEAT or GAP with the count of skipped values. -/
inductive Alive where
  | ok
  | repeated
  | gap (n : Nat)
deriving DecidableEq, Repr

/-- A received value against the last accepted one (R320); without a last one every value is OK. -/
def judgeAlive (bits : Nat) (last : Option Nat) (v : Nat) : Alive :=
  let m := 2 ^ bits
  match last with
  | none => .ok
  | some l =>
    if v % m = l % m then .repeated
    else if v % m = (l + 1) % m then .ok
    else .gap ((v % m + 2 * m - l % m - 1) % m)

end Sys2Proof.Machine
end

