-- ==== Sys2Proof/Machine/Route.lean ====
section
/-! DEFINITION. The routes of the fabric (R18, R197 to R202, R204, R210, R222): paths of routes and of Class U and Class B, stages and buffer sets, Class G streams by their endpoints, and a message's arrival with the flit errors on its way. -/

namespace Sys2Proof.Machine

/-! ### Paths (R198, R199, R212) -/

/-- One element that a flit traverses: a router (node with E = 0) or the IOD switch, its ports (R198, R211), the slots after the element before it (R212), and the crossing between the two with its direction (true IN). -/
structure Elem where
  node : Nat
  switch : Bool
  input : Nat
  output : Nat
  gap : Nat
  cross : Option (Nat × Bool)
deriving DecidableEq, Repr

/-- The numbers from a to b, rising or falling. -/
def between (a b : Nat) : List Nat :=
  if a ≤ b then (List.range (b - a + 1)).map (a + ·) else (List.range (a - b + 1)).map (a - ·)

/-- The routers from one to another by XY routing: along X first, then along Y (R198). -/
def xyPath (x0 y0 x1 y1 : Nat) : List (Nat × Nat) :=
  (between x0 x1).map (fun x => (x, y0)) ++ ((between y0 y1).drop 1).map (fun y => (x1, y))

/-- The output port that leads from a router to its neighbour: 4 −X, 5 +X, 6 −Y, 7 +Y (R198). -/
def sideTo (a b : Nat × Nat) : Nat :=
  if a.1 < b.1 then 5 else if b.1 < a.1 then 4 else if a.2 < b.2 then 7 else 6

/-- The side a flit arrives from, by the side it left on (R198). -/
def arriveSide (o : Nat) : Nat :=
  match o with
  | 5 => 4
  | 4 => 5
  | 7 => 6
  | _ => 7

/-- The elements of one die along a list of routers. -/
def segment (die : Nat) (ps : List (Nat × Nat)) (i o gap : Nat) (cross : Option (Nat × Bool)) : List Elem :=
  match ps with
  | [] => []
  | [p] => [{ node := mkNode die p.1 p.2 0, switch := false, input := i, output := o, gap := gap, cross := cross }]
  | p :: q :: rest =>
    let d := sideTo p q
    { node := mkNode die p.1 p.2 0, switch := false, input := i, output := d, gap := gap, cross := cross }
      :: segment die (q :: rest) (arriveSide d) o 1 none

/-- An end of the part of a path that lies on one die: router and port. -/
structure PathEnd where
  x : Nat
  y : Nat
  port : Nat
  gap : Nat
  cross : Option (Nat × Bool)
deriving DecidableEq, Repr

def endpointOf (n : Nat) : PathEnd := { x := nodeX n, y := nodeY n, port := nodeE n, gap := 0, cross := none }

def pathOn (die : Nat) (a b : PathEnd) : List Elem := segment die (xyPath a.x a.y b.x b.y) a.port b.port a.gap a.cross

/-- Where a vertical port lands on its base die, for a flit that comes from the CD or goes to it (R20); the crossing takes 4 NoC cycles (R34). -/
def landing (cd p : Nat) (up : Bool) : PathEnd :=
  let n := vportBdNode cd p
  { x := nodeX n, y := nodeY n, port := 1, gap := 5, cross := if up then some (cd * 4 + p, false) else none }

/-- The CD end of a vertical port. -/
def vportEnd (cd p : Nat) (up : Bool) : PathEnd :=
  { x := p, y := 1, port := 0, gap := 5, cross := if up then none else some (cd * 4 + p, true) }

/-- The BD end of a UCIe module, which a flit from the switch traverses 10 slots after it (R212). -/
def moduleEnd (bd m : Nat) : PathEnd :=
  { x := m + 1, y := 3, port := 0, gap := 10, cross := some (64 + 4 * bd + m, true) }

/-- The router of a partner die at which its port attaches: (0, 0), endpoint 0 (DESIGN CHOICE, log 23). -/
def partnerEnd (site : Nat) : PathEnd := { x := 0, y := 0, port := 0, gap := 10, cross := some (80 + site, true) }

/-- IOD router (2, 2), 3 slots after the switch (R212). -/
def switchEnd : PathEnd := { x := 2, y := 2, port := 0, gap := 3, cross := none }

/-- The base die under which a die lies, itself for a base die. -/
def baseDie (d : Nat) : Option Nat :=
  match dieKind d with
  | some .cd => some (16 + bdOfCd d)
  | some .bd => some d
  | _ => none

/-- A route field for a crossing that the path has, 0 to 3; 0xFF for one that it has not (R57). -/
def routeField (has : Bool) (v : Nat) : Bool := if has then decide (v < 4) else v == 0xFF

/-- The part of a path from its source to the base die: elements up to the vertical port, and where it enters the base die. -/
def climb (src vport : Nat) : List Elem × PathEnd :=
  match dieKind (nodeDie src) with
  | some .cd =>
    (pathOn (nodeDie src) (endpointOf src) (vportEnd (nodeDie src) vport true), landing (nodeDie src) vport true)
  | _ => ([], endpointOf src)

/-- The part of a path from a base die to its destination: where it leaves the base die, and the elements after it. -/
def descend (dst vport : Nat) : PathEnd × List Elem :=
  match dieKind (nodeDie dst) with
  | some .cd =>
    (landing (nodeDie dst) vport false, pathOn (nodeDie dst) (vportEnd (nodeDie dst) vport false) (endpointOf dst))
  | _ => (endpointOf dst, [])

/-- The way to the IOD switch: the elements, and the switch's input port, gap and crossing (R211, R212). -/
def toSwitch (src : Nat) (r : RouteRec) : List Elem × Nat × Nat × Option (Nat × Bool) :=
  match dieKind (nodeDie src), baseDie (nodeDie src) with
  | some .iod, _ => (pathOn iodDie (endpointOf src) switchEnd, 18, 1, none)
  | some .partner, _ =>
    let i := nodeDie src - 28
    (pathOn (nodeDie src) (endpointOf src) (partnerEnd i), 16 + i, 8, some (80 + i, false))
  | _, some b =>
    let c := climb src r.srcVport
    let m := 4 * (b - 16) + r.srcUcie
    (c.1 ++ pathOn b c.2 (moduleEnd (b - 16) r.srcUcie), m, 8, some (64 + m, false))
  | _, none => ([], 0, 0, none)

/-- The way from the IOD switch: its output port, and the elements after it. -/
def fromSwitch (dst : Nat) (r : RouteRec) : Nat × List Elem :=
  match dieKind (nodeDie dst), baseDie (nodeDie dst) with
  | some .iod, _ => (18, pathOn iodDie switchEnd (endpointOf dst))
  | some .partner, _ =>
    let i := nodeDie dst - 28
    (16 + i, pathOn (nodeDie dst) (partnerEnd i) (endpointOf dst))
  | _, some b =>
    let d := descend dst r.dstVport
    (4 * (b - 16) + r.dstUcie, pathOn b (moduleEnd (b - 16) r.dstUcie) d.1 ++ d.2)
  | _, none => (0, [])

/-- Whether a node ID names an endpoint (R18, R21): its router lies in the die's mesh, which for a partner die, with the endpoints, its certificate gives; before a certificate has been taken any node of it may. -/
def State.names (s : State) (n : Nat) : Bool :=
  match dieKind (nodeDie n) with
  | none => false
  | some .partner =>
    let p := s.partner (nodeDie n - 28)
    p.meshW == 0 || (decide (nodeX n < p.meshW) && decide (nodeY n < p.meshH) && p.ends.any (fun e => e.x == nodeX n && e.y == nodeY n && e.e == nodeE n))
  | some k => decide (nodeX n < (meshSize k).1) && decide (nodeY n < (meshSize k).2)

/-- The path of a route from source to destination, none where the record does not fit the endpoints or one of them names none (R18, R199, R213). -/
def gPath (names : Nat → Bool) (src dst : Nat) (r : RouteRec) : Option (List Elem) :=
  let sd := nodeDie src
  let dd := nodeDie dst
  if !names src || !names dst || (dieKind sd).isNone || (dieKind dd).isNone || r.srcDie != sd || r.dstDie != dd then none
  else
    let sCd := decide (dieKind sd = some .cd)
    let dCd := decide (dieKind dd = some .cd)
    if sd = dd then
      if routeField false r.srcVport && routeField false r.srcUcie && routeField false r.dstUcie && routeField false r.dstVport then
        some (pathOn sd (endpointOf src) (endpointOf dst))
      else none
    else if baseDie sd = baseDie dd ∧ (baseDie sd).isSome then
      if routeField sCd r.srcVport && routeField false r.srcUcie && routeField false r.dstUcie && routeField dCd r.dstVport then
        let c := climb src r.srcVport
        let d := descend dst r.dstVport
        some (c.1 ++ pathOn ((baseDie sd).getD 0) c.2 d.1 ++ d.2)
      else none
    else if routeField sCd r.srcVport && routeField (baseDie sd).isSome r.srcUcie
        && routeField (baseDie dd).isSome r.dstUcie && routeField dCd r.dstVport then
      let u := toSwitch src r
      let d := fromSwitch dst r
      let w : Elem := { node := 0, switch := true, input := u.2.1, output := d.1, gap := u.2.2.1, cross := u.2.2.2 }
      some (u.1 ++ [w] ++ d.2)
    else none

/-- The crossings of a path. -/
def crossingsIn (es : List Elem) : List Nat := es.filterMap (fun e => e.cross.map (·.1))

/-! ### Stages and buffer sets (R201) -/

/-- The stages of a path, in the order in which it passes through them. -/
inductive Stage where
  | cdOut | bdOut | iod | bdIn | cdIn
deriving DecidableEq, Repr

def Stage.rank (g : Stage) : Nat :=
  match g with
  | .cdOut => 0
  | .bdOut => 1
  | .iod => 2
  | .bdIn => 3
  | .cdIn => 4

/-- The two buffer sets that a CD or BD router keeps for each virtual channel. -/
inductive BufSet where
  | outbound | inbound
deriving DecidableEq, Repr

/-- The buffer set that a flit uses at an element, given what lies ahead: outbound while a crossing towards the IOD switch is ahead, inbound once none is. -/
def bufferSet (ahead : List Elem) : BufSet :=
  if ahead.any (fun e => match e.cross with | some c => !c.2 | none => false) then .outbound else .inbound

/-- The stage of an element with what lies ahead of it; the IOD, its switch and a partner die's routers keep no two sets. -/
def stageAt (e : Elem) (ahead : List Elem) : Stage :=
  if e.switch then .iod
  else match dieKind (nodeDie e.node), bufferSet ahead with
    | some .cd, .outbound => .cdOut
    | some .cd, .inbound => .cdIn
    | some .bd, .outbound => .bdOut
    | some .bd, .inbound => .bdIn
    | _, _ => .iod

/-- The stages that a path passes through. -/
def stages (es : List Elem) : List Stage :=
  match es with
  | [] => []
  | e :: rest => stageAt e rest :: stages rest

/-- A path never returns to an earlier stage (R201). -/
def stagesRise (l : List Stage) : Bool :=
  match l with
  | a :: b :: rest => decide (a.rank ≤ b.rank) && stagesRise (b :: rest)
  | _ => true

/-! ### Streams by their endpoints (R210) -/

/-- A stream from an L3 slice is a return stream (R210). -/
def GStream.isReturn (g : GStream) : Bool := (sliceAt g.srcNode).isSome

/-- A stream from a cluster to an L3 slice is a memory stream (R210). -/
def GStream.isMemory (g : GStream) : Bool := isClusterNode g.srcNode && (sliceAt g.dstNode).isSome && g.dstCore == 0xFF

/-- A stream whose messages a core's inbox takes (R107): it ends at a cluster and is no return stream. -/
def GStream.toInbox (g : GStream) : Bool := isClusterNode g.dstNode && !g.isReturn

/-- The source slots of a stream: its entries at its first router whose input is the source endpoint (R211), in rising order. -/
def sourceSlots (l : List SlotEntry) (g : GStream) : List Nat :=
  (List.range 20).filter (fun k => l.any (fun e => e.stream == g.stream && !e.switch
    && e.node == mkNode (nodeDie g.srcNode) (nodeX g.srcNode) (nodeY g.srcNode) 0 && e.input == nodeE g.srcNode && e.slot == k))

/-- The memory streams, or the return streams, between the endpoints of a stream, in ascending order. -/
def memPeers (l : List GStream) (node core slice : Nat) : List Nat :=
  let ns := (l.filter (fun g => g.isMemory && g.srcNode == node && g.srcCore == core && g.dstNode == slice)).map (·.stream)
  (List.range 1024).filter (fun n => ns.contains n)

def retPeers (l : List GStream) (node core slice : Nat) : List Nat :=
  let ns := (l.filter (fun g => g.isReturn && g.dstNode == node && g.dstCore == core && g.srcNode == slice)).map (·.stream)
  (List.range 1024).filter (fun n => ns.contains n)

/-- Whether a stream has an endpoint on a partner die. -/
def GStream.onPartner (g : GStream) (site : Nat) : Bool := nodeDie g.srcNode == 28 + site || nodeDie g.dstNode == 28 + site

/-- The stream with a number. -/
def streamNo (l : List GStream) (n : Nat) : Option GStream := l.find? (fun g => g.stream == n)

/-- The return stream of a memory stream, and the memory stream of a return stream: paired in ascending order (R210). -/
def partnerStream (l : List GStream) (g : GStream) : Option GStream :=
  if g.isMemory then
    let i := (memPeers l g.srcNode g.srcCore g.dstNode).idxOf g.stream
    ((retPeers l g.srcNode g.srcCore g.dstNode)[i]?).bind (streamNo l)
  else if g.isReturn then
    let i := (retPeers l g.dstNode g.dstCore g.srcNode).idxOf g.stream
    ((memPeers l g.dstNode g.dstCore g.srcNode)[i]?).bind (streamNo l)
  else none

/-- The ROUTES record of a Class G route (R200). -/
def routeRec (routes : List RouteRec) (id : Nat) : Option RouteRec :=
  if id < 0x8000 then routes.find? (fun r => r.routeId == id) else none

/-! ### Failed crossings (R199, R200, R239) -/

/-- Whether Class G traffic must avoid a crossing: it has failed, or a mark deviated (R231, R238). -/
def State.gAvoids (s : State) (x : Nat) : Bool := decide ((s.xl x).st = .failed) || (s.xl x).gOff

/-- Whether Class U and Class B traffic must avoid a crossing: it has failed or does not run (R231, R239). -/
def State.uAvoids (s : State) (x : Nat) : Bool := decide ((s.xl x).st = .failed) || decide ((s.xl x).st = .training)

/-- The working one of four ports nearest to a number, the lower-numbered one on a tie (R199, R239). -/
def nearestPort (bad : Nat → Bool) (p : Nat) : Option Nat :=
  ((List.range 4).flatMap (fun d => (if d ≤ p then [p - d] else []) ++ [p + d])).find? (fun i => decide (i < 4) && !bad i)

/-- A route field with a failed crossing replaced by the nearest that works; none where none is left. -/
def replaceField (bad : Nat → Bool) (first p : Nat) : Option Nat :=
  if p = 0xFF then some p else nearestPort (fun i => bad (first + i)) p

/-- A route with every failed crossing replaced (R238, R239). -/
def reroute (bad : Nat → Bool) (r : RouteRec) : Option RouteRec :=
  let sb := ((baseDie r.srcDie).getD 16) - 16
  let db := ((baseDie r.dstDie).getD 16) - 16
  match replaceField bad (r.srcDie * 4) r.srcVport, replaceField bad (64 + 4 * sb) r.srcUcie,
      replaceField bad (64 + 4 * db) r.dstUcie, replaceField bad (r.dstDie * 4) r.dstVport with
  | some a, some b, some c, some d => some { r with srcVport := a, srcUcie := b, dstUcie := c, dstVport := d }
  | _, _, _, _ => none

/-- The path of a stream with a set of crossings avoided. -/
def streamPath (names bad : Nat → Bool) (routes : List RouteRec) (g : GStream) : Option (List Elem) :=
  ((routeRec routes g.routeId).bind (reroute bad)).bind (gPath names g.srcNode g.dstNode)

/-! ### Class U and Class B routes (R199, R200) -/

/-- The vertical port of the default route at one end: c for cluster c, else 0 (R199). -/
def defaultVport (n : Nat) : Nat := if isClusterNode n then nodeX n else 0

/-- The column of a flit's end inside its base die (R199). -/
def endColumn (n vport : Nat) : Nat :=
  match dieKind (nodeDie n) with
  | some .cd => nodeX (vportBdNode (nodeDie n) vport)
  | _ => nodeX n

/-- The override record for a pair of base dies (R200). -/
def overrideFor (routes : List RouteRec) (a b : Nat) : Option RouteRec :=
  routes.find? (fun r => decide (0x8000 ≤ r.routeId) && r.srcDie == a && r.dstDie == b)

/-- The default module of a flit's end (R199), or the one that an override names (R200). -/
def moduleFor (bound : Option Nat) (x : Nat) : Nat := bound.getD (min (max (x - 1) 0) 3)

/-- The route of a Class U or Class B flit, failed crossings replaced; none where no module or port is left. -/
def State.uRoute (s : State) (src dst : Nat) : Option RouteRec :=
  let sd := nodeDie src
  let dd := nodeDie dst
  let same := sd == dd
  let near := decide (baseDie sd = baseDie dd ∧ (baseDie sd).isSome)
  let named := match baseDie sd, baseDie dd with
    | some a, some b => overrideFor s.fabric.routes a b
    | _, _ => none
  let vp := fun (n : Nat) =>
    if dieKind (nodeDie n) = some .cd ∧ same = false then replaceField s.uAvoids (nodeDie n * 4) (defaultVport n) else some 0xFF
  let md := fun (n v : Nat) (o : Option Nat) =>
    match baseDie (nodeDie n) with
    | some b => if same || near then some 0xFF else replaceField s.uAvoids (64 + 4 * (b - 16)) (moduleFor o (endColumn n v))
    | none => some 0xFF
  match vp src, vp dst with
  | some a, some d =>
    match md src a (named.map (·.srcUcie)), md dst d (named.map (·.dstUcie)) with
    | some b, some c =>
      some { routeId := 0, srcDie := sd, dstDie := dd, srcVport := a, srcUcie := b, dstUcie := c, dstVport := d }
    | _, _ => none
  | _, _ => none

/-- The path of a Class U or Class B flit. -/
def State.uPath (s : State) (src dst : Nat) : Option (List Elem) := (s.uRoute src dst).bind (gPath s.names src dst)

/-! ### Arrival (R199, R201, R204, R222) -/

/-- Whether this is the last frame before a crossing's new mapping: it then carries no flits (R237). -/
def State.quietFrame (s : State) (x : Nat) : Bool := (s.xl x).remaps.any (fun r => r.boundary == some (s.time.frame + 1))

/-- Whether a crossing carries Class U and Class B traffic: a vertical port or module that works, a partner port that is UP (R231, R243), in no frame before a remap (R237). -/
def State.crossingUp (s : State) (x : Nat) : Bool :=
  (if 80 ≤ x then decide ((s.partner (x - 80)).st = .up) else !s.uAvoids x) && !s.quietFrame x

/-- The path that a message of a class takes: the stream's in Class G, unless that stream is demoted; else the default route (R199, R200, R204, R219). -/
def State.pathFor (s : State) (src dst cls : Nat) (stream : Option Nat) : Option (List Elem) :=
  match (if cls = 2 then stream else none) with
  | some n =>
    if (s.stream n).st = .demoted then s.uPath src dst else streamPath s.names s.gAvoids s.fabric.routes (s.stream n).desc
  | none => s.uPath src dst

/-- Whether a message reaches its destination: a path leads there, over crossings that work, through stages that never return (R199, R201). -/
def State.reach (s : State) (src dst cls : Nat) (stream : Option Nat) : Bool :=
  match s.pathFor src dst cls stream with
  | some es => stagesRise (stages es) && (crossingsIn es).all (fun x => s.crossingUp x)
  | none => false

/-- The router of a node (R17). -/
def routerOf (n : Nat) : Nat := mkNode (nodeDie n) (nodeX n) (nodeY n) 0

/-- What a flit error makes of a message (R222). -/
inductive Fate where
  /-- it arrives as it was sent -/
  | ok
  /-- its data flit is delivered with all four POISON bits set -/
  | poisoned
  /-- its header or mailbox flit is discarded -/
  | lost
deriving DecidableEq, Repr

/-- A flit error on the way of a message (R222, R235): counted for its lane and logged at the router that found it, whose die is fenced for a header or mailbox flit. -/
def State.flitFate (s : State) (qid : Nat) (addr : Option Nat) (hasData : Bool) (u : Upset) : State × Fate :=
  let at_ := fun (r : ErrRec) => match addr with
    | some a => r.withAddr a
    | none => r
  match u with
  | .flitCe n x i l => ((s.countFlit x i l true).log (at_ (Syn.flitCe.record n 0x05 (routerOf n) qid)), .ok)
  | .flitData n x i l =>
    if hasData then ((s.countFlit x i l false).log (at_ (Syn.flitDataUe.record n 0x05 (routerOf n) qid)), .poisoned) else (s, .ok)
  | .flitHdr n x i l => ((s.countFlit x i l false).log (at_ (Syn.flitHdrUe.record n 0x10 (nodeDie n) qid)), .lost)
  | _ => (s, .ok)

/-- A message that arrives: nothing until a path leads it there; taken away where its header is lost; else handed on, its data poisoned where the data flit was bad (R222). -/
def State.arrive (s : State) (m : CohMsg) (u : Upset) (f : State → CohMsg → State) : State :=
  if !s.reach m.src m.dst m.cls m.stream then s
  else
    let r := s.flitFate m.qid (some (64 * m.addr)) m.hasData u
    match r.2 with
    | .ok => f r.1 m
    | .lost => r.1.takeCoh m
    | .poisoned =>
      let p := { m with poison := 0xF#4 }
      f { r.1 with net := { r.1.net with coh := r.1.net.coh.map (fun c => if c = m then p else c) } } p

end Sys2Proof.Machine
end

