-- ==== Sys2Proof/Machine/DebugOps.lean ====
section
/-! DEFINITION. What debugging decides about a hart: the enables that apply (R63, R374, R375), the cell that halts with it (R112), and the count of the Secure watchdog, which a halt pauses (R376). -/

namespace Sys2Proof.Machine

/-- The enables that a debug session holds open (R374). -/
def State.debugOpenBits (s : State) : BitVec 4 := (s.clasp.session.map (·.bits)).getD 0

/-! ### Enables (R63, R374) -/

/-- Whether an enable of a world applies to a hart: open in the session, and not opted out of by its Quire; `obs` the non-invasive one. -/
def State.debugApplies (s : State) (h : Nat) (secure obs : Bool) : Bool :=
  let i := (if secure then 2 else 0) + (if obs then 1 else 0)
  let out := ((s.bind.debugs.find? (fun r => r.qid == (s.hart h).qid && r.qid != 0)).map (·.bits)).getD 0
  s.debugOpenBits.getLsbD i && !out.getLsbD i

/-- Whether the INV enable of a hart's own world applies to it (R375). -/
def State.invApplies (s : State) (h : Nat) : Bool := s.debugApplies h (s.hart h).secure false

/-- Whether OBS, or INV with its powers, applies to a hart (R374). -/
def State.obsApplies (s : State) (h : Nat) : Bool := s.invApplies h || s.debugApplies h (s.hart h).secure true

/-! ### The Secure watchdog's count (R376) -/

/-- Whether the count pauses: a package state from PK2 on, or a hart of HART's Quire halted under S_INV. -/
def State.swdPaused (s : State) : Bool :=
  let q := (s.hart s.clasp.swd.hart).qid
  decide (2 ≤ s.pwr.pk)
    || s.harts.any (fun e => decide (e.2.run = .halted) && e.2.qid == q && s.debugApplies e.1 true false)

def State.setSwd (s : State) (w : Swd) : State := { s with clasp := { s.clasp with swd := w } }

/-- Nanoseconds counted up to now. -/
def State.swdCounted (s : State) : Nat :=
  let w := s.clasp.swd
  w.counted + (match w.since with | some t => s.time.now - t | none => 0)

/-- The count brought up to now, and paused or running as the state has it. -/
def State.swdSync (s : State) : State :=
  let w := s.clasp.swd
  if !w.enable then s
  else s.setSwd { w with counted := s.swdCounted, since := if s.swdPaused then none else some s.time.now }

/-- The count from zero. -/
def State.swdRestart (s : State) : State :=
  let w := s.clasp.swd
  if !w.enable then s
  else s.setSwd { w with counted := 0, since := if s.swdPaused then none else some s.time.now }

/-- The even hart of a hart number in a checked pair. -/
def pairOf (h : Nat) : Nat := h / 2 * 2

/-- The harts of a cell: a core, or the two of a checked pair (R112, R346). -/
def State.cellHarts (s : State) (h : Nat) : List Nat :=
  if (s.hart (pairOf h)).paired then [pairOf h, pairOf h + 1] else [h]

end Sys2Proof.Machine
end

