-- ==== Sys2Proof/Machine/HartOps.lean ====
section
/-! DEFINITION. What every hart command shares: counters (R403 to R407), registers, interrupts, traps and trap returns, and the flush points of R89. -/

namespace Sys2Proof.Machine

/-! ### Counters (R403 to R407) -/

/-- The Sscofpmf bit that stops an event in a mode (R407). -/
def inhibitBit (m : Mode) (v : Bool) : Nat :=
  match m, v with
  | .m, _ => 62
  | .s, false => 61
  | .u, false => 60
  | .s, true => 59
  | .u, true => 58

/-- mhpmcounter i counts k events of CNT n if mhpmevent i selects them (R407): 64 bits, an overflow sets OF and, where OF was clear, LCOFIP (mip bit 13). -/
def Hart.countStd (x : Hart) (n k i : Nat) : Hart :=
  let ev := Tab.get x.csr 0 (0x320 + i)
  let stopped := bitOf (Tab.get x.csr 0 0x320).toNat i || flagOf ev (inhibitBit x.mode x.virt)
  if fieldOf ev 0 8 = n + 1 ∧ stopped = false then
    let old := (Tab.get x.csr 0 (0xB00 + i)).toNat
    let csr := Tab.set x.csr (0xB00 + i) (word (old + k))
    if old + k < 2 ^ 64 then { x with csr := csr }
    else
      let csr := Tab.set csr (0x320 + i) (ev ||| word (2 ^ 63))
      let mip := Tab.get csr 0 0x344
      { x with csr := if flagOf ev 63 then csr else Tab.set csr 0x344 (mip ||| word (2 ^ 13)) }
  else x

/-- CNT n takes k more counts of its own or of the chain; each wrap sets its overflow bit and feeds a chained successor (R406, R407). -/
def Hart.addCnt (fuel : Nat) (x : Hart) (n k : Nat) : Hart :=
  match fuel with
  | 0 => x
  | f + 1 =>
    let t := (Tab.get x.cnt 0 n).toNat + k
    let x1 := { x with cnt := Tab.set x.cnt n (BitVec.ofNat 48 t) }
    if t < 2 ^ 48 then x1
    else
      let x2 := { x1 with cntOvf := x1.cntOvf ||| BitVec.ofNat 128 (2 ^ n) }
      if n + 1 < 128 ∧ x.cntChain.getLsbD (n + 1) = true then Hart.addCnt f x2 (n + 1) (t / 2 ^ 48) else x2

/-- k events of counter n (R404): the counter's own count unless it is chained (R406), and the standard counters that select the event (R407). -/
def Hart.count (x : Hart) (n k : Nat) : Hart :=
  let x := if n ≠ 0 ∧ x.cntChain.getLsbD n = true then x else Hart.addCnt 128 x n k
  ((List.range 29).map (· + 3)).foldl (fun x i => x.countStd n k i) x

/-- The counters whose events the clock of the core, or its pipeline, makes and no command does (R404, R405): cycles, slots, stalls, occupancy, fetches (log 35). -/
def untimed (n : Nat) : Bool :=
  n == 0 || (2 ≤ n && n ≤ 5) || n == 16 || n == 17 || n == 26 || n == 27 || n == 31 || n == 33 || n == 39 || n == 42 || n == 44 || n == 54
    || (64 ≤ n && n ≤ 95) || 112 ≤ n

/-- The counter of nanoseconds in a C-state (R404). -/
def cCounter (c : CState) : Option Nat :=
  match c with
  | .c0 => none
  | .c1 => some 58
  | .c2 => some 59
  | .c3 => some 60

/-- The counters of a core set to 0 (R403). -/
def Hart.clearCounters (x : Hart) : Hart := { x with cnt := [], cntOvf := 0, cntChain := 0, cntStamp := 0 }

/-! ### Registers (R82) -/

/-- x0 reads zero. -/
def Hart.getX (x : Hart) (n : Nat) : Word := if n = 0 then 0 else Tab.get x.x 0 n

/-- A write of x0 is discarded. -/
def Hart.setX (x : Hart) (n : Nat) (v : Word) : Hart := if n = 0 then x else { x with x := Tab.set x.x n v }

def Hart.getCsr (x : Hart) (n : Nat) : Word := Tab.get x.csr 0 n
def Hart.setCsr (x : Hart) (n : Nat) (v : Word) : Hart := { x with csr := Tab.set x.csr n v }

/-! ### Retirement and the loop unit (R88, R92, R404) -/

/-- The counter of a retirement class (R404). -/
def retIndex (c : RetClass) : Nat :=
  match c with
  | .alu => 96
  | .mulDiv => 97
  | .branch => 98
  | .jump => 99
  | .load => 100
  | .store => 101
  | .amo => 102
  | .csr => 103
  | .fence => 104
  | .vint => 105
  | .vfp => 106
  | .vload => 107
  | .vstore => 108
  | .fp => 109
  | .xlz => 110
  | .system => 111

/-- The counters that one retired instruction of a class counts in besides INSTRET and its own (R404). -/
def retAlso (c : RetClass) : List Nat :=
  match c with
  | .load => [13]
  | .store => [14]
  | .amo => [15]
  | .vint | .vfp | .vload | .vstore => [43]
  | .fp => [45]
  | .alu | .mulDiv | .branch | .jump | .csr | .fence | .xlz | .system => []

/-- A retired instruction counted (R404); minstret counts as the privileged specification states (R407). -/
def Hart.countRetire (x : Hart) (c : RetClass) : Hart :=
  let x := ((retIndex c :: retAlso c).foldl (fun y n => y.count n 1) x).count 1 1
  if flagOf (x.getCsr 0x320) 2 then x else x.setCsr 0xB02 (x.getCsr 0xB02 + 1)

def Hart.loop (x : Hart) (level : Nat) : Loop := if level = 0 then x.loop0 else x.loop1
def Hart.setLoop (x : Hart) (level : Nat) (l : Loop) : Hart :=
  if level = 0 then { x with loop0 := l } else { x with loop1 := l }

/-- Whether the loop unit acts on a level when the sequential successor is `next` (R92). -/
def Hart.loopDue (x : Hart) (level : Nat) (next : Word) : Bool :=
  let l := x.loop level
  l.active && l.prv == x.mode && l.virt == x.virt && l.stop == next && decide (1 ≤ l.count)

/-- The loop unit acts on one level (R92): the next PC, and whether the level has just ended. -/
def Hart.loopAct (x : Hart) (level : Nat) (next : Word) : Hart × Bool :=
  let l := x.loop level
  if 1 < l.count then
    let buf := if x.loopBuf.contains level then x.loopBuf else x.loopBuf ++ [level]
    let y := x.setLoop level { l with count := l.count - 1 }
    (({ y with pc := l.stop - word (2 * l.len), loopBuf := buf }).count 10 1, false)
  else ({ x.setLoop level { l with count := 0, active := false } with pc := next }, true)

/-- The next PC after an instruction whose execution goes on to its sequential successor: level 1 first, level 0 only if level 1 has just ended or did not act (R92). -/
def Hart.goOn (x : Hart) (next : Word) : Hart :=
  if x.loopDue 1 next then
    let r := x.loopAct 1 next
    if r.2 && r.1.loopDue 0 next then (r.1.loopAct 0 next).1 else r.1
  else if x.loopDue 0 next then (x.loopAct 0 next).1
  else { x with pc := next }

/-- A four-byte instruction of a class retires and execution goes on (R88, R92, R404). -/
def Hart.retire (x : Hart) (c : RetClass) : Hart :=
  ({ x with lastPc := x.pc }.countRetire c).goOn (x.pc + 4)

/-- The hart that a hart number stands for: the odd core of a checked pair has no architectural existence (R112). -/
def State.hartLive (s : State) (h : Nat) : Bool :=
  s.fuse.hartOk h && decide ((s.hart h).run = .running) && decide ((s.hart h).cstate = .c0) && (s.hart h).entering.isNone
    && !s.isFenced (coreUnit h)
    && !(h % 2 == 1 && (s.hart (h - 1)).paired)

/-- Whether a hart number has interrupt files: those of a fused-off hart and of the odd hart of a pair are reserved (R28, R112). -/
def State.hasFiles (s : State) (h : Nat) : Bool := s.fuse.hartOk h && !(h % 2 == 1 && (s.hart (h - 1)).paired)

/-! ### Flush points (R89, R99) -/

def CLine.keep (c : CLine) : Bool := !c.unconf
def TlbEnt.keep (e : TlbEnt) : Bool := !e.unconf

/-- An unconfirmed line invalidated: a locked way stays reserved for its address (R152, R153). -/
def CLine.invalidate (c : CLine) : CLine := if c.unconf && c.locked then { c with st := .i, unconf := false } else c

/-- A speculative miss in flight when unconfirmed lines are invalidated: its grant is to be given back, not kept (R99). -/
def Miss.forsake (m : Miss) : Miss := if m.spec then { m with dropped := true } else m

/-- Unconfirmed lines and TLB entries invalidated at once, with the count of what went; a speculative walk stops, and speculative misses bring nothing in any more (R99). -/
def Hart.dropUnconfirmed (x : Hart) : Hart :=
  let gone := (x.l1i.filter (fun e => e.2.unconf)).length + (x.l1d.filter (fun e => e.2.unconf)).length
    + (x.vc.filter (fun e => e.2.unconf)).length + (x.l2.filter (fun e => e.2.unconf)).length
    + (x.itlb.filter (fun e => e.2.unconf)).length + (x.dtlb.filter (fun e => e.2.unconf)).length
  let y := { x with
    l1i := x.l1i.filter (fun e => e.2.keep), l1d := x.l1d.filter (fun e => e.2.keep), vc := x.vc.filter (fun e => e.2.keep),
    l2 := (x.l2.map (fun e => (e.1, e.2.invalidate))).filter (fun e => e.2.keep),
    itlb := x.itlb.filter (fun e => e.2.keep), dtlb := x.dtlb.filter (fun e => e.2.keep),
    misses := x.misses.map Miss.forsake, walk := if (x.walk.map Walk.spec).getD false then none else x.walk }
  if gone = 0 then y else y.count 34 gone

/-- A flush point of R89: BTB, both return stacks and the loop buffer are flushed, and what is unconfirmed goes. -/
def Hart.flushPoint (x : Hart) : Hart :=
  ({ x with btb := [], ras := [], rasSpec := [], loopBuf := [] }).dropUnconfirmed.count 11 1

/-- A redirect of fetch to another privilege mode and V: the flush of R89 where either changes; else the speculative return stack is restored from the retired copy (R88). A buffer that an interrupted lz.mbsend has read is read again. -/
def Hart.enterMode (x : Hart) (m : Mode) (v : Bool) : Hart :=
  let y := { x with mode := m, virt := v, nc64 := none }
  if x.mode = m ∧ x.virt = v then { y with rasSpec := y.ras } else y.flushPoint

/-! ### lzwalk (R135 to R137) -/

/-- The detail of a translation fault (R135, R136): lzwalk's fields. -/
structure WalkDetail where
  cause : Nat
  gstage : Bool
  level : Nat
  addr : Nat
deriving DecidableEq, Repr

/-- An access fault that did not arise in translation (R137). -/
def WalkDetail.none : WalkDetail := { cause := 0, gstage := false, level := 0, addr := 0 }

def WalkDetail.value (d : WalkDetail) : Word :=
  word (d.cause * 2 ^ 60 + bitAt d.gstage 59 + d.level * 2 ^ 56 + d.addr / 8 % 2 ^ 49 * 8)

/-- The trap codes that write lzwalk (R137). -/
def writesWalk (code : Nat) : Bool := [1, 5, 7, 12, 13, 15, 20, 21, 23, 26].contains code

/-! ### Traps (R89, R116, R137; log 11) -/

/-- An exception as an access or an instruction raises it. -/
structure Exc where
  code : Nat
  tval : Word
  detail : WalkDetail
  gpa : Nat
  /-- taken in HS-mode or M-mode whatever hedeleg holds (R130) -/
  noVs : Bool
deriving DecidableEq, Repr

def Exc.of (code : Nat) (tval : Word) : Exc :=
  { code := code, tval := tval, detail := WalkDetail.none, gpa := 0, noVs := false }

/-- The mode that takes a trap: M, or HS or VS by delegation (R116). -/
def Hart.trapTarget (x : Hart) (intr : Bool) (code : Nat) (noVs : Bool) : Mode × Bool :=
  let deleg := x.getCsr (if intr then 0x303 else 0x302)
  let hdeleg := x.getCsr (if intr then 0x603 else 0x602)
  if x.mode = .m ∨ flagOf deleg code = false then (.m, false)
  else if x.virt = true ∧ flagOf hdeleg code = true ∧ noVs = false then (.s, true)
  else (.s, false)

/-- A trap vector: BASE, or BASE + 4 × cause for a vectored interrupt. -/
def trapVector (tvec : Word) (intr : Bool) (code : Nat) : Word :=
  let base := word (tvec.toNat / 4 * 4)
  if intr && fieldOf tvec 0 2 == 1 then base + word (4 * code) else base

/-- A status word with bits cleared and set. -/
def statusBits (v : Word) (clear set : Nat) : Word := (v &&& ~~~(word clear)) ||| word set

def modeCode (m : Mode) : Nat :=
  match m with
  | .u => 0
  | .s => 1
  | .m => 3

/-- A trap taken: the cause, the pc and the status saved in the registers of the mode that takes it, lzwalk written where R137 says so, the pc at the vector, and the flush of R89 where mode or V changes. -/
def Hart.trapTo (x : Hart) (t : Mode × Bool) (intr : Bool) (e : Exc) : Hart :=
  let cause := word (e.code + (if intr then 2 ^ 63 else 0))
  let x := x.count (if intr then 56 else 55) 1
  let walk := !intr && writesWalk e.code
  let gva := walk && x.virt
  if t.1 = .m then
    let st := x.getCsr 0x300
    let st := statusBits st (2 ^ 7 + 2 ^ 3 + 3 * 2 ^ 11 + 2 ^ 39 + 2 ^ 38)
      (bitAt (flagOf st 3) 7 + modeCode x.mode * 2 ^ 11 + bitAt (x.virt && decide (x.mode ≠ .m)) 39 + bitAt gva 38)
    let y := ((((x.setCsr 0x300 st).setCsr 0x341 x.pc).setCsr 0x342 cause).setCsr 0x343 e.tval).setCsr 0x34B (word (e.gpa / 4))
    let y := if walk then { y with lzwalkM := e.detail.value } else y
    ({ y with pc := trapVector (x.getCsr 0x305) intr e.code }).enterMode .m false
  else if t.2 then
    let st := x.getCsr 0x200
    let st := statusBits st (2 ^ 5 + 2 ^ 1 + 2 ^ 8) (bitAt (flagOf st 1) 5 + bitAt (decide (x.mode = .s)) 8)
    let cause := if intr then word (e.code - 1 + 2 ^ 63) else cause
    let y := (((x.setCsr 0x200 st).setCsr 0x241 x.pc).setCsr 0x242 cause).setCsr 0x243 e.tval
    let y := if walk then { y with lzwalkVs := e.detail.value } else y
    ({ y with pc := trapVector (x.getCsr 0x205) intr (if intr then e.code - 1 else e.code) }).enterMode .s true
  else
    let st := x.getCsr 0x300
    let st := statusBits st (2 ^ 5 + 2 ^ 1 + 2 ^ 8) (bitAt (flagOf st 1) 5 + bitAt (decide (x.mode = .s)) 8)
    let hst := statusBits (x.getCsr 0x600) (2 ^ 7 + 2 ^ 6 + (if x.virt then 2 ^ 8 else 0))
      (bitAt x.virt 7 + bitAt gva 6 + bitAt (x.virt && decide (x.mode = .s)) 8)
    let y := (((((x.setCsr 0x300 st).setCsr 0x600 hst).setCsr 0x141 x.pc).setCsr 0x142 cause).setCsr 0x143 e.tval).setCsr 0x643
      (word (e.gpa / 4))
    let y := if walk then { y with lzwalkHs := e.detail.value } else y
    ({ y with pc := trapVector (x.getCsr 0x105) intr e.code }).enterMode .s false

/-- A trap taken where delegation sends it (R116). -/
def Hart.trap (x : Hart) (intr : Bool) (e : Exc) : Hart := x.trapTo (x.trapTarget intr e.code e.noVs) intr e

/-- A hart takes an exception. -/
def State.raise (s : State) (h : Nat) (e : Exc) : State := s.modHart h (fun x => x.trap false e)

/-- A hart takes an exception without translation detail. -/
def State.raiseCode (s : State) (h code : Nat) (tval : Word) : State := s.raise h (Exc.of code tval)

/-- An illegal or virtual instruction by a command of its own: xtval receives the instruction's bits (R116); the fields that the command does not carry, under `free`, are a free value (log 8). -/
def State.raiseIllegal (s : State) (h code bits free : Nat) : State :=
  s.draw.2.raiseCode h code (word bits ||| (word s.draw.1 &&& word free))

/-! ### Triggers and debug mode (R83, R89, R375; log 76) -/

/-- The accesses that a mcontrol6 trigger tells apart. -/
inductive TrigKind where
  | load | store | execute
deriving DecidableEq, Repr

def TrigKind.bit (k : TrigKind) : Nat :=
  match k with
  | .load => 0
  | .store => 1
  | .execute => 2

def Hart.trigger (x : Hart) (i : Nat) : Word × Word := Tab.get x.triggers (word (6 * 2 ^ 60), 0) i

/-- The trigger's bit for the mode that the hart runs in. -/
def Hart.trigMode (x : Hart) : Nat :=
  match x.mode, x.virt with
  | .m, _ => 6
  | .s, false => 4
  | .u, false => 3
  | .s, true => 24
  | .u, true => 23

/-- The compare of tdata2 with a value under MATCH: equal, NAPOT, not below, below, masked low and high half; bit 3 inverts. -/
def trigCompare (mode ref v : Nat) : Bool :=
  let low : Nat → Nat := fun n => n % 2 ^ 32
  let hi : Nat → Nat := fun n => n / 2 ^ 32 % 2 ^ 32
  let span := 2 ^ (((List.range 64).find? (fun i => !bitOf ref i)).getD 63 + 1)
  let hit := match mode % 8 with
    | 0 => v == ref
    | 1 => v / span == ref / span
    | 2 => decide (ref ≤ v)
    | 3 => decide (v < ref)
    | 4 => (low v &&& hi ref) == low ref
    | 5 => (hi v &&& hi ref) == low ref
    | _ => false
  if mode < 8 then hit else !hit

/-- The bytes of an access that SIZE of a trigger asks for, 0 any. -/
def trigSize (c : Nat) : Nat :=
  match c with
  | 1 => 1
  | 2 => 2
  | 3 => 4
  | 5 => 8
  | _ => 0

/-- Whether trigger i matches an access of n bytes at an address with its data, if known; one set by the debugger fires only under the INV enable of the hart's world (R375), and one that takes an exception never in M-mode with MIE clear. -/
def State.trigMatch (s : State) (h : Nat) (k : TrigKind) (a n : Nat) (data : Option Nat) (i : Nat) : Bool :=
  let x := s.hart h
  let c := (x.trigger i).1
  let size := trigSize (fieldOf c 16 3)
  let value := if flagOf c 21 then data else some a
  flagOf c k.bit && flagOf c x.trigMode && (size == 0 || size == n)
    && (match value with | some v => trigCompare (fieldOf c 7 4) (x.trigger i).2.toNat v | none => false)
    && (if flagOf c 59 then s.invApplies h else fieldOf c 12 4 == 0 && !(decide (x.mode = .m) && !flagOf (x.getCsr 0x300) 3))

/-- The trigger that fires: the last of a chain in which every one matches. -/
def Hart.firedFrom (x : Hart) (m : Nat → Bool) : Nat → Nat → Bool → Option Nat
  | 0, _, _ => none
  | f + 1, i, ok =>
    let ok := ok && m i
    if flagOf (x.trigger i).1 11 && decide (i < 7) then Hart.firedFrom x m f (i + 1) ok
    else if ok then some i else Hart.firedFrom x m f (i + 1) true

/-- The trigger that an access fires, if any: none on a hart that has none set. -/
def State.trigFor (s : State) (h : Nat) (k : TrigKind) (a n : Nat) (data : Option Nat) : Option Nat :=
  let x := s.hart h
  if x.triggers.isEmpty then none else x.firedFrom (s.trigMatch h k a n data) 8 0 true

/-- Debug-mode entry: dcsr keeps the cause, V and the mode, dpc the pc, and the hart halts with the privilege of M-mode (R89). -/
def Hart.enterDebug (x : Hart) (cause : Nat) : Hart :=
  let d := statusBits (x.getCsr 0x7B0) (15 * 2 ^ 28 + 7 * 2 ^ 6 + 2 ^ 5 + 3) (4 * 2 ^ 28 + cause * 2 ^ 6 + bitAt x.virt 5 + modeCode x.mode)
  Hart.enterMode { (x.setCsr 0x7B0 d).setCsr 0x7B1 x.pc with run := .halted } .m false

/-- Debug-mode exit: the mode and V of dcsr and the pc of dpc (R89). -/
def Hart.leaveDebug (x : Hart) : Hart :=
  let d := x.getCsr 0x7B0
  let back := if fieldOf d 0 2 = 3 then Mode.m else if fieldOf d 0 2 = 1 then .s else .u
  Hart.enterMode { x with run := .running, pc := x.getCsr 0x7B1 } back (flagOf d 5 && decide (back ≠ .m))

/-- A hart's cell halts (R112, R375). -/
def State.haltOne (s : State) (h cause : Nat) : State :=
  (s.cellHarts h).foldl (fun s k => s.modHart k (fun x => if x.run = .running then x.enterDebug cause else x)) s

/-- The harts that halt with one: those of its halt group whose INV enable applies (R83, R375). -/
def State.groupOf (s : State) (h : Nat) : List Nat :=
  let g := Tab.get s.dbg.groups 0 h
  if g = 0 then [] else (s.dbg.groups.filter (fun e => e.2 == g && e.1 != h && s.invApplies e.1)).map (·.1)

/-- A hart halts, with its cell and its halt group; the Secure watchdog's count is brought up before and judged after (R376). -/
def State.haltHart (s : State) (h cause : Nat) : State :=
  let s := s.swdSync
  ((s.groupOf h).foldl (fun s k => s.haltOne k 6) (s.haltOne h cause)).swdSync

/-- A halted hart's cell goes on. -/
def State.resumeHart (s : State) (h : Nat) : State :=
  let s := s.swdSync
  ((s.cellHarts h).foldl (fun s k => s.modHart k (fun x => if x.run = .halted then x.leaveDebug else x)) s).swdSync

/-- A trigger fires: its hit bit is set, and the hart enters debug mode or takes a breakpoint exception with the address. -/
def State.fire (s : State) (h i : Nat) (a : Word) : State :=
  let c := ((s.hart h).trigger i).1
  let s := s.modHart h (fun x => { x with triggers := Tab.set x.triggers i (c ||| word (2 ^ 22), (x.trigger i).2) })
  if fieldOf c 12 4 = 1 then s.haltHart h 2 else s.raiseCode h 3 a

/-- What comes before the instruction at a boundary. -/
inductive Due where
  /-- exception 24 of a deadline channel -/
  | channel (n : Nat)
  /-- an execute trigger at the pc -/
  | trigger (i : Nat)
deriving DecidableEq, Repr

/-- What is due at the boundary before the next instruction: exception 24 of the lowest channel first, before any exception of the instruction (R96, R116), then a trigger on its address. -/
def State.due (s : State) (h : Nat) : Option Due :=
  let x := s.hart h
  match firstBelow 4 (fun n => x.dlTake.getLsbD n) with
  | some n => some (.channel n)
  | none => (s.trigFor h .execute x.pc.toNat 4 none).map .trigger

/-- An instruction of a hart: nothing where the hart does not run; at its boundary what is due comes first, exception 24 with xtval the channel (R96, R116). -/
def State.instr (s : State) (h : Nat) (f : State → State) : State :=
  if s.hartLive h then
    match s.due h with
    | some (.channel n) =>
      (s.modHart h (fun x => { x with dlTake := x.dlTake &&& ~~~(BitVec.ofNat 4 (2 ^ n)) })).raiseCode h 24 (word n)
    | some (.trigger i) => s.fire h i (s.hart h).pc
    | none => f s
  else s

/-- An access of a retiring instruction, before which a trigger on its address or data fires. -/
def State.watched (s : State) (h : Nat) (k : TrigKind) (va : Word) (n : Nat) (data : Option Nat) (f : State → State) : State :=
  match s.trigFor h k va.toNat n data with
  | some i => s.fire h i va
  | none => f s

/-- The kinds of access. -/
inductive AccKind where
  | fetch | load | store
deriving DecidableEq, Repr

/-- The access fault of an access type (R27). -/
def AccKind.accessFault (k : AccKind) : Nat :=
  match k with
  | .fetch => 1
  | .load => 5
  | .store => 7

/-- The page fault of an access type (R135). -/
def AccKind.pageFault (k : AccKind) : Nat :=
  match k with
  | .fetch => 12
  | .load => 13
  | .store => 15

/-- The guest-page fault of an access type (R135). -/
def AccKind.guestFault (k : AccKind) : Nat :=
  match k with
  | .fetch => 20
  | .load => 21
  | .store => 23

/-- The return of a trap: mode, V and status from the saved fields, the pc from xepc, and the flush of R89 where mode or V changes (R89; log 11). -/
def Hart.xret (x : Hart) (k : XretKind) : Hart :=
  match k with
  | .mret =>
    let st := x.getCsr 0x300
    let m := if fieldOf st 11 2 = 3 then Mode.m else if fieldOf st 11 2 = 1 then .s else .u
    let v := flagOf st 39 && decide (m ≠ .m)
    let st' := statusBits st (2 ^ 3 + 3 * 2 ^ 11 + 2 ^ 39 + (if m = .m then 0 else 2 ^ 17)) (bitAt (flagOf st 7) 3 + 2 ^ 7)
    ({ x.setCsr 0x300 st' with pc := x.getCsr 0x341 }).enterMode m v
  | .sret =>
    if x.virt then
      let st := x.getCsr 0x200
      let m := if flagOf st 8 then Mode.s else .u
      let st' := statusBits st (2 ^ 1 + 2 ^ 8) (bitAt (flagOf st 5) 1 + 2 ^ 5)
      ({ x.setCsr 0x200 st' with pc := x.getCsr 0x241 }).enterMode m true
    else
      let st := x.getCsr 0x300
      let m := if flagOf st 8 then Mode.s else .u
      let v := flagOf (x.getCsr 0x600) 7
      let st' := statusBits st (2 ^ 1 + 2 ^ 8 + 2 ^ 17) (bitAt (flagOf st 5) 1 + 2 ^ 5)
      let y := (x.setCsr 0x300 st').setCsr 0x600 (statusBits (x.getCsr 0x600) (2 ^ 7) 0)
      ({ y with pc := x.getCsr 0x141 }).enterMode m v
  | .mnret =>
    let st := x.getCsr 0x744
    let m := if fieldOf st 11 2 = 3 then Mode.m else if fieldOf st 11 2 = 1 then .s else .u
    let v := flagOf st 7 && decide (m ≠ .m)
    ({ x.setCsr 0x744 (st ||| word 8) with pc := x.getCsr 0x741 }).enterMode m v

/-! ### Interrupts (R83, R96, R114, R362) -/

def eiKey (file id : Nat) : Nat := file * 2048 + id

/-- The lowest pending and enabled identity of a file, below its threshold where one is set, that meets a test. -/
def Hart.topEi (x : Hart) (file : Nat) (p : Nat → Bool) : Option Nat :=
  let thr := (x.getCsr (0x10000 + 2 * file)).toNat
  firstBelow 2048 (fun id => id != 0 && (thr == 0 || id < thr) && x.eip.contains (eiKey file id)
    && x.eie.contains (eiKey file id) && p id)

/-- Whether delivery is on in a file (eidelivery). -/
def Hart.eiOn (x : Hart) (file : Nat) : Bool := fieldOf (x.getCsr (0x10001 + 2 * file)) 0 1 == 1

/-- Whether a hart sees an identity: in the Normal world Secure identities are hidden (R362). -/
def State.seesId (s : State) (h file id : Nat) : Bool := (s.hart h).secure || !s.bind.idSecure h file id

/-- hgeip: the guest files with an identity that is pending, enabled and delivered (log 11). -/
def State.hgeip (s : State) (h : Nat) : Nat :=
  maskOf ((List.range 8).filter (fun g => g != 0 && (s.hart h).eiOn (1 + g) && ((s.hart h).topEi (1 + g) (s.seesId h (1 + g))).isSome))

/-- mip as a hart's interrupt files, timers and software bits make it (log 11): MEIP even for a Secure identity in the Normal world, SEIP and VSEIP only for identities the hart's world sees (R362). -/
def State.mip (s : State) (h : Nat) : Nat :=
  let x := s.hart h
  let t := s.hartTime h
  let meip := x.eiOn 0 && (x.topEi 0 (fun _ => true)).isSome
  let seip := x.eiOn 1 && (x.topEi 1 (s.seesId h 1)).isSome
  let vgein := fieldOf (x.getCsr 0x600) 12 6
  let vseip := 1 ≤ vgein && vgein ≤ 7 && x.eiOn (1 + vgein) && (x.topEi (1 + vgein) (s.seesId h (1 + vgein))).isSome
  let sw := (x.getCsr 0x344).toNat
  let stce := flagOf (x.getCsr 0x30A) 63
  let hstce := flagOf (x.getCsr 0x60A) 63
  let stip := if stce then decide ((x.getCsr 0x14D).toNat ≤ t) else bitOf sw 5
  let vt := (t + (x.getCsr 0x605).toNat) % 2 ^ 64
  let vstip := if stce && hstce then decide ((x.getCsr 0x24D).toNat ≤ vt) else false
  let hvip := (x.getCsr 0x645).toNat
  let sgei := (s.hgeip h &&& (x.getCsr 0x607).toNat) != 0
  bitAt (bitOf sw 1) 1 + bitAt (bitOf hvip 2) 2 + bitAt (bitOf sw 3) 3 + bitAt stip 5 + bitAt (vstip || bitOf hvip 6) 6
    + bitAt (bitOf sw 7) 7 + bitAt (seip || bitOf sw 9) 9 + bitAt (vseip || bitOf hvip 10) 10 + bitAt meip 11
    + bitAt sgei 12 + bitAt (bitOf sw 13) 13

/-- Whether an interrupt may be taken now: pending, enabled, and globally enabled in the mode that takes it (log 11). -/
def State.interruptDue (s : State) (h code : Nat) : Bool :=
  let x := s.hart h
  let on := bitOf (s.mip h) code && flagOf (x.getCsr 0x304) code
  let t := x.trapTarget true code false
  let st := x.getCsr 0x300
  on && match t with
    | (.m, _) => decide (x.mode ≠ .m) || flagOf st 3
    | (_, false) => x.virt || decide (x.mode = .u) || flagOf st 1
    | (_, true) => x.virt && (decide (x.mode = .u) || flagOf (x.getCsr 0x200) 1)

/-! ### Windows and worlds of a hart (R27, R122, R360) -/

/-- How a physical address answers a hart's access before translation detail is added. -/
inductive PhysOk where
  /-- allowed; `cacheable`: a memory range, else a side-effect page -/
  | ok (cacheable : Bool)
  /-- the access fault -/
  | fault
  /-- the access fault, and WORLD_ACCESS_DENIED is logged (R360) -/
  | world
deriving DecidableEq, Repr

/-- The flag of R53 that an access kind needs. -/
def AccKind.flag (k : AccKind) : Nat :=
  match k with
  | .fetch => 2
  | .load => 0
  | .store => 1

/-- A physical access of n bytes by a hart judged under R27, R53, R256, R264 and R360. -/
def State.physCheck (s : State) (h : Nat) (k : AccKind) (a n : Nat) : PhysOk :=
  let r := rangeOf a
  if 2 ^ 52 ≤ a then .fault
  else match r with
    | .reserved => .fault
    | .control | .doorbell | .imsic => .ok false
    | .hbm | .ddr | .cxl | .mmio32 | .mmio64 =>
      if r.isMemory && !s.populated a then .fault
      else match s.bind.window (s.hart h).qid a n with
        | none => .fault
        | some w =>
          if w.secure && !(s.hart h).secure then .world
          else if !w.has k.flag then .fault
          else if w.has 6 && decide (w.base + w.dataSize < a + n) then .fault
          else if w.has 7 && decide (k = .store) && decide (w.recordPage < a + n) then .fault
          else .ok r.isMemory

/-- WORLD_ACCESS_DENIED for a hart's access (R360, R377). -/
def State.logWorldDenied (s : State) (h a : Nat) : State :=
  s.log (((Syn.worldAccessDenied.record (hartOrigin h) 0x01 h (s.hart h).qid).withAddr a).withSecure true)

end Sys2Proof.Machine
end

