-- ==== Sys2Proof/Machine/Cache.lean ====
section
/-! DEFINITION. Replacement (R146 to R149), the private caches of a core (R141 to R145, R150 to R152), the L3 (R154 to R156), and what a line's latest performed value is. -/

namespace Sys2Proof.Machine

/-! ### Replacement generators (R146 to R149) -/

/-- One step of an LFSR: x^32 + x^22 + x^2 + x + 1 (R146). -/
def lfsrStep (v : Lfsr) : Lfsr :=
  let fb := (v.getLsbD 31 ^^ v.getLsbD 21) ^^ (v.getLsbD 1 ^^ v.getLsbD 0)
  (v <<< 1) ||| (if fb then 1#32 else 0#32)

/-- The draw of R147 among k eligible ways. -/
def lfsrPick (v : Lfsr) (k : Nat) : Nat := v.toNat % 65536 * k / 65536

/-- The value held before the first reseed (log 15), and what a seed of zero becomes (R148). -/
def lfsrDefault : Lfsr := 0xB1D00000#32

/-- SEED of a Quire (R55, R49). -/
def Binding.seed (b : Binding) (q : Nat) : Lfsr :=
  match b.holdSeeds.find? (fun r => r.qid == q) with
  | some r => r.seed
  | none => lfsrDefault + BitVec.ofNat 32 q

/-- HOLD of a Quire in NoC cycles (R55, R49). -/
def Binding.hold (b : Binding) (q : Nat) : Nat := ((b.holdSeeds.find? (fun r => r.qid == q)).map (·.hold)).getD 32

/-- A seed, zero replaced (R148). -/
def seedOr (v : Lfsr) : Lfsr := if v = 0#32 then lfsrDefault else v

/-- The reseeded LFSR of core structure c of a hart (R148). -/
def coreSeed (seed : Lfsr) (h c : Nat) : Lfsr := seedOr (seed ^^^ BitVec.ofNat 32 (h * 0x100) ^^^ BitVec.ofNat 32 c)

/-- The reseeded LFSR of a slice for a Quire, or for QID 0 (R148). -/
def Binding.sliceSeed (b : Binding) (n q : Nat) : Lfsr :=
  seedOr ((if q = 0 then lfsrDefault else b.seed q) ^^^ BitVec.ofNat 32 (n * 0x100) ^^^ 0x40#32)

def Hart.getLfsr (x : Hart) (c : Nat) : Lfsr := Tab.get x.lfsr lfsrDefault c

/-- Every core LFSR reseeded when a hart leaves reset (R149). -/
def Hart.reseed (x : Hart) (seed : Lfsr) (h : Nat) : Hart :=
  { x with lfsr := (List.range 8).map (fun i => (i + 1, coreSeed seed h (i + 1))) }

/-- The choice of a way (R147): the lowest eligible way that is free, without a step; else one step and a draw; none where no way is eligible. -/
def chooseWay (v : Lfsr) (eligible : List Nat) (free : Nat → Bool) : Option Nat × Lfsr :=
  match eligible.find? free with
  | some w => (some w, v)
  | none =>
    if eligible.isEmpty then (none, v)
    else
      let v' := lfsrStep v
      (eligible[lfsrPick v' eligible.length]?, v')

/-! ### Tables of lines -/

def Mesi.valid (m : Mesi) : Bool := decide (m ≠ .i)

/-- The order of MESI states: a holder's state is the greatest of its copies'. -/
def Mesi.rank (m : Mesi) : Nat :=
  match m with
  | .i => 0
  | .s => 1
  | .e => 2
  | .m => 3

def Mesi.max (a b : Mesi) : Mesi := if a.rank < b.rank then b else a

/-- The valid copy of a line in a cache, with its place. -/
def findLine (t : Tab CLine) (l : Nat) : Option (Nat × CLine) := t.find? (fun e => e.2.line == l && e.2.st.valid)

def dropLine (t : Tab CLine) (l : Nat) : Tab CLine := t.filter (fun e => !(e.2.line == l && e.2.st.valid))

def mapLine (t : Tab CLine) (l : Nat) (f : CLine → CLine) : Tab CLine :=
  t.map (fun e => if e.2.line == l && e.2.st.valid then (e.1, f e.2) else e)

/-- A line taken out of the L2: a locked way stays reserved for its address (R152). -/
def dropL2 (t : Tab CLine) (l : Nat) : Tab CLine :=
  (t.map (fun e => if e.2.line == l && e.2.locked then (e.1, { e.2 with st := .i, unconf := false }) else e)).filter
    (fun e => !(e.2.line == l && e.2.st.valid))

def l1dSet (va : Nat) : Nat := va / 64 % 128
def l1iSet (l : Nat) : Nat := l % 256
def l2Set (l : Nat) : Nat := l % 2048

/-- A holder's state of a line: the greatest of its copies, an L1I copy counting as S (R167). -/
def Hart.lineSt (x : Hart) (l : Nat) : Mesi :=
  let at_ := fun (t : Tab CLine) => ((findLine t l).map (·.2.st)).getD .i
  let i := if (findLine x.l1i l).isSome then Mesi.s else .i
  (((at_ x.l1d).max (at_ x.vc)).max (at_ x.l2)).max i

/-- The state of a line in the caches that data accesses search (R142, R144). -/
def Hart.dataSt (x : Hart) (l : Nat) : Mesi :=
  let at_ := fun (t : Tab CLine) => ((findLine t l).map (·.2.st)).getD .i
  ((at_ x.l1d).max (at_ x.vc)).max (at_ x.l2)

/-- The newest data a core holds of a line: L1D, then victim cache, then L2 (R142, R144). -/
def Hart.lineCopy (x : Hart) (l : Nat) : Option CLine :=
  match findLine x.l1d l, findLine x.vc l, findLine x.l2 l with
  | some e, _, _ => some e.2
  | none, some e, _ => some e.2
  | none, none, some e => some e.2
  | none, none, none => (findLine x.l1i l).map (·.2)

/-- Every copy of a line leaves a core; locked L2 ways stay reserved (R152, R175). -/
def Hart.dropCopies (x : Hart) (l : Nat) : Hart :=
  { x with l1i := dropLine x.l1i l, l1d := dropLine x.l1d l, vc := dropLine x.vc l, l2 := dropL2 x.l2 l,
           reserve := if x.reserve = some l then none else x.reserve }

/-- Every copy of a line becomes S (R175). -/
def Hart.shareCopies (x : Hart) (l : Nat) : Hart :=
  let f := fun (c : CLine) => { c with st := .s }
  { x with l1d := mapLine x.l1d l f, vc := mapLine x.vc l f, l2 := mapLine x.l2 l f }

/-- A retiring access confirms the line it hits (R99). -/
def Hart.confirm (x : Hart) (l : Nat) : Hart :=
  let f := fun (c : CLine) => { c with unconf := false }
  { x with l1i := mapLine x.l1i l f, l1d := mapLine x.l1d l f, vc := mapLine x.vc l f, l2 := mapLine x.l2 l f }

/-! ### Evictions and fills -/

/-- The next free tag of a core (R173): its range, past the tags still in use. -/
def Hart.freeTag (x : Hart) (core : Nat) : Nat :=
  let used := fun (t : Nat) => x.misses.any (fun m => m.tag == t) || x.wbs.any (fun w => w.tag == t) || x.oldTags.contains t
  let order := (List.range 512).map (fun k => core * 512 + (x.nextTag + k) % 512)
  ((order.find? (fun t => !used t)).getD (core * 512))

/-- The unconfirmed copies of a line in the L1D and the victim cache dropped (R99). -/
def Hart.dropGuesses (x : Hart) (l : Nat) : Hart :=
  let f := fun (t : Tab CLine) => t.filter (fun e => !(e.2.line == l && e.2.unconf))
  { x with l1d := f x.l1d, vc := f x.vc }

/-- A line leaving a core's last copy: it goes into a write-back buffer, whose message the state then sends (R145, R175). A dirty line takes its unconfirmed copies and an L1I copy with it. -/
def Hart.evictOut (x : Hart) (core now : Nat) (c : CLine) : Hart :=
  let d := decide (c.st = .m)
  let x := if d then x.dropGuesses c.line else x
  if (findLine x.l1d c.line).isSome || (findLine x.vc c.line).isSome || (findLine x.l2 c.line).isSome
      || ((findLine x.l1i c.line).isSome && !d) then x
  else
    let x := { x with l1i := dropLine x.l1i c.line, reserve := if x.reserve = some c.line then none else x.reserve }
    let t := x.freeTag core
    let w : Wb := { line := c.line, dirty := d, data := c.data, poison := c.poison, tag := t, sent := now, retried := false }
    let y := { x with wbs := x.wbs ++ [w], nextTag := (t + 1) % 512 }
    y.count (if d then 24 else 25) 1

/-- The ways a line may take in the L2: those of the groups whose world tag is its window's, minus locked ways (R147, R150). -/
def Hart.l2Eligible (x : Hart) (secure : Bool) (l : Nat) : List Nat :=
  (List.range 16).filter (fun w => x.l2Secure.getLsbD (w / 4) == secure
    && !((Tab.find x.l2 (l2Set l * 16 + w)).map (·.locked)).getD false)

/-- A line allocated in the L2 (R145, R147, R150, R152): into the way reserved for it, else into a chosen way, whose old line leaves. -/
def Hart.fillL2 (x : Hart) (core now : Nat) (secure : Bool) (c : CLine) : Hart :=
  match x.l2.find? (fun e => e.2.line == c.line) with
  | some (k, old) => { x with l2 := Tab.set x.l2 k { c with locked := old.locked } }
  | none =>
    let set := l2Set c.line
    let pick := chooseWay (x.getLfsr 4) (x.l2Eligible secure c.line) (fun w => (Tab.find x.l2 (set * 16 + w)).isNone)
    let x := { x with lfsr := Tab.set x.lfsr 4 pick.2 }
    match pick.1 with
    | none => x
    | some w =>
      let k := set * 16 + w
      let old := Tab.find x.l2 k
      let x := { x with l2 := Tab.set x.l2 k c }
      match old with
      | some o => x.evictOut core now o
      | none => x

/-- A line that leaves the L1D and the victim cache, written into the L2 if that holds it, else to its home: no way is drawn (R144, R147). -/
def Hart.writeDown (x : Hart) (core now : Nat) (c : CLine) : Hart :=
  match (if c.unconf then none else findLine x.l2 c.line) with
  | some (k, o) => if c.st = .m then { x with l2 := Tab.set x.l2 k { o with st := .m, data := c.data, poison := c.poison } } else x
  | none => x.evictOut core now c

/-- A line evicted from the victim cache goes into the L2; a line the L2 cannot take leaves the core, an unconfirmed one is dropped (R99, R144). -/
def Hart.toL2 (x : Hart) (b : Binding) (core now : Nat) (c : CLine) : Hart :=
  if c.unconf || (findLine x.l2 c.line).isSome then x.writeDown core now c
  else
    let y := x.fillL2 core now (b.lineSecure (64 * c.line)) { c with locked := false }
    if (findLine y.l2 c.line).isSome then y else y.evictOut core now c

/-- A line enters the victim cache: in the entry that a swap has freed, else in a chosen one (R144, R147). -/
def Hart.toVc (x : Hart) (b : Binding) (core now : Nat) (slot : Option Nat) (c : CLine) : Hart :=
  let pick := match slot with
    | some w => (some w, x.getLfsr 3)
    | none => chooseWay (x.getLfsr 3) (List.range 16) (fun w => (Tab.find x.vc w).isNone)
  let x := { x with lfsr := Tab.set x.lfsr 3 pick.2 }
  match pick.1 with
  | none => x.toL2 b core now c
  | some w =>
    let old := Tab.find x.vc w
    let x := { x with vc := Tab.set x.vc w c }
    match old with
    | some o => x.toL2 b core now o
    | none => x

/-- A line filled into the L1D in the set of a virtual address; the L1D's victim enters the victim cache, in the entry of a line that is swapped back (R142, R144). -/
def Hart.fillL1d (x : Hart) (b : Binding) (core now va : Nat) (slot : Option Nat) (c : CLine) : Hart :=
  let set := l1dSet va
  let pick := chooseWay (x.getLfsr 2) (List.range 8) (fun w => (Tab.find x.l1d (set * 8 + w)).isNone)
  let x := { x with lfsr := Tab.set x.lfsr 2 pick.2 }
  match pick.1 with
  | none => x
  | some w =>
    let old := Tab.find x.l1d (set * 8 + w)
    let x := { x with l1d := Tab.set x.l1d (set * 8 + w) c }
    match old with
    | some o => x.toVc b core now slot o
    | none => x

/-- A line filled into the L1I. -/
def Hart.fillL1i (x : Hart) (core now : Nat) (c : CLine) : Hart :=
  let set := l1iSet c.line
  let pick := chooseWay (x.getLfsr 1) (List.range 4) (fun w => (Tab.find x.l1i (set * 4 + w)).isNone)
  let x := { x with lfsr := Tab.set x.lfsr 1 pick.2 }
  match pick.1 with
  | none => x
  | some w =>
    let old := Tab.find x.l1i (set * 4 + w)
    let x := { x with l1i := Tab.set x.l1i (set * 4 + w) { c with st := .s } }
    match old with
    | some o => x.evictOut core now { o with st := .s }
    | none => x

/-- The line brought into the L1D where a core already holds it (R142, R144): moved with its mark from the alias set or the victim cache, or copied from the L2 or the L1I, unconfirmed for a speculative access (R98, R99). -/
def Hart.recall (x : Hart) (b : Binding) (core now va l : Nat) (spec : Bool) : Hart :=
  match findLine x.l1d l with
  | some (k, c) =>
    if k / 8 = l1dSet va then x
    else (({ x with l1d := Tab.del x.l1d k }).fillL1d b core now va none c).count 21 1
  | none =>
    match findLine x.vc l with
    | some (k, c) => (({ x with vc := Tab.del x.vc k }).fillL1d b core now va (some k) c).count 20 1
    | none =>
      match findLine x.l2 l with
      | some (_, c) => x.fillL1d b core now va none { c with locked := false, unconf := c.unconf || spec }
      | none =>
        match findLine x.l1i l with
        | some (_, c) => x.fillL1d b core now va none { c with unconf := c.unconf || spec }
        | none => x

/-- Where the line of a miss goes. -/
inductive FillTo where
  /-- the L2 and the L1D, the L2 and the L1I (R145), or the L2 alone: a page walker's line (R126) -/
  | l1d | l1i | l2
deriving DecidableEq, Repr

/-- The L2 takes a line that fills an L1 miss (R145), keeping its unconfirmed mark. -/
def Hart.fillFromHome (x : Hart) (b : Binding) (core now va : Nat) (into : FillTo) (c : CLine) : Hart :=
  let x := x.fillL2 core now (b.lineSecure (64 * c.line)) c
  match into with
  | .l1i => x.fillL1i core now c
  | .l1d => x.fillL1d b core now va none c
  | .l2 => x

/-- A store into a line that a core holds in its L1D in M (R175); a checked pair writes it through to the L2, which takes the line where it does not hold it (R112). -/
def Hart.writeHeld (x : Hart) (b : Binding) (core now l : Nat) (f : CLine → CLine) : Hart :=
  let up := fun (c : CLine) => { f c with st := .m, unconf := false }
  let x := { x with l1d := mapLine x.l1d l up }
  if !x.paired then x
  else match findLine x.l2 l, findLine x.l1d l with
    | some _, _ => { x with l2 := mapLine x.l2 l up }
    | none, some (_, c) => x.fillL2 core now (b.lineSecure (64 * l)) { c with locked := false }
    | none, none => x

/-! ### The L3 (R141, R154) -/

/-- The set of a line in its slice (R141). -/
def l3Set (l : Nat) : Nat := l % 2 ^ 14 ^^^ l / 2 ^ 14 % 2 ^ 14

def l3Find (t : Slice) (l : Nat) : Option (Nat × L3Line) := t.lines.find? (fun e => e.2.line == l && e.2.valid)

def Slice.quire (t : Slice) (q : Nat) : L3Q := Tab.get t.q L3Q.reset q

/-- Every way locked in a slice by its owner. -/
def Slice.lockedWays (t : Slice) : Nat := t.q.foldl (fun a e => a ||| e.2.lockedWays.toNat) 0

/-- A line taken out of a slice: a locked way stays reserved for its address, without data (R152). -/
def Slice.dropL3 (t : Slice) (l : Nat) : Slice :=
  let locked := fun (k : Nat) => bitOf t.lockedWays (k % 16)
  let kept := t.lines.filter (fun e => !(e.2.line == l && !locked e.1))
  { t with lines := kept.map (fun e => if e.2.line == l then (e.1, { e.2 with valid := false, dirty := false }) else e) }

/-- Whether the Binding has an L3_WAYS section (R49, R154). -/
def Binding.hasL3Ways (b : Binding) : Bool := !b.l3Ways.isEmpty

/-- The ways a Quire allocates into in a slice (R147, R154). -/
def State.l3Eligible (s : State) (n q : Nat) : List Nat :=
  let t := s.slice n
  let m := t.quire q
  if s.bind.hasL3Ways then
    let ways := if m.fillWays ≠ 0 then m.fillWays else m.wayMask ||| m.govMask
    (maskBits 16 ways.toNat).filter (fun w => !bitOf t.lockedWays w)
  else List.range 16

/-- One slice counter of a Quire counts (R410). -/
def Slice.countQ (t : Slice) (q i k : Nat) : Slice :=
  let m := t.quire q
  { t with q := Tab.set t.q q { m with cnt := Tab.set m.cnt i (Tab.get m.cnt 0 i + BitVec.ofNat 48 k) } }

/-- Whether a line lies in a PERSIST window (R263). -/
def Binding.persists (b : Binding) (a : Nat) : Bool := ((b.anyWindow a).map (fun w => w.has 7)).getD false

/-- A write accepted by the line's controller, behind those that wait (R263, R266). -/
def State.queueWrite (s : State) (l : Nat) (d : Line) (p : Poison) : State :=
  if s.retired (64 * l) then s
  else { s with mem := { s.mem with wpq := s.mem.wpq ++ [{ line := l, data := d, poison := p }] } }

/-- A line allocated in its slice for a Quire (R147, R154, R156): into a way reserved for it, else a chosen way, whose dirty line is written to memory.
A line that finds no way goes to memory if dirty. -/
def State.fillL3 (s : State) (n q l : Nat) (dirty : Bool) (d : Line) (p : Poison) : State :=
  let t := s.slice n
  let set := l3Set l
  let new : L3Line := { line := l, valid := true, dirty := dirty, qid := q, data := d, poison := p }
  match t.lines.find? (fun e => e.2.line == l) with
  | some (k, old) => s.setSlice n { t with lines := Tab.set t.lines k { new with dirty := dirty || (old.valid && old.dirty) } }
  | none =>
    let m := t.quire q
    let own := (s.l3Eligible n q).filter (fun w => ((Tab.find t.lines (set * 16 + w)).map (·.valid)).getD true)
    let pick := chooseWay (m.lfsr.getD lfsrDefault) own (fun w => (Tab.find t.lines (set * 16 + w)).isNone)
    match pick.1 with
    | none => if dirty then s.queueWrite l d p else s
    | some w =>
      let k := set * 16 + w
      let old := Tab.find t.lines k
      let t := { t with lines := Tab.set t.lines k new, q := Tab.set t.q q { m with lfsr := some pick.2 } }
      let t := (t.countQ q 2 1)
      let t := if old.isSome then t.countQ q 3 1 else t
      let s := s.setSlice n t
      match old with
      | some o => if o.valid && o.dirty then s.queueWrite o.line o.data o.poison else s
      | none => s

/-- Data written to L3 or memory by the home (R180, R182, R263): an L3 copy is updated; else a WbD may allocate; lines of PERSIST windows go through to memory and stay clean; a write to a retired page is discarded (R262). -/
def State.homeWrite (s : State) (n q l : Nat) (alloc : Bool) (d : Line) (p : Poison) : State :=
  if s.retired (64 * l) then s else
  let through := s.bind.persists (64 * l)
  let s := if through then s.queueWrite l d p else s
  match l3Find (s.slice n) l with
  | some (k, o) =>
    let t := s.slice n
    s.setSlice n { t with lines := Tab.set t.lines k { o with data := d, poison := p, dirty := !through } }
  | none => if alloc then s.fillL3 n q l (!through) d p else if through then s else s.queueWrite l d p

/-! ### The latest performed value of a line -/

/-- What the memory controller will return for a line: its newest queued write, else memory; a retired page reads poisoned (R262). -/
def State.memValue (s : State) (l : Nat) : Line × Poison :=
  match s.mem.wpq.reverse.find? (fun w => w.line == l) with
  | some w => (w.data, w.poison)
  | none => if s.retired (64 * l) then (s.mem.lineData l, 0xF#4) else (s.mem.lineData l, s.mem.linePoison l)

/-- A message that carries a line's newest data. -/
def carriesLine (m : CohMsg) (l : Nat) : Bool :=
  m.addr == l && (decide (m.opc = .rspd) || decide (m.opc = .wbd) || (decide (m.opc = .dat) && m.state == 3)
    || (decide (m.opc = .rspx) && m.hasData))

/-- Where the latest performed value of a line is: a dirty copy, a write-back buffer, a message in flight, the home's transaction, the L3, else memory (R187). -/
def State.lineValue (s : State) (l : Nat) : Line × Poison :=
  let copies := s.harts.filterMap (fun e =>
    (e.2.lineCopy l).bind (fun c => if e.2.lineSt l = .m then some (c.data, c.poison) else none))
  match copies with
  | c :: _ => c
  | [] =>
    match s.harts.findSome? (fun e => (e.2.wbs.find? (fun w => w.line == l && w.dirty)).map (fun w => (w.data, w.poison))) with
    | some c => c
    | none =>
      match s.net.coh.reverse.find? (fun m => carriesLine m l) with
      | some m => (m.data, m.poison)
      | none =>
        let t := s.slice (s.homeOf (64 * l))
        match (t.active.find? (fun x => x.req.addr == l)).bind (·.data) with
        | some c => c
        | none =>
          match l3Find t l with
          | some (_, o) => (o.data, o.poison)
          | none => s.memValue l

/-- n bytes of memory as every agent sees them: the latest performed stores (R187; log 14). -/
def State.coherentRead (s : State) (a n : Nat) : List Byte :=
  let lines := (List.range ((a % 64 + n + 63) / 64)).map (fun i => lineBytes (s.lineValue (a / 64 + i)).1)
  (lines.flatten.drop (a % 64)).take n

/-- Whether any of n bytes is poisoned (R337). -/
def State.coherentPoison (s : State) (a n : Nat) : Bool :=
  (List.range ((a % 16 + n + 15) / 16)).any (fun i =>
    let g := a / 16 + i
    (s.lineValue (g / 4)).2.getLsbD (g % 4))

/-- A changed line put everywhere its data stands on its way: buffers, messages, the home's transaction, the L3, queued writes and memory. -/
def State.patchLine (s : State) (l : Nat) (d : Line) (p : Poison) : State :=
  let n := s.homeOf (64 * l)
  let t := s.slice n
  let through := s.bind.persists (64 * l)
  let inL3 := (l3Find t l).isSome
  let t : Slice := { t with
    lines := t.lines.map (fun e => if e.2.line == l && e.2.valid then
      (e.1, { e.2 with data := d, poison := p, dirty := !through }) else e),
    active := t.active.map (fun x => if x.req.addr == l && x.data.isSome then { x with data := some (d, p) } else x) }
  let s : State := { s with
    harts := s.harts.map (fun e => (e.1, { e.2 with
      wbs := e.2.wbs.map (fun w => if w.line == l then { w with data := d, poison := p } else w) })),
    net := { s.net with coh := s.net.coh.map (fun m => if m.addr == l && (carriesLine m l || decide (m.opc = .dat)) then { m with data := d, poison := p } else m) } }
  let s := s.setSlice n t
  if inL3 && !through then s else s.queueWrite l d p

/-- A line written by an agent that never holds lines: every cached copy goes, and the value is the line's latest performed value (R180, R189; log 14). -/
def State.coherentWriteLine (s : State) (l : Nat) (d : Line) (p : Poison) : State :=
  let n := s.homeOf (64 * l)
  let busy := (s.slice n).active.any (fun x => x.req.addr == l)
  let s : State := { s with harts := s.harts.map (fun e => (e.1, e.2.dropCopies l)) }
  let s := if busy then s else s.modSlice n (fun t => { t with dir := t.dir.filter (fun e => e.2.line != l) })
  s.patchLine l d p

/-- Bytes from an offset replaced in a line's bytes. -/
def spliceBytes (old : List Byte) (off : Nat) (new : List Byte) : List Byte :=
  old.take off ++ new ++ old.drop (off + new.length)

/-- Bytes written by an agent that never holds lines, line by line; wholly written granules lose their poison (R162; log 14). -/
def State.coherentWrite (fuel : Nat) (s : State) (a : Nat) (bs : List Byte) : State :=
  match fuel with
  | 0 => s
  | f + 1 =>
    if bs.isEmpty then s
    else
      let off := a % 64
      let part := bs.take (64 - off)
      let l := a / 64
      let old := s.lineValue l
      let d := lineOf (spliceBytes (lineBytes old.1) off part)
      let p := BitVec.ofNat 4 (maskOf ((List.range 4).filter (fun i =>
        old.2.getLsbD i && !(decide (off ≤ 16 * i) && decide (16 * i + 16 ≤ off + part.length)))))
      State.coherentWrite f (s.coherentWriteLine l d p) (a + part.length) (bs.drop part.length)

/-- Bytes written with enough steps for their length. -/
def State.writeBytes (s : State) (a : Nat) (bs : List Byte) : State := s.coherentWrite (bs.length / 64 + 2) a bs

end Sys2Proof.Machine
end

