-- ==== Sys2Proof/Machine/Xlate.lean ====
section
/-! DEFINITION. Address translation: page walks (R118 to R124), TLBs (R125 to R134) and translation faults (R135, R136). -/

namespace Sys2Proof.Machine

/-! ### Modes (R118) -/

/-- Levels of a translation MODE, 0 for Bare. -/
def modeLevels (mode : Nat) : Nat :=
  match mode with
  | 8 => 3
  | 9 | 14 => 4
  | 10 | 15 => 5
  | _ => 0

/-- The MODE values that satp, vsatp and hgatp accept (R118). -/
def modeOk (mode : Nat) : Bool := [0, 8, 9, 10, 14, 15].contains mode

/-- Xlzpage decoding of N = 1 leaves (R118, R119). -/
def modeXlz (mode : Nat) : Bool := mode == 14 || mode == 15

/-- The mode that an access is translated in: loads and stores of M-mode with MPRV use MPP and MPV (log 11). -/
def Hart.effMode (x : Hart) (k : AccKind) : Mode × Bool :=
  let st := x.getCsr 0x300
  if x.mode = .m ∧ flagOf st 17 = true ∧ k ≠ .fetch then
    let md := if fieldOf st 11 2 = 3 then Mode.m else if fieldOf st 11 2 = 1 then .s else .u
    (md, flagOf st 39 && decide (md ≠ .m))
  else (x.mode, x.virt)

/-! ### Leaves (R120, R123) -/

def pteBit (p : Nat) (i : Nat) : Bool := bitOf p i
def ptePpn (p : Nat) : Nat := bitsOf p 10 44

/-- Consecutive ones of f from bit 0, at most n (R123). -/
def trailingOnes (n f : Nat) : Nat :=
  match n with
  | 0 => 0
  | k + 1 => if f % 2 = 1 then trailingOnes k (f / 2) + 1 else 0

/-- The log2 size and the physical base of a leaf at level i; none where the encoding is bad or the superpage misaligned (R119, R120, R123). -/
def leafSize (xlz : Bool) (levels i p : Nat) : Option (Nat × Nat) :=
  let ppn := ptePpn p
  if pteBit p 63 then
    if xlz then
      let f := ppn / 2 ^ (9 * i)
      let wide := if i + 1 = levels then 44 - 9 * i else 9
      let t := trailingOnes 10 (f % 2 ^ wide)
      if t ≤ 8 ∧ t < wide ∧ ppn % 2 ^ (9 * i) = 0 then
        let bits := 13 + 9 * i + t
        some (bits, ppn * 4096 / 2 ^ bits * 2 ^ bits)
      else none
    else if i = 0 ∧ ppn % 16 = 8 then some (16, ppn / 16 * 65536)
    else none
  else if ppn % 2 ^ (9 * i) = 0 then some (12 + 9 * i, ppn * 4096)
  else none

/-- A leaf found by a walk. -/
structure Leaf where
  bits : Nat
  pa : Nat
  r : Bool
  w : Bool
  x : Bool
  u : Bool
  g : Bool
  a : Bool
  d : Bool
  pbmt : Nat
  level : Nat
  addr : Nat
deriving DecidableEq, Repr

/-- What a walk of one stage gives. `why` is R135's cause; `page`: a page fault, else an access fault. -/
inductive StageRes where
  /-- the leaf; for a VS-stage leaf the G-stage leaf that maps its PTE and that PTE's guest-physical address; and every PTE read on the way, with the A bits to set (R121) -/
  | leaf (l : Leaf) (via : Option (Leaf × Nat)) (reads : List (Nat × Nat))
  | fault (why : Nat) (page : Bool) (level addr : Nat)
  /-- the guest-physical address of a PTE failed in the G stage (R136) -/
  | guest (why : Nat) (page : Bool) (level addr gpa : Nat)
  /-- a PTE read returned poison (R135 cause 6); `gpa`: it is a G-stage PTE met while translating a VS-stage PTE's address (R136) -/
  | poisoned (level addr : Nat) (gpa : Option Nat)
  /-- a PTE of a Secure window read from the Normal world (R122) -/
  | world (level addr : Nat) (gpa : Option Nat)
  /-- the line of a PTE is not in the hart's caches: it is asked for first (R126) -/
  | need (line : Nat)
  /-- a speculative walk that may not read on (R98) -/
  | wait
deriving DecidableEq, Repr

/-- A PTE as read: its value, its physical address, the PTEs read to find it, and the G-stage leaf that maps it with its guest-physical address. -/
structure PteRead where
  val : Nat
  addr : Nat
  reads : List (Nat × Nat)
  via : Option (Leaf × Nat)
deriving DecidableEq, Repr

/-- One PTE read at a physical address as an access of the hart through its caches (R120, R122, R126, R135); a PTE in a non-cacheable page is read without them. -/
def State.readPte (s : State) (h level a : Nat) (nc : Bool) : Sum StageRes PteRead :=
  match s.physCheck h .load a 8 with
  | .fault => .inl (.fault 7 false level a)
  | .world => .inl (.world level a none)
  | .ok false => .inl (.fault 5 false level a)
  | .ok true =>
    if !nc && decide ((s.hart h).lineSt (a / 64) = .i) then .inl (.need (a / 64))
    else if s.coherentPoison a 8 then .inl (.poisoned level a none)
    else .inr { val := ofLE (s.coherentRead a 8), addr := a, reads := if nc then [] else [(a, 0)], via := none }

/-- A walk from level i down over the tables, given how a PTE is read at a level and how wide the top index is (R119 to R124). `phys`: a leaf gives a physical address, which ends below 2^52 (R122). -/
def walkStage (rd : Nat → Nat → Sum StageRes PteRead) (xlz pbmtOn phys : Bool) (levels topBits va : Nat) :
    Nat → Nat → List (Nat × Nat) → StageRes
  | i, base, reads =>
    let width := if i + 1 = levels then topBits else 9
    match rd i (base + 8 * bitsOf va (12 + 9 * i) width) with
    | .inl e => e
    | .inr r =>
      let p := r.val
      let bad := fun (c : Nat) => StageRes.fault c true i r.addr
      if !pteBit p 0 || (pteBit p 2 && !pteBit p 1) then bad 1
      else if bitsOf p 54 7 ≠ 0 ∨ bitsOf p 61 2 = 3 ∨ (!pbmtOn ∧ bitsOf p 61 2 ≠ 0) then bad 3
      else if pteBit p 1 || pteBit p 3 then
        match leafSize xlz levels i p with
        | none => bad 3
        | some (bits, pa) =>
          if phys && decide (2 ^ 52 < pa + 2 ^ bits) then .fault 7 false i r.addr
          else .leaf { bits := bits, pa := pa, r := pteBit p 1, w := pteBit p 2, x := pteBit p 3, u := pteBit p 4,
                       g := pteBit p 5, a := pteBit p 6, d := pteBit p 7, pbmt := bitsOf p 61 2, level := i, addr := r.addr } r.via
                     (reads ++ r.reads)
      else if pteBit p 63 then bad 3
      else match i with
        | 0 => bad 1
        | j + 1 => walkStage rd xlz pbmtOn phys levels topBits va j (ptePpn p * 4096) (reads ++ r.reads)

/-- The physical address of an address in a leaf. -/
def Leaf.translate (l : Leaf) (a : Nat) : Nat := l.pa + a % 2 ^ l.bits

/-! ### The two stages -/

def Hart.adue (x : Hart) (v : Bool) : Bool := flagOf (x.getCsr (if v then 0x60A else 0x30A)) 61
def Hart.pbmte (x : Hart) (v : Bool) : Bool := flagOf (x.getCsr (if v then 0x60A else 0x30A)) 62

/-- The leaf of a Bare stage: every address maps to itself (R118). -/
def Leaf.bare : Leaf :=
  { bits := 64, pa := 0, r := true, w := true, x := true, u := true, g := true, a := true, d := true, pbmt := 0, level := 0, addr := 0 }

/-- Levels of the stage that a translation CSR selects, 0 for Bare. -/
def Hart.levelsOf (x : Hart) (n : Nat) : Nat := modeLevels (fieldOf (x.getCsr n) 60 4)

/-- The G-stage leaf of a guest-physical address; Bare maps it to itself (R118). -/
def State.gLeaf (s : State) (h gpa : Nat) : StageRes :=
  let x := s.hart h
  let hg := x.getCsr 0x680
  let levels := x.levelsOf 0x680
  if levels = 0 then .leaf Leaf.bare none []
  else if 2 ^ (14 + 9 * levels) ≤ gpa then .fault 1 true (levels - 1) 0
  else walkStage (fun i a => s.readPte h i a false) (modeXlz (fieldOf hg 60 4)) (x.pbmte false) true levels 11 gpa (levels - 1)
    (bitsOf hg.toNat 0 44 * 4096) []

/-- What the G stage says of a leaf's use: nothing, or the cause of a fault (R121, R135). The G stage treats every access as a user access. -/
def gCheck (adue : Bool) (mxr : Bool) (k : Option AccKind) (l : Leaf) : Option Nat :=
  let perm := match k with
    | some .fetch => l.x
    | some .load => l.r || (mxr && l.x)
    | some .store => l.w
    | none => true
  if k.isSome && (!l.u || !perm) then some 2
  else if (!l.a || (decide (k = some .store) && !l.d)) && !adue then some 4
  else none

/-- The A and D bits that an access needs set in a leaf, as the leaf's address and a mask (R121). -/
def leafUpdate (store : Bool) (l : Leaf) : List (Nat × Nat) :=
  if l.addr = 0 then [] else [(l.addr, (if l.a then 0 else 2 ^ 6) + (if store && !l.d then 2 ^ 7 else 0))]

/-- Whether a list of PTEs asks for a bit to be set. -/
def updates (reads : List (Nat × Nat)) : Bool := reads.any (fun r => r.2 != 0)

/-- One VS-stage PTE read: its guest-physical address through the G stage, whose leaf's A bit it sets, then the read (R121, R122, R136). A speculative walk holds a non-cacheable read back under NC_NOSPEC (R98). -/
def State.readGuestPte (s : State) (h : Nat) (spec : Bool) (level gpa : Nat) : Sum StageRes PteRead :=
  let x := s.hart h
  match s.gLeaf h gpa with
  | .leaf l _ reads =>
    match gCheck (x.adue false) false (some .load) l with
    | some c => .inl (.guest c true l.level l.addr gpa)
    | none =>
      let a := l.translate gpa
      if l.pbmt = 2 then .inl (.fault 5 false level a)
      else if spec && l.pbmt == 1 && x.lzspec.getLsbD 1 then .inl .wait
      else match s.readPte h level a (l.pbmt == 1) with
      | .inl e => .inl e
      | .inr r => .inr { r with reads := reads ++ leafUpdate false l ++ r.reads, via := some (l, gpa) }
  | .fault c page lv a => .inl (.guest c page lv a gpa)
  | .guest c page lv a g => .inl (.guest c page lv a g)
  | .poisoned lv a _ => .inl (.poisoned lv a (some gpa))
  | .world lv a _ => .inl (.world lv a (some gpa))
  | .need l => .inl (.need l)
  | .wait => .inl .wait

/-- Whether a virtual address is canonical for a mode. -/
def canonical (levels va : Nat) : Bool :=
  let top := va / 2 ^ (11 + 9 * levels)
  top == 0 || top == 2 ^ (53 - 9 * levels) - 1

/-- The leaf of the first stage: satp for V = 0, vsatp for V = 1; Bare maps the address to itself (R118). A VS-stage leaf gives a physical address only where hgatp is Bare. -/
def State.vLeaf (s : State) (h va : Nat) (v spec : Bool) : StageRes :=
  let x := s.hart h
  let n := if v then 0x280 else 0x180
  let at_ := x.getCsr n
  let levels := x.levelsOf n
  if levels = 0 then .leaf Leaf.bare none []
  else if !canonical levels va then .fault 1 true (levels - 1) 0
  else walkStage (fun i a => if v then s.readGuestPte h spec i a else s.readPte h i a false)
    (modeXlz (fieldOf at_ 60 4)) (x.pbmte v) (!v || x.levelsOf 0x680 == 0) levels 9 va (levels - 1) (bitsOf at_.toNat 0 44 * 4096) []

/-- The cause that a first-stage leaf gives an access (R121, R135): permissions with U, SUM and MXR, then A and D. -/
def vCheck (x : Hart) (v : Bool) (md : Mode) (adue : Bool) (k : AccKind) (r w ex u a d : Bool) : Option Nat :=
  let st := x.getCsr 0x300
  let vst := x.getCsr 0x200
  let sum := if v then flagOf vst 18 else flagOf st 18
  let mxr := flagOf st 19 || (v && flagOf vst 19)
  let perm := match k with
    | .fetch => ex
    | .load => r || (mxr && ex)
    | .store => w
  let user := if md = .u then u else !u || (sum && decide (k ≠ .fetch))
  if !perm || !user then some 2
  else if (!a || (decide (k = .store) && !d)) && !adue then some 4
  else none

/-- What a whole translation gives. -/
inductive Xlat where
  /-- the entry to fill, and the PTEs read with the bits to set in them (R121) -/
  | entry (e : TlbEnt) (reads : List (Nat × Nat))
  | exc (e : Exc)
  /-- WALK_PTE_POISON at an address (R135, R140) -/
  | poison (e : Exc) (a : Nat)
  /-- WORLD_ACCESS_DENIED at an address (R122, R360) -/
  | world (e : Exc) (a : Nat)
  /-- a PTE's line that the hart's caches must hold first (R126) -/
  | need (line : Nat)
  /-- a speculative walk that waits (R98, R129) -/
  | wait
deriving DecidableEq, Repr

/-- The exception of a failed stage (R135, R136). -/
def stageExc (k : AccKind) (va : Word) (gst : Bool) (gpa : Nat) (why : Nat) (page : Bool) (level addr : Nat) : Exc :=
  { code := if page then (if gst then k.guestFault else k.pageFault) else k.accessFault, tval := va,
    detail := { cause := why, gstage := gst, level := level, addr := addr }, gpa := if gst then gpa else 0, noVs := false }

def stageFail (k : AccKind) (va : Word) (gst : Bool) (gpa : Nat) (r : StageRes) : Xlat :=
  match r with
  | .leaf _ _ _ | .wait => .wait
  | .need l => .need l
  | .fault c page lv a => .exc (stageExc k va gst gpa c page lv a)
  | .guest c page lv a g => .exc (stageExc k va true g c page lv a)
  | .poisoned lv a g => .poison (stageExc k va (gst || g.isSome) (g.getD gpa) 6 false lv a) a
  | .world lv a g => .world (stageExc k va (gst || g.isSome) (g.getD gpa) 7 false lv a) a

/-- Whether a leaf's physical address gives WALK_PA_RANGE (R122, R135): the access may not use it, and it is reserved, unpopulated or outside the Quire's R windows. -/
def State.leafOut (s : State) (h : Nat) (k : AccKind) (pa : Nat) : Bool :=
  decide (s.physCheck h k pa 1 = .fault) &&
    match s.bind.window (s.hart h).qid pa 1 with
    | some w => !w.has 0 || ((rangeOf pa).isMemory && !s.populated pa)
    | none => true

/-- The entry of a translation: the first-stage leaf `l`, the G-stage leaf `g`, and where they lead (R127). -/
def Hart.mkEntry (x : Hart) (v spec : Bool) (va gpa pa bits pbmt : Nat) (store : Bool) (l g : Leaf) : TlbEnt :=
  { virt := v, asid := fieldOf (x.getCsr (if v then 0x280 else 0x180)) 44 16, vmid := if v then fieldOf (x.getCsr 0x680) 44 14 else 0,
    global := l.g, base := va / 2 ^ bits * 2 ^ bits, bits := bits, vbits := l.bits, r := l.r, w := l.w, x := l.x, u := l.u,
    d := l.d || store, pbmt := pbmt, pa := pa / 2 ^ bits * 2 ^ bits, level := l.level, pte := l.addr, gr := g.r, gw := g.w, gx := g.x,
    gd := g.d || store, gpa := gpa / 2 ^ bits * 2 ^ bits, glevel := g.level, gpte := g.addr, gbits := if v then g.bits else 0, unconf := spec }

/-- The PTEs that a first-stage leaf's own update writes: the leaf, and the G-stage leaf that maps its PTE, which must allow the write (R121). -/
def viaUpdate (adue : Bool) (k : AccKind) (va : Word) (upd : List (Nat × Nat)) (via : Option (Leaf × Nat)) : Sum Exc (List (Nat × Nat)) :=
  if !updates upd then .inr upd
  else match via with
    | none => .inr upd
    | some (g, gpa) =>
      match gCheck adue false (some .store) g with
      | some c => .inl (stageExc k va true gpa c true g.level g.addr)
      | none => .inr (leafUpdate true g ++ upd)

/-- The full walk of an address for an access (R121 to R124, R127, R129): its TLB entry, or the fault. `check` is off for lztlblock LOCK, which checks no leaf permissions (R132). -/
def State.walkFull (s : State) (h : Nat) (va : Word) (k : AccKind) (v : Bool) (md : Mode) (spec check : Bool) : Xlat :=
  let x := s.hart h
  let a := va.toNat
  let store := decide (k = .store)
  match s.vLeaf h a v spec with
  | .leaf l via reads =>
    let bare := decide (l.addr = 0)
    let fail1 := if bare then none
      else if check then vCheck x v md (x.adue v) k l.r l.w l.x l.u l.a l.d
      else if !l.a && !x.adue v then some 4 else none
    match fail1 with
    | some c => .exc (stageExc k va false 0 c true l.level l.addr)
    | none =>
      let gpa := if bare then a else l.translate a
      match viaUpdate (x.adue false) k va (leafUpdate store l) via with
      | .inl e => .exc e
      | .inr upd1 =>
        let reads := reads ++ upd1
        if !v then
          if s.leafOut h k gpa then .exc (stageExc k va false 0 7 false l.level l.addr)
          else if spec && updates reads then .wait
          else .entry (x.mkEntry v spec a gpa gpa l.bits l.pbmt store l Leaf.bare) reads
        else match s.gLeaf h gpa with
          | .leaf g _ greads =>
            match gCheck (x.adue false) (flagOf (x.getCsr 0x300) 19) (if check then some k else none) g with
            | some c => .exc (stageExc k va true gpa c true g.level g.addr)
            | none =>
              let pa := g.translate gpa
              let reads := reads ++ greads ++ leafUpdate store g
              if s.leafOut h k pa then
                (if g.addr = 0 then .exc (stageExc k va false 0 7 false l.level l.addr) else .exc (stageExc k va true gpa 7 false g.level g.addr))
              else if spec && updates reads then .wait
              else .entry (x.mkEntry v spec a gpa pa (min l.bits g.bits) (if l.pbmt = 0 then g.pbmt else l.pbmt) store l g) reads
          | r => stageFail k va true gpa r
  | r => stageFail k va false 0 r

/-! ### TLB search (R126, R127, R130) -/

def TlbEnt.covers (e : TlbEnt) (a : Nat) : Bool := decide (e.base ≤ a) && decide (a < e.base + 2 ^ e.bits)

/-- Whether an entry matches an address of a regime (R127). -/
def TlbEnt.hits (e : TlbEnt) (v : Bool) (asid vmid a : Nat) : Bool :=
  e.virt == v && (e.global || e.asid == asid) && (!v || e.vmid == vmid) && e.covers a

/-- What the TLBs say of an access. -/
inductive Look where
  | hit (e : TlbEnt)
  | conflict (es : List TlbEnt)
  | miss
deriving DecidableEq, Repr

def lookOf (l : List TlbEnt) : Option Look :=
  match l with
  | [] => none
  | [e] => some (.hit e)
  | es => some (.conflict es)

/-- The L1 TLB first; where it misses, the locked entries and the L2 TLB together (R126, R130). The second part tells an L1 hit. -/
def Hart.lookup (x : Hart) (v : Bool) (k : AccKind) (a : Nat) : Look × Bool :=
  let asid := fieldOf (x.getCsr (if v then 0x280 else 0x180)) 44 16
  let vmid := fieldOf (x.getCsr 0x680) 44 14
  let m := fun (t : Tab TlbEnt) => (t.map (·.2)).filter (fun e => e.hits v asid vmid a)
  match lookOf (m (if k = .fetch then x.itlb else x.dtlb)) with
  | some r => (r, true)
  | none =>
    match lookOf (m x.locked ++ m x.l2tlb) with
    | some r => (r, false)
    | none => (.miss, false)

/-- The entry of a list with the smallest leaf under a measure of size and level. -/
def smallestBy (f : TlbEnt → Nat × Nat) (es : List TlbEnt) : Option TlbEnt :=
  es.foldl (fun best e =>
    match best with
    | none => some e
    | some b => if (f e).1 < (f b).1 ∨ ((f e).1 = (f b).1 ∧ (f e).2 < (f b).2) then some e else some b) none

/-- Exception 26 (R130) for all entries that match: STAGE G where their G-stage sizes differ, with the guest-physical address; the level of the smaller leaf of that stage. -/
def conflictExc (va : Word) (es : List TlbEnt) : Exc :=
  let g := es.any (fun e => e.virt && es.any (fun o => o.gbits != e.gbits))
  let small := smallestBy (fun e => if g then (e.gbits, e.glevel) else (e.vbits, e.level)) es
  { code := 26, tval := va,
    detail := { cause := 8, gstage := g, level := (small.map (fun e => if g then e.glevel else e.level)).getD 0, addr := 0 },
    gpa := if g then (small.map (fun e => e.gpa + va.toNat % 2 ^ e.bits)).getD 0 else 0, noVs := g }

/-- The fault an entry gives an access, if any; `none` in the second part: the store needs D set, so the access walks again (R121, R134). -/
def entryCheck (x : Hart) (md : Mode) (k : AccKind) (va : Word) (e : TlbEnt) : Option (Option Exc) :=
  match vCheck x e.virt md (x.adue e.virt) k e.r e.w e.x e.u true e.d with
  | some c => some (some (stageExc k va false 0 c true e.level e.pte))
  | none =>
    let gperm := match k with
      | .fetch => e.gx
      | .load => e.gr || (flagOf (x.getCsr 0x300) 19 && e.gx)
      | .store => e.gw
    let gpa := e.gpa + va.toNat % 2 ^ e.bits
    if e.virt && !gperm then some (some (stageExc k va true gpa 2 true e.glevel e.gpte))
    else if k = .store ∧ e.d = false then some none
    else if k = .store ∧ e.virt = true ∧ e.gd = false then
      if x.adue false then some none else some (some (stageExc k va true gpa 4 true e.glevel e.gpte))
    else none

/-- A fill (R127): an entry with the same regime, ASID, VMID, base and size is replaced; else a free or drawn place is taken (R147). -/
def fillTlb (t : Tab TlbEnt) (v : Lfsr) (ways : List Nat) (e : TlbEnt) : Tab TlbEnt × Lfsr :=
  match t.find? (fun o => o.2.virt == e.virt && o.2.asid == e.asid && o.2.vmid == e.vmid && o.2.base == e.base && o.2.bits == e.bits) with
  | some (k, _) => (Tab.set t k e, v)
  | none =>
    let pick := chooseWay v ways (fun w => (Tab.find t w).isNone)
    match pick.1 with
    | some w => (Tab.set t w e, pick.2)
    | none => (t, pick.2)

/-- The set of the L2 TLB for an entry (R126). -/
def l2TlbSet (e : TlbEnt) : Nat := e.base / 2 ^ e.bits % 512 ^^^ (e.bits - 12)

/-- An entry put into the L2 TLB (R126, R127). -/
def Hart.fillL2Tlb (x : Hart) (e : TlbEnt) : Hart :=
  let set := l2TlbSet e
  let r := fillTlb x.l2tlb (x.getLfsr 8) ((List.range 8).map (fun w => set * 8 + w)) { e with unconf := false }
  { x with l2tlb := r.1, lfsr := Tab.set x.lfsr 8 r.2 }

/-- A walk's fills: the L1 TLB that missed and the L2 TLB, unconfirmed in the L1 for a speculative access (R98, R99, R127). -/
def Hart.fillTlbs (x : Hart) (k : AccKind) (e : TlbEnt) : Hart :=
  let x :=
    if k = .fetch then
      let r := fillTlb x.itlb (x.getLfsr 6) (List.range 64) e
      { x with itlb := r.1, lfsr := Tab.set x.lfsr 6 r.2 }
    else
      let r := fillTlb x.dtlb (x.getLfsr 7) (List.range 96) e
      { x with dtlb := r.1, lfsr := Tab.set x.lfsr 7 r.2 }
  x.fillL2Tlb e

/-- A retiring access clears the unconfirmed mark of the entry it hits (R99). -/
def Hart.confirmTlb (x : Hart) (k : AccKind) (e : TlbEnt) : Hart :=
  let f := fun (t : Tab TlbEnt) => t.map (fun o => if o.2 = e then (o.1, { o.2 with unconf := false }) else o)
  if k = .fetch then { x with itlb := f x.itlb } else { x with dtlb := f x.dtlb }

/-! ### A hart's access -/

/-- How an access's address translates now. -/
inductive Trans where
  /-- physical address and PBMT: 0 PMA, 1 NC, 2 IO -/
  | ok (pa pbmt : Nat)
  | exc (e : Exc)
  /-- the TLBs miss, or D must be set: a page walk comes first -/
  | walk
deriving DecidableEq, Repr

/-- Whether an access goes out untranslated: in M-mode, or where every stage that applies is Bare (R118). -/
def Hart.untranslated (x : Hart) (k : AccKind) : Bool :=
  let md := x.effMode k
  let bare := fun (n : Nat) => modeLevels (fieldOf (x.getCsr n) 60 4) == 0
  decide (md.1 = .m) || (!md.2 && bare 0x180) || (md.2 && bare 0x280 && bare 0x680)

/-- Translation of an access through the TLBs (R125 to R130, R134). -/
def State.translate (s : State) (h : Nat) (k : AccKind) (va : Word) : Trans :=
  let x := s.hart h
  let md := x.effMode k
  let v := md.2
  if x.untranslated k then .ok va.toNat 0
  else match (x.lookup v k va.toNat).1 with
    | .miss => .walk
    | .conflict es => .exc (conflictExc va es)
    | .hit e =>
      match entryCheck x md.1 k va e with
      | some (some ex) => .exc ex
      | some none => .walk
      | none => .ok (e.pa + va.toNat % 2 ^ e.bits) e.pbmt

/-- What a lookup does to the TLBs and counters: a retiring hit is confirmed (R99), misses are counted (R404). -/
def Hart.noteLookup (x : Hart) (k : AccKind) (va : Word) (spec : Bool) : Hart :=
  let v := (x.effMode k).2
  match x.lookup v k va.toNat with
  | (.hit e, true) => if spec then x else x.confirmTlb k e
  | (.hit _, false) => x.count (if k = .fetch then 28 else 29) 1
  | (.conflict _, _) => x.count 32 1
  | (.miss, _) => (x.count (if k = .fetch then 28 else 29) 1).count 30 1

/-- A TLB miss: the walk that PAGE_WALK then makes (R126). -/
def State.startWalk (s : State) (h : Nat) (va : Word) (k : AccKind) (spec : Bool) : State :=
  s.modHart h (fun x => { x with walk := some { va := va, store := decide (k = .store), exec := decide (k = .fetch), spec := spec, hint := false, cbo := false } })

/-- An exception as a cache-block operation takes it: that of a store (R160; log 11). -/
def Exc.asStore (e : Exc) : Exc :=
  { e with code := match e.code with
      | 5 => 7
      | 13 => 15
      | 21 => 23
      | c => c }

/-- The fault of a walk raised for the access it serves; not for a speculative one (R98) nor for a hint. -/
def State.walkFault (s : State) (h : Nat) (wk : Walk) (e : Exc) : State :=
  if wk.spec || wk.hint then s else s.raise h (if wk.cbo then e.asStore else e)

/-- WALK_PTE_POISON (R140). -/
def State.logPtePoison (s : State) (h a : Nat) : State :=
  s.log ((Syn.walkPtePoison.record (hartOrigin h) 0x01 h (s.hart h).qid).withAddr a)

/-- The locked entry that an access hits: it misses the L1 TLB, and the locked entries and the L2 TLB together hold one match, a locked one (R126, R130). -/
def Hart.lockedHit (x : Hart) (v : Bool) (k : AccKind) (a : Nat) : Option (Nat × TlbEnt) :=
  match x.lookup v k a with
  | (.hit e, false) => x.locked.find? (fun o => o.2 == e)
  | _ => none

/-! ### Fences (R131) -/

/-- Entries left out of every TLB of a hart, a walk in flight staying to restart after the fence (R131). -/
def Hart.fenceTlb (x : Hart) (p : TlbEnt → Bool) : Hart :=
  let f := fun (t : Tab TlbEnt) => t.filter (fun e => !p e.2)
  { x with itlb := f x.itlb, dtlb := f x.dtlb, locked := f x.locked, l2tlb := f x.l2tlb }

/-- What an SFENCE.VMA or HFENCE.VVMA selects: by address whatever the size, by ASID but not G entries (R131; log 11). -/
def fenceSelects (virt : Bool) (vmid : Option Nat) (va : Option Word) (asid : Option Nat) (e : TlbEnt) : Bool :=
  e.virt == virt && (match vmid with | some n => e.vmid == n | none => true)
    && (match va with | some a => e.covers a.toNat | none => true)
    && (match asid with | some n => !e.global && e.asid == n | none => true)

/-- The fences of R131. -/
inductive FenceKind where
  | sfence | hfenceV | hfenceG
deriving DecidableEq, Repr

/-- The privilege check of a fence instruction (log 11): none, or the exception code: 2 illegal, 22 virtual instruction. mstatus.TVM holds SFENCE.VMA and HFENCE.GVMA in HS-mode, not HFENCE.VVMA. -/
def Hart.fenceDenied (x : Hart) (k : FenceKind) : Option Nat :=
  if x.mode = .m then none
  else if x.virt then
    if k ≠ .sfence then some 22
    else if x.mode = .u ∨ flagOf (x.getCsr 0x600) 20 then some 22 else none
  else if x.mode = .u then some 2
  else if k ≠ .hfenceV ∧ flagOf (x.getCsr 0x300) 20 = true then some 2
  else none

/-- The bits of a fence instruction; rs1 and rs2, which the command does not carry, are left 0. -/
def FenceKind.bits (k : FenceKind) : Nat :=
  match k with
  | .sfence => 0x12000073
  | .hfenceV => 0x22000073
  | .hfenceG => 0x62000073

def fenceOp (s : State) (h : Nat) (k : FenceKind) (sel : Hart → TlbEnt → Bool) : State :=
  s.instr h (fun s =>
    match (s.hart h).fenceDenied k with
    | some c => s.raiseIllegal h c k.bits 0x1FF8000
    | none => s.modHart h (fun x => (x.fenceTlb (sel x)).retire .fence))

/-- SFENCE.VMA acts on V = 1 entries of the current VMID when executed with V = 1. -/
def execSfenceVma (h : Nat) (va : Option Word) (asid : Option Nat) (s : State) : Result :=
  .next (fenceOp s h .sfence (fun x =>
    fenceSelects x.virt (if x.virt then some (fieldOf (x.getCsr 0x680) 44 14) else none) va asid))

def execHfenceVvma (h : Nat) (va : Option Word) (asid : Option Nat) (s : State) : Result :=
  .next (fenceOp s h .hfenceV (fun x => fenceSelects true (some (fieldOf (x.getCsr 0x680) 44 14)) va asid))

/-- HFENCE.GVMA selects by guest-physical address and VMID. -/
def execHfenceGvma (h : Nat) (gpa : Option Word) (vmid : Option Nat) (s : State) : Result :=
  .next (fenceOp s h .hfenceG (fun _ e =>
    e.virt && (match vmid with | some n => e.vmid == n | none => true)
      && (match gpa with | some a => decide (e.gpa ≤ a.toNat) && decide (a.toNat < e.gpa + 2 ^ e.bits) | none => true)))

end Sys2Proof.Machine
end

