-- ==== Sys2Proof/Machine/Coherence.lean ====
section
/-! DEFINITION. The coherence protocol (R166 to R196, R332 to R335, R431): requests and answers of the holders, the home slices, and the races of R182. -/

namespace Sys2Proof.Machine

/-! ### Messages -/

/-- A message with the fields every message has; the rest zero (R172). -/
def cohMsg (opc : Opc) (dst src core tag line : Nat) : CohMsg :=
  { opc := opc, dst := dst, src := src, core := core, tag := tag, addr := line, qid := 0, spec := false, secure := false,
    except := false, state := 0, poison := 0, status := 0, misc := 0, hasData := false, data := 0, cls := 1, stream := none,
    issue := 0 }

/-- STATUS values of Dat and Cmp (R172). -/
def stOk : Nat := 0
def stNospec : Nat := 1
def stUnsupported : Nat := 2
def stDevError : Nat := 3
def stTimeout : Nat := 4

def isRequest (o : Opc) : Bool :=
  match o with
  | .rds | .rdu | .upg | .rdnc | .wrnc | .amof | .amom => true
  | .wbd | .evc | .snps | .snpi | .snpbi | .rspi | .rsps | .rspd | .rspx | .dat | .cmp | .cmpack => false

/-! ### The hart's side: buffers and requests -/

/-- Whether another core behind the cluster's directory bit holds a line (R182). -/
def State.othersHold (s : State) (h l : Nat) : Bool :=
  (List.range 8).any (fun c =>
    let k := hartCluster h * 8 + c
    k != h && decide ((s.hart k).lineSt l ≠ .i) && decide ((s.hart k).run ≠ .fenced))

/-- The WbD or Evc of a write-back buffer (R171, R172). -/
def State.wbMsg (s : State) (h : Nat) (w : Wb) : CohMsg :=
  let last := (s.hart h).paired || !s.othersHold h w.line
  { cohMsg (if w.dirty then .wbd else .evc) (sliceNode (s.homeOf (64 * w.line))) (hartNode h) (hartCore h) w.tag w.line with
    qid := (s.hart h).qid, secure := s.bind.lineSecure (64 * w.line), poison := if w.dirty then w.poison else 0,
    status := if last then 1 else 0, hasData := w.dirty, data := if w.dirty then w.data else 0,
    issue := BitVec.ofNat 32 s.now }

/-- A hart's new state, with the message of each write-back buffer among its eight that has newly come into use (R175). -/
def State.putHart (s : State) (h : Nat) (x : Hart) : State :=
  let old := (s.hart h).wbs.take 8
  let new := (x.wbs.take 8).filter (fun w => !old.any (fun o => o.tag == w.tag))
  let s := s.setHart h x
  new.foldl (fun s w => s.sendCoh (s.wbMsg h w)) s

/-- The memory streams of a core to a slice in a state (R210). -/
def State.memStreams (s : State) (h slice : Nat) (st : StreamSt) : List Nat :=
  (s.fabric.streams.filter (fun e => decide (e.2.st = st) && e.2.desc.isMemory && e.2.desc.srcNode == hartNode h
    && e.2.desc.srcCore == hartCore h && e.2.desc.dstNode == sliceNode slice)).map (·.1)

/-- The requests that may travel on a memory stream: retiring RdS, RdU, Upg and RdNC (R204, R210). -/
def onStream (opc : Opc) (spec : Bool) : Bool :=
  !spec && (decide (opc = .rds) || decide (opc = .rdu) || decide (opc = .upg) || decide (opc = .rdnc))

/-- The memory stream that a request takes: the first ACTIVE one with no other request outstanding (R210). -/
def State.freeStream (s : State) (h slice : Nat) : Option Nat :=
  (s.memStreams h slice .active).find? (fun n => !(s.hart h).misses.any (fun m => m.stream == some n))

/-- Whether a request waits at its source: its memory stream is held for new slot tables, and none other is free (R219). -/
def State.streamHeld (s : State) (h : Nat) (opc : Opc) (dst : Nat) (spec : Bool) : Bool :=
  match sliceAt dst with
  | some n => onStream opc spec && (s.freeStream h n).isNone && !(s.memStreams h n .held).isEmpty
  | none => false

/-- A request sent in Class G on its stream, counted (R204, R221). -/
def State.countStream (s : State) (n : Option Nat) : State :=
  match n with
  | some n => s.setStream n { s.stream n with msgs := (s.stream n).msgs + 1 }
  | none => s

/-- The demoted memory stream whose message a request in Class U is (R219, R221): the first between its core and the slice. -/
def State.demotedStream (s : State) (h : Nat) (opc : Opc) (dst : Nat) (spec : Bool) : Option Nat :=
  if onStream opc spec then (sliceAt dst).bind (fun n => (s.memStreams h n .demoted).head?) else none

/-- A message of a demoted stream sent in Class U, counted (R221). -/
def State.countDemoted (s : State) (n : Option Nat) : State :=
  match n with
  | some n => s.setStream n { s.stream n with uMsgs := (s.stream n).uMsgs + 1 }
  | none => s

/-- A hart's request sent for a line, with a miss register for it (R159, R172, R175); a retiring read or ownership request on a free memory stream goes in Class G (R204, R210). -/
def State.request (s : State) (h : Nat) (opc : Opc) (st : MissSt) (dst l misc : Nat) (spec fetch : Bool) (data : Line)
    (ws : List Waiter) : State :=
  let x := s.hart h
  let strm := if onStream opc spec then (sliceAt dst).bind (s.freeStream h) else none
  let cls := if strm.isSome then 2 else 1
  let tag := x.freeTag (hartCore h)
  let secure := s.bind.lineSecure (64 * l)
  let m : Miss := { line := l, st := st, opc := opc, spec := spec, fetch := fetch, secure := secure, tag := tag, cls := cls,
                    dst := dst, sent := s.time.now, expired := false, dropped := false, stream := strm, waiters := ws }
  let x := { x with misses := x.misses ++ [m], nextTag := (tag + 1) % 512 }
  let x := if strm.isSome then x.count 62 1 else x
  let msg := { cohMsg opc dst (hartNode h) (hartCore h) tag l with
    qid := x.qid, spec := spec, secure := secure, misc := misc, cls := cls, stream := strm,
    hasData := decide (opc = .wrnc) || decide (opc = .amof) || decide (opc = .amom), data := data, issue := BitVec.ofNat 32 s.now }
  (((s.setHart h x).countStream strm).countDemoted (if strm.isNone then s.demotedStream h opc dst spec else none)).sendCoh msg

/-- The home's node for a line. -/
def State.homeNode (s : State) (l : Nat) : Nat := sliceNode (s.homeOf (64 * l))

/-- Whether a miss register stands for a line of the caches, not for a request without allocation. -/
def MissSt.line (m : MissSt) : Bool :=
  match m with
  | .isD | .imD | .smA => true
  | .nc | .io => false

/-- A miss register of a line that still serves its accesses. -/
def Hart.missOf (x : Hart) (l : Nat) : Option Miss := x.misses.find? (fun m => m.line == l && !m.expired && m.st.line)

/-- An access added to a miss register of its line (R159). -/
def Hart.join (x : Hart) (l : Nat) (w : Waiter) : Hart :=
  { x with misses := x.misses.map (fun m => if m.line == l && !m.expired && m.st.line then { m with waiters := m.waiters ++ [w] } else m) }

def Hart.dropMiss (x : Hart) (tag : Nat) : Hart := { x with misses := x.misses.filter (fun m => m.tag != tag) }

/-- Whether a request without allocation of the hart is outstanding for a line: another access to the line waits, so that the two stay in order (R187). -/
def Hart.ncBusy (x : Hart) (l : Nat) : Bool := x.misses.any (fun m => m.line == l && decide (m.st = .nc))

/-- Whether a side-effect request of a hart has not reached its port or home yet: its next side-effect access waits (R188). -/
def State.ioTravels (s : State) (h : Nat) : Bool :=
  (s.hart h).misses.any (fun p => decide (p.st = .io)
    && s.net.coh.any (fun c => c.src == hartNode h && c.core == hartCore h && c.tag == p.tag && isRequest c.opc))

/-- A register access by an instruction of a hart: it waits until the hart's earlier side-effect requests have arrived (R188). -/
def State.access (s : State) (h : Nat) (f : State → State) : State := s.instr h (fun s => if s.ioTravels h then s else f s)

/-! ### Performing an access on a line that the core holds -/

/-- The result of an atomic on n-byte values (R172): swap, add, and, or, xor, min, max, minu, maxu, compare-and-swap. -/
def amoResult (op : AmoKind) (n old v cmp : Nat) : Nat :=
  let w := 8 * n
  match op with
  | .swap => v
  | .add => (old + v) % 2 ^ w
  | .and => old &&& v
  | .or => old ||| v
  | .xor => old ^^^ v
  | .min => if signedOf w old ≤ signedOf w v then old else v
  | .max => if signedOf w old ≤ signedOf w v then v else old
  | .minu => min old v
  | .maxu => max old v
  | .cas => if old = cmp then v else old

/-- The OP code of an atomic message (R172). -/
def amoCode (op : AmoKind) : Nat :=
  match op with
  | .swap => 0
  | .add => 1
  | .and => 2
  | .or => 3
  | .xor => 4
  | .min => 5
  | .max => 6
  | .minu => 7
  | .maxu => 8
  | .cas => 9

def amoOfCode (c : Nat) : AmoKind :=
  match c with
  | 0 => .swap
  | 1 => .add
  | 2 => .and
  | 3 => .or
  | 4 => .xor
  | 5 => .min
  | 6 => .max
  | 7 => .minu
  | 8 => .maxu
  | _ => .cas

/-- The old value of an atomic into rd; a 16-byte CAS writes rd and rd+1 (R82, Zacas). -/
def Hart.setAmo (x : Hart) (rd size old : Nat) : Hart :=
  if size = 4 then (x.setX rd (word (old % 2 ^ 64))).setX (rd + 1) (word (old / 2 ^ 64))
  else x.setX rd (extendTo64 size old true)

/-- Whether n bytes at an address are poisoned in a copy (R172). -/
def poisonAt (p : Poison) (a n : Nat) : Bool :=
  (List.range 4).any (fun i => p.getLsbD i && decide (16 * i < a % 64 + n) && decide (a % 64 < 16 * i + 16))

/-- Poison left after n bytes at an address are written: only wholly overwritten granules are cleansed (R162). -/
def poisonAfter (p : Poison) (a n : Nat) : Poison :=
  BitVec.ofNat 4 (maskOf ((List.range 4).filter (fun i =>
    p.getLsbD i && !(decide (a % 64 ≤ 16 * i) && decide (16 * i + 16 ≤ a % 64 + n)))))

/-- Poison left after the bytes under a mask are written (R162). -/
def poisonUnder (p : Poison) (enables : BitVec 64) : Poison :=
  BitVec.ofNat 4 (maskOf ((List.range 4).filter (fun i => p.getLsbD i && bitsOf enables.toNat (16 * i) 16 != 0xFFFF)))

/-- Poison consumed by a hart (R337): logged with the address, and the access fault of its kind. -/
def State.consumePoison (s : State) (h a : Nat) (k : AccKind) (va : Word) : State :=
  (s.log ((Syn.poisonConsumed.record (hartOrigin h) 0x01 h (s.hart h).qid).withAddr a)).raiseCode h k.accessFault va

/-- The bytes of an access within a copy. -/
def copyGet (c : CLine) (a n : Nat) : Nat := lineGet c.data (a % 64) n

/-- A write of n bytes to the L1D copy in M (R175). -/
def Hart.storeTo (x : Hart) (b : Binding) (core now a n v : Nat) : Hart :=
  x.writeHeld b core now (a / 64) (fun c => { c with data := lineSet c.data (a % 64) n v, poison := poisonAfter c.poison a n })

/-- lz.lock of a line that the core holds (R111, R151): its way is locked, and a status returned. -/
def Hart.lockLine (x : Hart) (b : Binding) (core now rd l : Nat) : Hart :=
  let secure := b.lineSecure (64 * l)
  let set := l2Set l
  let way := x.l2.find? (fun e => e.2.line == l && (e.2.st.valid || e.2.locked))
  if (way.map (·.2.locked)).getD false then x.setX rd 1
  else
    let lockedIn := fun (p : Nat → Bool) => ((List.range 16).filter (fun w => p w &&
      ((Tab.find x.l2 (set * 16 + w)).map (·.locked)).getD false)).length
    let mine := fun (w : Nat) => x.l2Secure.getLsbD (w / 4) == secure
    let total := ((List.range 16).filter mine).length
    if 8 ≤ lockedIn (fun _ => true) ∨ total < lockedIn mine + 3 then x.setX rd 2
    else
      let x := match findLine x.l2 l, x.lineCopy l with
        | none, some c => x.fillL2 core now secure { c with locked := false, unconf := false }
        | _, _ => x
      match findLine x.l2 l with
      | some (k, c) => ({ x with l2 := Tab.set x.l2 k { c with locked := true, unconf := false } }).setX rd 0
      | none => x.setX rd 2

/-- A store, AMO, LR or lock performed where the line is held with the right to it: M or E for a write, any copy for a read (R175, R178, R185).
Poison consumed by a load, LR, AMO or SC faults instead (R337). -/
def State.perform (s : State) (h : Nat) (w : Waiter) : State :=
  let x := s.hart h
  let now := s.time.now
  match w with
  | .load o pa =>
    match x.lineCopy (pa / 64) with
    | none => s
    | some c =>
      let n := 2 ^ o.size
      let k := if o.fetch then AccKind.fetch else .load
      if poisonAt c.poison pa n then s.consumePoison h pa k o.va
      else if o.fetch then s.setHart h (x.confirm (pa / 64))
      else s.setHart h ((x.confirm (pa / 64)).setX o.rd (extendTo64 o.size (copyGet c pa n) o.signed))
  | .store _ pa size data => s.putHart h (x.storeTo s.bind (hartCore h) now pa (2 ^ size) data.toNat)
  | .amo o pa =>
    match x.lineCopy (pa / 64) with
    | none => s
    | some c =>
      let n := 2 ^ o.size
      if poisonAt c.poison pa n then s.consumePoison h pa .store o.va
      else
        let old := copyGet c pa n
        let new := amoResult o.op n old (o.data.toNat % 2 ^ (8 * n)) (o.cmp.toNat % 2 ^ (8 * n))
        s.putHart h ((x.storeTo s.bind (hartCore h) now pa n new).setAmo o.rd o.size old)
  | .lr rd va pa size =>
    match x.lineCopy (pa / 64) with
    | none => s
    | some c =>
      if poisonAt c.poison pa (2 ^ size) then s.consumePoison h pa .load va
      else s.setHart h { (x.confirm (pa / 64)).setX rd (extendTo64 size (copyGet c pa (2 ^ size)) true) with
          reserve := some (pa / 64), deferTo := some (s.time.cycle + 64) }
  | .zero _ pa => s.putHart h (x.writeHeld s.bind (hartCore h) now (pa / 64) (fun c => { c with data := 0, poison := 0 }))
  | .lock rd _ pa => s.putHart h ((x.lockLine s.bind (hartCore h) now rd (pa / 64)).retire .xlz)
  | .pair _ pa data enables =>
    s.putHart h (x.writeHeld s.bind (hartCore h) now (pa / 64) (fun c =>
      { c with data := lineMerge c.data data enables, poison := poisonUnder c.poison enables }))
  | .prefetch _ _ | .pte _ | .buffer _ _ => s

/-- Whether a waiting access needs ownership. -/
def Waiter.owns (w : Waiter) : Bool :=
  match w with
  | .load _ _ | .lock _ _ _ => false
  | .store _ _ _ _ | .amo _ _ | .lr _ _ _ _ | .zero _ _ | .pair _ _ _ _ => true
  | .prefetch own _ | .pte own | .buffer own _ => own

/-- The virtual address whose set a waiting access fills (R141); none for a page walker's line, which only the L2 takes (R126). -/
def Waiter.index (w : Waiter) : Option Nat :=
  match w with
  | .load o _ => some o.va.toNat
  | .amo o _ => some o.va.toNat
  | .store va _ _ _ | .lr _ va _ _ | .zero va _ | .lock _ va _ | .prefetch _ va | .pair va _ _ _ | .buffer _ va => some va.toNat
  | .pte _ => none

/-- A prefetch, or a walker's read, that only asks for a line: nothing waits on it, and it asks once. -/
def Waiter.hints (w : Waiter) : Bool :=
  match w with
  | .prefetch own _ | .pte own => !own
  | .load _ _ | .lock _ _ _ | .store _ _ _ _ | .amo _ _ | .lr _ _ _ _ | .zero _ _ | .pair _ _ _ _ | .buffer _ _ => false

/-- Accesses performed in order while the line's state allows; the first that needs more rights sends Upg or RdU with the rest waiting (R175). -/
def State.performAll (s : State) (h l : Nat) (ws : List Waiter) : State :=
  match ws with
  | [] => s
  | w :: rest =>
    if w.hints then State.performAll s h l rest else
    let st := (s.hart h).lineSt l
    if w.owns && decide (st = .s) then s.request h .upg .smA (s.homeNode l) l 0 false false 0 (w :: rest)
    else if decide (st = .i) then
      s.request h (if w.owns then .rdu else .rds) (if w.owns then .imD else .isD) (s.homeNode l) l 0 false false 0 (w :: rest)
    else State.performAll (s.perform h w) h l rest

/-! ### Holder side: snoops (R170, R175 to R178) -/

/-- Whether a snoop for a line waits at a core: a hold window, or an LR's deferral, on a line held in M or E (R177, R178). -/
def Hart.snoopHeld (x : Hart) (l cycle : Nat) : Bool :=
  (decide (x.lineSt l = .m) || decide (x.lineSt l = .e))
    && (x.holds.any (fun w => w.line == l && decide (cycle < w.fin))
      || (x.reserve == some l && (match x.deferTo with | some t => decide (cycle < t) | none => false)))

/-- The cycles for which a hold window still keeps a line from a snoop (R177); an LR's deferral is none. -/
def Hart.holdLeft (x : Hart) (l cycle : Nat) : Nat :=
  ((x.holds.filter (fun w => w.line == l)).map (fun w => w.fin - cycle)).foldl max 0

/-- One core's answer to a snoop (R175), as response, data and new state. -/
def Hart.answer (x : Hart) (inv : Bool) (l : Nat) : Opc × Option (Line × Poison) × Nat × Hart :=
  match x.wbs.find? (fun w => w.line == l) with
  | some w => (.rspx, if w.dirty then some (w.data, w.poison) else none, w.tag, x)
  | none =>
    match x.lineSt l with
    | .i => (.rspi, none, 0, x)
    | .s =>
      if inv then
        (.rspi, none, 0, { x.dropCopies l with
          misses := x.misses.map (fun m => if m.line == l && decide (m.st = .smA) then { m with st := .imD } else m) })
      else (.rsps, none, 0, x)
    | .e => if inv then (.rspi, none, 0, x.dropCopies l) else (.rsps, none, 0, x.shareCopies l)
    | .m =>
      let d := (x.lineCopy l).map (fun c => (c.data, c.poison))
      (.rspd, d, 0, if inv then x.dropCopies l else x.shareCopies l)

/-- The cluster's one response for all its cores: data first, then a line that is leaving, then a copy kept (R170). -/
def betterAnswer (a b : Opc) : Bool :=
  let rank := fun (o : Opc) => match o with
    | .rspd => 3
    | .rspx => 2
    | .rsps => 1
    | _ => 0
  decide (rank a < rank b)

/-- A snoop answered by its cluster (R170, R175): each core that the filter shows, but for the excepted one, gives up or shares the line; a fenced core holds nothing (R346). -/
def State.answerSnoop (s : State) (m : CohMsg) : State :=
  let inv := decide (m.opc ≠ .snps)
  let base := hartAt m.dst 0
  let cores := (List.range 8).filter (fun c => !(m.except && c == m.core) && decide ((s.hart (base + c)).run ≠ .fenced))
  let have_ := m.except && decide ((s.hart (base + m.core)).lineSt m.addr ≠ .i)
  let r := cores.foldl (fun (acc : State × Opc × Option (Line × Poison) × Nat × Nat) c =>
      let x := acc.1.hart (base + c)
      let a := x.answer inv m.addr
      let s := if decide (x.lineSt m.addr ≠ .i) then acc.1.setHart (base + c) (a.2.2.2.count 38 1) else acc.1.setHart (base + c) a.2.2.2
      if betterAnswer acc.2.1 a.1 then (s, a.1, a.2.1, a.2.2.1, c) else (s, acc.2.1, acc.2.2.1, acc.2.2.2.1, acc.2.2.2.2))
    (s, .rspi, none, 0, m.core)
  let d := r.2.2.1
  r.1.sendCoh { cohMsg r.2.1 m.src m.dst r.2.2.2.2 m.tag m.addr with
    qid := (s.hart (base + r.2.2.2.2)).qid, secure := m.secure, status := if have_ then 1 else 0, misc := r.2.2.2.1,
    hasData := d.isSome, data := (d.map (·.1)).getD 0, poison := (d.map (·.2)).getD 0 }

/-- The wait of a snoop for a hold window, which its timeout does not count (R196). -/
def State.noteHeld (s : State) (m : CohMsg) (k : Nat) : State :=
  match sliceAt m.src with
  | none => s
  | some n => s.modSlice n (fun t => { t with active := t.active.map (fun x =>
      { x with snoops := x.snoops.map (fun o => if o.node == m.dst && o.tag == m.tag then { o with held := o.held + k } else o) }) })

/-- A snoop reaches a cluster: it waits where a hold window or an LR keeps the line, and is answered otherwise (R177, R178). A snoop to a port group goes on to its devices (R191). -/
def snoopArrives (s : State) (m : CohMsg) : State :=
  let s := s.takeCoh m
  if isClusterNode m.dst then
    let base := hartAt m.dst 0
    match (List.range 8).find? (fun c => !(m.except && c == m.core) && (s.hart (base + c)).snoopHeld m.addr s.time.cycle) with
    | some c =>
      (s.modHart (base + c) (fun x => { x with snoopWait := x.snoopWait ++ [m] })).noteHeld m ((s.hart (base + c)).holdLeft m.addr s.time.cycle)
    | none => s.answerSnoop m
  else { s with net := { s.net with io := s.net.io ++ [m] } }

/-- An error in the snoop filter entry that a snoop looks up (R195, R196): corrected, or the entry rebuilt by probing the cluster's cores. Either way it is logged, and the snoop goes on. -/
def State.logFilter (s : State) (u : Upset) (m : CohMsg) : State :=
  let rec_ := fun (y : Syndrome) => y.record m.dst 0x02 (hartCluster (hartAt m.dst 0)) m.qid
  if !isClusterNode m.dst then s
  else match u with
    | .sfCe => s.log (rec_ Syn.sfCe)
    | .sfUe => s.log (rec_ Syn.sfUe)
    | _ => s

/-- A snoop that has arrived, its filter lookup first. -/
def snoopFiltered (u : Upset) (s : State) (m : CohMsg) : State := snoopArrives (s.logFilter u m) m

def execSnps (m : CohMsg) (u : Upset) (s : State) : Result := .next (s.arrive { m with opc := .snps } u (snoopFiltered u))
def execSnpi (m : CohMsg) (u : Upset) (s : State) : Result := .next (s.arrive { m with opc := .snpi } u (snoopFiltered u))
def execSnpbi (m : CohMsg) (u : Upset) (s : State) : Result := .next (s.arrive { m with opc := .snpbi } u (snoopFiltered u))

/-- Waiting snoops of a line answered once nothing keeps it. -/
def State.releaseSnoops (s : State) (h : Nat) : State :=
  let x := s.hart h
  let go := x.snoopWait.filter (fun m => !x.snoopHeld m.addr s.time.cycle)
  let s := s.setHart h { x with snoopWait := x.snoopWait.filter (fun m => x.snoopHeld m.addr s.time.cycle) }
  go.foldl State.answerSnoop s

/-- HOLD_WINDOW_END (R177): the window's cycles have passed, and waiting snoops for the line are answered. -/
def holdWindowEnd (s : State) (h l : Nat) : State :=
  let x := s.hart h
  let c := s.time.cycle
  if x.holds.any (fun w => w.line == l && decide (w.fin ≤ c)) then
    (s.setHart h { x with holds := x.holds.filter (fun w => !(w.line == l && decide (w.fin ≤ c))) }).releaseSnoops h
  else s

def execHoldWindowEnd (h line : Nat) (s : State) : Result := .next (holdWindowEnd s h line)

/-- LR_SNOOP_DEFER_EXPIRY (R178): 64 NoC cycles after the LR the deferred snoops proceed. -/
def lrSnoopDeferExpiry (s : State) (h : Nat) : State :=
  match (s.hart h).deferTo with
  | some t => if t ≤ s.time.cycle then (s.modHart h (fun x => { x with deferTo := none })).releaseSnoops h else s
  | none => s

def execLrSnoopDeferExpiry (h : Nat) (s : State) : Result := .next (lrSnoopDeferExpiry s h)

/-! ### Home side (R168 to R184) -/

/-- COH_UNEXPECTED (R196). -/
def State.logUnexpected (s : State) (m : CohMsg) : State :=
  let ty := match sliceAt m.dst with | some n => (0x03, n) | none => (0x19, m.tag)
  s.log ((Syn.cohUnexpected.record m.dst ty.1 ty.2 m.qid).withAddr (64 * m.addr))

def dirSet (l : Nat) : Nat := l3Set l

def Slice.dirFind (t : Slice) (l : Nat) : Option (Nat × DirEnt) := t.dir.find? (fun e => e.2.line == l)

/-- The directory ways that a Quire's requests allocate in (R169): those of its own L3 ways, else the common pool. -/
def State.dirEligible (s : State) (n q : Nat) : List Nat :=
  let t := s.slice n
  let named := t.q.foldl (fun a e => a ||| e.2.wayMask.toNat) 0
  let own := (t.quire q).wayMask.toNat
  let ways := if s.bind.hasL3Ways then
      (if own ≠ 0 then maskBits 16 own else (List.range 16).filter (fun w => !bitOf named w))
    else List.range 16
  ways.flatMap (fun w => [2 * w, 2 * w + 1])

/-- How many holders an entry tracks, an owner counting as one (R183). -/
def DirEnt.holders (e : DirEnt) : Nat :=
  match e.owner with
  | some _ => 1
  | none => (maskBits 48 e.clusters.toNat).length + (maskBits 8 e.ports.toNat).length

/-- The snoops that reach an entry's holders (R180): the owner's core, or every sharing cluster and port group, the requester's core excepted in its own cluster. -/
def DirEnt.targets (e : DirEnt) : List (Nat × Nat) :=
  match e.owner with
  | some o => [o]
  | none => (maskBits 48 e.clusters.toNat).map (fun c => (clusterNode c, 8)) ++ (maskBits 8 e.ports.toNat).map (fun g => (pcieNode g, 8))

/-- The cluster bit of a node, 48 for a node that is no cluster. -/
def clusterBit (node : Nat) : Nat := if isClusterNode node then nodeDie node * 4 + nodeX node else 48

def DirEnt.addSharer (e : DirEnt) (node : Nat) : DirEnt :=
  match pcieAt node with
  | some g => { e with ports := e.ports ||| BitVec.ofNat 8 (2 ^ g) }
  | none => { e with clusters := e.clusters ||| BitVec.ofNat 48 (2 ^ clusterBit node) }

def DirEnt.hasSharer (e : DirEnt) (node : Nat) : Bool :=
  match pcieAt node with
  | some g => e.ports.getLsbD g
  | none => e.clusters.getLsbD (clusterBit node)

def DirEnt.dropSharer (e : DirEnt) (node : Nat) : DirEnt :=
  match pcieAt node with
  | some g => { e with ports := e.ports &&& ~~~(BitVec.ofNat 8 (2 ^ g)) }
  | none => { e with clusters := e.clusters &&& ~~~(BitVec.ofNat 48 (2 ^ clusterBit node)) }

def DirEnt.tracks (e : DirEnt) : Bool := e.owner.isSome || e.clusters != 0 || e.ports != 0

/-- Snoops sent for a line by a home (R171 to R173). -/
def State.sendSnoops (s : State) (n l : Nat) (opc : Opc) (targets : List (Nat × Nat)) (req : CohMsg) : List SnoopOut × State :=
  targets.foldl (fun acc d =>
      let s := acc.2
      let t := s.slice n
      let except := d.2 == 8 && d.1 == req.src && isClusterNode req.src && (decide (req.opc = .rdu) || decide (req.opc = .upg))
      let m := { cohMsg opc d.1 (sliceNode n) (if except then req.core else d.2 % 8) t.snpTag l with
        qid := req.qid, secure := req.secure, except := except, issue := BitVec.ofNat 32 s.now }
      let o : SnoopOut := { node := d.1, core := d.2, tag := t.snpTag, issued := s.time.cycle, held := 0 }
      (acc.1 ++ [o], (s.setSlice n { t with snpTag := (t.snpTag + 1) % 4096 }).sendCoh m))
    ([], s)

/-- The snoops of a slice that a cluster has not answered: each holds one of the slice's four credits for it (R174). -/
def Slice.snoopsTo (t : Slice) (node : Nat) : Nat :=
  (t.active.flatMap (·.snoops)).countP (fun o => o.node == node) + t.ignore.countP (fun p => p.1 == node)

/-- Whether a slice holds a credit for every cluster it is about to snoop (R174). -/
def Slice.credits (t : Slice) (targets : List (Nat × Nat)) : Bool :=
  targets.all (fun d => !isClusterNode d.1 || decide (t.snoopsTo d.1 < 4))

/-- Whether a slice can track k more transactions for a request of a class: 192, of which 8 are reserved for Class G (R179). -/
def Slice.roomFor (t : Slice) (cls k : Nat) : Bool :=
  decide (t.active.length + k ≤ 192) && (cls == 2 || decide (t.active.countP (fun x => x.req.cls != 2) + k ≤ 184))

/-- A new transaction of a request. -/
def Txn.of (m : CohMsg) (arrived : Nat) : Txn :=
  { req := m, evict := false, arrived := arrived, snoops := [], have_ := false, keepS := false, shared := false, ownerForm := none, data := none,
    waitMem := false, waitEvict := none, way := none, granted := false, grantAt := 0 }

def Slice.txn (t : Slice) (l : Nat) : Option Txn := t.active.find? (fun x => x.req.addr == l)

def Slice.setTxn (t : Slice) (x : Txn) : Slice :=
  { t with active := t.active.map (fun y => if y.req.addr == x.req.addr then x else y) }

def Slice.closeTxn (t : Slice) (l : Nat) : Slice := { t with active := t.active.filter (fun y => y.req.addr != l) }

/-- A Dat or Cmp from a home to a requester (R171, R172, R203, R204). -/
def answerMsg (n : Nat) (req : CohMsg) (opc : Opc) (state status : Nat) (d : Option (Line × Poison)) : CohMsg :=
  { cohMsg opc req.src (sliceNode n) req.core req.tag req.addr with
    qid := req.qid, secure := req.secure, state := state, status := status, poison := (d.map (·.2)).getD 0,
    hasData := decide (opc = .dat), data := (d.map (·.1)).getD 0, cls := req.cls, issue := req.issue }

/-- The return stream of the memory stream that a request came on (R210). -/
def State.returnStream (s : State) (n : Option Nat) : Option Nat :=
  (n.bind (fun k => partnerStream ((s.fabric.streams.filter (fun e => decide (e.2.st ≠ .absent))).map (·.2.desc)) (s.stream k).desc)).map (·.stream)

/-- An answer sent: a Class G one in the slots of the paired return stream, counted (R204, R210, R221). -/
def State.sendAnswer (s : State) (req m : CohMsg) : State :=
  let n := if m.cls = 2 then s.returnStream req.stream else none
  let dem := if isClusterNode req.src && m.cls == 1 then s.returnStream (s.demotedStream (hartAt req.src req.core) req.opc m.src req.spec) else none
  ((s.countStream n).countDemoted dem).sendCoh { m with stream := n }

/-- A line's directory entry set, freed where it tracks nothing. -/
def Slice.setDir (t : Slice) (k : Nat) (e : DirEnt) : Slice :=
  if e.tracks then { t with dir := Tab.set t.dir k e } else { t with dir := Tab.del t.dir k }

/-- The QID of a directory entry (R168, R169): that of the Quire whose way holds it, 0 in the common pool. -/
def Slice.dirQid (t : Slice) (k : Nat) : Nat :=
  ((t.q.find? (fun e => e.2.wayMask.getLsbD (k % 32 / 2))).map (·.1)).getD 0

/-- The owner entry of a granted requester (R168, R180). -/
def ownerEntry (b : Binding) (q : Nat) (req : CohMsg) : DirEnt :=
  { line := req.addr, qid := q, secure := b.lineSecure (64 * req.addr), owner := some (req.src, req.core), clusters := 0, ports := 0 }

/-- A free directory way for a line, among those its requester may allocate in and no active transaction has been given (R183). -/
def State.freeDir (s : State) (n q l : Nat) : Option Nat :=
  let t := s.slice n
  ((s.dirEligible n q).map (fun w => dirSet l * 32 + w)).find? (fun k => (Tab.find t.dir k).isNone && !t.active.any (fun x => x.way == some k))

/-- The entry that makes room (R183): not busy, tracking the fewest holders, the lowest way on a tie. -/
def State.victimDir (s : State) (n q l : Nat) : Option (Nat × DirEnt) :=
  let t := s.slice n
  let cand := (s.dirEligible n q).filterMap (fun w => (Tab.find t.dir (dirSet l * 32 + w)).map (fun e => (dirSet l * 32 + w, e)))
  (cand.filter (fun e => (t.txn e.2.line).isNone)).foldl (fun best e =>
    match best with
    | none => some e
    | some b => if e.2.holders < b.2.holders then some e else some b) none

/-- The data a grant is made from: the transaction's own, else the L3's; none while memory must be read (R180, R431). A line of a retired page is poisoned (R262). -/
def State.grantData (s : State) (n : Nat) (x : Txn) : Option (Line × Poison) :=
  let bad := s.retired (64 * x.req.addr)
  let held : Option (Line × Poison) := match x.data with
    | some d => some d
    | none => (l3Find (s.slice n) x.req.addr).map (fun e => (e.2.data, e.2.poison))
  held.map (fun d => if bad then (d.1, 0xF#4) else d)

/-- Whether a request's answer needs the line's data. -/
def needsData (o : Opc) : Bool :=
  match o with
  | .rds | .rdu | .upg | .rdnc | .amof | .amom => true
  | _ => false

/-- A partial or whole write merged into a line (R172 MISC of WrNC). -/
def wrncMerge (req : CohMsg) (old : Line × Poison) : Line × Poison :=
  let off := bitsOf req.misc 6 6
  let n := 2 ^ bitsOf req.misc 3 3
  if n = 64 then (req.data, req.poison)
  else (lineSet old.1 off n (lineGet req.data off n), poisonAfter old.2 off n ||| req.poison)

/-- The old value and the new line of an atomic message (R172, R186). -/
def amoMerge (req : CohMsg) (old : Line × Poison) : Nat × Line :=
  let off := bitsOf req.misc 6 6
  let n := match bitsOf req.misc 4 2 with
    | 2 => 4
    | 3 => 8
    | _ => 16
  let v := lineGet old.1 off n
  let new := amoResult (amoOfCode (bitsOf req.misc 0 4)) n v (lineGet req.data 0 n) (lineGet req.data 16 n)
  (v, lineSet old.1 off n new)

/-- The poison of an atomic's answer, which carries the old value in bytes 0 to 15 (R172). -/
def amoPoison (req : CohMsg) (p : Poison) : Poison :=
  let n := match bitsOf req.misc 4 2 with
    | 2 => 4
    | 3 => 8
    | _ => 16
  if poisonAt p (bitsOf req.misc 6 6) n then 1#4 else 0#4

/-- A transaction's grant (R180, R185, R186, R262): the answer sent, the entry after, and the transaction closed where no CmpAck follows. -/
def State.grantWith (s : State) (n : Nat) (x : Txn) (d : Line × Poison) : State :=
  let req := x.req
  let l := req.addr
  let t := s.slice n
  let ent := t.dirFind l
  let key := match ent with
    | some (k, _) => some k
    | none => x.way
  let own := fun (s : State) => match key with
    | some k => s.modSlice n (fun t => t.setDir k (ownerEntry s.bind (t.dirQid k) req))
    | none => s
  let sharers := fun (s : State) => match key with
    | some k =>
      let e : DirEnt := (ent.map (·.2)).getD
        { line := l, qid := t.dirQid k, secure := s.bind.lineSecure (64 * l), owner := none, clusters := 0, ports := 0 }
      let base := { e with owner := none }
      let base := match x.ownerForm with
        | some o => if x.keepS then base.addSharer o.1 else base
        | none => base
      s.modSlice n (fun t => t.setDir k (base.addSharer req.src))
    | none => s
  let free := fun (s : State) => match ent with
    | some (k, _) => s.modSlice n (fun t => { t with dir := Tab.del t.dir k })
    | none => s
  let pend := fun (s : State) => s.modSlice n (fun t => t.setTxn { x with granted := true, data := none, grantAt := max (s.time.cycle + 1) (x.arrived + 8) })
  let close := fun (s : State) => s.modSlice n (fun t => t.closeTxn l)
  match req.opc with
  | .rds =>
    if x.shared || (x.ownerForm.isSome && x.keepS) then (pend (sharers s)).sendAnswer req (answerMsg n req .dat 1 stOk (some d))
    else (pend (own s)).sendAnswer req (answerMsg n req .dat 2 stOk (some d))
  | .rdu => (pend (own s)).sendAnswer req (answerMsg n req .dat 3 stOk (some d))
  | .upg =>
    if x.have_ then (pend (own s)).sendAnswer req (answerMsg n req .cmp 3 stOk none)
    else (pend (own s)).sendAnswer req (answerMsg n req .dat 3 stOk (some d))
  | .rdnc =>
    let s := match ent, x.ownerForm with
      | some (k, e), some o => if x.keepS then s.modSlice n (fun t => t.setDir k ({ e with owner := none }.addSharer o.1))
          else s.modSlice n (fun t => { t with dir := Tab.del t.dir k })
      | _, _ => s
    (close s).sendAnswer req (answerMsg n req .dat 0 stOk (some d))
  | .wrnc =>
    let bad := s.retired (64 * l)
    let v := wrncMerge req d
    let s := s.homeWrite n req.qid l false v.1 v.2
    (close (free s)).sendAnswer req (answerMsg n req .cmp 0 (if bad then stDevError else stOk) none)
  | .amof =>
    let v := amoMerge req d
    let s := s.homeWrite n req.qid l (!(s.l3Eligible n req.qid).isEmpty) v.2 d.2
    ((close (free s)).modSlice n (fun t => t.countQ req.qid 6 1)).sendAnswer req
      (answerMsg n req .dat 0 stOk (some (BitVec.ofNat 512 v.1, amoPoison req d.2)))
  | .amom =>
    let bad := s.retired (64 * l)
    let v := amoMerge req d
    let s := if bad then s else (s.modSlice n (fun t => t.dropL3 l)).queueWrite l v.2 d.2
    (close (free s)).sendAnswer req
      (answerMsg n req .dat 0 (if bad then stDevError else stOk) (some (BitVec.ofNat 512 v.1, amoPoison req d.2)))
  | _ => close s

/-- Whether a slice has a register free for a read of memory: 96, of which 8 serve only Class G (R159). -/
def State.readRoom (s : State) (n cls : Nat) : Bool :=
  let mine := s.mem.reads.filter (fun r => r.slice == n)
  let other := mine.countP (fun r => ((s.slice n).txn r.line).any (fun x => x.req.cls != 2))
  decide (mine.length < 96) && (cls == 2 || decide (other < 88))

/-- A recall of a line from its holders ends (R169, R183, R195): its entry is freed, or keeps the port group that a downgrade has left in S (R160, R191); a request that waited for the way may go on. -/
def Slice.endRecall (t : Slice) (l : Nat) (x : Txn) : Slice :=
  let t : Slice := t.closeTxn l
  let t : Slice := match t.dirFind l with
    | some (k, e) =>
      if x.keepS && decide (x.req.opc = Opc.snps) then
        t.setDir k (match e.owner with
          | some o => DirEnt.addSharer { e with owner := none } o.1
          | none => e)
      else { t with dir := Tab.del t.dir k }
    | none => t
  { t with active := t.active.map (fun y => if y.waitEvict == some l then { y with waitEvict := none } else y) }

/-- A transaction whose snoops are all answered goes on: an eviction closes and frees its entry; a request that no eviction holds up is granted, after a memory read where the data is in memory (R180, R183, R431), which waits for a register of the slice (R159). -/
def State.advance (fuel : Nat) (s : State) (n l : Nat) : State :=
  match fuel with
  | 0 => s
  | f + 1 =>
    match (s.slice n).txn l with
    | none => s
    | some x =>
      if x.granted || !x.snoops.isEmpty || x.waitEvict.isSome || x.waitMem then s
      else if x.evict then
        let s := s.modSlice n (fun t => t.endRecall l x)
        match x.ownerForm with
        | some (w, _) => State.advance f s n w
        | none => s
      else
        match s.grantData n x with
        | some d => s.grantWith n x d
        | none =>
          if x.have_ && decide (x.req.opc = .upg) then s.grantWith n x (0, 0)
          else if decide (x.req.opc = .wrnc) && bitsOf x.req.misc 3 3 == 6 then s.grantWith n x (0, 0)
          else if !s.readRoom n x.req.cls then s
          else
            let s := s.modSlice n (fun t => t.setTxn { x with waitMem := true })
            { s with mem := { s.mem with reads := s.mem.reads ++ [{ line := l, slice := n }] } }

/-- Transactions that have waited for a register of their slice go on once one is free (R159). -/
def State.kickReads (s : State) (n : Nat) : State := ((s.slice n).active.map (·.req.addr)).foldl (fun s l => s.advance 3 n l) s

/-- The agents that act for no Quire and have no windows: Clasp, Governor and fabric manager. -/
def quireless (node : Nat) : Bool := node == claspNode || node == govNode || node == fmNode

/-- Whether a line is unmapped for an initiator that is no hart: unpopulated, or outside the windows of its Quire (R27). -/
def State.unmappedFor (s : State) (m : CohMsg) : Bool :=
  !isClusterNode m.src && (!s.populated (64 * m.addr) || (!quireless m.src && (s.bind.window m.qid (64 * m.addr) 64).isNone))

/-- Refusals that come before any snoop (R181, R27): the wrong world tag, or an unmapped address from an initiator that is not a hart. -/
def State.requestRefused (s : State) (m : CohMsg) : Bool :=
  (s.bind.lineSecure (64 * m.addr) != m.secure) || s.unmappedFor m

/-- The unit of a requester, as its type and number (R173, R339): a core, a lane, a port group, a port, or an agent of the package. -/
def nodeCell (node core : Nat) : Nat × Nat :=
  if isClusterNode node then (0x01, hartAt node core)
  else if node = feNode then (0x0B, 0)
  else if node = claspNode then (0x11, 0)
  else if node = govNode then (0x12, 0)
  else if node = fmNode then (0x13, 0)
  else match pcieAt node, slAt node, laneAt node, tsnAt node with
    | some g, _, _, _ => (0x0C, g)
    | none, some p, _, _ => (0x0D, p)
    | none, none, some n, _ => (0x0A, n)
    | none, none, none, some p => (0x0E, p)
    | none, none, none, none => if dieKind (nodeDie node) = some .partner then (0x17, nodeDie node - 28) else (0x05, routerOf node)

/-- The fenced slice at which requests for its addresses wait: one whose directory is being rebuilt, or that has no new home yet (R164). -/
def State.heldAt (s : State) (fuel n : Nat) : Option Nat :=
  match fuel with
  | 0 => none
  | k + 1 =>
    if (s.slice n).rebuilding then some n
    else match (s.slice n).movedTo with
      | some m => s.heldAt k m
      | none => if s.isFenced (UnitId.of 0x03 n) then some n else none

/-- A request reaches its home (R179 to R181): refused with UNSUPPORTED, held at the switches while its slice is fenced (R164), else ordered by its arrival. -/
def homeRequest (s : State) (m : CohMsg) : State :=
  let s := s.takeCoh m
  match sliceAt m.dst with
  | none => { s with net := { s.net with io := s.net.io ++ [m] } }
  | some n0 =>
    let n := s.homeOf (64 * m.addr)
    let dup := fun (t : Slice) => t.waiting.any (fun w => w.msg.src == m.src && w.msg.tag == m.tag)
      || t.active.any (fun x => x.req.src == m.src && x.req.tag == m.tag && isRequest x.req.opc && !x.evict)
    match s.heldAt 48 (s.bind.baseHome (64 * m.addr)) with
    | some k => s.modSlice k (fun t => { t with stalled := t.stalled ++ [m] })
    | none =>
    if dup (s.slice n) || dup (s.slice n0) then
      let u := nodeCell m.src m.core
      s.log (((Syn.cohTagDuplicate.record (sliceNode n) u.1 u.2 m.qid).withAddr (64 * m.addr)).withBlame (m.core * 0x2000 + m.src))
    else if s.requestRefused m then
      let s := if s.unmappedFor m then
          s.log (((Syn.unmappedAddress.record fmNode 0x13 0 m.qid).withAddr (64 * m.addr)).withBlame m.src)
        else s
      s.sendAnswer m (answerMsg n m (if decide (m.opc = .wrnc) then .cmp else .dat) 0 stUnsupported (some (0, 0)))
    else
      s.modSlice n (fun t =>
        let t := t.countQ m.qid 0 1
        let t := if (l3Find t m.addr).isSome then t.countQ m.qid 1 1 else t
        let t := if m.cls = 2 then t.countQ m.qid 7 1 else t
        { t with waiting := t.waiting ++ [{ msg := m, arrived := s.time.cycle }] })

def execRds (m : Met CohMsg) (s : State) : Result := .next (s.arrive { m.it with opc := .rds } m.upset homeRequest)
def execRdu (m : Met CohMsg) (s : State) : Result := .next (s.arrive { m.it with opc := .rdu } m.upset homeRequest)
def execUpg (m : Met CohMsg) (s : State) : Result := .next (s.arrive { m.it with opc := .upg } m.upset homeRequest)
def execAmof (m : Met CohMsg) (s : State) : Result := .next (s.arrive { m.it with opc := .amof, hasData := true } m.upset homeRequest)

/-- Which of two waiting requests for a line comes first (R179): the earlier arrival, then the lower SRC, then the lower CORE. -/
def waitsBefore (a b : Waiting) : Bool :=
  decide (a.arrived < b.arrived) || (a.arrived == b.arrived &&
    (decide (a.msg.src < b.msg.src) || (a.msg.src == b.msg.src && decide (a.msg.core < b.msg.core))))

def firstWaiting (l : Nat) (ws : List Waiting) : Option Waiting :=
  (ws.filter (fun w => w.msg.addr == l)).foldl (fun best w =>
    match best with
    | none => some w
    | some b => if waitsBefore w b then some w else some b) none

/-- The snoops a request needs, by the line's entry (R180). -/
def snoopPlan (req : CohMsg) (ent : Option DirEnt) : Option (Opc × List (Nat × Nat)) :=
  match ent with
  | none => none
  | some e =>
    match e.owner, req.opc with
    | some o, .rds => some (.snps, [o])
    | some o, .rdnc => some (.snps, [o])
    | some o, _ => some (.snpi, [o])
    | none, .rds | none, .rdnc => none
    | none, _ => some (.snpi, e.targets)

/-- Whether a request needs a directory entry that does not exist (R180). -/
def needsEntry (o : Opc) : Bool :=
  match o with
  | .rds | .rdu | .upg => true
  | _ => false

/-- A transaction of a request begun with its snoops, on a directory way that it has or needs none of (R180, R431). -/
def State.begin (s : State) (n : Nat) (w : Waiting) (ent : Option DirEnt) (plan : Option (Opc × List (Nat × Nat))) (way : Option Nat) : State :=
  let l := w.msg.addr
  let r := match plan with
    | some p => s.sendSnoops n l p.1 p.2 w.msg
    | none => ([], s)
  let x := { Txn.of w.msg w.arrived with
    snoops := r.1, shared := (ent.map (fun e => e.owner.isNone)).getD false, ownerForm := ent.bind (·.owner), way := way }
  (r.2.modSlice n (fun t => { t with active := t.active ++ [x] })).advance 3 n l

/-- A directory entry recalled from its holders, for a request's way (R183), a moved way (R169), a bad entry (R195) or a cache-block operation (R160): a transaction of its own on the line. -/
def State.recall (s : State) (n l : Nat) (opc : Opc) (qid : Nat) (secure : Bool) (targets : List (Nat × Nat)) (wants : Option Nat) : State :=
  let req := { cohMsg opc 0 (sliceNode n) 0 0 l with qid := qid, secure := secure }
  let r := s.sendSnoops n l opc targets req
  let x := { Txn.of req s.time.cycle with evict := true, snoops := r.1, ownerForm := wants.map (fun k => (k, 0)) }
  (r.2.modSlice n (fun t => { t with active := t.active ++ [x] })).advance 3 n l

/-- The holders of a block that only a snoop reaches: the port groups that hold it (R160, R190); a clean needs only an owner's data. -/
def State.portHolders (s : State) (l : Nat) (clean : Bool) : List (Nat × Nat) :=
  match (s.slice (s.homeOf (64 * l))).dirFind l with
  | none => []
  | some (_, e) =>
    let port := fun (d : Nat × Nat) => (pcieAt d.1).isSome
    if clean then (e.owner.filter port).toList else if e.targets.any port then e.targets else []

/-- A block recalled from port groups before an operation on it (R160, R191): SnpS brings an owner's data for a clean, SnpBI takes every copy. -/
def State.recallPorts (s : State) (l : Nat) (clean : Bool) (ds : List (Nat × Nat)) : State :=
  let n := s.homeOf (64 * l)
  let t := s.slice n
  match t.dirFind l with
  | none => s
  | some (_, e) =>
    if t.roomFor 1 1 && t.credits ds then s.recall n l (if clean then .snps else .snpbi) e.qid e.secure ds none else s

/-- A request that needs another line's directory way (R183): both transactions begin, and the request goes on when the eviction has closed. -/
def State.beginEvicting (s : State) (n : Nat) (w : Waiting) (k : Nat) (v : DirEnt) : State :=
  let x := { Txn.of w.msg w.arrived with waitEvict := some v.line, way := some k }
  (s.modSlice n (fun t => { (t.countQ w.msg.qid 4 1) with active := t.active ++ [x] })).recall n v.line .snpbi v.qid v.secure v.targets
    (some w.msg.addr)

/-- TRANSACTION_START (R174, R179, R180, R183, R184, R431): the first request waiting for a line starts once no transaction is active on it, the cycle of its arrival has passed, and the slice has room for its transactions and credits for its snoops. -/
def transactionStart (s : State) (n l : Nat) : State :=
  let t := s.slice n
  match firstWaiting l t.waiting with
  | none => s
  | some w =>
    let req := w.msg
    if (t.txn l).isSome || s.halting || s.time.cycle ≤ w.arrived then s
    else
      let found := t.dirFind l
      let ent := found.map (·.2)
      let plan := snoopPlan req ent
      let way := if needsEntry req.opc then (found.map (·.1)).orElse (fun _ => s.freeDir n req.qid l) else none
      let room := way.isSome || !needsEntry req.opc
      let gone := s.modSlice n (fun t => { t with waiting := t.waiting.erase w })
      if req.spec && (plan.isSome || !room) then
        (gone.modSlice n (fun t => t.countQ req.qid 5 1)).sendAnswer req (answerMsg n req .cmp 0 stNospec none)
      else if room then
        if t.roomFor req.cls 1 && t.credits ((plan.map (·.2)).getD []) then gone.begin n w ent plan way else s
      else
        match s.victimDir n req.qid l with
        | none => s
        | some (k, v) => if t.roomFor req.cls 2 && t.credits v.targets then gone.beginEvicting n w k v else s

/-- Every cluster and port group of an entry's Quire, or of every Quire for a line of a shared window (R195); an entry of the common pool names no Quire, so that of the line's window stands for it. -/
def State.holdersOf (s : State) (e : DirEnt) : List (Nat × Nat) :=
  let win := s.bind.anyWindow (64 * e.line)
  let shared := (win.map (fun w => w.has 3)).getD false
  let own := if e.qid = 0 then (win.map (·.qid)).getD 0 else e.qid
  let mine := fun (q : Nat) => shared || q == own
  let clusters := (List.range clusterCount).filter (fun c => (List.range 8).any (fun k => mine (s.hart (8 * c + k)).qid))
  let groups := (List.range 8).filter (fun g => s.bind.functions.any (fun f => f.group == g && mine f.qid))
  clusters.map (fun c => (clusterNode c, 8)) ++ groups.map (fun g => (pcieNode g, 8))

/-- An uncorrectable directory entry (R195): SnpBI to every possible holder, and the entry freed once they have answered; the request waits behind. -/
def State.recoverDir (s : State) (n l : Nat) : State :=
  match (s.slice n).dirFind l with
  | none => s
  | some (_, e) =>
    if (s.slice n).roomFor 1 1 && (s.slice n).credits (s.holdersOf e) then
      (s.log ((Syn.dirUe.record (sliceNode n) 0x03 n e.qid).withAddr (64 * l))).recall n l .snpbi e.qid e.secure (s.holdersOf e) none
    else s

/-- An error in what a home's lookup reads (R162, R165, R195). The second part tells whether the transaction may still start. -/
def State.homeUpset (s : State) (n l : Nat) (u : Upset) : State × Bool :=
  let q := ((firstWaiting l (s.slice n).waiting).map (·.msg.qid)).getD 0
  let rec_ := fun (y : Syndrome) => (y.record (sliceNode n) 0x03 n q).withAddr (64 * l)
  match u with
  | .l3Ce => (s.log (rec_ Syn.l3Ce), true)
  | .dirCe => (s.log (rec_ Syn.dirCe), true)
  | .l3Tag => (s.log (rec_ Syn.l3TagUe), false)
  | .dirUe => if ((s.slice n).txn l).isSome then (s, false) else (s.recoverDir n l, ((s.slice n).dirFind l).isNone)
  | .l3Ue =>
    match l3Find (s.slice n) l with
    | none => (s, true)
    | some (k, o) =>
      if o.dirty then
        ((s.modSlice n (fun t => { t with lines := Tab.set t.lines k { o with poison := 0xF#4 } })).log (rec_ Syn.l3UeDirty), true)
      else ((s.modSlice n (fun t => t.dropL3 l)).log (rec_ Syn.l3UeClean), true)
  | _ => (s, true)

def execTransactionStart (slice line : Nat) (u : Upset) (s : State) : Result :=
  let r := s.homeUpset slice line u
  .next (if r.2 then transactionStart r.1 slice line else r.1)

/-- A snoop's answer taken by the transaction it belongs to (R180, R182); for RdNC, WrNC and AmoM its data allocates nothing (R154). -/
def State.takeResponse (s : State) (n : Nat) (x : Txn) (o : SnoopOut) (kind : Opc) (have_ : Bool) (d : Option (Line × Poison)) : State :=
  let l := x.req.addr
  let x := { x with snoops := x.snoops.filter (fun p => !(p == o)), have_ := x.have_ || have_,
                    keepS := x.keepS || decide (kind = .rspd) || decide (kind = .rsps) }
  let who := if x.evict then (((s.slice n).dirFind l).map (·.2.qid)).getD 0 else x.req.qid
  -- RspD data of an ownership request goes to the requester in the grant (R180); other data is written to L3 or memory first
  let direct := decide (kind = .rspd) && (decide (x.req.opc = .rdu) || decide (x.req.opc = .upg)) && !x.evict
  let alloc := match x.req.opc with
    | .rdnc | .wrnc | .amom => false
    | _ => true
  let s := match d with
    | some v => if direct then s else s.homeWrite n who l alloc v.1 v.2
    | none => s
  let x := match d with
    | some v => if x.evict then x else { x with data := some v }
    | none => x
  (s.modSlice n (fun t => t.setTxn x)).advance 3 n l

/-- A snoop response reaches its home (R180, R182): taken, discarded where a WbD or Evc already served, else unexpected (R196). -/
def responseArrives (s : State) (m : CohMsg) : State :=
  let s := s.takeCoh m
  match sliceAt m.dst with
  | none => s.logUnexpected m
  | some n =>
    let t := s.slice n
    if t.ignore.any (fun p => p == (m.src, m.tag)) then
      s.setSlice n { t with ignore := t.ignore.filter (fun p => p != (m.src, m.tag)) }
    else
      match t.active.find? (fun x => x.req.addr == m.addr && x.snoops.any (fun o => o.node == m.src && o.tag == m.tag)) with
      | none => s.logUnexpected m
      | some x =>
        match x.snoops.find? (fun o => o.node == m.src && o.tag == m.tag) with
        | none => s
        | some o =>
          let s := if decide (m.opc = .rspx) then
              s.modSlice n (fun t => { t with rspx := t.rspx ++ [(m.src, m.core, m.misc)] })
            else s
          s.takeResponse n x o m.opc (m.status % 2 == 1) (if m.hasData then some (m.data, m.poison) else none)

def execRspi (m : Met CohMsg) (s : State) : Result := .next (s.arrive { m.it with opc := .rspi } m.upset responseArrives)
def execRsps (m : Met CohMsg) (s : State) : Result := .next (s.arrive { m.it with opc := .rsps } m.upset responseArrives)
def execRspd (m : Met CohMsg) (s : State) : Result := .next (s.arrive { m.it with opc := .rspd } m.upset responseArrives)
def execRspx (m : Met CohMsg) (s : State) : Result := .next (s.arrive { m.it with opc := .rspx } m.upset responseArrives)

/-- A WbD or Evc reaches its home and is handled at once (R182): matched with a recorded RspX, serving as the holder's snoop response, or updating L3 or memory and the entry; answered with Cmp.
It never overtakes an RspD or RspS that its sender has given for the line before: R182 lets only an RspX or RspI come after it. -/
def leavingArrives (s : State) (m : CohMsg) : State :=
  if s.net.coh.any (fun r => (decide (r.opc = .rspd) || decide (r.opc = .rsps)) && r.src == m.src && r.addr == m.addr) then s
  else
  let s := s.takeCoh m
  match sliceAt m.dst with
  | none => s.logUnexpected m
  | some _ =>
    let n := s.homeOf (64 * m.addr)
    let t := s.slice n
    let l := m.addr
    let data := if m.hasData then some (m.data, m.poison) else none
    let done := fun (s : State) => s.sendAnswer m (answerMsg n m .cmp 0 stOk none)
    if t.rspx.any (fun p => p == (m.src, m.core, m.tag)) then
      done (s.setSlice n { t with rspx := t.rspx.filter (fun p => p != (m.src, m.core, m.tag)) })
    else
      let hit := fun (o : SnoopOut) => o.node == m.src && (o.core == m.core || (o.core == 8 && m.status % 2 == 1))
      match (t.active.find? (fun x => x.req.addr == l)).bind (fun x => (x.snoops.find? hit).map (fun o => (x, o))) with
      | some (x, o) =>
        let s := s.setSlice n { t with ignore := t.ignore ++ [(o.node, o.tag)] }
        done (s.takeResponse n x o .rspx false data)
      | none =>
        let s := match data with
          | some v => s.homeWrite n m.qid l true v.1 v.2
          | none => s
        done (s.modSlice n (fun t =>
          match t.dirFind l with
          | none => t
          | some (k, e) =>
            match e.owner with
            | some o => if o == (m.src, m.core) then { t with dir := Tab.del t.dir k } else t
            | none => if m.status % 2 == 1 then t.setDir k (e.dropSharer m.src) else t))

def execWbd (m : Met CohMsg) (s : State) : Result := .next (s.arrive { m.it with opc := .wbd, hasData := true } m.upset leavingArrives)
def execEvc (m : Met CohMsg) (s : State) : Result := .next (s.arrive { m.it with opc := .evc, hasData := false } m.upset leavingArrives)

/-- CMPACK (R179, R431): the granted transaction of this request closes. -/
def cmpackArrives (s : State) (m : CohMsg) : State :=
  let s := s.takeCoh m
  match sliceAt m.dst with
  | none => s.logUnexpected m
  | some n =>
    let mine := fun (x : Txn) => x.granted && x.req.src == m.src && x.req.core == m.core && x.req.tag == m.tag
    if (s.slice n).active.any mine then s.modSlice n (fun t => { t with active := t.active.filter (fun x => !mine x) })
    else s.logUnexpected m

def execCmpack (m : Met CohMsg) (s : State) : Result := .next (s.arrive { m.it with opc := .cmpack } m.upset cmpackArrives)

/-! ### Grants at the requester (R175, R177, R334) -/

def State.sendAck (s : State) (m : CohMsg) : State :=
  s.sendCoh { cohMsg .cmpack m.src m.dst m.core m.tag m.addr with cls := if m.cls = 0 then 0 else 1, qid := m.qid, secure := m.secure }

/-- The latency of an answer: package time at arrival less ISSUE_LO (R220). -/
def latencyOf (s : State) (m : CohMsg) : Nat := (s.now % 2 ^ 32 + 2 ^ 32 - m.issue.toNat) % 2 ^ 32

/-- A walk whose PTE cannot be read ends with the access fault of its access; one whose fault is not raised just ends. -/
def State.failWalk (s : State) (h : Nat) : State :=
  match (s.hart h).walk with
  | none => s
  | some wk =>
    (s.modHart h (fun x => { x with walk := none })).walkFault h wk
      (Exc.of (if wk.exec then AccKind.fetch else if wk.store then .store else .load).accessFault wk.va)

/-- The access faults that an answer's STATUS gives the accesses waiting on it (R186, R262, R333). -/
def State.failWaiters (s : State) (h : Nat) (ws : List Waiter) : State :=
  match ws.head? with
  | some (.load o _) => s.raiseCode h (if o.fetch then 1 else 5) o.va
  | some (.lr _ va _ _) => s.raiseCode h 5 va
  | some (.lock _ va _) => s.raiseCode h 5 va
  | some (.amo o _) => s.raiseCode h 7 o.va
  | some (.store va _ _ _) => s.raiseCode h 7 va
  | some (.zero va _) => s.raiseCode h 7 va
  | some (.pair va _ _ _) => s.raiseCode h 7 va
  | some (.pte _) => s.failWalk h
  | some (.buffer own va) => s.raiseCode h (if own then 7 else 5) va
  | some (.prefetch _ _) | none => s

/-- The one access of a Dat(I) (R175, R185): the data is used, nothing is allocated. -/
def State.useOnce (s : State) (h : Nat) (m : CohMsg) (ms : Miss) : State :=
  match ms.waiters with
  | [] => s
  | w :: rest =>
    let s := if ms.spec then s else match w with
      | .load o pa =>
        let k := if o.fetch then AccKind.fetch else .load
        let n := 2 ^ o.size
        if poisonAt m.poison pa n then s.consumePoison h pa k o.va
        else if o.fetch then s
        else s.modHart h (fun x => x.setX o.rd (extendTo64 o.size (lineGet m.data (pa % 64) n) o.signed))
      | .amo o pa =>
        let n := 2 ^ o.size
        if m.poison.getLsbD 0 then s.consumePoison h pa .store o.va
        else s.modHart h (fun x => x.setAmo o.rd o.size (lineGet m.data 0 n))
      | .lock rd _ _ => s.modHart h (fun x => (x.setX rd 3).retire .xlz)
      | .buffer _ _ => s.modHart h (fun x => { x with nc64 := some (ms.line, m.data, m.poison) })
      | .store _ _ _ _ | .lr _ _ _ _ | .zero _ _ | .prefetch _ _ | .pte _ | .pair _ _ _ _ => s
    if !ms.st.line then s else s.performAll h ms.line rest

/-- A hold window started (R177): for E or M granted to a request without SPEC; 0 cycles count as the one in which the access is performed. -/
def State.startHold (s : State) (h l : Nat) : State :=
  let x := s.hart h
  let w : Hold := { line := l, fin := s.time.cycle + max (s.bind.hold x.qid) 1 }
  let hs : List Hold := x.holds.filter (fun o => o.line != l) ++ [w]
  let y : Hart := { x with holds := hs }
  s.setHart h (y.count 40 1)

/-- A fenced core's late grant is returned by its cluster (R334). -/
def State.returnGrant (s : State) (m : CohMsg) : State :=
  let s := s.sendAck m
  let wb := decide (m.opc = .dat) && m.state == 3
  let s := s.sendCoh { cohMsg (if wb then .wbd else .evc) m.src m.dst m.core m.tag m.addr with
    qid := m.qid, secure := m.secure, poison := if wb then m.poison else 0, status := 1, hasData := wb, data := if wb then m.data else 0,
    issue := BitVec.ofNat 32 s.now }
  s.log ((Syn.reqLateGrant.record (m.core * 0x2000 + m.dst) 0x19 m.tag m.qid).withAddr (64 * m.addr))

/-- The line of a grant as its requester fills it (R98, R175): into the caches of what missed; a page walker's into the L2 alone (R126). -/
def State.filled (s : State) (h : Nat) (m : CohMsg) (ms : Miss) : Hart :=
  let st := if m.state = 1 then Mesi.s else if m.state = 2 then .e else .m
  let idx := ms.waiters.findSome? Waiter.index
  let walker := !ms.waiters.isEmpty && idx.isNone
  let into := if walker then FillTo.l2 else if ms.fetch then .l1i else .l1d
  let c : CLine := { line := m.addr, st := st, data := m.data, poison := m.poison, unconf := ms.spec, locked := false }
  (((s.hart h).dropMiss m.tag).dropCopies m.addr).fillFromHome s.bind (hartCore h) s.time.now (idx.getD (64 * m.addr)) into c

/-- Whether a grant's fill waits: its victim needs a write-back buffer, and all eight are in use (R175). -/
def State.fillWaits (s : State) (m : CohMsg) : Bool :=
  let h := hartAt m.dst m.core
  let x := s.hart h
  match x.misses.find? (fun k => k.tag == m.tag) with
  | some ms => isClusterNode m.dst && m.state != 0 && !ms.dropped
      && decide (8 < (s.filled h m ms).wbs.length) && decide (x.wbs.length < (s.filled h m ms).wbs.length)
  | none => false

/-- DAT (R99, R175, R176, R177, R334): the requester fills, sends CmpAck, performs what waits and starts any hold window. A line asked for before a flush point is acknowledged and not kept. -/
def datTaken (s : State) (m : CohMsg) : State :=
  let s := s.noteAt m.dst m.core m.cls 64 (some (latencyOf s m))
  if !isClusterNode m.dst then { s with net := { s.net with io := s.net.io ++ [m] } }
  else
    let h := hartAt m.dst m.core
    let x := s.hart h
    match x.misses.find? (fun k => k.tag == m.tag) with
    | none => if decide (x.run = .fenced) && m.state != 0 then s.returnGrant m else s.logUnexpected m
    | some ms =>
      if m.status = stUnsupported ∨ m.status = stDevError ∨ m.status = stTimeout then
        (s.modHart h (fun x => x.dropMiss m.tag)).failWaiters h ms.waiters
      else if m.state = 0 then
        let s := s.modHart h (fun x => x.dropMiss m.tag)
        if ms.expired then s else s.useOnce h m ms
      else if ms.dropped then (s.modHart h (fun x => x.dropMiss m.tag)).sendAck m
      else
        let s := s.putHart h (s.filled h m ms)
        let s := s.sendAck m
        let s := if ms.expired then s.log ((Syn.reqLateGrant.record (hartOrigin h) 0x19 m.tag x.qid).withAddr (64 * m.addr)) else s
        let s := if decide (m.state ≠ 1) && !ms.spec then s.startHold h m.addr else s
        let s := if ms.expired || ms.spec then s else s.performAll h m.addr ms.waiters
        s.releaseSnoops h

/-- A Dat that reaches its requester, once a buffer that its victim needs is free. -/
def datArrives (s : State) (m : CohMsg) : State := if s.fillWaits m then s else datTaken (s.takeCoh m) m

def execDat (m : CohMsg) (u : Upset) (s : State) : Result := .next (s.arrive { m with opc := .dat, hasData := true } u datArrives)

/-- CMP (R175, R184): completes an Upg with M, frees a write-back buffer, completes a write, or ends a speculative request that was not served. -/
def cmpArrives (s : State) (m : CohMsg) : State :=
  let s := s.takeCoh m
  let s := s.noteAt m.dst m.core m.cls 0 (some (latencyOf s m))
  if !isClusterNode m.dst then { s with net := { s.net with io := s.net.io ++ [m] } }
  else
    let h := hartAt m.dst m.core
    let x := s.hart h
    if x.wbs.any (fun w => w.tag == m.tag) then
      s.putHart h { x with wbs := x.wbs.filter (fun w => w.tag != m.tag) }
    else if x.oldTags.contains m.tag then s.setHart h { x with oldTags := x.oldTags.erase m.tag }
    else
      match x.misses.find? (fun k => k.tag == m.tag) with
      | none => if decide (x.run = .fenced) && m.state == 3 then s.returnGrant m else s.logUnexpected m
      | some ms =>
        let s := s.modHart h (fun x => x.dropMiss m.tag)
        if m.status = stNospec then s.modHart h (fun x => x.count 35 1)
        else if m.status ≠ stOk then s.failWaiters h ms.waiters
        else if m.state = 3 then
          let own := fun (c : CLine) => { c with st := .m }
          let idx := (ms.waiters.findSome? Waiter.index).getD (64 * m.addr)
          let s := s.putHart h ((s.hart h).recall s.bind (hartCore h) s.time.now idx m.addr false)
          let s := s.modHart h (fun x => { x with l1d := mapLine x.l1d m.addr own, vc := mapLine x.vc m.addr own, l2 := mapLine x.l2 m.addr own })
          let s := s.sendAck m
          let s := if ms.expired then s.log ((Syn.reqLateGrant.record (hartOrigin h) 0x19 m.tag x.qid).withAddr (64 * m.addr)) else s
          let s := s.startHold h m.addr
          (if ms.expired then s else s.performAll h m.addr ms.waiters).releaseSnoops h
        else s

def execCmp (m : Met CohMsg) (s : State) : Result := .next (s.arrive { m.it with opc := .cmp } m.upset cmpArrives)

/-! ### Timeouts (R196, R333, R335) -/

/-- The lines that a lost holder owned read as poisoned, and it tracks no line any more (R191, R346). -/
def State.dropOwner (s : State) (n : Nat) (node : Nat) (core : Option Nat) : State :=
  let mine := fun (o : Nat × Nat) => o.1 == node && ((core.map (fun c => o.2 == c)).getD true)
  let t := s.slice n
  let owned := (t.dir.filter (fun e => (e.2.owner.map mine).getD false)).map (·.2)
  let s := owned.foldl (fun s e =>
      let v := match l3Find (s.slice n) e.line with
        | some (_, x) => (x.data, x.poison)
        | none => s.memValue e.line
      s.homeWrite n e.qid e.line false v.1 0xF#4) s
  s.modSlice n (fun t => { t with dir := t.dir.filter (fun e => !(e.2.owner.map mine).getD false) })

/-- The snoops that a lost holder has not answered count as RspI (R191, R196). -/
def State.dropSnoops (s : State) (n node : Nat) (core : Option Nat) : State :=
  let mine := fun (o : SnoopOut) => o.node == node && ((core.map (fun c => o.core == c)).getD true)
  let todo := ((s.slice n).active.map (fun x => (x.snoops.filter mine).map (fun o => (x.req.addr, o)))).flatten
  todo.foldl (fun s p =>
    match (s.slice n).txn p.1 with
    | none => s
    | some x =>
      if x.snoops.contains p.2 then
        (s.modSlice n (fun t => { t with ignore := t.ignore ++ [(p.2.node, p.2.tag)] })).takeResponse n x p.2 .rspi false none
      else s) s

/-- A holder that is gone: its owned lines poisoned, its unanswered snoops taken as RspI, its sharer bits dropped. -/
def State.loseHolder (s : State) (node : Nat) (core : Option Nat) : State :=
  (List.range sliceCount).foldl (fun s n =>
    let s := s.dropOwner n node core
    let s := s.dropSnoops n node core
    if core.isSome then s
    else s.modSlice n (fun t => { t with dir := (t.dir.map (fun e => (e.1, e.2.dropSharer node))).filter (fun e => e.2.tracks) })) s

/-- SNOOP_TIMEOUT (R191, R196): a holder silent for 8,192 NoC cycles, the wait for its hold window not counted, is fenced; the home goes on as if it had answered RspI, and poisons the line if that holder was its owner, or every line that a port group owned. -/
def snoopTimeout (s : State) (n l node core : Nat) : State :=
  match (s.slice n).txn l with
  | none => s
  | some x =>
    match x.snoops.find? (fun o => o.node == node && (o.core == core || o.core == 8)) with
    | none => s
    | some o =>
      if s.time.cycle < o.issued + 8192 + o.held then s
      else
        let u := nodeCell node core
        let s := s.log (((Syn.snoopTimeout.record (sliceNode n) u.1 u.2 x.req.qid).withAddr (64 * l)).withBlame (core * 0x2000 + node))
        if !isClusterNode node then s.loseHolder node none
        else
          let s := if o.core != 8 then
              let v := match l3Find (s.slice n) l with
                | some (_, e) => (e.data, e.poison)
                | none => s.memValue l
              s.homeWrite n x.req.qid l false v.1 0xF#4
            else s
          s.takeResponse n x o .rspi false none

def execSnoopTimeout (slice line node core : Nat) (s : State) : Result := .next (snoopTimeout s slice line node core)

/-- ACK_TIMEOUT (R335): no CmpAck within the timeout of the request's class; the home closes the transaction as if it had arrived. -/
def ackTimeout (s : State) (n l : Nat) : State :=
  match (s.slice n).txn l with
  | none => s
  | some x =>
    if x.granted ∧ x.grantAt + 2 * s.bind.timeoutNs x.req.cls ≤ s.time.cycle then
      (s.modSlice n (fun t => t.closeTxn l)).log
        (((Syn.ackTimeout.record (sliceNode n) 0x19 x.req.tag x.req.qid).withAddr (64 * l)).withBlame (x.req.core * 0x2000 + x.req.src))
    else s

def execAckTimeout (slice line : Nat) (s : State) : Result := .next (ackTimeout s slice line)

end Sys2Proof.Machine
end

