-- ==== Sys2Proof/Machine/Walk.lean ====
section
/-! DEFINITION. Misses of a hart (R159, R175), the page walk through its caches (R121, R126 to R129, R134, R135), and the locked TLB entries (R132, R133). -/

namespace Sys2Proof.Machine

/-! ### Misses (R159, R175) -/

/-- The miss registers in use for lines. -/
def Hart.lineMisses (x : Hart) : List Miss := x.misses.filter (fun m => m.st.line && !m.expired)

/-- Whether a primary miss finds a free register (R159): 8 of the L1I, 32 of the L1D, 64 of the L2. -/
def Hart.missRoom (x : Hart) (fetch : Bool) : Bool :=
  let live := x.lineMisses
  decide (live.length < 64) && decide ((live.filter (fun m => m.fetch == fetch)).length < (if fetch then 8 else 32))

/-- Whether a miss on a line waits with nothing sent: for a line that is leaving, a request without allocation on it (R187), a speculative request or the other L1's, a full register of the line, a free one (R159), or a stream that is held (R219). -/
def State.missWaits (s : State) (h l : Nat) (opc : Opc) (spec fetch : Bool) : Bool :=
  let x := s.hart h
  x.wbs.any (fun b => b.line == l) || x.ncBusy l ||
    match x.missOf l with
    | some m => spec || m.spec || m.fetch != fetch || (!fetch && decide (9 ≤ m.waiters.length))
    | none => !x.missRoom fetch || s.streamHeld h opc (s.homeNode l) spec

/-- A miss on a line (R159, R175): a request of its own; or the access joins the line's register, where at most eight secondary misses may. -/
def State.missFor (s : State) (h l : Nat) (opc : Opc) (st : MissSt) (spec fetch : Bool) (w : Waiter) : State :=
  if s.missWaits h l opc spec fetch then s
  else if ((s.hart h).missOf l).isSome then s.modHart h (fun x => x.join l w)
  else s.request h opc st (s.homeNode l) l 0 spec fetch 0 [w]

/-- A line that the walker needs and nothing asks for yet: a read, or ownership for a PTE that it writes (R121, R126). A walk that waits for a register asks no second time. -/
def State.walkMiss (s : State) (h l : Nat) (own spec : Bool) : State :=
  if ((s.hart h).missOf l).isSome then s
  else if own then
    if (s.hart h).lineSt l = .s then s.missFor h l .upg .smA false false (.pte true) else s.missFor h l .rdu .imD false false (.pte true)
  else s.missFor h l .rds .isD spec false (.pte false)

/-! ### Page walks -/

/-- Bits set in 8 bytes at an address in every copy of a line that a core owns: the atomic update of a PTE (R121). -/
def Hart.orHeld (x : Hart) (a mask : Nat) : Hart :=
  let l := a / 64
  let f := fun (c : CLine) => { c with st := .m, unconf := false, data := lineSet c.data (a % 64) 8 (lineGet c.data (a % 64) 8 ||| mask) }
  { x with l1d := mapLine x.l1d l f, vc := mapLine x.vc l f, l2 := mapLine x.l2 l f, l1i := dropLine x.l1i l }

/-- The line of the first PTE to be written that the hart does not own yet. -/
def Hart.notOwned (x : Hart) (reads : List (Nat × Nat)) : Option Nat :=
  (reads.find? (fun r => r.2 != 0 && x.lineSt (r.1 / 64) != .m && x.lineSt (r.1 / 64) != .e)).map (fun r => r.1 / 64)

/-- What a retiring walk leaves in the caches: the lines it read are confirmed (R99), and the PTEs it updates are written (R121). -/
def Hart.afterWalk (x : Hart) (reads : List (Nat × Nat)) : Hart :=
  reads.foldl (fun x r => if r.2 = 0 then x.confirm (r.1 / 64) else x.orHeld r.1 r.2) x

/-- Whether two entries translate alike (R134): page, place, attributes and the rights of both stages. -/
def TlbEnt.same (a b : TlbEnt) : Bool :=
  a.base == b.base && a.bits == b.bits && a.pa == b.pa && a.pbmt == b.pbmt && a.global == b.global && a.r == b.r && a.w == b.w && a.x == b.x
    && a.u == b.u && a.gr == b.gr && a.gw == b.gw && a.gx == b.gx && a.gpa == b.gpa

/-- A walk's result filled: a store to a locked entry with D = 0 sets D there too if the translation is unchanged, and otherwise fills the L2 TLB and raises exception 26 (R134); with TLB_NOSPEC a speculative access fills nothing (R129). -/
def State.walkFill (s : State) (h : Nat) (wk : Walk) (k : AccKind) (v : Bool) (e : TlbEnt) : State :=
  let x := s.hart h
  if wk.spec && x.lzspec.getLsbD 3 then s
  else match x.lockedHit v k wk.va.toNat with
    | some (i, o) =>
      if o.same e then s.modHart h (fun x => { x with locked := Tab.set x.locked i { o with d := e.d, gd := e.gd } })
      else (s.modHart h (fun x => x.fillL2Tlb e)).walkFault h wk (conflictExc wk.va [o, e])
    | none => s.modHart h (fun x => x.fillTlbs k e)

/-- PAGE_WALK (R121, R126 to R129, R134, R135): the walk asks for a line that the hart's caches lack and goes on when it is there; it fills the TLBs, or its fault is raised if the access is retiring. A speculative walk writes no PTE. -/
def pageWalk (s : State) (h : Nat) : State :=
  let x := s.hart h
  match x.walk with
  | none => s
  | some wk =>
    let k := if wk.exec then AccKind.fetch else if wk.store then .store else .load
    let md := x.effMode k
    let quiet := wk.spec || wk.hint
    let ended := s.modHart h (fun x => { x with walk := none })
    match s.walkFull h wk.va k md.2 md.1 wk.spec true with
    | .wait => ended
    | .need l => s.walkMiss h l false wk.spec
    | .exc e => ended.walkFault h wk e
    | .poison e a => if quiet then ended else (ended.logPtePoison h a).walkFault h wk e
    | .world e a => if quiet then ended else (ended.logWorldDenied h a).walkFault h wk e
    | .entry e reads =>
      if wk.spec then ended.walkFill h wk k md.2 e
      else match x.notOwned reads with
        | some l => s.walkMiss h l true false
        | none => (ended.modHart h (fun x => x.afterWalk reads)).walkFill h wk k md.2 e

def execPageWalk (h : Nat) (s : State) : Result := .next (if s.hartLive h then pageWalk s h else s)

/-! ### Locked entries (R132, R133) -/

/-- lztlblock with STATUS set (R132). -/
def lockWord (v : Word) (status : Nat) : Word := (v &&& ~~~(word 0x3F)) ||| word status

def Hart.setLockStatus (x : Hart) (v : Word) (status : Nat) : Hart :=
  { x with lztlblock := (lockWord v status) ||| (v &&& word 0x40) }

/-- What LOCK comes to (R132): a status that needs no walk, or the walk of a retiring load. -/
def State.lockWalk (s : State) (h : Nat) (v : Word) : Sum Nat Xlat :=
  let x := s.hart h
  let virt := flagOf v 6
  let va := v &&& ~~~(word 0xFFF)
  let first := x.levelsOf (if virt then 0x280 else 0x180)
  if first ≠ 0 ∧ canonical first va.toNat = false then .inl 4
  else if first = 0 ∨ (virt = true ∧ x.levelsOf 0x680 = 0) then .inl 5
  else .inr (s.walkFull h va .load virt .s false false)

/-- The state in which a LOCK waits for a PTE's line or its ownership; none where it can be performed (R121, R126). -/
def State.lockWaits (s : State) (h : Nat) (v : Word) : Option State :=
  match s.lockWalk h v with
  | .inr (.need l) => some (s.walkMiss h l false false)
  | .inr (.entry _ reads) => ((s.hart h).notOwned reads).map (fun l => s.walkMiss h l true false)
  | _ => none

/-- LOCK (R132). -/
def tlbLock (s : State) (h : Nat) (v : Word) : State :=
  let i := fieldOf v 7 5
  let done := fun (s : State) (n : Nat) => s.modHart h (fun x => x.setLockStatus v n)
  let fault := fun (s : State) (e : Exc) => (done s 2).modHart h (fun x => { x with lzwalkM := e.detail.value })
  match s.lockWalk h v with
  | .inl n => done s n
  | .inr (.entry e reads) =>
    let s := s.modHart h (fun x => x.afterWalk reads)
    let clash := (s.hart h).locked.any (fun o => o.1 != i && decide (o.2.base < e.base + 2 ^ e.bits) && decide (e.base < o.2.base + 2 ^ o.2.bits))
    if clash then done s 3
    else (done s 0).modHart h (fun x => { x with locked := Tab.set x.locked i { e with unconf := false } })
  | .inr (.exc e) => fault s e
  | .inr (.poison e a) => fault (s.logPtePoison h a) e
  | .inr (.world e a) => fault (s.logWorldDenied h a) e
  | .inr (.need _) | .inr .wait => s

/-- UNLOCK and QUERY (R133). -/
def tlbUnlock (s : State) (h : Nat) (v : Word) : State :=
  s.modHart h (fun x =>
    let i := fieldOf v 7 5
    ({ x with locked := Tab.del x.locked i }).setLockStatus v (if (Tab.find x.locked i).isSome then 0 else 1))

def tlbQuery (s : State) (h : Nat) (v : Word) : State :=
  s.modHart h (fun x => x.setLockStatus v (if (Tab.find x.locked (fieldOf v 7 5)).isSome then 0 else 1))

/-- The bits of a CSR instruction on a CSR; rs1, the function and rd, which a command of its own does not carry, are bits 19:7. -/
def csrBits (n : Nat) : Nat := n * 2 ^ 20 + 0x73

/-- The fields of an instruction that a command does not carry: bits 19:7. -/
def csrFree : Nat := 0xFFF80

/-- lztlblock is an M-mode CSR (R85): from another mode the write is an illegal instruction. -/
def lockCsr (s : State) (h : Nat) (f : State → State) : State :=
  s.instr h (fun s => if (s.hart h).mode = .m then (f s).modHart h (fun x => x.retire .csr) else s.raiseIllegal h 2 (csrBits 0x7C8) csrFree)

/-- A reserved bit written to a custom CSR (R12, R353): RESERVED_WRITE, formed in the core's cell collector. -/
def State.logCsrReserved (s : State) (h num : Nat) (v : Word) : State :=
  s.log (((Syn.reservedWrite.record (hartOrigin h) 0x01 h (s.hart h).qid).withInfo 0 8 v.toNat).withInfo 8 2 num)

def lockReserved (s : State) (h : Nat) (v : Word) : State := if flagOf v 5 then s.logCsrReserved h 0x7C8 v else s

/-- TLB_LOCK (R132): in M-mode it waits for its walk's lines, and then retires with its status. -/
def execTlbLock (h : Nat) (v : Word) (s : State) : Result :=
  .next (match (if (s.hart h).mode = .m ∧ s.hartLive h = true ∧ s.due h = none then s.lockWaits h v else none) with
    | some t => t
    | none => lockCsr s h (fun s => tlbLock (lockReserved s h v) h v))
def execTlbUnlock (h : Nat) (v : Word) (s : State) : Result := .next (lockCsr s h (fun s => tlbUnlock (lockReserved s h v) h v))
def execTlbQuery (h : Nat) (v : Word) (s : State) : Result := .next (lockCsr s h (fun s => tlbQuery (lockReserved s h v) h v))

end Sys2Proof.Machine
end

