-- ==== Sys2Proof/Machine/Aia.lean ====
section
/-! DEFINITION. The interrupt priorities of the Advanced Interrupt Architecture (R83): the iprio arrays, and the top interrupts of the machine, supervisor and VS levels. The layout is that of the architecture that R83 names (log 11). -/

namespace Sys2Proof.Machine

/-- The local interrupts in their default order, highest first. -/
def defaultOrder : List Nat := [11, 3, 7, 9, 1, 5, 12, 10, 2, 6, 13]

/-- Where an interrupt stands in the default order. -/
def defaultRank (i : Nat) : Nat := (defaultOrder.idxOf? i).getD 64

/-- The priority byte of interrupt i in an iprio array that starts at a key of the CSR table: eight bytes to an even register. -/
def Hart.iprio (x : Hart) (base i : Nat) : Nat := fieldOf (x.getCsr (base + i / 8 * 2)) (8 * (i % 8)) 8

/-- The keys of the machine and the supervisor iprio arrays, by their indirect selects 0x30 to 0x3F. -/
def iprioM : Nat := 0x11000
def iprioS : Nat := 0x11100

/-- The priority number of an interrupt: its byte where that is set, the identity for the external one, else 0 above the external one in the default order and 256 below it. -/
def prioOf (byte ext i id : Nat) : Nat :=
  if i = ext then (if id = 0 then 256 else min id 255)
  else if byte ≠ 0 then byte
  else if defaultRank i < defaultRank ext then 0 else 256

/-- The interrupt of a list with the lowest priority number, the default order on a tie, with that number. -/
def topOf (prio : Nat → Nat) (is : List Nat) : Option (Nat × Nat) :=
  is.foldl (fun best i =>
    match best with
    | none => some (i, prio i)
    | some b => if prio i < b.2 ∨ (prio i = b.2 ∧ defaultRank i < defaultRank b.1) then some (i, prio i) else some b) none

/-- A top register: the identity in bits 27:16 and the priority in bits 7:0, held to 1..255 but for 0 above the external interrupt. -/
def topWord (t : Option (Nat × Nat)) : Word :=
  match t with
  | none => 0
  | some (i, p) => word (i * 2 ^ 16 + min p 255)

def bitsIn (m : Nat) : List Nat := (List.range 64).filter (fun i => bitOf m i)

/-- The interrupts that mvien makes virtual for the supervisor level: those not delegated whose bit is set there. -/
def Hart.mvirtual (x : Hart) : Nat := (x.getCsr 0x308).toNat &&& (2 ^ 1 + 2 ^ 9 + 2 ^ 13) &&& ((2 ^ 64 - 1) - (x.getCsr 0x303).toNat)

/-- sip: the delegated bits of mip, and the bits of mvip that mvien makes virtual. -/
def State.sip (s : State) (h : Nat) : Nat :=
  let x := s.hart h
  (s.mip h &&& (x.getCsr 0x303).toNat) ||| ((x.getCsr 0x309).toNat &&& x.mvirtual)

/-- sie: the delegated bits of mie, and the supervisor's own enables of virtual interrupts, which stand beside it. -/
def Hart.sie (x : Hart) : Nat := ((x.getCsr 0x304).toNat &&& (x.getCsr 0x303).toNat) ||| ((x.getCsr 0x12000).toNat &&& x.mvirtual)

/-- Where an interrupt that is due is taken: that of `interruptDue`, else the supervisor level for one that mvien makes virtual there, pending in sip and enabled in sie (log 11). -/
def State.interruptTo (s : State) (h code : Nat) : Option (Mode × Bool) :=
  let x := s.hart h
  if s.interruptDue h code then some (x.trapTarget true code false)
  else if bitOf (s.sip h &&& x.sie &&& x.mvirtual) code && decide (x.mode ≠ .m) && (x.virt || decide (x.mode = .u) || flagOf (x.getCsr 0x300) 1)
  then some (.s, false) else none

/-- vsip and vsie at the positions of mip: the delegated VS-level interrupts, one place up, and those that hvien makes virtual. -/
def State.vsPending (s : State) (h : Nat) : Nat :=
  let x := s.hart h
  (s.mip h &&& (x.getCsr 0x603).toNat &&& 0x444) ||| ((x.getCsr 0x645).toNat &&& (x.getCsr 0x608).toNat &&& 2 ^ 13)

def Hart.vsEnabled (x : Hart) : Nat :=
  ((x.getCsr 0x304).toNat &&& (x.getCsr 0x603).toNat &&& 0x444) ||| ((x.getCsr 0x12001).toNat &&& (x.getCsr 0x608).toNat &&& 2 ^ 13)

/-- mtopi: the top of the interrupts that are pending, enabled and not delegated. -/
def State.mtopi (s : State) (h : Nat) : Word :=
  let x := s.hart h
  let id := (x.topEi 0 (fun _ => true)).getD 0
  topWord (topOf (fun i => prioOf (x.iprio iprioM i) 11 i id)
    (bitsIn (s.mip h &&& (x.getCsr 0x304).toNat &&& ((2 ^ 64 - 1) - (x.getCsr 0x303).toNat))))

/-- stopi: the top of those of the supervisor level that are not delegated on. -/
def State.stopi (s : State) (h : Nat) : Word :=
  let x := s.hart h
  let id := (x.topEi 1 (s.seesId h 1)).getD 0
  topWord (topOf (fun i => prioOf (x.iprio iprioS i) 9 i id)
    (bitsIn (s.sip h &&& x.sie &&& ((2 ^ 64 - 1) - (x.getCsr 0x603).toNat))))

/-- The priority byte that hviprio1 and 2 give a VS-level interrupt. -/
def Hart.hviprio (x : Hart) (i : Nat) : Nat :=
  match i with
  | 1 => fieldOf (x.getCsr 0x646) 8 8
  | 5 => fieldOf (x.getCsr 0x646) 24 8
  | 13 => fieldOf (x.getCsr 0x646) 40 8
  | _ => 0

/-- vstopi: the injection of hvictl where VTI is 1, else the top of the VS-level interrupts, at the numbers that VS-mode sees. -/
def State.vstopi (s : State) (h : Nat) : Word :=
  let x := s.hart h
  let v := x.getCsr 0x609
  let vgein := fieldOf (x.getCsr 0x600) 12 6
  let id := if 1 ≤ vgein ∧ vgein ≤ 7 then (x.topEi (1 + vgein) (s.seesId h (1 + vgein))).getD 0 else 0
  let on := s.vsPending h &&& x.vsEnabled
  if flagOf v 30 then
    let ext := if bitOf on 10 ∧ id ≠ 0 then [(9, min id 255)] else []
    let inj := if fieldOf v 16 12 = 9 then [] else [(fieldOf v 16 12, (if flagOf v 9 then 256 else 0) + fieldOf v 0 8)]
    let all := (ext ++ inj).filter (fun p => p.1 != 0)
    topWord (all.foldl (fun best p => match best with
      | none => some p
      | some b => if p.2 < b.2 then some p else some b) none)
  else
    let seen := ((bitsIn on).map (fun i => if i = 13 then 13 else i - 1))
    topWord (topOf (fun i => prioOf (x.hviprio i) 9 i id) seen)

end Sys2Proof.Machine
end

