-- ==== Sys2Proof/Machine/Csr.lean ====
section
/-! DEFINITION. The control and status registers of a hart: who may access them, what they read, and what a write does (R82, R85, R89, R90, R96, R103, R110, R118, R137, R160, R362, R407). The layout of the standard ones is the RISC-V privileged specifications' (log 11). -/

namespace Sys2Proof.Machine

/-! ### Which exist and who may access them (R85) -/

/-- The custom CSRs (R85). -/
def customCsrs : List Nat :=
  [0x7C0, 0x7C1, 0x7C2, 0x7C3, 0x7C8, 0x5C0, 0x8C0, 0x8C1, 0x8C2, 0x8C3, 0x8C4, 0x8C5, 0x8C6, 0x8C7, 0x8C8, 0xCC0, 0xCC1]

/-- The ranges in which every other address is illegal (R85). -/
def inCustomRange (n : Nat) : Bool :=
  (0x7C0 ≤ n && n ≤ 0x7FF) || (0x5C0 ≤ n && n ≤ 0x5FF) || (0x8C0 ≤ n && n ≤ 0x8FF) || (0xCC0 ≤ n && n ≤ 0xCFF)

/-- The standard CSRs of the profiles and extensions that R82 and R83 name (log 11). -/
def standardCsrs : List Nat :=
  [0x001, 0x002, 0x003, 0x008, 0x009, 0x00A, 0x00F, 0xC20, 0xC21, 0xC22] ++ (List.range 32).map (0xC00 + ·)
    ++ [0x100, 0x104, 0x105, 0x106, 0x10A, 0x10C, 0x10D, 0x10E, 0x10F, 0x140, 0x141, 0x142, 0x143, 0x144, 0x14D, 0x150, 0x151, 0x15C, 0x180, 0xDA0, 0xDB0, 0x5A8]
    ++ [0x200, 0x204, 0x205, 0x240, 0x241, 0x242, 0x243, 0x244, 0x24D, 0x250, 0x251, 0x25C, 0x280, 0xEB0]
    ++ [0x600, 0x602, 0x603, 0x604, 0x605, 0x606, 0x607, 0x608, 0x609, 0x60A, 0x60C, 0x60D, 0x60E, 0x60F, 0x643, 0x644, 0x645, 0x646, 0x647, 0x64A, 0x680, 0xE12, 0x6A8]
    ++ [0x300, 0x301, 0x302, 0x303, 0x304, 0x305, 0x306, 0x308, 0x309, 0x30A, 0x30C, 0x30D, 0x30E, 0x30F, 0x320, 0x340, 0x341, 0x342, 0x343, 0x344,
        0x34A, 0x34B, 0x350, 0x351, 0x35C, 0xFB0, 0x740, 0x741, 0x742, 0x744, 0x7A0, 0x7A1, 0x7A2, 0x7A4, 0x7A8]
    ++ (List.range 29).map (0x323 + ·) ++ [0xB00, 0xB02] ++ (List.range 29).map (0xB03 + ·)
    ++ [0xF11, 0xF12, 0xF13, 0xF14, 0xF15]

def csrExists (n : Nat) : Bool := customCsrs.contains n || (!inCustomRange n && standardCsrs.contains n)

/-- Read-only: by the address, and lzquire by R85. -/
def csrReadOnly (n : Nat) : Bool := n / 0x400 == 3 || n == 0x7C1

/-- Whether FS, or VS, of mstatus, and with V = 1 of vsstatus, is Off (log 11). -/
def Hart.unitOff (x : Hart) (at_ : Nat) : Bool :=
  fieldOf (x.getCsr 0x300) at_ 2 == 0 || (x.virt && fieldOf (x.getCsr 0x200) at_ 2 == 0)

/-- The state of a unit marked Dirty, with SD, in mstatus and with V = 1 in vsstatus (log 11). -/
def Hart.unitDirty (x : Hart) (at_ : Nat) : Hart :=
  let set := fun (x : Hart) (n : Nat) => x.setCsr n (x.getCsr n ||| word (3 * 2 ^ at_ + 2 ^ 63))
  if x.virt then set (set x 0x300) 0x200 else set x 0x300

/-- The floating-point and the vector CSRs. -/
def fpCsr (n : Nat) : Bool := 1 ≤ n && n ≤ 3
def vecCsr (n : Nat) : Bool := (8 ≤ n && n ≤ 0xF) || (0xC20 ≤ n && n ≤ 0xC22)

/-- What a register that only its holder's lower modes are barred from answers: none, 2 where M-mode bars it, 22 where HS-mode bars VS-mode. -/
def barred (byM byHs : Bool) : Option Nat := if byM then some 2 else if byHs then some 22 else none

/-- The counter enables (log 11): mcounteren for every mode but M, hcounteren for V = 1, scounteren for U. -/
def Hart.counterFault (x : Hart) (i : Nat) : Option Nat :=
  let off := fun (n : Nat) => !flagOf (x.getCsr n) i
  if x.mode = .m then none
  else if off 0x306 then some 2
  else if x.virt && (off 0x606 || (decide (x.mode = .u) && off 0x106)) then some 22
  else if decide (x.mode = .u) && off 0x106 then some 2
  else none

/-- Sstc (log 11): stimecmp and vstimecmp need the counter enable TM and STCE of the levels above. -/
def Hart.sstcFault (x : Hart) (n : Nat) : Option Nat :=
  let ok := fun (c e : Nat) => flagOf (x.getCsr c) 1 && flagOf (x.getCsr e) 63
  if x.mode = .m then none
  else barred (!ok 0x306 0x30A) (n = 0x14D && x.virt && !ok 0x606 0x60A)

/-- The bit of a state-enable register that holds a CSR (Ssstateen; log 11), none for a CSR that no bit holds. -/
def stateBit (n : Nat) : Option Nat :=
  if [0x10C, 0x60C].contains n then some 63
  else if [0x10A, 0x60A].contains n then some 62
  else if [0x150, 0x151, 0x250, 0x251].contains n then some 60
  else if [0xDB0, 0xEB0, 0x608, 0x609, 0x646, 0x647].contains n then some 59
  else if [0x15C, 0x25C].contains n then some 58
  else if [0x5A8, 0x6A8].contains n then some 57
  else none

/-- The state enables (Ssstateen; log 11): mstateen for every mode but M, hstateen for V = 1. Registers 1 to 3 hold only the state-enable CSRs of their number. -/
def Hart.stateFault (x : Hart) (n : Nat) : Option Nat :=
  let held := fun (k b : Nat) => barred (!flagOf (x.getCsr (0x30C + k)) b) (x.virt && !flagOf (x.getCsr (0x60C + k)) b)
  if x.mode = .m then none
  else match stateBit n with
    | some b => held 0 b
    | none => if (0x10D ≤ n ∧ n ≤ 0x10F) ∨ (0x60D ≤ n ∧ n ≤ 0x60F) then held (n % 4) 63 else none

/-- A guest file that hstatus.VGEIN does not name (log 11): its registers are virtual instructions with V = 1, else illegal. -/
def Hart.fileFault (x : Hart) (n : Nat) : Option Nat :=
  let g := fieldOf (x.getCsr 0x600) 12 6
  let sel := (x.getCsr 0x250).toNat
  let guest := if x.virt then n == 0x15C || n == 0x151 else n == 0x25C || n == 0x251
  let indirect := n == 0x151 || n == 0x251
  if guest && !(decide (1 ≤ g) && decide (g ≤ 7)) && (!indirect || (decide (0x70 ≤ sel) && decide (sel ≤ 0xFF))) then
    some (if x.virt then 22 else 2)
  else none

/-- The checks of standard CSRs beyond the mode that their number names (log 11). -/
def Hart.standardFault (x : Hart) (n : Nat) : Option Nat :=
  if n = 0x180 ∧ x.mode = .s ∧ x.virt = false ∧ flagOf (x.getCsr 0x300) 20 = true then some 2
  else if n = 0x680 ∧ x.mode = .s ∧ flagOf (x.getCsr 0x300) 20 = true then some 2
  else if n = 0x180 ∧ x.virt = true ∧ flagOf (x.getCsr 0x600) 20 = true then some 22
  else if fpCsr n && x.unitOff 13 then some 2
  else if vecCsr n && x.unitOff 9 then some 2
  else if 0xC00 ≤ n ∧ n ≤ 0xC1F then x.counterFault (n % 32)
  else if n = 0x14D ∨ n = 0x24D then x.sstcFault n
  else (x.stateFault n).orElse (fun _ => x.fileFault n)

/-- The exception that an access to a CSR raises, if any (R85; log 11): 2 illegal instruction, 22 virtual instruction. -/
def Hart.csrFault (x : Hart) (n : Nat) (write : Bool) : Option Nat :=
  let lvl := n / 0x100 % 4
  let have_ := match x.mode with
    | .u => 0
    | .s => if x.virt then 1 else 2
    | .m => 3
  if !csrExists n then some 2
  else if write && csrReadOnly n then some 2
  else if customCsrs.contains n then
    if lvl = 0 ∨ x.mode = .m ∨ (lvl = 1 ∧ x.mode = .s) then none else some 2
  else if have_ < lvl then (if x.virt && lvl ≠ 3 then some 22 else some 2)
  else x.standardFault n

/-- With V = 1 the supervisor CSRs stand for the VS ones (log 11). -/
def Hart.csrView (x : Hart) (n : Nat) : Nat :=
  if x.virt ∧ [0x100, 0x104, 0x105, 0x140, 0x141, 0x142, 0x143, 0x144, 0x14D, 0x150, 0x151, 0x15C, 0x180].contains n then n + 0x100
  else if x.virt ∧ n = 0xDB0 then 0xEB0
  else n

/-! ### Interrupt files (R83, R362) -/

/-- The interrupt file that an indirect access or a top register names: machine, supervisor, or the guest file of hstatus.VGEIN (log 11). -/
def Hart.fileOf (x : Hart) (n : Nat) : Option Nat :=
  if n = 0x350 ∨ n = 0x351 ∨ n = 0x35C then some 0
  else if n = 0x150 ∨ n = 0x151 ∨ n = 0x15C then some 1
  else
    let g := fieldOf (x.getCsr 0x600) 12 6
    if 1 ≤ g ∧ g ≤ 7 then some (1 + g) else none

/-- The register 64 identities wide that an indirect select names: the first identity, none for an odd or other number. -/
def eiBase (sel base : Nat) : Option Nat :=
  if base ≤ sel ∧ sel < base + 64 ∧ sel % 2 = 0 then some (32 * (sel - base)) else none

/-- The bits of 64 identities of a file that a hart sees: in the Normal world those of Secure identities read 0 (R362). -/
def State.eiBits (s : State) (h file first : Nat) (l : List Nat) : Nat :=
  maskOf ((List.range 64).filter (fun i => first + i != 0 && l.contains (eiKey file (first + i)) && s.seesId h file (first + i)))

/-- The same bits written; a Normal hart's writes leave Secure identities as they are (R362). -/
def State.eiWrite (s : State) (h file first : Nat) (v : Word) (l : List Nat) : List Nat :=
  let ids := ((List.range 64).map (first + ·)).filter (fun id => id != 0 && s.seesId h file id)
  let keep := l.filter (fun k => !ids.any (fun id => eiKey file id == k))
  keep ++ (ids.filter (fun id => flagOf v (id - first))).map (eiKey file)

/-- The key of an iprio register: the machine and the supervisor level have an array at selects 0x30 to 0x3F, of which the even ones exist. -/
def iprioKey (file sel : Nat) : Option Nat :=
  if 0x30 ≤ sel ∧ sel ≤ 0x3F ∧ sel % 2 = 0 then
    (if file = 0 then some (iprioM + (sel - 0x30)) else if file = 1 then some (iprioS + (sel - 0x30)) else none)
  else none

/-- An indirect read (AIA): iprio 0x30, eidelivery 0x70, eithreshold 0x72, eip 0x80, eie 0xC0. -/
def State.indirectRead (s : State) (h file sel : Nat) : Word :=
  let x := s.hart h
  if (iprioKey file sel).isSome then x.getCsr ((iprioKey file sel).getD 0)
  else if sel = 0x70 then x.getCsr (0x10001 + 2 * file)
  else if sel = 0x72 then x.getCsr (0x10000 + 2 * file)
  else match eiBase sel 0x80, eiBase sel 0xC0 with
    | some f, _ => word (s.eiBits h file f x.eip)
    | none, some f => word (s.eiBits h file f x.eie)
    | none, none => 0

def State.indirectWrite (s : State) (h file sel : Nat) (v : Word) : State :=
  let x := s.hart h
  if (iprioKey file sel).isSome then s.setHart h (x.setCsr ((iprioKey file sel).getD 0) v)
  else if sel = 0x70 then s.setHart h (x.setCsr (0x10001 + 2 * file) (v &&& 1))
  else if sel = 0x72 then s.setHart h (x.setCsr (0x10000 + 2 * file) (v &&& 0x7FF))
  else match eiBase sel 0x80, eiBase sel 0xC0 with
    | some f, _ => s.setHart h { x with eip := s.eiWrite h file f v x.eip }
    | none, some f => s.setHart h { x with eie := s.eiWrite h file f v x.eie }
    | none, none => s

/-- The top identity of a file as its register reports it: only identities that the hart's world sees (R362). -/
def State.topId (s : State) (h file : Nat) : Nat := ((s.hart h).topEi file (s.seesId h file)).getD 0

/-! ### Reading -/

/-- lzlc of a level (R90). -/
def Loop.control (l : Loop) : Word :=
  word (bitAt l.active 63 + bitAt l.virt 62 + modeCode l.prv * 2 ^ 60 + l.len % 4096 * 2 ^ 48 + l.count % 2 ^ 48)

/-- lzdlstat (R96). -/
def Hart.dlStat (x : Hart) : Word := word (x.dlMissed.toNat * 256 + x.dlArmed.toNat)

/-- lzmbstat (R109). -/
def Hart.mbStat (x : Hart) : Word :=
  word (x.undelivered * 2 ^ 16 + x.outbox.length % 8 * 2 ^ 8 + x.inbox.length % 32)

/-- mip bits that sip shows and sie enables: those delegated (log 11). -/
def Hart.delegated (x : Hart) : Nat := (x.getCsr 0x303).toNat

/-- VS-level interrupts at the numbers that VS-mode sees: one place down, but for 13. -/
def vsView (m : Nat) : Nat := (m &&& 0x444) / 2 + bitAt (bitOf m 13) 13

/-- mvip as read: bits 1 and 9 stand for those of mip where mvien leaves them, bit 5 for STIP (AIA). -/
def Hart.mvip (x : Hart) : Word :=
  let shown := ((2 ^ 1 + 2 ^ 9) &&& ((2 ^ 64 - 1) - (x.getCsr 0x308).toNat)) + 2 ^ 5
  (x.getCsr 0x309 &&& ~~~(word shown)) ||| (x.getCsr 0x344 &&& word shown)

/-- scountovf: OF of mhpmevent3 to 31, masked below M-mode by mcounteren and with V = 1 by hcounteren (Sscofpmf). -/
def Hart.countOvf (x : Hart) : Nat :=
  maskOf ((List.range 32).filter (fun i => decide (3 ≤ i) && flagOf (x.getCsr (0x320 + i)) 63
    && (decide (x.mode = .m) || (flagOf (x.getCsr 0x306) i && (!x.virt || flagOf (x.getCsr 0x606) i)))))

/-- The bits of mstatus that sstatus shows (log 11). -/
def sstatusMask : Nat := 0x80000003000DE762

/-- A custom CSR as read (R85, R90, R96, R103, R109, R110, R132, R136). -/
def State.customRead (s : State) (h n : Nat) : Word :=
  let x := s.hart h
  match n with
  | 0x7C0 => word (bitAt x.secure 0)
  | 0x7C1 => word (bitAt x.paired 16 + x.qid)
  | 0x7C2 => x.lzspec.setWidth 64
  | 0x7C3 => x.lzwalkM
  | 0x7C8 => x.lztlblock
  | 0x5C0 => if x.virt then x.lzwalkVs else x.lzwalkHs
  | 0x8C4 => x.loop0.control
  | 0x8C5 => x.loop1.control
  | 0x8C6 => x.loop0.stop
  | 0x8C7 => x.loop1.stop
  | 0x8C8 => word (x.dlExcEn.toNat * 256)
  | 0xCC0 => x.dlStat
  | 0xCC1 => x.mbStat
  | _ => Tab.get x.dlTime 0 (n - 0x8C0)

/-- A CSR as read by its hart (R82, R83, R85, R362, R407; log 11). -/
def State.csrRead (s : State) (h n0 : Nat) : Word :=
  let x := s.hart h
  let n := x.csrView n0
  if customCsrs.contains n then s.customRead h n
  else match n with
    | 0xF11 => 0xB27
    | 0xF12 => 0x8000000000000B5A
    | 0xF13 => 0x10000
    | 0xF14 => word h
    | 0xC01 => word (s.hartTime h + (if x.virt then (x.getCsr 0x605).toNat else 0))
    | 0xC20 => x.getCsr 0xC20
    | 0xC21 => x.getCsr 0xC21
    | 0xC22 => 32
    | 0x001 => x.getCsr 0x003 &&& 0x1F
    | 0x002 => (x.getCsr 0x003 >>> 5) &&& 7
    | 0x100 => x.getCsr 0x300 &&& word sstatusMask
    | 0x104 => word x.sie
    | 0x144 => word (s.sip h)
    | 0x204 => word (vsView x.vsEnabled)
    | 0x244 => word (vsView (s.vsPending h))
    | 0x309 => x.mvip
    | 0xE12 => word (s.hgeip h)
    | 0xFB0 => s.mtopi h
    | 0xDB0 => s.stopi h
    | 0xEB0 => s.vstopi h
    | 0xDA0 => word x.countOvf
    | 0x604 => x.getCsr 0x304 &&& 0x1444
    | 0x644 => word (s.mip h &&& 0x1444)
    | 0x344 => word (s.mip h)
    | 0x35C | 0x15C | 0x25C =>
      match x.fileOf n with
      | some f => word (s.topId h f * 0x10001)
      | none => 0
    | 0x351 | 0x151 | 0x251 =>
      match x.fileOf n with
      | some f => s.indirectRead h f (x.getCsr (n - 1)).toNat
      | none => 0
    | 0x7A1 => (x.trigger (x.getCsr 0x7A0).toNat).1
    | 0x7A2 => (x.trigger (x.getCsr 0x7A0).toNat).2
    | 0x7A4 => 0x1000040
    | _ =>
      if 0xC00 ≤ n ∧ n ≤ 0xC1F then x.getCsr (n - 0x100) else x.getCsr n

/-! ### Writing -/

/-- A write of satp, vsatp or hgatp (R89, R118, R137): an unknown MODE leaves the register as it is, the predictors are flushed in every case, and hgatp, or vsatp with V = 0, clears the VS copy of lzwalk. -/
def Hart.writeSatp (x : Hart) (n : Nat) (v : Word) : Hart :=
  let y := if modeOk (fieldOf v 60 4) then x.setCsr n v else x
  let y := if n = 0x680 ∨ (n = 0x280 ∧ x.virt = false) then { y with lzwalkVs := 0 } else y
  y.flushPoint

/-- A write of lzworld (R89, R110): denied outside a DUAL_WORLD Quire; a change of SECURE is a flush point. -/
def State.writeWorld (s : State) (h : Nat) (v : Word) : State :=
  let x := s.hart h
  if s.bind.dualWorld x.qid then
    let b := flagOf v 0
    let s := if v.toNat < 2 then s else s.logCsrReserved h 0x7C0 v
    if b = x.secure then s else s.modHart h (fun x => ({ x with secure := b }).flushPoint)
  else s.log (Syn.worldWriteDenied.record (hartOrigin h) 0x01 h x.qid)

/-- Whether a hart's Quire lets a miss raise exception 24 (R64, R96). -/
def State.excOnMiss (s : State) (h : Nat) : Bool :=
  ((s.bind.deadline (s.hart h).qid).map (·.excOnMiss)).getD false

/-- A miss of channel n of a hart (R96, R328 to R330): MISSED set, ARMED cleared, logged, and exception 24 due where it is enabled. Flags: bit 0 HART_LOST, bit 1 PKG_SLEEP (R329, R357). -/
def State.channelMissAs (s : State) (h n flags : Nat) : State :=
  let x := s.hart h
  let bit := BitVec.ofNat 4 (2 ^ n)
  let take := x.dlExcEn.getLsbD n && s.excOnMiss h
  let s := s.modHart h (fun x => ({ x with dlMissed := x.dlMissed ||| bit, dlArmed := x.dlArmed &&& ~~~bit,
                                           dlTake := if take then x.dlTake ||| bit else x.dlTake } : Hart).count 52 1)
  s.deadlineMissOf x.qid ((((Syn.dlMiss.record (hartOrigin h) 0x01 h x.qid).withInfo 0 1 n).withInfo 1 1 flags).withInfo 8 8 (Tab.get x.dlTime 0 n).toNat)

/-- A miss because package time reached the channel's time. -/
def State.channelMiss (s : State) (h n : Nat) : State := s.channelMissAs h n 0

/-- A write of lzdlarmN (R96): the channel is armed or re-armed and its MISSED bit cleared; a time not in the future misses as soon as the write retires. -/
def State.armChannel (s : State) (h n : Nat) (v : Word) : State :=
  let bit := BitVec.ofNat 4 (2 ^ n)
  let s := s.modHart h (fun x => ({ x with dlTime := Tab.set x.dlTime n v, dlArmed := x.dlArmed ||| bit, dlMissed := x.dlMissed &&& ~~~bit } : Hart).count 50 1)
  if v.toNat ≤ s.hartTime h then s.channelMiss h n else s

/-- What the Governor reads at a DONE: the armed time minus package time, the smallest of the epoch (R397). -/
def State.noteSlack (s : State) (h n : Nat) : State :=
  let x := s.hart h
  let g := s.govQ x.qid
  let d := ((Tab.get x.dlTime 0 n).toNat : Int) - (s.hartTime h : Int)
  s.setGovQ x.qid { g with slack := some (match g.slack with | some o => min o d | none => d) }

/-- A write of lzdlctl (R96): EXC_EN stored; DONE bits disarm and clear MISSED. -/
def State.writeDlctl (s : State) (h : Nat) (v : Word) : State :=
  let done := BitVec.ofNat 4 (fieldOf v 0 4)
  let s := if fieldOf v 4 4 = 0 ∧ v.toNat < 2 ^ 12 then s else s.logCsrReserved h 0x8C8 v
  let s := (maskBits 4 ((s.hart h).dlArmed &&& done).toNat).foldl (fun s n => s.noteSlack h n) s
  s.modHart h (fun x =>
    let k := (maskBits 4 (x.dlArmed &&& done).toNat).length
    let y : Hart := { x with dlExcEn := BitVec.ofNat 4 (fieldOf v 8 4), dlArmed := x.dlArmed &&& ~~~done, dlMissed := x.dlMissed &&& ~~~done }
    if k = 0 then y else y.count 51 k)

/-- A write of lzlc (R90): ACTIVE with a bad LEN stores 0; V and PRV are held to the writer's mode. -/
def Hart.writeLoopControl (x : Hart) (level : Nat) (v : Word) : Hart :=
  let len := fieldOf v 48 12
  let p := fieldOf v 60 2
  let prv := if p = 2 ∨ modeCode x.mode < p then x.mode else if p = 3 then .m else if p = 1 then .s else .u
  x.setLoop level { x.loop level with
    active := flagOf v 63 && !(len == 0 || decide (2048 < len)), virt := flagOf v 62 || x.virt, prv := prv, len := len, count := fieldOf v 0 48 }

/-- A write of lzle (R90); a 1 in bit 0 is reserved. -/
def State.writeLoopEnd (s : State) (h level : Nat) (v : Word) : State :=
  let s := if flagOf v 0 then s.logCsrReserved h (0x8C6 + level) v else s
  s.modHart h (fun x => x.setLoop level { x.loop level with stop := v &&& ~~~(1#64) })

def lzwalkMask : Nat := 0xFF0FFFFFFFFFFFF8

/-- lztlblock (R132, R133): its operation, if it names one, and its fields. -/
def writeTlbLock (s : State) (h : Nat) (v : Word) : State :=
  let s := lockReserved s h v
  match fieldOf v 3 2 with
  | 1 => tlbLock s h (v &&& ~~~(word 0x20))
  | 2 => tlbUnlock s h (v &&& ~~~(word 0x20))
  | 3 => tlbQuery s h (v &&& ~~~(word 0x20))
  | _ => s.modHart h (fun x => { x with lztlblock := (v &&& ~~~(word 0x3F)) ||| (x.lztlblock &&& 7) })

/-- A custom CSR written. -/
def State.customWrite (s : State) (h n : Nat) (v : Word) : State :=
  match n with
  | 0x7C0 => s.writeWorld h v
  | 0x7C2 =>
    let s := if v.toNat < 16 then s else s.logCsrReserved h 0x7C2 v
    s.modHart h (fun x => { x with lzspec := v.setWidth 4 })
  | 0x7C3 =>
    let s := if (v &&& ~~~(word lzwalkMask)) = 0 then s else s.logCsrReserved h 0x7C3 v
    s.modHart h (fun x => { x with lzwalkM := v &&& word lzwalkMask })
  | 0x5C0 =>
    let s := if (v &&& ~~~(word lzwalkMask)) = 0 then s else s.logCsrReserved h 0x5C0 v
    s.modHart h (fun x => if x.virt then { x with lzwalkVs := v &&& word lzwalkMask } else { x with lzwalkHs := v &&& word lzwalkMask })
  | 0x7C8 => writeTlbLock s h v
  | 0x8C4 => s.modHart h (fun x => x.writeLoopControl 0 v)
  | 0x8C5 => s.modHart h (fun x => x.writeLoopControl 1 v)
  | 0x8C6 => s.writeLoopEnd h 0 v
  | 0x8C7 => s.writeLoopEnd h 1 v
  | 0x8C8 => s.writeDlctl h v
  | _ => if 0x8C0 ≤ n ∧ n ≤ 0x8C3 then s.armChannel h (n - 0x8C0) v else s

/-- Bits of a CSR replaced under a mask. -/
def Hart.maskCsr (x : Hart) (n mask : Nat) (v : Word) : Hart :=
  x.setCsr n ((x.getCsr n &&& ~~~(word mask)) ||| (v &&& word mask))

/-- CBIE of an envcfg value: 0b10 stores 0b00 (R160). -/
def fixCbie (v : Word) : Word := if fieldOf v 4 2 = 2 then v &&& ~~~(word 0x30) else v

/-- mvip written: bits that stand for mip's go there, the others into mvip (AIA). -/
def Hart.writeMvip (x : Hart) (v : Word) : Hart :=
  let own := (x.getCsr 0x308).toNat &&& (2 ^ 1 + 2 ^ 9)
  ((x.maskCsr 0x344 ((2 ^ 1 + 2 ^ 9) - own + 2 ^ 5) v).maskCsr 0x309 (own + 2 ^ 13) v)

/-- tdata1 of the selected trigger written (mcontrol6): only the debugger sets DMODE, changes a trigger that has it, and chooses the action of debug mode. -/
def Hart.writeTrigger (x : Hart) (v : Word) (debugger : Bool) : Hart :=
  let i := (x.getCsr 0x7A0).toNat
  let o := x.trigger i
  let keep := if debugger ∧ flagOf v 59 = true then 0 else 2 ^ 59 + 15 * 2 ^ 12
  if flagOf o.1 59 && !debugger then x
  else { x with triggers := Tab.set x.triggers i ((v &&& ~~~(word (15 * 2 ^ 60 + keep))) ||| word (6 * 2 ^ 60), o.2) }

/-- A claim of the top identity: a write of a top register clears the reported identity's pending bit (AIA). -/
def State.claimTop (s : State) (h n : Nat) : State :=
  match (s.hart h).fileOf n with
  | none => s
  | some f =>
    let id := s.topId h f
    if id = 0 then s else s.modHart h (fun x => { x with eip := x.eip.filter (· != eiKey f id) })

/-- A CSR written by its hart (R89, R118, R160, R362; log 11). -/
def State.csrWrite (s : State) (h n0 : Nat) (v : Word) : State :=
  let n := (s.hart h).csrView n0
  if customCsrs.contains n then s.customWrite h n v
  else match n with
    | 0x180 | 0x280 | 0x680 => s.modHart h (fun x => x.writeSatp n v)
    | 0x30A | 0x10A | 0x60A => s.modHart h (fun x => x.setCsr n (fixCbie v))
    | 0x001 => s.modHart h (fun x => x.maskCsr 0x003 0x1F v)
    | 0x002 => s.modHart h (fun x => x.maskCsr 0x003 0xE0 (v <<< 5))
    | 0x100 => s.modHart h (fun x => x.maskCsr 0x300 sstatusMask v)
    | 0x104 => s.modHart h (fun x => (x.maskCsr 0x304 x.delegated v).maskCsr 0x12000 x.mvirtual v)
    | 0x144 => s.modHart h (fun x => (x.maskCsr 0x344 (x.delegated &&& 0x2002) v).maskCsr 0x309 (x.mvirtual &&& 0x2002) v)
    | 0x308 => s.modHart h (fun x => x.setCsr 0x308 (v &&& word (2 ^ 1 + 2 ^ 9 + 2 ^ 13)))
    | 0x309 => s.modHart h (fun x => x.writeMvip v)
    | 0x608 => s.modHart h (fun x => x.setCsr 0x608 (v &&& word (2 ^ 13)))
    | 0x344 => s.modHart h (fun x => x.maskCsr 0x344 0x222A v)
    | 0x204 => s.modHart h (fun x => (x.maskCsr 0x304 ((x.getCsr 0x603).toNat &&& 0x444) (v <<< 1)).maskCsr 0x12001 ((x.getCsr 0x608).toNat &&& 2 ^ 13) v)
    | 0x244 => s.modHart h (fun x => (x.maskCsr 0x645 4 (v <<< 1)).maskCsr 0x645 ((x.getCsr 0x608).toNat &&& 2 ^ 13) v)
    | 0x604 => s.modHart h (fun x => x.maskCsr 0x304 0x1444 v)
    | 0x644 => s.modHart h (fun x => x.maskCsr 0x645 4 v)
    | 0x35C | 0x15C | 0x25C => s.claimTop h n
    | 0x351 | 0x151 | 0x251 =>
      match (s.hart h).fileOf n with
      | some f => s.indirectWrite h f ((s.hart h).getCsr (n - 1)).toNat v
      | none => s
    | 0x7A0 => if v.toNat < 8 then s.modHart h (fun x => x.setCsr 0x7A0 v) else s
    | 0x7A1 => s.modHart h (fun x => x.writeTrigger v false)
    | 0x7A2 => s.modHart h (fun x =>
        let o := x.trigger (x.getCsr 0x7A0).toNat
        if flagOf o.1 59 then x else { x with triggers := Tab.set x.triggers (x.getCsr 0x7A0).toNat (o.1, v) })
    | 0x301 | 0x7A4 | 0x34A => s
    | 0x141 | 0x241 | 0x341 | 0x741 => s.modHart h (fun x => x.setCsr n (v &&& ~~~(1#64)))
    | _ => s.modHart h (fun x => x.setCsr n v)

/-- Whether a standard counter counts an event that the model does not time, and is not stopped: mcycle, or an mhpmcounter with such an event (R407; log 35). -/
def Hart.stdOpen (x : Hart) (n : Nat) : Bool :=
  let i := n % 32
  (n / 32 == 0xB00 / 32 || n / 32 == 0xC00 / 32) && !flagOf (x.getCsr 0x320) i
    && (i == 0 || (3 ≤ i && fieldOf (x.getCsr (0x320 + i)) 0 8 != 0 && untimed (fieldOf (x.getCsr (0x320 + i)) 0 8 - 1)))

/-- A CSR's value as an instruction reads it: a free value for a standard counter that is open. -/
def State.csrValue (s : State) (h n : Nat) : Word × State :=
  if (s.hart h).stdOpen n then (word s.draw.1, s.draw.2) else (s.csrRead h n, s)

/-- Whether an access that waits is one that a FENCE waits for: every one but prefetches. -/
def Waiter.ordered (w : Waiter) : Bool :=
  match w with
  | .prefetch _ _ | .pte _ => false
  | .load _ _ | .store _ _ _ _ | .amo _ _ | .lr _ _ _ _ | .zero _ _ | .lock _ _ _ | .pair _ _ _ _ | .buffer _ _ => true

/-- Whether every older load has its data and every older store is performed (R187). -/
def Hart.quiet (x : Hart) : Bool :=
  x.misses.all (fun m => m.spec || m.waiters.all (fun w => !w.ordered)) && x.pairEven.isNone && x.pairOdd.isNone && x.pairReady.isNone && x.pairGo.isNone

/-- The state in which a serialising CSR write waits (R110, R132): lzworld for every older access of its hart, lztlblock LOCK for its walk; none where it goes on. -/
def State.csrWaits (s : State) (h n : Nat) (v : Word) : Option State :=
  let x := s.hart h
  if (x.csrFault n true).isSome then none
  else if n = 0x7C0 ∧ x.quiet = false then some s
  else if n = 0x7C8 ∧ fieldOf v 3 2 = 1 then s.lockWaits h v
  else none

/-- The value that a CSR instruction writes, given the old one; none for a read. -/
def csrWrites (c : CsrOp) (old : Word) : Option (Nat × Word) :=
  match c with
  | .read _ _ => none
  | .rw n _ v => some (n, v)
  | .rs n _ v => some (n, old ||| v)
  | .rc n _ v => some (n, old &&& ~~~v)

def csrNum (c : CsrOp) : Nat :=
  match c with
  | .read n _ | .rw n _ _ | .rs n _ _ | .rc n _ _ => n

/-- A CSR instruction (R85): the exception of an access it may not make, else the old value into rd and the new value written. -/
def State.csrInstr (s : State) (h : Nat) (c : CsrOp) : Sum Nat State :=
  let x := s.hart h
  let go := fun (n rd : Nat) (write : Bool) (new : Word → Word) =>
    match x.csrFault n write with
    | some code => Sum.inl code
    | none =>
      let r := s.csrValue h n
      let old := r.1
      let s := if write then (r.2.csrWrite h n (new old)).modHart h (fun x =>
          if fpCsr n then x.unitDirty 13 else if vecCsr n then x.unitDirty 9 else x) else r.2
      Sum.inr (s.modHart h (fun x => x.setX rd old))
  match c with
  | .read n rd => go n rd false (fun o => o)
  | .rw n rd v => go n rd true (fun _ => v)
  | .rs n rd v => go n rd true (fun o => o ||| v)
  | .rc n rd v => go n rd true (fun o => o &&& ~~~v)

end Sys2Proof.Machine
end

