-- ==== Sys2Proof/Machine/Levels.lean ====
section
/-! DEFINITION. P-levels of clusters (R380 to R383): what a Quire wants, what its clusters run at, and a change of level. -/

namespace Sys2Proof.Machine

/-- Whether the policy lets boost levels be wanted (R396, R397). -/
def Binding.allowBoost (b : Binding) : Bool := (b.govPkg.map (·.allowBoost)).getD false

/-- The fastest level that may be wanted where it is not fixed (R397). -/
def Binding.fastest (b : Binding) : Nat := if b.allowBoost then 0 else 4

/-- The level a Quire wants and whether it is fixed (R383): its policy's INITIAL_P until the Governor moves it; P4 without a policy. -/
def State.wantOf (s : State) (q : Nat) : Nat × Bool :=
  match s.bind.gov q with
  | some g => if g.fixedP then (g.initialP, true) else (max (((s.govQ q).want).getD g.initialP) s.bind.fastest, false)
  | none => (4, false)

/-- The Quires with harts in a cluster. -/
def State.clusterQuires (s : State) (c : Nat) : List Nat :=
  distinct (((List.range 8).map (fun k => (s.hart (c * 8 + k)).qid)).filter (· != 0))

/-- The slowest level that R398 may move a cluster to: the P_SLOW of its Quires. -/
def State.slowest (s : State) (c : Nat) : Nat :=
  (s.clusterQuires c).foldl (fun m q => min m (((s.bind.gov q).map (·.pSlow)).getD 15)) 15

/-- The level derived for a cluster and whether a FIXED_P Quire sets it (R383), the steps of R398 among it. -/
def State.derivedLevel (s : State) (c : Nat) : Nat × Bool :=
  let ws := (s.clusterQuires c).map s.wantOf
  match ws.find? (·.2) with
  | some w => w
  | none =>
    let base := ws.foldl (fun m w => min m w.1) 15
    (max base (min (base + Tab.get s.gov.throttle 0 c) (s.slowest c)), false)

/-- A change of level (R381): a slower one at once, a faster one when its voltage has risen; `limit` is the fastest level granted now (R382). -/
def Cluster.request (c : Cluster) (wanted : Nat) (fixed : Bool) (limit : Nat) : Cluster :=
  let target := max wanted limit
  let c := { c with wanted := wanted, fixed := fixed }
  if target = c.granted then { c with ramp := none }
  else if c.granted < target then { c with granted := target, changes := c.changes + 1, ramp := none }
  else { c with ramp := some target }

/-- Whether every core of a cluster is in C2 or C3 (R382). -/
def State.clusterIdle (s : State) (c : Nat) : Bool :=
  (List.range 8).all (fun k =>
    let x := s.hart (c * 8 + k)
    !s.fuse.hartOk (c * 8 + k) || decide (x.cstate = .c2) || decide (x.cstate = .c3))

/-- The fastest level that a cluster may be granted (R382): no boost level without a boost budget, and P0 only while every other enabled cluster is idle. -/
def State.levelLimit (s : State) (boost : Bool) (c : Nat) : Nat :=
  if !boost then 4
  else if ((List.range clusterCount).filter (fun k => k != c && s.fuse.clusterOk k)).all s.clusterIdle then 0
  else 1

/-- A cluster's new speed; a change of the granted level counts in each of its enabled harts (R404). -/
def State.putCluster (s : State) (c : Nat) (x : Cluster) : State :=
  let old := (s.cluster c).granted
  let s := s.setCluster c x
  if x.granted = old then s
  else ((List.range 8).map (c * 8 + ·)).foldl (fun s h => if s.fuse.hartOk h then s.modHart h (fun y => y.count 61 1) else s) s

/-- The enabled clusters. -/
def State.clusterList (s : State) : List Nat := (List.range clusterCount).filter s.fuse.clusterOk

/-- Every cluster's level derived again (R383). -/
def State.deriveLevels (s : State) (boost : Bool) : State :=
  s.clusterList.foldl (fun s c =>
    let w := s.derivedLevel c
    s.putCluster c ((s.cluster c).request w.1 w.2 (s.levelLimit boost c))) s

/-- P0 given up when another cluster no longer sleeps (R382). -/
def State.dropP0 (s : State) : State :=
  (s.clusters.filter (fun e => e.2.granted == 0 || e.2.ramp == some 0)).foldl (fun s e =>
    if s.levelLimit true e.1 = 0 then s
    else s.putCluster e.1 ((s.cluster e.1).request e.2.wanted e.2.fixed 1)) s

end Sys2Proof.Machine
end

