-- ==== Sys2Proof/Machine/Xlz.lean ====
section
/-! DEFINITION. The encodings of the Xlz instructions (R84): decoder and encoder over 32-bit words. -/

namespace Sys2Proof.Machine

/-- An Xlz instruction with its fields (R84). -/
inductive Xlz where
  | loop (level rs1 endOff : Nat)
  | loopi (level count endOff : Nat)
  | specfence
  | lock (rd rs1 : Nat)
  | unlock (rd rs1 : Nat)
  | mbsend (rd rs1 : Nat)
  | mbrecv (rd rs1 : Nat)
deriving DecidableEq, Repr

/-- Whether a 32-bit word lies in one of the four custom opcode spaces (R84). -/
def inCustom (w : Nat) : Bool :=
  bitsOf w 0 7 == 0x0B || bitsOf w 0 7 == 0x2B || bitsOf w 0 7 == 0x5B || bitsOf w 0 7 == 0x7B

/-- The instruction of a word in custom-0, none where the table has none (R84). -/
def decodeCustom0 (w : Nat) : Option Xlz :=
  match bitsOf w 12 3 with
  | 0 => if bitsOf w 8 4 = 0 then some (.loop (bitsOf w 7 1) (bitsOf w 15 5) (bitsOf w 20 12)) else none
  | 1 => some (.loopi (bitsOf w 7 1) (16 * bitsOf w 15 5 + bitsOf w 8 4) (bitsOf w 20 12))
  | 2 => if bitsOf w 7 5 = 0 ∧ bitsOf w 15 17 = 0 then some .specfence else none
  | 3 =>
    if bitsOf w 20 12 = 0 then some (.lock (bitsOf w 7 5) (bitsOf w 15 5))
    else if bitsOf w 20 12 = 32 then some (.unlock (bitsOf w 7 5) (bitsOf w 15 5))
    else none
  | _ => none

/-- The instruction of a word in custom-1 (R84). -/
def decodeCustom1 (w : Nat) : Option Xlz :=
  if bitsOf w 20 12 = 0 then
    match bitsOf w 12 3 with
    | 0 => some (.mbsend (bitsOf w 7 5) (bitsOf w 15 5))
    | 1 => some (.mbrecv (bitsOf w 7 5) (bitsOf w 15 5))
    | _ => none
  else none

/-- The Xlz instruction that a 32-bit word encodes (R84). -/
def decodeXlz (w : BitVec 32) : Option Xlz :=
  let n := w.toNat
  if bitsOf n 0 7 = 0x0B then decodeCustom0 n
  else if bitsOf n 0 7 = 0x2B then decodeCustom1 n
  else none

/-- A word from its fields: bits 31:20, 19:15, 14:12, 11:7 and the opcode. -/
def xlzWord (imm rs1 funct rd opcode : Nat) : Nat :=
  imm * 2 ^ 20 + rs1 * 2 ^ 15 + funct * 2 ^ 12 + rd * 2 ^ 7 + opcode

/-- The word of an Xlz instruction (R84). -/
def encodeXlz (i : Xlz) : BitVec 32 :=
  BitVec.ofNat 32 (match i with
    | .loop level rs1 off => xlzWord off rs1 0 level 0x0B
    | .loopi level count off => xlzWord off (count / 16) 1 (count % 16 * 2 + level) 0x0B
    | .specfence => xlzWord 0 0 2 0 0x0B
    | .lock rd rs1 => xlzWord 0 rs1 3 rd 0x0B
    | .unlock rd rs1 => xlzWord 32 rs1 3 rd 0x0B
    | .mbsend rd rs1 => xlzWord 0 rs1 0 rd 0x2B
    | .mbrecv rd rs1 => xlzWord 0 rs1 1 rd 0x2B)

/-- The fields within the widths that the encoding gives them (R84). -/
def Xlz.wf (i : Xlz) : Bool :=
  match i with
  | .loop level rs1 off => decide (level < 2) && decide (rs1 < 32) && decide (off < 4096)
  | .loopi level count off => decide (level < 2) && decide (count < 512) && decide (off < 4096)
  | .specfence => true
  | .lock rd rs1 | .unlock rd rs1 | .mbsend rd rs1 | .mbrecv rd rs1 => decide (rd < 32) && decide (rs1 < 32)

/-- Whether a 32-bit word raises an illegal-instruction exception under R84: in a custom space without being an Xlz encoding. -/
def xlzIllegal (w : BitVec 32) : Bool := inCustom w.toNat && (decodeXlz w).isNone

end Sys2Proof.Machine
end

