-- ==== Sys2Proof/Machine/HartExec.lean ====
section
/-! DEFINITION. Instructions as they retire, branches, loops, traps and trap returns, deadline channels, fences and C-states (R86 to R103, R110, R114, R116, R161, R187, R329, R384, R385). -/

namespace Sys2Proof.Machine

/-! ### Predictors (R86 to R88) -/

/-- x1 and x5, the link registers of R87. -/
def isLink (r : Nat) : Bool := r == 1 || r == 5

/-- A push onto a return stack of 32 entries; the oldest goes when it is full (R87). -/
def pushRas (l : List Word) (v : Word) : List Word := v :: l.take 31

/-- Whether a transfer pushes, and whether it pops, the return stack (R87). -/
def branchPushes (b : Branch) : Bool :=
  match b.kind with
  | .cond => false
  | .jal | .jalr => isLink b.rd

def branchPops (b : Branch) : Bool := b.kind == BranchKind.jalr && isLink b.rs1 && b.rd == 0

/-- A return stack after a transfer at an address with the next one at `ret`. -/
def rasAfter (l : List Word) (b : Branch) (ret : Word) : List Word :=
  if branchPushes b then pushRas l ret else if branchPops b then l.drop 1 else l

def btbSet (pc : Word) : Nat := fieldOf pc 2 10

/-- The BTB's target for an address (R87). -/
def Hart.btbLook (x : Hart) (pc : Word) : Option Word :=
  (List.range 4).findSome? (fun w => (Tab.find x.btb (btbSet pc * 4 + w)).bind (fun e => if e.pc = pc then some e.target else none))

/-- A retired taken transfer enters the BTB (R87, R88), its way drawn from LFSR 5 (R147). -/
def Hart.btbFill (x : Hart) (pc target : Word) : Hart :=
  let set := btbSet pc
  let e : BtbEnt := { pc := pc, target := target }
  match (List.range 4).find? (fun w => ((Tab.find x.btb (set * 4 + w)).map (·.pc)) == some pc) with
  | some w => { x with btb := Tab.set x.btb (set * 4 + w) e }
  | none =>
    let pick := chooseWay (x.getLfsr 5) (List.range 4) (fun w => (Tab.find x.btb (set * 4 + w)).isNone)
    match pick.1 with
    | some w => { x with btb := Tab.set x.btb (set * 4 + w) e, lfsr := Tab.set x.lfsr 5 pick.2 }
    | none => x

/-- What a resolved transfer cost (R87). -/
inductive BranchCost where
  | none
  /-- 3 core cycles: a direct target computed at decode -/
  | decode
  /-- 11 core cycles -/
  | redirect
deriving DecidableEq, Repr

/-- The static prediction and the targets of R86 and R87 held against what happened. -/
def Hart.branchCost (x : Hart) (b : Branch) : BranchCost :=
  let hit := x.btbLook b.pc
  match b.kind with
  | .cond =>
    let predicted := decide (b.target.toNat < b.pc.toNat)
    if predicted != b.taken then .redirect
    else if b.taken then
      match hit with
      | some t => if t = b.target then .none else .redirect
      | none => .decode
    else .none
  | .jal =>
    match hit with
    | some t => if t = b.target then .none else .redirect
    | none => .decode
  | .jalr =>
    if branchPops b then (if x.rasSpec.head? = some b.target then .none else .redirect)
    else match hit with
      | some t => if t = b.target then .none else .redirect
      | none => .redirect

/-- Whether an address lies inside an active level's body (R90, R93). -/
def Hart.inBody (x : Hart) (level : Nat) (a : Word) : Bool :=
  let l := x.loop level
  l.active && decide (l.stop.toNat ≤ a.toNat + 2 * l.len) && decide (a.toNat < l.stop.toNat)

/-- A taken conditional branch, or a JAL or JALR with rd = x0, out of an active body clears its ACTIVE, and with level 0 that of level 1 (R93). -/
def Hart.leaveLoops (x : Hart) (b : Branch) : Hart :=
  let leaves := b.taken && (match b.kind with | .cond => true | .jal | .jalr => b.rd == 0)
  let out := fun (level : Nat) => leaves && x.inBody level b.pc && !x.inBody level b.target
  let off := fun (y : Hart) (level : Nat) => y.setLoop level { y.loop level with active := false }
  let y := if out 1 then off x 1 else x
  if out 0 then off (off y 0) 1 else y

/-- BRANCH_RESOLVE (R86 to R88): the cost is counted, and a redirect squashes and restores the speculative return stack from the retired copy. Loop state changes only when the transfer retires (R98). -/
def branchResolve (s : State) (h : Nat) (b : Branch) : State :=
  if s.hartLive h then
    s.modHart h (fun x =>
      let cost := x.branchCost b
      let x := { x with rasSpec := rasAfter x.rasSpec b (b.pc + word b.len) }
      match cost with
      | .none => x
      | .decode => x.count 9 1
      | .redirect => ({ x with rasSpec := x.ras }.count (if b.kind == BranchKind.cond then 7 else 8) 1).count 12 1)
  else s

def execBranchResolve (h : Nat) (b : Branch) (s : State) : Result := .next (branchResolve s h b)

/-! ### Retirement -/

def Hart.applyWrite (x : Hart) (w : RegWrite) : Hart :=
  match w with
  | .x n v => x.setX n v
  | .f n v => { x with f := Tab.set x.f n v }.unitDirty 13
  | .vec n v => { x with vec := Tab.set x.vec n v }.unitDirty 9

/-- The ITLB entry that maps the pc is confirmed (R99). -/
def Hart.confirmPc (x : Hart) : Hart :=
  match x.lookup x.virt .fetch x.pc.toNat with
  | (.hit e, true) => x.confirmTlb .fetch e
  | _ => x

/-- The instruction fetched at the pc retires: its L1I line and ITLB entry lose the unconfirmed mark (R99). -/
def State.confirmFetch (s : State) (h : Nat) : State :=
  let x := s.hart h
  match s.translate h .fetch x.pc with
  | .ok pa _ =>
    let l := pa / 64
    let y := x.confirmPc
    s.setHart h { y with l1i := mapLine y.l1i l (fun c => { c with unconf := false }) }
  | .exc _ | .walk => s

/-- The pc after an instruction: a taken transfer's target, else its sequential successor by way of the loop unit (R92). -/
def Hart.advance (x : Hart) (len : Nat) (br : Option Branch) : Hart :=
  match br with
  | some b => if b.taken then { x with pc := b.target } else x.goOn (x.pc + word len)
  | none => x.goOn (x.pc + word len)

/-- A retired transfer updates the BTB and the retired return stack (R87, R88). -/
def Hart.retireBranch (x : Hart) (len : Nat) (b : Branch) : Hart :=
  let x := if b.kind == BranchKind.cond then x.count 6 1 else x
  let x := if b.taken then x.btbFill b.pc b.target else x
  { x with ras := rasAfter x.ras b (b.pc + word len) }.leaveLoops b

/-- Whether an instruction writes a register of a unit that is Off: an illegal instruction (log 11). -/
def Hart.writesOff (x : Hart) (ws : List RegWrite) : Bool :=
  ws.any (fun w => match w with
    | .x _ _ => false
    | .f _ _ => x.unitOff 13
    | .vec _ _ => x.unitOff 9)

/-- The state in which an instruction's CSR write waits (R110, R132). -/
def State.retireWaits (s : State) (h : Nat) (i : Retire) : Option State :=
  (i.csr.bind (fun c => csrWrites c (s.csrRead h (csrNum c)))).bind (fun w => s.csrWaits h w.1 w.2)

/-- What retiring does once the CSR access has been made: registers, predictors and the pc (R82, R88, R92, R93, R404). -/
def Hart.commit (x : Hart) (i : Retire) : Hart :=
  let x := i.writes.foldl Hart.applyWrite x
  let x := { x with lastPc := x.pc }.countRetire i.cls
  let x := match i.br with
    | some b => x.retireBranch i.len b
    | none => x
  x.advance i.len i.br

/-- INSTRUCTION_RETIRE without an array error (R84, R85, R88, R92, R93, R98, R404): an illegal custom encoding, a forbidden CSR access and a register of a unit that is Off raise their exception with the instruction's bits; a serialising CSR write waits; else the registers, the CSR, the predictors and the pc change. -/
def retireInstr (s : State) (h : Nat) (i : Retire) : State :=
  let bits := word (i.bits.toNat % 2 ^ (8 * i.len))
  if i.len = 4 ∧ xlzIllegal i.bits = true then s.raiseCode h 2 bits
  else if i.len = 4 ∧ (decodeXlz i.bits).isSome = true then s
  else if (s.hart h).writesOff i.writes then s.raiseCode h 2 bits
  else match s.retireWaits h i with
    | some t => t
    | none =>
      let after := match i.csr with
        | some c => s.csrInstr h c
        | none => .inr s
      match after with
      | .inl code => s.raiseCode h code bits
      | .inr s => (s.confirmFetch h).modHart h (fun x => x.commit i)

/-- INSTRUCTION_RETIRE: a core array error is corrected by re-execution, or fences the core (R117). -/
def retireUpset (s : State) (h : Nat) (i : Retire) (u : Upset) : State :=
  let rec_ := fun (y : Syndrome) => y.record (hartOrigin h) 0x01 h (s.hart h).qid
  match u with
  | .coreUe => s.log (rec_ Syn.coreArrayUe)
  | .coreCe => retireInstr (s.log (rec_ Syn.coreArrayCe)) h i
  | _ => retireInstr s h i

def execInstructionRetire (h : Nat) (i : Retire) (u : Upset) (s : State) : Result :=
  .next (s.instr h (fun s => retireUpset s h i u))

/-! ### Loops (R90, R91, R94) -/

/-- The lowest reason of R94 that applies to a setup instruction, if any. `range`: lz.loop, whose count comes from a register. -/
def Hart.loopFault (x : Hart) (level endOff count : Nat) (range : Bool) : Option Nat :=
  let p := x.pc
  let e := p + 4 + word (2 * endOff)
  if (x.loop level).active then some 1
  else if level = 1 ∧ (x.loop0.active = false ∨ x.inBody 0 p = false) then some 2
  else if endOff = 0 ∨ 2048 < endOff then some 3
  else if level = 1 ∧ x.loop0.stop.toNat < e.toNat then some 4
  else if range ∧ 2 ^ 48 ≤ count then some 5
  else none

/-- A loop setup (R90, R91, R94): exception 28 with the reason; a count of zero goes on at E and writes nothing; else the level becomes active. -/
def Hart.loopSetup (x : Hart) (level endOff count : Nat) : Hart :=
  let e := x.pc + 4 + word (2 * endOff)
  if count = 0 then
    { ({ x with lastPc := x.pc }.countRetire .xlz) with pc := e }
  else
    let l : Loop := { active := true, virt := x.virt, prv := x.mode, len := endOff, count := count, stop := e }
    (x.setLoop level l).retire .xlz

def loopSetup (s : State) (h level endOff count : Nat) (range : Bool) : State :=
  s.instr h (fun s =>
    match (s.hart h).loopFault level endOff count range with
    | some r => s.raiseCode h 28 (word r)
    | none => s.modHart h (fun x => x.loopSetup level endOff count))

def execLzLoop (h level rs1 endOff : Nat) (s : State) : Result :=
  .next (loopSetup s h level endOff ((s.hart h).getX rs1).toNat true)

def execLzLoopi (h level count endOff : Nat) (s : State) : Result :=
  .next (loopSetup s h level endOff count false)

/-- LZ_SPECFENCE (R99, R103): what is unconfirmed is invalidated. -/
def execLzSpecfence (h : Nat) (s : State) : Result :=
  .next (s.instr h (fun s => s.modHart h (fun x => x.dropUnconfirmed.retire .xlz)))

/-! ### Fences (R161, R187) -/

/-- FENCE (R187): it completes, and waits where an older access is not done. -/
def execFence (h : Nat) (s : State) : Result :=
  .next (s.instr h (fun s => if (s.hart h).quiet then s.modHart h (fun x => x.retire .fence) else s))

/-- FENCE_I (R161): the L1I is invalidated. -/
def execFenceI (h : Nat) (s : State) : Result :=
  .next (s.instr h (fun s => s.modHart h (fun x => { x with l1i := [] }.retire .fence)))

/-! ### Traps (R89, R114, R116) -/

/-- TRAP_ENTRY: a trap that an instruction at the pc raises with its cause and xtval (R89). -/
def execTrapEntry (h cause : Nat) (tval : Word) (s : State) : Result :=
  .next (s.instr h (fun s => s.raiseCode h cause tval))

/-- The exception of a trap return that its mode may not execute (log 11). -/
def Hart.xretFault (x : Hart) (k : XretKind) : Option Nat :=
  match k with
  | .mret | .mnret => if x.mode = .m then none else some 2
  | .sret =>
    if x.mode = .m then none
    else if x.virt then (if x.mode = .u ∨ flagOf (x.getCsr 0x600) 22 = true then some 22 else none)
    else if x.mode = .u ∨ flagOf (x.getCsr 0x300) 22 = true then some 2
    else none

/-- The bits of a trap return. -/
def xretBits (k : XretKind) : Nat :=
  match k with
  | .mret => 0x30200073
  | .sret => 0x10200073
  | .mnret => 0x70200073

/-- XRET (R89). -/
def execXret (h : Nat) (kind : XretKind) (s : State) : Result :=
  .next (s.instr h (fun s =>
    match (s.hart h).xretFault kind with
    | some c => s.raiseIllegal h c (xretBits kind) 0
    | none => s.modHart h (fun x => ({ x with lastPc := x.pc }.countRetire .system).xret kind)))

/-- INTERRUPT_TAKEN (R83, R92, R114): a pending and enabled interrupt is taken at an instruction boundary; the saved pc is the next instruction's. -/
def execInterruptTaken (h cause : Nat) (s : State) : Result :=
  .next (match (if s.hartLive h then s.interruptTo h cause else none) with
    | some t => s.modHart h (fun x => x.trapTo t true (Exc.of cause 0))
    | none => s)

/-! ### CSR writes with commands of their own (R89, R96, R110, R118) -/

/-- A CSR written by an instruction of its own command: the exception of a forbidden access, or the state in which a serialising write waits, else the write, and the instruction retires. -/
def csrRow (s : State) (h n : Nat) (v : Word) : State :=
  s.instr h (fun s =>
    match (s.hart h).csrFault n true with
    | some c => s.raiseIllegal h c (csrBits n) csrFree
    | none =>
      match s.csrWaits h n v with
      | some t => t
      | none => (s.csrWrite h n v).modHart h (fun x => x.retire .csr))

def satpNumber (c : SatpCsr) : Nat :=
  match c with
  | .satp => 0x180
  | .vsatp => 0x280
  | .hgatp => 0x680

def execSatpWrite (h : Nat) (csr : SatpCsr) (v : Word) (s : State) : Result := .next (csrRow s h (satpNumber csr) v)
def execLzworldWrite (h : Nat) (v : Word) (s : State) : Result := .next (csrRow s h 0x7C0 v)

/-- LZDLARM_WRITE (R96), for the four channels. -/
def execLzdlarmWrite (h n : Nat) (v : Word) (s : State) : Result := .next (if n < 4 then csrRow s h (0x8C0 + n) v else s)
def execLzdlctlWrite (h : Nat) (v : Word) (s : State) : Result := .next (csrRow s h 0x8C8 v)

/-! ### C-states and waking (R329, R384, R385) -/

/-- A core that sleeps, or is about to, has something to wake for (R385). -/
def Hart.noteWake (x : Hart) : Hart :=
  if x.cstate ≠ .c0 ∨ x.entering.isSome then { x with wakeHeld := true } else x

/-- DEADLINE_MISS (R96, R329): package time has reached an armed channel's time. -/
def deadlineMiss (s : State) (h n : Nat) : State :=
  let x := s.hart h
  if n < 4 ∧ x.dlArmed.getLsbD n = true ∧ (Tab.get x.dlTime 0 n).toNat ≤ s.hartTime h ∧ x.run ≠ .fenced then
    (s.channelMiss h n).modHart h Hart.noteWake
  else s

def execDeadlineMiss (h n : Nat) (s : State) : Result := .next (deadlineMiss s h n)

/-- The exception of a WFI that its mode may not execute (log 11). -/
def Hart.wfiFault (x : Hart) : Option Nat :=
  if x.mode = .m then none
  else if flagOf (x.getCsr 0x300) 21 then some 2
  else if x.virt then (if x.mode = .u ∨ flagOf (x.getCsr 0x600) 21 = true then some 22 else none)
  else none

/-- The C-state that CIDLE.DEPTH names (R385). -/
def depthState (d : Nat) : CState := if d = 2 then .c2 else if d = 3 then .c3 else .c1

/-- WFI (R384): the core enters the C-state that CIDLE.DEPTH names. -/
def execWfi (h : Nat) (s : State) : Result :=
  .next (s.instr h (fun s =>
    match (s.hart h).wfiFault with
    | some c => s.raiseIllegal h c 0x10500073 0
    | none => s.modHart h (fun x => ({ x.retire .system with entering := some (depthState x.cidle) }).count 57 1)))

/-- What C2 gives up (R384): the L1D and the victim cache go into the L2, the L1I, the TLBs but for locked entries, the predictors and what is unconfirmed are gone. -/
def Hart.enterC2 (x : Hart) (b : Binding) (core now : Nat) : Hart :=
  let x := { x with btb := [], ras := [], rasSpec := [], loopBuf := [] }.dropUnconfirmed
  let lines := x.l1d.map (·.2) ++ x.vc.map (·.2)
  let x := { x with l1i := [], l1d := [], vc := [], itlb := [], dtlb := [], l2tlb := [] }
  lines.foldl (fun x c => x.toL2 b core now c) x

/-- What C3 gives up besides (R153, R384): every L2 line leaves the core, dirty ones with WbD, and locks and locked TLB entries are gone. -/
def Hart.enterC3 (x : Hart) (b : Binding) (core now : Nat) : Hart :=
  let x := x.enterC2 b core now
  let lines := (x.l2.map (·.2)).filter (fun c => c.st.valid)
  lines.foldl (fun x c => x.evictOut core now c) { x with l2 := [], locked := [] }

/-- Whether a wake condition of R385 holds: an interrupt pending and enabled in mie, or a mailbox arrival or deadline miss. -/
def State.wakeDue (s : State) (h : Nat) : Bool :=
  (s.hart h).wakeHeld || s.mip h &&& ((s.hart h).getCsr 0x304).toNat != 0

/-- A core leaves its C-state, with the time it spent there counted. -/
def State.wakeCore (s : State) (h : Nat) : State :=
  (s.modHart h (fun x =>
    let y := { x with cstate := .c0, wakeHeld := false }
    match cCounter x.cstate with
    | some n => y.count n (s.time.now - x.cSince)
    | none => y)).dropP0

/-- C_STATE_ENTRY_COMPLETE (R384, R385): the C-state's losses take effect; a wake that arrived meanwhile starts the exit at once. -/
def cStateEntryComplete (s : State) (h : Nat) : State :=
  let x := s.hart h
  match x.entering with
  | none => s
  | some c =>
    let x := { x with entering := none, cstate := c, cSince := s.time.now }
    let x := match c with
      | .c0 | .c1 => x
      | .c2 => x.enterC2 s.bind (hartCore h) s.time.now
      | .c3 => x.enterC3 s.bind (hartCore h) s.time.now
    let s := s.putHart h x
    if s.wakeDue h then s.wakeCore h else s

def execCStateEntryComplete (h : Nat) (s : State) : Result := .next (cStateEntryComplete s h)

/-- CORE_WAKE (R385): a wake condition brings the core out of its C-state; during entry it is held. -/
def coreWake (s : State) (h : Nat) (src : WakeSrc) : State :=
  let x := s.hart h
  let due := match src with
    | .interrupt => s.mip h &&& (x.getCsr 0x304).toNat != 0
    | .mailbox | .deadline => x.wakeHeld
  if !due then s
  else if x.entering.isSome then s.modHart h Hart.noteWake
  else if x.cstate ≠ .c0 ∧ s.pwr.pk = 0 ∧ s.pwr.pkEntering.isNone = true then s.wakeCore h
  else s

def execCoreWake (h : Nat) (src : WakeSrc) (s : State) : Result := .next (coreWake s h src)

end Sys2Proof.Machine
end

