-- ==== Sys2Proof/Machine/Mailbox.lean ====
section
/-! DEFINITION. Mailboxes (R105 to R109, R203, R215, R219), G messages onto a System Link port (R300, R308, R310), and the comparator of a checked pair (R112 to R115). -/

namespace Sys2Proof.Machine

/-! ### Messages to a System Link port (R300, R301, R314) -/

/-- This package's ID (R302). -/
def Binding.packageId (b : Binding) : Nat := (b.sysLink.map (·.packageId)).getD 0

/-- The bits of a port's alive counter: ALIVE_BITS of Check unit 8 + p (R62, R299). -/
def Binding.aliveBits (b : Binding) (p : Nat) : Nat := ((b.checkRec (8 + p)).map (·.aliveBits)).getD 0

/-- The bytes of a message: its header, then its body (R300). -/
def slMsgBytes (m : SlMsg) : List Byte :=
  toLE 1 m.kind ++ toLE 1 m.hops ++ toLE 1 (bitAt m.secure 0 + bitAt m.poison 1) ++ toLE 1 m.body.length ++ toLE 2 m.srcPkg
    ++ toLE 2 m.dstPkg ++ toLE 4 m.tag ++ toLE 2 m.stream ++ toLE 1 m.status ++ toLE 1 0 ++ m.body

/-- Bytes 0 to 240 of a flit, which CHECK covers (R299). -/
def slFlitBytes (f : SlFlit) : List Byte :=
  toLE 2 f.seq ++ toLE 2 (f.ack + bitAt f.nak 15) ++ padTo 236 (f.msgs.flatMap slMsgBytes) ++ toLE 1 f.alive

/-- Bytes 241 to 249 of a flit: a zero byte and CHECK, least significant byte first (R299, R318). -/
def slFlitTail (f : SlFlit) : List Byte := toLE 1 0 ++ toLE 8 f.check

/-- A flit as the port's Check unit sends it (R299). -/
def slChecked (c : CheckCfg) (f : SlFlit) : SlFlit := { f with check := check c (slFlitBytes f) }

/-- Whether a flit passes FEC and the port's Check unit (R299, R301). -/
def slFlitOk (c : CheckCfg) (f : SlFlit) : Bool := f.fecOk && f.check == check c (slFlitBytes f)

/-- A message put into a flit of its own, behind what the replay buffer of 256 flits holds (R299, R301, R321); with the buffer full it waits. -/
def SlPort.flit (t : SlPort) (c : CheckCfg) (m : SlMsg) : SlPort :=
  if 256 ≤ t.replay.length then { t with out := t.out ++ [m] }
  else
    let n := (t.txSeq + 1) % 1024
    let a := if aliveWidth c.alive = 0 then 0 else (t.aliveTx + 1) % 2 ^ aliveWidth c.alive
    let f : SlFlit := { seq := n, ack := t.rxSeq, nak := t.nakPending, alive := a, check := 0, fecOk := true, msgs := [m] }
    { t with txSeq := n, aliveTx := a, nakPending := false, replay := t.replay ++ [slChecked c f] }

/-- Whether a port is UP at ×8 and 64 GT/s (R310). -/
def SlPort.fullSpeed (t : SlPort) : Bool := decide (t.link = .up) && t.width == 0 && t.fullRate

/-- Whether a message may go to a peer that sleeps: only HEARTBEAT and LINK_INIT (R314). -/
def slAlways (m : SlMsg) : Bool := m.kind == 8 || m.kind == 9

/-- A message enters a port, or waits ahead of it while the peer's package sleeps (R314). -/
def State.slSend (s : State) (p : Nat) (m : SlMsg) : State :=
  let t := s.slPort p
  if 2 ≤ t.peerPk && t.peerPk ≤ 4 && !slAlways m then s.setSlPort p { t with waiting := t.waiting ++ [m] }
  else s.setSlPort p (t.flit (s.checkCfg (8 + p)) m)

/-- The G_MSG of a mailbox message that ends at a port (R300, R308). -/
def gMsgOf (src dst : Nat) (m : MailMsg) : SlMsg :=
  { kind := 1, hops := 15, secure := m.secure, poison := false, srcPkg := src, dstPkg := dst, tag := 0, stream := m.stream, status := 0,
    body := toLE 2 m.srcHart ++ toLE 2 0 ++ toLE 4 m.deadlineLo.toNat ++ toLE 48 m.payload.toNat }

/-! ### Outbox (R106, R108, R215, R219) -/

/-- Whether an entry travels in Class U: a Class U message, or one of a demoted stream (R219). -/
def State.goesU (s : State) (e : OutboxEnt) : Bool := e.stream == 0xFFFF || decide ((s.stream e.stream).st = .demoted)

/-- The node and core a message goes to. -/
def State.mailDest (s : State) (e : OutboxEnt) : Nat × Nat :=
  if e.stream = 0xFFFF then (hartNode e.dest, hartCore e.dest)
  else ((s.stream e.stream).desc.dstNode, (s.stream e.stream).desc.dstCore)

/-- The flit of an outbox entry (R203). -/
def State.mailMsg (s : State) (h : Nat) (e : OutboxEnt) : MailMsg :=
  let d := s.mailDest e
  { dstNode := d.1, dstCore := d.2, srcNode := hartNode h, srcCore := hartCore h, srcHart := h, stream := e.stream,
    deadlineLo := e.deadlineLo, secure := e.secure, payload := e.payload }

/-- The first entry ready to leave in Class U whose destination no earlier entry waits for (R108). -/
def State.nextU (s : State) (h : Nat) : Option (Nat × OutboxEnt) :=
  let l := (s.hart h).outbox
  ((List.range l.length).zip l).find? (fun p => decide (p.2.st = .ready) && s.goesU p.2
    && !(l.take p.1).any (fun e => s.goesU e && s.mailDest e == s.mailDest p.2))

/-- Class U messages leave the outbox, in order for each destination; each keeps its entry until its answer (R108). -/
def State.pump (fuel : Nat) (s : State) (h : Nat) : State :=
  match fuel with
  | 0 => s
  | f + 1 =>
    match s.nextU h with
    | none => s
    | some (i, e) =>
      let m := s.mailMsg h e
      let sent := { e with st := OutSt.sent, firstSent := some s.time.now, stamp := s.time.now }
      let s := s.modHart h (fun x => { x with outbox := x.outbox.set i sent })
      let s := (s.noteStats h 1 48 none)
      let s := if e.stream = 0xFFFF then s else
        s.setStream e.stream { s.stream e.stream with uMsgs := (s.stream e.stream).uMsgs + 1 }
      State.pump f { s with net := { s.net with mail := s.net.mail ++ [m] } } h

/-- Whether the NoC cycle is one in which a stream may send (R213, R214, R215): a source slot of its own, in which it has not sent yet. -/
def State.inSlot (s : State) (n : Nat) : Bool :=
  let t := s.stream n
  (sourceSlots s.fabric.slots t.desc).contains s.time.slot && t.sentAt != some s.time.cycle

/-- G_MESSAGE_SEND (R214, R215, R219, R310): in a source slot the oldest message of an ACTIVE stream that was ready before this cycle leaves its outbox in Class G; a held stream's wait; a demoted stream's go in Class U. -/
def gMessageSend (s : State) (n : Nat) : State :=
  let t := s.stream n
  let h := hartAt t.desc.srcNode t.desc.srcCore
  if !isClusterNode t.desc.srcNode then s
  else match t.st with
    | .absent | .held => s
    | .demoted => s.pump 4 h
    | .active =>
      let l := (s.hart h).outbox
      match (if s.inSlot n then l.findIdx? (fun e => e.stream == n && decide (e.st = .ready) && decide (e.stamp < s.time.cycle)) else none) with
      | none => s
      | some i =>
        match l[i]? with
        | none => s
        | some e =>
          let m := s.mailMsg h e
          let s := s.modHart h (fun x => { x with outbox := x.outbox.eraseIdx i }.count 63 1)
          let s := s.setStream n { t with msgs := t.msgs + 1, sentAt := some s.time.cycle }
          let s := s.noteStats h 2 48 none
          { s with net := { s.net with mail := s.net.mail ++ [m] } }

def execGMessageSend (stream : Nat) (s : State) : Result := .next (gMessageSend s stream)

/-- The class that a stream's messages travel in (R108, R215, R219): Class U without a stream and on a demoted one. -/
def State.mailCls (s : State) (stream : Nat) : Nat :=
  if stream = 0xFFFF ∨ (s.stream stream).st = .demoted then 1 else 2

/-- MB_UNDELIVERED (R108, R429): a message discarded. -/
def State.undelivered (s : State) (h dest : Nat) : State :=
  (s.modHart h (fun x => { x with undelivered := satAdd 0xFFFF x.undelivered 1 })).log
    ((Syn.mbUndelivered.record (hartOrigin h) 0x01 h (s.hart h).qid).withInfo 0 2 dest)

/-- The entry that waits for an answer about a destination hart. -/
def State.outTo (s : State) (h dest : Nat) : Option (Nat × OutboxEnt) :=
  let l := (s.hart h).outbox
  ((List.range l.length).zip l).find? (fun p => s.goesU p.2 && s.mailDest p.2 == (hartNode dest, hartCore dest)
    && decide (p.2.st ≠ .ready))

/-- TO_U_US in ns (R64, R108). -/
def State.toU (s : State) : Nat := s.bind.timeoutNs 1

/-- Whether an entry's TO_U_US since its first send has passed (R108). -/
def State.outExpired (s : State) (e : OutboxEnt) : Bool :=
  match e.firstSent with
  | some t => decide (t + s.toU ≤ s.time.now)
  | none => false

def State.dropOut (s : State) (h i : Nat) : State := s.modHart h (fun x => { x with outbox := x.outbox.eraseIdx i })

/-- MAILBOX_ANSWER (R108): ACCEPT frees the entry; REFUSE waits for the next frame boundary, or discards once TO_U_US has passed; FINAL discards. -/
def mailboxAnswer (s : State) (m : MailAns) : State :=
  let s := { s with net := { s.net with ans := s.net.ans.erase m } }
  let h := hartAt m.dstNode m.dstCore
  match s.outTo h m.destHart with
  | none => s
  | some (i, e) =>
    if e.st ≠ .sent then s
    else match m.answer with
      | .accept => (s.dropOut h i).pump 4 h
      | .final => ((s.dropOut h i).undelivered h m.destHart).pump 4 h
      | .refuse =>
        if s.outExpired e then ((s.dropOut h i).undelivered h m.destHart).pump 4 h
        else s.modHart h (fun x => { x with outbox := x.outbox.set i { e with st := .refused, stamp := s.time.frame } })

/-- MAILBOX_ANSWER: it arrives by the default route; its one flit may be lost (R199, R222). -/
def execMailboxAnswer (m : Met MailAns) (s : State) : Result :=
  .next (
    if !s.reach m.it.srcNode m.it.dstNode 1 none then s
    else
      let r := s.flitFate 0 none false m.upset
      if r.2 = .lost then { r.1 with net := { r.1.net with ans := r.1.net.ans.erase m.it } } else mailboxAnswer r.1 m.it)

/-- MAILBOX_RESEND (R108): at the first frame boundary after a REFUSE the message goes out again, unless TO_U_US has passed. -/
def mailboxResend (s : State) (h dest : Nat) : State :=
  match s.outTo h dest with
  | none => s
  | some (i, e) =>
    if e.st = .refused ∧ e.stamp < s.time.frame ∧ s.outExpired e = false then
      let s := s.modHart h (fun x => { x with outbox := x.outbox.set i { e with st := .sent, stamp := s.time.now } })
      let s := s.noteStats h 1 48 none
      { s with net := { s.net with mail := s.net.mail ++ [s.mailMsg h e] } }
    else s

def execMailboxResend (h dest : Nat) (s : State) : Result := .next (mailboxResend s h dest)

/-- MAILBOX_U_TIMEOUT (R108): past TO_U_US a message that waits for a resend is discarded, and one whose last send has had no answer for TO_U_US. -/
def mailboxUTimeout (s : State) (h dest : Nat) : State :=
  match s.outTo h dest with
  | none => s
  | some (i, e) =>
    let gone := s.outExpired e && (decide (e.st = .refused) || decide (e.stamp + s.toU ≤ s.time.now))
    if gone then ((s.dropOut h i).undelivered h dest).pump 4 h else s

def execMailboxUTimeout (h dest : Nat) (s : State) : Result := .next (mailboxUTimeout s h dest)

/-! ### Inbox (R105, R107, R109) -/

/-- Streams whose destination is a core: each has a reserved inbox entry (R107). -/
def State.reservedAt (s : State) (node core : Nat) : Nat :=
  (s.fabric.streams.filter (fun e => decide (e.2.st ≠ .absent) && e.2.desc.toInbox && e.2.desc.dstNode == node
    && e.2.desc.dstCore == core)).length

/-- LATE (R109). -/
def lateBy (arrival deadline : BitVec 32) : Bool :=
  let d := (arrival - deadline).toNat
  deadline != 0 && decide (1 ≤ d) && decide (d < 2 ^ 31)

def inboxEnt (m : MailMsg) (arrival : BitVec 32) (overrun : Bool) : InboxEnt :=
  { srcHart := m.srcHart, stream := m.stream, g := m.stream != 0xFFFF, overrun := overrun, late := lateBy arrival m.deadlineLo,
    secure := m.secure, deadlineLo := m.deadlineLo, arrivalLo := arrival, payload := m.payload }

/-- DL_G_LATE (R109, R328, R357). -/
def State.gLate (s : State) (h : Nat) (e : InboxEnt) : State :=
  let q := (s.stream e.stream).desc.dstQid
  s.deadlineMissOf q (((((Syn.dlGLate.record (hartOrigin h) 0x01 h q).withInfo 0 2 e.stream).withInfo 2 2 e.srcHart).withInfo 8 4
    e.deadlineLo.toNat).withInfo 12 4 e.arrivalLo.toNat)

/-- An entry written as the newest of an inbox; an unread message of the same stream goes (R107). -/
def State.inboxPut (s : State) (h : Nat) (m : MailMsg) : State :=
  let arrival := BitVec.ofNat 32 (s.hartTime h)
  let overrun := m.stream != 0xFFFF && (s.hart h).inbox.any (fun e => e.g && e.stream == m.stream)
  let e := inboxEnt m arrival overrun
  let s := s.modHart h (fun x =>
    let y := { x with inbox := x.inbox.filter (fun (o : InboxEnt) => !(overrun && o.g && o.stream == m.stream)) ++ [e] }.noteWake
    if e.late then y.count 49 1 else y)
  let s := s.noteStats h (s.mailCls m.stream) 48 none
  let s := if overrun then s.log (Syn.mbOverrun.record (hartOrigin h) 0x01 h (s.hart h).qid) else s
  if e.late && e.g then s.gLate h e else s

def State.answerMail (s : State) (m : MailMsg) (dest : Nat) (a : Answer) : State :=
  let r : MailAns := { dstNode := m.srcNode, dstCore := m.srcCore, srcNode := m.dstNode, srcCore := m.dstCore, destHart := dest, answer := a }
  { s with net := { s.net with ans := s.net.ans ++ [r] } }

/-- MAILBOX_MESSAGE (R107, R108, R308, R346): a message arrives at its core, is refused, or is answered by the cluster for a fenced core; one that ends at a System Link port goes on as G_MSG. -/
def mailboxMessage (s : State) (m : MailMsg) : State :=
  let s := { s with net := { s.net with mail := s.net.mail.erase m } }
  match slAt m.dstNode with
  | some p =>
    let t := s.slPort p
    if t.fullSpeed = true ∧ t.peer = .up then (s.slSend p (gMsgOf s.bind.packageId t.peerPkg m)).noteStats (400 + p) (s.mailCls m.stream) 48 none else s
  | none =>
    let h := hartAt m.dstNode m.dstCore
    let answered := m.stream == 0xFFFF || decide ((s.stream m.stream).st = .demoted)
    if !isClusterNode m.dstNode || s.isFenced (UnitId.of 0x02 (hartCluster h)) then s
    else if s.isFenced (coreUnit h) || decide ((s.hart h).run = .fenced) then
      if answered then s.answerMail m h .final else s
    else if m.stream ≠ 0xFFFF then
      let s := s.inboxPut h m
      if answered then s.answerMail m h .accept else s
    else
      let used := ((s.hart h).inbox.filter (fun e => !e.g)).length
      if used + s.reservedAt m.dstNode m.dstCore < 16 then (s.inboxPut h m).answerMail m h .accept
      else s.answerMail m h .refuse

/-- The stream that carries a mailbox message in Class G. -/
def mailStream (m : MailMsg) : Option Nat := if m.stream = 0xFFFF then none else some m.stream

/-- MAILBOX_MESSAGE: it arrives by its path; its one flit may be lost (R199, R219, R222). -/
def mailFlits (s : State) (m : MailMsg) (u : Upset) : State :=
  if !s.reach m.srcNode m.dstNode (s.mailCls m.stream) (mailStream m) then s
  else
    let r := s.flitFate 0 none false u
    if r.2 = .lost then { r.1 with net := { r.1.net with mail := r.1.net.mail.erase m } } else mailboxMessage r.1 m

def execMailboxMessage (m : MailMsg) (u : Upset) (s : State) : Result := .next (mailFlits s m u)

/-! ### lz.mbsend and lz.mbrecv (R106, R109) -/

/-- Whether a hart is the source of a stream and may send on it in its world (R106); a stream that a delta removes is HELD until it goes, and still the hart's (R219). -/
def State.isSource (s : State) (h n : Nat) : Bool :=
  let t := s.stream n
  decide (n < 1024) && decide (t.st ≠ .absent) && t.desc.srcNode == hartNode h && t.desc.srcCore == hartCore h
    && (!t.desc.secure || (s.hart h).secure)

/-- Whether a hart may be the destination of a Class U message (R106). -/
def State.mayReceive (s : State) (h dest : Nat) : Bool :=
  s.fuse.hartOk dest && (s.hart dest).qid == (s.hart h).qid && (s.hart dest).secure == (s.hart h).secure

/-- The status that lz.mbsend returns (R106): NOT_SOURCE and NOT_PERMITTED are judged before BUSY. -/
def State.sendStatus (s : State) (h : Nat) (buf : List Byte) : Nat :=
  let stream := numAt buf 2 2
  if stream ≠ 0xFFFF ∧ s.isSource h stream = false then 2
  else if stream = 0xFFFF ∧ s.mayReceive h (numAt buf 0 2) = false then 3
  else if 4 ≤ (s.hart h).outbox.length then 1
  else 0

/-- The outbox entry of a buffer, ready in a NoC cycle (R106, R214). -/
def outboxOf (x : Hart) (cycle : Nat) (buf : List Byte) : OutboxEnt :=
  { dest := numAt buf 0 2, stream := numAt buf 2 2, deadlineLo := BitVec.ofNat 32 (numAt buf 8 4), secure := x.secure,
    payload := BitVec.ofNat 384 (ofLE (bytesAt buf 16 48)), st := .ready, firstSent := none, stamp := cycle }

/-- A demoted stream that ends at no core loses its messages after SENT (R106, R310). -/
def State.sendLost (s : State) (e : OutboxEnt) : Bool :=
  e.stream != 0xFFFF && decide ((s.stream e.stream).st = .demoted) && !isClusterNode (s.stream e.stream).desc.dstNode

/-- lz.mbsend once its buffer has been read (R106). -/
def State.mbSend (s : State) (h rd : Nat) (buf : List Byte) : State :=
  let st := s.sendStatus h buf
  let s := s.modHart h (fun x => (x.setX rd (word st)).retire .xlz)
  if st = 0 then
    let e := outboxOf (s.hart h) s.time.cycle buf
    let s := s.modHart h (fun x => x.count 46 1)
    if s.sendLost e then s else (s.modHart h (fun x => { x with outbox := x.outbox ++ [e] })).pump 4 h
  else if st = 1 then s.modHart h (fun x => x.count 48 1)
  else s

/-- The 64 bytes of an inbox entry (R105). -/
def InboxEnt.bytes (e : InboxEnt) : List Byte :=
  toLE 2 e.srcHart ++ toLE 2 e.stream ++ toLE 1 (bitAt e.g 0 + bitAt e.overrun 1 + bitAt e.late 2 + bitAt e.secure 3) ++ toLE 3 0
    ++ toLE 4 e.deadlineLo.toNat ++ toLE 4 e.arrivalLo.toNat ++ toLE 48 e.payload.toNat

/-! ### Checked pairs (R112 to R115) -/

/-- The first mismatch, or a copy without its partner (R115): both copies go, both cores stop, and the pair is fenced as one cell. -/
def State.pairFail (s : State) (h : Nat) (y : Syndrome) : State :=
  (s.modHart h (fun x => { x with pairEven := none, pairOdd := none, run := .stopped })).log
    (y.record (hartOrigin h) 0x01 h (s.hart h).qid)

/-- PAIR_REQUEST (R113, R115): a copy enters the comparator; the second copy must be equal, or the pair diverges. -/
def pairRequest (s : State) (h : Nat) (odd : Bool) (r : PairCopy) : State :=
  let x := s.hart h
  if !(x.paired && decide (x.run = .running) && h % 2 == 0) || s.isFenced (coreUnit h) then s
  else
    let mine := if odd then x.pairOdd else x.pairEven
    let other := if odd then x.pairEven else x.pairOdd
    if mine.isSome || x.pairReady.isSome then s
    else match other with
      | none => s.setHart h (if odd then { x with pairOdd := some r, pairSince := s.time.cycle } else { x with pairEven := some r, pairSince := s.time.cycle })
      | some o =>
        if o = r then s.setHart h { x with pairEven := none, pairOdd := none, pairReady := some (r, s.time.cycle) }
        else s.pairFail h Syn.pairDiverge

def execPairRequest (h : Nat) (odd : Bool) (r : PairCopy) (s : State) : Result := .next (pairRequest s h odd r)

/-- Whether a request may leave its core: a hart alone always; a pair once the comparator has released a request of its kind, address, size and data (R113). -/
def State.isReleased (s : State) (h : Nat) (kind : PairKind) (va : Word) (pa size : Nat) (data : Option Nat) : Bool :=
  let x := s.hart h
  !x.paired || (match x.pairGo with
    | none => false
    | some r => decide (r.kind = kind) && r.va == va && r.addr == pa && r.size == size
        && (match data with | some d => lineGet r.data (pa % 64) (2 ^ size) == d | none => true))

/-- A release used up: each request goes on once (R113). -/
def State.spend (s : State) (h : Nat) : State := s.modHart h (fun x => { x with pairGo := none })

/-- A request that passes the comparator of a pair, and waits with its release where `busy` holds (R113). -/
def State.released (s : State) (h : Nat) (kind : PairKind) (va : Word) (pa size : Nat) (data : Option Nat) (busy : Bool) (f : State → State) : State :=
  if busy || !s.isReleased h kind va pa size data then s else f (s.spend h)

/-- PAIR_TIMEOUT (R115): a copy has waited 2,048 NoC cycles for its partner. -/
def pairTimeout (s : State) (h : Nat) : State :=
  let x := s.hart h
  if (x.pairEven.isSome || x.pairOdd.isSome) && decide (x.pairSince + 2048 ≤ s.time.cycle) then s.pairFail h Syn.pairTimeout else s

def execPairTimeout (h : Nat) (s : State) : Result := .next (pairTimeout s h)

end Sys2Proof.Machine
end

