-- ==== Sys2Proof/Machine/Ctl.lean ====
section
/-! DEFINITION. What every access to control space shares (R9 to R12, R27, R30, R353): who asks, which unit owns a block, the records of refused and reserved writes, notices to Quires, and the actions for partners (R312). -/

namespace Sys2Proof.Machine

/-! ### Who asks -/

/-- QID of an initiator; a device or lane node carries 0 here (R353). -/
def State.agentQid (s : State) (who : Agent) : Nat :=
  match who with
  | .hart h => (s.hart h).qid
  | .governor | .clasp | .node _ => 0

/-- An M-mode hart of a Quire. -/
def State.mHartOf (s : State) (who : Agent) (q : Nat) : Bool :=
  match who with
  | .hart h => decide ((s.hart h).mode = .m) && (s.hart h).qid == q && q != 0
  | .governor | .clasp | .node _ => false

/-- An M-mode hart of the error owner, who is the time owner too (R40, R345). -/
def State.ownerHart (s : State) (who : Agent) : Bool :=
  match s.bind.owner with
  | some q => s.mHartOf who q
  | none => false

/-- Whether a hart reads in M-mode. -/
def State.inM (s : State) (h : Nat) : Bool := decide ((s.hart h).mode = .m)

/-! ### Units and nodes of blocks (R20, R31, R339, R353) -/

/-- The node under which a register of a block reports, and the unit it names: in block 0x480 the TSN port whose register it is (R295). -/
def blockUnit (die block off : Nat) : Nat × UnitId :=
  match dieKind die with
  | some .cd =>
    if 0x10 ≤ block ∧ block ≤ 0x13 then (clusterNode (die * 4 + (block - 0x10)), UnitId.of 0x02 (die * 4 + (block - 0x10)))
    else if 0x20 ≤ block ∧ block ≤ 0x3F then (hartOrigin (die * 32 + (block - 0x20)), coreUnit (die * 32 + (block - 0x20)))
    else if 0x40 ≤ block ∧ block ≤ 0x43 then (vportNode die (block - 0x40), UnitId.of 0x09 (die * 4 + (block - 0x40)))
    else (ctlNode die, dieUnit die)
  | some .bd =>
    let b := die - 16
    if 0x10 ≤ block ∧ block ≤ 0x1B then (sliceNode (12 * b + (block - 0x10)), UnitId.of 0x03 (12 * b + (block - 0x10)))
    else if 0x20 ≤ block ∧ block ≤ 0x22 then (ctlNode die, UnitId.of 0x04 (3 * b + (block - 0x20)))
    else if 0x30 ≤ block ∧ block ≤ 0x31 then (hbmNode (2 * b + (block - 0x30)), UnitId.of 0x07 (2 * b + (block - 0x30)))
    else if 0x40 ≤ block ∧ block ≤ 0x43 then (ucieNode (4 * b + (block - 0x40)), UnitId.of 0x09 (64 + 4 * b + (block - 0x40)))
    else (ctlNode die, dieUnit die)
  | some .iod =>
    if block = 0x000 then (claspNode, UnitId.of 0x11 0)
    else if block = 0x010 then (govNode, UnitId.of 0x12 0)
    else if block = 0x020 then (fmNode, UnitId.of 0x13 0)
    else if block = 0x030 then (chipEcNode, UnitId.of 0x15 0)
    else if block = 0x040 then (ffNode, UnitId.of 0x14 0)
    else if 0x100 ≤ block ∧ block ≤ 0x1FF then (feNode, UnitId.of 0x0B 0)
    else if block = 0x200 then (checkNode, UnitId.of 0x0F 16)
    else if 0x300 ≤ block ∧ block ≤ 0x307 then (slNode (block - 0x300), UnitId.of 0x0D (block - 0x300))
    else if block = 0x400 then (pcieNode 0, UnitId.of 0x0C 0)
    else if block = 0x480 then (tsnNode (off / 0x40000), UnitId.of 0x0E (off / 0x40000))
    else if 0x500 ≤ block ∧ block ≤ 0x50F then (ddrNode (block - 0x500), UnitId.of 0x08 (block - 0x500))
    else if block = 0x600 ∨ block = 0x601 then (aplicNode, dieUnit die)
    else (ctlNode die, dieUnit die)
  | _ => (ctlNode die, dieUnit die)

/-- A record of a write that a block refused or took only in part (R353): ADDR the register, INFO the value, QID the writer's. -/
def State.logWrite (s : State) (y : Syndrome) (who : Agent) (die block off : Nat) (v : Word) : State :=
  let u := blockUnit die block off
  s.log (((y.record u.1 u.2.ty u.2.no (s.agentQid who)).withAddr (controlAddr die block off)).withInfo 0 8 v.toNat)

/-- CONFIG_WHILE_ACTIVE (R11, R353). -/
def State.whileActive (s : State) (who : Agent) (die block off : Nat) (v : Word) : State :=
  s.logWrite Syn.configWhileActive who die block off v

/-- RESERVED_WRITE where a write sets a bit outside the register's own fields; the rest of the write is performed (R12, R353). -/
def State.reserved (s : State) (who : Agent) (die block off : Nat) (v : Word) (own : Nat) : State :=
  if (v &&& ~~~(word own)) = 0 then s else s.logWrite Syn.reservedWrite who die block off v

/-! ### Refused accesses (R27, R30) -/

/-- Whether an address names a Secure resource of a Quire other than memory: a queue's doorbell, a VI's page, an open unit's registers or a core's counter page (R361). -/
def State.secureUnitAt (s : State) (q a : Nat) : Bool :=
  match rangeOf a with
  | .doorbell => let n := (a - doorbellBase) / 64; s.bind.queueOwner 1 n == q && s.bind.queueSecure 1 n
  | .control =>
    match decodeControl a with
    | none => false
    | some (die, block, off) =>
      if die = iodDie ∧ 0x120 ≤ block ∧ block < 0x140 then
        let v := (block - 0x120) * 256 + off / 0x1000
        s.bind.queueOwner 2 v == q && s.bind.queueSecure 2 v
      else if die = iodDie ∧ block = 0x200 ∧ 0x10000 ≤ off then
        match s.bind.checkRec (16 + (off - 0x10000) / 0x100) with
        | some r => r.qid == q && s.bind.secureOnly q
        | none => false
      else if die < 12 ∧ 0x20 ≤ block ∧ block < 0x40 ∧ off / 0x1000 = 1 then
        (s.hart (die * 32 + (block - 0x20))).qid == q && s.bind.secureOnly q
      else false
  | _ => false

/-- WORLD_ACCESS_DENIED of a refused access by a Normal hart to a Secure resource of its own Quire (R360; log 88). -/
def State.noteWorld (s : State) (h a : Nat) : State :=
  let x := s.hart h
  if !x.secure && x.qid != 0 && s.secureUnitAt x.qid a then s.logWorldDenied h a else s

/-- The access fault of a control-space access by a hart: xtval holds the virtual address, which in M-mode is the address itself and else a free value (log 13). -/
def State.ctlFault (s : State) (h : Nat) (write : Bool) (a : Nat) : State :=
  let code := if write then 7 else 5
  let s := s.noteWorld h a
  if s.inM h then s.raiseCode h code (word a) else s.draw.2.raiseCode h code (word s.draw.1)

/-- UNMAPPED_ADDRESS (R27, R222, R429). -/
def State.logUnmapped (s : State) (node a q : Nat) : State :=
  s.log (((Syn.unmappedAddress.record fmNode 0x13 0 q).withAddr a).withBlame node)

/-- A register access that its rule forbids: the access fault for a hart, an unsupported request for another initiator, nothing for the Governor or the Clasp (R27, R40). -/
def State.refuse (s : State) (who : Agent) (write : Bool) (a : Nat) : State :=
  match who with
  | .hart h => s.ctlFault h write a
  | .node n => s.logUnmapped n a 0
  | .governor | .clasp => s

/-- A write command of an initiator: a hart must run, and at its boundary a due exception comes first (R96). -/
def State.asAgent (s : State) (who : Agent) (f : State → State) : State :=
  match who with
  | .hart h => s.access h f
  | .governor | .clasp | .node _ => f s

/-- A register read by a hart: its value goes into rd, and the read's own effect on the block happens (R10); a forbidden one raises the access fault. -/
def State.readReg (s : State) (h rd a : Nat) (ok : State → Bool) (value : State → Word) (effect : State → State) : State :=
  s.access h (fun s =>
    if ok s then (effect s).modHart h (fun x => x.setX rd (value s)) else s.ctlFault h false a)

/-! ### Notices and partners (R50, R312, R432) -/

/-- An MSI to NOTIFY_HART at NOTIFY_ID of a Quire, in its machine-level file (R50), sent in the Secure world (R432). -/
def State.notifyQuire (s : State) (q : Nat) : State :=
  match s.bind.quire q with
  | some r => s.sendMsi r.notifyHart 0 r.notifyId true
  | none => s

/-- A bit of FF_ALERT set, which asserts ALERT_N (R395): 0 RULE, 1 PARTNER, 2 GOV, 3 THERMAL, 4 LOCKSTEP. -/
def State.alert (s : State) (i : Nat) : State :=
  { s with ff := { s.ff with alert := s.ff.alert ||| BitVec.ofNat 5 (2 ^ i) } }

/-- ACTION of a partner; a partner without a record gets 0 (R312). -/
def Binding.action (b : Binding) (kind n : Nat) : Nat := ((b.partnerRec kind n).map (·.action)).getD 0

/-- The MSI and the alert of a partner's action (R312). -/
def State.partnerAct (s : State) (kind n : Nat) : State :=
  match s.bind.partnerRec kind n with
  | none => s
  | some r =>
    let s := if 1 ≤ r.action then s.notifyQuire r.notifyQid else s
    if r.action = 3 then s.alert 1 else s

/-! ### Demotion (R219, R222) -/

/-- A stream demoted to Class U: its messages leave on the default route from now on, its bound reads 0, and G_DEMOTED is logged. -/
def State.demote (s : State) (n : Nat) : State :=
  let t := s.stream n
  if t.st = .active ∨ t.st = .held then
    (s.setStream n { t with st := .demoted, boundPs := 0, planGen := s.fabric.planGen }).log
      ((Syn.gDemoted.record fmNode 0x13 0 t.desc.srcQid).withInfo 0 2 n)
  else s

/-- Every stream that meets a test demoted. -/
def State.demoteWhere (s : State) (p : GStream → Bool) : State :=
  ((s.fabric.streams.filter (fun e => p e.2.desc)).map (·.1)).foldl State.demote s

end Sys2Proof.Machine
end

