-- ==== Sys2Proof/Machine/Check.lean ====
section
/-! DEFINITION. Check units (R316 to R323): the registers of the open units. -/

namespace Sys2Proof.Machine

/-! ### Open units' registers (R322, R323, R352) -/

/-- Whether a configuration may be committed (R323). -/
def CheckCfg.ok (c : CheckCfg) : Bool :=
  decide (8 ≤ c.width) && decide (c.width ≤ 64) && c.alive != 3 && flagOf c.poly 0
    && decide (c.poly.toNat < 2 ^ c.width) && decide (c.init.toNat < 2 ^ c.width) && decide (c.xorout.toNat < 2 ^ c.width)

/-- OCU_CFG as it reads. -/
def CheckCfg.cfgWord (c : CheckCfg) : Word :=
  word (bitAt c.refin 63 + bitAt c.refout 62 + c.alive % 4 * 256 + c.width % 128)

/-- The block offset of a register of an open unit. -/
def ocuOff (u reg : Nat) : Nat := 0x10000 + (u - 16) * 0x100 + reg

/-- Whether a hart may access an open unit: an M-mode hart of the Quire to which the unit is lent, a Normal hart only while the unit is Normal (R322, R361). -/
def State.ocuAllowed (s : State) (who : Agent) (u : Nat) : Bool :=
  match who, s.bind.checkRec u with
  | .clasp, _ => true
  | .hart h, some r => s.mHartOf who r.qid && ((s.hart h).secure || !s.bind.secureOnly r.qid)
  | _, _ => false

/-- A Check unit syndrome (R327, R429). -/
def State.logCheck (s : State) (y : Syndrome) (u q : Nat) (sq : Option Nat) : State :=
  let r := y.record checkNode 0x0F u q
  s.log (match sq with | some n => r.withInfo 0 4 n | none => r)

/-- A record of an open unit's register write (R353). -/
def State.logOcu (s : State) (y : Syndrome) (who : Agent) (u reg : Nat) (v : Word) : State :=
  s.log (((y.record checkNode 0x0F u (s.agentQid who)).withAddr (controlAddr iodDie 0x200 (ocuOff u reg))).withInfo 0 8 v.toNat)

/-- A write of OCU_POLY, OCU_INIT, OCU_XOROUT or OCU_CFG: the shadow takes it (R322, R352). -/
def writeOcu (s : State) (who : Agent) (u reg : Nat) (v : Word) : State :=
  if !s.ocuAllowed who u then s.refuse who true (controlAddr iodDie 0x200 (ocuOff u reg))
  else
    let t := s.openUnit u
    match reg with
    | 0x00 => s.setOpenUnit u { t with shadow := { t.shadow with poly := v } }
    | 0x08 => s.setOpenUnit u { t with shadow := { t.shadow with init := v } }
    | 0x10 => s.setOpenUnit u { t with shadow := { t.shadow with xorout := v } }
    | _ =>
      let s := if (v &&& ~~~(word 0xC00000000000037F)) = 0 then s else s.logOcu Syn.reservedWrite who u reg v
      s.setOpenUnit u { t with shadow := { t.shadow with
        refin := flagOf v 63, refout := flagOf v 62, alive := fieldOf v 8 2, width := fieldOf v 0 7 } }

/-- OCU_COMMIT written (R323, R352). -/
def writeCommit (s : State) (who : Agent) (u : Nat) (v : Word) : State :=
  if !s.ocuAllowed who u then s.refuse who true (controlAddr iodDie 0x200 (ocuOff u 0x20))
  else
    let t := s.openUnit u
    let s := if (v &&& ~~~(word 0x8000000000000001)) = 0 then s else s.logOcu Syn.reservedWrite who u 0x20 v
    if !flagOf v 63 then s
    else if t.busy.isSome then s.logOcu Syn.configWhileActive who u 0x20 v
    else if t.shadow.ok then s.setOpenUnit u { t with active := t.shadow, rejected := false }
    else (s.setOpenUnit u { t with rejected := true }).logCheck Syn.checkCfgRejected u (s.agentQid who) none

/-- OCU_COMMIT (R323). -/
def execOcuCommit (h u : Nat) (v : Word) (s : State) : Result :=
  .next (if 16 ≤ u ∧ u < 32 then s.access h (fun s => writeCommit s (.hart h) u (v ||| word (2 ^ 63))) else s)

/-- An open unit's register as it reads (R10, R322): shadows, and REJECTED. -/
def State.ocuRead (s : State) (u reg : Nat) : Word :=
  let t := s.openUnit u
  match reg with
  | 0x00 => t.shadow.poly
  | 0x08 => t.shadow.init
  | 0x10 => t.shadow.xorout
  | 0x18 => t.shadow.cfgWord
  | _ => word (bitAt t.rejected 0)

end Sys2Proof.Machine
end

