-- ==== Sys2Proof/Machine/QeOps.lean ====
section
/-! DEFINITION. What the Queue Engine's commands share (R269 to R284): contexts, doorbell effects, descriptors in flight, the accesses of initiators that never hold lines, completions. -/

namespace Sys2Proof.Machine

/-! ### Accesses of a Quire's engines and devices (R278, R291, R337, R360) -/

/-- A physical range judged for a Quire in a world (R53, R278, R360): one window with the right holds it. -/
def State.rangeCheck (s : State) (q : Nat) (secure : Bool) (k : AccKind) (a n : Nat) : PhysOk :=
  let r := rangeOf a
  if 2 ^ 52 ≤ a ∨ (!r.isMemory && decide (r ≠ .mmio32) && decide (r ≠ .mmio64)) = true then .fault
  else if r.isMemory && !(s.populated a && s.populated (a + n - 1)) then .fault
  else match s.bind.window q a n with
    | none => .fault
    | some w =>
      if w.secure && !secure then .world
      else if !w.has k.flag then .fault
      else if w.has 6 && decide (w.base + w.dataSize < a + n) then .fault
      else if w.has 7 && decide (k = .store) && decide (w.recordPage < a + n) then .fault
      else .ok r.isMemory

/-- Whether a port group answers no request: gated (R397), or without a link that is up. -/
def State.portShut (s : State) (g : Nat) : Bool := s.isGated (UnitId.of 0x0C g) || (s.group g).linkUp.isEmpty

/-- Whether a request for a line has to wait at its home (R177, R179, R189): behind the line's transaction and the requests that wait, for a slice that is being rebuilt, and for a hold window that keeps the snoop it would cause. -/
def State.lineHeld (s : State) (l : Nat) : Bool :=
  let t := s.slice (s.homeOf (64 * l))
  (s.heldAt 48 (s.bind.baseHome (64 * l))).isSome || (t.txn l).isSome || t.waiting.any (fun w => w.msg.addr == l)
    || s.harts.any (fun e => e.2.snoopHeld l s.time.cycle)

/-- The lines that n bytes from an address touch. -/
def linesIn (a n : Nat) : List Nat := (List.range ((a % 64 + n + 63) / 64)).map (a / 64 + ·)

/-- An access of an agent that never holds lines, ordered at the homes of its lines (R189): it waits while one of them is held; a port group that holds one gives it up first, or for a read its owner's data. Ranges are given as write, address and length. -/
def State.whenFree (s : State) (rs : List (Bool × Nat × Nat)) (go : State → State) : State :=
  let ls := (rs.filter (fun r => (rangeOf r.2.1).isMemory)).flatMap (fun r => (linesIn r.2.1 r.2.2).map (fun l => (r.1, l)))
  if ls.any (fun e => s.lineHeld e.2) then s
  else match ls.filter (fun e => !(s.portHolders e.2 (!e.1)).isEmpty) with
    | [] => go s
    | es => es.foldl (fun s e => s.recallPorts e.2 (!e.1) (s.portHolders e.2 (!e.1))) s

/-- Whether a range of a device lies behind a port group that answers no request (R281). -/
def State.deadRange (s : State) (a n : Nat) : Bool :=
  !(rangeOf a).isMemory && (s.portShut (mmioGroup a) || s.portShut (mmioGroup (a + n - 1)))

/-- The class of an engine's requests (R204). -/
def engineCls (node : Nat) : Nat := if node = claspNode ∨ node = govNode then 1 else 0

/-- One Dat or Cmp of an engine in its statistics page (R220); the spec leaves its latency open, so that it is a free value (log 82). -/
def State.noteEngine (s : State) (node : Nat) : State :=
  match initiatorAt node 0 with
  | some i => s.draw.2.noteStats i (engineCls node) 64 (some (s.draw.1 % 2 ^ 32))
  | none => s

/-- The naturally aligned pieces of an engine's read in its statistics page: one RdNC each (R172, R276). -/
def State.noteReads (fuel : Nat) (s : State) (node a n : Nat) : State :=
  match fuel with
  | 0 => s
  | f + 1 => if n = 0 then s else State.noteReads f (s.noteEngine node) node (a + pieceSize a n) (n - pieceSize a n)

/-- n bytes read by an engine: memory as it stands, and free bytes from a device's range (log 14); with whether any was poisoned. -/
def State.busRead (s : State) (node a n : Nat) : List Byte × Bool × State :=
  let s := s.noteReads (n / 64 + 14) node a n
  if (rangeOf a).isMemory then (s.coherentRead a n, s.coherentPoison a n, s)
  else
    let d := s.drawBytes n
    (d.1, false, d.2)

/-- The granules that n bytes from an address touch, as POISON bits of the line. -/
def touched (a n : Nat) : Poison :=
  BitVec.ofNat 4 (maskOf ((List.range 4).filter (fun i => decide (a % 64 < 16 * i + 16) && decide (16 * i < a % 64 + n))))

/-- At most 64 bytes of one line written by an engine (R276, R281): memory takes them, poisoned ones with their POISON bits; a device's range takes a WrNC. The answer tells whether the write succeeded: a retired page answers DEV_ERROR (R262). -/
def State.putPiece (s : State) (node a : Nat) (bs : List Byte) (poison : Poison) : State × Bool :=
  let s := s.noteEngine node
  if !(rangeOf a).isMemory then
    let m := { cohMsg .wrnc (mmioNode a) node 0 0 (a / 64) with
      misc := ncMisc a (Nat.log2 bs.length), hasData := true, data := lineSet 0 (a % 64) bs.length (ofLE bs), poison := poison, cls := engineCls node }
    (({ s with net := { s.net with io := s.net.io ++ [m] } }).noteAt (mmioNode a) 0 m.cls 64 none, true)
  else if s.retired a then (s, false)
  else
    let t := s.writeBytes a bs
    if poison ≠ 0 then
      let v := t.lineValue (a / 64)
      (t.coherentWriteLine (a / 64) v.1 (v.2 ||| poison), true)
    else (t, true)

/-- Bytes written in ascending naturally aligned pieces (R276): the state, the bytes written without a gap, and whether all were. -/
def State.putBytes (fuel : Nat) (s : State) (node a : Nat) (bs : List Byte) (poison : Bool) (n : Nat) : State × Nat × Bool :=
  match fuel with
  | 0 => (s, n, true)
  | f + 1 =>
    if bs.isEmpty then (s, n, true)
    else
      let part := bs.take (pieceSize a bs.length)
      let r := s.putPiece node a part (if poison then touched a part.length else 0)
      if r.2 then State.putBytes f r.1 node (a + part.length) (bs.drop part.length) poison (n + part.length) else (s, n, false)

/-- Bytes written by an engine, with enough steps for their length. -/
def State.put (s : State) (node a : Nat) (bs : List Byte) (poison : Bool) : State × Nat × Bool :=
  s.putBytes (bs.length / 64 + 14) node a bs poison 0

/-! ### Contexts (R269 to R272) -/

def queueCount : Nat := 2097152

/-- The Queue Engine context table's place (R272). -/
def State.ctxBase (s : State) : Nat :=
  if s.mem.ddrN = 0 then hbmBase + s.fuse.hbmGibPerBd * gib - 0x8000000
  else ddrBase + s.mem.ddrN * s.mem.dimmGib * gib - 0x8000000

/-- QE syndromes of a queue (R297, R429). -/
def State.logQe (s : State) (y : Syndrome) (q : Nat) (v : Option Nat) (a : Option Nat) : State :=
  let r := (y.record feNode 0x0B 0 (s.queue q).qid).withInfo 0 4 q
  let r := match v with | some n => r.withInfo 8 8 n | none => r
  let r := match a with | some n => r.withAddr n | none => r
  s.log (r.withSecure (s.queue q).secure)

/-- A queue enters ERROR (R272). -/
def State.queueError (s : State) (q err : Nat) : State :=
  s.setQueue q { s.queue q with st := .error, error := err }

/-- A context brought into the front end's cache (R272): a victim is drawn once all 16,384 places are taken; a poisoned context puts its queue into ERROR. -/
def State.loadCtx (s : State) (q : Nat) : State :=
  if s.qe.cached.contains q then s
  else
    let a := s.ctxBase + q * 64
    let v := lfsrStep s.qe.lfsr
    let qe := if s.qe.cached.length < 16384 then { s.qe with cached := s.qe.cached ++ [q] }
      else { s.qe with cached := s.qe.cached.set (lfsrPick v 16384) q, lfsr := v }
    let s : State := { s with qe := qe }
    if s.mem.linePoison (a / 64) ≠ 0 then (s.queueError q 3).logQe Syn.qeCtxPoison q none (some a) else s

/-- Entries held by a ring. -/
def QCtx.held (c : QCtx) : Nat := (c.prod - c.cons).toNat

/-- The address of ring entry i (R270). -/
def QCtx.entry (c : QCtx) (i : BitVec 32) : Nat := c.ringBase + i.toNat % 2 ^ c.log2 * 64

/-- Whether a ring is well placed for its queue (R271): its alignment, and one window of the Quire with the right and the queue's own world tag. -/
def State.ringOk (s : State) (q base log2 : Nat) (sq : Bool) : Bool :=
  let secure := s.bind.queueSecure 1 q
  base % min (2 ^ log2 * 64) 4096 == 0 &&
    match s.bind.window (s.bind.queueOwner 1 q) base (2 ^ log2 * 64) with
    | some w => w.has (if sq then 0 else 1) && w.secure == secure
    | none => false

/-- Whether one ring entry can be reached now: the ring lies inside a window of the queue's Quire still (R279). -/
def State.entryOk (s : State) (c : QCtx) (a : Nat) (sq : Bool) : Bool :=
  match s.bind.window c.qid a 64 with
  | some w => w.has (if sq then 0 else 1) && w.secure == c.secure && s.populated a
  | none => false

/-! ### Completion queues and their MSIs (R274, R282) -/

/-- The MSI of a CQ (R59, R282, R432): discarded where the Quire may no longer signal the identity. ARMED is cleared either way. -/
def State.cqMsi (s : State) (q : Nat) : State :=
  let c := s.queue q
  let s := s.setQueue q { c with armed := false }
  if s.maySignal c.qid c.irqHart c.irqFile c.irqId then s.sendMsi c.irqHart c.irqFile c.irqId c.secure
  else s.logQe Syn.qeMsiDenied q none none

/-! ### Doorbells (R273, R274) -/

/-- Whether a VI is being reset (R287). -/
def State.viResetting (s : State) (v : Nat) : Bool := decide ((s.vi v).mode ≠ .none)

/-- A doorbell value for an enabled SQ (R274). -/
def State.sqDoorbell (s : State) (q : Nat) (v : BitVec 32) : State :=
  let c := s.queue q
  let d := (v - c.cons).toNat
  if 2 ^ c.log2 < d ∨ d < (c.fetch - c.cons).toNat then (s.queueError q 1).logQe Syn.qeDbRange q (some v.toNat) none
  else s.setQueue q { c with prod := v }

/-- A doorbell value for an enabled CQ (R274). -/
def State.cqDoorbell (s : State) (q : Nat) (v : BitVec 32) : State :=
  let c := s.queue q
  if 2 ^ c.log2 < (c.prod - v).toNat then (s.queueError q 1).logQe Syn.qeDbRange q (some v.toNat) none
  else
    let s := s.setQueue q { c with cons := v, armed := true }
    if c.irqEn && c.prod != v then s.cqMsi q else s

/-- A new index delivered to a queue (R274). -/
def State.doorbell (s : State) (q : Nat) (v : BitVec 32) : State :=
  let s := s.loadCtx q
  let c := s.queue q
  if c.st ≠ .enabled ∨ s.viResetting c.vi = true then s.logQe Syn.qeDoorbellIgnored q (some v.toNat) none
  else if c.ty = 1 then s.sqDoorbell q v
  else s.cqDoorbell q v

/-- A store to a doorbell slot by an initiator that may access it (R273). -/
def State.doorbellStore (s : State) (q off size : Nat) (v : Word) : State :=
  if off = 0 ∧ size = 8 then
    if fieldOf v 32 32 = 0 then s.doorbell q (v.setWidth 32) else s.logQe Syn.qeDoorbellBad q (some v.toNat) none
  else s.logQe Syn.qeDoorbellBad q (some v.toNat) none

/-! ### Lanes and flights (R275, R279) -/

/-- The working lane of an SQ (R279), 8 where none remains: the front end. -/
def State.laneOf (s : State) (q : Nat) : Nat :=
  (((List.range 8).map (fun i => (q + i) % 8)).find? (fun n => !(s.lane n).fenced)).getD 8

/-- LANE of a completion (R280). -/
def laneByte (n : Nat) : Nat := if n = 8 then 0xFF else n

def laneNodeOf (n : Nat) : Nat := if n = 8 then feNode else laneNode n
def laneUnit (n : Nat) : UnitId := if n = 8 then UnitId.of 0x0B 0 else UnitId.of 0x0A n

def State.flight (s : State) (d : DescRef) : Option Flight :=
  (s.lane d.lane).flights.find? (fun f => f.sq == d.sq && f.idx == d.idx)

def State.modFlight (s : State) (d : DescRef) (g : Flight → Flight) : State :=
  let l := s.lane d.lane
  s.setLane d.lane { l with flights := l.flights.map (fun f => if f.sq == d.sq && f.idx == d.idx then g f else f) }

/-- A descriptor whose last write is answered (R279), with what its completion will carry. -/
def State.finish (s : State) (d : DescRef) (status len : Nat) (result : Nat) : State :=
  s.modFlight d (fun f => { f with st := .done, status := status, length := len, result := BitVec.ofNat 128 result })

/-- Fields of a descriptor (R275). -/
def Flight.op (f : Flight) : Nat := lineGet f.raw 0 1
def Flight.flags (f : Flight) : Nat := lineGet f.raw 1 1
def Flight.len (f : Flight) : Nat := lineGet f.raw 4 4
def Flight.tag (f : Flight) : Nat := lineGet f.raw 8 8
def Flight.src (f : Flight) : Nat := lineGet f.raw 16 8
def Flight.dst (f : Flight) : Nat := lineGet f.raw 24 8
def Flight.deadline (f : Flight) : Nat := lineGet f.raw 32 8
def Flight.arg (f : Flight) (off n : Nat) : Nat := lineGet f.raw (40 + off) n

/-- FLAGS of a descriptor. -/
def Flight.noRepeat (f : Flight) : Bool := bitOf f.flags 0
def Flight.fence (f : Flight) : Bool := bitOf f.flags 1
def Flight.silent (f : Flight) : Bool := bitOf f.flags 2
def Flight.dropLate (f : Flight) : Bool := bitOf f.flags 3

/-- The function, Quire and world of a descriptor's VI (R58, R285). -/
def State.viFunction (s : State) (v : Nat) : Nat := ((s.bind.queueRec 2 v).map (·.function)).getD 0
def State.viQid (s : State) (v : Nat) : Nat := s.bind.queueOwner 2 v
def State.viSecure (s : State) (v : Nat) : Bool := s.bind.queueSecure 2 v

/-- A world violation of a lane is logged (R360, R377). -/
def State.laneRange (s : State) (lane : Nat) (f : Flight) (k : AccKind) (a n : Nat) : State × Bool :=
  match s.rangeCheck (s.viQid f.vi) (s.viSecure f.vi) k a n with
  | .ok _ => (s, true)
  | .fault => (s, false)
  | .world =>
    (s.log (((Syn.worldAccessDenied.record (laneNodeOf lane) 0x16 f.vi (s.viQid f.vi)).withAddr a).withSecure true), false)

/-- DL_QE_LATE and DL_QE_EXPIRED (R283, R328, R359). -/
def State.qeMiss (s : State) (y : Syndrome) (lane : Nat) (f : Flight) : State :=
  let u := laneUnit lane
  let q := (s.queue f.sq).qid
  s.deadlineMissOf q (((((y.record (laneNodeOf lane) u.ty u.no q).withInfo 0 4 f.sq).withInfo 4 4 f.idx).withInfo 8 8 f.deadline).withSecure
    (s.queue f.sq).secure)

/-! ### Completions (R279 to R283) -/

/-- The 64 bytes of a completion entry (R280). -/
def completionBytes (lane : Nat) (f : Flight) (phase : Nat) (late : Bool) (now : Nat) : List Byte :=
  toLE 1 f.status ++ toLE 1 (phase + bitAt late 1 + bitAt f.reissued 2) ++ toLE 1 (laneByte lane) ++ toLE 1 0
    ++ toLE 4 f.length ++ toLE 8 f.tag ++ toLE 4 f.sq ++ toLE 4 f.idx ++ toLE 8 now ++ toLE 16 f.result.toNat ++ toLE 16 0

/-- A flight leaves its lane, and its SQ's CONS_IDX advances past it (R270). -/
def State.retireFlight (s : State) (d : DescRef) : State :=
  let l := s.lane d.lane
  let s := s.setLane d.lane { l with flights := l.flights.filter (fun f => !(f.sq == d.sq && f.idx == d.idx)) }
  s.setQueue d.sq { s.queue d.sq with cons := (s.queue d.sq).cons + 1 }

/-- A completion due to a CQ that is not ENABLED (R282). -/
def State.cqDropped (s : State) (cq q : Nat) : State :=
  s.log (((Syn.qeCqDropped.record feNode 0x0B 0 q).withInfo 0 4 cq).withInfo 4 4 1)

/-- A completion entry written to its CQ (R279, R280, R282): a failed write puts the CQ into ERROR. -/
def State.postEntry (s : State) (d : DescRef) (f : Flight) (cq : Nat) : State :=
  let c := s.queue cq
  let late := f.deadline != 0 && decide (f.deadline < s.now) && f.status != 9
  let a := c.entry c.prod
  let q := (s.queue f.sq).qid
  let phase := 1 - c.prod.toNat / 2 ^ c.log2 % 2
  if !s.entryOk c a false || s.retired a then
    ((s.queueError cq 2).logQe Syn.qeRingFault cq none (some a)).cqDropped cq q
  else
    let s := (s.noteEngine (laneNodeOf d.lane)).writeBytes a (completionBytes d.lane f phase late s.now)
    let s := s.setQueue cq { s.queue cq with prod := c.prod + 1 }
    let s := if c.irqEn && c.armed then s.cqMsi cq else s
    if late then s.qeMiss Syn.dlQeLate d.lane f else s

/-- The completion of a done descriptor whose turn it is (R279, R281, R282, R287): a full CQ holds it back, but a squashed one is dropped and counted. -/
def State.complete (s : State) (d : DescRef) (f : Flight) : State :=
  let c := (s.queue d.sq).cq
  let late := f.deadline != 0 && decide (f.deadline < s.now)
  if f.silent && f.status == 0 then
    let s := if late then s.qeMiss Syn.dlQeLate d.lane f else s
    s.retireFlight d
  else
    let s := s.loadCtx c
    if (s.queue c).st ≠ .enabled then (s.cqDropped c (s.queue d.sq).qid).retireFlight d
    else if 2 ^ (s.queue c).log2 ≤ (s.queue c).held then
      if f.status = 2 then
        let v := s.vi f.vi
        let s := if decide (v.mode = .none) then s.cqDropped c (s.queue d.sq).qid
          else s.setVi f.vi { v with dropped := satAdd 0x3FFFFFFF v.dropped 1 }
        s.retireFlight d
      else s
    else s.whenFree [(true, (s.queue c).entry (s.queue c).prod, 64)] (fun s => (s.postEntry d f c).retireFlight d)

/-- DESCRIPTOR_COMPLETE (R279, R284): the oldest descriptor of its SQ, once done, gets its completion; one of a failed lane only when it has been handled. -/
def descriptorComplete (s : State) (d : DescRef) : State :=
  match s.flight d with
  | none => s
  | some f =>
    if f.st ≠ .done ∨ (s.queue d.sq).cons.toNat ≠ f.idx ∨ (s.lane d.lane).fenced = true then s else s.complete d f

def execDescriptorComplete (d : DescRef) (s : State) : Result := .next (descriptorComplete s d)

/-! ### Squashing (R287, R288) -/

/-- The bytes from DST that a waiting System Link operation has written without a gap (R278, R287): those ahead of the first answer still missing of an SL_READ, and the segments that an SL_RECV has got. -/
def State.slGapless (s : State) (d : DescRef) (f : Flight) : Nat :=
  if f.st ≠ .waiting then 0
  else if f.op = 0x31 then ((s.sl.reqs.filter (fun r => r.desc == d)).map (·.off)).foldl min f.length
  else if f.op = 0x33 then ((s.sl.recvs.find? (fun r => r.desc == d)).map (·.got)).getD 0
  else 0

/-- Every fetched descriptor that meets a test, one whose completion a full CQ holds back too, ends with SQUASHED and the bytes it has written without a gap (R281, R287). -/
def State.squash (s : State) (p : Flight → Bool) : State :=
  let kill := fun (lane : Nat) (f : Flight) =>
    if p f then
      { f with st := .done, status := 2, result := 0,
               length := if f.st = .done then f.length else s.slGapless { lane := lane, sq := f.sq, idx := f.idx } f }
    else f
  { s with qe := { s.qe with lanes := s.qe.lanes.map (fun e => (e.1, { e.2 with flights := e.2.flights.map (kill e.1) })) },
           sl := { s.sl with
             reqs := s.sl.reqs.filter (fun r => !(((s.flight r.desc).map p).getD false)),
             recvs := s.sl.recvs.filter (fun r => !(((s.flight r.desc).map p).getD false)) },
           chk := { s.chk with units := s.chk.units.map (fun e =>
             (e.1, if (e.2.busy.map (fun d => ((s.flight d).map p).getD false)).getD false then { e.2 with busy := none } else e.2)) } }

/-- Whether any descriptor of a queue is in flight. -/
def State.queueBusy (s : State) (q : Nat) : Bool := s.qe.lanes.any (fun e => e.2.flights.any (fun f => f.sq == q))

/-- Whether any descriptor of a VI is in flight. -/
def State.viBusy (s : State) (v : Nat) : Bool := s.qe.lanes.any (fun e => e.2.flights.any (fun f => f.vi == v))

end Sys2Proof.Machine
end

