-- ==== Sys2Proof/Machine/SysLink.lean ====
section
/-! DEFINITION. System Links (R298 to R315): ports and flits, replay, routes, remote windows, queue messages, heartbeats and peers. -/

namespace Sys2Proof.Machine

/-! ### Records -/

/-- A System Link syndrome of a port (R315, R429). -/
def State.slRecord (s : State) (y : Syndrome) (p : Nat) : ErrRec :=
  (y.record (slNode p) 0x0D p 0).withInfo 8 2 (s.slPort p).peerPkg

def State.logSl (s : State) (y : Syndrome) (p : Nat) : State := s.log (s.slRecord y p)

/-- A port back in service once its peer is UP again (R311). -/
def State.slServe (s : State) (p : Nat) : State :=
  { s with err := { s.err with fenced := s.err.fenced.filter (fun f => f.unit != UnitId.of 0x0D p) } }

/-! ### Requests that end (R304, R306) -/

/-- A System Link operation answered for one of its messages (R306): a failed one gives DEV_ERROR with its reason, and LENGTH the bytes ahead of the first failure. The descriptor is done once no message of it waits. -/
def State.slAnswered (s : State) (r : SlReq) (reason : Nat) : State :=
  let s := { s with sl := { s.sl with reqs := s.sl.reqs.erase r } }
  let more := s.sl.reqs.any (fun x => x.desc == r.desc)
  s.modFlight r.desc (fun f =>
    let f := if reason = 0 ∨ (f.status ≠ 0 ∧ f.status ≠ 4) then f else { f with status := 8, result := BitVec.ofNat 128 reason }
    let f := if reason = 0 then f else { f with length := min f.length r.off }
    if more then f else { f with st := .done })

/-- Everything that waits on a port whose peer is LOST or RESETTING ends with PEER_LOST (R304, R314). -/
def State.slPeerGone (s : State) (p : Nat) : State :=
  let t := s.slPort p
  let s := s.setSlPort p { t with replay := [], out := [], waiting := [] }
  (s.sl.reqs.filter (fun r => r.port == p)).foldl (fun s r => s.slAnswered r 2) s

/-- G streams that end at a port are demoted unless it is UP at ×8 (R310). -/
def State.slDemote (s : State) (p : Nat) : State := s.demoteWhere (fun g => g.dstNode == slNode p || g.srcNode == slNode p)

/-! ### Routes (R302, R303, R311) -/

/-- Where a message for a package goes: a port with its peer UP, or the reason of its refusal, 0 for this package itself, whose messages are delivered locally. -/
def State.slRoute (s : State) (dest : Nat) : Sum Nat Nat :=
  if dest = s.bind.packageId then .inr 0
  else match s.bind.sysLink.bind (fun t => t.routes.find? (fun r => r.dest == dest)) with
  | none => .inr 1
  | some r =>
    let up := fun (p : Nat) => decide ((s.slPort p).peer = .up)
    let cut := fun (p : Nat) => decide ((s.slPort p).peer = .isolated)
    if up r.port then .inl r.port
    else if r.altPort ≠ 0xFF ∧ up r.altPort = true then .inl r.altPort
    else if cut r.port ∨ (r.altPort ≠ 0xFF ∧ cut r.altPort = true) then .inr 2
    else .inr 1

/-- SL_NO_ROUTE, at the port that the route names or port 0 (R303). -/
def State.logNoRoute (s : State) (dest : Nat) : State :=
  let p := ((s.bind.sysLink.bind (fun t => t.routes.find? (fun r => r.dest == dest))).map (·.port)).getD 0
  s.log ((Syn.slNoRoute.record (slNode p) 0x0D p 0).withInfo 8 2 dest)

/-- A message of this package sent to another (R303); a refused one tells its reason. -/
def State.slSendTo (s : State) (m : SlMsg) : Sum State (State × Nat) :=
  match s.slRoute m.dstPkg with
  | .inl p => .inl (s.slSend p m)
  | .inr 1 => .inr (s.logNoRoute m.dstPkg, 1)
  | .inr e => .inr (s, e)

/-- A message with the header fields of this package (R300). -/
def State.slNew (s : State) (kind dest tag : Nat) (secure : Bool) (body : List Byte) : SlMsg :=
  { kind := kind, hops := 15, secure := secure, poison := false, srcPkg := s.bind.packageId, dstPkg := dest, tag := tag,
    stream := 0, status := 0, body := body }

/-- READ_DATA (R306): the data is written to DST, with its poison; a range that is no longer allowed ends the descriptor with ADDR_FAULT (R278). -/
def State.slDataIn (s : State) (r : SlReq) (m : SlMsg) : State :=
  match s.flight r.desc with
  | none => s.slAnswered r 0
  | some f =>
    if m.status ≠ 0 then s.slAnswered r m.status
    else
      let a := f.dst + r.off
      let bs := m.body.take r.len
      let ok := s.laneRange r.desc.lane f .store a bs.length
      if !ok.2 then
        (ok.1.slAnswered r 0).modFlight r.desc (fun g => { g with status := if g.status = 0 then 3 else g.status, length := min g.length r.off })
      else
        let w := ok.1.put (laneNodeOf r.desc.lane) a bs m.poison
        let s := w.1.slAnswered r 0
        s.modFlight r.desc (fun g =>
          if !w.2.2 then { g with status := if g.status = 0 then 8 else g.status, length := min g.length (r.off + w.2.1) }
          else if m.poison && g.status == 0 then { g with status := 4 } else g)

/-- An answer for this package, matched to its request by TAG (R300, R306). -/
def State.slAnswerIn (s : State) (m : SlMsg) : State :=
  match s.sl.reqs.find? (fun r => r.tag == m.tag) with
  | some r => if m.kind = 5 then s.slDataIn r m else s.slAnswered r m.status
  | none => s

/-- An answer to a request (R300): its kind is the request's plus 1, back to the sender with the request's tag; a sender in this package gets it locally (R303). -/
def State.slAnswer (s : State) (m : SlMsg) (status : Nat) (poison : Bool) (body : List Byte) : State :=
  let a := { s.slNew (m.kind + 1) m.srcPkg m.tag m.secure body with status := status, poison := poison }
  if m.srcPkg = s.bind.packageId then s.slAnswerIn a
  else match s.slSendTo a with
    | .inl t => t
    | .inr (t, _) => t

/-- Whether a message is a request that gets an answer. -/
def slRequest (m : SlMsg) : Bool := m.kind == 2 || m.kind == 4 || m.kind == 6

/-- A message for another package is forwarded with one hop less (R303); one that cannot go on is discarded and logged, and a request is answered with the reason. -/
def State.slForward (s : State) (p : Nat) (m : SlMsg) : State :=
  if m.hops = 0 then
    let s := s.logSl Syn.slHopLimit p
    if slRequest m then s.slAnswer m 6 false [] else s
  else
    match s.slSendTo { m with hops := m.hops - 1 } with
    | .inl t => t
    | .inr (t, e) => if slRequest m then t.slAnswer m e false [] else t

/-! ### Receiving -/

/-- The package state that HEARTBEATs report (R314): the target from the start of entry, the state until the end of exit. -/
def Power.reported (w : Power) : Nat :=
  match w.pkEntering with
  | some k => k
  | none => w.pk

/-- Whether the ports work in wake-hold mode (R314). -/
def State.wakeHold (s : State) : Bool := decide (2 ≤ s.pwr.reported)

/-- Whether a port delivers a message now: its link is UP, and its peer is not isolated. -/
def State.slOpen (s : State) (p : Nat) : Bool :=
  let t := s.slPort p
  t.released && decide (t.link = .up) && decide (t.peer ≠ .isolated) && !s.wakeHold

/-- A delivered message is no longer waiting at its port (log 7). -/
def State.slTake (s : State) (p : Nat) (m : SlMsg) : State :=
  s.setSlPort p { s.slPort p with inq := (s.slPort p).inq.erase m }

/-- A message other than HEARTBEAT and LINK_INIT handled at its port: taken, and forwarded where it is for another package (R303). -/
def State.slHandle (s : State) (p : Nat) (m : SlMsg) (f : State → State) : State :=
  if !s.slOpen p then s
  else
    let s := s.slTake p m
    if m.dstPkg = s.bind.packageId then f s else s.slForward p m

/-- An acknowledged flit leaves the replay buffer with all before it (R301), and messages that waited for room enter. -/
def SlPort.acked (t : SlPort) (ack : Nat) : SlPort :=
  match t.replay.findIdx? (fun f => f.seq == ack) with
  | some i => { t with replay := t.replay.drop (i + 1), resends := 0 }
  | none => t

/-- Messages that waited for replay space enter flits, Class G ones first (R300, R301). -/
def SlPort.refill (fuel : Nat) (t : SlPort) (c : CheckCfg) : SlPort :=
  match fuel with
  | 0 => t
  | f + 1 =>
    match (t.out.find? (fun m => m.kind == 1)).orElse (fun _ => t.out.head?) with
    | none => t
    | some m => if 256 ≤ t.replay.length then t else SlPort.refill f ({ t with out := t.out.erase m }.flit c m) c

/-- A link that goes down or retrains (R301, R315, R327). -/
def State.slDrop (s : State) (p : Nat) (retrain : Bool) : State :=
  let t := s.slPort p
  let s := s.setSlPort p { t with link := if retrain then .training else .down, aliveRx := none, nakPending := false, nakSeen := false, resends := 0 }
  (s.logSl Syn.slLinkDown p).slDemote p

/-- SL_LINK_DOWN (R315). -/
def execSlLinkDown (p : Nat) (retrain : Bool) (s : State) : Result :=
  .next (if (s.slPort p).link = .up then s.slDrop p retrain else s)

/-- Messages taken from an accepted flit (R300, R314): unknown kinds are discarded and logged; in wake-hold mode all but HEARTBEAT and LINK_INIT go into the wake buffer; an ISOLATED peer exchanges only these two (R311). -/
def State.slAccept (s : State) (p : Nat) (f : SlFlit) : State :=
  let ok := f.msgs.filter (fun m => 1 ≤ m.kind && m.kind ≤ 9)
  let s := if ok.length < f.msgs.length then s.logSl Syn.slAliveFault p else s
  let t := s.slPort p
  let known := if t.peer = .isolated then ok.filter slAlways else ok
  if s.wakeHold then
    let hold := known.filter (fun m => !slAlways m)
    s.setSlPort p { t with inq := t.inq ++ known.filter slAlways,
                           wake := if hold.isEmpty then t.wake else t.wake ++ [{ f with msgs := hold }] }
  else s.setSlPort p { t with inq := t.inq ++ known }

/-- LINK_FLIT (R299, R301, R314, R320): a flit that fails its check or arrives out of order is discarded and NAKed; an accepted one is acknowledged, its alive value judged and its messages taken.
A flit that the full wake buffer cannot take is not acknowledged. -/
def linkFlit (s : State) (p : Nat) (f : SlFlit) : State :=
  let t := s.slPort p
  if !(t.released && decide (t.link = .up)) || s.isGated (UnitId.of 0x0D p) then s
  else if !slFlitOk (s.checkCfg (8 + p)) f || f.seq != (t.rxSeq + 1) % 1024 then
    s.setSlPort p { t with nakPending := true }
  else if s.wakeHold && decide (512 ≤ t.wake.length) && f.msgs.any (fun m => !slAlways m) then s
  else
    let bits := s.bind.aliveBits p
    let v := f.alive % 2 ^ bits
    let verdict := if bits = 0 then Alive.ok else judgeAlive bits t.aliveRx v
    let t := ({ t with rxSeq := f.seq, aliveRx := if bits = 0 then none else some v, nakSeen := t.nakSeen || f.nak }.acked f.ack).refill 256 (s.checkCfg (8 + p))
    let s := (s.setSlPort p t).slAccept p f
    if verdict = .ok then s else (s.logSl Syn.slAliveFault p).slDrop p true

def execLinkFlit (p : Nat) (f : SlFlit) (s : State) : Result := .next (linkFlit s p f)

/-- REPLAY (R301): after a NAK every flit from the next SEQ is sent again; the eighth time in a row makes the link retrain. -/
def replay (s : State) (p : Nat) : State :=
  let t := s.slPort p
  if !(decide (t.link = .up) && t.nakSeen && !t.replay.isEmpty) then s
  else
    let t := { t with nakSeen := false, resends := t.resends + 1, replays := satAdd 0xFFFF t.replays t.replay.length }
    if 8 ≤ t.resends then (s.setSlPort p t).slDrop p true else s.setSlPort p t

def execReplay (p : Nat) (s : State) : Result := .next (replay s p)

/-! ### Link-up and peers (R302, R311, R312) -/

/-- The body of a LINK_INIT (R300). -/
def State.linkInitMsg (s : State) (p : Nat) : SlMsg :=
  s.slNew 9 (s.slPort p).peerPkg 0 false (toLE 2 s.bind.packageId ++ toLE 2 0 ++ toLE 4 s.boot.bootCount ++ toLE 8 0)

/-- SL_LINK_UP (R298, R302): the link is up at a width and a rate, and LINK_INIT is sent; below ×8 or 64 GT/s, the port's streams are demoted (R310). -/
def slLinkUp (s : State) (p width : Nat) (fullRate : Bool) : State :=
  let t := s.slPort p
  if !t.released || decide (t.link = .up) || decide (4 ≤ width) then s
  else
    let fresh := decide (t.link = .down)
    let t := { t with link := .up, width := width, fullRate := fullRate, aliveRx := none, rip := false,
                      txSeq := if fresh then 0 else t.txSeq, rxSeq := if fresh then 0 else t.rxSeq,
                      aliveTx := if fresh then 0 else t.aliveTx, replay := if fresh then [] else t.replay, lastHb := s.time.now }
    let s := s.setSlPort p t
    let s := s.slSend p (s.linkInitMsg p)
    if width = 0 ∧ fullRate = true then s else s.slDemote p

def execSlLinkUp (p : Nat) (rate : LinkRate) (s : State) : Result := .next (slLinkUp s p rate.width rate.full)

/-- LINK_INIT (R302, R311, R312): a peer with this package's own ID keeps the port down; else it becomes UP, or ISOLATED on its return under ISOLATE. -/
def linkInit (s : State) (p : Nat) (m : SlMsg) : State :=
  let t := s.slPort p
  if !(t.released && decide (t.link = .up)) then s
  else
    let s := s.slTake p m
    let t := s.slPort p
    let id := numAt m.body 0 2
    let boots := numAt m.body 4 4
    if id = s.bind.packageId then
      (s.setSlPort p { t with link := .down }).log ((Syn.slIdConflict.record (slNode p) 0x0D p 0).withInfo 8 2 id)
    else
      let act := s.bind.action 0 id
      let t := { t with peerPkg := id, peerBoot := boots, lastHb := s.time.now }
      match t.peer with
      | .absent => (s.setSlPort p { t with peer := .up }).slServe p
      | .resetting | .lost =>
        let s := s.setSlPort p { t with peer := if act = 2 then .isolated else .up }
        let s := s.log ((s.slRecord Syn.slPeerReappeared p).withInfo 0 4 boots)
        let s := if 1 ≤ act then s.notifyQuire (((s.bind.partnerRec 0 id).map (·.notifyQid)).getD 0) else s
        if act = 2 then s else s.slServe p
      | .up => (s.setSlPort p t).slServe p
      | .isolated => s.setSlPort p t

def execLinkInit (p : Nat) (m : SlMsg) (s : State) : Result := .next (linkInit s p { m with kind := 9 })

/-- A peer leaves UP (R304, R310, R311). -/
def State.slLeave (s : State) (p : Nat) (st : PeerSt) : State :=
  ((s.setSlPort p { s.slPort p with peer := st }).slPeerGone p).slDemote p

/-- RIP (R311): the peer of an UP port is resetting. -/
def rip (s : State) (p : Nat) : State :=
  let t := s.slPort p
  if t.released = true ∧ t.peer = .up then
    let s := (s.setSlPort p { t with resettingAt := s.time.now }).slLeave p .resetting
    (s.logSl Syn.slPeerResetting p).partnerAct 0 t.peerPkg
  else s

def execRip (p : Nat) (s : State) : Result := .next (rip s p)

/-- PEER_HEARTBEAT_TIMEOUT (R311): 3,500 ns without a valid HEARTBEAT make an UP peer LOST. -/
def peerHeartbeatTimeout (s : State) (p : Nat) : State :=
  let t := s.slPort p
  if t.peer = .up ∧ t.lastHb + 3500 ≤ s.time.now then
    ((s.slLeave p .lost).logSl Syn.slPeerLost p).partnerAct 0 t.peerPkg
  else s

def execPeerHeartbeatTimeout (p : Nat) (s : State) : Result := .next (peerHeartbeatTimeout s p)

/-- PEER_RESET_TIMEOUT (R311): 100 ms in RESETTING without LINK_INIT make the peer LOST. -/
def peerResetTimeout (s : State) (p : Nat) : State :=
  let t := s.slPort p
  if t.peer = .resetting ∧ t.resettingAt + 100000000 ≤ s.time.now then
    (s.setSlPort p { t with peer := .lost }).logSl Syn.slPeerLost p
  else s

def execPeerResetTimeout (p : Nat) (s : State) : Result := .next (peerResetTimeout s p)

/-! ### Heartbeats and time (R311, R313, R314) -/

/-- HEARTBEAT_SEND (R300, R311, R313, R314): once every 1 µs each port with its link UP sends one; a microsecond without one from the peer counts in MISSED_HB. -/
def heartbeatSend (s : State) (p : Nat) : State :=
  let t := s.slPort p
  if !(t.released && decide (t.link = .up)) || s.isGated (UnitId.of 0x0D p) then s
  else
    let ttx := 16 * s.time.now
    let hold := if t.lastTtx = 0 then 0 else ttx - t.lastT4
    let body := toLE 4 s.boot.bootCount ++ toLE 1 s.pwr.reported ++ toLE 1 (if t.waiting.isEmpty then 0 else 1) ++ toLE 2 0
      ++ toLE 8 ttx ++ toLE 8 t.lastTtx ++ toLE 8 hold
    let missed := decide (t.peer = .up) && decide (t.lastHb + 1000 ≤ s.time.now)
    let s := if missed then s.setSlPort p { t with missedHb := satAdd 0xFFFF t.missedHb 1 } else s
    s.slSend p (s.slNew 8 t.peerPkg 0 false body)

def execHeartbeatSend (p : Nat) (s : State) : Result := .next (heartbeatSend s p)

/-- The last 16 of a list that grows at its end. -/
def last16 (l : List Int) : List Int := l.drop (l.length - 16)

/-- Messages that waited for a sleeping peer go first, in order, once it reports PKSTATE 0 or 1 (R314). -/
def State.slFlushWaiting (s : State) (p : Nat) : State :=
  let t := s.slPort p
  if 2 ≤ t.peerPk then s
  else t.waiting.foldl (fun s m => s.slSend p m) (s.setSlPort p { t with waiting := [] })

/-- HEARTBEAT (R311, R313, R314): the peer is alive; the offset and the delay of R313 are formed, each rounded towards zero, unless T_ECHO is 0 or lies more than 16 µs before t4. -/
def heartbeat (s : State) (p : Nat) (m : SlMsg) (t4 : Nat) : State :=
  let t := s.slPort p
  if !(t.released && decide (t.link = .up)) then s
  else
    let s := s.slTake p m
    let t := s.slPort p
    let t1 : Int := numAt m.body 16 8
    let t3 : Int := numAt m.body 8 8
    let t2 : Int := t3 - (numAt m.body 24 8 : Int)
    let t4i : Int := t4
    let t := { t with peerPk := numAt m.body 4 1, peerBoot := numAt m.body 0 4, lastHb := s.time.now,
                      wakeReq := t.wakeReq || (s.wakeHold && numAt m.body 5 1 == 1), lastTtx := numAt m.body 8 8, lastT4 := t4 }
    let t := if t1 = 0 ∨ 256000 < t4i - t1 then t
      else { t with offs := last16 (t.offs ++ [Int.tdiv ((t2 - t1) - (t4i - t3)) 2]),
                    delays := last16 (t.delays ++ [Int.tdiv ((t2 - t1) + (t4i - t3)) 2]) }
    (s.setSlPort p t).slFlushWaiting p

def execHeartbeat (p : Nat) (m : SlMsg) (t4 : Nat) (s : State) : Result := .next (heartbeat s p { m with kind := 8 } t4)

/-- The average of 16 values, rounded towards zero; 0 until 16 exist (R313). -/
def average16 (l : List Int) : Int := if l.length < 16 then 0 else Int.tdiv (l.foldl (· + ·) 0) 16

/-- SL_TIME (R313). -/
def SlPort.time (t : SlPort) : Word :=
  word (toSigned 32 (average16 t.delays) * 2 ^ 32 + toSigned 32 (average16 t.offs))

/-! ### Class G (R308, R310) -/

/-- The mailbox flit that a G_MSG becomes on its local stream (R308). -/
def gMail (t : GStream) (p : Nat) (m : SlMsg) : MailMsg :=
  { dstNode := t.dstNode, dstCore := t.dstCore, srcNode := slNode p, srcCore := 0, srcHart := numAt m.body 0 2,
    stream := m.stream, deadlineLo := BitVec.ofNat 32 (numAt m.body 4 4), secure := m.secure,
    payload := BitVec.ofNat 384 (ofLE (bytesAt m.body 8 48)) }

/-- G_MSG (R215, R219, R308, R310): delivered on the local stream with its number and this port as its source, in a source slot of that stream and not while it is held; without one it is discarded and logged. One of a stream demoted by a port that is not UP at ×8 and 64 GT/s is discarded (R310). -/
def gMsg (s : State) (p : Nat) (m : SlMsg) : State :=
  let t := s.stream m.stream
  if !s.slOpen p then s
  else if t.st = .absent ∨ t.desc.srcNode ≠ slNode p ∨ 1024 ≤ m.stream then (s.slTake p m).logSl Syn.slGUnknown p
  else if t.st = .demoted ∧ (s.slPort p).fullSpeed = false then s.slTake p m
  else if t.st = .held ∨ t.st = .active ∧ s.inSlot m.stream = false then s
    else
      let s := (s.slTake p m).noteStats (400 + p) (s.mailCls m.stream) 48 none
      let s := s.setStream m.stream
        (if t.st = .demoted then { t with uMsgs := t.uMsgs + 1 } else { t with msgs := t.msgs + 1, sentAt := some s.time.cycle })
      { s with net := { s.net with mail := s.net.mail ++ [gMail t.desc p m] } }

def execGMsg (p : Nat) (m : SlMsg) (s : State) : Result := .next (gMsg s p { m with kind := 1 })

/-! ### Remote windows (R305) -/

/-- The window that a remote request names, if every condition of R305 holds. -/
def State.remoteWindow (s : State) (m : SlMsg) (write : Bool) (len : Nat) : Option MemWin :=
  let q := numAt m.body 0 1
  let off := numAt m.body 8 8
  let routed := (s.bind.sysLink.map (fun t => t.routes.any (fun r => r.dest == m.srcPkg))).getD false
  (s.bind.windows.find? (fun w => w.qid == q && w.index == numAt m.body 1 1)).filter (fun w =>
    w.has 9 && w.has (if write then 1 else 0) && decide (off + len ≤ w.dataSize) && (!w.secure || m.secure) && routed)

/-- A refused remote request: SL_REMOTE_DENIED, and WORLD_ACCESS_DENIED where a Normal message names a Secure window (R305, R360). -/
def State.remoteDenied (s : State) (p : Nat) (m : SlMsg) (write : Bool) (len : Nat) : State :=
  let s := s.logSl Syn.slRemoteDenied p
  match if m.secure then none else s.remoteWindow { m with secure := true } write len with
  | some w => s.log (((Syn.worldAccessDenied.record (slNode p) 0x0D p w.qid).withAddr (w.base + numAt m.body 8 8)).withSecure true)
  | none => s

/-- WRITE (R305): accepted bytes reach memory before WRITE_ACK goes back; a refused one is logged. The STATUS of one that memory does not take is a free value (log 80). -/
def slWriteIn (s : State) (p : Nat) (m : SlMsg) : State :=
  let data := m.body.drop 16
  match s.remoteWindow m true data.length with
  | none => (s.remoteDenied p m true data.length).slAnswer m 3 false []
  | some w =>
    let r := s.put (slNode p) (w.base + numAt m.body 8 8) data m.poison
    if r.2.2 then r.1.slAnswer m 0 false [] else r.1.draw.2.slAnswer m (1 + r.1.draw.1 % 255) false []

/-- The memory that a remote request of this package's names, none where it is refused or for another package (R189, R305). -/
def State.remoteRange (s : State) (m : SlMsg) (write : Bool) (len : Nat) : List (Bool × Nat × Nat) :=
  match s.remoteWindow m write len with
  | some w => if m.dstPkg = s.bind.packageId then [(write, w.base + numAt m.body 8 8, len)] else []
  | none => []

def execWrite (p : Nat) (m : SlMsg) (s : State) : Result :=
  let m := { m with kind := 2 }
  .next (s.whenFree (s.remoteRange m true (m.body.drop 16).length) (fun s => s.slHandle p m (fun s => slWriteIn s p m)))

/-- READ_REQ (R305, R337): the window's bytes go back in READ_DATA, poisoned ones marked. -/
def slReadIn (s : State) (p : Nat) (m : SlMsg) : State :=
  let len := numAt m.body 2 2
  match s.remoteWindow m false len with
  | none => (s.remoteDenied p m false len).slAnswer m 3 false []
  | some w =>
    let r := s.busRead (slNode p) (w.base + numAt m.body 8 8) len
    r.2.2.slAnswer m 0 r.2.1 r.1

def execReadReq (p : Nat) (m : SlMsg) (s : State) : Result :=
  let m := { m with kind := 4 }
  .next (s.whenFree (s.remoteRange m false (numAt m.body 2 2)) (fun s => s.slHandle p m (fun s => slReadIn s p m)))

/-! ### Answers (R306) -/

/-- WRITE_ACK (R305, R306): completes the WRITE with its tag. -/
def execWriteAck (p : Nat) (m : SlMsg) (s : State) : Result :=
  let m := { m with kind := 3 }
  .next (s.slHandle p m (fun s => s.slAnswerIn m))

/-- READ_DATA (R306). -/
def execReadData (p : Nat) (m : SlMsg) (s : State) : Result :=
  let m := { m with kind := 5 }
  .next (s.slHandle p m (fun s => s.slAnswerIn m))

/-- SEND_ACK (R306, R307): completes the SL_SEND with its tag. -/
def execSendAck (p : Nat) (m : SlMsg) (s : State) : Result :=
  let m := { m with kind := 7 }
  .next (s.slHandle p m (fun s => s.slAnswerIn m))

/-! ### SEND (R306, R307) -/

/-- Whether a queue is an enabled SQ of a System Link messaging VI (R307). -/
def State.slSq (s : State) (q : Nat) : Bool :=
  let c := s.queue q
  decide (c.st = .enabled) && c.ty == 1 && s.viFunction c.vi == 3

/-- The oldest started SL_RECV of an SQ that no SEND fills yet (R307). -/
def State.slFreeRecv (s : State) (q : Nat) : Option DescRef :=
  let lane := s.laneOf q
  ((s.lane lane).flights.find? (fun f => f.sq == q && f.op == 0x33 && (decide (f.st = .waiting) || decide (f.st = .started))
      && !s.sl.recvs.any (fun r => r.desc.sq == q && r.desc.idx == f.idx))).map
    (fun f => { lane := lane, sq := q, idx := f.idx })

/-- A segment's bytes go to the SL_RECV of its SEND; the last one completes it and is acknowledged (R306, R307). -/
def State.slSegment (s : State) (m : SlMsg) (r : SlRecv) : State :=
  let data := m.body.drop 16
  match s.flight r.desc with
  | none => s.slAnswer m 4 false []
  | some f =>
    let a := f.dst + numAt m.body 8 4
    let ok := s.laneRange r.desc.lane f .store a data.length
    let w := if ok.2 then ok.1.put (laneNodeOf r.desc.lane) a data m.poison else (ok.1, 0, false)
    let got := r.got + data.length
    let bad := m.poison || f.status == 4
    let rest := w.1.sl.recvs.filter (fun x => x.desc != r.desc)
    if !w.2.2 then
      ({ w.1 with sl := { w.1.sl with recvs := rest } }.finish r.desc (if ok.2 then 8 else 3) r.got 0).slAnswer m 3 false []
    else if r.total ≤ got then
      let s := { w.1 with sl := { w.1.sl with recvs := rest } }
      let result := r.srcPkg + r.srcQid * 2 ^ 16 + s.now * 2 ^ 64
      (s.finish r.desc (if bad then 4 else 0) r.total result).slAnswer m 0 false []
    else
      let s := { w.1 with sl := { w.1.sl with recvs := rest ++ [{ r with got := got }] } }
      if bad then s.modFlight r.desc (fun g => { g with status := 4 }) else s

/-- SEND (R307), its segments known by their source and TAG: the first segment of a SEND chooses the SL_RECV, or is refused with REFUSED, NO_BUFFER or TOO_LONG; later segments follow it. -/
def slSendIn (s : State) (m : SlMsg) : State :=
  let rsq := numAt m.body 0 4 % 2 ^ 21
  let total := numAt m.body 4 4
  let srcQid := numAt m.body 12 1
  if !s.slSq rsq then s.slAnswer m 3 false []
  else
    match s.sl.recvs.find? (fun r => r.srcPkg == m.srcPkg && r.tag == m.tag) with
    | some r => s.slSegment m r
    | none =>
      if numAt m.body 8 4 ≠ 0 then s
      else match s.slFreeRecv rsq with
        | none => s.slAnswer m 4 false []
        | some d =>
          let len := ((s.flight d).map Flight.len).getD 0
          if len < total then (s.finish d 8 0 5).slAnswer m 5 false []
          else s.slSegment m { srcPkg := m.srcPkg, tag := m.tag, srcQid := srcQid, total := total, desc := d, got := 0 }

/-- A request of this package to itself, delivered locally (R303). -/
def State.slLocal (s : State) (p : Nat) (m : SlMsg) : State :=
  match m.kind with
  | 2 => slWriteIn s p m
  | 4 => slReadIn s p m
  | _ => slSendIn s m

/-- The memory that a segment of a SEND goes to, none where no SL_RECV takes it (R189, R307). -/
def State.segmentRange (s : State) (m : SlMsg) : List (Bool × Nat × Nat) :=
  let d := match s.sl.recvs.find? (fun r => r.srcPkg == m.srcPkg && r.tag == m.tag) with
    | some r => some r.desc
    | none => s.slFreeRecv (numAt m.body 0 4 % 2 ^ 21)
  match d.bind s.flight with
  | some f => if m.dstPkg = s.bind.packageId then [(true, f.dst + numAt m.body 8 4, (m.body.drop 16).length)] else []
  | none => []

def execSend (p : Nat) (m : SlMsg) (s : State) : Result :=
  let m := { m with kind := 6 }
  .next (s.whenFree (s.segmentRange m) (fun s => s.slHandle p m (fun s => slSendIn s m)))

/-! ### Registers -/

/-- The block of a port. -/
def slOff (p off : Nat) : Nat := controlAddr iodDie (0x300 + p) off

/-- SL_STAT as it reads. -/
def SlPort.stat (t : SlPort) : Word :=
  let link := match t.link with | .down => 0 | .training => 1 | .up => 2 | .failed => 3
  let peer := match t.peer with | .absent => 0 | .up => 1 | .resetting => 2 | .lost => 3 | .isolated => 4
  word (link * 2 ^ 61 + peer * 2 ^ 58 + t.width % 4 * 2 ^ 56 + t.peerPkg % 4096 * 2 ^ 44 + t.peerPk % 256 * 2 ^ 32
    + t.missedHb * 2 ^ 16 + t.replays)

/-- SL_STAT_READ: MISSED_HB and REPLAYS are cleared. -/
def execSlStatRead (h p rd : Nat) (s : State) : Result :=
  .next (if p < 8 then
    s.readReg h rd (slOff p 0) (fun s => s.inM h) (fun s => (s.slPort p).stat)
      (fun s => s.setSlPort p { s.slPort p with missedHb := 0, replays := 0 })
    else s)

/-- SL_CTL written (R311): READMIT makes an ISOLATED peer UP; only M-mode harts of the NOTIFY_QID of the port's partner record may write. -/
def writeSlCtl (s : State) (who : Agent) (p : Nat) (v : Word) : State :=
  let t := s.slPort p
  let q := ((s.bind.partnerRec 0 t.peerPkg).map (·.notifyQid)).getD 0
  if !s.mHartOf who q then s.refuse who true (slOff p 0x10)
  else
    let s := s.reserved who iodDie (0x300 + p) 0x10 v (2 ^ 63)
    if flagOf v 63 && decide (t.peer = .isolated) then (s.setSlPort p { t with peer := .up, lastHb := s.time.now }).slServe p else s

/-- READMIT (R311). -/
def execReadmit (h p : Nat) (s : State) : Result :=
  .next (if p < 8 then s.access h (fun s => writeSlCtl s (.hart h) p (word (2 ^ 63))) else s)

/-- Messages held in the wake buffers are delivered in order once the package is back (R314). -/
def State.slWakeDeliver (s : State) : State :=
  (List.range 8).foldl (fun s p =>
    let t := s.slPort p
    if t.wake.isEmpty && !t.wakeReq then s else s.setSlPort p { t with wake := [], wakeReq := false, inq := (t.wake.map (·.msgs)).flatten ++ t.inq }) s

end Sys2Proof.Machine
end

