-- ==== Sys2Proof/Machine/Queue.lean ====
section
/-! DEFINITION. The Queue Engine's commands (R269 to R288, R295, R306, R324 to R327): doorbells, fetching and starting descriptors, their operations, lane failures, and virtual instances. -/

namespace Sys2Proof.Machine

/-! ### Doorbells (R273) -/

/-- The address of a queue's doorbell slot (R29). -/
def doorbellAddr (q off : Nat) : Nat := doorbellBase + q * 64 + off

/-- Whether a hart may access a queue's doorbell: a hart of its Quire in a world that may use the queue's tag (R273, R361). -/
def State.doorbellHart (s : State) (h q : Nat) : Bool :=
  let x := s.hart h
  x.qid != 0 && x.qid == s.bind.queueOwner 1 q && (x.secure || !s.bind.queueSecure 1 q)

/-- A doorbell written by a hart, or by a device function of the queue's Quire, which is named by its port group's node and the function's group and BDF at DMA_REQUEST (R273). -/
def writeDoorbell (s : State) (who : Agent) (q off size : Nat) (v : Word) : State :=
  match who with
  | .hart h => if s.doorbellHart h q then s.doorbellStore q off size v else s.ctlFault h true (doorbellAddr q off)
  | .node n => s.logUnmapped n (doorbellAddr q off) 0
  | .governor | .clasp => s.logUnmapped claspNode (doorbellAddr q off) 0

/-- DOORBELL_WRITE (R273, R274). -/
def execDoorbellWrite (who : Agent) (q off size : Nat) (v : Word) (s : State) : Result :=
  .next (if q < queueCount ∧ off < 64 then s.asAgent who (fun s => writeDoorbell s who q off size v) else s)

/-- A doorbell's value as it reads: the two indices at offset 0 with 64 bits, zero otherwise (R273). -/
def State.doorbellRead (s : State) (q off size : Nat) : Word :=
  let c := s.queue q
  if off = 0 ∧ size = 8 then word (c.cons.toNat * 2 ^ 32 + c.prod.toNat) else 0

/-- DOORBELL_READ (R273). -/
def execDoorbellRead (h q off size rd : Nat) (s : State) : Result :=
  .next (if q < queueCount ∧ off < 64 then
      s.readReg h rd (doorbellAddr q off) (fun s => s.doorbellHart h q) (fun s => s.doorbellRead q off size) (fun s => s.loadCtx q)
    else s)

/-! ### Fetching (R279) -/

/-- Whether an SQ has descriptors that a lane may fetch now. -/
def State.sqPending (s : State) (q : Nat) : Bool :=
  let c := s.queue q
  decide (c.st = .enabled) && c.ty == 1 && !c.disabling && !s.viResetting c.vi && c.fetch != c.prod

/-- The SQ whose turn it is on a lane: the next in ascending order after the last one served, wrapping (R279). -/
def State.nextSq (s : State) (lane : Nat) : Option Nat :=
  let qs := (s.qe.ctx.map (·.1)).filter (fun q => s.sqPending q && s.laneOf q == lane)
  match (s.lane lane).lastSq with
  | some l => (qs.find? (fun q => decide (l < q))).orElse (fun _ => qs.head?)
  | none => qs.head?

/-- A ring read that is refused (R27, R279): the SQ enters ERROR, and the descriptor counts as not fetched. -/
def State.ringFault (s : State) (lane q a : Nat) : State :=
  ((s.queueError q 2).logQe Syn.qeRingFault q none (some a)).logUnmapped (laneNodeOf lane) a (s.queue q).qid

/-- One descriptor of an SQ read into a lane. -/
def State.fetchFrom (s : State) (lane q : Nat) : State :=
  let c := s.queue q
  let a := c.entry c.fetch
  if !s.entryOk c a true then s.ringFault lane q a
  else s.whenFree [(false, a, 64)] (fun s =>
    let s := s.noteEngine (laneNodeOf lane)
    let bad := s.coherentPoison a 64
    let f : Flight := { sq := q, idx := c.fetch.toNat, vi := c.vi, raw := lineOf (s.coherentRead a 64), poisoned := bad,
                        st := .fetched, status := 0, length := 0, result := 0, reissued := false, since := s.time.now }
    let l := s.lane lane
    let s := s.setLane lane { l with flights := l.flights ++ [f] }
    let s := s.setQueue q { c with fetch := c.fetch + 1 }
    if bad then s.logQe Syn.qeDescPoison q none (some a) else s)

/-- DESCRIPTOR_FETCH (R272, R279): a lane with room takes one descriptor of the SQ whose turn it is. -/
def descriptorFetch (s : State) (lane : Nat) : State :=
  if 8 < lane ∨ 32 ≤ (s.lane lane).flights.length ∨ s.halting = true then s
  else match s.nextSq lane with
    | none => s
    | some q =>
      let s := s.setLane lane { s.lane lane with lastSq := some q }
      let s := s.loadCtx q
      if (s.queue q).st = .enabled then s.fetchFrom lane q else s

def execDescriptorFetch (lane : Nat) (s : State) : Result := .next (descriptorFetch s lane)

/-! ### What a descriptor must meet (R275 to R278, R306, R324, R369) -/

/-- The operations of a function (R276). -/
def opOf (fn op : Nat) : Bool :=
  op == 0 || (fn == 0 && (op == 1 || op == 2)) || (fn == 1 && 0x10 ≤ op && op ≤ 0x12)
    || (fn == 2 && (op == 0x20 || op == 0x21)) || (fn == 3 && 0x30 ≤ op && op ≤ 0x33)
    || (fn == 4 && 0x40 ≤ op && op ≤ 0x4B)

/-- The bytes of ARGS that an operation names, by offset and length. -/
def namedArgs (op : Nat) : List (Nat × Nat) :=
  match op with
  | 0x02 => [(0, 8)]
  | 0x10 | 0x11 | 0x12 => [(0, 3)]
  | 0x20 => [(0, 2), (8, 8)]
  | 0x21 => [(2, 2)]
  | 0x30 | 0x31 => [(0, 4), (8, 8)]
  | 0x32 => [(0, 2), (4, 4)]
  | 0x40 | 0x45 => [(0, 1)]
  | 0x41 | 0x42 => [(2, 2), (8, 16)]
  | 0x43 | 0x4B => [(2, 2)]
  | 0x44 => [(0, 1), (2, 2)]
  | 0x46 | 0x4A => [(4, 2)]
  | 0x47 => [(2, 4)]
  | 0x49 => [(0, 1), (4, 2)]
  | _ => []

/-- Whether every reserved byte and bit is zero and LENGTH is in range, which of a NOP may take any value (R275, R276). -/
def Flight.wellFormed (f : Flight) : Bool :=
  let named := fun (i : Nat) => (namedArgs f.op).any (fun r => decide (r.1 ≤ i) && decide (i < r.1 + r.2))
  f.flags < 16 && lineGet f.raw 2 2 == 0 && (f.op == 0 || decide (f.len ≤ 16777216))
    && (List.range 24).all (fun i => named i || f.arg i 1 == 0)
    && (!(0x10 ≤ f.op && f.op ≤ 0x12) || decide (f.arg 2 1 < 2))

/-- The Check unit that a Check operation names (R324). -/
def Flight.unit (f : Flight) (lane : Nat) : Nat := if f.arg 0 1 = 0xFF then lane else f.arg 0 1

/-- A key handle's entry, by Quire and number (R369). -/
def State.keyAt (s : State) (q h : Nat) : Option KeyHandle := Tab.find s.qe.keys (q * 32 + h)

/-- The size of the public key of an algorithm (R47, R369). -/
def publicSize (alg : Nat) : Nat := match alg with | 1 => 2592 | 2 => 97 | 3 => 1568 | _ => 0

/-- The size of a signature, by ALG of SIGN (R369). -/
def signatureSize (alg : Nat) : Nat := if alg = 0 then 4627 else 96

/-- The algorithm that KEY of an operation must have. -/
def Flight.keyAlg (f : Flight) : Option Nat :=
  match f.op with
  | 0x41 | 0x42 | 0x43 => some 0
  | 0x44 => some (f.arg 0 1 + 1)
  | 0x47 => some 3
  | _ => none

def Flight.usesKey (f : Flight) : Bool := f.keyAlg.isSome || f.op == 0x4B
def Flight.usesNew (f : Flight) : Bool := [0x46, 0x47, 0x49, 0x4A].contains f.op
def Flight.key (f : Flight) : Nat := f.arg 2 2
def Flight.new (f : Flight) : Nat := f.arg 4 2

/-- Whether an operation on handles names handles that exist, of the right algorithm (R369; DEDUCED). -/
def State.handlesOk (s : State) (f : Flight) : Bool :=
  let q := s.viQid f.vi
  (!f.usesKey || decide (f.key < 32)) && (!f.usesNew || decide (f.new < 32))
    && (match f.keyAlg with
        | some a => ((s.keyAt q f.key).map (fun k => k.alg == a)).getD false
        | none => true)

/-- Whether a Normal-world VI names a Secure handle (R369). -/
def State.keyDenied (s : State) (f : Flight) : Bool :=
  let secret := fun (h : Nat) => ((s.keyAt (s.viQid f.vi) h).map (·.secure)).getD false
  !s.viSecure f.vi && ((f.usesKey && secret f.key) || (f.usesNew && secret f.new))

/-- The limits that an operation states for ARGS whatever LENGTH is (R277, R295, R324, R369). -/
def State.argsOk (s : State) (lane : Nat) (f : Flight) : Bool :=
  match f.op with
  | 0x10 | 0x11 | 0x12 =>
    let u := f.unit lane
    let w := aliveWidth (s.checkCfg u).alive
    (f.arg 0 1 == 0xFF || (16 ≤ f.arg 0 1 && f.arg 0 1 < 32)) && decide (f.arg 1 1 < 2 ^ w)
  | 0x20 => f.arg 0 1 < 4 && f.arg 1 1 < 8
  | 0x21 => f.arg 2 2 < 1024
  | 0x40 => f.arg 0 1 < 6
  | 0x44 | 0x45 => f.arg 0 1 < 2
  | 0x49 => f.arg 0 1 < 4
  | _ => true

/-- Whether a Check operation names an open unit that is not lent to the VI's Quire (R324). -/
def State.unitDenied (s : State) (f : Flight) : Bool :=
  let u := f.arg 0 1
  0x10 ≤ f.op && f.op ≤ 0x12 && 16 ≤ u && u < 32
    && !((s.bind.checkRec u).map (fun r => r.qid == s.viQid f.vi)).getD false

/-- The LENGTH limits of an operation, for a LENGTH above 0 (R276, R306, R324, R369). -/
def State.lengthOk (s : State) (lane : Nat) (f : Flight) : Bool :=
  let n := f.len
  match f.op with
  | 0x01 => !(decide (f.src < f.dst + n) && decide (f.dst < f.src + n))
  | 0x11 => let c := s.checkCfg (f.unit lane); decide (c.a + c.bytes < n)
  | 0x32 => n ≤ 4096
  | 0x41 => f.arg 20 4 ≤ n
  | 0x42 => decide (16 ≤ n) && decide (n ≤ 65552) && decide (f.arg 20 4 + 16 ≤ n)
  | 0x44 => n == 48
  | 0x45 => n == 48 + publicSize (f.arg 0 1 + 1) + signatureSize (f.arg 0 1)
  | 0x46 | 0x47 => n == 1568
  | 0x49 => n == publicSize (f.arg 0 1)
  | 0x4A => n ≤ 256
  | _ => true

/-- The source range's length, none where the operation names none (R278, R306, R324). -/
def Flight.srcLen (f : Flight) : Option Nat :=
  match f.op with
  | 0x00 | 0x02 | 0x21 | 0x31 | 0x33 | 0x48 | 0x49 | 0x4B => none
  | _ => some f.len

/-- The destination range's length, none where the operation names none (R278, R306, R324). -/
def State.dstLen (s : State) (lane : Nat) (f : Flight) : Option Nat :=
  let c := s.checkCfg (f.unit lane)
  match f.op with
  | 0x01 | 0x02 | 0x21 | 0x31 | 0x33 | 0x41 | 0x48 | 0x49 => some f.len
  | 0x10 => some (c.a + c.bytes)
  | 0x11 => if f.dst = 0 then none else some (f.len - c.a - c.bytes)
  | 0x40 => some (digestSize (f.arg 0 1))
  | 0x42 => some (f.len - 16)
  | 0x44 => some (signatureSize (f.arg 0 1))
  | 0x46 => some 1568
  | _ => none

/-- Whether the fields without a range are zero (R278); a lane does not check them for a System Link operation (R306). -/
def State.unusedZero (s : State) (lane : Nat) (f : Flight) : Bool :=
  (decide (0x30 ≤ f.op) && decide (f.op ≤ 0x33)) || (f.srcLen.isSome || f.src == 0) && ((s.dstLen lane f).isSome || f.dst == 0)

/-- Whether the ranges of an operation lie in the Quire's windows (R278), with any world violation logged. -/
def State.rangesOk (s : State) (lane : Nat) (f : Flight) : State × Bool :=
  let r := match f.srcLen with
    | some n => if n = 0 then (s, true) else s.laneRange lane f .load f.src n
    | none => (s, true)
  if !r.2 then r
  else match r.1.dstLen lane f with
    | some n => if n = 0 then (r.1, true) else r.1.laneRange lane f .store f.dst n
    | none => (r.1, true)

/-! ### Starting (R277, R279, R283) -/

/-- Every descriptor in flight. -/
def State.flights (s : State) : List Flight := (s.qe.lanes.map (fun e => e.2.flights)).flatten

/-- Whether every earlier descriptor of the SQ has started (R279). -/
def State.inOrder (s : State) (f : Flight) : Bool :=
  let c := (s.queue f.sq).cons
  let age := fun (i : Nat) => (BitVec.ofNat 32 i - c).toNat
  s.flights.all (fun g => g.sq != f.sq || decide (age f.idx ≤ age g.idx) || decide (g.st ≠ .fetched))

/-- The RESULT of a Check operation (R326). -/
def checkResult (chk alive verdict gap : Nat) : Nat := chk + alive % 256 * 2 ^ 64 + verdict * 2 ^ 72 + gap % 256 * 2 ^ 80

/-- RESULT of an operation of LENGTH 0 (R325). -/
def State.emptyResult (s : State) (lane : Nat) (f : Flight) : Nat :=
  if 0x10 ≤ f.op ∧ f.op ≤ 0x12 then
    let c := s.checkCfg (f.unit lane)
    checkResult (c.init.toNat ^^^ c.xorout.toNat) 0 0 0
  else 0

/-- Operations that act with LENGTH 0 too (R276, R369). -/
def Flight.actsEmpty (f : Flight) : Bool := f.op == 0 || f.op == 0x4B || (f.op == 0x49 && f.arg 0 1 == 0)

/-- The descriptors that still wait for an open unit, in the order in which they asked (R322). -/
def State.unitQueue (s : State) (u : Nat) : List DescRef :=
  (s.openUnit u).queue.filter (fun x => ((s.flight x).map (fun g => decide (g.st = .fetched))).getD false)

/-- A descriptor with LENGTH above 0, or one that acts without data, that has passed the checks of R275 to R277: its Check unit, for which it waits in turn, then its ranges. -/
def State.startChecked (s : State) (d : DescRef) (f : Flight) : State :=
  let u := f.arg 0 1
  let isOpen := 0x10 ≤ f.op && f.op ≤ 0x12 && 16 ≤ u && u < 32
  if isOpen && s.chk.fenced.contains u then s.finish d 8 0 0
  else if isOpen && ((s.openUnit u).busy.isSome || (((s.unitQueue u).head?).map (· != d)).getD false) then
    let l := s.unitQueue u
    s.setOpenUnit u { s.openUnit u with queue := if l.contains d then l else l ++ [d] }
  else
    let r := s.rangesOk d.lane f
    if !r.2 then r.1.finish d 3 0 0
    else
      let s := r.1.modFlight d (fun g => { g with st := .started, since := s.time.now })
      if isOpen then s.setOpenUnit u { s.openUnit u with busy := some d, queue := s.unitQueue u } else s

/-- A descriptor judged (R275 to R278, R283): BAD_DESC, then EXPIRED, then the limits of its operation. -/
def State.judge (s : State) (d : DescRef) (f : Flight) : State :=
  if f.poisoned then s.finish d 4 0 0
  else if !opOf (s.viFunction f.vi) f.op || !f.wellFormed then s.finish d 6 0 0
  else if f.dropLate && f.deadline != 0 && decide (f.deadline ≤ s.now) then
    (s.qeMiss Syn.dlQeExpired d.lane f).finish d 9 0 0
  else if s.unitDenied f then
    (s.logCheck Syn.checkUnitDenied (f.arg 0 1) (s.viQid f.vi) (some f.sq)).finish d 6 0 0
  else if s.keyDenied f then
    (s.log ((Syn.cryptoKeyDenied.record claspNode 0x11 0 (s.viQid f.vi)).withSecure true)).finish d 6 0 0
  else if !s.argsOk d.lane f || !s.handlesOk f then s.finish d 6 0 0
  else if f.len = 0 && !f.actsEmpty then s.finish d 0 0 (s.emptyResult d.lane f)
  else if f.op != 0 && (!s.lengthOk d.lane f || (f.len != 0 && !s.unusedZero d.lane f)) then s.finish d 6 0 0
  else if f.op = 0 && f.len != 0 && !s.unusedZero d.lane f then s.finish d 6 0 0
  else s.startChecked d f

/-- DESCRIPTOR_START (R277 to R279, R283, R284): in ring order; one with FENCE waits until all before it have completed; without a working lane it ends with LANE_LOST. -/
def descriptorStart (s : State) (d : DescRef) : State :=
  match s.flight d with
  | none => s
  | some f =>
    if f.st ≠ .fetched ∨ s.inOrder f = false ∨ s.halting = true then s
    else if d.lane = 8 then s.finish d 1 0 0
    else if (s.lane d.lane).fenced then s
    else if f.fence && !f.poisoned && decide ((s.queue d.sq).cons.toNat ≠ f.idx) then s
    else s.judge d f

def execDescriptorStart (d : DescRef) (s : State) : Result := .next (descriptorStart s d)

/-! ### Operations -/

/-- The ranges of an operation, as write, address and length (R278). -/
def State.opRanges (s : State) (lane : Nat) (f : Flight) : List (Bool × Nat × Nat) :=
  if f.len = 0 || f.op = 0 then []
  else ((f.srcLen.map (fun n => (false, f.src, n))).toList ++ ((s.dstLen lane f).map (fun n => (true, f.dst, n))).toList).filter (fun r => r.2.2 != 0)

/-- A request of a started descriptor that is refused (R27, R278): UNMAPPED_ADDRESS, unless its world was wrong, and ADDR_FAULT. -/
def State.refuseOp (s : State) (d : DescRef) (f : Flight) : State :=
  let q := s.viQid f.vi
  let out := (s.opRanges d.lane f).find? (fun r => decide (s.rangeCheck q (s.viSecure f.vi) (if r.1 then .store else .load) r.2.1 r.2.2 = .fault))
  (match out with
    | some r => s.logUnmapped (laneNodeOf d.lane) r.2.1 q
    | none => s).finish d 3 0 0

/-- An operation's requests (R27, R278, R281, R401): none by a gated lane; its ranges judged again; DEV_ERROR where a device's port answers none. -/
def State.actOn (s : State) (d : DescRef) (f : Flight) (go : State → Flight → State) : State :=
  let rs := s.opRanges d.lane f
  let r := if rs.isEmpty then (s, true) else s.rangesOk d.lane f
  if s.isGated (laneUnit d.lane) then s.finish d 8 0 0
  else if !r.2 then r.1.refuseOp d f
  else if rs.any (fun x => s.deadRange x.2.1 x.2.2) then s.finish d 8 0 0
  else go r.1 f

/-- An operation of a started descriptor: it runs if the descriptor is that operation's, its lane works and its lines are free (R189); its open Check unit is then free. -/
def State.runOp (s : State) (d : DescRef) (op : Nat) (go : State → Flight → State) : State :=
  match s.flight d with
  | none => s
  | some f =>
    if f.st ≠ .started ∨ f.op ≠ op ∨ (s.lane d.lane).fenced = true then s
    else s.whenFree (s.opRanges d.lane f) (fun s =>
      let s := s.actOn d f go
      { s with chk := { s.chk with units := s.chk.units.map (fun e => (e.1, if e.2.busy = some d then { e.2 with busy := none } else e.2)) } })

/-- The status of an operation whose writes went as told (R281). -/
def doneStatus (ok poison : Bool) : Nat := if !ok then 8 else if poison then 4 else 0

/-- NOP (R276). -/
def execNop (d : DescRef) (s : State) : Result := .next (s.runOp d 0x00 (fun s _ => s.finish d 0 0 0))

/-- The granules of n bytes at DST that take a byte of a poisoned granule from SRC (R281). -/
def State.copiedPoison (s : State) (src dst n : Nat) : Poison :=
  let line := dst / 64 * 64
  BitVec.ofNat 4 (maskOf ((List.range 4).filter (fun i =>
    let lo := max dst (line + 16 * i)
    let hi := min (dst + n) (line + 16 * i + 16)
    decide (lo < hi) && s.coherentPoison (src + (lo - dst)) (hi - lo))))

/-- A copy in the naturally aligned pieces of its writes, with poison carried on granule by granule (R276, R281): the state, the bytes written without a gap, success, and whether poison was read. -/
def State.copyFrom (fuel : Nat) (s : State) (node src dst n done : Nat) (poison : Bool) : State × Nat × Bool × Bool :=
  match fuel with
  | 0 => (s, done, true, poison)
  | k + 1 =>
    if n = 0 then (s, done, true, poison)
    else
      let m := pieceSize dst n
      let r := s.busRead node src m
      let w := r.2.2.putPiece node dst r.1 (if r.2.1 then s.copiedPoison src dst m else 0)
      if w.2 then State.copyFrom k w.1 node (src + m) (dst + m) (n - m) (done + m) (poison || r.2.1)
      else (w.1, done, false, poison || r.2.1)

/-- COPY (R276). -/
def execCopy (d : DescRef) (s : State) : Result :=
  .next (s.runOp d 0x01 (fun s f =>
    let r := s.copyFrom (f.len / 64 + 14) (laneNodeOf d.lane) f.src f.dst f.len 0 false
    r.1.finish d (doneStatus r.2.2.1 r.2.2.2) r.2.1 0))

/-- FILL (R276): byte DST + i takes ARGS byte (DST + i) mod 8. -/
def execFill (d : DescRef) (s : State) : Result :=
  .next (s.runOp d 0x02 (fun s f =>
    let bs := (List.range f.len).map (fun i => BitVec.ofNat 8 (f.arg ((f.dst + i) % 8) 1))
    let r := s.put (laneNodeOf d.lane) f.dst bs false
    r.1.finish d (doneStatus r.2.2 false) r.2.1 0))

/-! #### Check operations (R318, R319, R324 to R326) -/

/-- CHECK_APPEND (R324): the alive byte and the check, little-endian in C bytes, go to DST. -/
def execCheckAppend (d : DescRef) (s : State) : Result :=
  .next (s.runOp d 0x10 (fun s f =>
    let c := s.checkCfg (f.unit d.lane)
    let r := s.busRead (laneNodeOf d.lane) f.src f.len
    let alive := if c.a = 1 then [BitVec.ofNat 8 (f.arg 1 1)] else []
    let chk := check c (r.1 ++ alive)
    let w := r.2.2.put (laneNodeOf d.lane) f.dst (alive ++ toLE c.bytes chk) r.2.1
    w.1.finish d (doneStatus w.2.2 r.2.1) w.2.1 (checkResult chk (if c.a = 1 then f.arg 1 1 else 0) 0 0)))

/-- What CHECK_VERIFY finds: the computed check, the alive value, the verdict bits and the gap count (R320, R325, R326). -/
def verdictOf (c : CheckCfg) (first : Bool) (last : Nat) (bs : List Byte) : Nat × Nat × Nat × Nat :=
  let body := bs.take (bs.length - c.bytes)
  let chk := check c body
  let got := ofLE (bs.drop (bs.length - c.bytes))
  let bits := aliveWidth c.alive
  let v := if c.a = 1 then (body.getLast?.map (·.toNat)).getD 0 % 2 ^ bits else 0
  if chk ≠ got then (chk, v, 1, 0)
  else if c.a = 0 then (chk, 0, 0, 0)
  else match judgeAlive bits (if first then none else some last) v with
    | .ok => (chk, v, 0, 0)
    | .repeated => (chk, v, 2, 0)
    | .gap n => (chk, v, 4, n)

/-- The record of a failed CHECK_VERIFY (R325, R429). -/
def State.logVerdict (s : State) (u q sq verdict gap : Nat) : State :=
  match verdict with
  | 1 => s.logCheck Syn.checkMismatch u q (some sq)
  | 2 => s.logCheck Syn.aliveRepeat u q (some sq)
  | 4 => s.log (((Syn.aliveGap.record checkNode 0x0F u q).withInfo 0 4 sq).withInfo 4 1 gap)
  | _ => s

/-- CHECK_VERIFY (R324, R325): the payload goes to DST whatever the verdict. -/
def execCheckVerify (d : DescRef) (s : State) : Result :=
  .next (s.runOp d 0x11 (fun s f =>
    let u := f.unit d.lane
    let c := s.checkCfg u
    let r := s.busRead (laneNodeOf d.lane) f.src f.len
    let v := verdictOf c (bitOf (f.arg 2 1) 0) (f.arg 1 1) r.1
    let w := if f.dst = 0 then (r.2.2, 0, true)
      else r.2.2.put (laneNodeOf d.lane) f.dst (r.1.take (f.len - c.a - c.bytes)) r.2.1
    let s := w.1.logVerdict u (s.viQid f.vi) f.sq v.2.2.1 v.2.2.2
    let st := if !w.2.2 then 8 else if v.2.2.1 ≠ 0 then 5 else doneStatus true r.2.1
    s.finish d st w.2.1 (checkResult v.1 v.2.1 v.2.2.1 v.2.2.2)))

/-- CHECK_READOUT (R324, R326). -/
def execCheckReadout (d : DescRef) (s : State) : Result :=
  .next (s.runOp d 0x12 (fun s f =>
    let r := s.busRead (laneNodeOf d.lane) f.src f.len
    r.2.2.finish d (doneStatus true r.2.1) f.len (checkResult (check (s.checkCfg (f.unit d.lane)) r.1) 0 0 0)))

/-! #### TSN (R295) -/

/-- The gate states that hold on a port: those of the entry that runs; all open where no list runs. -/
def Tsn.gates (t : Tsn) : Nat := if t.gclActive.isEmpty then 255 else fieldOf (Tab.get t.gclActive 0 t.gclPos) 0 8

def Tsn.gateOpen (t : Tsn) (cls : Nat) : Bool := bitOf t.gates cls

/-- A TSN_TX descriptor's frame sent, its source judged as it is read (R278): its bytes leave on the port in their order of sending. -/
def State.tsnSend (s : State) (d : DescRef) (f : Flight) : State :=
  let p := f.arg 0 1
  if !(s.tsn p).linkUp || s.isGated (UnitId.of 0x0E p) then s.finish d 8 0 0
  else s.whenFree (s.opRanges d.lane f) (fun s => s.actOn d f (fun s f =>
    let r := s.busRead (laneNodeOf d.lane) f.src f.len
    let t := r.2.2.tsn p
    (r.2.2.setTsn p { t with sent := t.sent ++ [(s.now, r.1)] }).finish d (doneStatus true r.2.1) f.len 0))

/-- Whether a TSN_TX frame may leave now: its launch time reached, or with none its class's gate open (R295). -/
def State.tsnDue (s : State) (f : Flight) : Bool :=
  if f.arg 8 8 = 0 then (s.tsn (f.arg 0 1)).gateOpen (f.arg 1 1) else decide (f.arg 8 8 ≤ s.now)

/-- TSN_TX (R295): the frame leaves at once where it may, else it waits; a port that is down answers DEV_ERROR. -/
def execTsnTx (d : DescRef) (s : State) : Result :=
  .next (s.runOp d 0x20 (fun s f =>
    if !(s.tsn (f.arg 0 1)).linkUp || s.isGated (UnitId.of 0x0E (f.arg 0 1)) then s.finish d 8 0 0
    else if s.tsnDue f then s.tsnSend d f
    else s.modFlight d (fun g => { g with st := .waiting })))

/-- TSN_RX (R295): waits for a frame of its stream filter; a port that is down answers DEV_ERROR. -/
def execTsnRx (d : DescRef) (s : State) : Result :=
  .next (s.runOp d 0x21 (fun s f =>
    if !(s.tsn (f.arg 2 2 / 256)).linkUp || s.isGated (UnitId.of 0x0E (f.arg 2 2 / 256)) then s.finish d 8 0 0
    else s.modFlight d (fun g => { g with st := .waiting })))

/-! #### System Links (R306) -/

/-- Byte ranges of at most 128 bytes, by offset and length. -/
def chunks128 (n : Nat) : List (Nat × Nat) := (List.range ((n + 127) / 128)).map (fun i => (128 * i, min 128 (n - 128 * i)))

/-- A System Link operation begins: every message goes out on the one port the route names, or is delivered locally where the destination is this package (R303); without a route it ends with DEV_ERROR and the reason. -/
def State.slBegin (s : State) (d : DescRef) (dest : Nat) (f : Flight) (go : State → Option Nat → State) : State :=
  let begun := s.modFlight d (fun g => { g with st := .waiting, length := f.len, status := 0 })
  match s.slRoute dest with
  | .inr 0 => go begun none
  | .inr e =>
    let s := if e = 1 then s.logNoRoute dest else s
    s.finish d 8 0 e
  | .inl p =>
    if s.isGated (UnitId.of 0x0D p) then s.draw.2.finish d 8 0 (1 + s.draw.1 % 255) else go begun (some p)

/-- A request noted as unanswered, with the next tag; one delivered locally has port 8, which is none. -/
def State.slNote (s : State) (p : Option Nat) (d : DescRef) (off len : Nat) : State × Nat :=
  let tag := s.sl.nextTag
  let r : SlReq := { tag := tag, port := p.getD 8, desc := d, off := off, len := len }
  ({ s with sl := { s.sl with nextTag := (tag + 1) % 2 ^ 32, reqs := s.sl.reqs ++ [r] } }, tag)

/-- A request's message into its port, or to this package itself (R303). -/
def State.slEmit (s : State) (p : Option Nat) (m : SlMsg) : State :=
  match p with
  | some k => s.slSend k m
  | none => s.slLocal 0 m

/-- One request of a descriptor, with the next tag. -/
def State.slIssue (s : State) (p : Option Nat) (d : DescRef) (off len : Nat) (m : SlMsg) : State :=
  let r := s.slNote p d off len
  r.1.slEmit p { m with tag := r.2 }

/-- The address part of a WRITE or READ_REQ (R300). -/
def Flight.addrPart (f : Flight) (len off : Nat) : List Byte :=
  toLE 1 (f.arg 2 1) ++ toLE 1 (f.arg 3 1) ++ toLE 2 len ++ toLE 4 0 ++ toLE 8 (f.arg 8 8 + off)

/-- SL_WRITE (R306). -/
def execSlWrite (d : DescRef) (s : State) : Result :=
  .next (s.runOp d 0x30 (fun s f =>
    let dest := f.arg 0 2
    s.slBegin d dest f (fun s p => (chunks128 f.len).foldl (fun s c =>
      let r := s.busRead (laneNodeOf d.lane) (f.src + c.1) c.2
      let m := r.2.2.slNew 2 dest 0 (r.2.2.viSecure f.vi) (f.addrPart 0 c.1 ++ r.1)
      let s := if r.2.1 then r.2.2.modFlight d (fun g => { g with status := 4 }) else r.2.2
      s.slIssue p d c.1 c.2 { m with poison := r.2.1 }) s)))

/-- SL_READ (R306). -/
def execSlRead (d : DescRef) (s : State) : Result :=
  .next (s.runOp d 0x31 (fun s f =>
    let dest := f.arg 0 2
    s.slBegin d dest f (fun s p => (chunks128 f.len).foldl (fun s c =>
      s.slIssue p d c.1 c.2 (s.slNew 4 dest 0 (s.viSecure f.vi) (f.addrPart c.2 c.1))) s)))

/-- SL_SEND (R306): segments of one tag, in order on one port (R307). -/
def execSlSend (d : DescRef) (s : State) : Result :=
  .next (s.runOp d 0x32 (fun s f =>
    let dest := f.arg 0 2
    s.slBegin d dest f (fun s p =>
      let n := s.slNote p d 0 f.len
      let tag := n.2
      (chunks128 f.len).foldl (fun s c =>
        let r := s.busRead (laneNodeOf d.lane) (f.src + c.1) c.2
        let head := toLE 4 (f.arg 4 4 % 2 ^ 21) ++ toLE 4 f.len ++ toLE 4 c.1 ++ toLE 1 (s.viQid f.vi) ++ toLE 3 0
        let m := r.2.2.slNew 6 dest tag (r.2.2.viSecure f.vi) (head ++ r.1)
        let s := if r.2.1 then r.2.2.modFlight d (fun g => { g with status := 4 }) else r.2.2
        s.slEmit p { m with poison := r.2.1 }) n.1)))

/-- SL_RECV (R306): waits for one SEND. -/
def execSlRecv (d : DescRef) (s : State) : Result :=
  .next (s.runOp d 0x33 (fun s _ => s.modFlight d (fun g => { g with st := .waiting })))

/-! #### Clasp crypto (R368, R369) -/

def ascii (t : String) : List Byte := t.toList.map (fun c => BitVec.ofNat 8 c.toNat)

/-- The sealing secret (R368). -/
def sealingSecret : List Byte := hkdf Config.uds [] (ascii "VXSS") 48

/-- The root key of a Quire (R368). -/
def State.rootKey (s : State) (q : Nat) : List Byte :=
  hkdf sealingSecret s.clasp.ownerHash (ascii "VXQK" ++ [BitVec.ofNat 8 q]) 48

def State.setKey (s : State) (q h : Nat) (k : KeyHandle) : State :=
  { s with qe := { s.qe with keys := Tab.set s.qe.keys (q * 32 + h) k } }

/-- A key put into NEW, with the world of the VI. -/
def State.newKey (s : State) (f : Flight) (alg : Nat) (key : List Byte) : State :=
  s.setKey (s.viQid f.vi) f.new { alg := alg, secure := s.viSecure f.vi, key := key }

def State.keyBytes (s : State) (f : Flight) : List Byte := ((s.keyAt (s.viQid f.vi) f.key).map (·.key)).getD []

/-- Bytes written to DST as the result of an operation, which ends it. -/
def State.deliver (s : State) (d : DescRef) (f : Flight) (bs : List Byte) (poison : Bool) (result : Nat) : State :=
  let w := s.put (laneNodeOf d.lane) f.dst bs poison
  w.1.finish d (doneStatus w.2.2 poison) w.2.1 result

/-- HASH (R369). -/
def execHash (d : DescRef) (s : State) : Result :=
  .next (s.runOp d 0x40 (fun s f =>
    let r := s.busRead (laneNodeOf d.lane) f.src f.len
    r.2.2.deliver d f (digest (f.arg 0 1) r.1) r.2.1 0))

/-- The IV of a GCM operation (R369). -/
def Flight.iv (f : Flight) : List Byte := toLE 12 (f.arg 8 12)

/-- GCM_SEAL (R369): the first AAD_LEN bytes are copied, the rest encrypted; the tag is in RESULT. -/
def execGcmSeal (d : DescRef) (s : State) : Result :=
  .next (s.runOp d 0x41 (fun s f =>
    let r := s.busRead (laneNodeOf d.lane) f.src f.len
    let aad := r.1.take (f.arg 20 4)
    let c := gcmSeal (s.keyBytes f) f.iv aad (r.1.drop (f.arg 20 4))
    r.2.2.deliver d f (aad ++ c.1) r.2.1 (ofLE c.2)))

/-- GCM_OPEN (R369): on a tag mismatch it ends with CHECK_FAIL and writes nothing. -/
def execGcmOpen (d : DescRef) (s : State) : Result :=
  .next (s.runOp d 0x42 (fun s f =>
    let r := s.busRead (laneNodeOf d.lane) f.src f.len
    let body := r.1.take (f.len - 16)
    let aad := body.take (f.arg 20 4)
    match gcmOpen (s.keyBytes f) f.iv aad (body.drop (f.arg 20 4)) (r.1.drop (f.len - 16)) with
    | some pt => r.2.2.deliver d f (aad ++ pt) r.2.1 0
    | none => r.2.2.finish d 5 0 0))

/-- CMAC (R369). -/
def execCmac (d : DescRef) (s : State) : Result :=
  .next (s.runOp d 0x43 (fun s f =>
    let r := s.busRead (laneNodeOf d.lane) f.src f.len
    r.2.2.finish d (doneStatus true r.2.1) f.len (ofLE (aesCmac (s.keyBytes f) r.1))))

/-- SIGN (R369). -/
def execSign (d : DescRef) (s : State) : Result :=
  .next (s.runOp d 0x44 (fun s f =>
    let r := s.busRead (laneNodeOf d.lane) f.src f.len
    let sig := if f.arg 0 1 = 0 then Config.mldsaSign (s.keyBytes f) r.1 r.2.2.free else Config.ecdsaSign (s.keyBytes f) r.1 r.2.2.free
    r.2.2.draw.2.deliver d f (padTo (signatureSize (f.arg 0 1)) sig) r.2.1 0))

/-- VERIFY (R369): SRC holds digest, public key and signature. -/
def execVerify (d : DescRef) (s : State) : Result :=
  .next (s.runOp d 0x45 (fun s f =>
    let r := s.busRead (laneNodeOf d.lane) f.src f.len
    let n := publicSize (f.arg 0 1 + 1)
    let dig := r.1.take 48
    let pk := (r.1.drop 48).take n
    let sig := r.1.drop (48 + n)
    let ok := if f.arg 0 1 = 0 then Config.mldsaVerify pk dig sig else Config.ecdsaVerify pk dig sig
    r.2.2.finish d (if ok then doneStatus true r.2.1 else 5) f.len 0))

/-- KEM_ENCAP (R369). -/
def execKemEncap (d : DescRef) (s : State) : Result :=
  .next (s.runOp d 0x46 (fun s f =>
    let r := s.busRead (laneNodeOf d.lane) f.src f.len
    let k := Config.kemEncap r.1 r.2.2.free
    (r.2.2.draw.2.newKey f 0 k.2).deliver d f (padTo 1568 k.1) r.2.1 0))

/-- KEM_DECAP (R369). -/
def execKemDecap (d : DescRef) (s : State) : Result :=
  .next (s.runOp d 0x47 (fun s f =>
    let r := s.busRead (laneNodeOf d.lane) f.src f.len
    (r.2.2.newKey f 0 (Config.kemDecap (s.keyBytes f) r.1)).finish d (doneStatus true r.2.1) f.len 0))

/-- RANDOM (R369). -/
def execRandom (d : DescRef) (s : State) : Result :=
  .next (s.runOp d 0x48 (fun s f =>
    let r := s.drawBytes f.len
    r.2.deliver d f r.1 false 0))

/-- KEY_GEN (R369): a key into NEW, its public key to DST. -/
def execKeyGen (d : DescRef) (s : State) : Result :=
  .next (s.runOp d 0x49 (fun s f =>
    let alg := f.arg 0 1
    let key := Config.keyGen alg s.free
    (s.draw.2.newKey f alg key).deliver d f (if alg = 0 then [] else padTo (publicSize alg) (Config.publicKey alg key)) false 0))

/-- KEY_DERIVE (R368, R369). -/
def execKeyDerive (d : DescRef) (s : State) : Result :=
  .next (s.runOp d 0x4A (fun s f =>
    let r := s.busRead (laneNodeOf d.lane) f.src f.len
    (r.2.2.newKey f 0 (hkdf (s.rootKey (s.viQid f.vi)) [] r.1 32)).finish d (doneStatus true r.2.1) f.len 0))

/-- KEY_ERASE (R369). -/
def execKeyErase (d : DescRef) (s : State) : Result :=
  .next (s.runOp d 0x4B (fun s f =>
    ({ s with qe := { s.qe with keys := Tab.del s.qe.keys (s.viQid f.vi * 32 + f.key) } }).finish d 0 0 0))

/-! ### Lane failure (R284, R327) -/

/-- A lane fails: it is fenced and logged. -/
def State.failLane (s : State) (lane : Nat) : State :=
  if (s.lane lane).fenced then s
  else
    let s := s.setLane lane { s.lane lane with fenced := true }
    s.log (Syn.qeLaneLost.record (laneNodeOf lane) 0x0A lane 0)

/-- LANE_FAIL (R284). -/
def execLaneFail (lane : Nat) (s : State) : Result := .next (if lane < 8 then s.failLane lane else s)

/-- The lane on which a descriptor of a failed lane is issued again: that of R279, for a Check operation one whose unit has the same POLY and ALIVE_BITS; none where no such lane remains. -/
def State.reissueLane (s : State) (failed : Nat) (f : Flight) : Option Nat :=
  let cands := ((List.range 8).map (fun i => (f.sq + i) % 8)).filter (fun n => !(s.lane n).fenced)
  if 0x10 ≤ f.op ∧ f.op ≤ 0x12 then cands.find? (fun n => s.checkCfg n == s.checkCfg failed) else cands.head?

/-- A descriptor of a failed lane ends with a status, its entry to be written by the SQ's new lane or the front end. -/
def Flight.endWith (f : Flight) (status : Nat) : Flight := { f with st := .done, status := status, length := 0, result := 0 }

/-- A descriptor of a failed lane put into a lane, which has at most 32 in flight (R279, R284): where there is no room it stays for a later LANE_DRAINED. -/
def State.putFlight (s : State) (failed lane : Nat) (f g : Flight) : State :=
  let l := s.lane lane
  if lane < 8 ∧ 32 ≤ l.flights.length then
    s.setLane failed { s.lane failed with flights := (s.lane failed).flights ++ [f] }
  else
    s.setLane lane { l with flights := l.flights ++ [g], reissued := if g.reissued && decide (g.st = .fetched) then l.reissued + 1 else l.reissued }

/-- One descriptor of a failed lane handled (R284). -/
def State.rehome (s : State) (failed : Nat) (f : Flight) : State :=
  let keep := s.laneOf f.sq
  if f.st = .done then s.putFlight failed keep f f
  else if keep = 8 || f.noRepeat then s.putFlight failed keep f (f.endWith 1)
  else if s.viResetting f.vi then s.putFlight failed keep f (f.endWith 2)
  else match s.reissueLane failed f with
    | some n => s.putFlight failed n f { f with st := .fetched, status := 0, length := 0, result := 0, reissued := true, since := s.time.now }
    | none => s.putFlight failed keep f (f.endWith 1)

/-- LANE_DRAINED (R284): the failed lane's descriptors are handled, and its fence is complete once none is left. -/
def laneDrained (s : State) (lane : Nat) : State :=
  if 8 ≤ lane ∨ (s.lane lane).fenced = false then s
  else
    let fs := (s.lane lane).flights
    let gone := fun (x : DescRef) => x.lane == lane
    let s := s.setLane lane { s.lane lane with flights := [] }
    let s : State := { s with
      sl := { s.sl with reqs := s.sl.reqs.filter (fun r => !gone r.desc), recvs := s.sl.recvs.filter (fun r => !gone r.desc) },
      chk := { s.chk with units := s.chk.units.map (fun e => (e.1, if (e.2.busy.map gone).getD false then { e.2 with busy := none } else e.2)) } }
    let s := fs.foldl (fun s f => s.rehome lane f) s
    if (s.lane lane).flights.isEmpty then
      { s with err := { s.err with fenced := s.err.fenced.map (fun x => if x.unit = UnitId.of 0x0A lane then { x with complete := true } else x) } }
    else s

def execLaneDrained (lane : Nat) (s : State) : Result := .next (laneDrained s lane)

/-- CHECK_UNIT_FAULT (R327). -/
def checkUnitFault (s : State) (u : Nat) : State :=
  if 32 ≤ u then s
  else
    let s := s.logCheck Syn.checkUnitFault u ((s.bind.checkRec u).map (·.qid) |>.getD 0) none
    if u < 8 then s.failLane u
    else if u < 16 then (if (s.slPort (u - 8)).link = .up then s.slDrop (u - 8) false else s)
    else
      let s := match (s.openUnit u).busy with
        | some d => s.finish d 8 0 0
        | none => s
      let s := s.setOpenUnit u { s.openUnit u with busy := none }
      { s with chk := { s.chk with fenced := s.chk.fenced ++ [u] } }

def execCheckUnitFault (u : Nat) (s : State) : Result := .next (checkUnitFault s u)

/-! ### Virtual instances (R285 to R287) -/

def viCount : Nat := 8192

/-- The block and offset of a VI's register. -/
def viBlock (v : Nat) : Nat := 0x120 + v / 256
def viOff (v reg : Nat) : Nat := v % 256 * 0x1000 + reg
def viAddr (v reg : Nat) : Nat := controlAddr iodDie (viBlock v) (viOff v reg)

/-- Whether a hart may access a VI's page (R285). -/
def State.viAllowed (s : State) (who : Agent) (v : Nat) : Bool :=
  match who with
  | .hart h => (s.hart h).qid != 0 && (s.hart h).qid == s.viQid v && ((s.hart h).secure || !s.viSecure v)
  | .governor | .clasp | .node _ => false

/-- Whether a queue counts as enabled (R286). -/
def QCtx.live (c : QCtx) : Bool := decide (c.st = .enabled) || decide (c.st = .error)

/-- Enabled SQs that name a CQ (R272, R286). -/
def State.sqsOf (s : State) (q : Nat) : Nat := (s.qe.ctx.filter (fun e => e.2.live && e.2.ty == 1 && e.2.cq == q)).length

/-- Queues enabled in a VI (R285). -/
def State.viEnabled (s : State) (v : Nat) : Nat := (s.qe.ctx.filter (fun e => decide (e.2.st = .enabled) && e.2.vi == v)).length

/-- RESULT of a command, with the queue's state and error as they stand; both read 0 after NOT_OWNED (R286). -/
def State.viResult (s : State) (v q result : Nat) : State :=
  let t := s.vi v
  let c := s.queue q
  s.setVi v { t with
    cmdBusy := false, result := result, queue := q,
    qst := if result = 1 then .disabled else c.st, qerror := if result = 1 then 0 else c.error }

/-- Whether ENABLE finds the staged fields wrong: BAD_CONFIG (R271, R286). -/
def State.badConfig (s : State) (v q : Nat) : Bool :=
  let t := s.vi v
  let ty := fieldOf t.qcfg 62 2
  let log2 := fieldOf t.qcfg 56 5
  let base := t.qbase.toNat
  let cq := s.queue (fieldOf t.qcfg 0 21)
  let hart := fieldOf t.qirq 32 16
  let file := fieldOf t.qirq 24 4
  let id := fieldOf t.qirq 0 11
  !(ty == 1 || ty == 2) || decide (20 < log2) || !s.ringOk q base log2 (ty == 1)
    || (ty == 1 && !(decide (cq.st = .enabled) && cq.ty == 2 && cq.vi == v))
    || (ty == 2 && flagOf t.qirq 63 && (decide (8 < file) || id == 0 || !s.maySignal (s.viQid v) hart file id
        || (s.bind.idSecure hart file id && !s.bind.queueSecure 1 q)))

/-- The context of a queue that ENABLE makes (R286). -/
def State.enabledCtx (s : State) (v q : Nat) : QCtx :=
  let t := s.vi v
  let sq := fieldOf t.qcfg 62 2 == 1
  { QCtx.reset with
    ringBase := t.qbase.toNat, log2 := fieldOf t.qcfg 56 5, st := .enabled, ty := fieldOf t.qcfg 62 2, vi := v,
    qid := s.bind.queueOwner 1 q, secure := s.bind.queueSecure 1 q, irqEn := !sq && flagOf t.qirq 63, armed := true,
    cq := if sq then fieldOf t.qcfg 0 21 else 0, irqHart := if sq then 0 else fieldOf t.qirq 32 16,
    irqFile := if sq then 0 else fieldOf t.qirq 24 4, irqId := if sq then 0 else fieldOf t.qirq 0 11 }

/-- ENABLE (R286). -/
def State.viEnable (s : State) (v q : Nat) : State :=
  let c := s.queue q
  if c.live && c.vi != v then s.viResult v q 2
  else if c.live then s.viResult v q 4
  else if s.badConfig v q then s.viResult v q 3
  else (s.setQueue q (s.enabledCtx v q)).viResult v q 0

/-- DISABLE (R286): a CQ is disabled at once; an SQ once its fetched descriptors have completed. -/
def State.viDisable (s : State) (v q : Nat) : State :=
  let c := s.queue q
  if !c.live then s.viResult v q 0
  else if c.vi ≠ v then s.viResult v q 2
  else if c.ty = 2 then
    if 0 < s.sqsOf q then s.viResult v q 5 else (s.setQueue q { c with st := .disabled }).viResult v q 0
  else if s.queueBusy q then
    (s.setQueue q { c with disabling := true }).setVi v { s.vi v with cmdBusy := true, queue := q }
  else (s.setQueue q { c with st := .disabled }).viResult v q 0

/-- READ (R286): the context goes into the staging registers. -/
def State.viRead (s : State) (v q : Nat) : State :=
  let c := s.queue q
  let t := s.vi v
  let cq := if c.ty = 2 then s.sqsOf q else c.cq
  (s.setVi v { t with
    qbase := word c.ringBase, qcfg := word (c.ty * 2 ^ 62 + c.log2 * 2 ^ 56 + cq),
    qirq := word (bitAt c.irqEn 63 + c.irqHart * 2 ^ 32 + c.irqFile * 2 ^ 24 + c.irqId) }).viResult v q 0

/-- VI_QCMD written (R285, R286). -/
def writeQcmd (s : State) (who : Agent) (vi : Nat) (v : Word) : State :=
  if !s.viAllowed who vi then s.refuse who true (viAddr vi 0x20)
  else
    let t := s.vi vi
    if t.cmdBusy || s.viResetting vi then s.whileActive who iodDie (viBlock vi) (viOff vi 0x20) v
    else
      let s := s.reserved who iodDie (viBlock vi) (viOff vi 0x20) v 0xFCFF0003001FFFFF
      let q := fieldOf v 0 21
      let op := fieldOf v 32 2
      if op = 0 then s.setVi vi { t with queue := q }
      else
        let s := s.loadCtx q
        if s.bind.queueOwner 1 q ≠ s.viQid vi ∨ s.bind.queueSecure 1 q ≠ s.viSecure vi then s.viResult vi q 1
        else match op with
          | 1 => s.viEnable vi q
          | 2 => s.viDisable vi q
          | _ => s.viRead vi q

/-- A VI_QCMD write with a given OP. -/
def withOp (v : Word) (op : Nat) : Word := (v &&& ~~~(word 0x300000000)) ||| word (op * 2 ^ 32)

/-- ENABLE (R286). -/
def execEnable (h vi : Nat) (v : Word) (s : State) : Result :=
  .next (if vi < viCount then s.access h (fun s => writeQcmd s (.hart h) vi (withOp v 1)) else s)

/-- DISABLE (R286). -/
def execDisable (h vi : Nat) (v : Word) (s : State) : Result :=
  .next (if vi < viCount then s.access h (fun s => writeQcmd s (.hart h) vi (withOp v 2)) else s)

/-- READ (R286). -/
def execRead (h vi : Nat) (v : Word) (s : State) : Result :=
  .next (if vi < viCount then s.access h (fun s => writeQcmd s (.hart h) vi (withOp v 3)) else s)

/-- QUEUE_DISABLE_DONE (R286, R288): the DISABLE that waited for the queue ends; a queue that moves concerns no command. -/
def queueDisableDone (s : State) (q : Nat) : State :=
  let c := s.queue q
  if !c.disabling || s.queueBusy q then s
  else
    let s := s.setQueue q { c with st := .disabled, disabling := false }
    if (s.vi c.vi).cmdBusy && (s.vi c.vi).queue == q then s.viResult c.vi q 0 else s

def execQueueDisableDone (q : Nat) (s : State) : Result := .next (queueDisableDone s q)

/-- VI_RESET written (R287). -/
def writeViReset (s : State) (who : Agent) (vi : Nat) (v : Word) : State :=
  if !s.viAllowed who vi then s.refuse who true (viAddr vi 0x28)
  else if s.viResetting vi then s.whileActive who iodDie (viBlock vi) (viOff vi 0x28) v
  else
    let s := s.reserved who iodDie (viBlock vi) (viOff vi 0x28) v 0xFFFFFFFFFFFFF003
    let us := if fieldOf v 12 20 = 0 then 1 else fieldOf v 12 20
    let t := { s.vi vi with timeoutUs := us }
    match fieldOf v 0 2 with
    | 1 => s.setVi vi { t with mode := .drain, drainExpired := false, dropped := 0, since := s.time.now }
    | 2 => (s.setVi vi { t with mode := .squash, dropped := 0, since := s.time.now }).squash (fun f => f.vi == vi)
    | _ => s.setVi vi t

/-- A VI_RESET write with a given MODE. -/
def withMode (v : Word) (mode : Nat) : Word := (v &&& ~~~(word 3)) ||| word mode

/-- DRAIN (R287). -/
def execDrain (h vi : Nat) (v : Word) (s : State) : Result :=
  .next (if vi < viCount then s.access h (fun s => writeViReset s (.hart h) vi (withMode v 1)) else s)

/-- SQUASH (R287). -/
def execSquash (h vi : Nat) (v : Word) (s : State) : Result :=
  .next (if vi < viCount then s.access h (fun s => writeViReset s (.hart h) vi (withMode v 2)) else s)

/-- VI_DRAIN_EXPIRED (R287): the rest of a drain that has taken TIMEOUT_US is squashed. -/
def viDrainExpired (s : State) (vi : Nat) : State :=
  let t := s.vi vi
  if t.mode = .drain ∧ t.drainExpired = false ∧ t.since + 1000 * t.timeoutUs ≤ s.time.now ∧ s.viBusy vi = true then
    let s := (s.setVi vi { t with drainExpired := true }).squash (fun f => f.vi == vi)
    s.log ((Syn.viDrainExpired.record feNode 0x16 vi (s.viQid vi)).withSecure (s.viSecure vi))
  else s

def execViDrainExpired (vi : Nat) (s : State) : Result := .next (viDrainExpired s vi)

/-- The end of a VI reset (R287): its queues are disabled with their indices kept, and its registers are as at reset. -/
def State.viResetEnd (s : State) (vi : Nat) : State :=
  let t := s.vi vi
  let s : State := { s with qe := { s.qe with ctx := s.qe.ctx.map (fun e =>
      (e.1, if e.2.live && e.2.vi == vi then { e.2 with st := .disabled, disabling := false } else e.2)) } }
  let s := s.setVi vi { t with qbase := 0, qcfg := 0, qirq := 0, cmdBusy := false, mode := .none }
  if t.dropped = 0 then s
  else s.log (((Syn.qeCqDropped.record feNode 0x16 vi (s.viQid vi)).withInfo 4 4 t.dropped).withSecure (s.viSecure vi))

/-- VI_RESET_DONE (R287). -/
def viResetDone (s : State) (vi : Nat) : State :=
  if s.viResetting vi && !s.viBusy vi then s.viResetEnd vi else s

def execViResetDone (vi : Nat) (s : State) : Result := .next (viResetDone s vi)

/-! ### Reads and staging writes (R285) -/

/-- A VI's registers as they read. -/
def State.viRegRead (s : State) (v reg : Nat) : Word :=
  let t := s.vi v
  let st := match t.qst with | .disabled => 0 | .enabled => 1 | .error => 2
  match reg with
  | 0x00 => word (bitAt (s.viResetting v) 63 + s.viFunction v * 2 ^ 52 + bitAt (s.viSecure v) 48 + s.viQid v * 2 ^ 40
      + s.viEnabled v * 2 ^ 13 + v)
  | 0x08 => t.qbase
  | 0x10 => t.qcfg
  | 0x18 => t.qirq
  | 0x20 => word (bitAt t.cmdBusy 63 + t.result * 2 ^ 60 + st * 2 ^ 58 + t.qerror * 2 ^ 48 + t.queue)
  | 0x28 => word (bitAt (s.viResetting v) 63 + bitAt t.drainExpired 62 + t.dropped * 2 ^ 32 + t.timeoutUs * 2 ^ 12)
  | _ => 0

/-- A write of VI_QBASE, VI_QCFG or VI_QIRQ. -/
def writeViStage (s : State) (who : Agent) (v reg : Nat) (x : Word) : State :=
  if !s.viAllowed who v then s.refuse who true (viAddr v reg)
  else
    let mask := if reg = 0x08 then 0x000FFFFFFFFFFFC0 else if reg = 0x10 then 0xDF000000001FFFFF else 0x8000FFFF0F0007FF
    let s := s.reserved who iodDie (viBlock v) (viOff v reg) x mask
    let y := x &&& word mask
    let t := s.vi v
    s.setVi v (if reg = 0x08 then { t with qbase := y } else if reg = 0x10 then { t with qcfg := y } else { t with qirq := y })

/-- QE_LANE_STAT (R284). -/
def State.laneStat (s : State) (n : Nat) : Word :=
  let l := s.lane n
  word (bitAt l.fenced 63 + l.flights.length * 2 ^ 32 + l.reissued.toNat)

end Sys2Proof.Machine
end

