-- ==== Sys2Proof/Machine/Ports.lean ====
section
/-! DEFINITION. PCIe, CXL and TSN ports (R191, R289 to R296): configuration pages, hot-plug, link-down, device requests, frames and gate control lists. -/

namespace Sys2Proof.Machine

/-! ### Functions and root ports (R289 to R293) -/

/-- A configuration register's key. -/
def cfgKey (group bdf off : Nat) : Nat := (group * 65536 + bdf) * 4096 + off

/-- Root port r of a group is bus 0, device r, function 0 (R289). -/
def rootBdf (r : Nat) : Nat := r * 8

/-- The root ports of a group's arrangement (R289): ×16; ×8 ×8; ×8 ×4 ×4; ×4 ×4 ×4 ×4. -/
def rootPorts (arrange : Nat) : List Nat :=
  match arrange with
  | 0 => [0]
  | 1 => [0, 2]
  | 2 => [0, 2, 3]
  | _ => [0, 1, 2, 3]

/-- Whether a bus lies below a root port: between its secondary and subordinate bus numbers, at offset 0x18 (PRESUMED, log 19). -/
def State.below (s : State) (group r bus : Nat) : Bool :=
  let v := (Tab.get s.io.cfg 0 (cfgKey group (rootBdf r) 0x18)).toNat
  decide (bus ≠ 0) && decide (bitsOf v 8 8 ≤ bus) && decide (bus ≤ bitsOf v 16 8)

/-- The root port of a function: its own number on bus 0, else the port it lies below, 0 where none does. -/
def State.rootOf (s : State) (group bdf : Nat) : Nat :=
  if bdf / 256 = 0 then bdf / 8 % 4
  else ((rootPorts (s.group group).arrange).find? (fun r => s.below group r (bdf / 256))).getD 0

/-- QID of a function (R60, R291, R293). -/
def State.fnQid (s : State) (group bdf : Nat) : Nat := ((s.bind.function group bdf).map (·.qid)).getD 0
def State.fnSecure (s : State) (group bdf : Nat) : Bool := ((s.bind.function group bdf).map (·.secure)).getD false

/-- Whether a Quire may access a function's configuration space (R292). -/
def State.cfgAllowed (s : State) (q group bdf : Nat) : Bool :=
  q != 0 && (s.fnQid group bdf == q
    || (s.fnQid group bdf == 0 && (rootPorts (s.group group).arrange).any (fun r =>
          s.fnQid group (rootBdf r) == q && s.below group r (bdf / 256))))

/-- Whether a Quire controls a root port's slot (R293). -/
def State.slotAllowed (s : State) (q group bdf : Nat) : Bool :=
  match s.bind.function group bdf with
  | some f => f.qid == q && f.hotplugCtl
  | none => false

/-- PCIe syndromes of a port group (R297, R429). -/
def State.logPcie (s : State) (y : Syndrome) (group r q : Nat) : State :=
  s.log ((y.record (pcieNode group) 0x0C group q).withInfo 0 1 r)

/-! ### Configuration pages (R292) -/

def pcfgOff (q reg : Nat) : Nat := 0x10000 + q * 0x100 + reg
def pcfgAddr (q reg : Nat) : Nat := controlAddr iodDie 0x400 (pcfgOff q reg)

/-- Harts of the Quire in M-mode or S-mode, which VS-mode is not (R292; log 19). -/
def State.pcfgHart (s : State) (who : Agent) (q : Nat) : Bool :=
  match who with
  | .hart h => (s.hart h).qid == q && q != 0 && decide ((s.hart h).mode ≠ .u) && !(s.hart h).virt
  | .governor | .clasp | .node _ => false

/-- What PCFG_ADDR selects: group, BDF and byte offset. -/
def State.pcfgSel (s : State) (q : Nat) : Nat × Nat × Nat :=
  let v := Tab.get s.io.pcfgAddr 0 q
  (fieldOf v 44 3, fieldOf v 28 16, fieldOf v 16 12)

/-- PCFG_ADDR written (R292): OFFSET bits 1:0 are not stored. -/
def writePcfgAddr (s : State) (who : Agent) (q : Nat) (v : Word) : State :=
  if !s.pcfgHart who q then s.refuse who true (pcfgAddr q 0)
  else
    let s := s.reserved who iodDie 0x400 (pcfgOff q 0) v 0x00007FFFFFFF0000
    { s with io := { s.io with pcfgAddr := Tab.set s.io.pcfgAddr q (v &&& word 0x00007FFFFFFC0000) } }

/-- PCFG_DATA as it reads. -/
def State.pcfgRead (s : State) (q : Nat) : Word :=
  let a := s.pcfgSel q
  if s.cfgAllowed q a.1 a.2.1 then (Tab.get s.io.cfg 0 (cfgKey a.1 a.2.1 a.2.2)).setWidth 64 else 0xFFFFFFFF

/-- A refused configuration access is logged (R292). -/
def State.pcfgNote (s : State) (q : Nat) : State :=
  let a := s.pcfgSel q
  if s.cfgAllowed q a.1 a.2.1 then s else s.logPcie Syn.pcieCfgDenied a.1 (s.rootOf a.1 a.2.1) q

/-- CONFIG_READ (R292). -/
def execConfigRead (h q rd : Nat) (s : State) : Result :=
  .next (if q < 256 then
      s.readReg h rd (pcfgAddr q 8) (fun s => s.pcfgHart (.hart h) q) (fun s => s.pcfgRead q) (fun s => s.pcfgNote q)
    else s)

/-- Bits of Slot Control that steer power and indicators (PRESUMED, log 19): 10:6 at offset 0x58. -/
def slotBits : Nat := 0x7C0

/-- The bit of a root port that shows DPC as triggered and is cleared by a write of 1 (PRESUMED, log 19): bit 16 at offset 0x208. -/
def dpcOffset : Nat := 0x208

/-- A configuration register written (R292 to R294, R312). -/
def State.cfgWrite (s : State) (q group bdf off : Nat) (v : BitVec 32) : State :=
  let k := cfgKey group bdf off
  let old := Tab.get s.io.cfg 0 k
  let root := decide (bdf < 32) && bdf % 8 == 0
  if root && off == 0x58 && (old ^^^ v) &&& BitVec.ofNat 32 slotBits != 0 && !s.slotAllowed q group bdf then
    let keep := (v &&& ~~~(BitVec.ofNat 32 slotBits)) ||| (old &&& BitVec.ofNat 32 slotBits)
    ({ s with io := { s.io with cfg := Tab.set s.io.cfg k keep } }).logPcie Syn.pcieCfgDenied group (bdf / 8) q
  else
    let s : State := { s with io := { s.io with cfg := Tab.set s.io.cfg k v } }
    if root && off == dpcOffset && v.getLsbD 16 then
      let g := s.group group
      if g.dpc.contains (bdf / 8) then
        s.setGroup group { g with dpc := g.dpc.filter (· != bdf / 8), linkUp := distinct (g.linkUp ++ [bdf / 8]) }
      else s
    else s

/-- PCFG_DATA written (R292). -/
def writePcfgData (s : State) (who : Agent) (q : Nat) (v : Word) : State :=
  if !s.pcfgHart who q then s.refuse who true (pcfgAddr q 8)
  else
    let s := s.reserved who iodDie 0x400 (pcfgOff q 8) v 0xFFFFFFFF
    let a := s.pcfgSel q
    if s.cfgAllowed q a.1 a.2.1 then s.cfgWrite q a.1 a.2.1 a.2.2 (v.setWidth 32) else s.pcfgNote q

/-- CONFIG_WRITE (R292, R293). -/
def execConfigWrite (h q : Nat) (v : Word) (s : State) : Result :=
  .next (if q < 256 then s.access h (fun s => writePcfgData s (.hart h) q v) else s)

/-! ### Links and arrivals (R262, R293, R294) -/

/-- HOT_PLUG_ARRIVAL (R293): the function takes its QID from a record with its group and BDF; a port that had gone down is up again unless its partner is isolated, and CXL memory of the group is back once it trains (R262, R312). -/
def hotPlugArrival (s : State) (group bdf : Nat) : State :=
  if 8 ≤ group ∨ 65536 ≤ bdf then s
  else
    let g := s.group group
    let r := s.rootOf group bdf
    let cut := !(rootPorts g.arrange).contains r || (g.dpc.contains r && s.bind.action 1 (group * 4 + r) == 2)
    if cut then s
    else
      let s := s.setGroup group { g with
        functions := distinct (g.functions ++ [bdf]), dpc := g.dpc.filter (· != r), linkUp := distinct (g.linkUp ++ [r]) }
      { s with mem := { s.mem with cxl := s.mem.cxl.map (fun e => (e.1, if e.1 = group then { e.2 with lost := false } else e.2)) } }

def execHotPlugArrival (group bdf : Nat) (s : State) : Result := .next (hotPlugArrival s group bdf)

/-- Requests to a node that get no answer of their own end with a STATUS (R243, R294). -/
def State.failRequestsTo (s : State) (node status : Nat) : State :=
  let gone := s.net.io.filter (fun m => m.dst == node && isRequest m.opc)
  let s : State := { s with net := { s.net with io := s.net.io.filter (fun m => !(m.dst == node && isRequest m.opc)) } }
  gone.foldl (fun s m =>
    s.sendCoh { cohMsg (if needsData m.opc then .dat else .cmp) m.src m.dst m.core m.tag m.addr with
      qid := m.qid, secure := m.secure, status := status, hasData := needsData m.opc, cls := m.cls, issue := m.issue }) s

/-- PCIE_LINK_DOWN (R191, R262, R294): DPC contains the port, outstanding requests end with DEV_ERROR, CXL memory of the group is lost, a caching device is a lost holder, and the partner's action is taken. -/
def pcieLinkDown (s : State) (group port : Nat) : State :=
  let g := s.group group
  if !g.linkUp.contains port then s
  else
    let s := s.setGroup group { g with linkUp := g.linkUp.filter (· != port), dpc := distinct (g.dpc ++ [port]),
                                       functions := g.functions.filter (fun b => !s.below group port (b / 256)) }
    let s := s.failRequestsTo (pcieNode group) stDevError
    let c := s.cxl group
    let s : State := if c.decoders.isEmpty || c.lost then s
      else ({ s with mem := { s.mem with cxl := Tab.set s.mem.cxl group { c with lost := true } } }).log
        (Syn.cxlMemError.record (pcieNode group) 0x0C group 0)
    let s := s.loseHolder (pcieNode group) none
    (s.logPcie Syn.pcieLinkDown group port 0).partnerAct 1 (group * 4 + port)

def execPcieLinkDown (group port : Nat) (s : State) : Result := .next (pcieLinkDown s group port)

/-! ### Requests of device functions (R273, R291, R360) -/

/-- A request of a function that is not served: an unsupported-request completion, UNMAPPED_ADDRESS logged (R27). -/
def State.dmaRefused (s : State) (group addr : Nat) : State :=
  ({ s with io := { s.io with aborts := s.io.aborts ++ [(pcieNode group, addr)] } }).logUnmapped (pcieNode group) addr 0

/-- Whether nothing of a function comes in: its group is gated or its root port is contained (R294, R401). -/
def State.fnCut (s : State) (group bdf : Nat) : Bool :=
  s.isGated (UnitId.of 0x0C group) || (s.group group).dpc.contains (s.rootOf group bdf)

/-- A function's write to a doorbell (R273). -/
def State.dmaDoorbell (s : State) (group bdf addr : Nat) (data : List Byte) : State :=
  let q := (addr - doorbellBase) / 64
  let own := s.fnQid group bdf
  if own ≠ 0 ∧ q < queueCount ∧ s.bind.queueOwner 1 q = own ∧ (s.fnSecure group bdf || !s.bind.queueSecure 1 q) = true then
    s.doorbellStore q ((addr - doorbellBase) % 64) data.length (word (ofLE data))
  else if own ≠ 0 ∧ q < queueCount ∧ s.bind.queueOwner 1 q = own then
    (s.dmaRefused group addr).log (((Syn.worldAccessDenied.record (pcieNode group) 0x0C group own).withAddr addr).withSecure true)
  else s.dmaRefused group addr

/-- DMA_REQUEST (R273, R291, R337, R360): in a window of the function's Quire and world it reads or writes; a world violation is logged as such; anything else is refused. -/
def dmaRequest (s : State) (group bdf : Nat) (write : Bool) (addr len : Nat) (data : List Byte) : State :=
  if 8 ≤ group ∨ len = 0 ∨ s.halting = true ∨ s.fnCut group bdf = true then s
  else if write && decide (rangeOf addr = .doorbell) then s.dmaDoorbell group bdf addr (padTo len data)
  else
    let q := if s.io.held.contains (group * 65536 + bdf) then 0 else s.fnQid group bdf
    if q = 0 then s.dmaRefused group addr
    else match s.rangeCheck q (s.fnSecure group bdf) (if write then .store else .load) addr len with
      | .ok _ =>
        if s.deadRange addr len then { s with io := { s.io with aborts := s.io.aborts ++ [(pcieNode group, addr)] } }
        else s.whenFree [(write, addr, len)] (fun s =>
          if write then (s.put (pcieNode group) addr (padTo len data) false).1 else (s.busRead (pcieNode group) addr len).2.2)
      | .fault => s.dmaRefused group addr
      | .world =>
        ({ s with io := { s.io with aborts := s.io.aborts ++ [(pcieNode group, addr)] } }).log
          (((Syn.worldAccessDenied.record (pcieNode group) 0x0C group q).withAddr addr).withSecure true)

def execDmaRequest (group bdf : Nat) (write : Bool) (addr len : Nat) (data : List Byte) (s : State) : Result :=
  .next (dmaRequest s group bdf write addr len data)

/-- DEVICE_MSI (R291): sent in the function's world to an identity its Quire may signal, else discarded and logged. -/
def deviceMsi (s : State) (group bdf : Nat) (m : MsiMsg) : State :=
  if 8 ≤ group ∨ s.halting = true ∨ s.fnCut group bdf = true then s
  else
    let q := if s.io.held.contains (group * 65536 + bdf) then 0 else s.fnQid group bdf
    if q ≠ 0 ∧ s.maySignal q m.hart m.file m.id = true then s.sendMsi m.hart m.file m.id (s.fnSecure group bdf)
    else s.logPcie Syn.pcieMsiDenied group (s.rootOf group bdf) q

def execDeviceMsi (group bdf : Nat) (m : MsiMsg) (s : State) : Result := .next (deviceMsi s group bdf m)

/-- PCIE_AER (R297, R429). -/
def execPcieAer (group port : Nat) (uncor cor : BitVec 32) (s : State) : Result :=
  .next (if group < 8 then
      s.log ((((Syn.pcieAer.record (pcieNode group) 0x0C group 0).withInfo 0 1 port).withInfo 4 4 uncor.toNat).withInfo 8 4 cor.toNat)
    else s)

/-! ### TSN (R295, R296) -/

/-- Whether a Quire owns TSN VIs (R295; log 21). -/
def State.ownsTsn (s : State) (q : Nat) : Bool :=
  q != 0 && s.bind.queues.any (fun r => r.kind == 2 && r.function == 2 && r.qid == q)

def tsnOff (c off : Nat) : Nat := 0x40000 * c + off
def tsnAddr (c off : Nat) : Nat := controlAddr iodDie 0x480 (tsnOff c off)

/-- M-mode harts of the Quire that owns the port's TSN VIs (R295). -/
def State.tsnAllowed (s : State) (who : Agent) : Bool :=
  match who with
  | .hart h => decide ((s.hart h).mode = .m) && s.ownsTsn (s.hart h).qid
  | .governor | .clasp | .node _ => false

/-- A record of a port's register write (R353). -/
def State.reservedTsn (s : State) (who : Agent) (c off : Nat) (v : Word) (own : Nat) : State :=
  s.reserved who iodDie 0x480 (tsnOff c off) v own

/-- Descriptors in flight that meet a test, with their lanes. -/
def State.flightsWhere (s : State) (p : Flight → Bool) : List (DescRef × Flight) :=
  (s.qe.lanes.map (fun e => (e.2.flights.filter p).map (fun f => ({ lane := e.1, sq := f.sq, idx := f.idx }, f)))).flatten

/-- A port's link goes down (R296): it is logged and its pending TSN_RX end with DEV_ERROR. -/
def tsnLinkDown (s : State) (port : Nat) : State :=
  let t := s.tsn port
  if 4 ≤ port ∨ t.linkUp = false then s
  else
    let s := (s.setTsn port { t with linkUp := false }).log (Syn.tsnLinkDown.record (tsnNode port) 0x0E port 0)
    (s.flightsWhere (fun f => decide (f.st = .waiting) && f.op == 0x21 && f.arg 2 2 / 256 == port)).foldl
      (fun s p => s.finish p.1 8 0 0) s

/-- A write of a TSN register (R295, R296, R312): ENABLE brings the link up and takes it down (log 21); a rewritten filter accepts frames again. -/
def writeTsn (s : State) (who : Agent) (c off : Nat) (v : Word) : State :=
  if !s.tsnAllowed who then s.refuse who true (tsnAddr c off)
  else
    let t := s.tsn c
    if off = 0 then
      let s := s.reservedTsn who c off v (2 ^ 63)
      let s := if flagOf v 63 then s else tsnLinkDown s c
      s.setTsn c { s.tsn c with enable := flagOf v 63, linkUp := flagOf v 63 }
    else if 0x10000 ≤ off ∧ off < 0x10800 then
      (s.reservedTsn who c off v 0xFFFFFFFFFF).setTsn c { t with gcl := Tab.set t.gcl ((off - 0x10000) / 8) (v &&& word 0xFFFFFFFFFF) }
    else if 0x20000 ≤ off ∧ off < 0x21000 then
      let f := (off - 0x20000) / 16
      let t := { t with dropping := t.dropping.filter (· != f), lost := t.lost.filter (· != f), lastFrame := Tab.set t.lastFrame f s.now }
      if off % 16 = 0 then (s.reservedTsn who c off v 0xFFFF).setTsn c { t with filterHandle := Tab.set t.filterHandle f (v &&& word 0xFFFF) }
      else (s.reservedTsn who c off v 0xFFFFFFFF0000).setTsn c { t with filterLoss := Tab.set t.filterLoss f (v &&& word 0xFFFFFFFF0000) }
    else s

/-- A TSN register as it reads. -/
def State.tsnRead (s : State) (c off : Nat) : Word :=
  let t := s.tsn c
  if off = 0 then word (bitAt t.enable 63)
  else if 0x10000 ≤ off ∧ off < 0x10800 then Tab.get t.gcl 0 ((off - 0x10000) / 8)
  else if 0x20000 ≤ off ∧ off < 0x21000 then
    (if off % 16 = 0 then Tab.get t.filterHandle 0 ((off - 0x20000) / 16) else Tab.get t.filterLoss 0 ((off - 0x20000) / 16))
  else 0

/-- LOSS_US of a filter (R295). -/
def Tsn.lossUs (t : Tsn) (f : Nat) : Nat := fieldOf (Tab.get t.filterLoss 0 f) 16 32

/-- A TSN_RX that waits for a filter of a port. -/
def Flight.awaits (f : Flight) (handle : Nat) : Bool := decide (f.st = .waiting) && f.op == 0x21 && f.arg 2 2 == handle

/-- A frame into a waiting TSN_RX (R278, R295): too long a frame ends it with DEV_ERROR. -/
def State.tsnDeliver (s : State) (d : DescRef) (f : Flight) (frame : List Byte) : State :=
  if f.len < frame.length then s.finish d 8 0 0
  else
    let ok := s.laneRange d.lane f .store f.dst frame.length
    if !ok.2 then ok.1.finish d 3 0 0
    else
      let w := ok.1.put (laneNodeOf d.lane) f.dst frame false
      w.1.finish d (doneStatus w.2.2 false) w.2.1 s.now

/-- TSN_FRAME_RECEIVED (R295, R296, R312). -/
def tsnFrameReceived (s : State) (port filter : Nat) (frame : List Byte) : State :=
  let t := s.tsn port
  if 4 ≤ port ∨ 256 ≤ filter ∨ t.linkUp = false ∨ s.isGated (UnitId.of 0x0E port) = true ∨ t.dropping.contains filter = true then s
  else
    let s := s.setTsn port { t with lastFrame := Tab.set t.lastFrame filter s.now, lost := t.lost.filter (· != filter) }
    match s.flightsWhere (fun f => f.awaits (port * 256 + filter)) with
    | [] => s
    | (d, f) :: _ => s.tsnDeliver d f frame

def execTsnFrameReceived (port filter : Nat) (frame : List Byte) (s : State) : Result :=
  .next (tsnFrameReceived s port filter frame)

/-- TSN_STREAM_LOST (R296, R312): no frame for LOSS_US marks the stream lost, once, and takes the partner's action. -/
def tsnStreamLost (s : State) (port filter : Nat) : State :=
  let t := s.tsn port
  let us := t.lossUs filter
  if 4 ≤ port ∨ 256 ≤ filter ∨ us = 0 ∨ t.lost.contains filter = true ∨ s.now < Tab.get t.lastFrame 0 filter + 1000 * us then s
  else
    let n := port * 256 + filter
    let drop := if s.bind.action 2 n = 2 then t.dropping ++ [filter] else t.dropping
    let s := s.setTsn port { t with lost := t.lost ++ [filter], dropping := drop }
    (s.log ((Syn.tsnStreamLost.record (tsnNode port) 0x0E port 0).withInfo 0 2 filter)).partnerAct 2 n

def execTsnStreamLost (port filter : Nat) (s : State) : Result := .next (tsnStreamLost s port filter)

/-- TSN_LINK_DOWN (R296). -/
def execTsnLinkDown (port : Nat) (s : State) : Result := .next (tsnLinkDown s port)

/-- Frames that wait for a gate of a port and may leave now. -/
def State.tsnGatesChanged (s : State) (port : Nat) : State :=
  (s.flightsWhere (fun f => decide (f.st = .waiting) && f.op == 0x20 && f.arg 0 1 == port && f.arg 8 8 == 0)).foldl
    (fun s p => if s.tsnDue p.2 then s.tsnSend p.1 p.2 else s) s

/-- GCL_INTERVAL_END (R295): the next entry's gate states apply; after the last one the cycle begins again, and a new list takes effect there. -/
def gclIntervalEnd (s : State) (port : Nat) : State :=
  let t := s.tsn port
  let len := fun (l : Tab Word) (i : Nat) => fieldOf (Tab.get l 0 i) 8 32
  if 4 ≤ port ∨ t.linkUp = false ∨ s.now < t.gclSince + len t.gclActive t.gclPos then s
  else
    let nxt := t.gclPos + 1
    let wrap := t.gclActive.isEmpty || decide (256 ≤ nxt) || len t.gclActive nxt == 0
    let t := if wrap then { t with gclActive := t.gcl, gclPos := 0, gclSince := s.now }
      else { t with gclPos := nxt, gclSince := s.now }
    (s.setTsn port t).tsnGatesChanged port

def execGclIntervalEnd (port : Nat) (s : State) : Result := .next (gclIntervalEnd s port)

/-- LAUNCH_TIME_REACHED (R295). -/
def launchTimeReached (s : State) (d : DescRef) : State :=
  match s.flight d with
  | none => s
  | some f =>
    if f.st = .waiting ∧ f.op = 0x20 ∧ f.arg 8 8 ≠ 0 ∧ s.tsnDue f = true then s.tsnSend d f else s

def execLaunchTimeReached (d : DescRef) (s : State) : Result := .next (launchTimeReached s d)

end Sys2Proof.Machine
end

