-- ==== Sys2Proof/Machine/Fences.lean ====
section
/-! DEFINITION. Fences and resets below the chip (R163, R164, R194, R344 to R351, R354, R355, R365, R366): what a fence does, the return of a unit, and the EC_RESET register. -/

namespace Sys2Proof.Machine

/-! ### Units as they come out of a reset (R354) -/

/-- The CORE_MAP record that covers a hart: its own, or its pair's (R51). -/
def Binding.coreRec (b : Binding) (h : Nat) : Option CoreRec :=
  match b.cores.find? (fun r => r.hart == h) with
  | some r => some r
  | none => b.cores.find? (fun r => r.pair && r.hart + 1 == h && h % 2 == 1)

/-- A hart in reset with the QID and the world of the effective Binding (R73, R150, R354). -/
def State.freshHart (s : State) (h : Nat) : Hart :=
  match s.bind.coreRec h with
  | none => Hart.reset
  | some r =>
    let w := ((s.bind.quire r.qid).map (·.initialSecure)).getD false
    { Hart.reset with qid := r.qid, paired := r.pair, secure := w, l2Secure := if w then 15 else 0 }

/-- A core put back into reset: an ordinary holder with empty caches; a time it waited for is forgotten, and it reports no miss (R329, R354). -/
def State.resetCore (s : State) (h : Nat) : State := s.setHart h (s.freshHart h)

/-- A slice with empty ways, and the masks, lock ownership and seeds of the effective Binding (R149, R354). -/
def State.freshSlice (s : State) (n : Nat) : Slice :=
  let page := fun (q : Nat) =>
    let r := s.bind.l3Ways.find? (fun r => r.slice == n && r.qid == q)
    { L3Q.reset with wayMask := (r.map (·.wayMask)).getD 0, lockMask := (r.map (·.lockMask)).getD 0,
                     lfsr := some (s.bind.sliceSeed n q) }
  let qs := 0 :: s.bind.quires.map (·.qid)
  { Slice.reset with q := Tab.build 256 (fun q => if qs.contains q then some (page q) else none) }

/-! ### Fences -/

/-- The fence of a unit is complete (R344). -/
def State.completeFence (s : State) (u : UnitId) : State :=
  { s with err := { s.err with fenced := s.err.fenced.map (fun f => if f.unit = u then { f with complete := true } else f) } }

/-- A fence lifted: a unit's, and those of the units within it, a CD being within its BD, but for HBM pseudo-channels, which only a cold reset brings back (R7, R348, R354); the return to service is to be signed (R372). -/
def State.liftFence (s : State) (u : UnitId) : State :=
  let up := fun (v : UnitId) => if v.ty = 0x10 ∧ v.no < 12 then some (dieUnit (16 + v.no / 3)) else container v
  let inside := fun (v : UnitId) =>
    v == u || (v.ty != 0x06 && (up v == some u || (up v).bind up == some u || ((up v).bind up).bind up == some u))
  if s.err.fenced.any (fun f => inside f.unit) then
    ({ s with err := { s.err with fenced := s.err.fenced.filter (fun f => !inside f.unit) } }).needResign
  else s

/-! #### Cores (R346) -/

/-- The dirty lines of a core. -/
def Hart.dirtyLines (x : Hart) : List Nat :=
  let of_ := fun (t : Tab CLine) => (t.filter (fun e => decide (e.2.st = .m))).map (·.2.line)
  distinct (of_ x.l1d ++ of_ x.vc ++ of_ x.l2)

/-- A line written back by a core that goes: its WbD reaches the home at once, and its Cmp is not waited for (log 22). -/
def State.writeBackNow (s : State) (h : Nat) (w : Wb) : State :=
  let m := s.wbMsg h w
  let n := s.homeOf (64 * w.line)
  (leavingArrives s m).takeCoh (answerMsg n m .cmp 0 stOk none)

/-- Every dirty line of a core written back, as it is or with every POISON bit set (R346). -/
def State.flushDirty (s : State) (h : Nat) (readable : Bool) : State :=
  let x := s.hart h
  x.dirtyLines.foldl (fun s l =>
    match x.lineCopy l with
    | none => s
    | some c =>
      s.writeBackNow h { line := l, dirty := true, data := c.data, poison := if readable then c.poison else 0xF,
                         tag := x.freeTag (hartCore h), sent := s.time.now, retried := false }) s

/-- A core out of service: its lines written back or poisoned, its armed channels missed, its boxes, locks and loops lost, its waiting snoops answered (R329, R346). -/
def State.stopCore (s : State) (h : Nat) (readable : Bool) : State :=
  let s := (s.flushDirty h readable)
  let s := (maskBits 4 (s.hart h).dlArmed.toNat).foldl (fun s n => s.channelMissAs h n 1) s
  let x := s.hart h
  let y : Hart := { x with
    run := .fenced, inbox := [], outbox := [], l1i := [], l1d := [], vc := [], l2 := [], locked := [], itlb := [], dtlb := [],
    l2tlb := [], loop0 := Loop.reset, loop1 := Loop.reset, misses := [], holds := [], reserve := none, deferTo := none,
    walk := none, cacheOp := 0, entering := none, wakeHeld := false, cstate := .c0, dlTake := 0, pairEven := none,
    pairOdd := none, pairReady := none, pairGo := none, nc64 := none, oldTags := [], btb := [], ras := [], rasSpec := [], loopBuf := [] }
  (s.setHart h y).releaseSnoops h

/-- The hart under whose number a cell is known: the even one of a pair (R339, R355). -/
def State.cellOf (s : State) (h : Nat) : Nat := if (s.hart (pairOf h)).paired then pairOf h else h

/-- CORE_LOST (R346): INFO holds the PC of the last retired instruction and the ARMED mask. -/
def State.logCoreLost (s : State) (h : Nat) : State :=
  let x := s.hart h
  s.log (((Syn.coreLost.record (hartOrigin h) 0x01 h x.qid).withInfo 0 8 x.lastPc.toNat).withInfo 8 1 x.dlArmed.toNat)

/-- Whether a core's fence has been carried out. -/
def State.coreGone (s : State) (h : Nat) : Bool := decide ((s.hart h).run = .fenced)

/-- A core or checked pair fenced as one cell (R346). -/
def coreFence (s : State) (h0 : Nat) (readable : Bool) : State :=
  let h := s.cellOf h0
  if !s.fuse.hartOk h || s.coreGone h then s
  else
    let s := s.logCoreLost h
    let s := (s.cellHarts h).foldl (fun s k => s.stopCore k readable) s
    s.completeFence (coreUnit h)

/-- CORE_FENCE (R346). -/
def execCoreFence (h : Nat) (arraysReadable : Bool) (s : State) : Result := .next (coreFence s h arraysReadable)

/-! #### Regions (R349 to R351) -/

/-- REGION_FENCED (R349, R350). -/
def State.regionRecord (die : Nat) : ErrRec := Syn.regionFenced.record (ctlNode die) 0x10 die 0

/-- A CD fenced as a region: each core fenced, its streams demoted (R219, R349). -/
def cdRegionFence (s : State) (cd : Nat) (reachable : Bool) : State :=
  let s := s.log (State.regionRecord cd)
  let s := ((List.range 32).map (fun k => cd * 32 + k)).foldl (fun s h => coreFence s h reachable) s
  (s.demoteWhere (fun g => nodeDie g.srcNode == cd || nodeDie g.dstNode == cd)).completeFence (dieUnit cd)

/-- CD_REGION_FENCE (R349). -/
def execCdRegionFence (cd : Nat) (reachable : Bool) (s : State) : Result :=
  .next (if cd < 12 then cdRegionFence s cd reachable else s)

/-- The dirty lines of a slice poisoned at their memory addresses (R164, R350). -/
def State.poisonDirty (s : State) (n : Nat) : State :=
  ((s.slice n).lines.filter (fun e => e.2.valid && e.2.dirty)).foldl (fun s e => s.queueWrite e.2.line e.2.data 0xF#4) s

/-- The port groups that hold lines of a slice are asked to give them back: they write back what is dirty with WbD to the line's home, and invalidate every copy (R194, R347). -/
def State.askPorts (s : State) (n : Nat) (p : Nat → Bool) : State :=
  let of_ := fun (e : DirEnt) => (e.targets.filter (fun d => (pcieAt d.1).isSome)).map (fun d => cohMsg .snpbi d.1 (s.homeNode e.line) 0 0 e.line)
  let ms := ((s.slice n).dir.filter (fun e => p e.2.line)).flatMap (fun e => of_ e.2)
  { s with net := { s.net with io := s.net.io ++ ms } }

/-- A slice out of service with a new home (R163, R164): its lines, masks and locks are gone, the requests it held wait, and its directory is to be rebuilt. -/
def State.moveSlice (s : State) (n : Nat) (home : Option Nat) : State :=
  let s := s.askPorts n (fun _ => true)
  let t := s.slice n
  let wait := t.waiting.map (·.msg) ++ (t.active.filter (fun x => !x.granted && !x.evict)).map (·.req) ++ t.stalled
  let s := s.setSlice n { Slice.reset with movedTo := home, rebuilding := true, stalled := wait, snpTag := t.snpTag }
  { s with mem := { s.mem with reads := s.mem.reads.filter (fun r => r.slice != n) } }

/-- The next unfenced BD, counting upwards and wrapping (R350). -/
def State.nextBd (s : State) (bd : Nat) : Option Nat :=
  ((List.range 3).map (fun i => (bd + 1 + i) % 4)).find? (fun b => !s.isFenced (dieUnit (16 + b)))

/-- A BD fenced as a region (R350, R351). -/
def bdRegionFence (s : State) (bd : Nat) (readable : Bool) : State :=
  let s := s.log (State.regionRecord (16 + bd))
  let s := ((List.range 3).map (fun k => 3 * bd + k)).foldl (fun s cd => cdRegionFence s cd true) s
  let slices := (List.range 12).map (fun k => 12 * bd + k)
  let s := if readable then slices.foldl State.poisonDirty s else s.raiseFatal (State.regionRecord (16 + bd))
  let s := slices.foldl (fun s n => s.moveSlice n ((s.nextBd bd).map (fun b => 12 * b + n % 12))) s
  s.completeFence (dieUnit (16 + bd))

/-- BD_REGION_FENCE (R350). -/
def execBdRegionFence (bd : Nat) (tagsReadable : Bool) (s : State) : Result :=
  .next (if bd < 4 then bdRegionFence s bd tagsReadable else s)

/-! #### Slices (R163, R164, R194) -/

/-- Whether a slice is out of service. -/
def State.sliceFenced (s : State) (n : Nat) : Bool :=
  s.isFenced (UnitId.of 0x03 n) || s.isFenced (UnitId.of 0x04 (sliceGroup n)) || s.isFenced (dieUnit (16 + sliceBd n))
    || (s.slice n).movedTo.isSome

/-- The new home of a fenced slice (R163): the next unfenced slice of its group, else the lowest unfenced one of the next group on its BD. -/
def State.newHome (s : State) (n : Nat) : Option Nat :=
  let near := (List.range 3).map (fun i => n / 4 * 4 + (n % 4 + 1 + i) % 4)
  let far := [1, 2].flatMap (fun k => (List.range 4).map (fun i => sliceBd n * 12 + (n % 12 / 4 + k) % 3 * 4 + i))
  (near ++ far).find? (fun m => !s.sliceFenced m)

/-- L3_SLICE_FENCE (R163, R164): the slice's addresses move to their new home, dirty lines poisoned at memory; unreadable tags, or a BD without a slice left, fence the BD as a region. -/
def l3SliceFence (s : State) (n : Nat) (readable : Bool) : State :=
  if 48 ≤ n ∨ (s.slice n).rebuilding = true ∨ (s.slice n).movedTo.isSome = true then s
  else match s.newHome n, readable with
    | some m, true =>
      let lost := (s.slice n).q.filter (fun e => e.2.lockedWays ≠ 0)
      let s := s.log ((Syn.l3SliceFenced.record (sliceNode n) 0x03 n 0).withInfo 0 2 m)
      let s := lost.foldl (fun s e => s.log (Syn.l3LockLost.record (sliceNode n) 0x03 n e.1)) s
      (s.poisonDirty n).moveSlice n (some m)
    | _, _ => bdRegionFence (s.addFence (UnitId.of 0x03 n) Syn.l3SliceFenced.code) (sliceBd n) readable

def execL3SliceFence (slice : Nat) (tagsReadable : Bool) (s : State) : Result := .next (l3SliceFence s slice tagsReadable)

/-- Whether a line's home passes through a slice (R163, R250). -/
def State.passes (s : State) (fuel k n : Nat) : Bool :=
  match fuel with
  | 0 => false
  | f + 1 => k == n || (match (s.slice k).movedTo with | some m => s.passes f m n | none => false)

/-- Every line that a core holds. -/
def Hart.heldLines (x : Hart) : List Nat :=
  let of_ := fun (t : Tab CLine) => (t.filter (fun e => e.2.st.valid)).map (·.2.line)
  distinct (of_ x.l1i ++ of_ x.l1d ++ of_ x.vc ++ of_ x.l2)

/-- One core writes back its dirty lines that meet a test to their home, and gives up every copy of such lines (R194). -/
def State.recallFrom (s : State) (h : Nat) (p : Nat → Bool) : State :=
  let x := s.hart h
  let put := fun (s : State) (l : Nat) (d : Line) (ps : Poison) => s.homeWrite (s.homeOf (64 * l)) x.qid l true d ps
  let s := (x.wbs.filter (fun w => p w.line && w.dirty)).foldl (fun s w => put s w.line w.data w.poison) s
  let ls := x.heldLines.filter p
  let s := ls.foldl (fun s l =>
    match x.lineCopy l, decide (x.lineSt l = .m) with
    | some c, true => put s l c.data c.poison
    | _, _ => s) s
  let x := ls.foldl (fun (x : Hart) l => x.dropCopies l) { x with wbs := x.wbs.filter (fun w => !p w.line) }
  s.setHart h { x with misses := x.misses.map (fun m => if p m.line && decide (m.st = .smA) then { m with st := .imD } else m) }

/-- Every core gives up the lines that meet a test; write-backs on their way arrive with this (R194; log 22). -/
def State.recallSet (s : State) (p : Nat → Bool) : State :=
  let s := (s.harts.map (·.1)).foldl (fun s h => s.recallFrom h p) s
  { s with net := { s.net with coh := s.net.coh.filter (fun m => !(p m.addr && (decide (m.opc = .wbd) || decide (m.opc = .evc)))) } }

/-- Requests that waited go on to the home of their lines (R164). -/
def State.resume (s : State) (ms : List CohMsg) : State := ms.foldl homeRequest s

/-- DIR_REBUILD (R164, R194): the holders have given up the slice's lines, and the waiting requests go on at the new home. -/
def dirRebuild (s : State) (n : Nat) : State :=
  if 48 ≤ n ∨ (s.slice n).rebuilding = false then s
  else
    let home := s.follow 48 n
    let p := fun (l : Nat) => s.passes 48 (s.bind.baseHome (64 * l)) n
    let s := s.recallSet p
    let ms := (s.slice n).stalled
    let s := s.modSlice n (fun t => { t with rebuilding := false, stalled := [] })
    let s := s.log ((Syn.dirRebuild.record (sliceNode n) 0x03 n 0).withInfo 0 2 home)
    (s.completeFence (UnitId.of 0x03 n)).resume ms

def execDirRebuild (slice : Nat) (s : State) : Result := .next (dirRebuild s slice)

/-- A slice back in service (R347): its addresses move back; the interim home writes its dirty lines of the set to memory, and holders give up their copies. -/
def State.returnSlice (s : State) (n : Nat) : State :=
  let interim := s.follow 48 n
  let ms := (s.slice n).stalled
  let s := s.setSlice n (s.freshSlice n)
  if interim = n then s.resume ms
  else
    let p := fun (l : Nat) => s.homeOf (64 * l) == n
    let s := s.askPorts interim p
    let t := s.slice interim
    let s := (t.lines.filter (fun e => p e.2.line && e.2.valid && e.2.dirty)).foldl (fun s e => s.queueWrite e.2.line e.2.data e.2.poison) s
    let back := (t.waiting.filter (fun w => p w.msg.addr)).map (·.msg)
      ++ (t.active.filter (fun x => p x.req.addr && !x.granted && !x.evict)).map (·.req)
    let s := s.modSlice interim (fun t => { t with
      lines := t.lines.filter (fun e => !p e.2.line), dir := t.dir.filter (fun e => !p e.2.line),
      waiting := t.waiting.filter (fun w => !p w.msg.addr), active := t.active.filter (fun x => !p x.req.addr) })
    (s.recallSet p).resume (ms ++ back)

/-! ### Escalation (R344) -/

/-- The cells and blocks of a container whose fence has a command of its own. -/
def membersOf (s : State) (u : UnitId) : List UnitId :=
  match u.ty with
  | 0x02 => ((List.range 8).map (fun k => u.no * 8 + k)).filter (fun h => s.fuse.hartOk h && s.cellOf h == h) |>.map coreUnit
  | 0x04 => (List.range 4).map (fun k => UnitId.of 0x03 (u.no / 3 * 12 + u.no % 3 * 4 + k))
  | _ => []

/-- The node under which a container reports. -/
def unitNode (u : UnitId) : Nat :=
  match u.ty with
  | 0x01 => hartOrigin u.no
  | 0x02 => clusterNode u.no
  | 0x03 => sliceNode u.no
  | 0x04 => ctlNode (16 + u.no / 3)
  | 0x05 => u.no
  | 0x06 => hbmNode (u.no / 32)
  | 0x07 => hbmNode u.no
  | 0x08 => ddrNode u.no
  | 0x09 => crossingNode u.no
  | 0x0A => laneNode u.no
  | 0x0B => feNode
  | 0x0C => pcieNode u.no
  | 0x0D => slNode u.no
  | 0x0E => tsnNode u.no
  | 0x0F => checkNode
  | 0x10 => ctlNode u.no
  | 0x11 => claspNode
  | 0x12 => govNode
  | 0x13 => fmNode
  | 0x14 => ffNode
  | 0x15 => chipEcNode
  | _ => ctlNode iodDie

/-- FENCE_ESCALATED (R344): the container of a unit whose fence is not complete after 100 µs is fenced with its cells; a region's incomplete fence is fatal. -/
def fenceEscalated (s : State) (u : UnitId) : State :=
  match s.err.fenced.find? (fun f => f.unit == u && !f.complete && decide (f.since + 100000 ≤ s.time.now)) with
  | none => s
  | some f =>
    let rec_ := fun (c : UnitId) =>
      { ((Syn.fenceEscalated.record (unitNode c) c.ty c.no 0).withInfo 0 2 f.syndrome) with escalated := true }
    match container u with
    | none => s.raiseFatal (rec_ u)
    | some c =>
      let s := (s.completeFence u).log (rec_ c)
      (membersOf s c).foldl (fun s v => s.addFence v Syn.fenceEscalated.code) s

def execFenceEscalated (u : UnitId) (s : State) : Result := .next (fenceEscalated s u)

/-! ### Resets by software (R354, R355) -/

/-- Whether a type and number name a unit (R339). -/
def State.unitExists (s : State) (u : UnitId) : Bool :=
  match u.ty with
  | 0x01 => s.fuse.hartOk u.no && s.cellOf u.no == u.no
  | 0x02 => s.fuse.clusterOk u.no
  | 0x03 => u.no < 48
  | 0x04 => u.no < 12
  | 0x05 => blockListed (nodeDie u.no) 0
  | 0x06 => u.no < 256
  | 0x07 | 0x0A | 0x0C | 0x0D => u.no < 8
  | 0x08 => u.no < 16
  | 0x09 => (crossing u.no).isSome
  | 0x0B => u.no == 0
  | 0x0E => u.no < 4
  | 0x0F => u.no < 32
  | 0x10 => packageDies.contains u.no
  | 0x11 | 0x12 | 0x13 | 0x14 | 0x15 => u.no == 0
  | _ => false

/-- Whether R354 lists a time for a unit's reset. -/
def resettable (u : UnitId) : Bool :=
  [0x01, 0x02, 0x03, 0x04, 0x07, 0x09, 0x0C, 0x0D, 0x0E].contains u.ty || (u.ty == 0x10 && u.no < 20)

/-- Whether a view may name a unit (R355). -/
def State.viewMayReset (s : State) (v : EcView) (u : UnitId) : Bool :=
  match v with
  | .owner => resettable u
  | .quire q =>
    (u.ty == 0x01 && (s.hart u.no).qid == q)
      || (u.ty == 0x02 && ((List.range 8).map (fun k => u.no * 8 + k)).all (fun h => !s.fuse.hartOk h || (s.hart h).qid == q))
  | .low _ => false

/-- The harts of a unit of cores. -/
def State.hartsOf (s : State) (u : UnitId) : List Nat :=
  match u.ty with
  | 0x01 => s.cellHarts u.no
  | 0x02 => (List.range 8).map (fun k => u.no * 8 + k)
  | 0x10 =>
    if u.no < 12 then (List.range 32).map (fun k => u.no * 32 + k)
    else if 16 ≤ u.no ∧ u.no < 20 then (List.range 96).map (fun k => (u.no - 16) * 96 + k)
    else []
  | _ => []

/-- The slices of a unit. -/
def slicesOf (u : UnitId) : List Nat :=
  match u.ty with
  | 0x03 => [u.no]
  | 0x04 => (List.range 4).map (fun k => u.no / 3 * 12 + u.no % 3 * 4 + k)
  | 0x10 => if 16 ≤ u.no ∧ u.no < 20 then (List.range 12).map (fun k => (u.no - 16) * 12 + k) else []
  | _ => []

/-- The HBM stacks of a unit. -/
def stacksOf (u : UnitId) : List Nat :=
  match u.ty with
  | 0x07 => [u.no]
  | 0x10 => if 16 ≤ u.no ∧ u.no < 20 then [2 * (u.no - 16), 2 * (u.no - 16) + 1] else []
  | _ => []

/-- The crossings of a unit. -/
def crossingsOf (u : UnitId) : List Nat :=
  match u.ty with
  | 0x09 => [u.no]
  | 0x10 =>
    if u.no < 12 then (List.range 4).map (fun p => u.no * 4 + p)
    else if 16 ≤ u.no ∧ u.no < 20 then (List.range 12).map (fun k => (u.no - 16) * 12 + k) ++ (List.range 4).map (fun p => 64 + (u.no - 16) * 4 + p)
    else []
  | _ => []

/-- Work on a unit that a reset fences first is lost (R346, R355). -/
def State.fenceForReset (s : State) (u : UnitId) : State :=
  let s := s.addFence u 0
  let s := (s.hartsOf u).foldl (fun s h => if s.fuse.hartOk h && !s.coreGone h then s.stopCore h true else s) s
  let s := (slicesOf u).foldl (fun s n => if (s.slice n).movedTo.isSome then s else (s.poisonDirty n).moveSlice n (s.newHome n)) s
  s.completeFence u

/-- A region reset erases the working copies of the repair map at the die's ends of its crossings (R234). -/
def State.dropCopies (s : State) (u : UnitId) : State :=
  let xs := crossingsOf u
  if u.ty ≠ 0x10 then s
  else if u.no < 12 then { s with links := { s.links with far := s.links.far.filter (fun e => !xs.contains e.1) } }
  else
    { s with links := { s.links with
        near := s.links.near.filter (fun e => !(xs.contains e.1 && decide (e.1 < 48))),
        far := s.links.far.filter (fun e => !(xs.contains e.1 && decide (64 ≤ e.1))) } }

/-! ### Partner ports in reset (R241, R243) -/

/-- The port of a site in reset. -/
def State.partnerDown (s : State) (site : Nat) : State := s.setXl (80 + site) Xl.reset

/-- Link-up refused (R241): the port is in reset again. -/
def State.partnerReject (s : State) (site reason : Nat) : State :=
  let s := s.partnerDown site
  (s.setPartner site { s.partner site with st := .rejected, reason := reason, match_ := 0xFF, since := s.time.now }).log
    ((Syn.partnerRejected.record switchNode 0x17 site 0).withInfo 0 1 reason)

/-- Every request outstanding at a die ends with a STATUS (R243). -/
def State.failRequestsToDie (s : State) (die status : Nat) : State :=
  (distinct ((s.net.io.filter (fun m => nodeDie m.dst == die)).map (·.dst))).foldl (fun s n => s.failRequestsTo n status) s

/-- PARTNER_LOST (R243): the port is in reset, the die's transactions end with DEV_ERROR, its streams are demoted, and the partner action is taken; ISOLATE allows no further attempt. -/
def partnerLost (s : State) (site : Nat) : State :=
  let p := s.partner site
  if 2 ≤ site ∨ p.st ≠ .up then s
  else
    let isolate := s.bind.action 3 site == 2
    let s := (s.setPartner site { p with st := .lost, retries := if isolate then 0 else 3, blocked := p.blocked || isolate,
                                         since := s.time.now }).partnerDown site
    let s := (s.failRequestsToDie (28 + site) 3).log (Syn.partnerLost.record switchNode 0x17 site 0)
    let s := (s.demoteWhere (fun g => g.onPartner site)).needResign
    s.partnerAct 3 site

/-- A partner port that a reset below the chip has put in reset: a die that was UP is lost, and a link-up that ran has failed; it trains again only in a link-up of its own (R228, R241, R243). -/
def State.partnerPortReset (s : State) (site : Nat) : State :=
  match (s.partner site).st with
  | .up => partnerLost s site
  | .training => s.partnerReject site 7
  | .cert => s.partnerReject site 2
  | _ => s.partnerDown site

/-- A crossing as a reset below the chip leaves it: it retrains, and a partner port is in reset (R228, R354). -/
def State.resetXl (s : State) (x : Nat) : State :=
  if 80 ≤ x then s.partnerPortReset (x - 80)
  else s.setXl x { Xl.reset with st := .training, gOff := (s.xl x).gOff, partialReset := true }

/-- A unit as its reset leaves it (R228, R347, R354). -/
def State.resetUnit (s : State) (u : UnitId) : State :=
  let s := s.liftFence u
  let s := (s.hartsOf u).foldl (fun s h => if s.fuse.hartOk h then s.resetCore h else s) s
  let s := (slicesOf u).foldl State.returnSlice s
  let s := (stacksOf u).foldl (fun s i => ({ s with mem := s.mem.poisonStack i } : State)) s
  let s := ((crossingsOf u).foldl State.resetXl s).dropCopies u
  match u.ty with
  | 0x0C =>
    let g := s.group u.no
    let s : State := { s with io := { s.io with cfg := s.io.cfg.filter (fun e => e.1 / 4096 / 65536 != u.no) } }
    let s : State := { s with mem := { s.mem with cxl := s.mem.cxl.map (fun e => if e.1 = u.no then (e.1, { e.2 with lost := false }) else e) } }
    s.setGroup u.no { g with dpc := [], linkUp := rootPorts g.arrange }
  | 0x0D => s.setSlPort u.no { SlPort.reset with released := (s.slPort u.no).released }
  | 0x0E => s.setTsn u.no Tsn.reset
  | _ => s

/-- EC_RESET's bits: GO, UNIT_TYPE and UNIT, BUSY and RESULT. -/
def ecResetMask : Nat := 0xF0000001FF00FFFF

def ecAddr (v : EcView) (reg : Nat) : Nat :=
  match v with
  | .owner => controlAddr iodDie 0x030 reg
  | .quire q => controlAddr iodDie 0x030 (0x10000 + q * 0x100 + reg)
  | .low u =>
    match u.ty with
    | 0x02 => controlAddr (u.no / 4) (0x10 + u.no % 4) (0xF0000 + reg)
    | 0x04 => controlAddr (16 + u.no / 3) (0x20 + u.no % 3) (0xF0000 + reg)
    | 0x07 => controlAddr (16 + u.no / 2) (0x30 + u.no % 2) (0xF0000 + reg)
    | _ => controlAddr u.no 0xFFE reg

/-- A record of a write to a view's register (R353). -/
def ecOff (v : EcView) (reg : Nat) : Nat :=
  match v with
  | .quire q => 0x10000 + q * 0x100 + reg
  | _ => reg

/-- EC_RESET written (R345, R355): pages of lower collectors have none. -/
def writeEcReset (s : State) (h : Nat) (view : EcView) (v : Word) : State :=
  if !s.ecAllowed h view then s.refuse (.hart h) true (ecAddr view 0x20)
  else match view with
    | .low _ => s
    | .owner | .quire _ =>
      let g := s.ecRegs view
      if g.rstBusy then s.whileActive (.hart h) iodDie 0x030 (ecOff view 0x20) v
      else
        let s := s.reserved (.hart h) iodDie 0x030 (ecOff view 0x20) v ecResetMask
        let u := UnitId.of (fieldOf v 24 8) (fieldOf v 0 16)
        let g := { g with rstType := u.ty, rstUnit := u.no }
        if !flagOf v 32 then s.setEcRegs view g
        else if !s.unitExists u then s.setEcRegs view { g with rstResult := 2 }
        else if !(resettable u && s.viewMayReset view u) then s.setEcRegs view { g with rstResult := 1 }
        else
          let s := s.setEcRegs view { g with rstBusy := true, rstResult := 0 }
          let s := if s.isFenced u then s else s.fenceForReset u
          let r : UnitReset := { unit := u, view := some view }
          { s with err := { s.err with resets := s.err.resets ++ [r] } }

/-- EC_RESET (R355). -/
def execEcReset (h : Nat) (view : EcView) (v : Word) (s : State) : Result :=
  .next (s.access h (fun s => writeEcReset s h view (v ||| word (2 ^ 32))))

/-- EC_RESET_DONE (R355, R366): a reset that runs is complete, or the unit stays fenced; a block that has not been wiped cannot leave reset. -/
def ecResetDone (s : State) (u : UnitId) (ok : Bool) : State :=
  match s.err.resets.find? (fun r => r.unit == u) with
  | none => s
  | some r =>
    let s : State := { s with err := { s.err with resets := s.err.resets.erase r } }
    let done := fun (s : State) (result : Nat) =>
      match r.view with
      | some v => s.setEcRegs v { s.ecRegs v with rstBusy := false, rstResult := result }
      | none => s
    if ok && !s.pwr.wiping.contains u then
      done ((s.resetUnit u).log (Syn.unitReset.record (unitNode u) u.ty u.no 0)) 0
    else done (s.log (Syn.resetFailed.record (unitNode u) u.ty u.no 0)) 3

def execEcResetDone (u : UnitId) (ok : Bool) (s : State) : Result := .next (ecResetDone s u ok)

/-! ### Secure-held blocks (R365, R366) -/

/-- The Quires whose Secure tags or Secure harts a unit holds; 0 for the Clasp's (R361, R365). -/
def State.secureHolders (s : State) (u : UnitId) : List Nat :=
  let cores := (s.hartsOf u).filter (fun h => (s.hart h).secure || (s.hart h).l2Secure != 0 || s.bind.secureOnly (s.hart h).qid)
  let ofCores := cores.map (fun h => (s.hart h).qid)
  let wins := fun (p : MemWin → Bool) => (s.bind.windows.filter (fun w => w.secure && p w)).map (·.qid)
  let queues := (s.bind.queues.filter (·.secure)).map (·.qid)
  let fns := fun (g : Nat) => (s.bind.functions.filter (fun f => f.secure && f.group == g)).map (·.qid)
  let open_ := fun (k : Nat) => match s.bind.checkRec k with
    | some r => if s.bind.secureOnly r.qid then [r.qid] else []
    | none => [0]
  match u.ty with
  | 0x07 => wins (fun w => decide (rangeOf w.base = .hbm) && hbmBd w.base == u.no / 2)
  | 0x06 => wins (fun w => decide (rangeOf w.base = .hbm) && hbmBd w.base == u.no / 64)
  | 0x08 => wins (fun w => decide (rangeOf w.base = .ddr))
  | 0x0B => queues
  | 0x0A => ((s.lane u.no).flights.filter (fun f => s.bind.queueSecure 2 f.vi)).map (fun f => s.bind.queueOwner 2 f.vi)
  | 0x0C => fns u.no
  | 0x0D => (s.bind.queues.filter (fun r => r.secure && r.kind == 2 && r.function == 3)).map (·.qid)
  | 0x0E => (s.bind.queues.filter (fun r => r.secure && r.kind == 2 && r.function == 2)).map (·.qid)
  | 0x0F => if 16 ≤ u.no ∧ u.no < 32 then open_ u.no else []
  | 0x10 =>
    if u.no = iodDie then 0 :: queues
    else if 16 ≤ u.no ∧ u.no < 20 then ofCores ++ wins (fun w => decide (rangeOf w.base = .hbm) && hbmBd w.base == u.no - 16)
    else ofCores
  | 0x11 => [0]
  | _ => ofCores

def State.secureHeld (s : State) (u : UnitId) : Bool := !(s.secureHolders u).isEmpty

/-- Notice to the Quire that holds a Secure tag or hart of a unit (R365). -/
def State.notifyHolder (s : State) (u : UnitId) : State :=
  match (s.secureHolders u).find? (· != 0) with
  | some q => s.notifyQuire q
  | none => s

/-- BLOCK_LOST (R366): a Secure-held block that lost clock or power is fenced and its holder notified; it is to be wiped. -/
def blockLost (s : State) (u : UnitId) : State :=
  if !s.unitExists u || !s.secureHeld u || s.pwr.wiping.contains u then s
  else
    let s := s.notifyHolder u
    let s := s.log (((Syn.blockLost.record (unitNode u) u.ty u.no (((s.secureHolders u).head?).getD 0)).withSecure true))
    let s := (s.hartsOf u).foldl (fun s h => if s.fuse.hartOk h && !s.coreGone h then s.stopCore h false else s) s
    { s with pwr := { s.pwr with wiping := s.pwr.wiping ++ [u] } }

def execBlockLost (u : UnitId) (s : State) : Result := .next (blockLost s u)

/-- Every array and register of a block overwritten with zeros (R366). -/
def State.wipe (s : State) (u : UnitId) : State :=
  let s := (s.hartsOf u).foldl (fun s h => s.setHart h { Hart.reset with run := .fenced, qid := (s.hart h).qid, paired := (s.hart h).paired }) s
  let s := (slicesOf u).foldl (fun s n => s.modSlice n (fun t => { t with lines := [], dir := [], q := [] })) s
  let s : State := if u.ty = 0x0B ∨ u = dieUnit iodDie then { s with qe := { s.qe with ctx := [], cached := [], vi := [] } } else s
  if u.ty = 0x11 ∨ u = dieUnit iodDie then { s with mem := { s.mem with keys := [] }, qe := { s.qe with keys := [] } } else s

/-- SECURE_WIPE (R366): with power back the block's arrays are zeroed and read back; only zeros let it leave reset. -/
def secureWipe (s : State) (u : UnitId) (zeros : Bool) : State :=
  if !s.pwr.wiping.contains u then s
  else
    let s := s.wipe u
    if zeros then { s with pwr := { s.pwr with wiping := s.pwr.wiping.erase u } }
    else s.log ((Syn.secureWipeFail.record (unitNode u) u.ty u.no 0).withSecure true)

def execSecureWipe (u : UnitId) (zeros : Bool) (s : State) : Result := .next (secureWipe s u zeros)

end Sys2Proof.Machine
end

