-- ==== Sys2Proof/Machine/Counters.lean ====
section
/-! DEFINITION. The counter page of a core (R403, R406 to R408) and the wraps of its counters (R407). -/

namespace Sys2Proof.Machine

/-- The address of a register of a core's counter page. -/
def cntAddr (core off : Nat) : Nat := controlAddr (hartCd core) (0x20 + core % 32) (0x1000 + off)

/-- Whether a hart may access a core's page (R408): a hart of the core's own Quire, in a world that the page's tag permits, in M-mode unless USER_COUNTERS lets any mode read. -/
def State.cntAllowed (s : State) (who : Agent) (core : Nat) (write : Bool) : Bool :=
  match who with
  | .hart h =>
    let x := s.hart h
    let user := ((s.bind.quire x.qid).map (·.userCounters)).getD false
    s.fuse.hartOk core && (s.hart core).qid == x.qid && x.qid != 0 && (s.inM h || (user && !write))
      && (x.secure || !s.bind.secureOnly x.qid)
  | .governor => !write
  | .clasp | .node _ => false

/-- Whether a counter's value is open: it counts an event that the model does not time, and is not chained to another. -/
def Hart.cntOpen (x : Hart) (n : Nat) : Bool := untimed n && !(n != 0 && x.cntChain.getLsbD n)

/-- The nanoseconds of a C-state that lasts, which its counter holds besides those counted (R404). -/
def Hart.cntRunning (x : Hart) (now n : Nat) : Nat :=
  if decide (cCounter x.cstate = some n) && !x.cntChain.getLsbD n then now - x.cSince else 0

/-- CNT n as a read serves it: the count, or a free value for a counter that is open. -/
def State.cntValue (s : State) (core n : Nat) : Word × State :=
  let x := s.hart core
  if x.cntOpen n then (word (s.draw.1 % 2 ^ 48), s.draw.2)
  else (word (((Tab.get x.cnt 0 n).toNat + x.cntRunning s.time.now n) % 2 ^ 48), s)

/-- A read of CNT n stamps the page (R408). -/
def State.cntStamped (s : State) (core : Nat) : State :=
  s.modHart core (fun x => { x with cntStamp := s.hartTime core })

/-- CNT_READ (R408). -/
def cntRead (s : State) (h core n rd : Nat) : State :=
  if n < 128 ∧ s.cntAllowed (.hart h) core false = true then
    let r := s.cntValue core n
    (r.2.cntStamped core).modHart h (fun x => x.setX rd r.1)
  else s.ctlFault h false (cntAddr core (8 * n))

def execCntRead (h core n rd : Nat) (s : State) : Result := .next (s.access h (fun s => cntRead s h core n rd))

/-- COUNTER_WRAP (R406, R407): counter n goes on from 2^48 − 1 to 0, which sets its CNT_OVF bit and feeds a chained counter. -/
def counterWrap (s : State) (h n : Nat) : State :=
  if s.fuse.hartOk h ∧ n < 128 then
    s.modHart h (fun x => Hart.addCnt 128 x n (2 ^ 48 - (Tab.get x.cnt 0 n).toNat))
  else s

def execCounterWrap (h n : Nat) (s : State) : Result := .next (counterWrap s h n)

/-- A 64-bit half of a mask. -/
def maskHalf (v : BitVec 128) (i : Nat) : Word := word (bitsOf v.toNat (64 * i) 64)

/-- The registers of the page other than the counters, as they read. -/
def State.cntPage (s : State) (core off : Nat) : Word :=
  let x := s.hart core
  match off with
  | 0x400 => word x.cntStamp
  | 0x408 => maskHalf x.cntChain 0
  | 0x410 => maskHalf x.cntChain 1
  | 0x418 => maskHalf x.cntOvf 0
  | 0x420 => maskHalf x.cntOvf 1
  | _ => 0

/-- A mask with one half replaced. -/
def setHalf (v : BitVec 128) (i n : Nat) : BitVec 128 :=
  BitVec.ofNat 128 (v.toNat - bitsOf v.toNat (64 * i) 64 * 2 ^ (64 * i) + n * 2 ^ (64 * i))

/-- A write to the page (R408): only by M-mode harts. -/
def writeCnt (s : State) (who : Agent) (core off : Nat) (v : Word) : State :=
  if !s.cntAllowed who core true then s.refuse who true (cntAddr core off)
  else
    let res := fun (s : State) (own : Nat) => s.reserved who (hartCd core) (0x20 + core % 32) (0x1000 + off) v own
    match off with
    | 0x408 => (res s (2 ^ 64 - 2)).modHart core (fun x => { x with cntChain := setHalf x.cntChain 0 (v &&& ~~~1#64).toNat })
    | 0x410 => s.modHart core (fun x => { x with cntChain := setHalf x.cntChain 1 v.toNat })
    | 0x418 => s.modHart core (fun x => { x with cntOvf := x.cntOvf &&& ~~~(setHalf 0 0 v.toNat) })
    | 0x420 => s.modHart core (fun x => { x with cntOvf := x.cntOvf &&& ~~~(setHalf 0 1 v.toNat) })
    | _ => if off < 0x400 then res s (2 ^ 48 - 1) else s

end Sys2Proof.Machine
end

