-- ==== Sys2Proof/Machine/EcCtl.lean ====
section
/-! DEFINITION. The registers of the Error Collectors' views (R345, R353), stores to interrupt files and MSIs (R28, R59, R362). -/

namespace Sys2Proof.Machine

/-! ### Views (R345) -/

/-- Die and block of a view's page, and the offset of a register in the block. -/
def ecPlace (v : EcView) (reg : Nat) : Nat × Nat × Nat := (decodeControl (ecAddr v reg)).getD (iodDie, 0x030, reg)

/-- Reserved bits written to a register of a view. -/
def State.ecReserved (s : State) (h : Nat) (view : EcView) (reg : Nat) (v : Word) (own : Nat) : State :=
  let p := ecPlace view reg
  s.reserved (.hart h) p.1 p.2.1 p.2.2 v own

/-- EC_SEL written: NEXT searches, else INDEX is stored. -/
def writeEcSel (s : State) (h : Nat) (view : EcView) (v : Word) : State :=
  if !s.ecAllowed h view then s.refuse (.hart h) true (ecAddr view 0x08)
  else
    let s := s.ecReserved h view 0x08 v 0xC0000000000003FF
    if flagOf v 62 then s.setEcRegs view (s.ecNext view)
    else s.setEcRegs view { s.ecRegs view with index := fieldOf v 0 10 }

/-- EC_CTL written: CLEAR and CLEAR_ALL. -/
def writeEcCtl (s : State) (h : Nat) (view : EcView) (v : Word) : State :=
  if !s.ecAllowed h view then s.refuse (.hart h) true (ecAddr view 0x10)
  else
    let s := s.ecReserved h view 0x10 v 0xC000000000000000
    let s := if flagOf v 63 then s.ecClear view else s
    if flagOf v 62 then s.ecClearAll view else s

/-- Whether a value of EC_IRQ keeps its limits: a hart of the view's Quire, a file that exists, an identity that the Quire may signal (R59). -/
def State.ecIrqOk (s : State) (view : EcView) (v : Word) : Bool :=
  let q := match view with
    | .quire q => q
    | .owner => s.bind.owner.getD 0
    | .low _ => 0
  let h := fieldOf v 32 16
  let f := fieldOf v 24 4
  let id := fieldOf v 0 11
  s.fuse.hartOk h && (s.hart h).qid == q && decide (f ≤ 8) && decide (1 ≤ id) && s.maySignal q h f id

/-- EC_IRQ written: pages of lower collectors have none. -/
def writeEcIrq (s : State) (h : Nat) (view : EcView) (v : Word) : State :=
  if !s.ecAllowed h view then s.refuse (.hart h) true (ecAddr view 0x18)
  else match view with
    | .low _ => s
    | .owner | .quire _ =>
      let s := s.ecReserved h view 0x18 v 0x8000FFFF0F0007FF
      if flagOf v 63 && !s.ecIrqOk view v then
        s.logWrite Syn.ecAccessDenied (.hart h) iodDie 0x030 (ecOff view 0x18) v
      else
        s.setEcRegs view { s.ecRegs view with
          irqEnable := flagOf v 63, irqHart := fieldOf v 32 16, irqFile := fieldOf v 24 4, irqId := fieldOf v 0 11,
          irqSecure := (s.hart h).secure }

/-- EC_SEL_NEXT (R345). -/
def execEcSelNext (h : Nat) (view : EcView) (s : State) : Result :=
  .next (s.access h (fun s => writeEcSel s h view (word (2 ^ 62))))

/-- CLEAR (R345). -/
def execClear (h : Nat) (view : EcView) (s : State) : Result := .next (s.access h (fun s => writeEcCtl s h view (word (2 ^ 63))))

/-- CLEAR_ALL (R345). -/
def execClearAll (h : Nat) (view : EcView) (s : State) : Result := .next (s.access h (fun s => writeEcCtl s h view (word (2 ^ 62))))

/-- EC_IRQ_WRITE (R345). -/
def execEcIrqWrite (h : Nat) (view : EcView) (v : Word) (s : State) : Result := .next (s.access h (fun s => writeEcIrq s h view v))

/-- What a read of EC_STAT clears: LOST and DL_MISSES (R10, R345). -/
def State.ecStatRead (s : State) (view : EcView) : State := s.setEcRegs view { s.ecRegs view with lost := 0, dlMisses := 0 }

/-- EC_STAT_READ (R345). -/
def execEcStatRead (h : Nat) (view : EcView) (rd : Nat) (s : State) : Result :=
  .next (s.readReg h rd (ecAddr view 0x00) (fun s => s.ecAllowed h view) (fun s => s.ecStat view) (fun s => s.ecStatRead view))

/-- The selected record as a hart reads it, 8 bytes of it (R345): zero where the view shows none. -/
def State.ecRecord (s : State) (h : Nat) (view : EcView) (i : Nat) : Word :=
  match s.ecSlot view (s.ecRegs view).index with
  | some r => word (numAt (r.bytes (!(s.hart h).secure)) (8 * i) 8)
  | none => 0

/-- A register of a view as it reads. -/
def State.ecRead (s : State) (h : Nat) (view : EcView) (reg : Nat) : Word :=
  let g := s.ecRegs view
  let low := match view with
    | .low _ => true
    | .owner | .quire _ => false
  if reg = 0x00 then s.ecStat view
  else if reg = 0x08 then word (bitAt g.empty 63 + g.index)
  else if reg = 0x18 ∧ low = false then word (bitAt g.irqEnable 63 + g.irqHart * 2 ^ 32 + g.irqFile * 2 ^ 24 + g.irqId)
  else if reg = 0x20 ∧ low = false then word (bitAt g.rstBusy 63 + g.rstResult * 2 ^ 60 + g.rstType * 2 ^ 24 + g.rstUnit)
  else if 0x40 ≤ reg ∧ reg < 0x80 then s.ecRecord h view ((reg - 0x40) / 8)
  else 0

/-- A write to a register of a view by a hart. -/
def writeEc (s : State) (h : Nat) (view : EcView) (reg : Nat) (v : Word) : State :=
  if reg = 0x08 then writeEcSel s h view v
  else if reg = 0x10 then writeEcCtl s h view v
  else if reg = 0x18 then writeEcIrq s h view v
  else if reg = 0x20 then writeEcReset s h view v
  else if !s.ecAllowed h view then s.refuse (.hart h) true (ecAddr view reg)
  else if reg = 0 then s.ecReserved h view 0 v 0x000FFE00FFFFFFFF
  else s

/-! ### Interrupt files (R28, R59, R362) -/

/-- A store to an interrupt file page (R28): the identity written at offset 0 is signalled where the hart's Quire may signal it; any other store there raises the access fault. -/
def State.imsicStore (s : State) (h addr size : Nat) (v : Word) (tval : Word) : State :=
  match decodeImsic addr with
  | none => s.raiseCode h 7 tval
  | some (t, file) =>
    if !s.hasFiles t || size != 4 || addr % 0x1000 != 0 then s.raiseCode h 7 tval
    else
      let id := v.toNat % 2 ^ 32
      if id = 0 ∨ 2047 < id then s.raiseCode h 7 tval
      else if s.maySignal (s.hart h).qid t file id then s.sendMsi t file id (s.hart h).secure
      else s.raiseCode h 7 tval

/-- IMSIC_WRITE (R28): the address as the store forms it after translation. -/
def execImsicWrite (h addr size : Nat) (v : Word) (s : State) : Result :=
  .next (s.access h (fun s =>
    if s.inM h then s.imsicStore h addr size v (word addr)
    else s.draw.2.imsicStore h addr size v (word s.draw.1)))

/-- MSI (R28, R362): a message that is on its way arrives and sets its pending bit; one for a fenced core is discarded (R346), and a Normal one at a Secure identity. -/
def msiArrives (s : State) (m : MsiMsg) : State :=
  if !s.net.msi.contains m then s
  else
    let s : State := { s with net := { s.net with msi := s.net.msi.erase m } }
    if !s.fuse.hartOk m.hart || decide ((s.hart m.hart).run = .fenced) || decide (8 < m.file) || m.id == 0 || decide (2047 < m.id) then s
    else if s.bind.idSecure m.hart m.file m.id && !m.secure then
      s.log ((Syn.msiWorldDenied.record (hartOrigin m.hart) 0x01 m.hart (s.hart m.hart).qid).withSecure true)
    else s.modHart m.hart (fun x => if x.eip.contains (eiKey m.file m.id) then x else { x with eip := x.eip ++ [eiKey m.file m.id] })

def execMsi (m : MsiMsg) (s : State) : Result := .next (msiArrives s m)

end Sys2Proof.Machine
end

