-- ==== Sys2Proof/Machine/Fabric.lean ====
section
/-! DEFINITION. The fabric and its manager (R197 to R222, R237 to R240): paths, slot tables and bounds of Class G streams, admission, re-planning, the routes of Class U and Class B, and the fabric manager's registers. -/

namespace Sys2Proof.Machine

/-! ### Slots and bounds (R211, R212, R214) -/

/-- The elements with the slot in which each traverses a flit whose first router traverses it in slot k (R212). -/
def withSlots (es : List Elem) (k : Nat) : List (Elem × Nat) :=
  match es with
  | [] => []
  | e :: rest => (e, k % 20) :: withSlots rest (k % 20 + (rest.head?.map (·.gap)).getD 0)

/-- The slot entries that R212 derives from one source slot. -/
def slotEntries (es : List Elem) (stream k : Nat) : List SlotEntry :=
  (withSlots es k).map (fun p =>
    { node := p.1.node, switch := p.1.switch, slot := p.2, input := p.1.input, output := p.1.output, stream := stream })

/-- The slot entries of a stream on a path, from each of its source slots. -/
def entriesFor (es : List Elem) (stream : Nat) (slots : List Nat) : List SlotEntry :=
  slots.flatMap (slotEntries es stream)

/-- The largest number of NoC cycles from one slot of a rising list to the next, wrapping across the frame (R214). -/
def largestGap (slots : List Nat) : Nat :=
  match slots with
  | [] => 0
  | k :: rest =>
    let ends := rest ++ [k + 20]
    ((k :: rest).zipWith (fun a b => b - a) ends).foldl max 0

/-- The first slots of the adjacent pairs (k, k + 1 mod 20) that the source slots of a return stream form, none where they do not (R210). -/
def pairStarts (slots : List Nat) : Option (List Nat) :=
  let has := fun k => slots.contains (k % 20)
  let runLen := fun k => ((List.range 20).takeWhile (fun i => has (k + i))).length
  let starts := (List.range 20).filter (fun k => has k && !has (k + 19))
  if starts.all (fun k => runLen k % 2 == 0) && (starts != []) then
    let l := starts.flatMap (fun k => (List.range (runLen k / 2)).map (fun i => (k + 2 * i) % 20))
    some ((List.range 20).filter (fun k => l.contains k))
  else none

/-- The bound of a stream in ps (R214); none for a return stream whose slots form no pairs. -/
def boundPs (es : List Elem) (slots : List Nat) (ret : Bool) : Option Nat :=
  let hops := (es.filter (fun e => !e.switch)).length
  let v := ((crossingsIn es).filter (fun x => decide (x < 48))).length
  let c := ((crossingsIn es).filter (fun x => decide (64 ≤ x))).length
  let sw := if es.any (·.switch) then 1 else 0
  let starts := if ret then pairStarts slots else some slots
  starts.map (fun l => 500 * largestGap l + 500 * hops + 2000 * v + 3500 * c + 1500 * sw + (if ret then 500 else 0))

/-- Whether two entries share NODE, ELEMENT and SLOT, and OUTPUT or INPUT (R213). -/
def SlotEntry.clash (a b : SlotEntry) : Bool :=
  a.node == b.node && a.switch == b.switch && a.slot == b.slot && (a.output == b.output || a.input == b.input)

/-- No two entries of a list clash. -/
def noClash (l : List SlotEntry) : Bool :=
  match l with
  | [] => true
  | a :: rest => rest.all (fun b => !a.clash b) && noClash rest

/-! ### Admission (R213) -/

/-- Whether the slot tables hold one stream (R213, R214). -/
def admitsStream (names : Nat → Bool) (b : Binding) (g : GStream) : Bool :=
  match (routeRec b.routes g.routeId).bind (gPath names g.srcNode g.dstNode) with
  | none => false
  | some es =>
    let src := sourceSlots b.slots g
    let want := entriesFor es g.stream src
    let own := b.slots.filter (fun e => e.stream == g.stream)
    let paired := if g.isMemory || g.isReturn then
        match partnerStream b.streams g with
        | some p => p.srcQid == g.srcQid && p.dstQid == g.dstQid
        | none => false
      else true
    let rateOk := !g.isReturn || g.rate == 2 || g.rate == 4
    src.length == g.rate && own.length == want.length && want.all (fun e => own.contains e) && paired && rateOk
      && match boundPs es src g.isReturn with
         | some p => decide (p ≤ g.boundPs)
         | none => false

/-- Step 10 of R67: the set of streams is admissible (R213). -/
def Binding.admissible (names : Nat → Bool) (b : Binding) : Bool :=
  b.streams.all (admitsStream names b) && noClash b.slots
    && b.streams.all (fun g => !g.isMemory
         || decide ((b.streams.filter (fun k => k.isMemory && k.dstNode == g.dstNode)).length ≤ 8))
    && b.streams.all (fun g => !g.toInbox
         || decide ((b.streams.filter (fun k => k.toInbox && k.dstNode == g.dstNode && k.dstCore == g.dstCore)).length ≤ 15))

/-! ### Re-planning (R236 to R238) -/

/-- The slots in which a narrowed crossing accepts a flit from the element before it (R236). -/
def widthAccepts (x : Nat) (w : Width) (k : Nat) : Bool :=
  match w with
  | .full => true
  | .half => if x < 48 then k % 2 == 0 else true
  | .quarter => if x < 48 then k % 4 == 0 else k % 2 == 0
  | .none => false

/-- The width of a direction of a crossing once a waiting remap has taken effect. -/
def State.widthAfter (s : State) (x : Nat) (inward : Bool) : Width :=
  let c := s.xl x
  match c.remaps.find? (fun r => r.inward == inward) with
  | some r => r.width
  | none => if inward then c.widthIn else c.widthOut

/-- Every flit of a path meets the slots of the crossings it enters (R236). -/
def meetsWidths (width : Nat → Bool → Width) (l : List (Elem × Nat)) : Bool :=
  match l with
  | (_, k) :: (e, j) :: rest =>
    (match e.cross with
     | some (x, i) => widthAccepts x (width x i) k
     | none => true) && meetsWidths width ((e, j) :: rest)
  | _ => true

/-- What a plan is computed from. -/
structure PlanIn where
  names : Nat → Bool
  streams : List GStream
  routes : List RouteRec
  slots : List SlotEntry
  bad : Nat → Bool
  width : Nat → Bool → Width

/-- What a plan places: the entries, the new bounds, and the streams it demotes. -/
structure Placed where
  entries : List SlotEntry
  bounds : List (Nat × Nat)
  demote : List Nat
deriving DecidableEq, Repr

/-- The first of the twenty shifts of a stream's source slots that collides with nothing, meets R236 and keeps the bound (R238). -/
def PlanIn.shift (c : PlanIn) (p : List SlotEntry) (g : GStream) : Option (List SlotEntry × Nat) :=
  match streamPath c.names c.bad c.routes g with
  | none => none
  | some es =>
    let src := sourceSlots c.slots g
    (List.range 20).findSome? (fun sh =>
      let slots := (List.range 20).filter (fun k => src.any (fun i => (i + sh) % 20 == k))
      let e := entriesFor es g.stream slots
      match boundPs es slots g.isReturn with
      | some b =>
        if e.all (fun a => p.all (fun d => !a.clash d)) && slots.all (fun k => meetsWidths c.width (withSlots es k))
            && decide (b ≤ g.boundPs) then some (e, b) else none
      | none => none)

/-- One stream placed, with its return stream where it is a memory stream, or demoted with it (R238). -/
def PlanIn.place (c : PlanIn) (acc : Placed) (g : GStream) : Placed :=
  if g.isReturn then acc
  else
    let ret := if g.isMemory then partnerStream c.streams g else none
    let lost : Placed := { acc with demote := acc.demote ++ [g.stream] ++ (ret.map (·.stream)).toList }
    match c.shift acc.entries g with
    | none => lost
    | some (e, b) =>
      match ret with
      | none => { acc with entries := acc.entries ++ e, bounds := acc.bounds ++ [(g.stream, b)] }
      | some r =>
        match c.shift (acc.entries ++ e) r with
        | none => lost
        | some (e2, b2) =>
          { acc with entries := acc.entries ++ e ++ e2, bounds := acc.bounds ++ [(g.stream, b), (r.stream, b2)] }

/-- The streams that a set of crossings affects, with the streams paired with them, in ascending order; `before` are the crossings avoided until now. -/
def PlanIn.affected (c : PlanIn) (before : Nat → Bool) (changed : List Nat) : List Nat :=
  let uses := fun (g : GStream) =>
    match streamPath c.names before c.routes g with
    | some es => (crossingsIn es).any (fun x => changed.contains x)
    | none => true
  let hit := fun (g : GStream) => uses g || ((partnerStream c.streams g).map uses).getD false
  (List.range 1024).filter (fun n => c.streams.any (fun g => g.stream == n && hit g))

/-- The re-plan of R238 over the streams that a set of changed crossings affects. -/
def PlanIn.run (c : PlanIn) (before : Nat → Bool) (changed : List Nat) : Placed :=
  let aff := c.affected before changed
  (aff.filterMap (streamNo c.streams)).foldl c.place
    { entries := c.slots.filter (fun e => !aff.contains e.stream), bounds := [], demote := [] }

/-- The streams with slots now: those that are active or held. -/
def State.liveStreams (s : State) : List GStream :=
  (s.fabric.streams.filter (fun e => decide (e.2.st = .active) || decide (e.2.st = .held))).map (·.2.desc)

def State.planIn (s : State) : PlanIn :=
  { names := s.names, streams := s.liveStreams, routes := s.fabric.routes, slots := s.fabric.slots, bad := s.gAvoids, width := s.widthAfter }

/-- Whether a crossing has degraded since its slot tables were made: it is avoided, or a remap waits (R237, R238). -/
def State.degraded (s : State) (x : Nat) : Bool := s.gAvoids x || !(s.xl x).remaps.isEmpty

/-- The waiting remaps of a set of crossings take the boundary of the plan (R237). -/
def State.dateRemaps (s : State) (xs : List Nat) (b : Nat) : State :=
  xs.foldl (fun s x =>
    let c := s.xl x
    s.setXl x { c with remaps := c.remaps.map (fun r => { r with boundary := some b }) }) s

/-- REPLAN (R238): new slot tables for the streams that the changed crossings affect, to take effect at a frame boundary 3 frames ahead (R219, R237).
While the change of a delta waits for its boundary, the re-plan waits too; an earlier re-plan that waits is computed anew (log 24). -/
def replan (s : State) (changed : List Nat) : State :=
  let old := match s.fabric.plan with
    | some p => if p.isReplan then p.changed else []
    | none => []
  let blocked := match s.fabric.plan with
    | some p => !p.isReplan
    | none => false
  let xs := (distinct changed).filter s.degraded
  if blocked || xs == [] then s
  else
    let c := s.planIn
    let before := fun x => s.gAvoids x && !xs.contains x
    let hit := distinct (c.affected before xs ++ old)
    let aff := (List.range 1024).filter (fun n => hit.contains n)
    let r := (aff.filterMap (streamNo c.streams)).foldl c.place
      { entries := c.slots.filter (fun e => !aff.contains e.stream), bounds := [], demote := [] }
    let b := s.time.frame + 3
    let p : Plan :=
      { boundary := b, holding := false, entries := r.entries, bounds := r.bounds, demote := r.demote, absent := [],
        accept := [], changed := aff, isReplan := true }
    ({ s with fabric := { s.fabric with plan := some p } }).dateRemaps xs b

def execReplan (changed : List Nat) (s : State) : Result := .next (replan s changed)

/-- The waiting remaps of one boundary moved to another (R237). -/
def State.moveRemaps (s : State) (old b : Nat) : State :=
  { s with links := { s.links with xl := s.links.xl.mapAll (fun _ c =>
      { c with remaps := c.remaps.map (fun r => if r.boundary = some old then { r with boundary := some b } else r) }) } }

/-- SOURCE_HOLD (R219): from 3 frames before the boundary the sources of the changing streams are held; a boundary that is nearer gives way, so that the hold lasts 3 frames. -/
def sourceHold (s : State) : State :=
  match s.fabric.plan with
  | some p =>
    if p.holding || decide (s.time.frame + 3 < p.boundary) then s
    else
      let b := s.time.frame + 3
      let s := p.changed.foldl (fun s n =>
        let t := s.stream n
        if t.st = .active then s.setStream n { t with st := .held } else s) (s.moveRemaps p.boundary b)
      { s with fabric := { s.fabric with plan := some { p with holding := true, boundary := b } } }
  | none => s

def execSourceHold (s : State) : Result := .next (sourceHold s)

/-- The messages of streams that a delta removed and that have not left by the boundary are discarded (R219). -/
def State.dropStreamMessages (s : State) (ns : List Nat) : State :=
  { s with harts := s.harts.mapAll (fun _ x =>
      { x with outbox := x.outbox.filter (fun e => !(ns.contains e.stream && decide (e.st ≠ .sent))) }) }

/-- A stream placed with a bound is active from the boundary on. -/
def State.activate (s : State) (n bound : Nat) : State :=
  s.setStream n { s.stream n with st := .active, boundPs := bound, planGen := s.fabric.planGen, removing := false }

/-- The Quires at both ends of a stream. -/
def State.streamQuires (s : State) (n : Nat) : List Nat := [(s.stream n).desc.srcQid, (s.stream n).desc.dstQid]

/-! ### Slot tables of a Binding (R73 step 5, R219, R238) -/

/-- Whether a partner die carries Class G: its port is UP and its certificate has G_CAPABLE (R243). -/
def State.partnerG (s : State) (site : Nat) : Bool := decide ((s.partner site).st = .up) && (s.partner site).gCapable

/-- The plan of a set of streams and their tables: R238 over the crossings that are narrowed or must be avoided, and the bound of every other stream as R214 gives it. -/
def State.planTables (s : State) (b : Binding) : Placed :=
  let c : PlanIn := { names := s.names, streams := b.streams, routes := b.routes, slots := b.slots, bad := s.gAvoids, width := s.widthAfter }
  let bent := allCrossings.filter (fun x => s.gAvoids x || s.widthAfter x false != .full || s.widthAfter x true != .full)
  let r := c.run (fun _ => false) bent
  let rest := b.streams.filter (fun g => !r.bounds.any (fun e => e.1 == g.stream) && !r.demote.contains g.stream)
  { r with bounds := r.bounds ++ rest.filterMap (fun g =>
      (streamPath s.names (fun _ => false) b.routes g).bind (fun es =>
        (boundPs es (sourceSlots b.slots g) g.isReturn).map (fun p => (g.stream, p)))) }

/-- The streams on partner dies that carry no Class G are demoted; they keep their slots (R243; log 25). -/
def State.demotePartners (s : State) : State :=
  [0, 1].foldl (fun s i => if s.partnerG i then s else s.demoteWhere (fun g => g.onPartner i)) s

/-- SLOT_TABLE_SWITCH (R219, R238, R240): at the chosen boundary, in slot 0, every element takes the new tables and PLAN_GEN increments; streams on a partner die that carries no Class G are demoted (R243); a re-plan is logged, and the Quires whose streams were demoted or changed their bound get an MSI. -/
def slotTableSwitch (s : State) : State :=
  match s.fabric.plan with
  | some p =>
    if !p.holding || decide (s.time.frame < p.boundary) || s.time.slot != 0 then s
    else
      let told := distinct ((p.demote.flatMap s.streamQuires)
        ++ (p.bounds.filter (fun e => (s.stream e.1).boundPs != e.2)).flatMap (fun e => s.streamQuires e.1))
      let s := { s with fabric := { s.fabric with planGen := s.fabric.planGen + 1, slots := p.entries, plan := none } }
      let s := p.bounds.foldl (fun s e => s.activate e.1 e.2) s
      let s := if p.isReplan then s.log ((Syn.gReplan.record fmNode 0x13 0 0).withInfo 0 2 s.fabric.planGen.toNat) else s
      let s := p.demote.foldl State.demote s
      let s := (s.dropStreamMessages p.absent)
      let s := (p.absent.foldl (fun s n => s.setStream n Stream.reset) s).demotePartners
      if p.isReplan then (told.foldl State.notifyQuire s).needResign else s
  | none => s

def execSlotTableSwitch (s : State) : Result := .next (slotTableSwitch s)

/-- A partner die that carries Class G again: its streams that still have their slots are active (R243; log 25). -/
def State.restorePartner (s : State) (site : Nat) : State :=
  let back := s.fabric.streams.filter (fun e => decide (e.2.st = .demoted) && e.2.desc.onPartner site
    && s.fabric.slots.any (fun t => t.stream == e.1))
  back.foldl (fun s e =>
    match (streamPath s.names s.gAvoids s.fabric.routes e.2.desc).bind (fun es =>
        boundPs es (sourceSlots s.fabric.slots e.2.desc) e.2.desc.isReturn) with
    | some p => s.activate e.1 p
    | none => s) s

/-- Every crossing that is UP, its retraining done, may carry Class G again (R231). -/
def State.clearGOff (s : State) : State :=
  { s with links := { s.links with xl := s.links.xl.mapAll (fun _ c => { c with gOff := c.gOff && decide (c.st ≠ .up) }) } }

/-- Routes and slot tables of a full Binding (R73 step 5): PLAN_GEN increments, and a stream that cannot be placed starts DEMOTED. -/
def State.applyTables (s : State) (b : Binding) : State :=
  let s := s.clearGOff
  let r := s.planTables b
  let mk := fun (g : GStream) => (g.stream, { Stream.reset with st := StreamSt.active, desc := g })
  let s := { s with fabric := { s.fabric with
      planGen := s.fabric.planGen + 1, routes := b.routes, slots := r.entries, plan := none,
      streams := b.streams.foldl (fun t g => Tab.set t (mk g).1 (mk g).2) [] } }
  let s := r.bounds.foldl (fun s e => s.activate e.1 e.2) s
  (r.demote.foldl State.demote s).demotePartners

/-- Whether a stream of a new set is new: it was absent, or its record differs. -/
def State.isNewStream (s : State) (g : GStream) : Bool :=
  decide ((s.stream g.stream).st = .absent) || decide ((s.stream g.stream).desc ≠ g)

/-- The entries of one stream in a slot table. -/
def entriesOf (l : List SlotEntry) (n : Nat) : List SlotEntry := l.filter (fun e => e.stream == n)

/-- The streams of a new set that stay and whose entries change, the demoted ones among them. -/
def State.movedStreams (s : State) (l : List GStream) (entries : List SlotEntry) : List Nat :=
  (l.filter (fun g => !s.isNewStream g && (decide ((s.stream g.stream).st = .demoted)
    || decide (entriesOf entries g.stream ≠ entriesOf s.fabric.slots g.stream)))).map (·.stream)

/-- The streams that a new set no longer has. -/
def State.goneStreams (s : State) (l : List GStream) : List Nat :=
  (s.fabric.streams.filter (fun e => decide (e.2.st ≠ .absent) && (streamNo l e.1).isNone)).map (·.1)

/-- A stream as the end of a delta's move phase leaves it: held, with its record (R219). -/
def State.admitHeld (s : State) (g : GStream) : State :=
  let t : Stream := { Stream.reset with st := .held, desc := g, planGen := s.fabric.planGen }
  s.setStream g.stream t

/-- The change of slot tables that a delta with G_STREAMS begins at the end of its move phase (R219, R231): B is 3 frames ahead, admitted streams are held from now on, removed ones until B. -/
def State.planDelta (s : State) (b : Binding) : State :=
  let s := s.clearGOff
  let r := s.planTables b
  let gone := s.goneStreams b.streams
  let moved := s.movedStreams b.streams r.entries
  let fresh := b.streams.filter s.isNewStream
  let s := fresh.foldl State.admitHeld s
  let s := gone.foldl (fun s n => s.setStream n { s.stream n with st := .held, removing := true }) s
  let p : Plan :=
    { boundary := s.time.frame + 3, holding := false, entries := r.entries, bounds := r.bounds, demote := r.demote,
      absent := gone, accept := fresh.map (·.stream), changed := fresh.map (·.stream) ++ moved ++ gone, isReplan := false }
  { s with fabric := { s.fabric with routes := b.routes, plan := some p } }

/-! ### Registers (R220, R221) -/

def fmAddr (off : Nat) : Nat := controlAddr iodDie 0x020 off

/-- Who owns an initiator of the statistics pages (R220, R221): a hart's Quire, the Quire of a port group's functions, of a TSN port's VIs (log 21); no Quire for the others. -/
def State.initiatorOf (s : State) (q i : Nat) : Bool :=
  if i < 384 then (s.hart i).qid == q
  else if 392 ≤ i ∧ i < 400 then
    let fs := s.bind.functions.filter (fun f => f.group == i - 392)
    fs != [] && fs.all (fun f => f.qid == q)
  else if 408 ≤ i ∧ i < 412 then s.ownsTsn q
  else false

/-- Whether an initiator may read, or write, a register of the fabric manager (R221). -/
def State.fmAllowed (s : State) (who : Agent) (write : Bool) (off : Nat) : Bool :=
  match who with
  | .governor => !write || off == 0x08
  | .clasp | .node _ => false
  | .hart h =>
    let x := s.hart h
    if x.mode ≠ .m then false
    else if off < 0x10 then !write
    else if 0x10000 ≤ off ∧ off < 0x14000 then
      let t := s.stream ((off - 0x10000) / 0x10)
      !write && (decide (t.st = .absent) || (x.qid != 0 && (t.desc.srcQid == x.qid || t.desc.dstQid == x.qid)))
    else if 0x40000 ≤ off ∧ off < 0x40000 + 416 * 0x100 then x.qid != 0 && s.initiatorOf x.qid ((off - 0x40000) / 0x100)
    else false

def streamCode (t : StreamSt) : Nat :=
  match t with
  | .absent => 0
  | .active => 1
  | .demoted => 2
  | .held => 3

/-- A register of the fabric manager as it reads (R221); offsets without a register read as zero. -/
def State.fmRead (s : State) (off : Nat) : Word :=
  let f := s.fabric
  let count := fun (p : StreamSt → Bool) => (f.streams.filter (fun e => p e.2.st)).length
  if off = 0 then word (f.planGen.toNat * 2 ^ 32 + count (fun t => decide (t ≠ .absent)) * 2 ^ 16 + count (fun t => decide (t = .demoted)))
  else if off = 8 then word (f.bShareNext.getD f.bShare)
  else if 0x10000 ≤ off ∧ off < 0x14000 then
    let t := s.stream ((off - 0x10000) / 0x10)
    if t.st = .absent then 0
    else if off % 16 = 0 then
      word (streamCode t.st * 2 ^ 62 + t.desc.rate * 2 ^ 59 + t.planGen.toNat * 2 ^ 32 + t.boundPs)
    else if off % 16 = 8 then word (t.msgs.toNat * 2 ^ 32 + t.uMsgs.toNat)
    else 0
  else if 0x40000 ≤ off ∧ off < 0x40000 + 416 * 0x100 then
    let p := Tab.get s.net.stats Stats.reset ((off - 0x40000) / 0x100)
    let o := off % 0x100
    if o = 0 then p.bytesG
    else if o = 8 then p.bytesU
    else if o = 0x10 then p.bytesB
    else if o = 0x18 then word (bitAt p.freeze 63)
    else if 0x20 ≤ o ∧ o ≤ 0x98 ∧ o % 8 = 0 then word (Tab.get p.hist 0 ((o - 0x20) / 8)).toNat
    else 0
  else 0

/-- STAT_CTL written (R221): FREEZE takes the value, and CLEAR sets every counter of the page to 0. -/
def writeStatCtl (s : State) (who : Agent) (i : Nat) (v : Word) : State :=
  let off := 0x40018 + i * 0x100
  if !s.fmAllowed who true off then s.refuse who true (fmAddr off)
  else
    let s := s.reserved who iodDie 0x020 off v (2 ^ 63 + 2 ^ 62)
    let p := Tab.get s.net.stats Stats.reset i
    let p := if flagOf v 62 then Stats.reset else p
    { s with net := { s.net with stats := Tab.set s.net.stats i { p with freeze := flagOf v 63 } } }

/-- STAT_CLEAR (R221): a write of STAT_CTL with CLEAR that leaves FREEZE as it is. -/
def execStatClear (who : Agent) (i : Nat) (s : State) : Result :=
  .next (s.asAgent who (fun s =>
    writeStatCtl s who i (word (2 ^ 62 + bitAt (Tab.get s.net.stats Stats.reset i).freeze 63))))

/-- Whether a share lies within the limits of the Governor policy (R221, R396). -/
def Binding.shareOk (b : Binding) (n : Nat) : Bool :=
  match b.govPkg with
  | some g => decide (g.bShareMin ≤ n) && decide (n ≤ g.bShareMax)
  | none => true

/-- FM_SHARE written by the Governor within its policy (R221): above 16 ignored and logged, else in force from the next frame boundary. -/
def writeFmShare (s : State) (who : Agent) (v : Word) : State :=
  if !s.fmAllowed who true 8 || (decide (fieldOf v 0 5 ≤ 16) && !s.bind.shareOk (fieldOf v 0 5)) then s.refuse who true (fmAddr 8)
  else
    let s := s.reserved who iodDie 0x020 8 v 0x1F
    if 16 < fieldOf v 0 5 then s.logWrite Syn.reservedWrite who iodDie 0x020 8 v
    else { s with fabric := { s.fabric with bShareNext := some (fieldOf v 0 5) } }

/-- A write to a register of the fabric manager (R221). -/
def writeFm (s : State) (who : Agent) (off : Nat) (v : Word) : State :=
  if off = 8 then writeFmShare s who v
  else if 0x40000 ≤ off ∧ off < 0x40000 + 416 * 0x100 ∧ off % 0x100 = 0x18 then writeStatCtl s who ((off - 0x40000) / 0x100) v
  else if !s.fmAllowed who true off then s.refuse who true (fmAddr off)
  else s

end Sys2Proof.Machine
end

