-- ==== Sys2Proof/Machine/Flash.lean ====
section
/-! DEFINITION. The boot flash (R421, R422): bytes, erasing, and the areas that hold two copies of a table. Erased flash reads 0xFF (PRESUMED, log 5). -/

namespace Sys2Proof.Machine

/-- An erased byte of NOR flash. -/
def flashByte (_ : Nat) : Byte := 0xFF

/-- n bytes of flash. -/
def flashRead (f : List Host.Cell) (a n : Nat) : List Byte := Memory.readN flashByte f a n

/-- Flash with bytes programmed into erased cells. -/
def flashWrite (f : List Host.Cell) (a : Nat) (bs : List Byte) : List Host.Cell := Memory.writeN flashByte f a bs

/-- Flash with a range erased. -/
def flashErase (f : List Host.Cell) (base size : Nat) : List Host.Cell := Memory.dropRange f base size

/-- An area with two copies of a table (R422): its address, the size of one copy and the bytes of the table at the copy's start. -/
structure Area where
  base : Nat
  size : Nat
  len : Nat
deriving DecidableEq, Repr

def repairArea : Area := { base := 0x03020000, size := 0x10000, len := 66 * 2 * 128 }
def retireArea : Area := { base := 0x03100000, size := 0x100000, len := 24 * 4096 * 8 }

/-- One copy of an area with its generation number, if its CRC-32C is right (R422): the CRC covers the table and the generation number (log 26). -/
def readCopy (f : List Host.Cell) (r : Area) (i : Nat) : Option (Nat × List Byte) :=
  let base := r.base + i * r.size
  let body := flashRead f base r.len
  let gen := flashRead f (base + r.size - 8) 4
  if ofLE (flashRead f (base + r.size - 8) 8) = 2 ^ 64 - 1 then none
  else if ofLE (flashRead f (base + r.size - 4) 4) = crc32c (body ++ gen) then some (ofLE gen, body) else none

/-- The valid copy with the higher generation: its number, generation and bytes (R422). -/
def readArea (f : List Host.Cell) (r : Area) : Option (Nat × Nat × List Byte) :=
  match readCopy f r 0, readCopy f r 1 with
  | some (g, b), some (h, c) => if g < h then some (1, h, c) else some (0, g, b)
  | some (g, b), none => some (0, g, b)
  | none, some (h, c) => some (1, h, c)
  | none, none => none

/-- A table written over the older copy; its generation number and CRC-32C are written last (R422). -/
def writeArea (f : List Host.Cell) (r : Area) (body : List Byte) : List Host.Cell :=
  let old := readArea f r
  let i := match old with
    | some (j, _, _) => 1 - j
    | none => 0
  let gen := match old with
    | some (_, g, _) => g + 1
    | none => 0
  let base := r.base + i * r.size
  let g := toLE 4 gen
  flashWrite (flashWrite (flashErase f base r.size) base body) (base + r.size - 8) (g ++ toLE 4 (crc32c (body ++ g)))

/-! ### The Firefly log (R394, R422) -/

/-- The 96 bytes of an entry. -/
def FfEntry.bytes (e : FfEntry) : List Byte :=
  toLE 4 e.seq.toNat ++ toLE 1 e.kind ++ toLE 1 e.detail ++ toLE 2 0 ++ toLE 8 e.time ++ toLE 64 e.body.toNat ++ toLE 15 0 ++ toLE 1 0xA5

def ffArea : Nat := 0x04000000

/-- Entries that the flash ring of 16 MiB holds. -/
def ffRing : Nat := 174762

/-- An entry appended to the flash ring; when it enters a new sector, the sector ahead is erased (R422; log 26). -/
def appendFf (f : List Host.Cell) (n : Nat) (bs : List Byte) : List Host.Cell :=
  let off := n % ffRing * 96
  let sector := (off + 95) / 0x10000
  let f := if off % 0x10000 = 0 ∨ off / 0x10000 < sector then flashErase f (ffArea + (sector + 1) % 256 * 0x10000) 0x10000 else f
  flashWrite f (ffArea + off) bs

/-- An entry of the Firefly log, in retention SRAM and in flash (R394). -/
def State.ffLog (s : State) (kind detail body : Nat) : State :=
  let n := s.ff.logSeq
  let e : FfEntry := { seq := BitVec.ofNat 32 n, kind := kind, detail := detail, time := s.now, body := BitVec.ofNat 512 body }
  { s with ff := { s.ff with log := Tab.set s.ff.log (n % 1024) e, logSeq := n + 1 },
           clasp := { s.clasp with flash := appendFf s.clasp.flash n e.bytes } }

end Sys2Proof.Machine
end

