-- ==== Sys2Proof/Machine/Links.lean ====
section
/-! DEFINITION. Die-to-die links (R223 to R243): lanes, spares and widths, training and calibration, marks and marker reports, the repair map, failures in service, and partner dies. -/

namespace Sys2Proof.Machine

/-! ### Lanes (R224, R226, R227, R235) -/

/-- The lanes or bonds of one direction of a crossing: data, control, control spares, and pairs of a clock-like lane and its duplicate.
Lanes are numbered data first, then two data spares for each 32 data lanes, then control, control spares and the pairs (DESIGN CHOICE, log 27). -/
structure LaneSet where
  data : Nat
  ctl : Nat
  ctlSpare : Nat
  pairs : Nat
deriving DecidableEq, Repr

/-- The lanes of a crossing: a vertical port (R224), or a UCIe module or partner-die port (R226, R227). -/
def lanesOf (x : Nat) : LaneSet :=
  if x < 48 then { data := 512, ctl := 40, ctlSpare := 4, pairs := 2 } else { data := 64, ctl := 24, ctlSpare := 2, pairs := 3 }

def LaneSet.ctlBase (m : LaneSet) : Nat := m.data + m.data / 16
def LaneSet.spareBase (m : LaneSet) : Nat := m.ctlBase + m.ctl
def LaneSet.pairBase (m : LaneSet) : Nat := m.spareBase + m.ctlSpare
def LaneSet.total (m : LaneSet) : Nat := m.pairBase + 2 * m.pairs

/-- The spares that can replace a lane, or that can replace the lanes which a spare can: the two of a data lane's group, any control spare for a control lane; none for a clock-like lane (R224, R226, R235). -/
def LaneSet.pool (m : LaneSet) (l : Nat) : List Nat :=
  if l < m.data then [m.data + l / 32 * 2, m.data + l / 32 * 2 + 1]
  else if l < m.ctlBase then [m.data + (l - m.data) / 2 * 2, m.data + (l - m.data) / 2 * 2 + 1]
  else if l < m.pairBase then (List.range m.ctlSpare).map (m.spareBase + ·)
  else []

/-- Whether a number is that of a spare. -/
def LaneSet.isSpare (m : LaneSet) (l : Nat) : Bool :=
  (decide (m.data ≤ l) && decide (l < m.ctlBase)) || (decide (m.spareBase ≤ l) && decide (l < m.pairBase))

/-- A bad lane replaced by the first free spare that can replace it; none where none is free (R235). -/
def LaneSet.serve (m : LaneSet) (bad : List Nat) (uses : List (Nat × Nat)) (l : Nat) : List (Nat × Nat) :=
  uses ++ (((m.pool l).find? (fun p => !bad.contains p && !uses.any (fun u => u.2 == p))).map (fun p => (l, p))).toList

/-- The spares in use, as lane and spare, once the lanes of a list have become bad in their order: a spare that becomes bad gives its lane to another (R235). -/
def LaneSet.usesAfter (m : LaneSet) (seen : List Nat) (uses : List (Nat × Nat)) (bad : List Nat) : List (Nat × Nat) :=
  match bad with
  | [] => uses
  | l :: rest =>
    let now := seen ++ [l]
    let uses := if m.isSpare l then
        match uses.find? (fun u => u.2 == l) with
        | some u => m.serve now (uses.filter (fun u => u.2 != l)) u.1
        | none => uses
      else m.serve now uses l
    m.usesAfter now uses rest

/-- The spares in use with a set of bad lanes, in the order in which they were found. -/
def LaneSet.uses (m : LaneSet) (bad : List Nat) : List (Nat × Nat) := m.usesAfter [] [] bad

/-- The bad data lanes that no spare replaces (R224, R226). -/
def LaneSet.unrepaired (m : LaneSet) (bad : List Nat) : List Nat :=
  bad.filter (fun l => decide (l < m.data) && !(m.uses bad).any (fun u => u.1 == l))

/-- Data spares left for a direction (R231). -/
def LaneSet.sparesLeft (m : LaneSet) (bad : List Nat) : Nat :=
  ((List.range (m.data / 16)).filter (fun i => !bad.contains (m.data + i) && !(m.uses bad).any (fun u => u.2 == m.data + i))).length

/-- Whether every bad control lane has a spare and every clock-like lane a working copy (R235). -/
def LaneSet.controlOk (m : LaneSet) (bad : List Nat) : Bool :=
  bad.all (fun l => !(decide (m.ctlBase ≤ l) && decide (l < m.spareBase)) || (m.uses bad).any (fun u => u.1 == l))
    && (List.range m.pairs).all (fun i => !(bad.contains (m.pairBase + 2 * i) && bad.contains (m.pairBase + 2 * i + 1)))

/-- The width of a direction and the half or quarter in use (R235); none where nothing qualifies. -/
def LaneSet.width (m : LaneSet) (bad : List Nat) : Option (Width × Nat) :=
  let un := m.unrepaired bad
  let free := fun (n i : Nat) => un.all (fun l => l / (m.data / n) != i)
  if !m.controlOk bad then none
  else if un.isEmpty then some (.full, 0)
  else match firstBelow 2 (free 2) with
    | some h => some (.half, h)
    | none => (firstBelow 4 (free 4)).map (fun q => (.quarter, q))

/-- Widths in falling order. -/
def widthRank (w : Width) : Nat :=
  match w with
  | .full => 0
  | .half => 1
  | .quarter => 2
  | .none => 3

/-! ### The repair map (R233, R234) -/

/-- The lanes that the IOD map marks bad in one direction, in the order in which they were marked. -/
def State.badLanes (s : State) (x : Nat) (inward : Bool) : List Nat :=
  (s.links.repair.filter (fun b => b.x == x && b.inward == inward)).map (·.lane)

/-- Lanes added to the IOD map; those it holds already stay as they are. -/
def State.markBad (s : State) (x : Nat) (inward : Bool) (lanes : List Nat) : State :=
  let new := (distinct lanes).filter (fun l => !(s.badLanes x inward).contains l)
  if new.isEmpty then s
  else
    { s with links := { s.links with
        repair := s.links.repair ++ new.map (fun l => ({ x := x, inward := inward, lane := l } : BadLane)), repairDirty := true } }

/-- The bad lanes of both directions as a working copy holds them. -/
def State.copyOf (s : State) (x : Nat) : List (Bool × Nat) :=
  (s.links.repair.filter (fun b => b.x == x)).map (fun b => (b.inward, b.lane))

/-- Both ends take a copy of the IOD map for a crossing. -/
def State.copyMap (s : State) (x : Nat) : State :=
  { s with links := { s.links with far := Tab.set s.links.far x (s.copyOf x), near := Tab.set s.links.near x (s.copyOf x) } }

/-- The 128 bytes of a map for one direction: bit n stands for lane n and is set where it is bad (R233; log 26). -/
def mapBytes (lanes : List Nat) : List Byte :=
  (List.range 128).map (fun i => BitVec.ofNat 8 (maskOf ((List.range 8).filter (fun b => lanes.contains (8 * i + b)))))

/-- The lanes that 128 map bytes mark bad. -/
def lanesFrom (bs : List Byte) : List Nat :=
  (List.range 1024).filter (fun l => bitOf (bs.getD (l / 8) 0).toNat (l % 8))

/-- MAP_CRC of an end's copy (R230): CRC-32C over the map bytes of the direction. -/
def mapCrc (t : Tab (List (Bool × Nat))) (x : Nat) (inward : Bool) : BitVec 32 :=
  BitVec.ofNat 32 (crc32c (mapBytes (((Tab.get t [] x).filter (fun e => e.1 == inward)).map (·.2))))

/-- The repair map as the flash holds it: crossing by crossing, OUT then IN. -/
def State.mapImage (s : State) : List Byte :=
  allCrossings.flatMap (fun x => mapBytes (s.badLanes x false) ++ mapBytes (s.badLanes x true))

/-- The repair map that a flash image gives. -/
def mapFrom (body : List Byte) : List BadLane :=
  (allCrossings.zip (List.range allCrossings.length)).flatMap (fun p =>
    (lanesFrom (bytesAt body (256 * p.2) 128)).map (fun l => ({ x := p.1, inward := false, lane := l } : BadLane))
    ++ (lanesFrom (bytesAt body (256 * p.2 + 128) 128)).map (fun l => ({ x := p.1, inward := true, lane := l } : BadLane)))

/-- REPAIR_MAP_SAVE (R233): a changed repair map is copied to boot flash. -/
def repairMapSave (s : State) : State :=
  if s.links.repairDirty then
    { s with links := { s.links with repairDirty := false },
             clasp := { s.clasp with flash := writeArea s.clasp.flash repairArea s.mapImage } }
  else s

def execRepairMapSave (s : State) : Result := .next (repairMapSave s)

/-- The repair map reloaded from flash at cold start (R233, R415). -/
def State.loadRepairMap (s : State) : State :=
  match readArea s.clasp.flash repairArea with
  | some (_, _, body) => { s with links := { s.links with repair := mapFrom body, repairDirty := false } }
  | none => s

/-! ### Failure (R239, R222) -/

/-- A record that carries a crossing (R246). -/
def Syndrome.ofCrossing (y : Syndrome) (x : Nat) : ErrRec := y.record (crossingNode x) 0x09 x 0

/-- Whether every crossing of a list has failed. -/
def State.allFailed (s : State) (xs : List Nat) : Bool := xs.all (fun x => decide ((s.xl x).st = .failed))

/-- A crossing becomes FAILED, with no width (R231, R239): a CD without a working vertical port and a BD without a working module are fenced as regions. -/
def State.failCrossing (s : State) (x : Nat) : State :=
  let s := ((s.setXl x { s.xl x with st := .failed, widthOut := .none, widthIn := .none, remaps := [] }).log (Syn.xlFailed.ofCrossing x)).needResign
  match crossing x with
  | some (.vport cd _) =>
    if s.allFailed ((List.range 4).map (fun p => 4 * cd + p)) then
      (s.log (Syn.xlNoVport.ofCrossing x)).addFence (dieUnit cd) Syn.xlNoVport.code
    else s
  | some (.ucie bd _) =>
    if s.allFailed ((List.range 4).map (fun m => 64 + 4 * bd + m)) then
      s.log (Syn.routeNoModule.record (ctlNode (16 + bd)) 0x10 (16 + bd) 0)
    else s
  | _ => s

/-! ### Training (R228, R229, R234) -/

/-- The largest full-width raw latency with which a crossing passes calibration (R229). -/
def rawLimit (x : Nat) : Nat := if x < 48 then 1 else 6

/-- The crossings that train at step 5 of start-up (R228). -/
def startCrossings : List Nat := allCrossings.filter (fun x => decide (x < 80))

/-- Whether a crossing is to be trained now: at step 5, or when it retrains or links up. -/
def State.trains (s : State) (x : Nat) : Bool :=
  let c := s.xl x
  (crossing x).isSome &&
    (decide (c.st = .training) || (decide (s.boot.phase = .ready 5) && decide (x < 80) && decide (c.st = .down)))

/-- Whether a crossing trains after a partial reset: one below the chip has come since its last training, or an end has lost its working copy while the package ran (R234). -/
def State.afterPartial (s : State) (x : Nat) : Bool :=
  (s.xl x).partialReset || (decide (s.boot.phase = .running) && decide (x < 80)
    && ((Tab.find s.links.far x).isNone || (Tab.find s.links.near x).isNone))

/-- The lanes that training adds to the IOD map: those that a test found, and after a partial reset those of the working copies that survived (R228, R234). -/
def State.trainAdds (s : State) (x : Nat) (inward : Bool) (found : List Nat) : List Nat :=
  let copies := if s.afterPartial x then ((Tab.get s.links.far [] x) ++ (Tab.get s.links.near [] x)).filter (fun e => e.1 == inward) else []
  (distinct (copies.map (·.2) ++ found.filter (fun l => decide (l < (lanesOf x).total)))).filter
    (fun l => !(s.badLanes x inward).contains l)

/-- XL_SPARE_USED for each of a list of lanes (R240). -/
def State.logSpares (s : State) (x : Nat) (inward : Bool) (lanes : List Nat) : State :=
  lanes.foldl (fun s l => s.log (((Syn.xlSpareUsed.ofCrossing x).withInfo 0 1 (bitAt inward 0)).withInfo 2 2 l)) s

/-- XL_WIDTH_REDUCED where a direction is narrower than it was (R240). -/
def State.logWidth (s : State) (x : Nat) (inward : Bool) (old new : Width) (sel : Nat) : State :=
  if widthRank old < widthRank new then
    s.log ((((Syn.xlWidthReduced.ofCrossing x).withInfo 0 1 (bitAt inward 0)).withInfo 1 1 (widthRank new)).withInfo 2 1 sel)
  else s

/-- The spares and the narrowing of a direction that a training chose are logged (R240). -/
def State.logRepairs (s : State) (x : Nat) (inward : Bool) : State :=
  let bad := s.badLanes x inward
  let s := s.logSpares x inward (((lanesOf x).uses bad).map (·.1))
  match (lanesOf x).width bad with
  | some (w, sel) => s.logWidth x inward .full w sel
  | none => s

/-- A training attempt that failed: the crossing is retrained once, then it is FAILED (R228). -/
def State.trainFailed (s : State) (x : Nat) : State :=
  let c := s.xl x
  if c.fails = 0 then s.setXl x { c with st := .training, fails := 1 }
  else (s.log (Syn.xlTrainFail.ofCrossing x)).failCrossing x

/-- Step 5 of start-up ends when every vertical port and module is UP or FAILED (R228). -/
def State.endTraining (s : State) : State :=
  if decide (s.boot.phase = .ready 5)
      && startCrossings.all (fun x => decide ((s.xl x).st = .up) || decide ((s.xl x).st = .failed)) then
    { s with boot := { s.boot with phase := .ready 6 } }
  else s

/-- One training of a crossing (R228): clocks, the map and the tests, spares and widths, calibration, and the mark with its report. -/
def State.trainCrossing (s : State) (x : Nat) (r : TrainResult) : State :=
  if !r.clocksUp then s.trainFailed x
  else
    let m := lanesOf x
    let differs := s.afterPartial x
    let addOut := s.trainAdds x false r.badOut
    let addIn := s.trainAdds x true r.badIn
    let s := (s.markBad x false addOut).markBad x true addIn
    let added := addOut.length + addIn.length
    let s := if differs && decide (0 < added) then s.log ((Syn.xlMapMismatch.ofCrossing x).withInfo 0 2 added) else s
    let s := (s.logRepairs x false).logRepairs x true
    match m.width (s.badLanes x false), m.width (s.badLanes x true) with
    | some (wo, so), some (wi, si) =>
      let s := s.setXl x { s.xl x with rawLat := r.rawLat }
      if rawLimit x < r.rawLat || !r.markOk then s.trainFailed x
      else
        let c := s.xl x
        let c : Xl :=
          { c with
            st := .up, widthOut := wo, widthIn := wi, selOut := so, selIn := si,
            sparesOut := m.sparesLeft (s.badLanes x false), sparesIn := m.sparesLeft (s.badLanes x true),
            remaps := [], fails := 0, partialReset := false }
        (((s.setXl x c).copyMap x).liftFence (UnitId.of 0x09 x)).needResign
    | _, _ => s.trainFailed x

/-- CROSSING_TRAINING (R228): also ends step 5 of start-up, and a partner die whose port failed is rejected (R241). -/
def crossingTraining (s : State) (x : Nat) (r : TrainResult) : State :=
  if s.trains x then (s.trainCrossing x r).endTraining else s

/-! ### Marks and reports (R35, R230, R231) -/

def widthCode (w : Width) : Nat := widthRank w

/-- CROSSING_MARK (R35, R202, R230): in slot 0 of a frame whose count is a multiple of 1,024 every crossing that is UP sends a mark and a marker report in each direction. -/
def crossingMark (s : State) : State :=
  if s.time.started && s.time.frame % 1024 == 0 && s.time.slot == 0 then
    (allCrossings.filter (fun x => decide ((s.xl x).st = .up))).foldl (fun s x =>
      let c := s.xl x
      let mk := fun (i : Bool) => ({ x := x, inward := i, frame := s.time.frame } : Mark)
      let rp := fun (i : Bool) =>
        ({ x := x, inward := i, frame := s.time.frame, crc := mapCrc (if i then s.links.near else s.links.far) x i,
           width := widthCode (if i then c.widthIn else c.widthOut), sel := if i then c.selIn else c.selOut } : Report)
      { s with net := { s.net with marks := s.net.marks ++ [mk false, mk true], reports := s.net.reports ++ [rp false, rp true] } }) s
  else s

def execCrossingMark (s : State) : Result := .next (crossingMark s)

/-- The deviation of a mark from its calibrated slot, −10 to 9 NoC cycles (R34, R35). -/
def markDeviation (x slot : Nat) : Int :=
  let d := (slot + 20 - crossingLatency x) % 20
  if d < 10 then (d : Int) else (d : Int) - 20

/-- A deviating mark (R231): no Class G on the crossing, which retrains; a second deviation within 1 s fails it. -/
def State.markDeviates (s : State) (x : Nat) (d : Int) : State :=
  let c := s.xl x
  let again := match c.lastDev with
    | some t => decide (s.time.now ≤ t + 1000000000)
    | none => false
  let dev := toSigned 8 d
  let c : Xl := { c with gOff := true, markerDev := BitVec.ofNat 8 dev, lastDev := some s.time.now, st := .training, fails := 0 }
  let s := ((s.setXl x c).log ((Syn.xlMarkerDev.ofCrossing x).withInfo 0 1 dev)).needResign
  if again then s.failCrossing x else s

/-- MARK_ARRIVAL (R35): the far side checks the slot in which a mark arrives. -/
def markArrival (s : State) (x : Nat) (inward : Bool) (slot : Nat) : State :=
  match s.net.marks.find? (fun m => m.x == x && m.inward == inward) with
  | none => s
  | some m =>
    let s := { s with net := { s.net with marks := s.net.marks.erase m } }
    let d := markDeviation x slot
    if d = 0 ∨ (s.xl x).st ≠ .up then s else s.markDeviates x d

def execMarkArrival (x : Nat) (inward : Bool) (slot : Nat) (s : State) : Result := .next (markArrival s x inward slot)

/-- MARKER_REPORT (R230): a MAP_CRC that differs from that of the receiver's copy is logged and changes nothing. -/
def markerReport (s : State) (x : Nat) (inward : Bool) (crc : BitVec 32) : State :=
  match s.net.reports.find? (fun r => r.x == x && r.inward == inward) with
  | none => s
  | some r =>
    let s := { s with net := { s.net with reports := s.net.reports.erase r } }
    if crc = mapCrc (if inward then s.links.far else s.links.near) x inward then s
    else s.log ((Syn.xlMapMismatch.ofCrossing x).withInfo 0 2 0)

def execMarkerReport (x : Nat) (inward : Bool) (mapCrc : BitVec 32) (s : State) : Result := .next (markerReport s x inward mapCrc)

/-! ### Failure in service (R235 to R237) -/

/-- ERROR_COUNT_WINDOW (R235): at a frame count that is a multiple of 100,000 the counts of every lane start anew. -/
def execErrorCountWindow (s : State) : Result :=
  .next (if s.time.frame % 100000 == 0 then
    { s with links := { s.links with xl := s.links.xl.mapAll (fun _ c => { c with errs := [] }) } } else s)

/-- The width of a direction after its lanes were marked, never wider than it is (R235). -/
def narrower (old : Width × Nat) (new : Width × Nat) : Width × Nat := if widthRank new.1 < widthRank old.1 then old else new

/-- LANE_FAILING (R235): a lane that reached 256 errors in a window, or that had an uncorrectable one, is marked bad; a spare or a narrowing waits for its frame boundary, and a direction that cannot be repaired fails the crossing. -/
def laneFailing (s : State) (x : Nat) (inward : Bool) (lane : Nat) : State :=
  let c := s.xl x
  let n := ((c.errs.find? (fun e => e.1 == inward && e.2.1 == lane)).map (·.2.2)).getD 0
  let m := lanesOf x
  if c.st ≠ .up ∨ n < 256 ∨ (s.badLanes x inward).contains lane = true ∨ m.total ≤ lane then s
  else
    let was := s.badLanes x inward
    let s := (s.markBad x inward [lane]).copyMap x
    let bad := s.badLanes x inward
    match m.width bad with
    | none => s.failCrossing x
    | some w =>
      let old := match c.remaps.find? (fun r => r.inward == inward) with
        | some r => (r.width, r.sel)
        | none => if inward then (c.widthIn, c.selIn) else (c.widthOut, c.selOut)
      let w := narrower old w
      let used := ((m.uses bad).filter (fun u => !(m.uses was).contains u)).map (·.1)
      let r : Remap := { boundary := none, inward := inward, width := w.1, sel := w.2, spares := used }
      s.setXl x { c with remaps := c.remaps ++ [r] }

def execLaneFailing (x : Nat) (inward : Bool) (lane : Nat) (s : State) : Result := .next (laneFailing s x inward lane)

/-- A remap in force (R237, R240): the spare or the narrowing is logged. -/
def State.applyRemap (s : State) (x : Nat) (r : Remap) : State :=
  let c := s.xl x
  let m := lanesOf x
  let left := m.sparesLeft (s.badLanes x r.inward)
  let oldW := if r.inward then c.widthIn else c.widthOut
  let c := if r.inward then { c with widthIn := r.width, selIn := r.sel, sparesIn := left }
    else { c with widthOut := r.width, selOut := r.sel, sparesOut := left }
  let s := (s.setXl x c).needResign
  (s.logSpares x r.inward r.spares).logWidth x r.inward oldW r.width r.sel

/-- CROSSING_REMAP (R237): at the chosen boundary the crossing takes its new mapping and width. -/
def crossingRemap (s : State) (x : Nat) : State :=
  let due := fun (r : Remap) => match r.boundary with
    | some b => decide (b ≤ s.time.frame)
    | none => false
  let c := s.xl x
  (c.remaps.filter due).foldl (fun s r => s.applyRemap x r) (s.setXl x { c with remaps := c.remaps.filter (fun r => !due r) })

def execCrossingRemap (x : Nat) (s : State) : Result := .next (crossingRemap s x)

/-! ### XL_STAT (R231, R232) -/

def xlCode (t : XlState) : Nat :=
  match t with
  | .down => 0
  | .training => 1
  | .up => 2
  | .failed => 3

/-- XL_STAT as it reads. -/
def Xl.stat (c : Xl) : Word :=
  word (xlCode c.st * 2 ^ 62 + bitAt c.gOff 61 + widthCode c.widthOut * 2 ^ 58 + widthCode c.widthIn * 2 ^ 56
    + c.selOut % 4 * 2 ^ 54 + c.selIn % 4 * 2 ^ 52 + c.sparesOut * 2 ^ 40 + c.sparesIn * 2 ^ 32 + c.rawLat % 256 * 2 ^ 24
    + c.markerDev.toNat * 2 ^ 16 + c.ceCount)

/-- The address of a crossing's XL_STAT; partner-die ports have none (R231). -/
def xlAddr (x : Nat) : Nat :=
  match crossing x with
  | some (.ucie bd m) => controlAddr (16 + bd) (0x40 + m) 0
  | _ => controlAddr (x / 4) (0x40 + x % 4) 0

/-- XL_STAT_READ (R231, R232): an M-mode read returns the state and clears CE_COUNT. -/
def execXlStatRead (h x rd : Nat) (s : State) : Result :=
  .next (if x < 48 ∨ 64 ≤ x ∧ x < 80 then
    s.readReg h rd (xlAddr x) (fun s => s.inM h) (fun s => (s.xl x).stat) (fun s => s.setXl x { s.xl x with ceCount := 0 })
  else s)

/-! ### Partner dies (R241 to R243) -/

/-- The allowlist records of a site, in Binding order (R66). -/
def Binding.siteList (b : Binding) (site : Nat) : List (List Byte) := (b.allow.filter (fun r => r.site == site)).map (·.digest)

/-- A link-up attempt begins (R241): the sideband is up and the certificate awaited. -/
def State.partnerLinkUp (s : State) (site : Nat) : State :=
  let p := s.partner site
  if p.blocked || (s.bind.siteList site).isEmpty then s
  else s.setPartner site
    { p with st := .cert, reason := 0, match_ := 0xFF, attempts := satAdd 15 p.attempts 1, since := s.time.now }

/-- The 97 and 2,592-byte keys and both signatures of a signature block (R47). -/
def sigBlockAt (bs : List Byte) (off : Nat) : SigBlock :=
  { mldsaPk := bytesAt bs off 2592, mldsaSig := bytesAt bs (off + 2592) 4627,
    ecdsaPk := bytesAt bs (off + 7232) 97, ecdsaSig := bytesAt bs (off + 7344) 96 }

/-- The key hashes of a signature block: SHA-384 of each public key (R48). -/
def sigHashes (g : SigBlock) : List Byte := sha384 g.mldsaPk ++ sha384 g.ecdsaPk

/-- Whether both signatures over a digest verify (R48). -/
def sigVerifies (g : SigBlock) (digest : List Byte) : Bool :=
  Config.mldsaVerify g.mldsaPk digest g.mldsaSig && Config.ecdsaVerify g.ecdsaPk digest g.ecdsaSig

/-- Whether the bytes of an interval are zero. -/
def zeroAt (bs : List Byte) (off n : Nat) : Bool := allZero (bytesAt bs off n)

/-- An endpoint record of a certificate (R242). -/
def certEndpoint (c : List Byte) (i : Nat) : CertEnd :=
  { x := numAt c (64 + 8 * i) 1, y := numAt c (65 + 8 * i) 1, e := numAt c (66 + 8 * i) 1, role := numAt c (67 + 8 * i) 1 }

/-- The format of a joint-qualification certificate (R242). -/
def certFormat (c : List Byte) : Bool :=
  let n := numAt c 6 2
  let off := numAt c 12 4
  let w := numAt c 26 1
  let h := numAt c 27 1
  let ends := (List.range n).map (certEndpoint c)
  decide (c.length ≤ 16384) && c.take 4 == [0x56, 0x58, 0x4A, 0x51] && numAt c 4 2 == 1 && decide (1 ≤ n ∧ n ≤ 128)
    && numAt c 8 4 == c.length && off + 7440 == c.length && multipleOf off 64 && decide (64 + 8 * n ≤ off)
    && decide (1 ≤ w ∧ w ≤ 8) && decide (1 ≤ h ∧ h ≤ 8) && decide (numAt c 32 1 < 2) && zeroAt c 33 31
    && ends.all (fun e => decide (e.x < w) && decide (e.y < h) && decide (e.e < 4) && decide (e.role < 4))
    && (List.range n).all (fun i => zeroAt c (68 + 8 * i) 4) && zeroAt c (64 + 8 * n) (off - (64 + 8 * n))
    && zeroAt c (off + 7219) 13 && zeroAt c (off + 7329) 15
    && ends.any (fun e => e.x == 0 && e.y == 0 && e.e == 3 && bitOf e.role 1)

/-- The signatures of a certificate (R242): the key hashes of the Clasp ROM, and both signatures. -/
def certSigned (c : List Byte) : Bool :=
  let off := numAt c 12 4
  let g := sigBlockAt c off
  sigHashes g == Config.qualificationHashes && sigVerifies g (sha384 (c.take off))

/-- PARTNER_CERTIFICATE (R241, R242): format, signatures and allowlist, then training; a site without allowlist records is refused. -/
def partnerCertificate (s : State) (site : Nat) (c : List Byte) : State :=
  let p := s.partner site
  let l := s.bind.siteList site
  if 2 ≤ site then s
  else if l.isEmpty then (if p.st = .reset ∧ s.clasp.applied = true then s.partnerReject site 1 else s)
  else if p.st ≠ .cert then s
  else if !certFormat c then s.partnerReject site 3
  else if !certSigned c then s.partnerReject site 4
  else
    let d := sha384 (c.take (numAt c 8 4))
    if !l.contains d then s.partnerReject site 5
    else
      let s := s.setPartner site
        { p with st := .training, match_ := l.idxOf d, digest := d, meshW := numAt c 26 1, meshH := numAt c 27 1,
                 gCapable := bitOf (numAt c 32 1) 0,
                 ends := (List.range (numAt c 6 2)).map (certEndpoint c) }
      s.setXl (80 + site) { Xl.reset with st := .training }

def execPartnerCertificate (site : Nat) (cert : List Byte) (s : State) : Result := .next (partnerCertificate s site cert)

/-- PARTNER_CERT_TIMEOUT (R241): no certificate within 10 ms. -/
def execPartnerCertTimeout (site : Nat) (s : State) : Result :=
  .next (if site < 2 ∧ (s.partner site).st = .cert ∧ (s.partner site).since + 10000000 ≤ s.time.now then s.partnerReject site 2 else s)

/-- A partner die whose port failed its training is rejected (R241). -/
def State.partnerTrainFail (s : State) (x : Nat) : State :=
  if (x = 80 ∨ x = 81) ∧ (s.xl x).st = .failed ∧ (s.partner (x - 80)).st = .training then s.partnerReject (x - 80) 7 else s

def execCrossingTraining (x : Nat) (r : TrainResult) (s : State) : Result :=
  .next ((crossingTraining s x r).partnerTrainFail x)

/-- PARTNER_TRAINED (R241): DIE_INFO must name the site's die and the certificate's mesh; then the site is UP and the Colophon lists it. -/
def partnerTrained (s : State) (site : Nat) (info : Word) : State :=
  let p := s.partner site
  if 2 ≤ site ∨ p.st ≠ .training ∨ (s.xl (80 + site)).st ≠ .up then s
  else if fieldOf info 8 2 == 3 && fieldOf info 0 5 == 28 + site && fieldOf info 16 4 == p.meshW && fieldOf info 20 4 == p.meshH then
    let s := (s.setPartner site { p with st := .up, retries := 3 }).needResign
    if p.gCapable then s.restorePartner site else s
  else s.partnerReject site 6

def execPartnerTrained (site : Nat) (dieInfo : Word) (s : State) : Result := .next (partnerTrained s site dieInfo)

def execPartnerLost (site : Nat) (s : State) : Result := .next (partnerLost s site)

/-- PARTNER_RETRY (R243): 1 ms after a loss or a failed attempt, link-up is attempted again, up to three times. -/
def partnerRetry (s : State) (site : Nat) : State :=
  let p := s.partner site
  if site < 2 ∧ (p.st = .lost ∨ p.st = .rejected) ∧ 0 < p.retries ∧ p.since + 1000000 ≤ s.time.now then
    (s.setPartner site { p with retries := p.retries - 1 }).partnerLinkUp site
  else s

def execPartnerRetry (site : Nat) (s : State) : Result := .next (partnerRetry s site)

def partnerCode (t : PartnerSt) : Nat :=
  match t with
  | .reset => 0
  | .cert => 1
  | .training => 2
  | .up => 3
  | .rejected => 4
  | .lost => 5

/-- PARTNER_STAT as it reads (R243). -/
def Partner.stat (p : Partner) : Word :=
  word (partnerCode p.st * 2 ^ 61 + p.reason * 2 ^ 48 + p.match_ * 2 ^ 32 + p.attempts)

end Sys2Proof.Machine
end

