-- ==== Sys2Proof/Machine/MemCtl.lean ====
section
/-! DEFINITION. The memory controllers (R247 to R263): training, reads, writes, scrubbing, refresh, retired pages and failed units, and their registers. -/

namespace Sys2Proof.Machine

/-! ### Records and retirement (R261, R262, R268) -/

/-- A memory record of an address (R429). -/
def State.memRecord (s : State) (y : Syndrome) (a : Nat) : ErrRec :=
  let u := s.memUnit a
  (y.record (s.controllerNode a) u.ty u.no 0).withAddr a

/-- A page retired (R261): REASON false for an uncorrectable error, true for the corrected-error threshold; a full list retires no more. -/
def State.retirePage (s : State) (a : Nat) (threshold : Bool) : State :=
  let k := s.controllerOf a
  let c := s.ctl k
  if k ≥ 32 ∨ c.retired.any (fun e => e.1 == a / 4096) = true then s
  else if c.retired.length < 4096 then
    let s := s.setCtl k { c with retired := c.retired ++ [(a / 4096, threshold)] }
    ({ s with mem := { s.mem with retireDirty := true } }).log (s.memRecord Syn.pageRetired a)
  else s.log (s.memRecord Syn.retireListFull a)

/-- A corrected error (R261): logged and counted for its page, which is retired at 32 in one scrub pass. -/
def State.memCorrected (s : State) (a : Nat) : State :=
  let k := s.controllerOf a
  let c := s.ctl k
  let n := Tab.get c.ce 0 (a / 4096) + 1
  let s := if k < 32 then s.setCtl k { c with ce := Tab.set c.ce (a / 4096) n } else s
  let s := s.log (s.memRecord Syn.memCe a)
  if 32 ≤ n then s.retirePage a true else s

/-- An uncorrectable error (R254, R261): the line is poisoned and its page retired; CXL memory reports it as its device does. -/
def State.memUncorrected (s : State) (a : Nat) : State :=
  let s := { s with mem := s.mem.setPoison (a / 64) 0xF#4 }
  if rangeOf a = .cxl then s.log (s.memRecord Syn.cxlMemError a)
  else (s.log (s.memRecord Syn.memUe a)).retirePage a false

/-! ### Reads and writes (R256, R257, R260, R263) -/

/-- Whether a read that its home serves from memory allocates in the L3 (R154). -/
def fillsL3 (o : Opc) : Bool :=
  match o with
  | .rds | .rdu | .upg => true
  | _ => false

/-- What a memory read finds: the check code's verdict acts on what memory holds, not on a queued write; a retired page is not read. -/
def State.memServe (s : State) (l : Nat) (e : Ecc) : State × (Line × Poison) :=
  let a := 64 * l
  let plain := s.memValue l
  if s.retired a || s.mem.wpq.any (fun w => w.line == l) then (s, plain)
  else
    let integrity := ((s.bind.anyWindow a).map (fun w => w.has 6)).getD false
    match e with
    | .ok => (s, plain)
    | .corrected => (s.memCorrected a, plain)
    | .uncorrectable => (s.memUncorrected a, (plain.1, 0xF#4))
    | .macFail => if integrity then (s.log (s.memRecord Syn.memMacFail a), (plain.1, 0xF#4)) else (s, plain)

/-- The bank of a line at its controller. -/
def State.lineBank (s : State) (l : Nat) : Nat × Nat := (s.controllerOf (64 * l), Config.bankOf (s.controllerOf (64 * l)) (64 * l))

/-- Whether a read that a home waits for is a Class G request's. -/
def State.readIsG (s : State) (r : MemRead) : Bool := ((s.slice r.slice).txn r.line).any (fun x => x.req.cls == 2)

/-- Whether a Class G request waits at a controller for a bank (R258). -/
def State.gWaits (s : State) (k bank : Nat) : Bool := s.mem.reads.any (fun r => s.lineBank r.line == (k, bank) && s.readIsG r)

/-- MEMORY_READ (R257, R258): once no Class G request waits for the bank, unless it is one, the data of a read that a home waits for; the home allocates it as R154 states, and the transaction goes on. -/
def memoryRead (s : State) (l : Nat) (e : Ecc) : State :=
  match s.mem.reads.find? (fun r => r.line == l) with
  | none => s
  | some r =>
    if s.gWaits (s.lineBank l).1 (s.lineBank l).2 && !s.readIsG r then s
    else
    let s : State := { s with mem := { s.mem with reads := s.mem.reads.erase r } }
    let lost := s.retired (64 * l)
    let d := s.memServe l e
    let s := d.1
    match (s.slice r.slice).txn l with
    | none => s
    | some x =>
      if !x.waitMem then s
      else
        let s := s.modSlice r.slice (fun t => t.setTxn { x with waitMem := false, data := some d.2 })
        let s := if fillsL3 x.req.opc && !lost then s.fillL3 r.slice x.req.qid l false d.2.1 d.2.2 else s
        (s.advance 4 r.slice l).kickReads r.slice

def execMemoryRead (line : Nat) (e : Ecc) (s : State) : Result := .next (memoryRead s line e)

/-- One queued write performed in memory. -/
def MemSys.perform (m : MemSys) (w : MemWrite) : MemSys := m.writeLine w.line w.data w.poison

/-- MEMORY_WRITE (R258, R260, R263): the oldest queued write of a line is performed, once no Class G request waits for its bank. -/
def memoryWrite (s : State) (l : Nat) : State :=
  if s.gWaits (s.lineBank l).1 (s.lineBank l).2 then s
  else match s.mem.wpq.find? (fun w => w.line == l) with
  | some w => { s with mem := { s.mem.perform w with wpq := s.mem.wpq.erase w } }
  | none => s

def execMemoryWrite (line : Nat) (s : State) : Result := .next (memoryWrite s line)

/-- Every queued write performed, oldest first (R266, R418). -/
def MemSys.drain (m : MemSys) : MemSys := { m.wpq.foldl MemSys.perform m with wpq := [] }

/-! ### Scrub and refresh (R254, R258) -/

/-- SCRUB (R254, R261, R262): one line is read and, when corrected, rewritten; a retired page is skipped. Once every trained line has been scrubbed a new pass begins. -/
def scrub (s : State) (l : Nat) (e : Ecc) : State :=
  let a := 64 * l
  let k := s.controllerOf a
  if !s.populated a ∨ 32 ≤ k then s
  else
    let s := if s.retired a then s
      else match e with
        | .corrected => s.memCorrected a
        | .uncorrectable => s.memUncorrected a
        | .ok | .macFail => s
    let c := s.ctl k
    if c.capacityMib * 16384 ≤ c.scrubbed + 1 then s.setCtl k { c with scrubbed := 0, ce := [] }
    else s.setCtl k { c with scrubbed := c.scrubbed + 1 }

def execScrub (line : Nat) (e : Ecc) (s : State) : Result := .next (scrub s line e)

/-- REFRESH (R258): a controller that is up refreshes one bank, never one for which a Class G request waits. -/
def refresh (s : State) (k bank : Nat) : State :=
  let c := s.ctl k
  if c.st ≠ .up ∨ 32 ≤ k ∨ s.gWaits k bank = true then s else s.setCtl k { c with refreshing := [bank] }

def execRefresh (ctl bank : Nat) (s : State) : Result := .next (refresh s ctl bank)

/-! ### Failed units (R262) -/

/-- A controller with one more failed unit; with none left its STATE is FAILED (R262; log 83). -/
def Ctl.unitFailed (c : Ctl) (units : Nat) : Ctl :=
  { c with unitsFailed := c.unitsFailed + 1, st := if units ≤ c.unitsFailed + 1 then .failed else c.st }

/-- A pseudo-channel out of service: its controller counts it, and it is fenced. -/
def State.dropPc (s : State) (pc : Nat) : State :=
  let s := s.setCtl (pc / 32) ((s.ctl (pc / 32)).unitFailed 32)
  ({ s with mem := { s.mem with failedPc := s.mem.failedPc ++ [pc] } }).addFence (UnitId.of 0x06 pc) Syn.hbmPcFailed.code

/-- A pseudo-channel fails (R262). -/
def State.failPc (s : State) (pc : Nat) : State :=
  if s.mem.failedPc.contains pc ∨ 256 ≤ pc then s
  else (s.dropPc pc).log (Syn.hbmPcFailed.record (hbmNode (pc / 32)) 0x06 pc 0)

/-- A DDR channel out of service, in the same way. -/
def State.dropCh (s : State) (ch : Nat) : State :=
  let s := s.setCtl (16 + ch) ((s.ctl (16 + ch)).unitFailed 1)
  ({ s with mem := { s.mem with failedCh := s.mem.failedCh ++ [ch] } }).addFence (UnitId.of 0x08 ch) Syn.ddrChannelFailed.code

/-- A DDR channel fails (R262). -/
def State.failCh (s : State) (ch : Nat) : State :=
  if s.mem.failedCh.contains ch ∨ 16 ≤ ch then s
  else (s.dropCh ch).log (Syn.ddrChannelFailed.record (ddrNode ch) 0x08 ch 0)

/-- A CXL device lost (R262): its port group's range is treated as failed until the group trains again, and the partner action of KIND 1 follows. -/
def State.loseCxl (s : State) (g : Nat) : State :=
  if (s.cxl g).lost ∨ (s.cxl g).decoders.isEmpty ∨ 8 ≤ g then s
  else
    let c := s.cxl g
    let s := { s with mem := { s.mem with cxl := Tab.set s.mem.cxl g { c with lost := true } } }
    let s := s.log (Syn.cxlMemError.record (pcieNode g) 0x0C g 0)
    (rootPorts (s.group g).arrange).foldl (fun s r => s.partnerAct 1 (g * 4 + r)) s

/-- MEMORY_UNIT_FAIL (R262): a pseudo-channel, a DDR channel or a CXL device fails. -/
def execMemoryUnitFail (u : UnitId) (s : State) : Result :=
  .next (if u.ty = 0x06 then s.failPc u.no else if u.ty = 0x08 then s.failCh u.no else if u.ty = 0x0C then s.loseCxl u.no else s)

/-! ### Training (R247, R248) -/

/-- Whether a DIMM may be counted in a set (R248). -/
def dimmOk (d : Dimm) : Bool :=
  decide (16 ≤ d.gib ∧ d.gib ≤ 256) && decide (d.tRCD ≤ 16) && decide (d.tRP ≤ 16) && decide (d.cl ≤ 17) && decide (d.tRFCsb ≤ 100)

/-- The channel sets of R248, largest first. -/
def channelSets : List (List Nat) := [List.range 16, (List.range 8).map (2 * ·), (List.range 4).map (4 * ·)]

/-- The set trained: the largest in which every channel holds a DIMM identical to that of channel 0 (R248). -/
def chooseSet (dimms : List (Option Dimm)) : List Nat :=
  match dimms.getD 0 none with
  | none => []
  | some d => if dimmOk d then (channelSets.find? (fun l => l.all (fun c => dimms.getD c none == some d))).getD [] else []

/-- A decoder that places device capacity inside its group's region (R249). -/
def decoderOk (d : Nat × Nat × Nat × Nat × Nat) : Bool :=
  let base := 0x1000000000000 + d.1 * 0xE00000000000
  decide (d.1 < 8) && decide (base ≤ d.2.1) && decide (d.2.1 + d.2.2.1 ≤ base + 0xE00000000000)
    && [1, 2, 4].contains d.2.2.2.1 && [256, 512, 1024, 2048, 4096, 8192, 16384].contains d.2.2.2.2

/-- MEMORY_TRAINING (R248): HBM and the chosen DDR set come up, unchosen DIMMs are logged, units that failed are fenced, after a warm reset those that were fenced before it stay so (R348), PERST_N is released and the PCIe and CXL links train. -/
def memoryTraining (s : State) (r : MemTrainResult) : State :=
  if s.boot.phase ≠ .ready 6 then s
  else
    let set := chooseSet r.dimms
    let gibs := ((r.dimms.getD 0 none).map (·.gib)).getD 0
    let was := if s.boot.warm then (s.mem.failedPc, s.mem.failedCh) else ([], [])
    let up := fun (c : Ctl) (mib : Nat) => { c with st := XlState.up, capacityMib := mib, unitsFailed := 0 }
    let hbm := (List.range 8).foldl (fun t i => Tab.set t i (up (Tab.get t Ctl.reset i) (s.fuse.hbmGibPerBd / 2 * 1024))) s.mem.hbm
    let ddr := set.foldl (fun t c => Tab.set t c (up (Tab.get t Ctl.reset c) (gibs * 1024))) s.mem.ddr
    let cxl := (List.range 8).foldl (fun t g =>
      let ds := ((r.decoders.filter (fun d => d.1 == g && decoderOk d)).take 8).map (·.2)
      if ds.isEmpty then t else Tab.set t g { decoders := ds, lost := false }) ([] : Tab Cxl)
    let s := { s with mem := { s.mem with hbm := hbm, ddr := ddr, cxl := cxl, ddrN := set.length,
                                          dimmGib := if set.isEmpty then 0 else gibs, failedPc := [], failedCh := [] } }
    let left := (List.range 16).filter (fun c => (r.dimms.getD c none).isSome && !set.contains c)
    let s := left.foldl (fun s c => s.log (Syn.ddrPopulation.record (ddrNode c) 0x08 c 0)) s
    let s := was.1.foldl State.dropPc s
    let s := was.2.foldl State.dropCh s
    let s := r.failedPc.foldl State.failPc s
    let s := (r.failedCh.filter (fun c => set.contains c)).foldl State.failCh s
    let s := (List.range 8).foldl (fun s g =>
      let a := bitsOf s.pins.straps.toNat (2 * g) 2
      s.setGroup g { s.group g with arrange := a, linkUp := rootPorts a }) s
    { s with pins := { s.pins with perstN := true }, boot := { s.boot with memTrained := true, phase := .ready 7 } }

def execMemoryTraining (r : MemTrainResult) (s : State) : Result := .next (memoryTraining s r)

/-! ### Lists in flash (R261, R422) -/

/-- An entry of a retired-page list, in the layout of MC_RETIRE_PAGE (log 26). -/
def retireWord (e : Nat × Bool) : Nat := 2 ^ 63 + bitAt e.2 62 + e.1 * 4096

/-- The 4,096 entries of one controller; an unused one is left erased. -/
def listBytes (l : List (Nat × Bool)) : List Byte :=
  l.flatMap (fun e => toLE 8 (retireWord e)) ++ List.replicate (8 * (4096 - l.length)) 0xFF

/-- The lists of the 8 HBM and 16 DDR controllers. -/
def State.retireImage (s : State) : List Byte :=
  (List.range 24).flatMap (fun i => listBytes (s.ctl (if i < 8 then i else i + 8)).retired)

/-- The entries of one controller in an image. -/
def listFrom (bs : List Byte) (i : Nat) : List (Nat × Bool) :=
  (List.range 4096).filterMap (fun j =>
    let w := numAt bs (8 * (4096 * i + j)) 8
    if w = 2 ^ 64 - 1 then none else some (bitsOf w 12 40, bitOf w 62))

/-- RETIRED_LIST_SAVE (R261): changed lists are copied to boot flash. -/
def retiredListSave (s : State) : State :=
  if s.mem.retireDirty then
    { s with mem := { s.mem with retireDirty := false },
             clasp := { s.clasp with flash := writeArea s.clasp.flash retireArea s.retireImage } }
  else s

def execRetiredListSave (s : State) : Result := .next (retiredListSave s)

/-- The lists reloaded from flash (R261, R415 step 3). -/
def State.loadRetired (s : State) : State :=
  match readArea s.clasp.flash retireArea with
  | some (_, _, body) =>
    (List.range 24).foldl (fun s i =>
      let k := if i < 8 then i else i + 8
      let l := listFrom body i
      if l.isEmpty then s else s.setCtl k { s.ctl k with retired := l }) s
  | none => s

/-! ### Registers (R262) -/

/-- The controller of a block: HBM controllers of a BD, DDR controllers of the IOD. -/
def ctlOfBlock (die block : Nat) : Option Nat :=
  if 16 ≤ die ∧ die < 20 ∧ 0x30 ≤ block ∧ block ≤ 0x31 then some (2 * (die - 16) + (block - 0x30))
  else if die = 24 ∧ 0x500 ≤ block ∧ block ≤ 0x50F then some (16 + (block - 0x500))
  else none

/-- MC_INFO, MC_RETIRE_CNT, MC_RETIRE_SEL and MC_RETIRE_PAGE as they read. -/
def State.mcRead (s : State) (k off : Nat) : Word :=
  let c := s.ctl k
  match off with
  | 0x00 => word (xlCode c.st * 2 ^ 62 + c.unitsFailed * 2 ^ 40 + (if k < 16 then 0 else 2 ^ 32) + c.capacityMib)
  | 0x08 => word c.retired.length
  | 0x10 => word c.retireSel
  | 0x18 => match c.retired[c.retireSel]? with
    | some e => word (retireWord e)
    | none => 0
  | _ => 0

/-- MC_RETIRE_SEL written by an M-mode hart; the other registers are read-only. -/
def writeMc (s : State) (who : Agent) (die block k off : Nat) (v : Word) : State :=
  let inM := match who with
    | .hart h => s.inM h
    | _ => false
  if !inM then s.refuse who true (controlAddr die block off)
  else if off = 0x10 then
    let s := s.reserved who die block off v 0xFFF
    s.setCtl k { s.ctl k with retireSel := fieldOf v 0 12 }
  else s

end Sys2Proof.Machine
end

