-- ==== Sys2Proof/Machine/Tick.lean ====
section
/-! DEFINITION. One NoC cycle with no command waiting: what the clock alone does (R33, R37; log 1). -/

namespace Sys2Proof.Machine

/-- Package time moved forward by k ns on every die but those that hold a copy which is ahead (R37, R39). -/
def Time.advance (t : Time) (k : Nat) : Time :=
  { t with now := t.now + k,
           skew := t.skew.map (fun e =>
             if t.holding.contains e.1 && decide (0 < e.2) then (e.1, max 0 (e.2 - (k : Int))) else e) }

/-- A NoC cycle inside a frame: the slot advances, and package time gains 1 ns in every even slot but the last pair, whose gain is the frame boundary's (R33, R37).
Slot 19 ends with the frame boundary, which has a command of its own, so the clock waits there. -/
def Time.tick (t : Time) : Time :=
  if t.slot < 19 then
    let u : Time := { t with slot := t.slot + 1, cycle := t.cycle + 1 }
    if t.started && (t.slot + 1) % 2 == 0 then u.advance 1 else u
  else t

end Sys2Proof.Machine
end

