-- ==== Sys2Proof/Machine/Time.lean ====
section
/-! DEFINITION. Package time: frames, steps, slews and skew corrections (R33, R37 to R41), and the package-time registers. -/

namespace Sys2Proof.Machine

/-! ### Frames (R33, R37, R41) -/

/-- Whether the current frame is an adjusted one (R41). -/
def Time.slewDue (t : Time) : Bool := t.slewOn && t.slewCount == t.slewInterval

/-- The boundary increment of the current frame before a step: 1, or 2 or 0 in an adjusted frame (R37). -/
def Time.inc (t : Time) : Nat :=
  if t.slewDue then (if t.slewDir then 0 else 2) else t.boundaryInc

/-- The even slots that the current frame has still to pass (R37). -/
def Time.ticksLeft (t : Time) : Nat := 9 - t.slot / 2

/-- The setting of PT_SLEW in force from a boundary on (R41). -/
def Time.applySlew (t : Time) : Time :=
  match t.slewWrite with
  | some v =>
    { t with slewWrite := none, slewOn := flagOf v 63, slewDir := flagOf v 62, slewInterval := fieldOf v 0 32, slewCount := 1 }
  | none => if t.slewOn then { t with slewCount := if t.slewDue then 1 else t.slewCount + 1 } else t

/-- Copies that were behind are moved forward, and copies that the IOD has reached are no longer held (R39). -/
def Time.applySkew (t : Time) : Time :=
  let fix := t.skew.map (fun e => if t.holding.contains e.1 && decide (e.2 < 0) then (e.1, (0 : Int)) else e)
  { t with skew := fix.filter (fun e => decide (e.2 ≠ 0)),
           holding := t.holding.filter (fun d => decide (0 < Tab.get fix 0 d)) }

/-- The boundary that ends a frame of running package time. -/
def Time.boundary (t : Time) : Time :=
  let u := (t.advance (t.ticksLeft + t.inc + t.step.getD 0)).applySkew.applySlew
  { u with slot := 0, cycle := t.cycle - t.slot + 20, frame := t.frame + 1, step := none, boundaryInc := 1 }

/-- FRAME_BOUNDARY (R37, R38): package time starts at 0 at the first boundary after the PLLs lock; every later boundary ends a frame, and a pending step, slew and B_SHARE take effect. -/
def frameBoundary (s : State) : State :=
  if !s.boot.pllLocked then s
  else if !s.time.started then
    { s with time := { s.time with started := true, now := 0, frame := 0, skew := [], holding := [], slot := 0,
                                   cycle := s.time.cycle - s.time.slot + 20 } }
  else
    { s with time := s.time.boundary,
             fabric := match s.fabric.bShareNext with
               | some b => { s.fabric with bShare := b, bShareNext := none }
               | none => s.fabric }

def execFrameBoundary (s : State) : Result := .next (frameBoundary s)

/-- SLEW_ADJUSTED_FRAME (R41): the interval count has reached INTERVAL, and the frame's boundary increment becomes 2 or 0. -/
def execSlewAdjustedFrame (s : State) : Result :=
  .next (if s.time.slewDue then { s with time := { s.time with boundaryInc := s.time.inc } } else s)

/-! ### Registers (R40, R41) -/

def ptOff (off : Nat) : Nat := controlAddr iodDie 0x050 off

/-- PT_STEP written (R40); a value of 2^48 or more while a step is pending logs CONFIG_WHILE_ACTIVE alone (log 86). -/
def writePtStep (s : State) (who : Agent) (v : Word) : State :=
  if !s.ownerHart who then s.refuse who true (ptOff 0x10)
  else if s.time.step.isSome then s.whileActive who iodDie 0x050 0x10 v
  else if 2 ^ 48 ≤ v.toNat then s.logWrite Syn.reservedWrite who iodDie 0x050 0x10 v
  else { s with time := { s.time with step := some v.toNat } }

def execPtStep (who : Agent) (v : Word) (s : State) : Result := .next (s.asAgent who (fun s => writePtStep s who v))

/-- The fields of PT_SLEW. -/
def ptSlewMask : Nat := 0xC0000000FFFFFFFF

/-- PT_SLEW written (R40, R41): the register reads the new value at once, which takes effect at the next frame boundary. -/
def writePtSlew (s : State) (who : Agent) (v : Word) : State :=
  if !s.ownerHart who then s.refuse who true (ptOff 0x18)
  else
    let s := s.reserved who iodDie 0x050 0x18 v ptSlewMask
    if flagOf v 63 && decide (fieldOf v 0 32 < 500) then s.logWrite Syn.reservedWrite who iodDie 0x050 0x18 v
    else
      let w := v &&& word ptSlewMask
      { s with time := { s.time with slewReg := w, slewWrite := some w } }

def execPtSlew (who : Agent) (v : Word) (s : State) : Result := .next (s.asAgent who (fun s => writePtSlew s who v))

/-- PT_STAT as it reads (R40). -/
def Time.stat (t : Time) : Word :=
  word (bitAt t.step.isSome 63 + bitAt t.restarted 62 + t.lastSkewDie % 32 * 2 ^ 16 + t.skewCount)

/-- Whether a hart may read block 0x050: M-mode or HS-mode (R40). -/
def State.readsTime (s : State) (h : Nat) : Bool :=
  let x := s.hart h
  decide (x.mode = .m) || (decide (x.mode = .s) && !x.virt)

/-- PT_STAT_READ (R40): the fields are returned and SKEW_COUNT cleared. -/
def execPtStatRead (h rd : Nat) (s : State) : Result :=
  .next (s.readReg h rd (ptOff 0x20) (fun s => s.readsTime h) (fun s => s.time.stat)
    (fun s => { s with time := { s.time with skewCount := 0 } }))

/-- PT_STAT written (R40): RESTARTED is cleared by a one. -/
def writePtStat (s : State) (who : Agent) (v : Word) : State :=
  if !s.ownerHart who then s.refuse who true (ptOff 0x20)
  else
    let s := s.reserved who iodDie 0x050 0x20 v 0xC0000000001FFFFF
    if flagOf v 62 then { s with time := { s.time with restarted := false } } else s

/-! ### Broadcast (R39) -/

/-- TIME_SKEW of one die (R39, R429): counted and logged, the die's copy then being moved forward at the next boundary or held. -/
def State.correctDie (s : State) (d : Nat) : State :=
  ({ s with time := { s.time with skewCount := satAdd 0xFFFF s.time.skewCount 1, lastSkewDie := d,
                                  holding := s.time.holding ++ [d] } }).log
    (Syn.timeSkew.record (ctlNode d) 0x10 d 0)

/-- TIME_BROADCAST (R39): every 1,024 frames each die compares its copy with the IOD's; a die that is held already is not counted and logged again (log 86). -/
def timeBroadcast (s : State) : State :=
  if s.time.started && s.time.frame % 1024 == 0 then
    (packageDies.filter (fun d => d != iodDie && Tab.get s.time.skew 0 d != 0 && !s.time.holding.contains d)).foldl State.correctDie s
  else s

def execTimeBroadcast (s : State) : Result := .next (timeBroadcast s)

end Sys2Proof.Machine
end

