-- ==== Sys2Proof/Machine/Startup.lean ====
section
/-! DEFINITION. Power-up, start-up steps 2 and 3, REFCLK loss, and warm reset (R36, R38, R356, R412 to R419). -/

namespace Sys2Proof.Machine

/-! ### What a reset of the domains leaves (R378, R413, R417) -/

/-- The PERSIST windows whose contents a reset keeps: all, or those in CXL memory after PK4 (R265, R417). -/
def Binding.keptRanges (b : Binding) (cxlOnly : Bool) : List (Nat × Nat) :=
  (b.windows.filter (fun w => w.has 7 && (!cxlOnly || decide (rangeOf w.base = .cxl)))).map (fun w => (w.base, w.size))

/-- Memory contents once a package that ran under a Binding loses them; nothing has written memory before (log 20). -/
def State.loseMemory (s : State) (cxlOnly : Bool) : State :=
  if s.clasp.applied then
    let d := s.draw
    { d.2 with mem := d.2.mem.lose d.1 (s.bind.keptRanges cxlOnly) }
  else s

/-- The Clasp as a reset leaves it: the key store and the flash remain (R367, R417). -/
def Clasp.afterReset (c : Clasp) : Clasp :=
  { Clasp.reset with owners := c.owners, updCounter := c.updCounter, floor := c.floor, svn := c.svn, flash := c.flash }

/-- Memory controllers as a reset leaves them: contents stay as they are, write-pending queues and settings are gone; a fenced pseudo-channel or channel stays fenced until it trains in a cold start (R7, R348). -/
def MemSys.afterReset (m : MemSys) : MemSys :=
  { MemSys.reset with bytes := m.bytes, poison := m.poison, eras := m.eras, failedPc := m.failedPc, failedCh := m.failedCh, seals := m.seals }

/-- Every domain except STBY in reset (R378): what STBY, the key store, the flash and memory hold remains; PT_SLEW, a pending PT_STEP and SKEW_COUNT stay with package time (R38; log 86). -/
def State.resetDomains (s : State) : State :=
  { s with
    pins := { s.pins with perstN := false },
    boot := { s.boot with claspUp := false, booted := none, candidates := [], current := none, memTrained := false, flush := .none },
    harts := [], clusters := [], slices := [], net := Net.reset, fabric := Fabric.reset,
    links := { Links.reset with repair := s.links.repair, repairDirty := s.links.repairDirty },
    mem := s.mem.afterReset, qe := Qe.reset, io := IoPorts.reset, sl := SysLink.reset,
    chk := { units := [], fenced := [] }, err := Errors.reset, clasp := s.clasp.afterReset,
    dbg := { cmderr := 0, data := 0, groups := [] }, pwr := Power.reset, gov := Governor.reset }

/-- Domains held in reset at once, nothing drained: queued writes are lost (R36, R401, R413). -/
def State.holdDomains (s : State) (phase : Phase) : State :=
  let s := (s.loseMemory false).resetDomains
  { s with boot := { s.boot with phase := phase } }

/-! ### Warm reset (R417 to R419, R356) -/

/-- Harts stop at their next instruction boundary (R266, R356, R418). -/
def State.stopHarts (s : State) : State :=
  { s with harts := s.harts.mapAll (fun _ x => if x.run = .running ∨ x.run = .halted then { x with run := .stopped } else x) }

/-- The sixteen newest uncorrected records of the chip collector, newest first (R356). -/
def State.newestUncorrected (s : State) : List ErrRec :=
  let un := (s.err.slots.map (·.2)).filter ErrRec.uncorrected
  let later := fun (a b : ErrRec) => decide ((s.err.seq - a.seq).toNat ≤ (s.err.seq - b.seq).toNat)
  (sortBy later un).take 16

/-- The fatal record as the chip collector would hold it (R356). -/
def Fatal.record (f : Fatal) : ErrRec :=
  let r := ({ code := f.syndrome, sev := 3 } : Syndrome).record f.origin 0 0 0
  match f.addr with
  | some a => r.withAddr a
  | none => r

/-- The fatal record and the newest uncorrected ones copied to the Firefly log, KIND 5 (R356, R394). -/
def State.copyFatal (s : State) : State :=
  match s.boot.fatal with
  | none => s
  | some f =>
    let held := s.err.slots.find? (fun e => e.2.syndrome == f.syndrome && e.2.origin == f.origin)
    let first := (held.map (·.2)).getD f.record
    (first :: s.newestUncorrected).foldl (fun s r => s.ffLog 5 0 (ofLE (r.bytes false))) s

/-- A warm reset begins (R418): harts stop, ALIVE is held low, and the System Link ports send RIP, except in a wake from PK4. -/
def State.startWarm (s : State) (cause : ResetCause) : State :=
  let s := if cause = .fatal then s.copyFatal else s
  let s := s.stopHarts
  let s := if cause = .pk4Wake then s
    else { s with sl := { s.sl with ports := s.sl.ports.mapAll (fun _ p => { p with rip := p.released }) } }
  { s with pins := { s.pins with aliveToggling := false },
           boot := { s.boot with phase := .draining, warm := true, cause := cause, flush := .none } }

/-- Whether a fall of RESET_N must wait: a persistent flush or the entry into a package state runs (R419). -/
def State.resetWaits (s : State) : Bool := decide (s.boot.flush ≠ .none) || s.pwr.pkEntering.isSome

/-- A fall of RESET_N (R416, R417, R419): cold start-up begins again from its first row, anything later is a warm reset. -/
def State.resetFalls (s : State) : State :=
  let s := { s with pins := { s.pins with resetN := false } }
  if s.resetWaits then s
  else match s.boot.phase with
    | .off | .standby | .refclkLost | .powerFail | .flushed | .tripped => s
    | .ready _ =>
      if s.boot.warm then s.startWarm .pin
      else
        let s := s.resetDomains
        { s with pins := { s.pins with aliveToggling := false }, boot := { s.boot with phase := .standby } }
    | .noBinding | .running | .draining => s.startWarm .pin

/-- WARM_RESET (R417, R418): RESET_N low for 1 µs, or the fatal event that waits for its reset (R356), unless a persistent flush runs to its end first (R266); the other causes begin their reset in the command that ends their own condition. -/
def warmReset (s : State) (cause : ResetCause) : State :=
  match cause with
  | .pin => if s.pins.pwrgood then s.resetFalls else s
  | .fatal =>
    if s.boot.fatal.isSome && decide (s.boot.flush = .none) then
      match s.boot.phase with
      | .ready _ | .noBinding | .running => s.startWarm .fatal
      | _ => s
    else s
  | .refclk | .flush | .loadBinding | .pk4Wake | .thermal => s

def execWarmReset (cause : ResetCause) (s : State) : Result := .next (warmReset s cause)

/-- WARM_RESET_DRAINED (R417, R418): write-pending queues are drained, every domain except STBY is reset, and start-up resumes at step 3.
Ports that were released send RIP until their link layer is up again; in a wake from PK4 the ports keep their links. -/
def warmResetDrained (s : State) : State :=
  if s.boot.phase ≠ .draining then s
  else
    let pk4 := decide (s.boot.cause = .pk4Wake)
    let ports := if pk4 then s.sl.ports
      else (s.sl.ports.filter (fun e => e.2.released)).map (fun e => (e.1, { SlPort.reset with rip := true }))
    let pwr : Power := if pk4 then { Power.reset with pk := s.pwr.pk, pkExiting := s.pwr.pkExiting } else Power.reset
    let s := { s with mem := s.mem.drain }
    let s := (s.loseMemory pk4).resetDomains
    { s with sl := { s.sl with ports := ports }, pwr := pwr,
             boot := { s.boot with phase := .ready 3, bootCount := (s.boot.bootCount + 1) % 2 ^ 32 } }

def execWarmResetDrained (s : State) : Result := .next (warmResetDrained s)

/-! ### Power-up and cold start (R412, R413, R415, R416) -/

/-- STBY_PWRGOOD_RISE (R415, R395): the Firefly boots; every channel is disabled and every rule has OP 0. -/
def stbyPwrgoodRise (s : State) : State :=
  if s.boot.phase = .off then
    { s with pins := { s.pins with stbyPwrgood := true }, boot := { s.boot with phase := .standby },
             ff := { Firefly.reset with logSeq := s.ff.logSeq } }
  else s

def execStbyPwrgoodRise (s : State) : Result := .next (stbyPwrgoodRise s)

/-- STBY_PWRGOOD_FALL (R413): everything goes, but for what flash, fuses, the key store and persistent memory hold. -/
def stbyPwrgoodFall (s : State) : State :=
  if s.boot.phase = .off then s
  else
    let s := s.holdDomains .off
    { s with pins := { State.reset.pins with stbyPwrgood := false, pwrgood := false },
             boot := { State.reset.boot with phase := .off, bootCount := s.boot.bootCount },
             time := { Time.reset with cycle := s.time.cycle },
             links := Links.reset, ff := { Firefly.reset with booted := false, logSeq := s.ff.logSeq } }

def execStbyPwrgoodFall (s : State) : Result := .next (stbyPwrgoodFall s)

/-- PWRGOOD_FALL (R413): every domain except STBY is held in reset at once, nothing is drained, and the next start is a cold start. -/
def pwrgoodFall (s : State) : State :=
  if s.pins.pwrgood then
    let s := s.holdDomains .standby
    { s with pins := { s.pins with pwrgood := false, aliveToggling := false },
             boot := { s.boot with warm := false, pllLocked := false } }
  else s

def execPwrgoodFall (s : State) : Result := .next (pwrgoodFall s)

/-- RESET_N_RISE (R412, R415, R424): in a cold start the straps are sampled, the NoC PLLs start and ALIVE toggles; in a warm reset the package goes on once its domains are reset. PWRGOOD is high by then (R412). -/
def resetNRise (s : State) (straps : BitVec 16) : State :=
  match s.boot.phase with
  | .standby =>
    { s with pins := { s.pins with pwrgood := true, resetN := true, straps := straps, aliveToggling := !s.ff.restarting },
             boot := { s.boot with phase := .ready 2, warm := false, bootCount := (s.boot.bootCount + 1) % 2 ^ 32 } }
  | .ready _ | .draining => { s with pins := { s.pins with resetN := true } }
  | _ => s

def execResetNRise (straps : BitVec 16) (s : State) : Result := .next (resetNRise s straps)

/-- PLL_LOCKED (R38, R415, R416): package time is to start at 0, unless the PLLs had locked before; step 3 is next. -/
def pllLocked (s : State) : State :=
  if s.boot.phase ≠ .ready 2 then s
  else
    let t := if s.boot.pllLocked then s.time else { Time.reset with cycle := s.time.cycle }
    { s with time := t, boot := { s.boot with pllLocked := true, phase := .ready 3 } }

def execPllLocked (s : State) : Result := .next (pllLocked s)

/-- Slot 0 of the chip collector after a reset that a fatal event caused (R356): FATAL_RESET with the cause's syndrome, ORIGIN and ADDR. -/
def State.fatalSlot (s : State) : State :=
  match s.boot.fatal with
  | some f =>
    if s.boot.cause = .fatal then
      let r := (((Syn.fatalReset.record chipEcNode 0x15 0 0).withInfo 0 2 f.syndrome).withInfo 2 2 f.origin)
      let r := match f.addr with
        | some a => r.withAddr a
        | none => r
      let r := { r with first := s.now, last := s.now, seq := s.err.seq }
      { s with err := { s.err with slots := Tab.set s.err.slots 0 r, seq := s.err.seq + 1 },
               boot := { s.boot with fatal := none } }
    else { s with boot := { s.boot with fatal := none } }
  | none => s

/-- CLASP_BOOT (R415 step 3): the Clasp runs; the repair map is loaded at cold start, the retired-page lists are loaded, and ALIVE toggles. -/
def claspBoot (s : State) : State :=
  if s.boot.phase ≠ .ready 3 ∨ s.pins.resetN = false then s
  else
    let s := if s.boot.warm then s else s.loadRepairMap
    let s := s.loadRetired.fatalSlot
    { s with pins := { s.pins with aliveToggling := !s.ff.restarting }, boot := { s.boot with claspUp := true, phase := .ready 4 } }

def execClaspBoot (s : State) : Result := .next (claspBoot s)

/-! ### REFCLK and PLL loss (R36) -/

/-- REFCLK lost (R36, R402): every domain except STBY is held in reset, undrained, and the Firefly logs it. -/
def State.refclkGone (s : State) : State :=
  let s := (s.holdDomains .refclkLost).ffLog 4 0 0
  { s with pins := { s.pins with refclk := false }, boot := { s.boot with pllLocked := false } }

/-- Whether the domains beyond STBY run or start up. -/
def State.clocked (s : State) : Bool :=
  match s.boot.phase with
  | .ready _ | .noBinding | .running | .draining => true
  | .off | .standby | .refclkLost | .powerFail | .flushed | .tripped => false

/-- REFCLK_LOST (R36). -/
def execRefclkLost (s : State) : Result := .next (if s.clocked then s.refclkGone else s)

/-- REFCLK_RESTORED (R36, R38): after 1 ms of REFCLK a warm reset begins, with package time restarted at 0. -/
def refclkRestored (s : State) : State :=
  if s.boot.phase = .refclkLost then
    let s := { s with pins := { s.pins with refclk := true }, time := { Time.reset with cycle := s.time.cycle, restarted := true },
                      boot := { s.boot with pllLocked := true } }
    s.startWarm .refclk
  else s

def execRefclkRestored (s : State) : Result := .next (refclkRestored s)

/-! ### Thermal trip (R401) -/

/-- THERMAL_TRIP (R401): domains are held in reset without a flush; FF_ALERT.THERMAL and the Firefly log record it. -/
def execThermalTrip (s : State) : Result :=
  .next (if s.clocked then ((s.holdDomains .tripped).alert 3).ffLog 6 0 0 else s)

/-- THERMAL_RECOVERY (R401): every sensor below 90 °C for 100 ms starts a warm reset. -/
def execThermalRecovery (s : State) : Result := .next (if s.boot.phase = .tripped then s.startWarm .thermal else s)

end Sys2Proof.Machine
end

