-- ==== Sys2Proof/Machine/Persist.lean ====
section
/-! DEFINITION. The flush records of PERSIST windows (R264, R265): their layout, arming a window, and committing a flush. -/

namespace Sys2Proof.Machine

/-- A flush record (R264). -/
structure FlushRec where
  state : Nat
  trigger : Nat
  seq : Nat
  generation : Nat
  time : Nat
  qid : Nat
  index : Nat
deriving DecidableEq, Repr

/-- The 64 bytes of a record. -/
def FlushRec.bytes (r : FlushRec) : List Byte :=
  let body := [0x56, 0x58, 0x50, 0x46] ++ toLE 1 r.state ++ toLE 1 r.trigger ++ toLE 2 0 ++ toLE 8 r.seq ++ toLE 8 r.generation
    ++ toLE 8 r.time ++ toLE 1 r.qid ++ toLE 1 r.index ++ toLE 26 0
  body ++ toLE 4 (crc32c body)

/-- Whether 64 bytes hold a record: MAGIC and RECORD_CRC (R265). -/
def recordValid (bs : List Byte) : Bool :=
  bs.take 4 == [0x56, 0x58, 0x50, 0x46] && numAt bs 60 4 == crc32c (bytesAt bs 0 60)

/-- Bytes of a record page written in memory, which is no longer poisoned. -/
def MemSys.writeRecord (m : MemSys) (a : Nat) (bs : List Byte) : MemSys := (m.write a bs).setPoison (a / 64) 0

/-- Bytes of a record page written like any other line (R264): no core or slice keeps an old copy, all of which are clean (R263). -/
def State.putRecord (s : State) (a : Nat) (bs : List Byte) : State :=
  let l := a / 64
  { s with
    harts := s.harts.mapAll (fun _ x => x.dropCopies l),
    slices := s.slices.mapAll (fun _ t => { t with lines := t.lines.filter (fun e => e.2.line != l), dir := t.dir.filter (fun e => e.2.line != l) }),
    mem := s.mem.writeRecord a bs }

/-- A PFLUSH record of a window: its QID and INDEX (R265, R339; log 29). -/
def State.windowRecord (s : State) (y : Syndrome) (w : MemWin) : ErrRec :=
  y.record (s.controllerNode w.base) 0x18 (w.qid * 32 + w.index) w.qid

/-- An ARMED record. -/
def State.armedRec (s : State) (w : MemWin) (seq : Nat) : FlushRec :=
  { state := 1, trigger := 0, seq := seq, generation := s.bind.generation, time := 0, qid := w.qid, index := w.index }

/-- A PERSIST window armed (R265): the current record is kept at offset 64, and one with the next SEQ is written; a record that was still ARMED is logged. -/
def State.armWindow (s : State) (w : MemWin) : State :=
  let a := w.recordPage
  let old := s.mem.read a 64
  let ok := recordValid old
  let seq := if ok then numAt old 8 8 + 1 else 1
  let s := (s.putRecord (a + 64) (if ok then old else List.replicate 64 0)).putRecord a (s.armedRec w seq).bytes
  if ok && numAt old 4 1 == 1 then s.log (s.windowRecord Syn.pflushIncomplete w) else s

/-- A PERSIST window in DDR armed after PK4 lost its contents (R265). -/
def State.armLost (s : State) (w : MemWin) : State :=
  let a := w.recordPage
  ((s.putRecord (a + 64) (List.replicate 64 0)).putRecord a (s.armedRec w 1).bytes).log (s.windowRecord Syn.pflushLost w)

/-- The row of R389 that names a wake source. -/
def srcRow (src : PkSrc) : Nat :=
  match src with
  | .core => 1
  | .wakeTime => 2
  | .firefly => 3
  | .systemLink => 4
  | .pcie => 5
  | .tsn => 6
  | .smbus => 7

/-- A wake has completed (R389, R394, R402): PK_WOKEN with the source's row, and the Firefly log. -/
def State.pkWoken (s : State) (src : PkSrc) : State :=
  (s.log ((Syn.pkWoken.record govNode 0x1A 0 0).withInfo 0 1 (srcRow src))).ffLog 2 0 0

/-- The PERSIST windows of the effective Binding. -/
def Binding.persistWindows (b : Binding) : List MemWin := b.windows.filter (fun w => w.has 7)

/-- Every PERSIST window armed at boot or on a wake (R265); `lost`: DDR contents went with PK4. -/
def State.armAll (s : State) (lost : Bool) : State :=
  s.bind.persistWindows.foldl (fun s w => if lost && decide (rangeOf w.base = .ddr) then s.armLost w else s.armWindow w) s

/-- A window's CLEAN record (R264, R266): the record at offset 0 with the trigger and its time. -/
def State.commitWindow (s : State) (w : MemWin) : State :=
  let a := w.recordPage
  let old := s.mem.read a 64
  let r : FlushRec :=
    { state := 2, trigger := s.boot.flushTrigger, seq := numAt old 8 8, generation := s.bind.generation,
      time := s.boot.flushTime, qid := w.qid, index := w.index }
  s.putRecord a r.bytes

/-- The windows that a hand-over moves now (R266). -/
def State.movingWindows (s : State) : List (Nat × Nat) :=
  match s.clasp.work with
  | some (.move _ d _) => d.windows.map (fun (w : MemWin) => (w.qid, w.index))
  | _ => []

/-- The CLEAN records of a flush (R266): not for a window whose lines did not all drain, nor for one that a hand-over was moving at the trigger. -/
def State.commitFlush (s : State) (failed : List (Nat × Nat)) : State :=
  (s.bind.persistWindows.filter (fun w => !failed.contains (w.qid, w.index) && !s.boot.flushMoving.contains (w.qid, w.index))).foldl
    State.commitWindow s

/-- Every dirty L3 line written to memory (R386). -/
def State.writeBackL3 (s : State) : State :=
  s.slices.foldl (fun s e => (e.2.lines.filter (fun l => l.2.valid && l.2.dirty)).foldl (fun s l => s.queueWrite l.2.line l.2.data l.2.poison) s) s

/-- The flush rows of R266 from 20 µs to 350 µs at the entry into PKk (R267, R386): from PK3 on the L3 is written back first; a window whose lines did not all drain keeps its ARMED record. -/
def State.sleepFlush (s : State) (k : Nat) (failed : List (Nat × Nat)) : State :=
  let s := if 3 ≤ k then s.writeBackL3 else s
  let s : State := { s with mem := s.mem.drain }
  s.commitFlush failed

end Sys2Proof.Machine
end

