-- ==== Sys2Proof/Machine/BindImage.lean ====
section
/-! DEFINITION. The Binding image (R42 to R66): its header, section table and records, the field limits of step 7 of R67, and how a delta changes the effective Binding (R430). -/

namespace Sys2Proof.Machine

/-! ### Header and section table (R43 to R47) -/

def imgLength (img : List Byte) : Nat := numAt img 8 4
def imgCount (img : List Byte) : Nat := numAt img 12 2
def imgFlags (img : List Byte) : Nat := numAt img 14 2
def imgGeneration (img : List Byte) : Nat := numAt img 16 8
def imgTarget (img : List Byte) : Nat := numAt img 24 4
def imgSigOffset (img : List Byte) : Nat := numAt img 36 4
def imgSerial (img : List Byte) : Nat := numAt img 40 8
def imgBase (img : List Byte) : Nat := numAt img 48 8
def imgIsDelta (img : List Byte) : Bool := bitOf (imgFlags img) 1

/-- Step 1 of R67, but for the kind of image. -/
def headerOk (img : List Byte) : Bool :=
  let flags := imgFlags img
  let delta := bitOf flags 1
  img.take 4 == [0x56, 0x58, 0x42, 0x44] && numAt img 4 2 == 1 && numAt img 6 2 == 64
    && decide (imgLength img ≤ 16777216) && imgLength img == img.length
    && multipleOf (imgSigOffset img) 64 && imgSigOffset img + 7440 == imgLength img && numAt img 32 4 == 64
    && decide (1 ≤ imgCount img ∧ imgCount img ≤ 64) && decide (1 ≤ imgGeneration img)
    && decide (1 ≤ imgTarget img ∧ imgTarget img < 8) && decide (flags < 8) && (!bitOf flags 2 || delta)
    && (if delta then decide (1 ≤ imgBase img) else imgBase img == 0)
    && zeroAt img 28 4 && zeroAt img 56 8

/-- A section table entry (R44). -/
structure Sec where
  ty : Nat
  version : Nat
  off : Nat
  len : Nat
  rsv : Nat
deriving DecidableEq, Repr

def secAt (img : List Byte) (i : Nat) : Sec :=
  let o := 64 + 16 * i
  { ty := numAt img o 2, version := numAt img (o + 2) 2, off := numAt img (o + 4) 4, len := numAt img (o + 8) 4, rsv := numAt img (o + 12) 4 }

def secTable (img : List Byte) : List Sec := (List.range (imgCount img)).map (secAt img)

/-- The record size of a section type (R49); none for a type that R49 does not list. -/
def recSize (ty : Nat) : Option Nat :=
  match ty with
  | 0x01 | 0x10 => some 64
  | 0x02 | 0x05 | 0x0C | 0x0D => some 8
  | 0x03 | 0x07 | 0x08 | 0x09 | 0x0A | 0x0E | 0x0F => some 16
  | 0x04 => some 48
  | 0x06 | 0x0B => some 1
  | _ => none

/-- Whether a body is a whole number of its type's records, with its sub-header (R44, R56, R61). -/
def bodyShape (img : List Byte) (e : Sec) : Bool :=
  match e.ty with
  | 0x06 => decide (16 ≤ e.len) && e.len == 16 + 32 * numAt img e.off 2 + 8 * numAt img (e.off + 4) 4
  | 0x0B => decide (16 ≤ e.len) && e.len == 16 + 8 * numAt img (e.off + 2) 2 + 16 * numAt img (e.off + 4) 2
  | _ => match recSize e.ty with
    | some n => multipleOf e.len n
    | none => true

/-- Whether types ascend, none twice (R44). -/
def ascending (l : List Nat) : Bool :=
  match l with
  | a :: b :: rest => decide (a < b) && ascending (b :: rest)
  | _ => true

/-- Whether bodies in rising order lie within an interval without overlap, with zeros between them (R44, R46). -/
def bodiesFit (img : List Byte) (lo hi : Nat) (l : List Sec) : Bool :=
  match l with
  | [] => decide (lo ≤ hi) && zeroAt img lo (hi - lo)
  | e :: rest => decide (lo ≤ e.off) && decide (e.off + e.len ≤ hi) && zeroAt img lo (e.off - lo) && bodiesFit img (e.off + e.len) hi rest

/-- Step 5 of R67: the section table and the padding (R44 to R46). -/
def tableOk (img : List Byte) : Bool :=
  let es := secTable img
  let bodies := sortBy (fun a b => decide (a.off ≤ b.off)) (es.filter (fun e => e.len != 0))
  ascending (es.map (·.ty))
    && es.all (fun e => e.version == 1 && e.rsv == 0 && multipleOf e.off 64 && ((recSize e.ty).isSome || decide (0x8000 ≤ e.ty)))
    && bodies.all (bodyShape img) && bodiesFit img (64 + 16 * imgCount img) (imgSigOffset img) bodies
    && zeroAt img (imgSigOffset img + 7219) 13 && zeroAt img (imgSigOffset img + 7329) 15

/-- The section types that an image carries: those whose LENGTH is not 0 (R45). -/
def presentTypes (img : List Byte) : List Nat := ((secTable img).filter (fun e => e.len != 0)).map (·.ty)

/-- Step 6 of R67 for a full Binding: the required sections (R49). -/
def requiredTypes : List Nat := [0x01, 0x02, 0x04, 0x0D, 0x0E]

/-- The section types that a delta may not carry (R49). -/
def barredTypes : List Nat := [0x01, 0x0B, 0x0D, 0x0E, 0x10]

/-- The body of a section; none of its bytes where it is absent. -/
def bodyOf (img : List Byte) (ty : Nat) : List Byte :=
  match (secTable img).find? (fun e => e.ty == ty) with
  | some e => bytesAt img e.off e.len
  | none => []

/-- Bytes cut into records of n bytes. -/
def recordsOf (n : Nat) (bs : List Byte) : List (List Byte) := (List.range (bs.length / n)).map (fun i => bytesAt bs (i * n) n)

def secRecords (img : List Byte) (ty : Nat) : List (List Byte) :=
  match recSize ty with
  | some n => recordsOf n (bodyOf img ty)
  | none => []

/-! ### Records (R50 to R66) -/

def readQuire (r : List Byte) : Quire :=
  let f := numAt r 1 1
  { qid := numAt r 0 1, dualWorld := bitOf f 0, initialSecure := bitOf f 1, userCounters := bitOf f 2, checkPriv := bitOf f 3,
    bootHart := numAt r 2 2, notifyHart := numAt r 4 2, notifyId := numAt r 6 2, resetVector := numAt r 8 8,
    handoverUs := numAt r 16 4, name := bytesAt r 32 32 }

/-- NAME: printable bytes, then zeros to the end (R50). -/
def nameOk (bs : List Byte) : Bool :=
  match bs with
  | [] => true
  | b :: rest => if b = 0 then allZero rest else decide (0x20 ≤ b.toNat ∧ b.toNat ≤ 0x7E) && nameOk rest

def quireOk (r : List Byte) : Bool :=
  let q := readQuire r
  decide (1 ≤ q.qid) && decide (numAt r 1 1 < 16) && decide (1 ≤ q.notifyId ∧ q.notifyId ≤ 2047) && multipleOf q.resetVector 4
    && decide (1 ≤ q.handoverUs ∧ q.handoverUs ≤ 1000000) && zeroAt r 20 12 && nameOk q.name

def readCore (r : List Byte) : CoreRec := { hart := numAt r 0 2, qid := numAt r 2 1, pair := bitOf (numAt r 3 1) 0 }

def coreOk (r : List Byte) : Bool :=
  let c := readCore r
  decide (c.hart < hartCount) && decide (numAt r 3 1 < 2) && (!c.pair || c.hart % 2 == 0) && zeroAt r 4 4

def readL3 (r : List Byte) : L3Rec :=
  { slice := numAt r 0 1, qid := numAt r 1 1, wayMask := BitVec.ofNat 16 (numAt r 2 2), lockMask := BitVec.ofNat 16 (numAt r 4 2) }

def l3Ok (r : List Byte) : Bool :=
  let l := readL3 r
  decide (l.slice < 48) && decide (l.lockMask &&& ~~~l.wayMask = 0) && zeroAt r 6 10

def readWindow (r : List Byte) : MemWin :=
  { qid := numAt r 0 1, index := numAt r 1 1, flags := BitVec.ofNat 10 (numAt r 2 2), keySlot := numAt r 4 1,
    shareId := numAt r 6 2, base := numAt r 8 8, size := numAt r 16 8, homeSlices := BitVec.ofNat 48 (numAt r 24 8) }

/-- Whether a range may hold windows (R54). -/
def windowRange (r : Range) : Bool :=
  match r with
  | .hbm | .ddr | .cxl | .mmio32 | .mmio64 => true
  | .reserved | .imsic | .doorbell | .control => false

/-- Whether a delta's record removes its window: every field outside the key is zero (R430). -/
def MemWin.removes (w : MemWin) : Bool :=
  w.flags == 0 && w.keySlot == 0 && w.shareId == 0 && w.base == 0 && w.size == 0 && w.homeSlices == 0

/-- The limits of a MEM_WINDOWS record on its own (R53, R54, R256, R264). -/
def windowOk (delta : Bool) (r : List Byte) : Bool :=
  let w := readWindow r
  let rng := rangeOf w.base
  let grain := if w.has 6 then 65536 else 4096
  let far := decide (rng = .ddr ∨ rng = .cxl)
  decide (w.index < 32) && decide (numAt r 2 2 < 1024) && zeroAt r 5 1 && zeroAt r 30 18
    && ((delta && w.removes) ||
      ((w.has 5 || w.keySlot == 0) && (if w.has 3 then w.shareId != 0 else w.shareId == 0)
        && multipleOf w.base grain && multipleOf w.size grain && w.size != 0
        && windowRange rng && decide (rangeOf (w.base + w.size - 1) = rng)
        && (w.homeSlices == 0 || far) && (!w.has 7 || far) && (!w.has 6 || w.has 5)
        && (!w.has 7 || w.has 6 || decide (8192 ≤ w.size))))

def readHold (r : List Byte) : HoldSeed := { qid := numAt r 0 1, hold := numAt r 1 1, seed := BitVec.ofNat 32 (numAt r 4 4) }

def HoldSeed.removes (r : HoldSeed) : Bool := r.hold == 0 && r.seed == 0

def holdOk (delta : Bool) (r : List Byte) : Bool :=
  let t := readHold r
  zeroAt r 2 2 && ((delta && t.removes) || t.seed != 0)

def readStream (r : List Byte) : GStream :=
  { stream := numAt r 0 2, rate := numAt r 2 1, secure := bitOf (numAt r 3 1) 0, srcQid := numAt r 4 1, dstQid := numAt r 5 1,
    srcCore := numAt r 6 1, dstCore := numAt r 7 1, srcNode := numAt r 8 2, dstNode := numAt r 10 2, routeId := numAt r 12 2,
    boundPs := numAt r 16 4 }

/-- SRC_CORE, and a cluster's DST_CORE: a core index for a cluster, 0xFF else (R56); the destination of a return stream from a slice is a cluster too. -/
def coreField (node core : Nat) : Bool := if isClusterNode node then decide (core < 8) else core == 0xFF

def streamOk (r : List Byte) : Bool :=
  let g := readStream r
  decide (g.stream < 1024) && decide (1 ≤ g.rate ∧ g.rate ≤ 4) && decide (numAt r 3 1 < 2) && decide (g.srcNode < 0x2000)
    && decide (g.dstNode < 0x2000) && coreField g.srcNode g.srcCore && coreField g.dstNode g.dstCore && zeroAt r 14 2 && zeroAt r 20 12

def readSlot (r : List Byte) : SlotEntry :=
  { node := numAt r 0 2, switch := numAt r 2 1 == 1, slot := numAt r 3 1, input := numAt r 4 1, output := numAt r 5 1, stream := numAt r 6 2 }

def slotOk (r : List Byte) : Bool :=
  let e := readSlot r
  let ports := if e.switch then 19 else 8
  decide (numAt r 2 1 < 2) && decide (e.slot < 20) && decide (e.input < ports) && decide (e.output < ports) && decide (e.stream < 1024)
    && (if e.switch then e.node == 0 else decide (e.node < 0x2000) && nodeE e.node == 0)

/-- The stream records and the slot entries of a G_STREAMS body (R56). -/
def streamPart (body : List Byte) : List (List Byte) := recordsOf 32 (bytesAt body 16 (32 * numAt body 0 2))
def slotPart (body : List Byte) : List (List Byte) := recordsOf 8 (bytesAt body (16 + 32 * numAt body 0 2) (8 * numAt body 4 4))

def gStreamsOk (body : List Byte) : Bool :=
  body.isEmpty || (decide (1 ≤ numAt body 0 2 ∧ numAt body 0 2 ≤ 1024) && zeroAt body 2 2 && zeroAt body 8 8
    && (streamPart body).all streamOk && (slotPart body).all slotOk)

def readRoute (r : List Byte) : RouteRec :=
  { routeId := numAt r 0 2, srcDie := numAt r 2 1, dstDie := numAt r 3 1, srcVport := numAt r 4 1, srcUcie := numAt r 5 1,
    dstUcie := numAt r 6 1, dstVport := numAt r 7 1 }

/-- A ROUTES record on its own (R57), and the shape of an override (R200). -/
def routeOk (r : List Byte) : Bool :=
  let t := readRoute r
  let field := fun (v : Nat) => decide (v < 4) || v == 0xFF
  let base := fun (d : Nat) => decide (16 ≤ d ∧ d < 20)
  field t.srcVport && field t.srcUcie && field t.dstUcie && field t.dstVport && zeroAt r 8 8
    && (decide (t.routeId < 0x8000)
      || (base t.srcDie && base t.dstDie && t.srcDie != t.dstDie && decide (t.srcUcie < 4) && decide (t.dstUcie < 4)
          && t.srcVport == 0xFF && t.dstVport == 0xFF))

def readQueue (r : List Byte) : QueueRec :=
  { kind := numAt r 0 1, qid := numAt r 1 1, secure := bitOf (numAt r 2 1) 0, function := numAt r 3 1, first := numAt r 4 4, count := numAt r 8 4 }

def queueOk (r : List Byte) : Bool :=
  let q := readQueue r
  decide (numAt r 2 1 < 2) && decide (1 ≤ q.count) && zeroAt r 12 4
    && (if q.kind = 1 then q.function == 0 && multipleOf q.first 64 && multipleOf q.count 64 && decide (q.first + q.count ≤ queueCount)
        else q.kind == 2 && decide (q.function ≤ 4) && decide (q.first + q.count ≤ 8192))

def readIntr (r : List Byte) : IntrRec :=
  { qid := numAt r 0 1, secure := bitOf (numAt r 1 1) 0, hart := numAt r 2 2, file := numAt r 4 1, firstId := numAt r 6 2, count := numAt r 8 2 }

def intrOk (r : List Byte) : Bool :=
  let t := readIntr r
  decide (numAt r 1 1 < 2) && decide (t.hart < hartCount) && decide (t.file ≤ 8) && zeroAt r 5 1 && decide (1 ≤ t.count)
    && decide (1 ≤ t.firstId) && decide (t.firstId + t.count ≤ 2048) && zeroAt r 10 6

def readFunction (r : List Byte) : DevFn :=
  { group := numAt r 0 1, qid := numAt r 1 1, bdf := numAt r 2 2, secure := bitOf (numAt r 4 2) 0, hotplugCtl := bitOf (numAt r 4 2) 1 }

def functionOk (r : List Byte) : Bool := decide (numAt r 0 1 < 8) && decide (numAt r 4 2 < 4) && zeroAt r 6 10

def readSlRoute (r : List Byte) : SlRoute := { dest := numAt r 0 2, port := numAt r 2 1, altPort := numAt r 3 1 }
def readPartner (r : List Byte) : PartnerRec := { kind := numAt r 0 1, action := numAt r 1 1, partner := numAt r 2 2, notifyQid := numAt r 4 1 }

def slRoutePart (body : List Byte) : List (List Byte) := recordsOf 8 (bytesAt body 16 (8 * numAt body 2 2))
def partnerPart (body : List Byte) : List (List Byte) := recordsOf 16 (bytesAt body (16 + 8 * numAt body 2 2) (16 * numAt body 4 2))

def readSysLink (body : List Byte) : Option SysLinkSec :=
  if body.isEmpty then none
  else some { packageId := numAt body 0 2, portMask := BitVec.ofNat 8 (numAt body 6 1), routes := (slRoutePart body).map readSlRoute,
              partners := (partnerPart body).map readPartner }

def sysLinkOk (body : List Byte) : Bool :=
  body.isEmpty || (decide (numAt body 0 2 < 4096) && zeroAt body 7 9 && (slRoutePart body).all (fun r => zeroAt r 4 4)
    && (partnerPart body).all (fun r => decide (numAt r 0 1 ≤ 3) && decide (numAt r 1 1 ≤ 3) && zeroAt r 5 11))

def readCheck (r : List Byte) : CheckRec := { unit := numAt r 0 1, qid := numAt r 1 1, poly := numAt r 2 1, aliveBits := numAt r 3 1 }

def checkOk (r : List Byte) : Bool :=
  let t := readCheck r
  decide (t.unit < 32) && [0, 4, 8].contains t.aliveBits && zeroAt r 4 4
    && (if t.unit < 16 then t.qid == 0 && decide (t.poly ≤ 3) else t.poly == 0xFF)

def readDebug (r : List Byte) : DebugRec := { qid := numAt r 0 1, bits := BitVec.ofNat 4 (numAt r 1 1) }
def debugOk (r : List Byte) : Bool := decide (numAt r 1 1 < 16) && zeroAt r 2 6

def readDeadline (r : List Byte) : DeadlineRec :=
  { qid := numAt r 0 1, supervisor := numAt r 1 1, excOnMiss := bitOf (numAt r 2 2) 0, msiOnMiss := bitOf (numAt r 2 2) 1,
    msiHart := numAt r 4 2, msiId := numAt r 6 2, toGUs := numAt r 8 2, toUUs := numAt r 10 2, toBUs := numAt r 12 2 }

def deadlineOk (r : List Byte) : Bool :=
  let d := readDeadline r
  if d.qid = 0 then zeroAt r 2 6 && decide (1 ≤ d.toGUs) && decide (1 ≤ d.toUUs) && decide (1 ≤ d.toBUs) && zeroAt r 14 2
  else decide (numAt r 2 2 < 4) && zeroAt r 8 8

def readGov (r : List Byte) : GovRec :=
  let f := numAt r 1 1
  { qid := numAt r 0 1, fixedP := bitOf f 0, adaptPrefetch := bitOf f 1, adaptL3 := bitOf f 2, pFast := numAt r 2 1, pSlow := numAt r 3 1,
    initialP := numAt r 4 1, slackNs := numAt r 8 4 }

def readGovPkg (r : List Byte) : GovPkg :=
  let f := numAt r 1 1
  { adaptShare := bitOf f 0, adaptRefresh := bitOf f 1, allowBoost := bitOf f 2, bShareMin := numAt r 2 1, bShareMax := numAt r 3 1,
    lendMax := numAt r 4 1, tjTargetC := numAt r 5 1, powerLimitW := numAt r 6 2 }

/-- A GOVERNOR_POLICY record on its own (R65, R383, R396). -/
def govOk (f : Fuse) (delta : Bool) (r : List Byte) : Bool :=
  let removal := delta && zeroAt r 1 15
  if numAt r 0 1 = 0 then
    let p := readGovPkg r
    removal || (decide (numAt r 1 1 < 8) && decide (p.bShareMin ≤ p.bShareMax ∧ p.bShareMax ≤ 16) && decide (p.lendMax ≤ 16)
      && decide (50 ≤ p.tjTargetC ∧ p.tjTargetC ≤ 100) && decide (100 ≤ p.powerLimitW ∧ p.powerLimitW ≤ f.tdp) && zeroAt r 8 8)
  else
    let p := readGov r
    removal || (decide (numAt r 1 1 < 8) && decide (p.pFast ≤ p.initialP ∧ p.initialP ≤ p.pSlow ∧ p.pSlow ≤ 15)
      && zeroAt r 5 3 && zeroAt r 12 4 && (!p.fixedP || decide (4 ≤ p.initialP)))

def readAllow (r : List Byte) : AllowRec := { site := numAt r 0 1, digest := bytesAt r 16 48 }
def allowOk (r : List Byte) : Bool := decide (numAt r 0 1 < 2) && zeroAt r 1 15

/-- The delta key of a record (R49), or the fields that name it in a section that no delta carries; none where a type has several records alike. -/
def recKey (ty : Nat) (r : List Byte) : Option (List Byte) :=
  match ty with
  | 0x01 | 0x05 | 0x0C | 0x0D | 0x0E | 0x0F => some (bytesAt r 0 1)
  | 0x02 | 0x03 | 0x04 | 0x07 => some (bytesAt r 0 2)
  | 0x08 => some (bytesAt r 0 1 ++ bytesAt r 4 4)
  | 0x09 => some (bytesAt r 2 3 ++ bytesAt r 6 2)
  | 0x0A => some (bytesAt r 0 1 ++ bytesAt r 2 2)
  | _ => none

/-- Whether a list of keys names each at most once. -/
def keysDiffer (l : List (List Byte)) : Bool :=
  match l with
  | [] => true
  | a :: rest => !rest.contains a && keysDiffer rest

/-- Whether no section of an image has two records with the same key: two of them contradict each other (step 8 of R67; DESIGN CHOICE, log 59). -/
def imageKeysOk (img : List Byte) : Bool := (List.range 17).all (fun ty => keysDiffer ((secRecords img ty).filterMap (recKey ty)))

/-- Step 7 of R67: every record of an image within its own limits. -/
def fieldsOk (f : Fuse) (img : List Byte) : Bool :=
  let delta := imgIsDelta img
  let all := fun (ty : Nat) (p : List Byte → Bool) => (secRecords img ty).all p
  all 0x01 quireOk && all 0x02 coreOk && all 0x03 l3Ok && all 0x04 (windowOk delta) && all 0x05 (holdOk delta)
    && gStreamsOk (bodyOf img 0x06) && all 0x07 routeOk && all 0x08 queueOk && all 0x09 intrOk && all 0x0A functionOk
    && sysLinkOk (bodyOf img 0x0B) && all 0x0C checkOk && all 0x0D debugOk && all 0x0E deadlineOk && all 0x0F (govOk f delta)
    && all 0x10 allowOk

/-- An image as a Binding. -/
def parseBinding (img : List Byte) : Binding :=
  let flags := imgFlags img
  let g := bodyOf img 0x06
  let gov := secRecords img 0x0F
  { generation := imgGeneration img, raiseFloor := bitOf flags 0, delta := bitOf flags 1, force := bitOf flags 2,
    target := BitVec.ofNat 3 (imgTarget img), unitSerial := imgSerial img, baseGeneration := imgBase img,
    present := presentTypes img, quires := (secRecords img 0x01).map readQuire, cores := (secRecords img 0x02).map readCore,
    l3Ways := (secRecords img 0x03).map readL3, windows := (secRecords img 0x04).map readWindow,
    holdSeeds := (secRecords img 0x05).map readHold, streams := (streamPart g).map readStream, slots := (slotPart g).map readSlot,
    routes := (secRecords img 0x07).map readRoute, queues := (secRecords img 0x08).map readQueue,
    intrs := (secRecords img 0x09).map readIntr, functions := (secRecords img 0x0A).map readFunction,
    sysLink := readSysLink (bodyOf img 0x0B), checks := (secRecords img 0x0C).map readCheck,
    debugs := (secRecords img 0x0D).map readDebug, deadlines := (secRecords img 0x0E).map readDeadline,
    govs := (gov.filter (fun r => numAt r 0 1 != 0)).map readGov,
    govPkg := (gov.find? (fun r => numAt r 0 1 == 0)).map readGovPkg, allow := (secRecords img 0x10).map readAllow }

/-! ### Deltas (R430) -/

def L3Rec.removes (r : L3Rec) : Bool := r.wayMask == 0 && r.lockMask == 0
def GovRec.removes (r : GovRec) : Bool :=
  !r.fixedP && !r.adaptPrefetch && !r.adaptL3 && r.pFast == 0 && r.pSlow == 0 && r.initialP == 0 && r.slackNs == 0
def GovPkg.removes (r : GovPkg) : Bool :=
  !r.adaptShare && !r.adaptRefresh && !r.allowBoost && r.bShareMin == 0 && r.bShareMax == 0 && r.lendMax == 0 && r.tjTargetC == 0
    && r.powerLimitW == 0

/-- Records of a section with those of a delta in their place, by key; a record that frees or removes leaves none (R430). -/
def mergeBy {α : Type} (same : α → α → Bool) (gone : α → Bool) (old new : List α) : List α :=
  new.foldl (fun acc r =>
    if gone r then acc.filter (fun x => !same x r)
    else if acc.any (fun x => same x r) then acc.map (fun x => if same x r then r else x)
    else acc ++ [r]) old

/-- The effective Binding that a delta gives (R430). -/
def Binding.merge (b d : Binding) : Binding :=
  let g := d.present.contains 0x06
  { b with
    generation := d.generation,
    present := distinct (b.present ++ d.present),
    cores := mergeBy (fun x y => x.hart == y.hart) (fun r => r.qid == 0) b.cores d.cores,
    l3Ways := mergeBy (fun x y => x.slice == y.slice && x.qid == y.qid) L3Rec.removes b.l3Ways d.l3Ways,
    windows := mergeBy (fun x y => x.qid == y.qid && x.index == y.index) MemWin.removes b.windows d.windows,
    holdSeeds := mergeBy (fun x y => x.qid == y.qid) HoldSeed.removes b.holdSeeds d.holdSeeds,
    streams := if g then d.streams else b.streams,
    slots := if g then d.slots else b.slots,
    routes := mergeBy (fun x y => x.routeId == y.routeId) (fun _ => false) b.routes d.routes,
    queues := mergeBy (fun x y => x.kind == y.kind && x.first == y.first) (fun r => r.qid == 0) b.queues d.queues,
    intrs := mergeBy (fun x y => x.hart == y.hart && x.file == y.file && x.firstId == y.firstId) (fun r => r.qid == 0) b.intrs d.intrs,
    functions := mergeBy (fun x y => x.group == y.group && x.bdf == y.bdf) (fun r => r.qid == 0) b.functions d.functions,
    checks := mergeBy (fun x y => x.unit == y.unit) (fun r => decide (16 ≤ r.unit) && r.qid == 0) b.checks d.checks,
    govs := mergeBy (fun x y => x.qid == y.qid) GovRec.removes b.govs d.govs,
    govPkg := match d.govPkg with
      | some p => if p.removes then none else some p
      | none => b.govPkg }

/-- Whether every removal record of a delta names a record of the effective Binding (R430). -/
def Binding.removalsMatch (b d : Binding) : Bool :=
  d.l3Ways.all (fun r => !r.removes || b.l3Ways.any (fun x => x.slice == r.slice && x.qid == r.qid))
    && d.windows.all (fun r => !r.removes || b.windows.any (fun x => x.qid == r.qid && x.index == r.index))
    && d.holdSeeds.all (fun r => !r.removes || b.holdSeeds.any (fun x => x.qid == r.qid))
    && d.govs.all (fun r => !r.removes || b.govs.any (fun x => x.qid == r.qid))
    && (match d.govPkg with | some p => !p.removes || b.govPkg.isSome | none => true)

end Sys2Proof.Machine
end

