-- ==== Sys2Proof/Machine/BindVerify.lean ====
section
/-! DEFINITION. Verification of a Binding (R67): the conditions between records (step 8), fused-off resources (step 9), and the ten steps in their order. -/

namespace Sys2Proof.Machine

/-! ### Step 8: conditions between records -/

/-- Whether no two elements of a list meet a relation. -/
def noPair {α : Type} (l : List α) (bad : α → α → Bool) : Bool :=
  match l with
  | [] => true
  | a :: rest => rest.all (fun b => !bad a b) && noPair rest bad

/-- Whether a QID is a Quire of the Binding. -/
def Binding.hasQuire (b : Binding) (q : Nat) : Bool := b.quires.any (fun r => r.qid == q)

/-- Whether a field names a Quire of the Binding, or none. -/
def Binding.quireOrNone (b : Binding) (q : Nat) : Bool := q == 0 || b.hasQuire q

/-- The QID a hart carries under a Binding (R51). -/
def Binding.hartQid (b : Binding) (h : Nat) : Nat := ((b.coreRec h).map (·.qid)).getD 0

/-- Harts of Quires (R50, R51): each assigned once, and every Quire with its boot and notify hart and its RESET_VECTOR in an X window. -/
def Binding.coresFit (b : Binding) : Bool :=
  noPair b.cores (fun x y => x.hart == y.hart || (x.pair && y.hart == x.hart + 1) || (y.pair && x.hart == y.hart + 1))
    && b.cores.all (fun c => b.quireOrNone c.qid)
    && noPair b.quires (fun x y => x.qid == y.qid)
    && b.quires.all (fun q =>
      b.hartQid q.bootHart == q.qid && b.hartQid q.notifyHart == q.qid
        && (match b.coreRec q.bootHart with | some c => !c.pair || q.bootHart % 2 == 0 | none => false)
        && b.windows.any (fun w => w.qid == q.qid && w.has 2 && w.covers q.resetVector 4))

/-- L3 ways (R52): no bit of a slice in two masks. -/
def Binding.l3Fit (b : Binding) : Bool :=
  b.l3Ways.all (fun r => b.quireOrNone r.qid)
    && noPair b.l3Ways (fun x y => x.slice == y.slice && (x.qid == y.qid || decide (x.wayMask &&& y.wayMask ≠ 0)))

/-- Whether two windows overlap. -/
def MemWin.overlaps (x y : MemWin) : Bool := decide (x.base < y.base + y.size) && decide (y.base < x.base + x.size)

/-- Whether two windows share memory as R54 and R251 allow. -/
def MemWin.shares (x y : MemWin) : Bool :=
  x.has 3 && y.has 3 && x.shareId == y.shareId && x.base == y.base && x.size == y.size && x.keySlot == y.keySlot
    && decide (x.flags / 8 = y.flags / 8) && x.homeSlices == y.homeSlices

/-- Memory windows (R53, R54, R251). -/
def Binding.windowsFit (b : Binding) : Bool :=
  b.windows.all (fun w => b.quireOrNone w.qid && (!w.secure || b.dualWorld w.qid || b.secureOnly w.qid))
    && noPair b.windows (fun x y =>
      (x.qid == y.qid && x.index == y.index) || (x.overlaps y && !x.shares y)
        || (x.qid != y.qid && x.has 5 && y.has 5 && x.keySlot == y.keySlot && !(x.overlaps y && x.shares y)))

/-- The home slices of a window's lines in a memory range (R250): every slice of its BD, or the slices that the lines of its first pages reach. -/
def MemWin.homes (w : MemWin) : List Nat :=
  if rangeOf w.base = .hbm then (List.range 12).map (fun i => 12 * hbmBd w.base + i)
  else
    let halves := distinct ((List.range (min 3 (w.size / 4096))).map (fun i => parityClass (w.base / 64 + 64 * i) 6))
    let us := halves.flatMap (fun p => (List.range 24).map (fun i => 24 * p + i))
    let ss := maskBits 48 w.homeSlices.toNat
    if ss.isEmpty then us else distinct (us.map (fun u => ss.getD (u % ss.length) 0))

/-- Directory ways for every window (R169): of its Quire, or else a common pool that is not empty. -/
def Binding.directoriesFit (b : Binding) : Bool :=
  b.l3Ways.isEmpty || b.windows.all (fun w =>
    w.qid == 0 || !(rangeOf w.base).isMemory || w.homes.all (fun n =>
      b.l3Ways.any (fun r => r.slice == n && r.qid == w.qid && r.wayMask != 0)
        || decide (((b.l3Ways.filter (fun r => r.slice == n && r.qid != 0)).foldl (fun m r => m ||| r.wayMask) 0) ≠ 0xFFFF#16)))

/-- The hart of a stream's endpoint, if it is a cluster. -/
def endHart (node core : Nat) : Option Nat := if isClusterNode node ∧ core < 8 then some (hartAt node core) else none

/-- Streams and routes (R56, R57, R200): an endpoint's core belongs to the Quire that the record names. -/
def Binding.streamsFit (b : Binding) : Bool :=
  let end_ := fun (node core q : Nat) => match endHart node core with
    | some h => b.hartQid h == q
    | none => true
  noPair b.streams (fun x y => x.stream == y.stream)
    && b.streams.all (fun g => b.quireOrNone g.srcQid && b.quireOrNone g.dstQid
      && end_ g.srcNode g.srcCore g.srcQid && end_ g.dstNode g.dstCore g.dstQid
      && b.routes.any (fun r => r.routeId == g.routeId))
    && noPair b.routes (fun x y => x.routeId == y.routeId
      || (decide (0x8000 ≤ x.routeId) && decide (0x8000 ≤ y.routeId) && x.srcDie == y.srcDie && x.dstDie == y.dstDie))

/-- Queues, identities and functions (R58 to R60), each assigned once. -/
def Binding.ioFit (b : Binding) : Bool :=
  let meet := fun (f n g m : Nat) => decide (f < g + m) && decide (g < f + n)
  b.queues.all (fun r => b.quireOrNone r.qid) && b.intrs.all (fun r => b.quireOrNone r.qid)
    && b.functions.all (fun r => b.quireOrNone r.qid)
    && noPair b.queues (fun x y => x.kind == y.kind && meet x.first x.count y.first y.count)
    && noPair b.intrs (fun x y => x.hart == y.hart && x.file == y.file && meet x.firstId x.count y.firstId y.count)
    && noPair b.functions (fun x y => x.group == y.group && x.bdf == y.bdf)

/-- Policies (R61 to R65, R330, R383). -/
def Binding.policiesFit (b : Binding) : Bool :=
  let partners := match b.sysLink with | some t => t.partners | none => []
  let clusterQuires := fun (c : Nat) => distinct (((List.range 8).map (fun k => b.hartQid (c * 8 + k))).filter (· != 0))
  let fixed := fun (c : Nat) => (clusterQuires c).filterMap (fun q => (b.gov q).bind (fun g => if g.fixedP then some g.initialP else none))
  partners.all (fun p => b.quireOrNone p.notifyQid && (p.action == 0 || p.notifyQid != 0))
    && noPair b.holdSeeds (fun x y => x.qid == y.qid) && b.holdSeeds.all (fun r => b.quireOrNone r.qid)
    && noPair b.checks (fun x y => x.unit == y.unit)
    && b.checks.all (fun r => r.qid == 0 || ((b.quire r.qid).map (·.checkPriv)).getD false)
    && noPair b.debugs (fun x y => x.qid == y.qid) && b.debugs.any (fun r => r.qid == 0) && b.debugs.all (fun r => b.quireOrNone r.qid)
    && noPair b.deadlines (fun x y => x.qid == y.qid) && b.deadlines.any (fun r => r.qid == 0)
    && b.deadlines.all (fun r => b.quireOrNone r.qid && b.quireOrNone r.supervisor
      && (r.qid == 0 || !r.msiOnMiss || (r.supervisor != 0 && b.hartQid r.msiHart == r.supervisor && decide (1 ≤ r.msiId ∧ r.msiId ≤ 2047))))
    && noPair b.govs (fun x y => x.qid == y.qid) && b.govs.all (fun r => b.quireOrNone r.qid)
    && (List.range clusterCount).all (fun c => decide ((distinct (fixed c)).length ≤ 1))
    && b.streams.all (fun g => !g.isMemory || (match b.gov g.srcQid with | some p => decide (p.pSlow ≤ 7) | none => true))

/-- Step 8 of R67, but for the context table. -/
def Binding.conflictFree (b : Binding) : Bool :=
  b.coresFit && b.l3Fit && b.windowsFit && b.directoriesFit && b.streamsFit && b.ioFit && b.policiesFit

/-- Whether a window overlaps the context table (R272). -/
def State.overlapsContexts (s : State) (b : Binding) : Bool :=
  b.windows.any (fun w => decide (w.base < s.ctxBase + 0x8000000) && decide (s.ctxBase < w.base + w.size))

/-! ### Step 9 and step 10 -/

/-- The harts that a Binding names (R5). -/
def Binding.namedHarts (b : Binding) : List Nat :=
  b.quires.flatMap (fun q => [q.bootHart, q.notifyHart]) ++ b.cores.map (·.hart) ++ b.intrs.map (·.hart)
    ++ ((b.deadlines.filter (fun r => r.qid != 0)).map (·.msiHart))
    ++ b.streams.filterMap (fun g => endHart g.srcNode g.srcCore) ++ b.streams.filterMap (fun g => endHart g.dstNode g.dstCore)

/-- Step 9 of R67. -/
def Binding.unfused (b : Binding) (f : Fuse) : Bool := b.namedHarts.all (fun h => f.hartOk h)

/-- The sum of RATE over the streams that end at each System Link port is at most 3 (R308). -/
def Binding.portRates (b : Binding) : Bool :=
  (List.range 8).all (fun p =>
    decide (((b.streams.filter (fun g => g.srcNode == slNode p || g.dstNode == slNode p)).map (·.rate)).sum ≤ 3))

/-! ### The ten steps (R67) -/

/-- Whether the public keys of a signature block are those of an ACTIVE owner slot (R48, R367). -/
def State.ownerKey (s : State) (g : SigBlock) : Bool :=
  s.clasp.owners.any (fun e => decide (e.2.st = .active) && e.2.hashes == sigHashes g)

/-- Steps 1 to 6 of R67 for an image that must be a delta or a full Binding: the first syndrome, if any. -/
def State.imageFault (s : State) (img : List Byte) (delta : Bool) : Option Syndrome :=
  let g := sigBlockAt img (imgSigOffset img)
  let carried := presentTypes img
  if !headerOk img then some Syn.bindHeaderInvalid
  else if imgIsDelta img != delta then some Syn.deltaRejected
  else if imgGeneration img < s.clasp.floor then some Syn.bindRollback
  else if delta && !(imgBase img == s.bind.generation && decide (s.bind.generation < imgGeneration img)) then some Syn.bindRollback
  else if !(bitOf (imgTarget img) s.fuse.ordering && (imgSerial img == 0 || imgSerial img == s.fuse.serial)) then some Syn.bindTargetMismatch
  else if !s.ownerKey g then some Syn.bindKeyUnknown
  else if !sigVerifies g (sha384 (img.take (imgSigOffset img))) then some Syn.bindSignatureFail
  else if !tableOk img then some Syn.bindTableInvalid
  else if !delta && !(requiredTypes.all carried.contains) then some Syn.bindSectionMissing
  else if delta && (barredTypes.any carried.contains || decide (65 ≤ s.clasp.digests.length)) then some Syn.deltaRejected
  else if !fieldsOk s.fuse img then some Syn.bindFieldInvalid
  else none

/-- Steps 8 to 10 of R67 for the Binding that would be in effect; the context table counts only for a delta or a stored Binding (R272). -/
def State.bindingFault (s : State) (b : Binding) (atBoot : Bool) : Option Syndrome :=
  if !b.conflictFree || (!atBoot && s.boot.memTrained && s.overlapsContexts b) then some Syn.bindConflict
  else if !b.unfused s.fuse then some Syn.bindFusedResource
  else if !(b.admissible s.names && b.portRates) then some Syn.bindGInadmissible
  else none

/-- A full Binding verified (R67): the Binding, its digest and its owner key hash, or the syndrome of the first failure. -/
def State.verifyFull (s : State) (img : List Byte) (atBoot : Bool) : Sum Syndrome (Binding × List Byte × List Byte) :=
  match s.imageFault img false with
  | some y => .inl y
  | none =>
    let b := parseBinding img
    if !imageKeysOk img then .inl Syn.bindConflict
    else match s.bindingFault b atBoot with
    | some y => .inl y
    | none => .inr (b, sha384 (img.take (imgSigOffset img)), sigHashes (sigBlockAt img (imgSigOffset img)))

/-- A delta verified (R67, R430): the delta and its digest, or a syndrome. -/
def State.verifyDelta (s : State) (img : List Byte) : Sum Syndrome (Binding × List Byte) :=
  match s.imageFault img true with
  | some y => .inl y
  | none =>
    let d := parseBinding img
    if !(imageKeysOk img && s.bind.removalsMatch d) then .inl Syn.bindConflict
    else match s.bindingFault (s.bind.merge d) false with
      | some y => .inl y
      | none => .inr (d, sha384 (img.take (imgSigOffset img)))

/-- A syndrome that the Clasp logs (R67, R336, R429). -/
def State.logClasp (s : State) (y : Syndrome) : State := s.log (y.record claspNode 0x11 0 0)

/-- The same for a Quire that it concerns (R338). -/
def State.logClaspFor (s : State) (q : Nat) (y : Syndrome) : State := s.log (y.record claspNode 0x11 0 q)

/-! ### Boot flash slots (R69 to R71) -/

def slotImage (slot : Nat) : Nat := if slot = 0 then 0x01000000 else 0x02000000
def slotCommit (slot : Nat) : Nat := if slot = 0 then 0x03000000 else 0x03010000

/-- The commit record of a slot for an image (R70). -/
def commitRecord (slot : Nat) (img : List Byte) : List Byte :=
  let head := [0x56, 0x58, 0x43, 0x52] ++ toLE 1 slot ++ toLE 3 0 ++ toLE 8 (imgGeneration img) ++ toLE 4 img.length
  let tail := sha384 img ++ toLE 56 0
  head ++ toLE 4 (crc32c (head ++ tail)) ++ tail

/-- The image of a slot that is a candidate (R71). -/
def State.candidate (s : State) (slot : Nat) : Option (List Byte) :=
  let r := flashRead s.clasp.flash (slotCommit slot) 128
  if r.take 4 == [0x56, 0x58, 0x43, 0x52] && numAt r 4 1 == slot && numAt r 20 4 == crc32c (r.take 20 ++ r.drop 24)
      && decide (numAt r 16 4 ≤ 16777216) then
    let img := flashRead s.clasp.flash (slotImage slot) (numAt r 16 4)
    if imgLength img == numAt r 16 4 && imgGeneration img == numAt r 8 8 && sha384 img == bytesAt r 24 48 then some img else none
  else none

end Sys2Proof.Machine
end

