-- ==== Sys2Proof/Machine/CacheCtl.lean ====
section
/-! DEFINITION. Cache control registers (R150 to R158): L2_WAYCFG, CACHE_CTL, and a Quire's page in an L3 slice. -/

namespace Sys2Proof.Machine

/-! ### The core's block (R31) -/

def coreBlock (h : Nat) : Nat := 0x20 + h % 32
def coreAddr (h reg : Nat) : Nat := controlAddr (hartCd h) (coreBlock h) reg

/-- L1D and victim lines written back and invalidated, without an allocation: a maintenance operation steps no LFSR (R147, R153). -/
def Hart.flushL1 (x : Hart) (core now : Nat) : Hart :=
  let cs := x.l1d.map (·.2) ++ x.vc.map (·.2)
  cs.foldl (fun (x : Hart) c => x.writeDown core now c) { x with l1d := [], vc := [] }

/-- L2 lines that meet a test leave the core; a locked way stays reserved (R152, R153). -/
def Hart.flushL2Where (x : Hart) (core now : Nat) (keepWay : Bool) (p : Nat → CLine → Bool) : Hart :=
  let go := x.l2.filter (fun e => p e.1 e.2)
  let left := (x.l2.map (fun e => if p e.1 e.2 && e.2.locked && keepWay then (e.1, { e.2 with st := .i, unconf := false }) else e)).filter
    (fun e => !(p e.1 e.2 && !(e.2.locked && keepWay)))
  (go.filter (fun e => e.2.st.valid)).foldl (fun (x : Hart) e => x.evictOut core now e.2) { x with l2 := left }

/-- UNLOCK_ALL: every L2 way unlocked without write-back; a reserved way without data becomes free (R153). -/
def Hart.unlockAll (x : Hart) : Hart :=
  { x with l2 := (x.l2.filter (fun e => e.2.st.valid)).map (fun e => (e.1, { e.2 with locked := false })) }

/-- A whole-cache operation on a core (R153). -/
def Hart.cacheRun (x : Hart) (core now op : Nat) : Hart :=
  match op with
  | 1 => x.flushL1 core now
  | 2 => (x.flushL1 core now).flushL2Where core now true (fun _ c => !c.locked)
  | 3 => (x.flushL1 core now).flushL2Where core now true (fun _ _ => true)
  | _ => x.unlockAll

/-- CACHE_CTL written (R153): only by M-mode harts of the core's own Quire. -/
def writeCacheCtl (s : State) (who : Agent) (core : Nat) (v : Word) : State :=
  if !s.mHartOf who (s.hart core).qid then s.refuse who true (coreAddr core 0x108)
  else
    let x := s.hart core
    if x.cacheOp ≠ 0 then s.whileActive who (hartCd core) (coreBlock core) 0x108 v
    else
      let s := s.reserved who (hartCd core) (coreBlock core) 0x108 v 0x8000000000000007
      let op := fieldOf v 0 3
      if op = 0 ∨ 4 < op then s
      else s.putHart core { x.cacheRun (hartCore core) s.time.now op with cacheOp := op }

/-- FLUSH_L1D (R153). -/
def execFlushL1d (h core : Nat) (s : State) : Result :=
  .next (if core < hartCount then s.access h (fun s => writeCacheCtl s (.hart h) core 1) else s)

/-- FLUSH_L2 (R153). -/
def execFlushL2 (h core : Nat) (s : State) : Result :=
  .next (if core < hartCount then s.access h (fun s => writeCacheCtl s (.hart h) core 2) else s)

/-- FLUSH_ALL (R153). -/
def execFlushAll (h core : Nat) (s : State) : Result :=
  .next (if core < hartCount then s.access h (fun s => writeCacheCtl s (.hart h) core 3) else s)

/-- UNLOCK_ALL (R153). -/
def execUnlockAll (h core : Nat) (s : State) : Result :=
  .next (if core < hartCount then s.access h (fun s => writeCacheCtl s (.hart h) core 4) else s)

/-- CACHE_CTL_DONE (R153): BUSY clears. -/
def execCacheCtlDone (core : Nat) (s : State) : Result :=
  .next (if core < hartCount then s.modHart core (fun x => { x with cacheOp := 0 }) else s)

/-- Whether an agent may write L2_WAYCFG: a hart of the core's own DUAL_WORLD Quire, in M-mode and the Secure world (R150). -/
def State.waycfgAllowed (s : State) (who : Agent) (core : Nat) : Bool :=
  match who with
  | .hart h => s.mHartOf who (s.hart core).qid && (s.hart h).secure && s.bind.dualWorld (s.hart core).qid
  | .governor | .clasp | .node _ => false

/-- L2_WAYCFG written (R150): changed groups are written back, invalidated and unlocked, then take their new tag; any other write is ignored and logged. -/
def writeWaycfg (s : State) (who : Agent) (core : Nat) (v : Word) : State :=
  if !s.waycfgAllowed who core then s.logWrite Syn.l2WaycfgDenied who (hartCd core) (coreBlock core) 0x100 v
  else
    let s := s.reserved who (hartCd core) (coreBlock core) 0x100 v 0xF
    let x := s.hart core
    let new := BitVec.ofNat 4 (fieldOf v 0 4)
    let changed := new ^^^ x.l2Secure
    let x := x.flushL2Where (hartCore core) s.time.now false (fun k _ => changed.getLsbD (k % 16 / 4))
    s.putHart core { x with l2Secure := new }

/-- L2_WAYCFG_WRITE (R150). -/
def execL2WaycfgWrite (h core : Nat) (v : Word) (s : State) : Result :=
  .next (if core < hartCount then s.access h (fun s => writeWaycfg s (.hart h) core v) else s)

/-- CACHE_STAT (R153). -/
def Hart.lockedWays (x : Hart) : Nat := (x.l2.filter (fun e => e.2.locked)).length

/-! ### A Quire's page in a slice (R154, R158) -/

def l3qOff (q reg : Nat) : Nat := 0x10000 + q * 0x100 + reg
def sliceDie (n : Nat) : Nat := 16 + sliceBd n
def sliceBlock (n : Nat) : Nat := 0x10 + n % 12
def l3qAddr (n q reg : Nat) : Nat := controlAddr (sliceDie n) (sliceBlock n) (l3qOff q reg)

/-- Whether a Quire has an L3_WAYS record for a slice (R158). -/
def Binding.hasSlice (b : Binding) (n q : Nat) : Bool := b.l3Ways.any (fun r => r.slice == n && r.qid == q)

/-- LOCK_REJECTED (R158, R353). -/
def State.lockRejected (s : State) (who : Agent) (n q reg : Nat) (v : Word) : State :=
  s.logWrite Syn.lockRejected who (sliceDie n) (sliceBlock n) (l3qOff q reg) v

/-- A Quire's page of a slice changed. -/
def State.setL3q (s : State) (n q : Nat) (m : L3Q) : State := s.modSlice n (fun t => { t with q := Tab.set t.q q m })

/-- Lines of a Quire's ways in a slice written back and invalidated; those in locked ways stay reserved (R152, R158). -/
def State.flushWays (s : State) (n ways locked : Nat) : State :=
  let t := s.slice n
  let hit := fun (k : Nat) => bitOf ways (k % 16)
  let s := (t.lines.filter (fun e => hit e.1 && e.2.valid && e.2.dirty)).foldl (fun s e => s.queueWrite e.2.line e.2.data e.2.poison) s
  let left := (t.lines.map (fun e =>
      if hit e.1 && bitOf locked (e.1 % 16) then (e.1, { e.2 with valid := false, dirty := false }) else e)).filter
    (fun e => !(hit e.1 && !bitOf locked (e.1 % 16)))
  s.modSlice n (fun t => { t with lines := left })

/-- L3Q_LOCK written: the ways that lose their lock give up what they only reserved (R152, R158). -/
def State.lockWays (s : State) (n q : Nat) (v : Word) : State :=
  let m := (s.slice n).quire q
  let new := BitVec.ofNat 16 (fieldOf v 0 16) &&& m.lockMask
  let freed := m.lockedWays &&& ~~~new
  (s.setL3q n q { m with lockedWays := new }).modSlice n (fun t =>
    { t with lines := t.lines.filter (fun e => e.2.valid || !freed.getLsbD (e.1 % 16)) })

/-- L3Q_LOCK, L3Q_FILL and L3Q_CTL written (R154, R158). -/
def writeL3q (s : State) (who : Agent) (n q reg : Nat) (v : Word) : State :=
  if !s.mHartOf who q then s.refuse who true (l3qAddr n q reg)
  else if !s.bind.hasSlice n q then s
  else
    let m := (s.slice n).quire q
    if m.busy then s.whileActive who (sliceDie n) (sliceBlock n) (l3qOff q reg) v
    else
      let s := s.reserved who (sliceDie n) (sliceBlock n) (l3qOff q reg) v (if reg = 0x18 then 3 else 0xFFFF)
      let w := BitVec.ofNat 16 (fieldOf v 0 16)
      match reg with
      | 0x08 => (if w &&& ~~~m.lockMask = 0 then s else s.lockRejected who n q reg v).lockWays n q v
      | 0x10 =>
        let ok := w &&& m.lockMask &&& ~~~m.lockedWays
        (if ok = w then s else s.lockRejected who n q reg v).setL3q n q { m with fillWays := ok }
      | _ =>
        let m := if flagOf v 0 then { m with lfsr := some (s.bind.sliceSeed n q) } else m
        if flagOf v 1 then (s.setL3q n q { m with busy := true }).flushWays n (m.wayMask ||| m.govMask).toNat m.lockedWays.toNat
        else s.setL3q n q m

/-- L3Q_LOCK_WRITE (R158). -/
def execL3qLockWrite (h slice q : Nat) (v : Word) (s : State) : Result :=
  .next (if slice < 48 ∧ q < 256 then s.access h (fun s => writeL3q s (.hart h) slice q 0x08 v) else s)

/-- L3Q_FILL_WRITE (R154, R158). -/
def execL3qFillWrite (h slice q : Nat) (v : Word) (s : State) : Result :=
  .next (if slice < 48 ∧ q < 256 then s.access h (fun s => writeL3q s (.hart h) slice q 0x10 v) else s)

/-- L3Q_FLUSH (R158). -/
def execL3qFlush (h slice q : Nat) (s : State) : Result :=
  .next (if slice < 48 ∧ q < 256 then s.access h (fun s => writeL3q s (.hart h) slice q 0x18 2) else s)

/-- L3Q_RESEED (R149, R158). -/
def execL3qReseed (h slice q : Nat) (s : State) : Result :=
  .next (if slice < 48 ∧ q < 256 then s.access h (fun s => writeL3q s (.hart h) slice q 0x18 1) else s)

/-- L3Q_FLUSH_DONE (R158): BUSY clears. -/
def execL3qFlushDone (slice q : Nat) (s : State) : Result :=
  .next (if slice < 48 ∧ ((s.slice slice).quire q).busy = true then
      s.setL3q slice q { (s.slice slice).quire q with busy := false }
    else s)

/-- Valid lines in a Quire's locked ways (R158). -/
def Slice.lockedLines (t : Slice) (q : Nat) : Nat :=
  (t.lines.filter (fun e => e.2.valid && (t.quire q).lockedWays.getLsbD (e.1 % 16))).length

/-- A Quire's page as it reads; zeros without an L3_WAYS record for the slice (R158). -/
def State.l3qRead (s : State) (n q reg : Nat) : Word :=
  let t := s.slice n
  let m := t.quire q
  if !s.bind.hasSlice n q then 0
  else match reg with
    | 0x00 => word (m.govMask.toNat * 2 ^ 32 + m.lockMask.toNat * 2 ^ 16 + m.wayMask.toNat)
    | 0x08 => word m.lockedWays.toNat
    | 0x10 => word m.fillWays.toNat
    | 0x20 => word (bitAt m.busy 63 + t.lockedLines q)
    | _ => 0

end Sys2Proof.Machine
end

