-- ==== Sys2Proof/Machine/Binding.lean ====
section
/-! DEFINITION. Choosing and applying a Binding at start-up (R68, R71, R73, R74). -/

namespace Sys2Proof.Machine

/-! ### Choosing a candidate (R71) -/

/-- No candidate succeeds (R71): only the recovery interface accepts a Binding. -/
def State.noBinding (s : State) : State :=
  let s := s.logClasp Syn.noValidBinding
  { s with boot := { s.boot with phase := .noBinding, current := none, candidates := [] },
           clasp := { s.clasp with noValid := true, cand := none } }

/-- The first of the slots whose Binding verifies; each failure is logged (R67, R71). -/
def State.chooseFrom (s : State) (slots : List Nat) : State :=
  match slots with
  | [] => s.noBinding
  | k :: rest =>
    match s.candidate k with
    | none => s.chooseFrom rest
    | some img =>
      match s.verifyFull img true with
      | .inl y => (s.logClasp y).chooseFrom rest
      | .inr r =>
        { s with boot := { s.boot with current := some k, candidates := rest }, clasp := { s.clasp with cand := some r } }

/-- BINDING_SELECT (R71, R415 step 4): the candidate with the higher generation first, slot A on a tie. -/
def bindingSelect (s : State) : State :=
  if s.boot.phase ≠ .ready 4 then s
  else
    let a := s.candidate 0
    let b := s.candidate 1
    let s := if a.isNone then s.logClasp Syn.commitRecordInvalid else s
    let s := if b.isNone then s.logClasp Syn.commitRecordInvalid else s
    let bFirst := match a, b with
      | some x, some y => decide (imgGeneration x < imgGeneration y)
      | none, some _ => true
      | _, none => false
    let slots := (if bFirst then [1, 0] else [0, 1]).filter (fun k => (s.candidate k).isSome)
    let s := s.chooseFrom slots
    if s.boot.current.isSome then { s with boot := { s.boot with phase := .ready 5 } } else s

def execBindingSelect (s : State) : Result := .next (bindingSelect s)

/-! ### Applying (R73, R74) -/

/-- A key slot loaded for a window with ENCRYPT (R255): derived keys for PERSIST, else a fresh draw. -/
def State.loadKey (s : State) (w : MemWin) : State :=
  if w.has 5 then
    let k : KeySlot := { base := w.base, size := w.size, persist := w.has 7, draw := s.free }
    let s := if w.has 7 then s else s.draw.2
    { s with mem := { s.mem with keys := Tab.set s.mem.keys w.keySlot k } }
  else s

/-- The 96 bytes of a slot's keys: XTS key 1, XTS key 2 and integrity key (R255, R368); fresh ones are free values. -/
def State.slotKeys (s : State) (k : KeySlot) : List Byte :=
  if k.persist then hkdf sealingSecret s.clasp.ownerHash (ascii "VXMW" ++ toLE 8 k.base ++ toLE 8 k.size) 96
  else (List.range 96).map (Config.freeByte k.draw)

/-- The key slot of an address's window, if it has ENCRYPT. -/
def State.slotAt (s : State) (a : Nat) : Option KeySlot :=
  match s.bind.anyWindow a with
  | some w => if w.has 5 then Tab.find s.mem.keys w.keySlot else none
  | none => none

/-- The 64 bytes that memory stores for a line (R255, R260): its plaintext encrypted under its window's keys, the tweak PA[51:6]. -/
def State.storedLine (s : State) (l : Nat) : List Byte :=
  let pt := lineBytes (s.mem.lineData l)
  match s.slotAt (64 * l) with
  | some k => aesXts ((s.slotKeys k).take 32) (bytesAt (s.slotKeys k) 32 32) l pt
  | none => pt

/-- The MAC that the carve-out of an INTEGRITY window stores for a line (R256): 32 bits of the CMAC of PA[51:6] and the ciphertext. -/
def State.storedMac (s : State) (l : Nat) : Option (List Byte) :=
  match s.slotAt (64 * l) with
  | some k =>
    if ((s.bind.anyWindow (64 * l)).map (fun w => w.has 6)).getD false then
      some ((aesCmac ((s.slotKeys k).drop 64) (toLE 8 l ++ s.storedLine l)).take 4)
    else none
  | none => none

/-- Where the MAC of a line is stored (R256): 4 bytes for each line, from the window's last 1/16 on. -/
def MemWin.macAddr (w : MemWin) (l : Nat) : Nat := w.base + w.dataSize + (64 * l - w.base) / 64 * 4

/-- Contents under the keys of a window that comes into effect (R255; log 32): those made by the same derived keys read back; any others in its range, or under keys that the window does not use, are free from now on. -/
def State.reseal (s : State) (w : MemWin) : State :=
  let mine : Seal := { base := w.base, size := w.size, owner := s.clasp.ownerHash }
  let apart := fun (e : Seal) => decide (e.base + e.size ≤ w.base) || decide (w.base + w.size ≤ e.base)
  let others := s.mem.seals.filter apart
  let derived := w.has 5 && w.has 7
  if !(rangeOf w.base).isMemory || (derived && s.mem.seals.contains mine) then s
  else
    let lost := w.has 5 || decide (others.length < s.mem.seals.length)
    let d := s.draw
    let s := if lost then { d.2 with mem := d.2.mem.lose d.1 [(0, w.base), (w.base + w.size, 2 ^ 52)] } else s
    { s with mem := { s.mem with seals := others ++ (if derived then [mine] else []) } }

/-- The harts that a Binding assigns (R51). -/
def Binding.assigned (b : Binding) : List Nat := b.cores.flatMap (fun c => if c.pair then [c.hart, c.hart + 1] else [c.hart])

/-- An open Check unit at its reset values (R62, R322). -/
def State.resetOpenUnit (s : State) (u : Nat) : State :=
  s.setOpenUnit u (OpenUnit.reset (((s.bind.checkRec u).map (·.aliveBits)).getD 0))

/-- A core, or both of a pair, released (R73, R149): M-mode at the Quire's RESET_VECTOR in the world of INITIAL_SECURE, everything else at reset. -/
def State.releaseHart (s : State) (h : Nat) : State :=
  let q := s.bind.hartQid h
  let v := ((s.bind.quire q).map (·.resetVector)).getD 0
  let start := fun (s : State) (k : Nat) =>
    s.setHart k ({ s.freshHart k with run := .running, pc := word v, lastPc := word v }.reseed (s.bind.seed q) k)
  (s.cellHarts h).foldl start s

/-- A failed application (R74): everything returns to QID 0, and the other candidate is tried. -/
def State.applyFailed (s : State) : State :=
  let s : State := { s with clasp := { s.clasp with eff := Binding.empty, cand := none }, boot := { s.boot with current := none } }
  s.chooseFrom s.boot.candidates

/-- Steps 1 to 4 of R73: tags, windows with their keys, L3 masks and seeds. -/
def State.applyCore (s : State) (b : Binding) : State :=
  let s : State := { s with clasp := { s.clasp with eff := b }, mem := { s.mem with keys := [] } }
  let s := b.assigned.foldl (fun s h => s.setHart h (s.freshHart h)) { s with harts := [] }
  let s := b.windows.foldl (fun s w => (s.reseal w).loadKey w) s
  (List.range sliceCount).foldl (fun s n => s.setSlice n (s.freshSlice n)) s

/-- Steps 5 to 10 of R73: tables, Check units, System Link ports, policies and the partner allowlist; the ranges of step 6 are read from the Binding. -/
def State.applyRest (s : State) (b : Binding) : State :=
  let s := s.applyTables b
  let s := (List.range 16).foldl (fun s i => s.resetOpenUnit (16 + i)) s
  let mask := (b.sysLink.map (·.portMask)).getD 0
  let s := (maskBits 8 mask.toNat).foldl (fun s p => s.setSlPort p { s.slPort p with released := true }) s
  let s := s.deriveLevels false
  (s.partnerLinkUp 0).partnerLinkUp 1

/-- BINDING_APPLY (R68, R73, R74, R415 steps 7 and 8): the chosen Binding is applied and its boot harts are released. -/
def bindingApply (s : State) (failed : Option UnitId) : State :=
  match s.boot.phase, s.clasp.cand with
  | .ready 7, some (b, digest, owner) =>
    match failed with
    | some u => (s.log (Syn.bindApplyFail.record (unitNode u) u.ty u.no 0)).applyFailed
    | none =>
      if s.overlapsContexts b then (s.logClasp Syn.bindConflict).applyFailed
      else
        let pk4 := decide (s.boot.cause = .pk4Wake) && s.boot.warm
        let src := s.pwr.pkExiting
        let s : State := { s with clasp := { s.clasp with ownerHash := owner } }
        let s := (s.applyCore b).applyRest b
        let s := s.armAll pk4
        let s : State := { s with
          clasp := { s.clasp with applied := true, digests := [digest], gens := [b.generation], cand := none,
                                  noValid := false, floor := if b.raiseFloor then max s.clasp.floor b.generation else s.clasp.floor },
          boot := { s.boot with phase := .running, booted := s.boot.current },
          pwr := { s.pwr with pk := 0, pkExiting := none } }
        let s := if pk4 then (match src with | some p => s.slWakeDeliver.pkWoken p | none => s.slWakeDeliver) else s
        b.quires.foldl (fun s q => s.releaseHart q.bootHart) s.needResign
  | _, _ => s

def execBindingApply (failed : Option UnitId) (s : State) : Result := .next (bindingApply s failed)

end Sys2Proof.Machine
end

