-- ==== Sys2Proof/Machine/Handover.lean ====
section
/-! DEFINITION. Which resources a delta moves (R77 to R80, R288, R354, R363), and what moving them does. -/

namespace Sys2Proof.Machine

/-! ### Claims: who holds what under a Binding -/

/-- An interval of resources of one kind with its owner and world tag. -/
structure Claim where
  lo : Nat
  hi : Nat
  qid : Nat
  secure : Bool
deriving DecidableEq, Repr

/-- The number of an identity of a hart's file. -/
def idKey (hart file id : Nat) : Nat := (hart * 9 + file) * 2048 + id

/-- The number of a queue or a VI. -/
def queueKey (kind n : Nat) : Nat := kind * 2 ^ 24 + n

/-- The resources that a section type assigns (R51 to R62); types that assign nothing to an owner have none. -/
def Binding.claims (b : Binding) (ty : Nat) : List Claim :=
  let all : List Claim := match ty with
    | 0x02 => b.cores.map (fun c => { lo := c.hart, hi := c.hart + (if c.pair then 2 else 1), qid := c.qid, secure := b.secureOnly c.qid })
    | 0x03 => b.l3Ways.flatMap (fun r => (maskBits 16 r.wayMask.toNat).map (fun w =>
        ({ lo := r.slice * 16 + w, hi := r.slice * 16 + w + 1, qid := r.qid, secure := false } : Claim)))
    | 0x04 => b.windows.map (fun w => { lo := w.base, hi := w.base + w.size, qid := w.qid, secure := w.secure })
    | 0x08 => b.queues.map (fun r => { lo := queueKey r.kind r.first, hi := queueKey r.kind (r.first + r.count), qid := r.qid, secure := r.secure })
    | 0x09 => b.intrs.map (fun r =>
        { lo := idKey r.hart r.file r.firstId, hi := idKey r.hart r.file r.firstId + r.count, qid := r.qid, secure := r.secure })
    | 0x0A => b.functions.map (fun f => { lo := f.group * 65536 + f.bdf, hi := f.group * 65536 + f.bdf + 1, qid := f.qid, secure := f.secure })
    | 0x06 => b.streams.map (fun g => { lo := g.stream, hi := g.stream + 1, qid := g.srcQid, secure := g.secure })
    | 0x0C => (b.checks.filter (fun r => decide (16 ≤ r.unit))).map (fun r =>
        { lo := r.unit, hi := r.unit + 1, qid := r.qid, secure := b.secureOnly r.qid })
    | _ => []
  all.filter (fun c => c.qid != 0)

/-- Intervals without an interval. -/
def cutOut (l : List (Nat × Nat)) (lo hi : Nat) : List (Nat × Nat) :=
  l.flatMap (fun e => (if e.1 < min e.2 lo then [(e.1, min e.2 lo)] else []) ++ (if max e.1 hi < e.2 then [(max e.1 hi, e.2)] else []))

/-- What of a claim no claim of a list holds for the same owner with the same world tag. -/
def Claim.minus (c : Claim) (l : List Claim) : List (Nat × Nat) :=
  (l.filter (fun d => d.qid == c.qid && d.secure == c.secure)).foldl (fun p d => cutOut p d.lo d.hi) [(c.lo, c.hi)]

/-- The identities of a hart's file that no record covers: the hart's own Quire's, and Normal (R59, R361). -/
def Binding.bareIds (b : Binding) (hart file : Nat) : List Claim :=
  let rs := b.intrs.filter (fun r => r.hart == hart && r.file == file && r.qid != 0)
  let free := rs.foldl (fun p r => cutOut p r.firstId (r.firstId + r.count)) [(1, 2048)]
  if b.hartQid hart = 0 then []
  else free.map (fun p => { lo := idKey hart file p.1, hi := idKey hart file p.2, qid := b.hartQid hart, secure := false })

/-- The claims of a section type as a change to another Binding compares them: identities without a record count in the files in which either Binding has one, of harts that keep their Quire. -/
def Binding.claimsBeside (b o : Binding) (ty : Nat) : List Claim :=
  if ty = 0x09 then
    let files := distinct (((b.intrs ++ o.intrs).filter (fun r => b.hartQid r.hart == o.hartQid r.hart)).map (fun r => r.hart * 9 + r.file))
    b.claims ty ++ files.flatMap (fun k => b.bareIds (k / 9) (k % 9))
  else b.claims ty

/-- What a change of Bindings takes from its owner, or gives another world tag. A G stream moves where its number goes to another source Quire or world; one that is only removed ends as R219 states (log 60). -/
def Binding.leaving (old new : Binding) (ty : Nat) : List Claim :=
  let l := (old.claimsBeside new ty).flatMap (fun c => (c.minus (new.claimsBeside old ty)).map (fun p => { c with lo := p.1, hi := p.2 }))
  if ty = 0x06 then l.filter (fun c => new.streams.any (fun g => g.stream == c.lo)) else l

/-- The section types whose resources move through the hand-over protocol. -/
def handTypes : List Nat := [0x02, 0x03, 0x04, 0x06, 0x08, 0x09, 0x0A, 0x0C]

/-- Whether a number lies in a claim. -/
def Claim.holds (c : Claim) (n : Nat) : Bool := decide (c.lo ≤ n) && decide (n < c.hi)

/-- The harts that a change of Bindings resets: their owner changes, or the pair they belong to (log 31). -/
def Binding.movingHarts (old new : Binding) : List Nat :=
  (List.range hartCount).filter (fun h =>
    old.hartQid h != new.hartQid h || ((old.coreRec h).map (·.pair)).getD false != ((new.coreRec h).map (·.pair)).getD false)

/-! ### Old owners (R77 to R79) -/

/-- Whether a resource that leaves is tagged Secure now: by its record, or a core with a Secure L2 way group (R150, R361). -/
def State.claimSecure (s : State) (ty : Nat) (c : Claim) : Bool :=
  c.secure || (ty == 0x02 && ((List.range (c.hi - c.lo)).any (fun i => (s.hart (c.lo + i)).l2Secure != 0)))

/-- The resources that leave a Quire, with their section types. -/
def State.leavesOf (s : State) (new : Binding) (q : Nat) : List (Nat × Claim) :=
  handTypes.flatMap (fun ty => ((s.bind.leaving new ty).filter (fun c => c.qid == q)).map (fun c => (ty, c)))

/-- The old owners of a change of Bindings. -/
def State.oldOwners (s : State) (new : Binding) : List Nat :=
  (s.bind.quires.map (·.qid)).filter (fun q => !(s.leavesOf new q).isEmpty)

/-- The Quires to which resources come. -/
def Binding.newOwners (old new : Binding) : List Nat :=
  distinct (handTypes.flatMap (fun ty => (new.leaving old ty).map (·.qid)))

/-- TYPES of HANDOVER_PEND (R81). -/
def leaveTypes (l : List (Nat × Claim)) : BitVec 16 := BitVec.ofNat 16 (maskOf (l.map (fun e => e.1 - 1)))

/-- The units in which the resources of a claim lie: cores, slices, the front end, the cores of interrupt files, port groups and Check units (R339); none for memory and streams. -/
def State.claimUnits (s : State) (ty : Nat) (c : Claim) : List UnitId :=
  match ty with
  | 0x02 => (List.range (c.hi - c.lo)).map (fun i => coreUnit (s.cellOf (c.lo + i)))
  | 0x03 => [UnitId.of 0x03 (c.lo / 16)]
  | 0x08 => [UnitId.of 0x0B 0]
  | 0x09 => [coreUnit (s.cellOf (c.lo / (9 * 2048)))]
  | 0x0A => [UnitId.of 0x0C (c.lo / 65536)]
  | 0x0C => [UnitId.of 0x0F c.lo]
  | _ => []

/-- Whether every block that leaves a Quire is fenced, so that it counts as quiesced (R80). -/
def State.quiesced (s : State) (new : Binding) (q : Nat) : Bool :=
  (s.leavesOf new q).all (fun e => !(s.claimUnits e.1 e.2).isEmpty && (s.claimUnits e.1 e.2).all s.isFenced)

/-- The units that a change of Bindings resets. -/
def State.movedUnits (s : State) (new : Binding) : List UnitId :=
  distinct (handTypes.flatMap (fun ty => (s.bind.leaving new ty ++ new.leaving s.bind ty).flatMap (s.claimUnits ty)))

/-! ### Moving (R77, R288, R354, R363) -/

/-- VIs that move are reset with SQUASH, and queues that move have their descriptors squashed (R288). -/
def State.squashQueues (s : State) (gone : List Claim) : State :=
  let vis := (s.qe.vi.map (·.1)).filter (fun v => gone.any (fun c => c.holds (queueKey 2 v)))
  let qs := (s.qe.ctx.map (·.1)).filter (fun q => gone.any (fun c => c.holds (queueKey 1 q)))
  let s := vis.foldl (fun s v => s.setVi v { s.vi v with mode := .squash, dropped := 0, since := s.time.now }) s
  let s := qs.foldl (fun s q => s.setQueue q { s.queue q with disabling := true }) s
  s.squash (fun f => vis.contains f.vi || qs.contains f.sq)

/-- The start of the move phase: moving cores are reset, moving VIs are squashed and the descriptors of moving queues too (R288, R354). -/
def State.beginMove (s : State) (new : Binding) : State :=
  let s := (s.bind.movingHarts new).foldl (fun s h =>
    if s.coreGone h then s
    else
      let s := (s.modHart h (fun x => { x with dlArmed := 0 })).stopCore h true
      s.modHart h (fun x => { x with run := .reset })) s
  s.squashQueues (s.bind.leaving new 0x08)

/-- Whether the descriptors of the VIs and queues that move have ended (R288). -/
def State.moveSettled (s : State) (new : Binding) : Bool :=
  let gone := s.bind.leaving new 0x08
  s.qe.lanes.all (fun e => e.2.flights.all (fun f => !gone.any (fun c => c.holds (queueKey 2 f.vi) || c.holds (queueKey 1 f.sq))))

/-- Every copy of the lines that meet a test written to memory and given up by cores and slices. -/
def State.evacuate (s : State) (p : Nat → Bool) : State :=
  let s := s.recallSet p
  (s.slices.map (·.1)).foldl (fun s n =>
    let s := ((s.slice n).lines.filter (fun e => p e.2.line && e.2.valid && e.2.dirty)).foldl
      (fun s e => s.queueWrite e.2.line e.2.data e.2.poison) s
    s.modSlice n (fun t => { t with lines := t.lines.filter (fun e => !p e.2.line), dir := t.dir.filter (fun e => !p e.2.line) })) s

/-- A range of moved memory zeroed: no copy of it, and no queued write to it, remains (R77, R260). -/
def State.zeroMemory (s : State) (lo hi : Nat) : State :=
  let p := fun (l : Nat) => decide (lo ≤ 64 * l) && decide (64 * l < hi)
  let s := s.evacuate p
  { s with mem := { s.mem.zeroRange lo (hi - lo) with wpq := s.mem.wpq.filter (fun w => !p w.line) } }

/-- The memory that a change of Bindings zeroes: what leaves an owner or comes to one, but for memory that some Quire keeps (R77, R363). -/
def Binding.zeroRanges (old new : Binding) : List (Nat × Nat) :=
  let come := new.leaving old 0x04
  let kept := (new.claims 0x04).flatMap (fun c => come.foldl (fun p d =>
    if d.qid = c.qid ∧ d.secure = c.secure then cutOut p d.lo d.hi else p) [(c.lo, c.hi)])
  let moved := (old.leaving new 0x04 ++ come).map (fun c => (c.lo, c.hi))
  (kept.foldl (fun p k => cutOut p k.1 k.2) moved).filter (fun r => (rangeOf r.1).isMemory)

/-- A window that a delta applies: copies of its lines are given up, and contents that other keys made are unreadable (R255; log 32). -/
def State.rekey (s : State) (w : MemWin) : State :=
  ((if w.has 5 then s.evacuate (fun l => w.covers (64 * l) 1) else s).reseal w)

/-- The memory of windows whose lines get other home slices (R250). -/
def Binding.rehomed (old new : Binding) (l : Nat) : Bool :=
  new.windows.any (fun w => w.covers (64 * l) 1 && old.windows.any (fun o => o.base == w.base && o.size == w.size && o.homeSlices != w.homeSlices))

/-- Windows of a delta whose lines get other home slices give up their copies first (R250). -/
def State.rehomeWindows (s : State) (new : Binding) : State := s.evacuate (s.bind.rehomed new)

/-- The L3 ways of a slice whose owner changes. -/
def Binding.movedWays (old new : Binding) (n : Nat) : List Nat :=
  let owner := fun (b : Binding) (w : Nat) => ((b.l3Ways.find? (fun r => r.slice == n && r.wayMask.getLsbD w)).map (·.qid)).getD 0
  (List.range 16).filter (fun w => owner old w != owner new w)

/-- Ways with a new owner are cleared with their directory ways; masks, lock ownership and seeds follow the new Binding (R149, R156, R169, R410). -/
def State.moveWays (s : State) (old new : Binding) : State :=
  (List.range sliceCount).foldl (fun s n =>
    let ways := old.movedWays new n
    let lost := ((s.slice n).dir.filter (fun e => ways.contains (e.1 % 32 / 2))).map (·.2.line)
    let s := if lost.isEmpty then s else s.recallSet (fun l => lost.contains l)
    let s := s.flushWays n (maskOf ways) 0
    let page := fun (q : Nat) (m : L3Q) =>
      let r := new.l3Ways.find? (fun r => r.slice == n && r.qid == q)
      let lock := (r.map (·.lockMask)).getD 0
      let own := BitVec.ofNat 16 (maskOf ways)
      { m with wayMask := (r.map (·.wayMask)).getD 0, lockMask := lock, lockedWays := m.lockedWays &&& lock &&& ~~~own,
               fillWays := m.fillWays &&& lock, govMask := m.govMask &&& ~~~own, lfsr := some (new.sliceSeed n q), cnt := [] }
    s.modSlice n (fun t => { t with q := t.q.mapAll page, dir := t.dir.filter (fun e => !lost.contains e.2.line) })) s

/-- The directory entries that a move clears and that port groups hold: those in moved ways, of zeroed memory and of lines with another home (R156, R169, R260). -/
def State.movedPorts (s : State) (new : Binding) : List (Nat × DirEnt) :=
  let zero := s.bind.zeroRanges new
  s.slices.flatMap (fun t =>
    let ways := s.bind.movedWays new t.1
    (t.2.dir.filter (fun e => e.2.targets.any (fun d => (pcieAt d.1).isSome)
      && (ways.contains (e.1 % 32 / 2) || s.bind.rehomed new e.2.line
        || zero.any (fun r => decide (r.1 ≤ 64 * e.2.line) && decide (64 * e.2.line < r.2))))).map (fun e => (t.1, e.2)))

/-- Those entries back-invalidated at their holders, as far as their slices have room (R169). -/
def State.recallMoved (s : State) (es : List (Nat × DirEnt)) : State :=
  es.foldl (fun s e =>
    let t := s.slice e.1
    if (t.txn e.2.line).isSome || !t.roomFor 1 1 || !t.credits e.2.targets then s
    else s.recall e.1 e.2.line .snpbi e.2.qid e.2.secure e.2.targets none) s

/-- Cores that moved: reset under their new owner, but a core whose reset failed stays fenced with QID 0 (R80, R354). -/
def State.moveCores (s : State) (harts : List Nat) (failed : List Nat) : State :=
  harts.foldl (fun s h =>
    if failed.contains h then s.setHart h { Hart.reset with run := .fenced }
    else (s.liftFence (coreUnit (s.cellOf h))).resetCore h) s

/-- Queues and VIs that moved: contexts zero, VI registers at reset (R288). -/
def State.moveQueues (s : State) (gone : List Claim) : State :=
  let vis := (s.qe.vi.map (·.1)).filter (fun v => gone.any (fun c => c.holds (queueKey 2 v)))
  let s := vis.foldl State.viResetEnd s
  let keep := fun (q : Nat) => !gone.any (fun c => c.holds (queueKey 1 q))
  { s with qe := { s.qe with ctx := s.qe.ctx.filter (fun e => keep e.1), cached := s.qe.cached.filter keep,
                             vi := s.qe.vi.filter (fun e => !vis.contains e.1) } }

/-- Key handles of Quires without a crypto VI are erased (R369). -/
def State.dropHandles (s : State) : State :=
  let has := fun (q : Nat) => s.bind.queues.any (fun r => r.kind == 2 && r.qid == q && r.function == 4)
  { s with qe := { s.qe with keys := s.qe.keys.filter (fun e => has (e.1 / 32)) } }

/-- Identities that moved have no pending or enable bit (R363). -/
def State.moveIdentities (s : State) (gone : List Claim) : State :=
  if gone.isEmpty then s
  else
    { s with harts := s.harts.mapAll (fun h x =>
        let keep := fun (k : Nat) => !gone.any (fun c => c.holds (h * 9 * 2048 + k))
        { x with eip := x.eip.filter keep, eie := x.eie.filter keep }) }

/-- Functions that moved are reset: their configuration registers are as at reset (R363). -/
def State.moveFunctions (s : State) (gone : List Claim) : State :=
  { s with io := { s.io with cfg := s.io.cfg.filter (fun e => !gone.any (fun c => c.holds (e.1 / 4096))),
                             held := s.io.held.filter (fun k => !gone.any (fun c => c.holds k)) } }

end Sys2Proof.Machine
end

