-- ==== Sys2Proof/Machine/Colophon.lean ====
section
/-! DEFINITION. The Colophon (R368, R370 to R372): its entries, its header, its signatures, and the current copy that the Clasp keeps. -/

namespace Sys2Proof.Machine

/-! ### Identity (R368) -/

/-- CDI_1: from the Clasp firmware's measurement and SVN. -/
def claspCdi : List Byte := hmac384 Config.uds (Config.measurement 1 ++ toLE 4 (Config.svn 1))

/-- The Alias seed. -/
def aliasSeed : List Byte := hkdf claspCdi [] (ascii "VXAL") 64

/-- The Alias private keys: ML-DSA-87 from seed bytes 0 to 31, P-384 from bytes 32 to 63; algorithm codes as in KEY_GEN (R369). -/
def aliasMldsa : List Byte := Config.seededKey 1 (aliasSeed.take 32)
def aliasEcdsa : List Byte := Config.seededKey 2 (aliasSeed.drop 32)

/-! ### Entries (R371) -/

/-- An entry: TYPE, BODY_LEN and the body, filled to a multiple of 8 bytes. -/
def colEntry (ty : Nat) (body : List Byte) : List Byte :=
  toLE 2 ty ++ toLE 2 body.length ++ padTo (roundUp (4 + body.length) 8 - 4) body

/-- The crossings that are not UP at full width. -/
def State.shortCrossings (s : State) : List Nat :=
  allCrossings.filter (fun x =>
    let c := s.xl x
    !(decide (c.st = .up) && decide (c.widthOut = .full) && decide (c.widthIn = .full)))

/-- The fenced units by UNIT_TYPE and then UNIT. -/
def State.fencedInOrder (s : State) : List Fenced :=
  sortBy (fun a b => decide (a.unit.ty * 0x10000 + a.unit.no ≤ b.unit.ty * 0x10000 + b.unit.no)) s.err.fenced

/-- The memory controllers as CONTROLLER numbers them. -/
def memControllers : List Nat := List.range 8 ++ (List.range 16).map (16 + ·)

/-- CEILING: the debug ceiling of the applied Binding (R63). -/
def State.debugCeiling (s : State) : BitVec 4 := ((s.bind.debugs.find? (fun r => r.qid == 0)).map (·.bits)).getD 0

def ownerCode (t : OwnerSt) : Nat :=
  match t with
  | .empty => 0
  | .active => 1
  | .revoked => 2

def State.owner (s : State) (i : Nat) : Owner := Tab.get s.clasp.owners { st := .empty, hashes := [] } i

/-- The entries in ascending TYPE order. -/
def State.colEntries (s : State) : List (List Byte) :=
  let info := s.fmRead 0
  [colEntry 0x01 (toLE 8 (maskOf ((List.range clusterCount).filter s.fuse.clusterOk)))]
    ++ (List.range 5).map (fun c => colEntry 0x02 (toLE 1 c ++ toLE 3 0 ++ toLE 4 (Config.svn c) ++ padTo 48 (Config.measurement c)))
    ++ (s.clasp.digests.zip s.clasp.gens).mapIdx (fun i d => colEntry 0x03 (toLE 1 i ++ toLE 7 0 ++ toLE 8 d.2 ++ padTo 48 d.1))
    ++ [colEntry 0x04 (toLE 8 s.clasp.floor)]
    ++ s.shortCrossings.map (fun x =>
        let c := s.xl x
        colEntry 0x05 (toLE 2 x ++ toLE 1 (widthCode c.widthOut) ++ toLE 1 (widthCode c.widthIn) ++ toLE 1 (xlCode c.st) ++ toLE 3 0))
    ++ [colEntry 0x06 (toLE 2 (fieldOf info 32 16) ++ toLE 2 (fieldOf info 16 11) ++ toLE 2 (fieldOf info 0 11) ++ toLE 2 0)]
    ++ (s.fencedInOrder.take 1024).map (fun f =>
        colEntry 0x07 (toLE 1 f.unit.ty ++ toLE 1 0 ++ toLE 2 f.unit.no ++ toLE 2 f.syndrome ++ toLE 2 0))
    ++ memControllers.map (fun k =>
        let c := s.ctl k
        colEntry 0x08 (toLE 1 k ++ toLE 1 c.unitsFailed ++ toLE 2 c.retired.length ++ toLE 4 c.capacityMib))
    ++ ((List.range 2).filter (fun i => decide ((s.partner i).st = .up))).map (fun i =>
        colEntry 0x09 (toLE 1 i ++ toLE 7 0 ++ padTo 48 (s.partner i).digest))
    ++ [colEntry 0x0A (toLE 1 s.debugCeiling.toNat ++ toLE 1 s.debugOpenBits.toNat ++ toLE 6 0)]
    ++ (List.range 4).map (fun i =>
        colEntry 0x0B (toLE 1 i ++ toLE 1 (ownerCode (s.owner i).st) ++ toLE 6 0 ++ padTo 96 (s.owner i).hashes))
    ++ [colEntry 0x0C (toLE 2 ((s.bind.sysLink.map (·.packageId)).getD 0xFFFF) ++ toLE 6 0)]
    ++ [(0, 0), (0, 1), (1, 0), (1, 1)].map (fun (p : Nat × Nat) =>
        colEntry 0x0D (toLE 1 p.1 ++ toLE 1 p.2 ++ toLE 6 0 ++ Config.certificate p.1 p.2))

/-- Whether an entry of TYPE 0x0005 to 0x0008 reports a unit that is not at full capacity (R371); the port of a partner-die site in RESET has no unit behind it. -/
def State.colDegraded (s : State) : Bool :=
  s.shortCrossings.any (fun x => decide (x < 80) || decide ((s.partner (x - 80)).st ≠ .reset))
    || decide (0 < fieldOf (s.fmRead 0) 0 11) || !s.err.fenced.isEmpty
    || memControllers.any (fun k => decide (0 < (s.ctl k).unitsFailed) || !(s.ctl k).retired.isEmpty)

/-! ### The image (R370) -/

/-- FLAGS of the header. -/
def State.colFlags (s : State) : Nat :=
  bitAt s.clasp.noValid 0 + bitAt s.colDegraded 1 + bitAt (decide (s.debugOpenBits ≠ 0)) 2
    + bitAt (decide (1024 < s.err.fenced.length)) 3

/-- The Colophon up to SIGNATURE_OFFSET. -/
def State.colBody (s : State) (nonce : BitVec 256) : List Byte :=
  let es := s.colEntries
  let list := es.flatten
  let off := roundUp (128 + list.length) 64
  let head := [0x56, 0x58, 0x43, 0x4F] ++ toLE 2 1 ++ toLE 2 128 ++ toLE 4 (off + 7440) ++ toLE 4 off ++ toLE 8 s.fuse.serial
    ++ toLE 1 s.fuse.ordering ++ toLE 1 (bitAt s.fuse.xGrade 0) ++ toLE 2 es.length ++ toLE 4 s.clasp.epoch ++ toLE 8 s.now
    ++ toLE 32 nonce.toNat ++ toLE 4 s.boot.bootCount ++ toLE 4 s.colFlags ++ toLE 48 0
  padTo off (head ++ list)

/-- The bytes of a signature block (R47). -/
def sigBytes (g : SigBlock) : List Byte :=
  padTo 2592 g.mldsaPk ++ padTo 4627 g.mldsaSig ++ toLE 13 0 ++ padTo 97 g.ecdsaPk ++ toLE 15 0 ++ padTo 96 g.ecdsaSig

/-- Bytes signed by Alias with both keys; `n` numbers the draw (R370). -/
def aliasSign (body : List Byte) (n : Nat) : SigBlock :=
  let d := sha384 body
  { mldsaPk := Config.publicKey 1 aliasMldsa, mldsaSig := Config.mldsaSign aliasMldsa d n,
    ecdsaPk := Config.publicKey 2 aliasEcdsa, ecdsaSig := Config.ecdsaSign aliasEcdsa d n }

/-- A Colophon with a nonce, signed now, and the state with the draw of its signatures counted (R370, R372). -/
def State.signColophon (s : State) (nonce : BitVec 256) : List Byte × State :=
  let body := s.colBody nonce
  (body ++ sigBytes (aliasSign body s.free), s.draw.2)

/-- COLOPHON_RESIGN (R372): after an event of R372 the current Colophon is signed again, with a NONCE of zero, and EPOCH advances. -/
def colophonResign (s : State) : State :=
  if s.clasp.resign && s.boot.claspUp then
    let s := { s with clasp := { s.clasp with epoch := (s.clasp.epoch + 1) % 2 ^ 32, resign := false } }
    let r := s.signColophon 0
    { r.2 with clasp := { r.2.clasp with colophon := r.1 } }
  else s

def execColophonResign (s : State) : Result := .next (colophonResign s)

end Sys2Proof.Machine
end

