-- ==== Sys2Proof/Machine/Gate.lean ====
section
/-! DEFINITION. Requests to gate the clock or the power of a unit (R364, R365, R401): PWR_REQ. -/

namespace Sys2Proof.Machine

/-- The register that takes gate requests. -/
def pwrReqAddr : Nat := controlAddr iodDie 0x010 0x180

/-- The Quires of a unit: those with functions in a port group, with TSN VIs, with System Link VIs, or with other VIs for a lane (R58, R60; log 33). -/
def State.unitQuires (s : State) (u : UnitId) : List Nat :=
  let vis := fun (p : Nat → Bool) => (s.bind.queues.filter (fun r => r.kind == 2 && p r.function)).map (·.qid)
  match u.ty with
  | 0x0C => (s.bind.functions.filter (fun f => f.group == u.no)).map (·.qid)
  | 0x0D => vis (· == 3)
  | 0x0E => vis (· == 2)
  | _ => []

/-- Whether a hart may ask for a unit: an M-mode hart of the unit's only Quire, or of the error owner (R401). -/
def State.mayGate (s : State) (who : Agent) (u : UnitId) : Bool :=
  let qs := distinct ((s.unitQuires u).filter (· != 0))
  s.ownerHart who || (match qs with | [q] => s.mHartOf who q | _ => false)

/-- The unit types that PWR_REQ takes, and the units of each (R339, R401). -/
def gateUnitOk (u : UnitId) : Bool :=
  match u.ty with
  | 0x0A | 0x0C | 0x0D => u.no < 8
  | 0x0E => u.no < 4
  | _ => false

/-- Whether a unit takes part in a hand-over that has not ended (R364): something of it moves. -/
def State.inHandover (s : State) (u : UnitId) : Bool :=
  let moves := fun (d : Binding) =>
    let new := s.bind.merge d
    let gone := fun (ty : Nat) => s.bind.leaving new ty ++ new.leaving s.bind ty
    match u.ty with
    | 0x0C => (gone 0x0A).any (fun c => c.lo / 65536 == u.no)
    | 0x0A | 0x0D | 0x0E => !(gone 0x08).isEmpty
    | _ => false
  match s.clasp.work with
  | some (.quiesce _ d _ _ _ _) => moves d
  | some (.move _ d _) => moves d
  | _ => false

/-- A gate request ends with a RESULT. -/
def State.gateResult (s : State) (r : Nat) : State := { s with pwr := { s.pwr with reqBusy := false, reqResult := r } }

/-- PWR_REQ_DENIED (R402). -/
def State.logPwrDenied (s : State) (u : UnitId) (q : Nat) : State := s.log (Syn.pwrReqDenied.record (unitNode u) u.ty u.no q)

/-- What waits on a unit that is gated ends with DEV_ERROR (R401): a lane's descriptors, a port group's requests, a System Link port's requests with a reason that R306 does not state, a TSN port's frames (log 33). -/
def State.gatedRequests (s : State) (u : UnitId) : State :=
  let ends := fun (s : State) (p : DescRef → Flight → Bool) =>
    (s.flightsWhere (fun f => decide (f.st = .waiting))).foldl (fun s e => if p e.1 e.2 then s.finish e.1 8 0 0 else s) s
  match u.ty with
  | 0x0A => ends s (fun d _ => d.lane == u.no)
  | 0x0C => s.failRequestsTo (pcieNode u.no) stDevError
  | 0x0D => (s.sl.reqs.filter (fun r => r.port == u.no)).foldl (fun s r => s.draw.2.slAnswered r (1 + s.draw.1 % 255)) s
  | 0x0E => ends s (fun _ f => (f.op == 0x20 && f.arg 0 1 == u.no) || (f.op == 0x21 && f.arg 2 2 / 256 == u.no))
  | _ => s

/-- A request that waits, judged once its unit takes part in no hand-over (R364, R365, R401). -/
def State.judgeGate (s : State) : State :=
  let w := s.pwr
  let u := UnitId.of w.reqType w.reqUnit
  if !w.reqBusy || s.inHandover u then s
  else if !s.mayGate (.hart w.reqHart) u then (s.logPwrDenied u (s.hart w.reqHart).qid).gateResult 2
  else if w.reqOp ≠ 0 ∧ s.secureHeld u = true ∧ (s.hart w.reqHart).secure = false then
    let s := s.log ((Syn.worldHeld.record (unitNode u) u.ty u.no (s.hart w.reqHart).qid).withSecure true)
    (s.notifyHolder u).gateResult 1
  else
    let rest := w.gated.filter (fun e => e.1 != u)
    let gated := if w.reqOp = 0 then rest else rest ++ [(u, w.reqOp == 2)]
    let s := if w.reqOp = 0 then s else s.gatedRequests u
    ({ s with pwr := { s.pwr with gated := gated } }).gateResult 0

/-- PWR_REQ written (R401). OP 3 is no operation: such a request is DENIED. -/
def writePwrReq (s : State) (who : Agent) (v : Word) : State :=
  let u := UnitId.of (fieldOf v 16 8) (fieldOf v 0 16)
  let h := match who with | .hart h => h | _ => 0
  if !s.mayGate who u then s.log (Syn.pwrReqDenied.record govNode 0x12 0 (s.agentQid who))
  else if s.pwr.reqBusy then s.whileActive who iodDie 0x010 0x180 v
  else
    let s := s.reserved who iodDie 0x010 0x180 v 0xF8C0000000FFFFFF
    let s : State := { s with pwr := { s.pwr with reqOp := fieldOf v 54 2, reqType := u.ty, reqUnit := u.no } }
    if !flagOf v 63 then s
    else if !gateUnitOk u then s.gateResult 3
    else if fieldOf v 54 2 = 3 then s.gateResult 2
    else ({ s with pwr := { s.pwr with reqBusy := true, reqResult := 0, reqHart := h } }).judgeGate

/-- A PWR_REQ write of a row: GO with the row's OP and the unit of the value. -/
def gateWord (v : Word) (op : Nat) : Word := (v &&& word 0xFFFFFF) ||| word (2 ^ 63 + op * 2 ^ 54)

/-- UNGATE (R401). -/
def execUngate (h : Nat) (v : Word) (s : State) : Result := .next (s.access h (fun s => writePwrReq s (.hart h) (gateWord v 0)))

/-- GATE_CLOCK (R365, R401). -/
def execGateClock (h : Nat) (v : Word) (s : State) : Result := .next (s.access h (fun s => writePwrReq s (.hart h) (gateWord v 1)))

/-- GATE_POWER (R365, R401). -/
def execGatePower (h : Nat) (v : Word) (s : State) : Result := .next (s.access h (fun s => writePwrReq s (.hart h) (gateWord v 2)))

/-- PWR_REQ as it reads (R401). -/
def State.pwrReq (s : State) : Word :=
  let w := s.pwr
  word (bitAt w.reqBusy 62 + w.reqResult * 2 ^ 59 + w.reqOp * 2 ^ 54 + w.reqType * 2 ^ 16 + w.reqUnit)

end Sys2Proof.Machine
end

