-- ==== Sys2Proof/Machine/Requests.lean ====
section
/-! DEFINITION. The Clasp's request pages (R72, R73, R76 to R81, R372): BREQ, hand-over answers, Colophon requests, and the work that they start. -/

namespace Sys2Proof.Machine

/-! ### What a request reads and reports (R81) -/

/-- Whether an image lies within R windows of a Quire, taken piece by piece; pieces end at 4 KiB boundaries, where windows may meet (R81). -/
def State.imageInWindows (s : State) (q addr len : Nat) : Bool :=
  let first := addr / 4096
  (List.range ((addr + len + 4095) / 4096 - first)).all (fun i =>
    let lo := max addr ((first + i) * 4096)
    let hi := min (addr + len) ((first + i + 1) * 4096)
    match s.rangeCheck q true .load lo (hi - lo) with
    | .ok _ => true
    | .fault | .world => false)

/-- The image that a request names, and the state after its reads, which the Clasp's statistics count (R220); none where it does not lie in R windows of the Quire, or reads as poisoned. An image in a device's range reads as the device answers (log 14). -/
def State.readImage (s : State) (q addr len : Nat) : Option (List Byte) × State :=
  if s.imageInWindows q addr len then
    let r := s.busRead claspNode addr len
    (if r.2.1 then none else some r.1, r.2.2)
  else (none, s)

/-- A request's STATE, STEP, SYNDROME and RESULT. -/
def State.setReq (s : State) (q : Nat) (st : ReqSt) (step syn result : Nat) : State :=
  s.setBreq q { s.breq q with st := st, step := step, syndrome := syn, result := result }

/-- A request that ended. -/
def State.endReq (s : State) (q step syn result : Nat) : State := s.setReq q .done step syn result

/-! ### Hand-over (R77 to R80) -/

/-- The Clasp's work replaced. -/
def State.setWork (s : State) (w : Option Work) : State := { s with clasp := { s.clasp with work := w } }

/-- HANDOVER_PEND set for an old owner, and its MSI (R77, R81). -/
def State.pendOwner (s : State) (new : Binding) (seq : BitVec 16) (q : Nat) : State :=
  let l := s.leavesOf new q
  let b := s.breq q
  (s.setBreq q { b with pend := true, pendSecure := l.any (fun e => s.claimSecure e.1 e.2), pendSeq := seq, pendTypes := leaveTypes l }).notifyQuire q

/-- The move phase begins (R77). -/
def State.startMove (s : State) (q : Nat) (d : Binding) (digest : List Byte) : State :=
  let s := s.setReq q .busy 3 0 0
  (s.beginMove (s.bind.merge d)).setWork (some (.move q d digest))

/-- The quiesce phase begins with the old owners; without one the move phase follows at once (R77). -/
def State.startHandover (s : State) (q : Nat) (d : Binding) (digest : List Byte) : State :=
  let new := s.bind.merge d
  let owners := s.oldOwners new
  if owners.isEmpty then s.startMove q d digest
  else
    let s := owners.foldl (fun s o => s.pendOwner new (s.breq q).seq o) (s.setReq q .busy 2 0 0)
    s.setWork (some (.quiesce q d digest owners [] s.time.now))

/-- HANDOVER_PEND as it reads once nothing is pending. -/
def State.clearPend (s : State) (q : Nat) : State :=
  s.setBreq q { s.breq q with pend := false, pendSecure := false, pendSeq := 0, pendTypes := 0 }

/-- A hand-over aborted for an owner (R78): nothing moves, no owner has anything pending, and the old owners get the MSI again. -/
def State.abortHandover (s : State) (q : Nat) (d : Binding) (o : Nat) (y : Syndrome) : State :=
  let owners := s.oldOwners (s.bind.merge d)
  let s := s.logClaspFor o y
  let s := owners.foldl (fun s o => (s.clearPend o).notifyQuire o) s
  (s.endReq q 2 y.code 2).setWork none

/-- The resources of an owner that did not acknowledge, fenced under FORCE (R78): its cores and open Check units as units; its VIs and queues squash what they have fetched and fetch no more; its functions are served no more. Ways, memory, identities and streams are no units of R339, and nothing of them is in flight. -/
def State.forceOwner (s : State) (new : Binding) (o : Nat) (y : Syndrome) : State :=
  let gone := fun (ty : Nat) => ((s.leavesOf new o).filter (fun e => e.1 == ty)).map (·.2)
  let s : State := { s with io := { s.io with held := s.io.held ++ (gone 0x0A).map (·.lo) } }
  let s := ((gone 0x0C).map (·.lo)).foldl (fun s u => (s.addFence (UnitId.of 0x0F u) y.code).completeFence (UnitId.of 0x0F u)) s
  let s := s.squashQueues (gone 0x08)
  let cores := ((s.leavesOf new o).filter (fun e => e.1 == 0x02)).flatMap (fun e => (List.range (e.2.hi - e.2.lo)).map (fun i => e.2.lo + i))
  cores.foldl (fun s h =>
    if s.coreGone h || !s.fuse.hartOk h then s
    else
      let u := coreUnit (s.cellOf h)
      ((s.addFence u y.code).stopCore h true).completeFence u) s

/-- Whether FORCE may replace the acknowledgements that are missing: no resource of the hand-over is tagged Secure (R78). -/
def State.mayForce (s : State) (d : Binding) : Bool :=
  let new := s.bind.merge d
  d.force && (s.oldOwners new).all (fun o => (s.leavesOf new o).all (fun e => !s.claimSecure e.1 e.2))
    && handTypes.all (fun ty => (new.leaving s.bind ty).all (fun c => !c.secure))

/-- An owner has answered, or has been forced; with the last one the move phase starts (R77). -/
def State.ownerDone (s : State) (o : Nat) (forced : Bool) : State :=
  match s.clasp.work with
  | some (.quiesce q d digest waiting forcedL since) =>
    let waiting := waiting.filter (· != o)
    let forcedL := if forced then forcedL ++ [o] else forcedL
    let s := s.clearPend o
    if waiting.isEmpty then s.startMove q d digest
    else s.setWork (some (.quiesce q d digest waiting forcedL since))
  | _ => s

/-- An owner refuses, or its time has passed (R78, R80). -/
def State.ownerFails (s : State) (o : Nat) (y : Syndrome) : State :=
  match s.clasp.work with
  | some (.quiesce q d _ waiting _ _) =>
    if !waiting.contains o then s
    else if s.mayForce d then ((s.forceOwner (s.bind.merge d) o y).ownerDone o true)
    else s.abortHandover q d o y
  | _ => s

/-! ### The end of the move phase (R77, R80, R363) -/

/-- The windows that a delta applies, whose key slots are loaded (R255). -/
def Binding.applied (d : Binding) : List MemWin := d.windows.filter (fun w => !w.removes)

/-- Whether a PERSIST window of a delta is a new one, or has moved (R265). -/
def Binding.arms (old : Binding) (w : MemWin) : Bool :=
  w.has 7 && !old.windows.any (fun o => o.qid == w.qid && o.index == w.index && o.base == w.base && o.size == w.size && o.has 7)

/-- Memory under the new Binding: moved memory reads as zero, key slots are loaded, PERSIST windows are armed (R77, R255, R260, R265). -/
def State.moveMemory (s : State) (old new d : Binding) : State :=
  let s := d.applied.foldl State.rekey s
  let s := (old.zeroRanges new).foldl (fun s r => s.zeroMemory r.1 r.2) s
  let s := d.applied.foldl State.loadKey s
  (d.applied.filter old.arms).foldl State.armWindow s

/-- What else follows a new Binding: queues, handles, identities, functions, Check units, routes, levels (R77, R288, R363, R369, R383). -/
def State.moveRest (s : State) (old new d : Binding) : State :=
  let s := (s.moveQueues (old.leaving new 0x08)).dropHandles
  let s := (s.moveIdentities (old.leaving new 0x09)).moveFunctions (old.leaving new 0x0A)
  let owner := fun (b : Binding) (u : Nat) => ((b.checkRec u).map (·.qid)).getD 0
  let s := (((List.range 16).map (16 + ·)).filter (fun u => owner old u != owner new u)).foldl State.resetOpenUnit s
  let s : State := { s with fabric := { s.fabric with routes := new.routes } }
  let s := if d.present.contains 0x06 then s.planDelta new else s
  let s := d.govs.foldl (fun s g => s.setGovQ g.qid { s.govQ g.qid with want := none }) s
  s.deriveLevels s.gov.boost

/-- The Binding in effect after a move phase in which units failed their reset: the records that the delta brought for them are left out, so that those resources carry QID 0 (R80). -/
def Binding.without (b old : Binding) (bad : List Nat) (us : List UnitId) : Binding :=
  { b with
    cores := b.cores.filter (fun c => !(bad.contains c.hart || (c.pair && bad.contains (c.hart + 1)))),
    l3Ways := b.l3Ways.filter (fun r => old.l3Ways.contains r || !us.contains (UnitId.of 0x03 r.slice)),
    queues := b.queues.filter (fun r => old.queues.contains r || !us.contains (UnitId.of 0x0B 0)),
    functions := b.functions.filter (fun f => old.functions.contains f || !us.contains (UnitId.of 0x0C f.group)),
    checks := b.checks.filter (fun r => old.checks.contains r || !us.contains (UnitId.of 0x0F r.unit)) }

/-- The move phase ends (R77): the delta takes effect as a whole. -/
def State.finishMove (s : State) (q : Nat) (d : Binding) (digest : List Byte) (failed : List UnitId) : State :=
  let old := s.bind
  let full := old.merge d
  let harts := old.movingHarts full
  let us := failed.filter (fun u => (s.movedUnits full).contains u)
  let bad := ((us.filter (fun u => u.ty == 0x01)).flatMap (fun u => s.cellHarts u.no)).filter harts.contains
  let new := full.without old bad us
  let s := s.rehomeWindows full
  let s : State := { s with clasp := { s.clasp with eff := new, digests := s.clasp.digests ++ [digest], gens := s.clasp.gens ++ [d.generation] } }
  let s := us.foldl (fun s u => ((s.addFence u Syn.resetFailed.code).log (Syn.resetFailed.record (unitNode u) u.ty u.no 0)).completeFence u) s
  let s := s.moveCores harts bad
  let s := s.moveWays old new
  let s := (s.moveMemory old new d).moveRest old new d
  let s := (old.newOwners full).foldl State.notifyQuire s
  ((s.endReq q 3 0 (if us.isEmpty then 0 else 3)).setWork none).needResign

/-! ### Flash (R72) -/

/-- The highest generation among the candidates (R72). -/
def State.maxCommitted (s : State) : Nat :=
  ([0, 1].filterMap s.candidate).foldl (fun m img => max m (imgGeneration img)) 0

/-- The slot to overwrite (R72). -/
def State.targetSlot (s : State) : Nat :=
  match s.boot.booted with
  | some k => 1 - k
  | none =>
    match s.candidate 0, s.candidate 1 with
    | none, _ => 0
    | some _, none => 1
    | some a, some b => if imgGeneration a ≤ imgGeneration b then 0 else 1

/-- A full Binding to be stored (R72): the syndrome that rejects it, if any. -/
def State.storeFault (s : State) (img : List Byte) : Option Syndrome :=
  match s.verifyFull img false with
  | .inl y => some y
  | .inr _ => if imgGeneration img ≤ s.maxCommitted then some Syn.bindRollback else none

/-- The flash update begins: the commit record of the target slot is erased first, so that the slot is no candidate (R72). -/
def State.startStore (s : State) (q : Option Nat) (img : List Byte) : State :=
  let t := s.targetSlot
  { s with clasp := { s.clasp with flash := flashErase s.clasp.flash (slotCommit t) 0x10000, work := some (.flash q img t) } }

/-- The image programmed into its slot; a record follows only where the image reads back right (R72). -/
def State.programSlot (s : State) (img : List Byte) (t : Nat) (recordOk : Bool) : State :=
  let f := flashWrite (flashErase s.clasp.flash (slotImage t) 0x1000000) (slotImage t) img
  let f := if recordOk then flashWrite f (slotCommit t) (commitRecord t img) else f
  { s with clasp := { s.clasp with flash := f } }

/-! ### Requests in turn (R77, R81, R372) -/

/-- A hart may be started: of the Quire, held in reset, and the even one of a checked pair (R81). -/
def State.mayStart (s : State) (q h : Nat) : Bool :=
  s.fuse.hartOk h && (s.hart h).qid == q && decide ((s.hart h).run = .reset) && s.cellOf h == h

/-- A BREQ taken up (R77, R81). -/
def State.runBreq (s : State) (q addr op arg len : Nat) : State :=
  let s := s.setReq q .busy 1 0 0
  match op with
  | 1 =>
    let r := s.readImage q addr len
    let s := r.2
    match r.1 with
    | none => s.endReq q 1 0 4
    | some img =>
      match s.verifyDelta img with
      | .inl y => (s.logClaspFor q y).endReq q 1 y.code 1
      | .inr r => s.startHandover q r.1 r.2
  | 2 =>
    let r := s.readImage q addr len
    let s := r.2
    match r.1 with
    | none => s.endReq q 1 0 4
    | some img =>
      match s.storeFault img with
      | some y => (s.logClaspFor q y).endReq q 1 y.code 1
      | none => (s.setReq q .busy 4 0 0).startStore (some q) img
  | 3 => if s.mayStart q arg then (s.releaseHart arg).endReq q 1 0 0 else s.endReq q 1 Syn.bindFieldInvalid.code 1
  | _ => s.endReq q 1 0 5

/-- A Colophon request taken up (R372): signed now and written to its destination. -/
def State.runCol (s : State) (q : Nat) (nonce : BitVec 256) (dest : Nat) : State :=
  let fin := fun (s : State) (r len : Nat) => s.setBreq q { s.breq q with colSt := .done, colResult := r, colLength := len }
  match s.rangeCheck q true .store dest 65536 with
  | .ok _ =>
    let c := s.signColophon nonce
    fin (c.2.put claspNode dest c.1 false).1 0 c.1.length
  | _ => fin s 1 0

/-- A request taken up. -/
def State.runRequest (s : State) (r : Request) : State :=
  match r with
  | .breq q addr op arg len => s.runBreq q addr op arg len
  | .col q nonce dest => s.runCol q nonce dest

/-- Requests served one at a time, in order, while the Clasp has no work (R77). -/
def State.serve (fuel : Nat) (s : State) : State :=
  match fuel with
  | 0 => s
  | f + 1 =>
    match s.clasp.work, s.clasp.queue with
    | none, r :: rest => State.serve f (({ s with clasp := { s.clasp with queue := rest } }).runRequest r)
    | _, _ => s

/-- The Clasp's work has ended: requests that waited go on, among them a gate request (R77, R364). -/
def State.goOnServing (s : State) : State :=
  let s := State.serve (s.clasp.queue.length + 1) s
  s.judgeGate

/-! ### The request page (R81, R372) -/

def breqAddr (q off : Nat) : Nat := controlAddr iodDie 0x000 (0x10000 + q * 0x100 + off)

def breqBusy (t : ReqSt) : Bool := decide (t = .queued) || decide (t = .busy)

def reqCode (t : ReqSt) : Nat :=
  match t with
  | .idle => 0
  | .queued => 1
  | .busy => 2
  | .done => 3

/-- The address bits of BREQ_ADDR and COL_DEST. -/
def pageAddrMask : Nat := 0x000FFFFFFFFFFFC0

/-- BREQ_CTL written: GO gives the request its sequence number and queues it. -/
def State.breqCtl (s : State) (who : Agent) (q : Nat) (v : Word) : State :=
  let b := s.breq q
  if flagOf v 63 && breqBusy b.st then s.whileActive who iodDie 0x000 (0x10000 + q * 0x100 + 8) v
  else
    let b := { b with op := fieldOf v 56 4, arg := fieldOf v 32 16, length := fieldOf v 0 25 }
    if !flagOf v 63 then s.setBreq q b
    else
      let n := s.clasp.seq + 1
      let s := s.setBreq q { b with st := .queued, step := 0, syndrome := 0, result := 0, seq := n }
      let r : Request := .breq q b.addr.toNat b.op b.arg b.length
      ({ s with clasp := { s.clasp with seq := n, queue := s.clasp.queue ++ [r] } }).goOnServing

/-- COL_CTL written (R372). -/
def State.colCtl (s : State) (who : Agent) (q : Nat) (v : Word) : State :=
  let b := s.breq q
  if !flagOf v 63 then s
  else if breqBusy b.colSt then s.whileActive who iodDie 0x000 (0x10000 + q * 0x100 + 0x68) v
  else
    let s := s.setBreq q { b with colSt := .queued, colResult := 0, colLength := 0 }
    let r : Request := .col q b.nonce b.dest.toNat
    ({ s with clasp := { s.clasp with queue := s.clasp.queue ++ [r] } }).goOnServing

/-- HANDOVER_ACK written (R78, R79, R81): it counts only with the pending SEQ, and for Secure resources only from the Secure world. -/
def State.handoverAnswer (s : State) (h q : Nat) (v : Word) : State :=
  let b := s.breq q
  if !b.pend ∨ fieldOf v 32 16 ≠ b.pendSeq.toNat then s
  else if b.pendSecure && !(s.hart h).secure then s.logClaspFor q Syn.handoverWorld
  else if flagOf v 0 then (s.ownerFails q Syn.handoverRefused).goOnServing
  else s.ownerDone q false

/-- The nonce with its n-th word replaced (R372). -/
def setNonce (n : BitVec 256) (i : Nat) (v : Word) : BitVec 256 :=
  BitVec.ofNat 256 (n.toNat - bitsOf n.toNat (64 * i) 64 * 2 ^ (64 * i) + v.toNat * 2 ^ (64 * i))

/-- The fields of each register of a page; the other bits are reserved. -/
def breqMask (reg : Nat) : Nat :=
  match reg with
  | 0x00 | 0x60 => pageAddrMask
  | 0x08 => 0x8F00FFFF01FFFFFF
  | 0x10 => 0xFF00FFFFFFFF00FF
  | 0x18 => 0xC000FFFFFFFF0000
  | 0x20 => 0x0000FFFF00000001
  | 0x68 => 0xFC0000000001FFFF
  | _ => 2 ^ 64 - 1

/-- A write to a request page (R81, R372): only by M-mode harts of its Quire. -/
def writeBreq (s : State) (who : Agent) (q reg : Nat) (v : Word) : State :=
  match who with
  | .hart h =>
    if !s.mHartOf who q then s.refuse who true (breqAddr q reg)
    else
      let s := s.reserved who iodDie 0x000 (0x10000 + q * 0x100 + reg) v (breqMask reg)
      let b := s.breq q
      if reg = 0x00 then s.setBreq q { b with addr := v &&& word pageAddrMask }
      else if reg = 0x08 then s.breqCtl who q v
      else if reg = 0x20 then s.handoverAnswer h q v
      else if 0x40 ≤ reg ∧ reg < 0x60 then s.setBreq q { b with nonce := setNonce b.nonce ((reg - 0x40) / 8) v }
      else if reg = 0x60 then s.setBreq q { b with dest := v &&& word pageAddrMask }
      else if reg = 0x68 then s.colCtl who q v
      else s
  | _ => s.refuse who true (breqAddr q reg)

/-- A request page as it reads (R81, R372). -/
def State.breqRead (s : State) (q reg : Nat) : Word :=
  let b := s.breq q
  if reg = 0x00 then b.addr
  else if reg = 0x08 then word (b.op * 2 ^ 56 + b.arg * 2 ^ 32 + b.length)
  else if reg = 0x10 then word (reqCode b.st * 2 ^ 62 + b.step * 2 ^ 56 + b.seq.toNat * 2 ^ 32 + b.syndrome * 2 ^ 16 + b.result)
  else if reg = 0x18 then word (bitAt b.pend 63 + bitAt b.pendSecure 62 + b.pendSeq.toNat * 2 ^ 32 + b.pendTypes.toNat * 2 ^ 16)
  else if 0x40 ≤ reg ∧ reg < 0x60 then word (bitsOf b.nonce.toNat (64 * ((reg - 0x40) / 8)) 64)
  else if reg = 0x60 then b.dest
  else if reg = 0x68 then word (reqCode b.colSt * 2 ^ 61 + b.colResult * 2 ^ 58 + b.colLength)
  else 0

/-! ### Commands -/

/-- A GO write to BREQ_CTL with an operation, by a hart to its own Quire's page. -/
def State.submit (s : State) (h op : Nat) (v : Word) : State :=
  let w := (v &&& ~~~(word (0xF * 2 ^ 56))) ||| word (2 ^ 63 + op * 2 ^ 56)
  s.access h (fun s => writeBreq s (.hart h) (s.hart h).qid 0x08 w)

/-- APPLY_DELTA (R67, R77). -/
def execApplyDelta (h : Nat) (v : Word) (s : State) : Result := .next (s.submit h 1 v)

/-- STORE (R72). -/
def execStore (h : Nat) (v : Word) (s : State) : Result := .next (s.submit h 2 v)

/-- HART_START (R73). -/
def execHartStart (h : Nat) (v : Word) (s : State) : Result := .next (s.submit h 3 v)

/-- COLOPHON_REQUEST (R372). -/
def execColophonRequest (h : Nat) (v : Word) (s : State) : Result :=
  .next (s.access h (fun s => writeBreq s (.hart h) (s.hart h).qid 0x68 (v ||| word (2 ^ 63))))

/-- HANDOVER_ACK (R79): HANDOVER_ACK with REFUSE 0. -/
def execHandoverAck (h : Nat) (v : Word) (s : State) : Result :=
  .next (s.access h (fun s => writeBreq s (.hart h) (s.hart h).qid 0x20 (v &&& ~~~1#64)))

/-- HANDOVER_REFUSE (R78): HANDOVER_ACK with REFUSE 1. -/
def execHandoverRefuse (h : Nat) (v : Word) (s : State) : Result :=
  .next (s.access h (fun s => writeBreq s (.hart h) (s.hart h).qid 0x20 (v ||| 1#64)))

/-- HANDOVER_TIMEOUT (R78, R80): an old owner's HANDOVER_TIMEOUT_US has passed; one whose blocks are all fenced counts as quiesced. -/
def handoverTimeout (s : State) (o : Nat) : State :=
  match s.clasp.work with
  | some (.quiesce _ d _ waiting _ since) =>
    let due := since + 1000 * ((s.bind.quire o).map (·.handoverUs)).getD 0
    if !waiting.contains o ∨ s.time.now < due then s
    else if s.quiesced (s.bind.merge d) o then s.ownerDone o false
    else (s.ownerFails o Syn.handoverTimeout).goOnServing
  | _ => s

def execHandoverTimeout (q : Nat) (s : State) : Result := .next (handoverTimeout s q)

/-- MOVE_PHASE_END (R77, R80): every reset and zeroing has ended; units named in the command failed their reset. Lines that port groups still hold in what moves are called back first (R169). -/
def movePhaseEnd (s : State) (failed : List UnitId) : State :=
  match s.clasp.work with
  | some (.move q d digest) =>
    let new := s.bind.merge d
    if !s.moveSettled new then s
    else if !(s.movedPorts new).isEmpty then s.recallMoved (s.movedPorts new)
    else (s.finishMove q d digest failed).goOnServing
  | _ => s

def execMovePhaseEnd (failed : List UnitId) (s : State) : Result := .next (movePhaseEnd s failed)

/-- FLASH_PROGRAM_DONE (R72): the image is written and compared, then the commit record; a Binding loaded over SMBus is followed by a warm reset (R373). -/
def flashProgramDone (s : State) (imageOk recordOk : Bool) : State :=
  match s.clasp.work with
  | some (.flash q img t) =>
    let ok := imageOk && recordOk
    let s := (s.programSlot img t ok).setWork none
    let s := if ok then s else s.logClaspFor (q.getD 0) Syn.storeFail
    let step := if imageOk then 5 else 4
    match q with
    | some q => (if ok then s.endReq q 5 0 0 else s.endReq q step Syn.storeFail.code 1).goOnServing
    | none => if ok then s.startWarm .loadBinding else s.goOnServing
  | _ => s

def execFlashProgramDone (imageOk recordOk : Bool) (s : State) : Result := .next (flashProgramDone s imageOk recordOk)

end Sys2Proof.Machine
end

