-- ==== Sys2Proof/Machine/Debug.lean ====
section
/-! DEFINITION. Debug: sessions and their enables (R374), the debug module (R375), the Secure watchdog (R376), and the test access port (R244, R245). -/

namespace Sys2Proof.Machine

def swdAddr : Nat := controlAddr iodDie 0x000 0x400

/-- A hart that may access SWD_CTL: in M-mode and in the Secure world. -/
def State.swdHart (s : State) (who : Agent) : Bool :=
  match who with
  | .hart h => s.inM h && (s.hart h).secure
  | .governor | .clasp | .node _ => false

/-- An access to SWD_CTL that its rule forbids: the access fault, and WORLD_ACCESS_DENIED. -/
def State.swdRefuse (s : State) (who : Agent) (write : Bool) : State :=
  match who with
  | .hart h => (s.logWorldDenied h swdAddr).refuse who write swdAddr
  | .governor | .clasp | .node _ => s.refuse who write swdAddr

/-- SWD_CTL as it reads. -/
def State.swdRead (s : State) : Word :=
  let w := s.clasp.swd
  word (bitAt w.enable 63 + w.stage * 2 ^ 60 + w.hart * 2 ^ 32 + w.id * 2 ^ 21 + w.periodMs)

/-- Whether a period has passed. -/
def State.swdDue (s : State) : Bool := s.clasp.swd.enable && decide (s.clasp.swd.periodMs * 1000000 ≤ s.swdCounted)

/-- SWD_FIRST (R376): STAGE 1, and the MSI to the target's machine-level file, which is not paced. -/
def swdFirst (s0 : State) : State :=
  let s := s0.swdSync
  let w := s.clasp.swd
  if s.swdDue && w.stage == 0 then
    let s := (s.setSwd { w with stage := 1 }).swdRestart
    (s.logClaspFor (s.hart w.hart).qid Syn.swdFirst).sendMsi w.hart 0 w.id true
  else s0

def execSwdFirst (s : State) : Result := .next (swdFirst s)

/-- SWD_RESET (R356, R376): the second expiry is uncorrected-fatal. -/
def swdReset (s0 : State) : State :=
  let s := s0.swdSync
  if s.swdDue && s.clasp.swd.stage == 1 then (s.swdRestart).logClaspFor (s.hart s.clasp.swd.hart).qid Syn.swdReset else s0

def execSwdReset (s : State) : Result := .next (swdReset s)

/-- SWD_CTL written (R376): the target and the period are locked while the watchdog runs; a value that the rule does not allow is not stored.
A kick takes effect after an expiry that is due. -/
def writeSwd (s : State) (who : Agent) (v : Word) : State :=
  if !s.swdHart who then s.swdRefuse who true
  else
    let s := s.reserved who iodDie 0x000 0x400 v 0xF000FFFFFFE1FFFF
    let w := s.clasp.swd
    let hart := fieldOf v 32 16
    let id := fieldOf v 21 11
    let period := fieldOf v 0 17
    let same := hart == w.hart && id == w.id && period == w.periodMs
    let s := if w.enable && !same then s.whileActive who iodDie 0x000 0x400 v else s
    let w := if w.enable then w
      else
        { w with hart := if (s.hart hart).qid = s.agentQid who then hart else w.hart,
                 id := if 1 ≤ id ∧ s.bind.idSecure hart 0 id = true then id else w.id,
                 periodMs := if period ≤ 60000 then period else w.periodMs }
    let start := flagOf v 63 && !w.enable && decide (period ≠ 0) && decide (w.periodMs ≠ 0)
    let s := s.setSwd { w with enable := w.enable || start, stage := if start then 0 else w.stage }
    if start then s.swdRestart
    else if flagOf v 62 then
      let s := swdReset (swdFirst s)
      (s.setSwd { s.clasp.swd with stage := 0 }).swdRestart
    else s

/-- SWD_ENABLE (R376): SWD_CTL written with ENABLE. -/
def execSwdEnable (h : Nat) (v : Word) (s : State) : Result := .next (s.access h (fun s => writeSwd s (.hart h) (v ||| word (2 ^ 63))))

/-- KICK (R376): SWD_CTL written with KICK and its other fields as they stand. -/
def execKick (h : Nat) (s : State) : Result :=
  .next (s.access h (fun s => writeSwd s (.hart h) ((s.swdRead &&& word 0x0000FFFFFFE1FFFF) ||| word (2 ^ 62))))

/-! ### Sessions (R374) -/

/-- Harts that were halted and to which no INV enable applies any more go on (R375). -/
def State.releaseHalted (s : State) : State :=
  let go := (s.harts.filter (fun e => decide (e.2.run = .halted) && !s.invApplies e.1)).map (·.1)
  (go.foldl (fun s h => s.modHart h (fun x => x.leaveDebug)) s).swdSync

/-- A session opened, replacing an earlier one. -/
def State.openSession (s : State) (bits : BitVec 4) (durationS : Nat) : State :=
  let s := s.swdSync
  let open_ := bits &&& s.debugCeiling
  let s : State := { s with clasp := { s.clasp with session := some { bits := open_, fin := s.time.now + durationS * 1000000000 } } }
  let s := s.log ((Syn.debugOpened.record claspNode 0x11 0 0).withInfo 0 1 open_.toNat)
  s.releaseHalted.needResign

/-- The session ended. -/
def State.closeSession (s : State) : State :=
  if s.clasp.session.isSome then
    let s := s.swdSync
    let s : State := { s with clasp := { s.clasp with session := none } }
    (s.logClasp Syn.debugClosed).releaseHalted.needResign
  else s

/-- DEBUG_SESSION_EXPIRY (R374): DURATION_S has passed. -/
def execDebugSessionExpiry (s : State) : Result :=
  .next (match s.clasp.session with
    | some t => if t.fin ≤ s.time.now then s.closeSession else s
    | none => s)

/-- DBG_STAT as it reads (R375). -/
def State.dbgStat (s : State) : Word :=
  let left := match s.clasp.session with
    | some t => (t.fin - s.time.now + 999999999) / 1000000000
    | none => 0
  word (bitAt s.clasp.session.isSome 63 + left % 2 ^ 32 * 2 ^ 16 + s.debugCeiling.toNat * 2 ^ 4 + s.debugOpenBits.toNat)

/-! ### The debug module (R375) -/

def State.setCmderr (s : State) (e : Nat) : State := { s with dbg := { s.dbg with cmderr := e } }

/-- An abstract command on a hart: cmderr 3 without an applicable INV enable (R375), 4 where the hart is not halted. -/
def State.abstractCmd (s : State) (h : Nat) (f : State → State) : State :=
  if !s.invApplies h then s.setCmderr 3
  else if (s.hart h).run ≠ .halted then s.setCmderr 4
  else f (s.setCmderr 0)

/-- dcsr, dpc and dscratch0 and 1, which only debug mode reaches. -/
def debugCsr (n : Nat) : Bool := 0x7B0 ≤ n && n ≤ 0x7B3

/-- A CSR written by an abstract command: tdata1 with DMODE and an action of debug mode, lzworld under the enable of the target world (R375), any other as M-mode writes it. -/
def State.debugCsrWrite (s : State) (h n : Nat) (v : Word) : State :=
  if n = 0x7C0 then (if s.debugApplies h (flagOf v 0) false then s.csrWrite h n v else s.setCmderr 3)
  else if n = 0x7A1 then s.modHart h (fun x => x.writeTrigger v true)
  else s.csrWrite h n v

/-- A debugger's request (R375); there is no System Bus Access. -/
def State.dmiOp (s : State) (op : DmiOp) : State :=
  match op with
  | .haltreq h => if s.invApplies h && decide ((s.hart h).run = .running) then s.haltHart h 3 else s
  | .resumereq h => if (s.hart h).run = .halted then s.resumeHart h else s
  | .haltGroup h g => { s with dbg := { s.dbg with groups := Tab.set s.dbg.groups h (g % 32) } }
  | .readCsr h n => s.abstractCmd h (fun s => if csrExists n || debugCsr n then { s with dbg := { s.dbg with data := s.csrRead h n } } else s.setCmderr 3)
  | .writeCsr h n v => s.abstractCmd h (fun s => if csrExists n || debugCsr n then s.debugCsrWrite h n v else s.setCmderr 3)
  | .readReg h rd => s.abstractCmd h (fun s => { s with dbg := { s.dbg with data := (s.hart h).getX (rd % 32) } })
  | .writeReg h rd v => s.abstractCmd h (fun s => s.modHart h (fun x => x.setX (rd % 32) v))
  | .writeWorld h secure =>
    if s.debugApplies h secure false then s.abstractCmd h (fun s => s.writeWorld h (if secure then 1 else 0))
    else s.setCmderr 3
  | .sysbus _ => s

/-! ### The test access port (R244, R245) -/

/-- The order of the dies in the chain (R244). -/
def chainOrder : List Nat := [24, 16, 0, 1, 2, 17, 3, 4, 5] ++ [18, 6, 7, 8, 19, 9, 10, 11]

/-- Whether a die has power: all with PWRGOOD, and those that a package state leaves on (R386). -/
def State.diePowered (s : State) (die : Nat) : Bool :=
  s.pins.pwrgood && decide (s.pwr.pk < (if die = iodDie then 4 else if 16 ≤ die then 3 else 2))

/-- Whether a die is in the chain: powered, and not held in a region reset (R244, R354). -/
def State.inChain (s : State) (die : Nat) : Bool :=
  chainOrder.contains die && s.diePowered die && !s.err.resets.any (fun r => r.unit == dieUnit die)

/-- CHAIN_STATUS (R244). -/
def State.chainStatus (s : State) : Nat := maskOf ((List.range 17).filter (fun n => s.inChain (chainOrder.getD n 24)))

/-- The identification code of a die (R245). -/
def idcodeOf (die : Nat) : Nat := if die = iodDie then 0x1B5009C7 else if 16 ≤ die then 0x1B5109C7 else 0x1B5209C7

/-- A TAP instruction selected in a die. -/
def State.selectTap (s : State) (die code : Nat) : State := { s with pins := { s.pins with tap := Tab.set s.pins.tap die code } }

/-- BYPASS, whose one-bit register captures 0. -/
def State.tapBypass (s : State) (die : Nat) : State :=
  let s := s.selectTap die 0xFF
  { s with pins := { s.pins with dr := 0 } }

/-- A TAP instruction (R245): a die that does not implement it, or whose condition is not met, selects BYPASS; the latter is logged where a collector runs. -/
def State.tapInstr (s : State) (die code : Nat) (iodOnly cond : Bool) : State :=
  if !s.inChain die then s
  else if iodOnly && die != iodDie then s.tapBypass die
  else if cond then s.selectTap die code
  else
    let s := s.tapBypass die
    if s.clocked then s.log (Syn.testAccessDenied.record (ctlNode die) 0x10 die 0) else s

/-- Whether an instruction is now selected in a die. -/
def State.tapIs (s : State) (die code : Nat) : Bool := s.inChain die && Tab.get s.pins.tap 1 die == code

/-- A data register captured. -/
def State.capture (s : State) (v : Nat) : State := { s with pins := { s.pins with dr := v } }

/-- An authenticated session with N_INV and S_INV open (R245). -/
def State.testSession (s : State) : Bool := s.debugOpenBits.getLsbD 0 && s.debugOpenBits.getLsbD 2

/-- The crossings with an end on a die (R16, R223). -/
def dieCrossings (die : Nat) : List Nat :=
  if die = iodDie then (List.range 18).map (64 + ·) else crossingsOf (dieUnit die)

/-- The condition of WRAP_EXTEST and WRAP_INTEST. -/
def State.wrapOk (s : State) (die : Nat) : Bool :=
  s.testSession && (dieCrossings die).all (fun x => decide ((s.xl x).st = .down))

/-- EXTEST (R245). -/
def execExtest (die : Nat) (s : State) : Result := .next (s.tapInstr die 0x00 true (!s.pins.resetN))

/-- IDCODE (R245). -/
def execIdcode (die : Nat) (s : State) : Result :=
  let t := s.tapInstr die 0x01 false true
  .next (if t.tapIs die 0x01 then t.capture (idcodeOf die) else t)

/-- SAMPLE/PRELOAD (R245). -/
def execSamplePreload (die : Nat) (s : State) : Result := .next (s.tapInstr die 0x02 true true)

/-- CLAMP (R245). -/
def execClamp (die : Nat) (s : State) : Result := .next (s.tapInstr die 0x03 true (!s.pins.resetN))

/-- HIGHZ (R245). -/
def execHighz (die : Nat) (s : State) : Result := .next (s.tapInstr die 0x04 true (!s.pins.resetN))

/-- CHAIN_STATUS (R244, R245). -/
def execChainStatus (die : Nat) (s : State) : Result :=
  let t := s.tapInstr die 0x08 true true
  .next (if t.tapIs die 0x08 then t.capture t.chainStatus else t)

/-- DTMCS (R245); the spec does not give the register's value. -/
def execDtmcs (die : Nat) (s : State) : Result :=
  let t := s.tapInstr die 0x10 true true
  .next (if t.tapIs die 0x10 then t.draw.2.capture t.draw.1 else t)

/-- DMI (R245, R375). -/
def execDmi (die : Nat) (op : DmiOp) (s : State) : Result :=
  let t := s.tapInstr die 0x11 true true
  .next (if t.tapIs die 0x11 && t.clocked then t.dmiOp op else t)

/-- The die wrapper register takes what its die-to-die interfaces, or the die within, show, and is the data register; the spec gives neither its length nor its bits (R244; log 87). -/
def State.captureWrap (s : State) (die code : Nat) : State :=
  if s.tapIs die code then
    let d := s.draw
    let s := d.2.capture d.1
    { s with pins := { s.pins with wrap := Tab.set s.pins.wrap die d.1 } }
  else s

/-- WRAP_EXTEST (R244, R245). -/
def execWrapExtest (die : Nat) (s : State) : Result := .next ((s.tapInstr die 0x20 false (s.wrapOk die)).captureWrap die 0x20)

/-- WRAP_INTEST (R244, R245). -/
def execWrapIntest (die : Nat) (s : State) : Result := .next ((s.tapInstr die 0x21 false (s.wrapOk die)).captureWrap die 0x21)

/-- IJTAG_ACCESS (R244, R245): the segment insertion bit of a die opens its instrument network. -/
def execIjtagAccess (die : Nat) (s : State) : Result :=
  let t := s.tapInstr die 0x30 false s.testSession
  .next (if t.tapIs die 0x30 && !t.pins.sib.contains die then { t with pins := { t.pins with sib := t.pins.sib ++ [die] } } else t)

/-- BYPASS, or a code that no row of R245 lists. -/
def execBypass (die code : Nat) (s : State) : Result :=
  let listed := [0x00, 0x01, 0x02, 0x03, 0x04, 0x08, 0x10, 0x11, 0x20, 0x21, 0x30].contains code
  .next (if s.inChain die && !listed then s.tapBypass die else s)

end Sys2Proof.Machine
end

