-- ==== Sys2Proof/Machine/Governor.lean ====
section
/-! DEFINITION. The Governor (R381, R382, R396 to R400): its epochs, the changes of level, and its decision log. -/

namespace Sys2Proof.Machine

/-! ### Decision log (R400) -/

/-- SLACK_NS of an entry that concerns no Quire: the smallest slack of the epoch, a free value where no DONE was written. -/
def State.epochSlack (s : State) : Word × State :=
  match s.gov.quires.foldl (fun (m : Option Int) e =>
      match m, e.2.slack with
      | some a, some b => some (min a b)
      | none, b => b
      | a, none => a) none with
  | some d => (BitVec.ofInt 64 d, s)
  | none => (word s.draw.1, s.draw.2)

/-- An entry of the decision log: a ring of 4,096. -/
def State.govLog (s : State) (kind reason qid old new target : Nat) (slack : Word) : State :=
  let n := s.gov.logSeq
  let e : GovEntry := { time := s.now, kind := kind, reason := reason, qid := qid, old := old, new := new, target := target,
                        slack := slack, seq := n }
  { s with gov := { s.gov with log := Tab.set s.gov.log (n % 4096) e, logSeq := n + 1 } }

/-- An entry for a change that no Quire's slack made. -/
def State.govLogAt (s : State) (kind reason qid old new target : Nat) : State :=
  let r := s.epochSlack
  r.2.govLog kind reason qid old new target r.1

/-- The 32 bytes of an entry. -/
def GovEntry.bytes (e : GovEntry) : List Byte :=
  toLE 8 e.time ++ toLE 1 e.kind ++ toLE 1 e.reason ++ toLE 1 e.qid ++ toLE 1 e.old ++ toLE 1 e.new ++ toLE 1 0
    ++ toLE 2 e.target ++ toLE 8 e.slack.toNat ++ toLE 8 e.seq

/-- The selected entry as a reader may see it: the error owner every one, another Quire its own. -/
def State.govEntry (s : State) (h : Nat) : Option GovEntry :=
  (Tab.find s.gov.log s.gov.logSel).filter (fun e => s.ownerHart (.hart h) || (e.qid == (s.hart h).qid && e.qid != 0))

/-- GOV_LOG_SEL and GOV_LOG0 to GOV_LOG3 as they read. -/
def State.govLogRead (s : State) (h off : Nat) : Word :=
  if off = 0x200 then word (bitAt (s.govEntry h).isNone 63 + s.gov.logSel)
  else match s.govEntry h with
    | some e => word (ofLE (bytesAt e.bytes (off - 0x208) 8))
    | none => 0

/-- GOV_LOG_SEL written. -/
def writeGovSel (s : State) (who : Agent) (v : Word) : State :=
  match who with
  | .hart h =>
    if s.inM h then
      let s := s.reserved who iodDie 0x010 0x200 v 0x8000000000000FFF
      { s with gov := { s.gov with logSel := fieldOf v 0 12 } }
    else s.refuse who true (controlAddr iodDie 0x010 0x200)
  | .governor | .clasp | .node _ => s.refuse who true (controlAddr iodDie 0x010 0x200)

/-! ### The level that a Quire wants (R397) -/

/-- The clusters in which a Quire has harts, the lowest first. -/
def State.quireClusters (s : State) (q : Nat) : List Nat := s.clusterList.filter (fun c => (s.clusterQuires c).contains q)

/-- The change of one Quire's level at the end of an epoch: the new level and REASON, and the run of epochs with ample slack. -/
def GovQ.decide (g : GovQ) (r : GovRec) (fastest : Nat) : Option (Nat × Nat) × Nat :=
  let now := max (g.want.getD r.initialP) fastest
  let hold := fun (n : Nat) => max (min (max n r.pFast) r.pSlow) fastest
  let change := fun (n reason : Nat) => if hold n = now then none else some (hold n, reason)
  if g.missed then (change r.pFast 1, 0)
  else match g.slack with
    | none => (none, g.run8)
    | some d =>
      if d < (r.slackNs : Int) then (change (now - 1) 2, 0)
      else if d < 2 * (r.slackNs : Int) then (none, 0)
      else if g.run8 + 1 < 8 then (none, g.run8 + 1)
      else (change (now + 1) 3, 0)

/-- R397 for one policy record. -/
def State.epochQuire (s : State) (r : GovRec) : State :=
  let g := s.govQ r.qid
  let d := g.decide r s.bind.fastest
  let s := s.setGovQ r.qid { g with run8 := d.2 }
  match d.1 with
  | none => s
  | some (new, reason) =>
    let old := max (g.want.getD r.initialP) s.bind.fastest
    let slack := if g.missed then word (2 ^ 64 - 1) else BitVec.ofInt 64 (g.slack.getD 0)
    let s := s.setGovQ r.qid { s.govQ r.qid with want := some new }
    s.govLog 1 reason r.qid old new (((s.quireClusters r.qid).head?).getD 0) slack

/-! ### Limits (R398) -/

/-- POWER_LIMIT_W and TJ_TARGET_C; without a QID-0 record the TDP of the part and 100 °C. -/
def State.govLimits (s : State) : Nat × Nat :=
  match s.bind.govPkg with
  | some g => (g.powerLimitW, g.tjTargetC)
  | none => (s.fuse.tdp, 100)

/-- The clusters that R398 can move: no FIXED_P Quire, and not yet at their Quires' P_SLOW. -/
def State.movable (s : State) : List Nat :=
  s.clusterList.filter (fun c => let w := s.derivedLevel c; !w.2 && decide (w.1 < s.slowest c))

/-- One cluster moved one level slower in the next epoch. -/
def State.throttleOne (s : State) (reason c : Nat) : State :=
  let old := (s.derivedLevel c).1
  let s : State := { s with gov := { s.gov with throttle := Tab.mod s.gov.throttle 0 c (· + 1) } }
  s.govLogAt 1 reason 0 old (s.derivedLevel c).1 c

/-- GOV_LIMIT_UNMET (R398, R402); the tenth consecutive epoch asserts ALERT_N (R395). -/
def State.limitUnmet (s : State) : State :=
  let s := s.log (Syn.govLimitUnmet.record govNode 0x12 0 0)
  let s : State := { s with gov := { s.gov with unmet := s.gov.unmet + 1 } }
  if s.gov.unmet = 10 then s.alert 2 else s

/-- R398 at the end of an epoch. -/
def State.epochLimits (s : State) (t : Telemetry) : State :=
  let l := s.govLimits
  let hot := decide (l.2 < t.tempC)
  if hot || decide (l.1 < t.powerW) then
    match s.movable with
    | [] => s.limitUnmet
    | cs =>
      let s := cs.foldl (fun s c => s.throttleOne (if hot then 5 else 4) c) s
      let s : State := { s with gov := { s.gov with unmet := 0 } }
      if hot then s.log (Syn.thermalThrottle.record govNode 0x12 0 0) else s
  else { s with gov := { s.gov with throttle := [], unmet := 0 } }

/-! ### Shared resources (R399) -/

/-- B_SHARE moved within its limits. -/
def State.epochShare (s : State) (g : GovPkg) (n : Nat) : State :=
  let old := s.fabric.bShareNext.getD s.fabric.bShare
  if !g.adaptShare || n < g.bShareMin || g.bShareMax < n || n == old then s
  else ({ s with fabric := { s.fabric with bShareNext := some n } }).govLogAt 2 6 0 old n 0

/-- The ways of a slice that the Governor may lend to a Quire: named in no WAY_MASK and lent to no other Quire (R157). -/
def State.lendable (s : State) (n q : Nat) : BitVec 16 :=
  let named := (s.bind.l3Ways.filter (fun r => r.slice == n)).foldl (fun (m : BitVec 16) r => m ||| r.wayMask) 0
  let lent := ((s.slice n).q.filter (fun e => e.1 != q)).foldl (fun (m : BitVec 16) e => m ||| e.2.govMask) 0
  ~~~(named ||| lent)

def countWays (m : BitVec 16) : Nat := (maskBits 16 m.toNat).length

/-- The ways lent to a Quire in a slice: GOV_MASK (R157, R399). A way lent or reclaimed is written back and invalidated before its new owner allocates in it (R156); without L3_WAYS the Governor lends none (R49, R154). -/
def State.epochLend (s : State) (g : GovPkg) (n q : Nat) (m : BitVec 16) : State :=
  let p := Tab.get (s.slice n).q L3Q.reset q
  let adapts := ((s.bind.gov q).map (·.adaptL3)).getD false
  let old := countWays p.govMask
  if !adapts || !s.bind.hasL3Ways || sliceCount ≤ n || g.lendMax < countWays m || (m &&& ~~~(s.lendable n q)) != 0 || m == p.govMask then s
  else
    let s := s.flushWays n (m ^^^ p.govMask).toNat 0
    let s := s.modSlice n (fun t => { t with q := Tab.set t.q q { p with govMask := m } })
    s.govLogAt (if countWays m < old then 4 else 3) 6 q old (countWays m) n

/-- A core's prefetch degree. -/
def State.epochPrefetch (s : State) (h n : Nat) : State :=
  let x := s.hart h
  let adapts := ((s.bind.gov x.qid).map (·.adaptPrefetch)).getD false
  if !adapts || !s.fuse.hartOk h || 3 < n || n == x.prefetchDeg then s
  else (s.modHart h (fun x => { x with prefetchDeg := n })).govLogAt 5 6 x.qid x.prefetchDeg n h

/-- The placement of refresh within tREFI. -/
def State.epochRefresh (s : State) (g : GovPkg) (n : Nat) : State :=
  let old := s.gov.refreshShift
  if !g.adaptRefresh || n == old then s
  else ({ s with gov := { s.gov with refreshShift := n } }).govLogAt 6 6 0 old n 0

/-- The adjustments of R399; none without a QID-0 record (R396). -/
def State.epochAdjust (s : State) (t : Telemetry) : State :=
  match s.bind.govPkg with
  | none => s
  | some g =>
    let s := match t.bShare with
      | some n => s.epochShare g n
      | none => s
    let s := t.lend.foldl (fun s e => s.epochLend g e.1 e.2.1 e.2.2) s
    let s := t.prefetch.foldl (fun s e => s.epochPrefetch e.1 e.2) s
    match t.refresh with
    | some n => s.epochRefresh g n
    | none => s

/-! ### Meanings -/

/-- The end of an epoch (R396 to R399): the Quires' levels, the limits, the shared resources, and every cluster's level under R383. -/
def governorEpoch (s : State) (t : Telemetry) : State :=
  if s.boot.phase = .running ∧ s.pwr.pk < 2 then
    let s := if s.bind.govPkg.isSome then (s.bind.govs.filter (fun r => !r.fixedP)).foldl State.epochQuire s else s
    let s := (s.epochLimits t).epochAdjust t
    let boost := s.bind.allowBoost && s.gov.throttle.isEmpty && s.gov.unmet == 0
    let s : State := { s with gov := { s.gov with boost := boost,
                                                  quires := s.gov.quires.mapAll (fun _ g => { g with slack := none, missed := false }) } }
    s.deriveLevels boost
  else s

def execGovernorEpoch (t : Telemetry) (s : State) : Result := .next (governorEpoch s t)

/-- FREQUENCY_SWITCH (R381): the voltage has risen, and the cluster runs at its faster level. -/
def frequencySwitch (s : State) (c : Nat) : State :=
  let x := s.cluster c
  match x.ramp with
  | some t => if s.fuse.clusterOk c then s.putCluster c { x with granted := t, changes := x.changes + 1, ramp := none } else s
  | none => s

def execFrequencySwitch (cluster : Nat) (s : State) : Result := .next (frequencySwitch s cluster)

/-- CURRENT_LIMITER_TRIP (R382): every cluster above P4 drops to P4 until the next epoch. -/
def currentLimiterTrip (s : State) : State :=
  if s.boot.phase = .running then
    let s : State := { s with gov := { s.gov with boost := false } }
    let s := s.clusterList.foldl (fun s c =>
      let x := s.cluster c
      let x := { x with ramp := match x.ramp with | some t => if t < 4 then none else some t | none => none }
      if x.granted < 4 then s.putCluster c { x with granted := 4, changes := x.changes + 1 } else s.putCluster c x) s
    s.log (Syn.govLimitUnmet.record govNode 0x12 0 0)
  else s

def execCurrentLimiterTrip (s : State) : Result := .next (currentLimiterTrip s)

/-! ### CLU_PSTAT and CIDLE (R383, R385) -/

/-- CLU_PSTAT as it reads (R383). -/
def Cluster.pstat (c : Cluster) : Word :=
  word (c.wanted * 2 ^ 48 + c.granted * 2 ^ 44 + bitAt c.fixed 40 + c.changes.toNat)

/-- Harts of any Quire with a hart in the cluster read CLU_PSTAT in M-mode (R383). -/
def State.readsPstat (s : State) (h c : Nat) : Bool := s.inM h && (s.clusterQuires c).contains (s.hart h).qid

/-- CIDLE written (R385): only by M-mode harts of the core's own Quire; 0b00 stores 0b01. -/
def writeCidle (s : State) (who : Agent) (core : Nat) (v : Word) : State :=
  if !s.mHartOf who (s.hart core).qid then
    s.log (Syn.pwrReqDenied.record (hartOrigin core) 0x01 core (s.agentQid who))
  else
    let s := s.reserved who (hartCd core) (0x20 + core % 32) 0x118 v 3
    let d := fieldOf v 0 2
    s.modHart core (fun x => { x with cidle := if d = 0 then 1 else d })

end Sys2Proof.Machine
end

