-- ==== Sys2Proof/Machine/Package.lean ====
section
/-! DEFINITION. The package states PK1 to PK4 (R267, R329, R386 to R390): requests, entry, wake sources and exit. -/

namespace Sys2Proof.Machine

/-! ### PK_CTL -/

def pkCtlOff : Nat := 0x100

/-- PK_CTL as it reads. -/
def Power.pkCtl (w : Power) : Word :=
  word (bitAt w.pkPending 62 + w.pk * 2 ^ 59 + w.pkTarget * 2 ^ 56 + w.pkWakeTime)

/-- PK_CTL written (R387, R390): only by M-mode harts of the error owner. -/
def writePkCtl (s : State) (who : Agent) (v : Word) : State :=
  if !s.ownerHart who then s.refuse who true (controlAddr iodDie 0x010 pkCtlOff)
  else if s.pwr.pkPending then s.whileActive who iodDie 0x010 pkCtlOff v
  else
    let t := fieldOf v 56 3
    let ok := 2 ≤ t && t ≤ 4
    let s := if ok then s else s.logWrite Syn.reservedWrite who iodDie 0x010 pkCtlOff v
    { s with pwr := { s.pwr with pkTarget := if ok then t else s.pwr.pkTarget, pkWakeTime := fieldOf v 0 56, pkPending := flagOf v 63 } }

/-- PK_CTL_GO (R387): the row's write has GO set. -/
def execPkCtlGo (h : Nat) (v : Word) (s : State) : Result :=
  .next (s.access h (fun s => writePkCtl s (.hart h) (v ||| word (2 ^ 63))))

/-! ### Conditions of entry (R387) -/

/-- Whether every core that is not held in reset or fenced is in C3. -/
def State.allInC3 (s : State) : Bool :=
  s.harts.all (fun e => !s.fuse.hartOk e.1 || decide (e.2.run = .reset) || decide (e.2.run = .fenced)
    || (e.1 % 2 == 1 && (s.hart (e.1 - 1)).paired) || decide (e.2.cstate = .c3))

/-- Whether the fabric carries no message. -/
def State.fabricIdle (s : State) : Bool :=
  s.net.coh.isEmpty && s.net.mail.isEmpty && s.net.ans.isEmpty && s.net.msi.isEmpty && s.net.io.isEmpty

/-- Whether no Clasp request is BUSY (R81). -/
def State.claspIdle (s : State) : Bool :=
  s.clasp.work.isNone && s.clasp.breq.all (fun e => !breqBusy e.2.st && !breqBusy e.2.colSt)

/-- PK_ENTERED and the Firefly log (R394, R402). -/
def State.pkEntered (s : State) (k : Nat) : State :=
  (s.log ((Syn.pkEntered.record govNode 0x1A 0 0).withInfo 0 1 k)).ffLog 2 k 0

/-- PK1_ENTRY (R387): every core in C3 and the fabric idle for 1 µs. -/
def pk1Entry (s : State) : State :=
  if s.boot.phase = .running ∧ s.boot.flush = .none ∧ s.pwr.pk = 0 ∧ s.pwr.pkEntering.isNone ∧ s.allInC3 = true ∧ s.fabricIdle = true then
    ({ s with pwr := { s.pwr with pk := 1 } }).pkEntered 1
  else s

def execPk1Entry (s : State) : Result := .next (pk1Entry s)

/-- Every armed channel counted as missed, with PKG_SLEEP (R329). -/
def State.sleepMisses (s : State) : State :=
  s.harts.foldl (fun s e =>
    (maskBits 4 e.2.dlArmed.toNat).foldl (fun s n => (s.channelMissAs e.1 n 2).modHart e.1 Hart.noteWake) s) s

/-- PK_ENTRY (R387, R329): the pending request's entry begins, the trigger of its flush (R267), and armed deadlines count as missed. -/
def pkEntry (s : State) : State :=
  if s.boot.phase = .running ∧ s.boot.flush = .none ∧ s.pwr.pkPending = true ∧ s.pwr.pk < 2 ∧ s.pwr.pkEntering.isNone
      ∧ s.pwr.pkExiting.isNone ∧ s.allInC3 = true ∧ s.fabricIdle = true ∧ s.claspIdle = true then
    let s : State := { s with pwr := { s.pwr with pkPending := false, pkEntering := some s.pwr.pkTarget, pkDrained := false },
                              boot := { s.boot with flushTrigger := 3, flushTime := s.now, flushMoving := s.movingWindows } }
    s.swdSync.sleepMisses
  else s

def execPkEntry (s : State) : Result := .next (pkEntry s)

/-! ### What the states lose (R378, R386) -/

/-- A core whose CD was off (R386): its architectural state was saved in the cluster logic and is lost, so every register of it is a free value; caches, TLBs, predictors, interrupt files and mailboxes are empty, and the counters 0. -/
def Hart.lose (x fresh : Hart) (f : Nat → Nat) : Hart :=
  let w := fun (i : Nat) => word (f i)
  let loop := fun (i : Nat) =>
    ({ active := bitOf (f i) 0, virt := bitOf (f i) 1, prv := if bitOf (f i) 2 then .m else if bitOf (f i) 3 then .s else .u,
       len := f (i + 1) % 4096, count := f (i + 2) % 2 ^ 48, stop := w (i + 3) } : Loop)
  let mode := if bitOf (f 1) 0 then Mode.m else if bitOf (f 1) 1 then .s else .u
  { fresh with
    run := x.run, qid := x.qid, paired := x.paired, cstate := x.cstate, cSince := x.cSince, wakeHeld := x.wakeHeld,
    l2Secure := x.l2Secure, cidle := x.cidle, secure := bitOf (f 0) 0, mode := mode, virt := bitOf (f 0) 1 && decide (mode ≠ .m),
    pc := w 2, lastPc := w 3, lzspec := BitVec.ofNat 4 (f 4), lzwalkM := w 5, lzwalkHs := w 6, lzwalkVs := w 7, lztlblock := w 8,
    loop0 := loop 10, loop1 := loop 14, dlTime := (List.range 4).map (fun n => (n, w (20 + n))), dlMissed := BitVec.ofNat 4 (f 24),
    dlExcEn := BitVec.ofNat 4 (f 25),
    x := (List.range 31).map (fun n => (n + 1, w (30 + n))), f := (List.range 32).map (fun n => (n, w (70 + n))),
    vec := (List.range 32).map (fun n => (n, BitVec.ofNat 256 (f (110 + n)))),
    triggers := (List.range 8).map (fun n => (n, (w (150 + 2 * n), w (151 + 2 * n)))),
    csr := standardCsrs.foldl (fun t n => Tab.set t n (w (200 + n))) [] }

/-- Every core that runs loses its state with its CD (R386); the draws are counted. -/
def State.loseCds (s : State) : State :=
  let n := s.free
  let lose := fun (h : Nat) (x : Hart) => if x.run = .running then x.lose (s.freshHart h) (fun i => Config.freeValue (n + 8192 * h + i)) else x
  { s with harts := s.harts.mapAll lose, clusters := [], free := n + 8192 * hartCount }

/-- What PK3 loses besides (R378, R386, R389): the L3 contents, and the units of IOD-B with their settings; TSN links go down.
The queue contexts stay in memory and the key handles in the Clasp; nothing is in flight, so each fetch point is its CONS_IDX (log 81). -/
def State.losePk3 (s : State) : State :=
  let s := s.writeBackL3
  let qe := { Qe.reset with ctx := s.qe.ctx.mapAll (fun _ c => { c with fetch := c.cons, disabling := false }), keys := s.qe.keys }
  { s with slices := [], mem := s.mem.drain, qe := qe, fabric := Fabric.reset, net := { s.net with stats := [] }, gov := Governor.reset,
           chk := { units := [], fenced := s.chk.fenced }, io := { s.io with tsn := [] } }

/-! ### Wake (R388, R389) -/

/-- Whether a source wakes a state: the table of R389. -/
def pkWakes (src : PkSrc) (k : Nat) : Bool :=
  match src with
  | .core => k == 1
  | .wakeTime | .firefly | .systemLink => 1 ≤ k && k ≤ 4
  | .pcie | .smbus => 1 ≤ k && k ≤ 3
  | .tsn => 1 ≤ k && k ≤ 2

/-- The exit starts: a wake from PK4 repeats start-up as a warm reset does (R388). -/
def State.startExit (s : State) (src : PkSrc) : State :=
  let s : State := { s with pwr := { s.pwr with pkExiting := some src } }
  if s.pwr.pk = 4 then s.startWarm .pk4Wake else s

/-- A wake event (R388, R389): held during entry, else the start of the exit; nothing in PK0 or while an exit runs. -/
def State.wakeBy (s : State) (src : PkSrc) : State :=
  match s.pwr.pkEntering with
  | some k => if pkWakes src k && s.pwr.pkWakeHeld.isNone then { s with pwr := { s.pwr with pkWakeHeld := some src } } else s
  | none => if pkWakes src s.pwr.pk && s.pwr.pkExiting.isNone && decide (s.boot.phase = .running) then s.startExit src else s

/-- PK_ENTRY_COMPLETE (R267, R386, R388): the flush rows have run, at the latest now, with nothing failing (log 69); what the state loses is lost, and a held wake starts the exit; a fall of RESET_N that waited takes effect (R419). -/
def pkEntryComplete (s : State) : State :=
  match s.pwr.pkEntering with
  | none => s
  | some k =>
    let s := if s.pwr.pkDrained then s else s.sleepFlush k []
    let s := (if 3 ≤ k then s.losePk3 else s).loseCds
    let s : State := if k = 4 then { s with io := { s.io with groups := s.io.groups.mapAll (fun _ g => { g with linkUp := [] }) } } else s
    let held := s.pwr.pkWakeHeld
    let s : State := { s with pwr := { s.pwr with pk := k, pkEntering := none, pkDrained := false, pkWakeHeld := none } }
    let s := s.swdSync.pkEntered k
    if !s.pins.resetN then s.startWarm .pin
    else match held with
      | some src => s.startExit src
      | none => s

def execPkEntryComplete (s : State) : Result := .next (pkEntryComplete s)

/-- Whether package time has reached WAKE_TIME: its low 56 bits, 0 for none (R390). -/
def State.wakeTimeDue (s : State) : Bool :=
  s.pwr.pkWakeTime != 0 && decide ((s.now + 2 ^ 56 - s.pwr.pkWakeTime) % 2 ^ 56 < 2 ^ 55)

/-- Whether a wake source that the state shows has its event; the others come from outside. -/
def State.wakeSeen (s : State) (src : PkSrc) : Bool :=
  match src with
  | .core => s.harts.any (fun e => s.fuse.hartOk e.1 && s.wakeDue e.1)
  | .wakeTime => s.wakeTimeDue
  | .systemLink => s.sl.ports.any (fun e => e.2.wakeReq || !e.2.wake.isEmpty)
  | .firefly | .pcie | .tsn | .smbus => true

/-- PK_WAKE (R389). -/
def execPkWake (src : PkSrc) (s : State) : Result := .next (if s.wakeSeen src then s.wakeBy src else s)

/-- WAKE_TIME_REACHED (R389). -/
def execWakeTimeReached (s : State) : Result := .next (if s.wakeTimeDue then s.wakeBy .wakeTime else s)

/-- What a wake from PK3 sets up again from the effective Binding (R73): slices, tables, Check units. -/
def State.restorePk3 (s : State) : State :=
  let s := (List.range sliceCount).foldl (fun s n => s.setSlice n (s.freshSlice n)) s
  let s := s.applyTables s.bind
  (List.range 16).foldl (fun s i => s.resetOpenUnit (16 + i)) s

/-- PK_EXIT_COMPLETE (R265, R314, R376, R386): the package is back in PK0; from PK2 on the windows are armed, the wake buffers delivered and the watchdog's count restarted. -/
def pkExitComplete (s : State) : State :=
  match s.pwr.pkExiting with
  | none => s
  | some src =>
    let k := s.pwr.pk
    if k = 0 ∨ 4 ≤ k then s
    else
      let s : State := { s with pwr := { s.pwr with pk := 0, pkExiting := none } }
      let s := if k = 3 then s.restorePk3 else s
      let s := if k = 1 then s else ((s.deriveLevels false).armAll false).slWakeDeliver.swdRestart
      s.pkWoken src

def execPkExitComplete (s : State) : Result := .next (pkExitComplete s)

end Sys2Proof.Machine
end

