-- ==== Sys2Proof/Machine/Firefly.lean ====
section
/-! DEFINITION. The Firefly (R391 to R395, R401): filter chains, rules, the mailbox registers, a lockstep mismatch, and rail faults. -/

namespace Sys2Proof.Machine

/-! ### Filter chains (R392) -/

/-- The k-th smallest of a list of codes. -/
def nthSmallest (l : List Nat) (k : Nat) : Nat := (sortBy (fun a b => decide (a ≤ b)) l).getD k 0

/-- A decimated value through IIR and median; the median waits until it has its number of outputs. -/
def FfFilt.output (t : FfFilt) (shift medianLen x : Nat) : FfFilt :=
  let y := match t.y with
    | none => x
    | some y => ((y : Int) + ((x : Int) - (y : Int)) / (2 ^ shift : Nat)).toNat % 2 ^ 20
  let hist := (y :: t.hist).take medianLen
  if hist.length < medianLen then { t with y := some y, hist := hist }
  else { t with y := some y, hist := hist, value := nthSmallest hist (medianLen / 2), fresh := true }

/-- One raw sample of an enabled channel: decimation by D, and every D samples one output. -/
def FfFilt.sample (t : FfFilt) (cfg : Word) (raw : Nat) : FfFilt :=
  let d := fieldOf cfg 55 8 + 1
  let t := { t with sum := t.sum + raw, n := t.n + 1 }
  if t.n < d then t
  else { t with sum := 0, n := 0 }.output (fieldOf cfg 51 4) (2 * fieldOf cfg 49 2 + 1) (t.sum / d)

/-- The comparator on the raw input: up above TH × 1.8 V / 1,024, down below that level minus HYST mV. -/
def compare (old : Bool) (cfg : Word) (raw : Nat) : Bool :=
  let th := fieldOf cfg 33 10
  if th * 65535 < raw * 1024 then true
  else if (raw : Int) * 18 * 1024 * 1000 < (th : Int) * 18 * 65535 * 1000 - (fieldOf cfg 43 6 : Int) * 10 * 1024 * 65535 then false
  else old

/-- The channel that the converter samples in this microsecond: the next enabled one in ascending order after the last, wrapping (R392). -/
def Firefly.sarNext (f : Firefly) : Option Nat :=
  ((List.range 8).map (fun k => (f.sar + 1 + k) % 8)).find? (fun n => flagOf (Tab.get f.chan 0 n) 63)

/-- The inputs of one evaluation taken into the channels: every comparator sees its raw input, and the one channel whose turn it is is sampled. -/
def Firefly.sampleAll (f : Firefly) (i : FfInputs) : Firefly :=
  let due := f.sarNext
  let f := { f with sar := due.getD f.sar }
  let f := { f with filt := f.filt.mapAll (fun _ t => { t with fresh := false }) }
  (i.ain.filter (fun e => e.1 < 8)).foldl (fun (f : Firefly) e =>
    let cfg := Tab.get f.chan 0 e.1
    let t := Tab.get f.filt FfFilt.reset e.1
    let raw := e.2 % 65536
    let t := { t with comp := compare t.comp cfg raw }
    { f with filt := Tab.set f.filt e.1 (if due = some e.1 then t.sample cfg raw else t) }) f

/-! ### Rules (R393) -/

/-- The value of a rule's SRC, and whether there is one. -/
def Firefly.source (f : Firefly) (i : FfInputs) (src : Nat) : Option Nat :=
  if src < 8 then some (Tab.get f.filt FfFilt.reset src).value
  else if src < 16 then some (bitAt (Tab.get f.filt FfFilt.reset (src - 8)).comp 0)
  else if src < 32 then some (bitAt (i.gpio.getLsbD (src - 16)) 0)
  else if src = 32 then some (bitAt i.smbAlert 0)
  else none

/-- A rule's condition as its input shows it now. -/
def Firefly.condition (f : Firefly) (i : FfInputs) (w : Word) : Bool :=
  let limit := fieldOf w 32 16
  match f.source i (fieldOf w 0 8), fieldOf w 8 8 with
  | some v, 1 => decide (limit ≤ v)
  | some v, 2 => decide (v ≤ limit)
  | some v, 3 => v == 1
  | some v, 4 => v == 0
  | _, _ => false

/-- A rule's condition debounced (R392): on a filtered value it changes after DEBOUNCE consecutive values. -/
def FfRuleSt.see (t : FfRuleSt) (fresh : Bool) (deb now : Nat) (c : Bool) : FfRuleSt :=
  if c = t.cond then { t with run := if fresh then 0 else t.run }
  else if !fresh then t
  else if t.run + 1 < deb then { t with run := t.run + 1 }
  else { cond := c, run := 0, since := now, fired := false }

/-- One rule at an evaluation: its new progress, and whether it fires (R393). -/
def Firefly.ruleStep (f : Firefly) (i : FfInputs) (now n : Nat) (w : Word) : FfRuleSt × Bool :=
  let src := fieldOf w 0 8
  let t := Tab.get f.ruleSt FfRuleSt.reset n
  let filtered := src < 8
  let deb := if filtered then max (fieldOf (Tab.get f.chan 0 src) 25 8) 1 else 1
  let fresh := !filtered || (Tab.get f.filt FfFilt.reset src).fresh
  let t := t.see fresh deb now (f.condition i w)
  if t.cond && !t.fired && decide (t.since + 1000 * fieldOf w 48 16 ≤ now) then ({ t with fired := true }, true) else (t, false)

/-- Rules whose second word has been written are committed (R395); a committed rule starts with its condition false. -/
def Firefly.commit (f : Firefly) : Firefly :=
  let ready := (List.range 64).filter (fun n => (Tab.find f.staged (2 * n + 1)).isSome)
  ready.foldl (fun (f : Firefly) n =>
    let old := Tab.get f.rules (0, 0) n
    let w0 := (Tab.find f.staged (2 * n)).getD old.1
    let w1 := (Tab.find f.staged (2 * n + 1)).getD old.2
    { f with rules := Tab.set f.rules n (w0, w1), staged := Tab.del (Tab.del f.staged (2 * n)) (2 * n + 1),
             ruleSt := Tab.del f.ruleSt n }) f

/-- The rules that fire at an evaluation, in rising order, with their first words. -/
def Firefly.evaluate (f : Firefly) (i : FfInputs) (now : Nat) : Firefly × List (Nat × Word) :=
  f.rules.foldl (fun (r : Firefly × List (Nat × Word)) e =>
    let t := r.1.ruleStep i now e.1 e.2.1
    ({ r.1 with ruleSt := Tab.set r.1.ruleSt e.1 t.1 }, if t.2 then r.2 ++ [(e.1, e.2.1)] else r.2)) (f, [])

/-- Whether a fired rule has an action. -/
def hasAct (e : Nat × Word) (i : Nat) : Bool := flagOf e.2 (16 + i)

/-- BODY of a RULE_FIRED entry: the eight filtered values (R394). -/
def Firefly.values (f : Firefly) : Nat :=
  ofLE ((List.range 8).flatMap (fun n => toLE 2 (Tab.get f.filt FfFilt.reset n).value))

/-- LOG of one rule. -/
def State.ruleLog (s : State) (n : Nat) : State :=
  let s := s.ffLog 1 n s.ff.values
  if s.clocked then s.log ((Syn.ffRuleFired.record ffNode 0x14 0 0).withInfo 0 1 n) else s

/-- GPIO_SET or GPIO_CLEAR of one rule; a rule with both leaves a free level. -/
def State.ruleGpio (s : State) (w : Word) : State :=
  let pin := fieldOf w 24 8
  let set := flagOf w 20
  let clr := flagOf w 21
  let put := fun (s : State) (b : Bool) => { s with ff := { s.ff with gpioOut := Tab.set s.ff.gpioOut pin b } }
  if 16 ≤ pin ∨ (!set && !clr) = true then s
  else if set && clr then put s.draw.2 (bitOf s.draw.1 0)
  else put s set

/-- The actions of the rules that fired, in the order of R393; of two rules for one GPIO the lower-numbered wins. -/
def State.ruleActs (s : State) (rs : List (Nat × Word)) : State :=
  let s := (rs.filter (fun e => hasAct e 0)).foldl (fun s e => s.ruleLog e.1) s
  let s := match rs.find? (fun e => hasAct e 3) with
    | some e =>
      if s.boot.phase = .running ∧ s.boot.flush = .none ∧ s.ff.flushRule.isNone then
        ({ s with ff := { s.ff with flushRule := some e.1 } } : State)
      else s
    | none => s
  let s := if rs.any (fun e => hasAct e 2) then s.alert 0 else s
  let s := rs.reverse.foldl (fun s e => s.ruleGpio e.2) s
  if rs.any (fun e => hasAct e 1) then s.wakeBy .firefly else s

/-- After a flush that a rule triggered, the warm reset once the rule's condition has been false for 1 ms (R393). -/
def State.ruleRecovery (s : State) : State :=
  match s.ff.flushRule with
  | none => s
  | some n =>
    let t := Tab.get s.ff.ruleSt FfRuleSt.reset n
    if s.boot.phase = .flushed ∧ s.boot.flushByRule = true ∧ t.cond = false ∧ t.since + 1000000 ≤ s.time.now then
      ({ s with ff := { s.ff with flushRule := none } }).startWarm .flush
    else s

/-- FF_RULE_EVALUATION (R392, R393). -/
def ffRuleEvaluation (s : State) (i : FfInputs) : State :=
  if s.pins.stbyPwrgood && s.ff.booted && !s.ff.restarting then
    let f := (s.ff.sampleAll i).commit
    let r := f.evaluate i s.time.now
    (({ s with ff := r.1 } : State).ruleActs r.2).ruleRecovery
  else s

def execFfRuleEvaluation (i : FfInputs) (s : State) : Result := .next (ffRuleEvaluation s i)

/-! ### The mailbox (R395) -/

def ffAddr (off : Nat) : Nat := controlAddr iodDie 0x040 off

/-- The Firefly log as its words show it: entry e of the ring. -/
def Firefly.logWord (f : Firefly) (k : Nat) : Word :=
  match Tab.find f.log (k / 12) with
  | some e => word (ofLE (bytesAt e.bytes (8 * (k % 12)) 8))
  | none => 0

/-- The word that an index selects, none where no word lies there. -/
def Firefly.selected (f : Firefly) (n : Nat) : Option Word :=
  if n < 8 then some (Tab.get f.chan 0 n)
  else if 0x100 ≤ n ∧ n < 0x180 then
    let r := Tab.get f.rules (0, 0) ((n - 0x100) / 2)
    some (if n % 2 = 0 then r.1 else r.2)
  else if 0x200 ≤ n ∧ n < 0x208 then some (word (Tab.get f.filt FfFilt.reset (n - 0x200)).value)
  else if 0x1000 ≤ n ∧ n < 0x1000 + 12 * 1024 then some (f.logWord (n - 0x1000))
  else none

/-- INDEX advances after an access of FF_DATA under AUTO_INC. -/
def Firefly.advance (f : Firefly) : Firefly :=
  if flagOf f.sel 63 then { f with sel := word (2 ^ 63 + (fieldOf f.sel 0 14 + 1) % 2 ^ 14) } else f

/-- FF_DATA written: a channel setting, whose filter chain starts anew, or a word of a rule. -/
def writeFfData (s : State) (who : Agent) (v : Word) : State :=
  if !s.ownerHart who then s.refuse who true (ffAddr 0x08)
  else
    let n := fieldOf s.ff.sel 0 14
    let s : State :=
      if n < 8 then
        { s with ff := { s.ff with chan := Tab.set s.ff.chan n (v &&& ~~~(word 0x1FFFFFF)),
                                   filt := Tab.del s.ff.filt n } }
      else if 0x100 ≤ n ∧ n < 0x180 then { s with ff := { s.ff with staged := Tab.set s.ff.staged (n - 0x100) v } }
      else s.logWrite Syn.reservedWrite who iodDie 0x040 0x08 v
    { s with ff := s.ff.advance }

/-- FF_SEL and FF_ALERT written; FF_DATA has a row of its own. -/
def writeFf (s : State) (who : Agent) (off : Nat) (v : Word) : State :=
  if off = 0x08 then writeFfData s who v
  else if !s.ownerHart who then s.refuse who true (ffAddr off)
  else if off = 0x00 then
    let s := s.reserved who iodDie 0x040 0x00 v 0x8000000000003FFF
    { s with ff := { s.ff with sel := v &&& word 0x8000000000003FFF } }
  else
    let s := s.reserved who iodDie 0x040 0x10 v 0x1F
    { s with ff := { s.ff with alert := s.ff.alert &&& ~~~(v.setWidth 5) } }

/-- FF_DATA_WRITE (R395). -/
def execFfDataWrite (h : Nat) (v : Word) (s : State) : Result := .next (s.access h (fun s => writeFfData s (.hart h) v))

/-- FF_DATA as it reads; where no word lies, a free value. -/
def State.ffDataRead (s : State) : Word := (s.ff.selected (fieldOf s.ff.sel 0 14)).getD (word s.draw.1)

/-- What a read of FF_DATA does besides. -/
def State.ffDataAfter (s : State) : State :=
  let s := if (s.ff.selected (fieldOf s.ff.sel 0 14)).isNone then s.draw.2 else s
  { s with ff := s.ff.advance }

/-- FF_DATA_READ (R395). -/
def execFfDataRead (h rd : Nat) (s : State) : Result :=
  .next (s.readReg h rd (ffAddr 0x08) (fun s => s.ownerHart (.hart h)) State.ffDataRead State.ffDataAfter)

/-! ### Lockstep (R391) -/

/-- FF_LOCKSTEP (R391, R344, R394): logged, ALERT_N asserted, and the Firefly restarts with ALIVE held low; rules and channel settings are kept. -/
def ffLockstep (s : State) : State :=
  if s.pins.stbyPwrgood && s.ff.booted && !s.ff.restarting then
    let s := (s.alert 4).ffLog 7 0 0
    let s := if s.clocked then s.log (Syn.ffLockstep.record ffNode 0x14 0 0) else s
    { s with ff := { s.ff with restarting := true }, pins := { s.pins with aliveToggling := false } }
  else s

def execFfLockstep (s : State) : Result := .next (ffLockstep s)

/-- Whether ALIVE toggles once the Firefly runs: not with RESET_N low, nor from the start of a warm reset until the Clasp has booted (R391). -/
def State.aliveDue (s : State) : Bool :=
  s.pins.resetN && match s.boot.phase with
    | .off | .standby | .draining => false
    | .ready _ => s.boot.claspUp || !s.boot.warm
    | .noBinding | .running | .refclkLost | .powerFail | .flushed | .tripped => true

/-- FIREFLY_RESTART_DONE (R391). -/
def execFireflyRestartDone (s : State) : Result :=
  .next (if s.ff.restarting then
      { s with ff := { s.ff with restarting := false }, pins := { s.pins with aliveToggling := s.aliveDue } }
    else s)

/-! ### Rail faults (R401) -/

/-- One block of a rail that failed: RAIL_FAULT logged and the block fenced, under R366 where it is Secure-held. -/
def State.railFaultOf (s : State) (u : UnitId) : State :=
  if s.unitExists u then
    let s := if s.secureHeld u then blockLost s u else s
    s.log (Syn.railFault.record (unitNode u) u.ty u.no 0)
  else s

/-- NOC_PLL_LOCK_LOST (R36, R366): a die other than the IOD is fenced as a region, under R366 where it is Secure-held; on the IOD it is REFCLK loss. -/
def nocPllLockLost (s : State) (die : Nat) : State :=
  if !s.clocked || !packageDies.contains die then s
  else if die = iodDie then s.refclkGone
  else
    let s := if s.secureHeld (dieUnit die) then blockLost s (dieUnit die) else s
    s.log (State.regionRecord die)

def execNocPllLockLost (die : Nat) (s : State) : Result := .next (nocPllLockLost s die)

/-- RAIL_FAULT (R401). -/
def execRailFault (units : List UnitId) (s : State) : Result :=
  .next (if s.clocked then units.foldl State.railFaultOf s else s)

end Sys2Proof.Machine
end

