-- ==== Sys2Proof/Machine/Smbus.lean ====
section
/-! DEFINITION. The recovery interface: the SMBus commands that the Clasp answers (R373, R374, R233). -/

namespace Sys2Proof.Machine

/-- The Clasp answers in every package state except PK4 (R373), once it has booted. -/
def State.smbusUp (s : State) : Bool := s.boot.claspUp && decide (s.pwr.pk < 4)

/-- An answer read with Block Reads: error code 0 and data. -/
def State.answer (s : State) (data : List Byte) : State := { s with clasp := { s.clasp with smbAnswer := 0 :: data } }

/-- A command that is not accepted, or that fails its signature: error code 1, logged. -/
def State.answerRefused (s : State) (y : Syndrome) : State :=
  ({ s with clasp := { s.clasp with smbAnswer := [1] } }).logClasp y

/-- Whether a signature block over listed fields is that of one ACTIVE owner slot (R373). -/
def State.ownerSigned (s : State) (fields : List Byte) (g : SigBlock) : Bool := s.ownerKey g && sigVerifies g (sha384 fields)

/-- STATUS: the header flags, and a COL_CTL word whose STATE is BUSY while an image loaded over SMBus is programmed. -/
def smbStatus (s : State) : State :=
  let busy := match s.clasp.work with
    | some (.flash none _ _) => true
    | _ => false
  if s.smbusUp then s.answer (toLE 4 s.colFlags ++ toLE 8 (if busy then 2 ^ 62 else 0)) else s

def execStatus (s : State) : Result := .next (smbStatus s)

/-- COLOPHON: a Colophon signed with a nonce (R372). -/
def smbColophon (s : State) (nonce : BitVec 256) : State :=
  if s.smbusUp then
    let r := s.signColophon nonce
    r.2.answer r.1
  else s

def execColophon (nonce : BitVec 256) (s : State) : Result := .next (smbColophon s nonce)

/-- An owner slot written, logged and signed (R367, R372, R377). -/
def State.setOwner (s : State) (i : Nat) (o : Owner) : State :=
  let s : State := { s with clasp := { s.clasp with owners := Tab.set s.clasp.owners i o } }
  (s.log ((Syn.ownerKeyChanged.record claspNode 0x11 0 0).withInfo 0 1 i)).needResign

/-- OWNER_ENROL: only while every slot is EMPTY. -/
def ownerEnrol (s : State) (mldsaPk ecdsaPk : List Byte) : State :=
  if !s.smbusUp then s
  else if (List.range 4).all (fun i => decide ((s.owner i).st = .empty)) && mldsaPk.length == 2592 && ecdsaPk.length == 97 then
    (s.setOwner 0 { st := .active, hashes := sha384 mldsaPk ++ sha384 ecdsaPk }).answer []
  else s.answerRefused Syn.ownerKeyFail

def execOwnerEnrol (mldsaPk ecdsaPk : List Byte) (s : State) : Result := .next (ownerEnrol s mldsaPk ecdsaPk)

/-- The state that a code of the OWNER entry names (R371). -/
def ownerOfCode (c : Nat) : Option OwnerSt :=
  match c with
  | 0 => some .empty
  | 1 => some .active
  | 2 => some .revoked
  | _ => none

/-- Whether a slot may take a new state (R367, R373): it only advances, a REVOKED slot never returns, and the last ACTIVE slot stays. -/
def State.slotAdvances (s : State) (i : Nat) (new : OwnerSt) : Bool :=
  let old := (s.owner i).st
  let others := (List.range 4).any (fun k => k != i && decide ((s.owner k).st = .active))
  decide (old ≠ .revoked) && decide (ownerCode old ≤ ownerCode new)
    && (decide (old ≠ .active) || decide (new ≠ .revoked) || others)

/-- OWNER_UPDATE: owner-signed, with the update counter + 1 as COUNTER. -/
def ownerUpdate (s : State) (slot state : Nat) (hashes : List Byte) (counter : Nat) (sig : SigBlock) : State :=
  if !s.smbusUp then s
  else
    let fields := toLE 1 slot ++ toLE 1 state ++ hashes ++ toLE 8 counter
    match ownerOfCode state with
    | some t =>
      if decide (slot < 4) && hashes.length == 96 && counter == s.clasp.updCounter + 1 && s.ownerSigned fields sig && s.slotAdvances slot t then
        let s : State := { s with clasp := { s.clasp with updCounter := counter } }
        (s.setOwner slot { st := t, hashes := hashes }).answer []
      else s.answerRefused Syn.ownerKeyFail
    | none => s.answerRefused Syn.ownerKeyFail

def execOwnerUpdate (slot state : Nat) (hashes : List Byte) (counter : Nat) (sig : SigBlock) (s : State) : Result :=
  .next (ownerUpdate s slot state hashes counter sig)

/-- LOAD_BINDING: only while NO_VALID_BINDING; the image is verified and its programming begins (R72). -/
def loadBinding (s : State) (img : List Byte) : State :=
  if !s.smbusUp then s
  else if s.boot.phase ≠ .noBinding ∨ s.clasp.work.isSome = true then s.answerRefused Syn.ownerKeyFail
  else match s.storeFault img with
    | some y => (s.logClasp y).answerRefused Syn.ownerKeyFail
    | none => (s.startStore none img).answer []

def execLoadBinding (img : List Byte) (s : State) : Result := .next (loadBinding s img)

/-- DEBUG_CHALLENGE: 32 random bytes, valid for 60 s and for one use. -/
def debugChallenge (s : State) : State :=
  if !s.smbusUp then s
  else
    let c := BitVec.ofNat 256 s.draw.1
    let t := s.draw.2
    ({ t with clasp := { t.clasp with challenge := some (c, t.time.now + 60000000000) } } : State).answer (toLE 32 c.toNat)

def execDebugChallenge (s : State) : Result := .next (debugChallenge s)

/-- DEBUG_CHALLENGE_EXPIRY: 60 s have passed. -/
def execDebugChallengeExpiry (s : State) : Result :=
  .next (match s.clasp.challenge with
    | some (_, fin) => if fin ≤ s.time.now then { s with clasp := { s.clasp with challenge := none } } else s
    | none => s)

/-- The fields that a DEBUG_OPEN signs: BITS, DURATION_S, "VXDB", SERIAL and the challenge. -/
def State.debugFields (s : State) (bits durationS : Nat) (c : BitVec 256) : List Byte :=
  toLE 1 bits ++ toLE 4 durationS ++ ascii "VXDB" ++ toLE 8 s.fuse.serial ++ toLE 32 c.toNat

/-- DEBUG_OPEN (R373, R374): owner-signed over a challenge that is still valid, which is used up. -/
def debugOpen (s : State) (bits durationS : Nat) (sig : SigBlock) : State :=
  if !s.smbusUp then s
  else
    let ok := match s.clasp.challenge with
      | some (c, fin) => decide (s.time.now < fin) && s.ownerSigned (s.debugFields bits durationS c) sig
      | none => false
    let s : State := { s with clasp := { s.clasp with challenge := none } }
    if ok then (s.openSession (BitVec.ofNat 4 bits) durationS).answer [] else s.answerRefused Syn.debugAuthFail

def execDebugOpen (bits durationS : Nat) (sig : SigBlock) (s : State) : Result := .next (debugOpen s bits durationS sig)

/-- DEBUG_CLOSE (R373, R374). -/
def execDebugClose (s : State) : Result := .next (if s.smbusUp then s.closeSession.answer [] else s)

/-- REPAIR_CLEAR (R233, R373): only while S_INV is open. -/
def repairClear (s : State) (x : Nat) : State :=
  if !s.smbusUp then s
  else if s.debugOpenBits.getLsbD 2 then
    let l := s.links
    ({ s with links := { l with repair := l.repair.filter (fun b => b.x != x), repairDirty := true } } : State).answer []
  else s.answerRefused Syn.debugAuthFail

def execRepairClear (x : Nat) (s : State) : Result := .next (repairClear s x)

end Sys2Proof.Machine
end

