-- ==== Sys2Proof/Machine/Regs.lean ====
section
/-! DEFINITION. Control space as a whole (R9 to R12, R30, R31): which register an address names, who may access it, what it reads, what a read does besides, and what a write does. -/

namespace Sys2Proof.Machine

/-- The registers of control space, by the page that holds them and the offset in it. -/
inductive Reg where
  /-- DIE_INFO of a die (R16) -/
  | dieInfo (die : Nat)
  /-- a register of the view or page of an Error Collector (R345) -/
  | ec (view : EcView) (off : Nat)
  /-- a request page (R81, R372) -/
  | breq (q off : Nat)
  /-- PARTNER_STAT (R243) -/
  | partner (site : Nat)
  /-- DBG_STAT (R375) -/
  | dbgStat
  /-- SWD_CTL (R376) -/
  | swd
  /-- PK_CTL (R390) -/
  | pkCtl
  /-- PWR_REQ (R401) -/
  | pwrReq
  /-- GOV_LOG_SEL, GOV_LOG0 to GOV_LOG3 (R400) -/
  | gov (off : Nat)
  /-- the fabric manager (R221) -/
  | fm (off : Nat)
  /-- the Firefly mailbox (R395) -/
  | ff (off : Nat)
  /-- package time (R40) -/
  | pt (off : Nat)
  /-- an open Check unit (R322) -/
  | ocu (u off : Nat)
  /-- QE_LANE_STAT (R284) -/
  | lane (n : Nat)
  /-- a virtual instance (R285) -/
  | vi (v off : Nat)
  /-- a System Link port (R314) -/
  | sl (p off : Nat)
  /-- a configuration page (R292) -/
  | pcfg (q off : Nat)
  /-- a TSN port (R295) -/
  | tsn (c off : Nat)
  /-- a memory controller (R262) -/
  | mc (k off : Nat)
  /-- CLU_PSTAT (R383) -/
  | pstat (c : Nat)
  /-- L2_WAYCFG, CACHE_CTL, CACHE_STAT, CIDLE of a core (R150, R153, R385) -/
  | core (h off : Nat)
  /-- a core's counter page (R408) -/
  | cnt (h off : Nat)
  /-- a Quire's page in a slice (R158, R410) -/
  | l3q (n q off : Nat)
  /-- XL_STAT (R231) -/
  | xl (x : Nat)
  /-- a place of a listed block that the spec gives no register -/
  | hole
deriving DecidableEq, Repr

/-! ### Decoding (R30, R31) -/

def regOfCd (die block off : Nat) : Reg :=
  if block ≤ 0x13 then
    let c := die * 4 + (block - 0x10)
    if off = 0x200 then .pstat c else if 0xF0000 ≤ off ∧ off < 0xF0080 then .ec (.low (UnitId.of 0x02 c)) (off - 0xF0000) else .hole
  else if block ≤ 0x3F then
    let h := die * 32 + (block - 0x20)
    if 0x1000 ≤ off ∧ off < 0x2000 then .cnt h (off - 0x1000)
    else if 0x100 ≤ off ∧ off < 0x120 then .core h off else .hole
  else if block ≤ 0x43 then (if off = 0 then .xl (die * 4 + (block - 0x40)) else .hole)
  else .hole

def regOfBd (die block off : Nat) : Reg :=
  let b := die - 16
  if block ≤ 0x1B then
    if 0x10000 ≤ off ∧ off < 0x20000 then .l3q (12 * b + (block - 0x10)) ((off - 0x10000) / 0x100) (off % 0x100) else .hole
  else if block ≤ 0x22 then
    if 0xF0000 ≤ off ∧ off < 0xF0080 then .ec (.low (UnitId.of 0x04 (3 * b + (block - 0x20)))) (off - 0xF0000) else .hole
  else if block ≤ 0x31 then
    if off < 0x20 then .mc (2 * b + (block - 0x30)) off
    else if 0xF0000 ≤ off ∧ off < 0xF0080 then .ec (.low (UnitId.of 0x07 (2 * b + (block - 0x30)))) (off - 0xF0000) else .hole
  else if block ≤ 0x43 then (if off = 0 then .xl (64 + 4 * b + (block - 0x40)) else .hole)
  else .hole

def regOfIod (block off : Nat) : Reg :=
  let page := 0x10000 ≤ off && off < 0x20000
  let q := (off - 0x10000) / 0x100
  if block = 0x000 then
    if page then .breq q (off % 0x100) else if off = 0x200 then .partner 0 else if off = 0x208 then .partner 1
    else if off = 0x300 then .dbgStat else if off = 0x400 then .swd else .hole
  else if block = 0x010 then
    if off = 0x100 then .pkCtl else if off = 0x180 then .pwrReq else if 0x200 ≤ off ∧ off < 0x228 then .gov off else .hole
  else if block = 0x020 then .fm off
  else if block = 0x030 then
    if off < 0x80 then .ec .owner off else if page then .ec (.quire q) (off % 0x100) else .hole
  else if block = 0x040 then (if off < 0x18 then .ff off else .hole)
  else if block = 0x050 then (if off < 0x28 then .pt off else .hole)
  else if block = 0x100 then (if 0x100 ≤ off ∧ off < 0x140 then .lane ((off - 0x100) / 8) else .hole)
  else if 0x120 ≤ block ∧ block ≤ 0x13F then .vi (256 * (block - 0x120) + off / 0x1000) (off % 0x1000)
  else if block = 0x200 then (if 0x10000 ≤ off ∧ off < 0x11000 then .ocu (16 + q) (off % 0x100) else .hole)
  else if 0x300 ≤ block ∧ block ≤ 0x307 then .sl (block - 0x300) off
  else if block = 0x400 then (if page then .pcfg q (off % 0x100) else .hole)
  else if block = 0x480 then .tsn (off / 0x40000) (off % 0x40000)
  else if 0x500 ≤ block ∧ block ≤ 0x50F then (if off < 0x20 then .mc (16 + (block - 0x500)) off else .hole)
  else .hole

/-- The register at a place of control space; none where R30 gives a bus error: no such die, a partner die in reset, a die without power, or a block that R31 does not list.
The blocks of a fused-off cluster or core answer with their registers' reset values, but for the counter page (R408), and a partner die answers only while its site is UP (log 85). -/
def State.regOf (s : State) (die block off : Nat) : Option Reg :=
  if !blockListed die block then none
  else match dieKind die with
    | none => none
    | some .partner =>
      if (s.partner (die - 28)).st ≠ .up then none
      else if block = 0xFFF ∧ off = 0 then some (.dieInfo die) else some .hole
    | some k =>
      if !s.diePowered die then none
      else if block = 0xFFF then some (if off = 0 then .dieInfo die else .hole)
      else if block = 0xFFE then some (if off < 0x80 then .ec (.low (dieUnit die)) off else .hole)
      else some (match k with
        | .cd => regOfCd die block off
        | .bd => regOfBd die block off
        | _ => regOfIod block off)

/-! ### Who may access what -/

/-- Whether an initiator is a hart in M-mode. -/
def State.agentInM (s : State) (who : Agent) : Bool :=
  match who with
  | .hart h => s.inM h
  | .governor | .clasp | .node _ => false

/-- The M-mode harts that may write SL_CTL of a port (R314). -/
def State.slWriter (s : State) (who : Agent) (p : Nat) : Bool :=
  s.mHartOf who (((s.bind.partnerRec 0 (s.slPort p).peerPkg).map (·.notifyQid)).getD 0)

/-- Whether the access rule of a register allows a read, or a write that may still be ignored. -/
def State.regMay (s : State) (who : Agent) (r : Reg) (write : Bool) : Bool :=
  match r with
  | .dieInfo _ | .hole | .core _ 0x100 | .core _ 0x110 | .core _ 0x118 => true
  | .core h _ => !write || s.mHartOf who (s.hart h).qid
  | .ec v _ => match who with | .hart h => s.ecAllowed h v | _ => false
  | .breq q _ | .l3q _ q _ => s.mHartOf who q
  | .dbgStat | .partner _ => s.agentInM who
  | .gov _ => s.agentInM who
  | .pwrReq => write || s.agentInM who
  | .swd => s.swdHart who
  | .pkCtl => if write then s.ownerHart who else s.agentInM who
  | .fm off => s.fmAllowed who write off
  | .ff _ => s.ownerHart who
  | .pt _ => if write then s.ownerHart who else (match who with | .hart h => s.readsTime h | _ => false)
  | .ocu u _ => s.ocuAllowed who u
  | .lane _ | .xl _ => !write && s.agentInM who
  | .vi v _ => s.viAllowed who v
  | .sl p off => if off = 0x10 then write && s.slWriter who p else off < 0x10 && !write && s.agentInM who
  | .pcfg q _ => s.pcfgHart who q
  | .tsn _ _ => s.tsnAllowed who
  | .mc _ off => s.agentInM who && (!write || off == 0x10)
  | .pstat c => !write && (match who with | .hart h => s.readsPstat h c | _ => false)
  | .cnt h _ => s.cntAllowed who h write

/-- What a refused access does besides the fault: SWD_CTL logs it (R376). -/
def State.regDenied (s : State) (who : Agent) (r : Reg) : State :=
  match r, who with
  | .swd, .hart h => (s.log ((((Syn.worldAccessDenied.record claspNode 0x11 0 (s.hart h).qid).withAddr swdAddr).withSecure true)))
  | _, _ => s

/-! ### Reading -/

/-- DIE_INFO (R16). -/
def State.dieInfo (s : State) (die : Nat) : Word :=
  match dieKind die with
  | some .cd => word (maskOf ((List.range 4).filter (fun i => s.fuse.clusterOk (4 * die + i))) * 2 ^ 32 + 2 * 2 ^ 20 + 4 * 2 ^ 16 + die)
  | some .bd => word (0xFFF * 2 ^ 32 + 4 * 2 ^ 20 + 6 * 2 ^ 16 + 2 ^ 8 + die)
  | some .iod => word (5 * 2 ^ 20 + 5 * 2 ^ 16 + 2 * 2 ^ 8 + die)
  | _ => word (s.draw.1 / 1024 * 1024 + 3 * 2 ^ 8 + die)

/-- Whether the spec gives a page a register at the offset. -/
def Reg.given (r : Reg) : Bool :=
  match r with
  | .hole => false
  | .ec _ off => off ≤ 0x20 || (0x40 ≤ off && off < 0x80)
  | .breq _ off => off ≤ 0x20 || (0x40 ≤ off && off ≤ 0x68)
  | .fm off => if 0x40000 ≤ off then off % 0x100 < 0xA0 else true
  | .ocu _ off => off ≤ 0x20
  | .vi _ off => off ≤ 0x28
  | .pcfg _ off => off ≤ 0x08
  | .tsn _ off => off == 0 || (0x10000 ≤ off && off < 0x10800) || (0x20000 ≤ off && off < 0x21000)
  | .cnt _ off => off ≤ 0x420
  | .l3q _ _ off => off ≤ 0x20 || (0x40 ≤ off && off < 0x80)
  | .dieInfo _ | .partner _ | .dbgStat | .swd | .pkCtl | .pwrReq | .gov _ | .ff _ | .pt _ | .lane _ | .sl _ _ | .mc _ _ | .pstat _ | .core _ _
  | .xl _ => true

/-- A register's value as a hart reads it, its free values among them (R10). -/
def State.regValue (s : State) (h : Nat) (r : Reg) : Word :=
  if !r.given then word s.draw.1
  else match r with
    | .dieInfo die => s.dieInfo die
    | .ec v off => s.ecRead h v off
    | .breq q off => s.breqRead q off
    | .partner i => (s.partner i).stat
    | .dbgStat => s.dbgStat
    | .swd => s.swdRead
    | .pkCtl => s.pwr.pkCtl
    | .pwrReq => s.pwrReq
    | .gov off => s.govLogRead h off
    | .fm off => s.fmRead off
    | .ff off => if off = 0 then s.ff.sel else if off = 8 then s.ffDataRead else word s.ff.alert.toNat
    | .pt off =>
      if off = 0 then word s.now else if off = 8 then word s.time.frame else if off = 0x18 then s.time.slewReg
      else if off = 0x20 then s.time.stat else 0
    | .ocu u off => s.ocuRead u off
    | .lane n => s.laneStat n
    | .vi v off => s.viRegRead v off
    | .sl p off => if off = 0 then (s.slPort p).stat else (s.slPort p).time
    | .pcfg q off => if off = 0 then Tab.get s.io.pcfgAddr 0 q else s.pcfgRead q
    | .tsn c off => s.tsnRead c off
    | .mc k off => s.mcRead k off
    | .pstat c => (s.cluster c).pstat
    | .core k off =>
      let x := s.hart k
      if off = 0x100 then word x.l2Secure.toNat else if off = 0x108 then word (bitAt (x.cacheOp != 0) 63)
      else if off = 0x110 then word x.lockedWays else word x.cidle
    | .cnt k off => if off < 0x400 then (s.cntValue k (off / 8)).1 else s.cntPage k off
    | .l3q n q off => if off < 0x40 then s.l3qRead n q off else word (Tab.get ((s.slice n).quire q).cnt 0 ((off - 0x40) / 8)).toNat
    | .xl x => (s.xl x).stat
    | .hole => 0

/-- What a read does besides: RC fields cleared, a counter page stamped, FF_DATA's index advanced, a draw counted (R10). -/
def State.regAfter (s : State) (r : Reg) : State :=
  if !r.given then s.draw.2
  else match r with
    | .dieInfo die => if 28 ≤ die then s.draw.2 else s
    | .ec v off => if off = 0 then s.ecStatRead v else s
    | .ff off => if off = 8 then s.ffDataAfter else s
    | .pt off => if off = 0x20 then { s with time := { s.time with skewCount := 0 } } else s
    | .sl p off => if off = 0 then s.setSlPort p { s.slPort p with missedHb := 0, replays := 0 } else s
    | .pcfg q off => if off = 8 then s.pcfgNote q else s
    | .cnt k off => if off < 0x400 then (s.cntValue k (off / 8)).2.cntStamped k else s
    | .xl x => s.setXl x { s.xl x with ceCount := 0 }
    | .breq _ _ | .partner _ | .dbgStat | .swd | .pkCtl | .pwrReq | .gov _ | .fm _ | .ocu _ _ | .lane _ | .vi _ _ | .tsn _ _ | .mc _ _
    | .pstat _ | .core _ _ | .l3q _ _ _ | .hole => s

/-! ### Writing -/

/-- The fields of a register that is read-only as a whole; the other bits are reserved. -/
def Reg.roMask (r : Reg) : Nat :=
  match r with
  | .dieInfo _ => 0x00000FFF00FF031F
  | .partner _ => 0xE0FF00FF0000000F
  | .dbgStat => 0x8000FFFFFFFF00FF
  | .core _ _ => 0x7FFF
  | .vi _ _ => 0x8071FF07FFFFFFFF
  | .l3q _ _ off => if off = 0x20 then 0x800000000003FFFF else 0x0000FFFFFFFFFFFF
  | .fm off => if 0x40020 ≤ off ∧ 0x20 ≤ off % 0x100 then 0x0000FFFFFFFFFFFF else 2 ^ 64 - 1
  | _ => 2 ^ 64 - 1

/-- A write that a register's rule allows takes effect by its access codes (R10 to R12); writes to read-only registers and to places without a register change nothing. -/
def State.regStore (s : State) (who : Agent) (die block off : Nat) (r : Reg) (v : Word) : State :=
  let ro := fun (s : State) => s.reserved who die block off v r.roMask
  if !r.given then s
  else match r with
    | .dieInfo _ | .partner _ | .dbgStat => ro s
    | .ec view o => match who with | .hart h => writeEc s h view o v | _ => s
    | .breq q o => writeBreq s who q o v
    | .swd => writeSwd s who v
    | .pkCtl => writePkCtl s who v
    | .pwrReq => writePwrReq s who v
    | .gov o => if o = 0x200 then writeGovSel s who v else s
    | .fm o => if o = 8 ∨ (0x40000 ≤ o ∧ o % 0x100 = 0x18) then writeFm s who o v else ro s
    | .ff o => writeFf s who o v
    | .pt o =>
      if o = 0x10 then writePtStep s who v else if o = 0x18 then writePtSlew s who v else if o = 0x20 then writePtStat s who v else s
    | .ocu u o => if o = 0x20 then writeCommit s who u v else writeOcu s who u o v
    | .vi n o =>
      if o = 0x20 then writeQcmd s who n v else if o = 0x28 then writeViReset s who n v else if o = 0 then ro s else writeViStage s who n o v
    | .sl p _ => writeSlCtl s who p v
    | .pcfg q o => if o = 0 then writePcfgAddr s who q v else writePcfgData s who q v
    | .tsn c o => writeTsn s who c o v
    | .mc k o => writeMc s who die block k o v
    | .core h o =>
      if o = 0x100 then writeWaycfg s who h v else if o = 0x108 then writeCacheCtl s who h v else if o = 0x118 then writeCidle s who h v
      else ro s
    | .cnt h o => writeCnt s who h o v
    | .l3q n q o => if o = 0x08 ∨ o = 0x10 ∨ o = 0x18 then writeL3q s who n q o v else ro s
    | .lane _ | .xl _ | .pstat _ | .hole => s

/-! ### An access as a whole (R9, R27, R30) -/

/-- Whether an access is the aligned 64-bit one that a register takes (R9). -/
def regShape (a size : Nat) : Bool := size == 8 && a % 8 == 0

/-- A hart's read of control space: the value and what the read does, none for a bus error or an access that the register's rule forbids, with what the refusal does. -/
def State.ctlLoad (s : State) (h a size : Nat) : Sum State (Word × State) :=
  match decodeControl a with
  | none => .inl s
  | some (die, block, off) =>
    match (if regShape a size then s.regOf die block off else none) with
    | none => .inl s
    | some r => if s.regMay (.hart h) r false then .inr (s.regValue h r, s.regAfter r) else .inl (s.regDenied (.hart h) r)

/-- An initiator's write to control space, in the same way. -/
def State.ctlStore (s : State) (who : Agent) (a size : Nat) (v : Word) : Sum State State :=
  match decodeControl a with
  | none => .inl s
  | some (die, block, off) =>
    match (if regShape a size then s.regOf die block off else none) with
    | none => .inl s
    | some r => if s.regMay who r true then .inr (s.regStore who die block off r v) else .inl (s.regDenied who r)

/-- REGISTER_WRITE (R9 to R12, R27, R30, R85): a control-space register, or a custom CSR by a CSR instruction of the hart. -/
def registerWrite (s : State) (who : Agent) (tgt : RegTarget) (v : Word) : State :=
  match tgt with
  | .addr a size =>
    s.asAgent who (fun s =>
      match s.ctlStore who a size v with
      | .inr s => s
      | .inl s => s.refuse who true a)
  | .csr n =>
    match who with
    | .hart h => csrRow s h n v
    | .governor | .clasp | .node _ => s

def execRegisterWrite (who : Agent) (tgt : RegTarget) (v : Word) (s : State) : Result := .next (registerWrite s who tgt v)

end Sys2Proof.Machine
end

