-- ==== Sys2Proof/Machine/Access.lean ====
section
/-! DEFINITION. The accesses of a hart (R27, R97 to R102, R111, R142, R151, R159, R160, R175, R178, R185 to R189): loads and fetches, stores, atomics, cache-block operations, prefetches and locks; requests without allocation as they reach their home or port; completion timeouts (R332, R333). -/

namespace Sys2Proof.Machine

/-! ### Where an access goes (R98) -/

/-- The three kinds of address of R98. -/
inductive AccPlace where
  | ordinary | nc | side
deriving DecidableEq, Repr

/-- A side-effect page is a PMA I/O region or any page with Svpbmt IO; non-cacheable memory is PMA memory with Svpbmt NC. -/
def placeOf (cacheable : Bool) (pbmt : Nat) : AccPlace :=
  if !cacheable || pbmt == 2 then .side else if pbmt == 1 then .nc else .ordinary

/-- What a lookup does, where the TLBs are used at all. -/
def State.noteXlate (s : State) (h : Nat) (k : AccKind) (va : Word) (spec : Bool) : State :=
  s.modHart h (fun x => if x.untranslated k then x else x.noteLookup k va spec)

/-- The access fault of an access that did not arise in translation (R27); none for a speculative one (R98). -/
def State.accFault (s : State) (h : Nat) (k : AccKind) (va : Word) (spec : Bool) : State :=
  if spec then s else s.raiseCode h k.accessFault va

/-- An access of n bytes translated and judged: its physical address and kind of place; or the state in which it waits for a walk, has faulted, or, speculative, has stopped. -/
def State.locate (s : State) (h : Nat) (k : AccKind) (va : Word) (n : Nat) (spec : Bool) : Sum State (State × Nat × AccPlace) :=
  let t := s.noteXlate h k va spec
  match s.translate h k va with
  | .walk => .inl (t.startWalk h va k spec)
  | .exc e => .inl (if spec then t else t.raise h e)
  | .ok pa pbmt =>
    match s.physCheck h k pa n with
    | .fault => .inl (t.accFault h k va spec)
    | .world => .inl (if spec then t else (t.logWorldDenied h pa).accFault h k va spec)
    | .ok c => .inr (t, pa, placeOf c pbmt)

/-- The misaligned exception of an access type. -/
def AccKind.misaligned (k : AccKind) : Nat :=
  match k with
  | .fetch => 0
  | .load => 4
  | .store => 6

/-- A retiring access that is not aligned as it must be (R9): located by its first byte; the bus error where that is a register, else the misaligned exception. -/
def State.misaligned (s : State) (h : Nat) (k : AccKind) (va : Word) : State :=
  match s.locate h k va 1 false with
  | .inl t => t
  | .inr (t, pa, _) => t.raiseCode h (if rangeOf pa = .control then k.accessFault else k.misaligned) va

/-- Whether n bytes at an address lie in one line. -/
def inLine (va : Word) (n : Nat) : Bool := decide (va.toNat % 64 + n ≤ 64)

/-! ### Array errors met by an access (R117, R140, R162, R165) -/

/-- A parity error in the TLB entry that an access hits (R140): the entry goes. The second part tells whether the access walks again. -/
def State.tlbUpset (s : State) (h : Nat) (k : AccKind) (va : Word) (u : Upset) : State × Bool :=
  let x := s.hart h
  let v := (x.effMode k).2
  let asid := fieldOf (x.getCsr (if v then 0x280 else 0x180)) 44 16
  let vmid := fieldOf (x.getCsr 0x680) 44 14
  let hit := fun (e : Nat × TlbEnt) => e.2.hits v asid vmid va.toNat
  let rec_ := fun (y : Syndrome) => y.record (hartOrigin h) 0x01 h x.qid
  let drop := fun (t : Tab TlbEnt) => (t.filter (fun (e : Nat × TlbEnt) => !hit e) : Tab TlbEnt)
  if x.untranslated k then (s, false)
  else match u with
  | .tlb =>
    if k = .fetch ∧ x.itlb.any hit = true then ((s.setHart h { x with itlb := drop x.itlb }).log (rec_ Syn.tlbArrayCe), true)
    else if k ≠ .fetch ∧ x.dtlb.any hit = true then ((s.setHart h { x with dtlb := drop x.dtlb }).log (rec_ Syn.tlbArrayCe), true)
    else if x.l2tlb.any hit then ((s.setHart h { x with l2tlb := drop x.l2tlb }).log (rec_ Syn.tlbArrayCe), true)
    else (s, false)
  | .tlbLocked =>
    if x.locked.any hit then ((s.setHart h { x with locked := drop x.locked }).log (rec_ Syn.tlbLockedLost), true) else (s, false)
  | _ => (s, false)

/-- An access located, with an error in the TLB entry that it hits (R140). -/
def State.locateWith (s : State) (h : Nat) (k : AccKind) (va : Word) (n : Nat) (spec : Bool) (u : Upset) : Sum State (State × Nat × AccPlace) :=
  let r := s.tlbUpset h k va u
  if r.2 then .inl (r.1.startWalk h va k spec) else r.1.locate h k va n spec

/-- A line with an uncorrectable error in a dirty copy: its data goes to its home marked poisoned, and no copy stays (R162). -/
def Hart.leavePoisoned (x : Hart) (core now : Nat) (c : CLine) : Hart :=
  (x.dropCopies c.line).evictOut core now { c with st := .m, poison := 0xF#4 }

/-- An error in the cache or core array that serves an access to a line (R117, R162, R165). The second part tells whether the access goes on. -/
def State.cacheUpset (s : State) (h l : Nat) (fetch : Bool) (u : Upset) : State × Bool :=
  let x := s.hart h
  let now := s.time.now
  let core := hartCore h
  let rec_ := fun (y : Syndrome) => (y.record (hartOrigin h) 0x01 h x.qid).withAddr (64 * l)
  let l1 : Option CLine := match findLine x.l1d l with
    | some e => some e.2
    | none => (findLine x.vc l).map (·.2)
  match u with
  | .coreCe =>
    ((if fetch then s.setHart h { x with l1i := dropLine x.l1i l } else s).log (Syn.coreArrayCe.record (hartOrigin h) 0x01 h x.qid), true)
  | .coreUe => (s.log (Syn.coreArrayUe.record (hartOrigin h) 0x01 h x.qid), false)
  | .l1Ce => if l1.isSome then (s.log (rec_ Syn.l1dCe), true) else (s, true)
  | .l1Ue =>
    match l1 with
    | none => (s, true)
    | some c =>
      if c.st = .m then ((s.putHart h (x.leavePoisoned core now c)).log (rec_ Syn.l1dUeDirty), true)
      else ((s.setHart h { x with l1d := dropLine x.l1d l, vc := dropLine x.vc l }).log (rec_ Syn.l1dUeClean), true)
  | .l2Ce => if l1.isNone && (findLine x.l2 l).isSome then (s.log (rec_ Syn.l2Ce), true) else (s, true)
  | .l2Ue =>
    match l1, findLine x.l2 l with
    | none, some (_, c) =>
      if c.st = .m then ((s.putHart h (x.leavePoisoned core now c)).log (rec_ Syn.l2UeDirty), true)
      else ((s.setHart h { x with l2 := dropL2 x.l2 l }).log (rec_ Syn.l2UeClean), true)
    | _, _ => (s, true)
  | .l2Tag => if l1.isNone then (s.log (rec_ Syn.l2TagUe), false) else (s, true)
  | _ => (s, true)

/-! ### Lookups and ownership (R175) -/

/-- Lookups and misses of the data caches counted (R404). -/
def Hart.noteData (x : Hart) (l : Nat) : Hart :=
  let in1 := (findLine x.l1d l).isSome
  let inVc := (findLine x.vc l).isSome
  let in2 := (findLine x.l2 l).isSome
  let x := x.count 18 1
  let x := if in1 then x else x.count 19 1
  let x := if in1 || inVc then x else x.count 22 1
  if in1 || inVc || in2 then x else x.count 23 1

/-- The line brought into the L1D from where the core holds it (R142, R144). -/
def State.recallLine (s : State) (h : Nat) (va : Word) (l : Nat) (spec : Bool) : State :=
  s.putHart h ((s.hart h).recall s.bind (hartCore h) s.time.now va.toNat l spec)

/-- Whether an access that needs ownership of a line waits with nothing sent. -/
def State.ownWaits (s : State) (h l : Nat) : Bool :=
  match (s.hart h).lineSt l with
  | .m | .e => (s.hart h).ncBusy l
  | .s => s.missWaits h l .upg false false
  | .i => s.missWaits h l .rdu false false

/-- A request for a write, AMO, LR or cbo.zero on ordinary memory: performed where the line is held in M or E, else Upg or RdU (R175). -/
def State.ownAccess (s : State) (h : Nat) (va : Word) (l : Nat) (w : Waiter) : State :=
  if s.ownWaits h l then s
  else
    let s := s.modHart h (fun x => x.noteData l)
    match (s.hart h).lineSt l with
    | .m | .e => (s.recallLine h va l false).perform h w
    | .s => s.missFor h l .upg .smA false false w
    | .i => s.missFor h l .rdu .imD false false w

/-- The same, with an error in the array that serves it (R117, R162). -/
def State.ownWith (s : State) (h : Nat) (va : Word) (l : Nat) (u : Upset) (w : Waiter) : State :=
  let r := s.cacheUpset h l false u
  if r.2 then r.1.ownAccess h va l w else r.1

/-! ### Loads and fetches (R98 to R102) -/

/-- The smallest naturally aligned size that covers n bytes at an address within a line. -/
def coverSize (a n : Nat) : Nat := ((List.range 7).find? (fun k => decide (a % 2 ^ k + n ≤ 2 ^ k))).getD 6

/-- Whether a load from non-cacheable memory waits: for the hart's own requests on its line (R187), or for a stream that is held (R219). -/
def State.ncWaits (s : State) (h l : Nat) (opc : Opc) (spec : Bool) : Bool :=
  let x := s.hart h
  x.ncBusy l || (x.missOf l).isSome || s.streamHeld h opc (s.homeNode l) spec

/-- A load or fetch from non-cacheable memory: RdNC, nothing allocated (R98, R189). -/
def State.ncLoad (s : State) (h : Nat) (o : LoadOp) (pa : Nat) : State :=
  let k := coverSize pa (2 ^ o.size)
  if s.ncWaits h (pa / 64) .rdnc o.spec then s
  else (s.modHart h (fun x => x.count 36 1)).request h .rdnc .nc (s.homeNode (pa / 64)) (pa / 64) (ncMisc (pa / 2 ^ k * 2 ^ k) k) o.spec o.fetch 0
    [.load o pa]

/-- A value loaded. -/
def State.loaded (s : State) (h : Nat) (o : LoadOp) (v : Word) : State :=
  s.modHart h (fun x => x.setX o.rd (extendTo64 o.size v.toNat o.signed))

/-- The node of a side-effect access that leaves the core: the home of a memory range, the port of an MMIO range (R180). -/
def State.ioNode (s : State) (pa : Nat) : Nat := if (rangeOf pa).isMemory then s.homeNode (pa / 64) else mmioNode pa

/-- A retiring load from a side-effect page, performed once (R98): registers, doorbells and interrupt files answer here, ports and homes by RdNC. -/
def State.ioLoad (s : State) (h : Nat) (o : LoadOp) (pa : Nat) : State :=
  let n := 2 ^ o.size
  let s := s.modHart h (fun x => x.count 37 1)
  match rangeOf pa with
  | .control =>
    match s.ctlLoad h pa n with
    | .inr r => r.2.loaded h o r.1
    | .inl t => (t.noteWorld h pa).raiseCode h 5 o.va
  | .doorbell =>
    let q := (pa - doorbellBase) / 64
    if s.doorbellHart h q then (s.loadCtx q).loaded h o (s.doorbellRead q (pa % 64) n) else (s.noteWorld h pa).raiseCode h 5 o.va
  | .imsic =>
    match decodeImsic pa with
    | some (t, _) => if s.hasFiles t then s.loaded h o 0 else s.raiseCode h 5 o.va
    | none => s.raiseCode h 5 o.va
  | .hbm | .ddr | .cxl | .mmio32 | .mmio64 | .reserved =>
    if pa % n ≠ 0 then s.raiseCode h 4 o.va
    else s.request h .rdnc .io (s.ioNode pa) (pa / 64) (ncMisc pa o.size) false false 0 [.load o pa]

/-- A fetch's line brought into the L1I from the L1D, the victim cache or the L2 (R161), unconfirmed for a speculative fetch (R98); an L1I fill that hits the first two does not allocate in the L2 (R145). -/
def Hart.fetchHeld (x : Hart) (core now l : Nat) (spec : Bool) : Hart :=
  match findLine x.l1i l, x.lineCopy l with
  | none, some c => x.fillL1i core now { c with st := .s, unconf := c.unconf || spec }
  | _, _ => x

/-- A load or fetch of ordinary memory (R98, R142, R144, R175). A retiring one confirms what it hits; a speculative one only brings the line in. -/
def State.cachedLoad (s : State) (h : Nat) (o : LoadOp) (pa : Nat) (u : Upset) : State :=
  let l := pa / 64
  let r := s.cacheUpset h l o.fetch u
  let s := r.1
  if !r.2 || (s.hart h).ncBusy l then s
  else if (s.hart h).lineSt l = .i then
    if o.fetch then s.missFor h l .rds .isD o.spec true (.load o pa)
    else (s.modHart h (fun x => x.noteData l)).missFor h l .rds .isD o.spec false (.load o pa)
  else
    let s := if o.fetch then s.putHart h ((s.hart h).fetchHeld (hartCore h) s.time.now l o.spec)
      else (s.modHart h (fun x => x.noteData l)).recallLine h o.va l o.spec
    if o.spec then s else s.perform h (.load o pa)

/-- Whether a request of this access expired while it was speculative (R333). -/
def expiredFor (o : LoadOp) (m : Miss) : Bool :=
  m.expired && m.spec && m.waiters.any (fun w => match w with
    | .load p _ => p.va == o.va && p.fetch == o.fetch
    | _ => false)

def loadKind (o : LoadOp) : AccKind := if o.fetch then .fetch else .load

/-- LOAD (R27, R97 to R102): NOSPEC and NC_NOSPEC hold a speculative access back; one whose speculative request has expired takes the access fault once it is retiring (R333). -/
def loadAccess (s : State) (h : Nat) (o : LoadOp) (u : Upset) : State :=
  let k := loadKind o
  let n := 2 ^ o.size
  let x := s.hart h
  if 3 < o.size ∨ (o.spec && !o.fetch && x.lzspec.getLsbD 0) = true then s
  else if !inLine o.va n then (if o.spec || o.fetch then s else s.misaligned h .load o.va)
  else if !o.spec && x.misses.any (expiredFor o) then
    (s.setHart h { x with misses := x.misses.map (fun m => if expiredFor o m then { m with waiters := [] } else m) }).raiseCode h
      k.accessFault o.va
  else match s.locateWith h k o.va n o.spec u with
    | .inl t => t
    | .inr (t, pa, .ordinary) => t.cachedLoad h o pa u
    | .inr (t, pa, .nc) =>
      if o.spec then (if x.lzspec.getLsbD 1 || x.paired then t else t.ncLoad h o pa)
      else t.released h .ncLoad o.va pa o.size none (t.ncWaits h (pa / 64) .rdnc false) (fun t => t.ncLoad h o pa)
    | .inr (t, pa, .side) =>
      if o.spec then t
      else if o.fetch then t.raiseCode h 1 o.va
      else t.released h .ioLoad o.va pa o.size none (t.ioTravels h) (fun t => t.ioLoad h o pa)

/-- LOAD: a retiring one passes the triggers on loads; a fetch has none of its own. -/
def execLoad (h : Nat) (o : LoadOp) (u : Upset) (s : State) : Result :=
  .next (
    if o.spec then (if s.hartLive h then loadAccess s h o u else s)
    else s.instr h (fun s => if o.fetch then loadAccess s h o u else s.watched h .load o.va (2 ^ o.size) none (fun s => loadAccess s h o u)))

/-! ### Stores (R175, R187) -/

/-- WrNC in naturally aligned pieces, each with a request of its own (R172, R187). -/
def State.ncStore (fuel : Nat) (s : State) (h : Nat) (st : MissSt) (node : Nat) (va : Word) (pa : Nat) (bs : List Byte) : State :=
  match fuel with
  | 0 => s
  | f + 1 =>
    if bs.isEmpty then s
    else
      let n := pieceSize pa bs.length
      let v := ofLE (bs.take n)
      let s := s.request h .wrnc st node (pa / 64) (ncMisc pa (Nat.log2 n)) false false (lineSet 0 (pa % 64) n v)
        [.store va pa (Nat.log2 n) (word v)]
      State.ncStore f s h st node va (pa + n) (bs.drop n)

/-- A retiring store to a side-effect page (R28, R30, R98, R188, R273). -/
def State.ioStore (s : State) (h : Nat) (va : Word) (pa size : Nat) (v : Word) : State :=
  let n := 2 ^ size
  let s := s.modHart h (fun x => x.count 37 1)
  match rangeOf pa with
  | .control =>
    match s.ctlStore (.hart h) pa n v with
    | .inr t => t
    | .inl t => (t.noteWorld h pa).raiseCode h 7 va
  | .doorbell =>
    let q := (pa - doorbellBase) / 64
    if s.doorbellHart h q then s.doorbellStore q (pa % 64) n v else (s.noteWorld h pa).raiseCode h 7 va
  | .imsic => s.imsicStore h pa n v va
  | .hbm | .ddr | .cxl | .mmio32 | .mmio64 | .reserved =>
    if pa % n ≠ 0 then s.raiseCode h 6 va
    else s.ncStore 1 h .io (s.ioNode pa) va pa (toLE n v.toNat)

/-- A store to non-cacheable memory: it waits for the hart's own requests on its line (R187). -/
def State.ncPut (s : State) (h : Nat) (va : Word) (pa : Nat) (bs : List Byte) : State :=
  if s.ncWaits h (pa / 64) .wrnc false then s else s.ncStore 8 h .nc (s.homeNode (pa / 64)) va pa bs

/-- RETIRING_STORE (R27, R98, R175, R187). A checked pair's store is translated here, and leaves its core by PAIR_RELEASE (R113). -/
def storeAccess (s : State) (h : Nat) (va : Word) (size : Nat) (data : Word) (u : Upset) : State :=
  let n := 2 ^ size
  if 3 < size then s
  else if !inLine va n then s.misaligned h .store va
  else match s.locateWith h .store va n false u with
    | .inl t => t
    | .inr (t, pa, p) =>
      if (t.hart h).paired then t
      else match p with
        | .ordinary => t.ownWith h va (pa / 64) u (.store va pa size data)
        | .nc => t.ncPut h va pa (toLE n data.toNat)
        | .side => if t.ioTravels h then t else t.ioStore h va pa size data

/-- RETIRING_STORE: it passes the triggers on stores and their data. -/
def execRetiringStore (h : Nat) (va : Met Word) (size : Nat) (data : Word) (s : State) : Result :=
  .next (s.instr h (fun s => s.watched h .store va.it (2 ^ size) (some (data.toNat % 2 ^ (8 * 2 ^ size))) (fun s => storeAccess s h va.it size data va.upset)))

/-! ### Atomics (R178, R185, R186) -/

/-- MISC of AmoF and AmoM (R172). -/
def amoMisc (o : AmoOp) (pa : Nat) : Nat :=
  pa % 64 * 64 + (if o.size = 4 then 1 else o.size) * 16 + amoCode o.op

/-- The data of AmoF and AmoM: the operand in bytes 0 to 15, the compare value in bytes 16 to 31 (R172). -/
def amoData (o : AmoOp) : Line :=
  let n := 2 ^ o.size
  let v := o.data.toNat % 2 ^ (8 * n)
  let c := if o.op = .cas then o.cmp.toNat % 2 ^ (8 * n) else 0
  BitVec.ofNat 512 (v + c * 2 ^ 128)

/-- The sizes of an AMO (R82, R172): 4 and 8 bytes, and 16 for a CAS with an even register pair. -/
def amoSized (o : AmoOp) : Bool := o.size == 2 || o.size == 3 || (o.size == 4 && decide (o.op = .cas) && o.rd % 2 == 0)

/-- Whether an AMO on ordinary memory is performed far (R185): in a FAR_ATOMIC window, or directly after ntl.all. -/
def State.farAmo (s : State) (o : AmoOp) (pa : Nat) : Bool :=
  o.ntlAll || ((s.bind.anyWindow pa).map (fun w => w.has 8)).getD false

/-- A far AMO waits for a line that is leaving or on its way in, and for the hart's own requests on it (R187). -/
def State.farWaits (s : State) (h l : Nat) : Bool := (s.hart h).wbs.any (fun b => b.line == l) || s.ncWaits h l .amof false

/-- A far AMO (R185). -/
def State.farSend (s : State) (h : Nat) (o : AmoOp) (pa : Nat) : State :=
  let l := pa / 64
  s.request h .amof .nc (s.homeNode l) l (amoMisc o pa) false false (amoData o) [.amo o pa]

/-- An AMO at memory or device (R185, R186); control space, doorbells and interrupt files take none (R9). -/
def State.amoAt (s : State) (h : Nat) (o : AmoOp) (pa : Nat) (st : MissSt) : State :=
  match rangeOf pa with
  | .control | .doorbell | .imsic => s.raiseCode h 7 o.va
  | .hbm | .ddr | .cxl | .mmio32 | .mmio64 | .reserved =>
    s.request h .amom st (s.ioNode pa) (pa / 64) (amoMisc o pa) false false (amoData o) [.amo o pa]

/-- The value that a pair's comparator matches for an AMO: its operand. -/
def amoOperand (o : AmoOp) : Nat := o.data.toNat % 2 ^ (8 * 2 ^ o.size)

/-- Whether an AMO waits with nothing sent, and what it does (R185): near, far, or at memory or device. -/
def State.amoGo (s : State) (h : Nat) (o : AmoOp) (pa : Nat) (p : AccPlace) : Bool × (State → State) :=
  match p with
  | .side => (s.ioTravels h, fun s => (s.modHart h (fun x => x.count 37 1)).amoAt h o pa .io)
  | .nc => (s.ncWaits h (pa / 64) .amom false, fun s => s.amoAt h o pa .nc)
  | .ordinary =>
    if s.farAmo o pa then (s.farWaits h (pa / 64), fun s => s.farSend h o pa)
    else (s.ownWaits h (pa / 64), fun s => s.ownAccess h o.va (pa / 64) (.amo o pa))

/-- AMO (R113, R185). It needs the right to read and to write. -/
def amoAccess (s : State) (h : Nat) (o : AmoOp) (u : Upset) : State :=
  let n := 2 ^ o.size
  if !amoSized o then s
  else if o.va.toNat % n ≠ 0 then s.misaligned h .store o.va
  else match s.locateWith h .store o.va n false u with
    | .inl t => t
    | .inr (t, pa, p) =>
      if (match s.physCheck h .load pa n with | .ok _ => false | .fault | .world => true) then t.raiseCode h 7 o.va
      else
        let r := if p = .ordinary then t.cacheUpset h (pa / 64) false u else (t, true)
        let g := r.1.amoGo h o pa p
        if r.2 then r.1.released h .amo o.va pa o.size (some (amoOperand o)) g.1 g.2 else r.1

/-- AMO: it passes the triggers on loads and on stores. -/
def execAmo (h : Nat) (o : Met AmoOp) (s : State) : Result :=
  .next (s.instr h (fun s => s.watched h .load o.it.va (2 ^ o.it.size) none (fun s =>
    s.watched h .store o.it.va (2 ^ o.it.size) none (fun s => amoAccess s h o.it o.upset))))

/-- LR (R175, R178, R185): always near. -/
def lrAccess (s : State) (h rd : Nat) (va : Word) (size : Nat) (u : Upset) : State :=
  let n := 2 ^ size
  if size ≠ 2 ∧ size ≠ 3 then s
  else if va.toNat % n ≠ 0 then s.misaligned h .load va
  else match s.locateWith h .load va n false u with
    | .inl t => t
    | .inr (t, pa, .ordinary) => t.ownWith h va (pa / 64) u (.lr rd va pa size)
    | .inr (t, _, .nc) | .inr (t, _, .side) => t.raiseCode h 5 va

def execLr (h rd : Nat) (va : Met Word) (size : Nat) (s : State) : Result :=
  .next (s.instr h (fun s => s.watched h .load va.it (2 ^ size) none (fun s => lrAccess s h rd va.it size va.upset)))

/-- The end of a reservation: deferred snoops go on (R178). -/
def State.endReserve (s : State) (h : Nat) : State :=
  (s.modHart h (fun x => { x with reserve := none, deferTo := none })).releaseSnoops h

/-- An SC on a line that the core holds in M or E (R175, R178, R337). -/
def State.scPerform (s : State) (h rd : Nat) (va : Word) (pa size : Nat) (data : Word) : State :=
  let n := 2 ^ size
  let s := s.recallLine h va (pa / 64) false
  let bad := (((s.hart h).lineCopy (pa / 64)).map (fun c => poisonAt c.poison pa n)).getD false
  if bad then (s.consumePoison h pa .store va).endReserve h
  else (s.putHart h (((s.hart h).storeTo s.bind (hartCore h) s.time.now pa n data.toNat).setX rd 0)).endReserve h

/-- An SC on ordinary memory (R113, R178, R185): it succeeds where the reservation still stands; a line that a read by others has left in S is first owned again. -/
def State.scGo (s : State) (h rd : Nat) (va : Word) (pa size : Nat) (data : Word) : State :=
  let l := pa / 64
  let fail := fun (s : State) => ((s.spend h).modHart h (fun x => x.setX rd 1)).endReserve h
  if (s.hart h).reserve ≠ some l then fail s
  else match (s.hart h).lineSt l with
    | .m | .e => ((s.spend h).modHart h (fun x => x.noteData l)).scPerform h rd va pa size data
    | .s => s.missFor h l .upg .smA false false (.prefetch true va)
    | .i => fail s

/-- SC (R175, R178, R185). -/
def scAccess (s : State) (h rd : Nat) (va : Word) (size : Nat) (data : Word) (u : Upset) : State :=
  let n := 2 ^ size
  if size ≠ 2 ∧ size ≠ 3 then s
  else if va.toNat % n ≠ 0 then s.misaligned h .store va
  else match s.locateWith h .store va n false u with
    | .inl t => t
    | .inr (t, _, .nc) | .inr (t, _, .side) => t.raiseCode h 7 va
    | .inr (t, pa, .ordinary) =>
      let r := t.cacheUpset h (pa / 64) false u
      if r.2 && r.1.isReleased h .amo va pa size (some (data.toNat % 2 ^ (8 * n))) then r.1.scGo h rd va pa size data else r.1

/-- SC: it passes the triggers on stores and their data. -/
def execSc (h rd : Nat) (va : Met Word) (size : Nat) (data : Word) (s : State) : Result :=
  .next (s.instr h (fun s => s.watched h .store va.it (2 ^ size) (some (data.toNat % 2 ^ (8 * 2 ^ size))) (fun s => scAccess s h rd va.it size data va.upset)))

/-! ### Cache-block operations (R160) -/

/-- The exception of a cache-block operation that an envcfg field forbids (log 11): illegal from S and U, virtual instruction in V. -/
def Hart.cboDenied (x : Hart) (on : Word → Bool) : Option Nat :=
  if x.mode = .m then none
  else if !on (x.getCsr 0x30A) then some 2
  else if x.virt then
    if !on (x.getCsr 0x60A) || (decide (x.mode = .u) && !on (x.getCsr 0x10A)) then some 22 else none
  else if decide (x.mode = .u) && !on (x.getCsr 0x10A) then some 2
  else none

/-- Whether CBIE makes an inval act as a flush: 0b01 in a register that applies (log 11). -/
def Hart.invalFlushes (x : Hart) : Bool :=
  decide (x.mode ≠ .m) && (fieldOf (x.getCsr 0x30A) 4 2 == 1 || (x.virt && fieldOf (x.getCsr 0x60A) 4 2 == 1)
    || (decide (x.mode = .u) && fieldOf (x.getCsr 0x10A) 4 2 == 1))

def cbie (v : Word) : Bool := fieldOf v 4 2 != 0
def cbcfe (v : Word) : Bool := flagOf v 6
def cbze (v : Word) : Bool := flagOf v 7

/-- The block of a clean, flush or inval: the right to read or to write suffices, and every fault is that of a store (R160; log 11). -/
def State.locateBlock (s : State) (h : Nat) (va : Word) : Sum State (State × Nat × AccPlace) :=
  let t := s.noteXlate h .load va false
  match s.translate h .load va with
  | .walk => .inl (t.modHart h (fun x => { x with walk := some { va := va, store := false, exec := false, spec := false, hint := false, cbo := true } }))
  | .exc e => .inl (t.raise h e.asStore)
  | .ok pa pbmt =>
    let a := pa / 64 * 64
    match s.physCheck h .load a 64, s.physCheck h .store a 64 with
    | .ok c, _ => .inr (t, a / 64, placeOf c pbmt)
    | _, .ok c => .inr (t, a / 64, placeOf c pbmt)
    | .world, _ => .inl ((t.logWorldDenied h a).raiseCode h 7 va)
    | _, _ => .inl (t.raiseCode h 7 va)

/-- Whether an operation on a block waits: a transaction, a write-back or a grant of its line is on the way, another core keeps it under a hold window or a reservation, or the core itself waits for it. -/
def State.blockBusy (s : State) (h l : Nat) : Bool :=
  ((s.slice (s.homeOf (64 * l))).txn l).isSome || ((s.hart h).missOf l).isSome
    || s.harts.any (fun e => e.2.wbs.any (fun w => w.line == l) || (e.1 != h && e.2.snoopHeld l s.time.cycle))
    || s.net.coh.any (fun m => carriesLine m l)

/-- The dirty copy of a block, if any: a core's, else the L3's. -/
def State.dirtyBlock (s : State) (l : Nat) : Option (Line × Poison) :=
  match s.harts.findSome? (fun e => if e.2.lineSt l = .m then (e.2.lineCopy l).map (fun c => (c.data, c.poison)) else none) with
  | some v => some v
  | none =>
    match l3Find (s.slice (s.homeOf (64 * l))) l with
    | some (_, e) => if e.dirty then some (e.data, e.poison) else none
    | none => none

/-- A core's copies of a line made clean. -/
def Hart.cleanCopies (x : Hart) (l : Nat) (v : Line × Poison) : Hart :=
  if x.lineSt l = .m then
    let f := fun (c : CLine) => { c with st := .e, data := v.1, poison := v.2 }
    { x with l1d := mapLine x.l1d l f, vc := mapLine x.vc l f, l2 := mapLine x.l2 l f }
  else x

/-- cbo.clean (R160, R263): a dirty copy is written back to memory, and copies stay valid. -/
def State.cleanBlock (s : State) (l : Nat) : State :=
  match s.dirtyBlock l with
  | none => s
  | some v =>
    let s := s.queueWrite l v.1 v.2
    let s : State := { s with harts := s.harts.map (fun e => (e.1, e.2.cleanCopies l v)) }
    s.modSlice (s.homeOf (64 * l)) (fun t => { t with
      lines := t.lines.map (fun e => if e.2.line == l && e.2.valid then (e.1, { e.2 with dirty := false, data := v.1, poison := v.2 }) else e) })

/-- Every copy of a block invalidated, L3 included; locked ways stay reserved (R152, R160). -/
def State.dropBlock (s : State) (l : Nat) : State :=
  let s : State := { s with harts := s.harts.map (fun e => (e.1, (e.2.answer true l).2.2.2)) }
  s.modSlice (s.homeOf (64 * l)) (fun t =>
    let t := t.dropL3 l
    { t with dir := t.dir.filter (fun e => e.2.line != l) })

/-- cbo.flush (R160). -/
def State.flushBlock (s : State) (l : Nat) : State :=
  match s.dirtyBlock l with
  | some v => (s.queueWrite l v.1 v.2).dropBlock l
  | none => s.dropBlock l

/-- The three operations that act on every copy of a block. -/
inductive CboKind where
  | inval | clean | flush
deriving DecidableEq, Repr

/-- The imm field of a cache-block operation's instruction. -/
def CboKind.imm (k : CboKind) : Nat :=
  match k with
  | .inval => 0
  | .clean => 1
  | .flush => 2

def CboKind.enabled (k : CboKind) : Word → Bool :=
  match k with
  | .inval => cbie
  | .clean | .flush => cbcfe

/-- The effect of an operation on a block; with CBIE 0b01 an inval acts as a flush. -/
def CboKind.act (k : CboKind) (x : Hart) (s : State) (l : Nat) : State :=
  match k with
  | .inval => if x.invalFlushes then s.flushBlock l else s.dropBlock l
  | .clean => s.cleanBlock l
  | .flush => s.flushBlock l

/-- The bits of a cache-block operation; rs1, which the command does not carry, is bits 19:15. -/
def cboBits (imm : Nat) : Nat := imm * 2 ^ 20 + 0x200F

/-- A clean, flush or inval: its envcfg field, its block, and its effect in ordinary memory; none in non-cacheable memory, and a store access fault on a side-effect page (R113, R160). -/
def cboOp (s : State) (h : Nat) (va : Word) (k : CboKind) : State :=
  match (s.hart h).cboDenied k.enabled with
  | some c => s.raiseIllegal h c (cboBits k.imm) 0xF8000
  | none =>
    match s.locateBlock h va with
    | .inl t => t
    | .inr (t, l, .ordinary) =>
      let ds := t.portHolders l (decide (k = .clean))
      if t.blockBusy h l || !t.isReleased h .cbo va (64 * l) 6 none then t
      else if !ds.isEmpty then t.recallPorts l (decide (k = .clean)) ds
      else k.act (t.hart h) (t.spend h) l
    | .inr (t, _, .nc) => t
    | .inr (t, _, .side) => t.raiseCode h 7 va

def execCboClean (h : Nat) (va : Word) (s : State) : Result := .next (s.instr h (fun s => cboOp s h va .clean))
def execCboFlush (h : Nat) (va : Word) (s : State) : Result := .next (s.instr h (fun s => cboOp s h va .flush))
def execCboInval (h : Nat) (va : Word) (s : State) : Result := .next (s.instr h (fun s => cboOp s h va .inval))

/-- CBO_ZERO (R113, R160): the line is taken in M and filled with zeros; non-cacheable memory takes a 64-byte store of zeros. -/
def cboZero (s : State) (h : Nat) (va : Word) : State :=
  match (s.hart h).cboDenied cbze with
  | some c => s.raiseIllegal h c (cboBits 4) 0xF8000
  | none =>
    let a := word (va.toNat / 64 * 64)
    match s.locate h .store a 64 false with
    | .inl t => t
    | .inr (t, pa, .ordinary) =>
      t.released h .cbo a pa 6 none (t.ownWaits h (pa / 64)) (fun t => t.ownAccess h a (pa / 64) (.zero a pa))
    | .inr (t, pa, .nc) =>
      t.released h .cbo a pa 6 none (t.ncWaits h (pa / 64) .wrnc false)
        (fun t => t.request h .wrnc .nc (t.homeNode (pa / 64)) (pa / 64) (ncMisc pa 6) false false 0 [.zero a pa])
    | .inr (t, _, .side) => t.raiseCode h 7 a

/-- CBO_ZERO: it passes the triggers on stores. -/
def execCboZero (h : Nat) (va : Word) (s : State) : Result :=
  .next (s.instr h (fun s => s.watched h .store (word (va.toNat / 64 * 64)) 64 none (fun s => cboZero s h va)))

/-! ### Prefetches (R98, R101, R160) -/

/-- A line that a prefetch asks for (R175): nothing where the core holds it or waits for it, or where a miss would wait. -/
def State.prefetchLine (s : State) (h l : Nat) (va : Word) (spec fetch : Bool) : State :=
  let x := s.hart h
  if x.lineSt l ≠ .i then (if spec then s else s.setHart h (x.confirm l))
  else if (x.missOf l).isSome || s.missWaits h l .rds spec fetch then s
  else
    let s := if spec then s.modHart h (fun x => x.count 41 1) else s
    s.request h .rds .isD (s.homeNode l) l 0 spec fetch 0 [.prefetch false va]

/-- Whether a prefetch.w finds the right to write at an address that it may read. -/
def State.mayWrite (s : State) (h : Nat) (va : Word) (pa : Nat) : Bool :=
  (match s.translate h .store va with | .ok _ _ => true | .walk => true | .exc _ => false)
    && (match s.physCheck h .store (pa / 64 * 64) 64 with | .ok _ => true | .fault | .world => false)

/-- ZICBOP_PREFETCH (R98, R160): a hint that faults never, walks where the TLBs miss, and does nothing outside ordinary memory. -/
def zicbopPrefetch (s : State) (h : Nat) (kind : PrefetchKind) (va : Word) : State :=
  let fetch := decide (kind = .i)
  let k := if fetch then AccKind.fetch else .load
  let t := s.noteXlate h k va false
  match s.translate h k va with
  | .walk => t.modHart h (fun x => { x with walk := some { va := va, store := false, exec := fetch, spec := false, hint := true, cbo := false } })
  | .exc _ => t
  | .ok pa pbmt =>
    match s.physCheck h k (pa / 64 * 64) 64 with
    | .ok c =>
      if placeOf c pbmt = .ordinary ∧ (kind ≠ .w ∨ s.mayWrite h va pa = true) then t.prefetchLine h (pa / 64) va false fetch else t
    | .fault | .world => t

def execZicbopPrefetch (h : Nat) (kind : PrefetchKind) (va : Word) (s : State) : Result :=
  .next (s.instr h (fun s => zicbopPrefetch s h kind va))

/-- HARDWARE_PREFETCH (R98, R101, R103, R399): within the 4 KiB page of the triggering access, where that page lies in an R window with ordinary memory attributes; speculative always; none with PF_OFF or degree 0. -/
def hardwarePrefetch (s : State) (h : Nat) (trigger va : Word) : State :=
  let x := s.hart h
  if x.lzspec.getLsbD 2 || x.prefetchDeg == 0 || va.toNat / 4096 != trigger.toNat / 4096 then s
  else match s.translate h .load trigger with
    | .walk | .exc _ => s
    | .ok pa pbmt =>
      let page := pa / 4096 * 4096
      match s.physCheck h .load page 4096 with
      | .ok c => if placeOf c pbmt = .ordinary then s.prefetchLine h ((page + va.toNat % 4096) / 64) va true false else s
      | .fault | .world => s

def execHardwarePrefetch (h : Nat) (trigger va : Word) (s : State) : Result :=
  .next (if s.hartLive h then hardwarePrefetch s h trigger va else s)

/-! ### lz.lock and lz.unlock (R111, R151, R152) -/

/-- The way of a line unlocked: UNLOCKED or NOT_LOCKED; a reserved way without data becomes free (R111, R152). -/
def Hart.unlockLine (x : Hart) (rd l : Nat) : Hart :=
  match x.l2.find? (fun e => e.2.line == l && e.2.locked) with
  | some (k, c) =>
    ({ x with l2 := if c.st.valid then Tab.set x.l2 k { c with locked := false } else Tab.del x.l2 k }).setX rd 0
  | none => x.setX rd 1

/-- What lz.lock and lz.unlock share (R111): the address translates as a load, a side-effect page faults, and non-cacheable memory answers NOT_CACHEABLE. -/
def lockOp (s : State) (h rd rs1 : Nat) (f : State → Word → Nat → State) : State :=
  let va := (s.hart h).getX rs1
  match s.locate h .load va 1 false with
  | .inl t => t
  | .inr (t, pa, .ordinary) => f t va pa
  | .inr (t, _, .nc) => t.modHart h (fun x => (x.setX rd 3).retire .xlz)
  | .inr (t, _, .side) => t.raiseCode h 5 va

/-- lz.lock of a line of ordinary memory (R111, R113, R151): a retiring read brings it into the L2, and its way is locked. -/
def State.lockGo (s : State) (h rd : Nat) (va : Word) (pa : Nat) : State :=
  let l := pa / 64
  let out := decide ((s.hart h).lineSt l = .i)
  s.released h .lock va pa 0 none (out && s.missWaits h l .rds false false) (fun s =>
    if out then s.missFor h l .rds .isD false false (.lock rd va pa) else s.perform h (.lock rd va pa))

/-- LZ_LOCK (R111, R151). -/
def execLzLock (h rd rs1 : Nat) (s : State) : Result :=
  .next (s.instr h (fun s => lockOp s h rd rs1 (fun s va pa => s.lockGo h rd va pa)))

/-- LZ_UNLOCK (R111, R113). -/
def execLzUnlock (h rd rs1 : Nat) (s : State) : Result :=
  .next (s.instr h (fun s => lockOp s h rd rs1 (fun s va pa =>
    s.released h .unlock va pa 0 none false (fun s => s.modHart h (fun x => (x.unlockLine rd (pa / 64)).retire .xlz)))))

/-! ### Requests without allocation at their home or port (R180, R186, R188, R189) -/

/-- Whether a side-effect request is the oldest of its hart that has not reached its port or home (R188). -/
def State.ioFirst (s : State) (m : CohMsg) : Bool :=
  if isClusterNode m.src then
    let x := s.hart (hartAt m.src m.core)
    match x.misses.find? (fun p => p.tag == m.tag) with
    | some p =>
      decide (p.st ≠ .io) || (x.misses.takeWhile (fun p => p.tag != m.tag)).all (fun p =>
        decide (p.st ≠ .io) || !s.net.coh.any (fun c => c.src == m.src && c.core == m.core && c.tag == p.tag && isRequest c.opc))
    | none => true
  else true

/-- The answer of a port to a request. -/
def portAnswer (m : CohMsg) (status : Nat) : CohMsg :=
  { cohMsg (if needsData m.opc then .dat else .cmp) m.src m.dst m.core m.tag m.addr with
    qid := m.qid, secure := m.secure, status := status, hasData := needsData m.opc, cls := m.cls, issue := m.issue }

/-- The atomics that a port performs as PCIe AtomicOps: SWAP, ADD and CAS (R186, R290). -/
def portAtomic (m : CohMsg) : Bool :=
  match amoOfCode (bitsOf m.misc 0 4) with
  | .swap | .add | .cas => true
  | .and | .or | .xor | .min | .max | .minu | .maxu => false

/-- A request reaches a port group (R186, R188, R294): a store is answered once it holds its place in the port's queue; a read or an atomic waits for the device. -/
def State.portRequest (s : State) (m : CohMsg) (g : Nat) : State :=
  let s := s.takeCoh m
  let s := if m.hasData then s.noteAt m.dst m.core m.cls 64 none else s
  let queued := fun (s : State) => ({ s with net := { s.net with io := s.net.io ++ [m] } } : State)
  if s.portShut g then s.sendCoh (portAnswer m stDevError)
  else if m.opc = .wrnc then (queued s).sendCoh (portAnswer m stOk)
  else if decide (m.opc = .amom) && !portAtomic m then s.sendCoh (portAnswer m stDevError)
  else queued s

/-- A RdNC, WrNC or AmoM arrives (R180, R188, R189): memory ranges at their home, I/O ranges at their port. -/
def ncRequest (s : State) (m : CohMsg) : State :=
  if !s.ioFirst m then s
  else if (sliceAt m.dst).isSome then homeRequest s m
  else match pcieAt m.dst with
    | some g => s.portRequest m g
    | none => (s.takeCoh m).sendCoh (portAnswer m stUnsupported)

def execRdnc (m : Met CohMsg) (s : State) : Result := .next (s.arrive { m.it with opc := .rdnc } m.upset ncRequest)
def execWrnc (m : Met CohMsg) (s : State) : Result := .next (s.arrive { m.it with opc := .wrnc, hasData := true } m.upset ncRequest)
def execAmom (m : Met CohMsg) (s : State) : Result := .next (s.arrive { m.it with opc := .amom, hasData := true } m.upset ncRequest)

/-! ### Completion timeouts (R332, R333) -/

/-- COH_TIMEOUT for a request to a home, REQ_TIMEOUT otherwise (R333). -/
def State.logTimeout (s : State) (origin dst tag line qid : Nat) : State :=
  let y := if (sliceAt dst).isSome then Syn.cohTimeout else Syn.reqTimeout
  s.log (((y.record origin 0x19 tag qid).withAddr (64 * line)).withBlame dst)

/-- Whether a waiting access is a store that has retired. -/
def Waiter.retired (w : Waiter) : Bool :=
  match w with
  | .store _ _ _ _ | .zero _ _ | .pair _ _ _ _ => true
  | .load _ _ | .amo _ _ | .lr _ _ _ _ | .lock _ _ _ | .prefetch _ _ | .pte _ | .buffer _ _ => false

/-- An expired request of a hart (R333): a speculative one frees its register; one that serves a retired store fences the core; any other raises its access fault. The tag stays in use until the closing message comes. -/
def State.missExpired (s : State) (h : Nat) (m : Miss) : State :=
  let x := s.hart h
  let s := s.logTimeout (hartOrigin h) m.dst m.tag m.line x.qid
  let keep := if m.spec then m.waiters else []
  let s := s.modHart h (fun x => { x with
    misses := x.misses.map (fun k => if k.tag == m.tag then { k with expired := true, waiters := keep } else k) })
  if m.spec then s
  else if m.waiters.any Waiter.retired then s.addFence (coreUnit h) Syn.cohTimeout.code
  else s.failWaiters h m.waiters

/-- An expired WbD or Evc (R333): sent once more with a new tag, the old one staying in use until its Cmp comes (R173); a second expiry fences the core. -/
def State.wbExpired (s : State) (h : Nat) (w : Wb) : State :=
  let x := s.hart h
  let s := s.logTimeout (hartOrigin h) (s.homeNode w.line) w.tag w.line x.qid
  if w.retried then s.addFence (coreUnit h) Syn.cohTimeout.code
  else
    let t := x.freeTag (hartCore h)
    let n : Wb := { w with tag := t, sent := s.time.now, retried := true }
    let y := { x with wbs := x.wbs.map (fun o => if o.tag == w.tag then n else o), nextTag := (t + 1) % 512, oldTags := x.oldTags ++ [w.tag] }
    let s := s.setHart h y
    s.sendCoh (s.wbMsg h n)

/-- A hart's timer (R332): due once the timeout of the request's class has passed. -/
def hartTimeout (s : State) (h tag : Nat) : State :=
  let x := s.hart h
  match x.misses.find? (fun m => m.tag == tag && !m.expired) with
  | some m => if m.sent + s.bind.timeoutNs m.cls ≤ s.time.now then s.missExpired h m else s
  | none =>
    match (x.wbs.take 8).find? (fun w => w.tag == tag) with
    | some w => if w.sent + s.bind.timeoutNs 1 ≤ s.time.now then s.wbExpired h w else s
    | none => s

/-- A request of a node that has no closing message yet: on its way, or at its home or port. -/
def State.outstanding (s : State) (node tag : Nat) : Option CohMsg :=
  let mine := fun (m : CohMsg) => m.src == node && m.tag == tag && isRequest m.opc
  match (s.net.coh ++ s.net.io).find? mine with
  | some m => some m
  | none => (List.range sliceCount).findSome? (fun n =>
      let t := s.slice n
      match t.waiting.find? (fun w => mine w.msg) with
      | some w => some w.msg
      | none =>
        match t.active.find? (fun x => mine x.req && !x.evict) with
        | some x => some x.req
        | none => t.stalled.find? mine)

/-- Whether a request has waited for the timeout of its class (R332). -/
def State.overdue (s : State) (m : CohMsg) : Bool := decide (s.bind.timeoutNs m.cls ≤ latencyOf s m)

/-- A request of the Clasp, the Governor or the fabric manager that has expired (R333): sent once more; a second expiry is logged only. -/
def State.retryOnce (s : State) (node tag : Nat) : State :=
  match s.outstanding node tag with
  | none => s
  | some m =>
    if !s.overdue m then s
    else
      let s := s.logTimeout node m.dst tag m.addr m.qid
      if s.net.again.contains (node, tag) then s
      else
        let t := (tag + 1) % 4096
        let s := s.sendCoh { m with tag := t, issue := BitVec.ofNat 32 s.now }
        { s with net := { s.net with again := s.net.again ++ [(node, t)] } }

/-- A descriptor whose request reached TO_B_US (R281, R333): its lane's flight number stands for the tag. -/
def State.laneTimeout (s : State) (lane i : Nat) : State :=
  match (s.lane lane).flights[i]? with
  | none => s
  | some f =>
    if f.st ≠ .started ∨ s.time.now < f.since + s.bind.timeoutNs 0 then s
    else
      let a := f.src
      let dst := if (rangeOf a).isMemory then s.homeNode (a / 64) else mmioNode a
      let d : DescRef := { lane := lane, sq := f.sq, idx := f.idx }
      (s.logTimeout (laneNodeOf lane) dst i (a / 64) (s.viQid f.vi)).finish d 7 f.length 0

/-- The lane at a node: 8 for the front end. -/
def laneTimerAt (node : Nat) : Option Nat := firstBelow 9 (fun n => laneNodeOf n == node)

/-- A timer of a node that is no hart (R333): a lane's descriptor completes with TIMEOUT, a port group's function gets Completer Abort or GO-Err, the fabric manager sends once more. A System Link port performs remote accesses in the step in which they arrive, so that none of its own is outstanding (log 14). -/
def nodeTimeout (s : State) (node tag : Nat) : State :=
  match laneTimerAt node with
  | some n => s.laneTimeout n tag
  | none =>
    if node = fmNode ∨ node = govNode ∨ node = claspNode then s.retryOnce node tag
    else match s.outstanding node tag with
      | none => s
      | some m =>
        if !s.overdue m then s
        else
          let s := s.logTimeout node m.dst tag m.addr m.qid
          if (pcieAt node).isSome then { s with io := { s.io with aborts := s.io.aborts ++ [(node, 64 * m.addr)] } } else s

/-- COMPLETION_TIMEOUT (R332, R333). -/
def execCompletionTimeout (who : Agent) (tag : Nat) (s : State) : Result :=
  .next (match who with
    | .hart h => if s.fuse.hartOk h && decide ((s.hart h).run ≠ .fenced) then hartTimeout s h tag else s
    | .governor => s.retryOnce govNode tag
    | .clasp => s.retryOnce claspNode tag
    | .node n => nodeTimeout s n tag)

end Sys2Proof.Machine
end

