-- ==== Sys2Proof/Machine/Flush.lean ====
section
/-! DEFINITION. The persistent flush (R264 to R267, R416, R419). -/

namespace Sys2Proof.Machine

/-- PWRFAIL_N_FALL (R266, R416, R419): before step 7 every domain except STBY is held in reset, unless RESET_N is low; later the flush follows after 100 ns. -/
def pwrfailNFall (s : State) : State :=
  let s : State := { s with pins := { s.pins with pwrfailN := false } }
  match s.boot.phase with
  | .ready _ | .noBinding => if s.pins.resetN then s.holdDomains .powerFail else s
  | _ => s

def execPwrfailNFall (s : State) : Result := .next (pwrfailNFall s)

/-- A delta in its quiesce phase at the trigger ends ABORTED (R266). -/
def State.abortQuiesce (s : State) : State :=
  match s.clasp.work with
  | some (.quiesce q d _ _ _ _) =>
    let s := (s.oldOwners (s.bind.merge d)).foldl State.clearPend s
    (s.endReq q 2 0 2).setWork none
  | _ => s

/-- A flush begins (R266, R388): harts stop, homes start no transaction, lanes and ports take no new write; an entry into a package state becomes the flush. -/
def persistentFlush (s : State) (byRule : Bool) : State :=
  let cause := if byRule then s.ff.flushRule.isSome else !s.pins.pwrfailN
  if s.boot.phase = .running ∧ s.boot.flush = .none ∧ s.pwr.pk < 2 ∧ cause = true then
    let s := s.stopHarts.abortQuiesce
    { s with boot := { s.boot with flush := .stopping, flushMoving := s.movingWindows, flushTrigger := if byRule then 2 else 1, flushTime := s.now, flushByRule := byRule },
             pwr := { s.pwr with pkEntering := none, pkDrained := false, pkWakeHeld := none } }
  else s

def execPersistentFlush (byRule : Bool) (s : State) : Result := .next (persistentFlush s byRule)

/-- FLUSH_DRAINED (R266, R267): the queues have drained and GPF has run; each window whose lines all drained has its CLEAN record written. The entry into PK2 or deeper runs the same row once, and holds no domain in reset. -/
def flushDrained (s : State) (failed : List (Nat × Nat)) : State :=
  if s.boot.flush = .stopping then
    let s : State := { s with mem := s.mem.drain }
    let s := s.commitFlush failed
    { s with boot := { s.boot with flush := .drained } }
  else match s.pwr.pkEntering with
    | some k =>
      if s.pwr.pkDrained then s
      else
        let s := s.sleepFlush k failed
        { s with pwr := { s.pwr with pkDrained := true } }
    | none => s

def execFlushDrained (failed : List (Nat × Nat)) (s : State) : Result := .next (flushDrained s failed)

/-- PFLUSH_DONE (R266, R419): the Firefly log records it and the domains are held in reset; a fall of RESET_N that waited takes effect now. -/
def pflushDone (s : State) : State :=
  if s.boot.flush = .drained then
    let s := (s.ffLog 3 0 0).holdDomains .flushed
    if s.pins.resetN then s else s.startWarm .pin
  else s

def execPflushDone (s : State) : Result := .next (pflushDone s)

/-- PWRFAIL_RECOVERY (R266, R416): PWRFAIL_N has been high for 1 ms; after a flush that it triggered a warm reset begins, and a start-up that it held goes on at step 3. -/
def pwrfailRecovery (s : State) : State :=
  let s : State := { s with pins := { s.pins with pwrfailN := true } }
  match s.boot.phase with
  | .flushed => if s.boot.flushByRule then s else s.startWarm .flush
  | .powerFail => { s with boot := { s.boot with phase := .ready 3 } }
  | _ => s

def execPwrfailRecovery (s : State) : Result := .next (pwrfailRecovery s)

end Sys2Proof.Machine
end

