-- ==== Sys2Proof/Machine/Pair.lean ====
section
/-! DEFINITION. Instructions that read or write a 64-byte buffer, lz.mbsend and lz.mbrecv (R98, R106, R109), and the requests that the comparator of a checked pair releases (R113). -/

namespace Sys2Proof.Machine

/-! ### lz.mbsend and lz.mbrecv (R106, R109) -/

/-- The 64-byte buffer of an lz.mb instruction translated and judged; a side-effect page raises the access fault. -/
def State.bufferAt (s : State) (h : Nat) (k : AccKind) (va : Word) : Sum State (State × Nat × AccPlace) :=
  if fieldOf va 0 6 ≠ 0 then .inl (s.misaligned h k va)
  else match s.locate h k va 64 false with
    | .inl t => .inl t
    | .inr (t, _, .side) => .inl (t.raiseCode h k.accessFault va)
    | .inr r => .inr r

/-- lz.mbsend with its buffer's 64 bytes: poison faults as a load's (R337), and a pair's send passes the comparator (R113). -/
def State.sendFrom (s : State) (h rd : Nat) (va : Word) (pa : Nat) (d : Line × Poison) : State :=
  if d.2 ≠ 0 then s.consumePoison h pa .load va
  else s.released h .mbsend va pa 6 none false (fun s => (s.modHart h (fun x => { x.confirm (pa / 64) with nc64 := none })).mbSend h rd (lineBytes d.1))

/-- LZ_MBSEND (R98, R106): 64 bytes are read with load permissions, through the caches or, from non-cacheable memory, by one RdNC; then the message goes into the outbox or a status says why not. -/
def mbsendAccess (s : State) (h rd rs1 : Nat) : State :=
  let va := (s.hart h).getX rs1
  match s.bufferAt h .load va with
  | .inl t => t
  | .inr (t, pa, .nc) =>
    match (t.hart h).nc64 with
    | some r =>
      if r.1 = pa / 64 then t.sendFrom h rd va pa r.2
      else t.modHart h (fun x => { x with nc64 := none })
    | none =>
      if t.ncWaits h (pa / 64) .rdnc false then t
      else t.request h .rdnc .nc (t.homeNode (pa / 64)) (pa / 64) (ncMisc pa 6) false false 0 [.buffer false va]
  | .inr (t, pa, _) =>
    if (t.hart h).ncBusy (pa / 64) then t
    else if (t.hart h).lineSt (pa / 64) = .i then t.missFor h (pa / 64) .rds .isD false false (.buffer false va)
    else
      let t := t.recallLine h va (pa / 64) false
      match (t.hart h).lineCopy (pa / 64) with
      | none => t
      | some c => t.sendFrom h rd va pa (c.data, c.poison)

def execLzMbsend (h rd rs1 : Nat) (s : State) : Result :=
  .next (s.instr h (fun s => s.watched h .load ((s.hart h).getX rs1) 64 none (fun s => mbsendAccess s h rd rs1)))

/-- The oldest entry leaves the inbox: rd is 1 (R109). -/
def State.tookEntry (s : State) (h rd : Nat) : State :=
  s.modHart h (fun x => ({ x with inbox := x.inbox.drop 1 }.setX rd 1).retire .xlz |>.count 47 1)

/-- LZ_MBRECV with an entry (R109, R113): its 64 bytes are stored as a store's, in a line held in M or by one WrNC; then it leaves the inbox. -/
def mbrecvAccess (s : State) (h rd : Nat) (va : Word) (e : InboxEnt) : State :=
  let data := lineOf e.bytes
  match s.bufferAt h .store va with
  | .inl t => t
  | .inr (t, pa, .nc) =>
    t.released h .store va pa 6 (some data.toNat) (t.ncWaits h (pa / 64) .wrnc false) (fun t =>
      (t.request h .wrnc .nc (t.homeNode (pa / 64)) (pa / 64) (ncMisc pa 6) false false data [.store va pa 6 0]).tookEntry h rd)
  | .inr (t, pa, _) =>
    let l := pa / 64
    let st := (t.hart h).lineSt l
    if st = .m ∨ st = .e then
      t.released h .store va pa 6 (some data.toNat) (t.ownWaits h l) (fun t =>
        let t := t.recallLine h va l false
        (t.putHart h ((t.hart h).writeHeld t.bind (hartCore h) t.time.now l (fun c => { c with data := data, poison := 0 }))).tookEntry h rd)
    else t.ownAccess h va l (.buffer true va)

/-- LZ_MBRECV (R109): with an empty inbox rd is 0 and nothing is written. -/
def execLzMbrecv (h rd rs1 : Nat) (s : State) : Result :=
  .next (s.instr h (fun s =>
    match (s.hart h).inbox with
    | [] => s.modHart h (fun x => (x.setX rd 0).retire .xlz)
    | e :: _ =>
      let va := (s.hart h).getX rs1
      s.watched h .store va 64 (some (lineOf e.bytes).toNat) (fun s => mbrecvAccess s h rd va e)))

/-! ### PAIR_RELEASE (R113) -/

/-- The kind of place of a copy's address: its range, and its page's Svpbmt type in the lowest two bits of the attributes. -/
def pairPlace (r : PairCopy) : AccPlace := placeOf (rangeOf r.addr).isMemory (r.attrs % 4)

/-- A released store goes out (R112, R113): into the line held in M, as WrNC, or to a register or device; nothing where it has to wait. -/
def State.pairStore (s : State) (h : Nat) (r : PairCopy) : Option State :=
  let l := r.addr / 64
  match pairPlace r with
  | .ordinary => if s.ownWaits h l then none else some (s.ownAccess h r.va l (.pair r.va r.addr r.data r.enables))
  | .nc =>
    if s.ncWaits h l .wrnc false then none
    else some (s.ncPut h r.va r.addr ((lineBytes r.data).drop (r.addr % 64) |>.take (2 ^ r.size)))
  | .side => if s.ioTravels h then none else some (s.ioStore h r.va r.addr r.size (word (lineGet r.data (r.addr % 64) (2 ^ r.size))))

/-- PAIR_RELEASE (R113): the matched request is released once. A store of up to 8 bytes is performed at once; the others go on as the requests of their own commands. -/
def pairRelease (s : State) (h : Nat) : State :=
  match (if s.isFenced (coreUnit h) then none else (s.hart h).pairReady) with
  | none => s
  | some (r, _) =>
    let go := s.modHart h (fun x => { x with pairReady := none }.count 53 1)
    if r.kind = .store ∧ r.size < 4 then (go.pairStore h r).getD s
    else go.modHart h (fun x => { x with pairGo := some r })

def execPairRelease (h : Nat) (s : State) : Result := .next (pairRelease s h)

end Sys2Proof.Machine
end

