-- ==== Sys2Proof/Machine/Dispatch.lean ====
section
/-! DEFINITION. The dispatch: one arm for each command, a direct call of its meaning. -/

namespace Sys2Proof.Machine

/-- The effect of a command on everything but the queue. -/
def exec (i : Instr) (s : State) : Host.Outcome State Fault Refusal :=
  match i with
  | .registerWrite who tgt v => Sys2Proof.Machine.execRegisterWrite who tgt v s
  | .refclkLost => Sys2Proof.Machine.execRefclkLost s
  | .refclkRestored => Sys2Proof.Machine.execRefclkRestored s
  | .nocPllLockLost die => Sys2Proof.Machine.execNocPllLockLost die s
  | .frameBoundary => Sys2Proof.Machine.execFrameBoundary s
  | .slewAdjustedFrame => Sys2Proof.Machine.execSlewAdjustedFrame s
  | .ptStep who v => Sys2Proof.Machine.execPtStep who v s
  | .ptSlew who v => Sys2Proof.Machine.execPtSlew who v s
  | .ptStatRead h rd => Sys2Proof.Machine.execPtStatRead h rd s
  | .timeBroadcast => Sys2Proof.Machine.execTimeBroadcast s
  | .crossingMark => Sys2Proof.Machine.execCrossingMark s
  | .markArrival x inward slot => Sys2Proof.Machine.execMarkArrival x inward slot s
  | .markerReport x inward mapCrc => Sys2Proof.Machine.execMarkerReport x inward mapCrc s
  | .stbyPwrgoodRise => Sys2Proof.Machine.execStbyPwrgoodRise s
  | .stbyPwrgoodFall => Sys2Proof.Machine.execStbyPwrgoodFall s
  | .pwrgoodFall => Sys2Proof.Machine.execPwrgoodFall s
  | .resetNRise straps => Sys2Proof.Machine.execResetNRise straps s
  | .pllLocked => Sys2Proof.Machine.execPllLocked s
  | .claspBoot => Sys2Proof.Machine.execClaspBoot s
  | .bindingSelect => Sys2Proof.Machine.execBindingSelect s
  | .crossingTraining x r => Sys2Proof.Machine.execCrossingTraining x r s
  | .memoryTraining r => Sys2Proof.Machine.execMemoryTraining r s
  | .bindingApply failed => Sys2Proof.Machine.execBindingApply failed s
  | .applyDelta h v => Sys2Proof.Machine.execApplyDelta h v s
  | .handoverAck h v => Sys2Proof.Machine.execHandoverAck h v s
  | .handoverRefuse h v => Sys2Proof.Machine.execHandoverRefuse h v s
  | .handoverTimeout q => Sys2Proof.Machine.execHandoverTimeout q s
  | .movePhaseEnd failed => Sys2Proof.Machine.execMovePhaseEnd failed s
  | .store h v => Sys2Proof.Machine.execStore h v s
  | .flashProgramDone imageOk recordOk => Sys2Proof.Machine.execFlashProgramDone imageOk recordOk s
  | .hartStart h v => Sys2Proof.Machine.execHartStart h v s
  | .colophonRequest h v => Sys2Proof.Machine.execColophonRequest h v s
  | .colophonResign => Sys2Proof.Machine.execColophonResign s
  | .status => Sys2Proof.Machine.execStatus s
  | .colophon nonce => Sys2Proof.Machine.execColophon nonce s
  | .ownerEnrol mldsaPk ecdsaPk => Sys2Proof.Machine.execOwnerEnrol mldsaPk ecdsaPk s
  | .ownerUpdate slot state hashes counter sig => Sys2Proof.Machine.execOwnerUpdate slot state hashes counter sig s
  | .loadBinding img => Sys2Proof.Machine.execLoadBinding img s
  | .debugChallenge => Sys2Proof.Machine.execDebugChallenge s
  | .debugChallengeExpiry => Sys2Proof.Machine.execDebugChallengeExpiry s
  | .debugOpen bits durationS sig => Sys2Proof.Machine.execDebugOpen bits durationS sig s
  | .debugClose => Sys2Proof.Machine.execDebugClose s
  | .debugSessionExpiry => Sys2Proof.Machine.execDebugSessionExpiry s
  | .repairClear x => Sys2Proof.Machine.execRepairClear x s
  | .instructionRetire h arg u => Sys2Proof.Machine.execInstructionRetire h arg u s
  | .branchResolve h b => Sys2Proof.Machine.execBranchResolve h b s
  | .lzLoop h level rs1 endOff => Sys2Proof.Machine.execLzLoop h level rs1 endOff s
  | .lzLoopi h level count endOff => Sys2Proof.Machine.execLzLoopi h level count endOff s
  | .lzSpecfence h => Sys2Proof.Machine.execLzSpecfence h s
  | .lzLock h rd rs1 => Sys2Proof.Machine.execLzLock h rd rs1 s
  | .lzUnlock h rd rs1 => Sys2Proof.Machine.execLzUnlock h rd rs1 s
  | .lzMbsend h rd rs1 => Sys2Proof.Machine.execLzMbsend h rd rs1 s
  | .lzMbrecv h rd rs1 => Sys2Proof.Machine.execLzMbrecv h rd rs1 s
  | .load h o u => Sys2Proof.Machine.execLoad h o u s
  | .retiringStore h va size data => Sys2Proof.Machine.execRetiringStore h va size data s
  | .amo h o => Sys2Proof.Machine.execAmo h o s
  | .lr h rd va size => Sys2Proof.Machine.execLr h rd va size s
  | .sc h rd va size data => Sys2Proof.Machine.execSc h rd va size data s
  | .lrSnoopDeferExpiry h => Sys2Proof.Machine.execLrSnoopDeferExpiry h s
  | .fence h => Sys2Proof.Machine.execFence h s
  | .fenceI h => Sys2Proof.Machine.execFenceI h s
  | .sfenceVma h va asid => Sys2Proof.Machine.execSfenceVma h va asid s
  | .hfenceVvma h va asid => Sys2Proof.Machine.execHfenceVvma h va asid s
  | .hfenceGvma h gpa vmid => Sys2Proof.Machine.execHfenceGvma h gpa vmid s
  | .cboClean h va => Sys2Proof.Machine.execCboClean h va s
  | .cboFlush h va => Sys2Proof.Machine.execCboFlush h va s
  | .cboInval h va => Sys2Proof.Machine.execCboInval h va s
  | .cboZero h va => Sys2Proof.Machine.execCboZero h va s
  | .zicbopPrefetch h kind va => Sys2Proof.Machine.execZicbopPrefetch h kind va s
  | .hardwarePrefetch h trigger va => Sys2Proof.Machine.execHardwarePrefetch h trigger va s
  | .wfi h => Sys2Proof.Machine.execWfi h s
  | .cStateEntryComplete h => Sys2Proof.Machine.execCStateEntryComplete h s
  | .coreWake h src => Sys2Proof.Machine.execCoreWake h src s
  | .trapEntry h cause tval => Sys2Proof.Machine.execTrapEntry h cause tval s
  | .xret h kind => Sys2Proof.Machine.execXret h kind s
  | .interruptTaken h cause => Sys2Proof.Machine.execInterruptTaken h cause s
  | .satpWrite h csr v => Sys2Proof.Machine.execSatpWrite h csr v s
  | .lzworldWrite h v => Sys2Proof.Machine.execLzworldWrite h v s
  | .lzdlarmWrite h n v => Sys2Proof.Machine.execLzdlarmWrite h n v s
  | .lzdlctlWrite h v => Sys2Proof.Machine.execLzdlctlWrite h v s
  | .deadlineMiss h n => Sys2Proof.Machine.execDeadlineMiss h n s
  | .tlbLock h v => Sys2Proof.Machine.execTlbLock h v s
  | .tlbUnlock h v => Sys2Proof.Machine.execTlbUnlock h v s
  | .tlbQuery h v => Sys2Proof.Machine.execTlbQuery h v s
  | .pageWalk h => Sys2Proof.Machine.execPageWalk h s
  | .mailboxMessage m u => Sys2Proof.Machine.execMailboxMessage m u s
  | .mailboxAnswer m => Sys2Proof.Machine.execMailboxAnswer m s
  | .mailboxResend h dest => Sys2Proof.Machine.execMailboxResend h dest s
  | .mailboxUTimeout h dest => Sys2Proof.Machine.execMailboxUTimeout h dest s
  | .gMessageSend stream => Sys2Proof.Machine.execGMessageSend stream s
  | .pairRequest h odd r => Sys2Proof.Machine.execPairRequest h odd r s
  | .pairRelease h => Sys2Proof.Machine.execPairRelease h s
  | .pairTimeout h => Sys2Proof.Machine.execPairTimeout h s
  | .l2WaycfgWrite h core v => Sys2Proof.Machine.execL2WaycfgWrite h core v s
  | .flushL1d h core => Sys2Proof.Machine.execFlushL1d h core s
  | .flushL2 h core => Sys2Proof.Machine.execFlushL2 h core s
  | .flushAll h core => Sys2Proof.Machine.execFlushAll h core s
  | .unlockAll h core => Sys2Proof.Machine.execUnlockAll h core s
  | .cacheCtlDone core => Sys2Proof.Machine.execCacheCtlDone core s
  | .l3qLockWrite h slice q v => Sys2Proof.Machine.execL3qLockWrite h slice q v s
  | .l3qFillWrite h slice q v => Sys2Proof.Machine.execL3qFillWrite h slice q v s
  | .l3qFlush h slice q => Sys2Proof.Machine.execL3qFlush h slice q s
  | .l3qFlushDone slice q => Sys2Proof.Machine.execL3qFlushDone slice q s
  | .l3qReseed h slice q => Sys2Proof.Machine.execL3qReseed h slice q s
  | .l3SliceFence slice tagsReadable => Sys2Proof.Machine.execL3SliceFence slice tagsReadable s
  | .dirRebuild slice => Sys2Proof.Machine.execDirRebuild slice s
  | .rds m => Sys2Proof.Machine.execRds m s
  | .rdu m => Sys2Proof.Machine.execRdu m s
  | .upg m => Sys2Proof.Machine.execUpg m s
  | .rdnc m => Sys2Proof.Machine.execRdnc m s
  | .wrnc m => Sys2Proof.Machine.execWrnc m s
  | .wbd m => Sys2Proof.Machine.execWbd m s
  | .evc m => Sys2Proof.Machine.execEvc m s
  | .amof m => Sys2Proof.Machine.execAmof m s
  | .amom m => Sys2Proof.Machine.execAmom m s
  | .transactionStart slice line u => Sys2Proof.Machine.execTransactionStart slice line u s
  | .snps m u => Sys2Proof.Machine.execSnps m u s
  | .snpi m u => Sys2Proof.Machine.execSnpi m u s
  | .snpbi m u => Sys2Proof.Machine.execSnpbi m u s
  | .rspi m => Sys2Proof.Machine.execRspi m s
  | .rsps m => Sys2Proof.Machine.execRsps m s
  | .rspd m => Sys2Proof.Machine.execRspd m s
  | .rspx m => Sys2Proof.Machine.execRspx m s
  | .dat m u => Sys2Proof.Machine.execDat m u s
  | .cmp m => Sys2Proof.Machine.execCmp m s
  | .cmpack m => Sys2Proof.Machine.execCmpack m s
  | .holdWindowEnd h line => Sys2Proof.Machine.execHoldWindowEnd h line s
  | .snoopTimeout slice line node core => Sys2Proof.Machine.execSnoopTimeout slice line node core s
  | .completionTimeout who tag => Sys2Proof.Machine.execCompletionTimeout who tag s
  | .ackTimeout slice line => Sys2Proof.Machine.execAckTimeout slice line s
  | .replan changed => Sys2Proof.Machine.execReplan changed s
  | .sourceHold => Sys2Proof.Machine.execSourceHold s
  | .slotTableSwitch => Sys2Proof.Machine.execSlotTableSwitch s
  | .statClear who arg => Sys2Proof.Machine.execStatClear who arg s
  | .laneFailing x inward lane => Sys2Proof.Machine.execLaneFailing x inward lane s
  | .errorCountWindow => Sys2Proof.Machine.execErrorCountWindow s
  | .crossingRemap x => Sys2Proof.Machine.execCrossingRemap x s
  | .repairMapSave => Sys2Proof.Machine.execRepairMapSave s
  | .partnerCertificate site cert => Sys2Proof.Machine.execPartnerCertificate site cert s
  | .partnerCertTimeout site => Sys2Proof.Machine.execPartnerCertTimeout site s
  | .partnerTrained site dieInfo => Sys2Proof.Machine.execPartnerTrained site dieInfo s
  | .partnerLost site => Sys2Proof.Machine.execPartnerLost site s
  | .partnerRetry site => Sys2Proof.Machine.execPartnerRetry site s
  | .extest die => Sys2Proof.Machine.execExtest die s
  | .idcode die => Sys2Proof.Machine.execIdcode die s
  | .samplePreload die => Sys2Proof.Machine.execSamplePreload die s
  | .clamp die => Sys2Proof.Machine.execClamp die s
  | .highz die => Sys2Proof.Machine.execHighz die s
  | .chainStatus die => Sys2Proof.Machine.execChainStatus die s
  | .dtmcs die => Sys2Proof.Machine.execDtmcs die s
  | .dmi die op => Sys2Proof.Machine.execDmi die op s
  | .wrapExtest die => Sys2Proof.Machine.execWrapExtest die s
  | .wrapIntest die => Sys2Proof.Machine.execWrapIntest die s
  | .ijtagAccess die => Sys2Proof.Machine.execIjtagAccess die s
  | .bypass die code => Sys2Proof.Machine.execBypass die code s
  | .memoryRead line e => Sys2Proof.Machine.execMemoryRead line e s
  | .memoryWrite line => Sys2Proof.Machine.execMemoryWrite line s
  | .retiredListSave => Sys2Proof.Machine.execRetiredListSave s
  | .scrub line e => Sys2Proof.Machine.execScrub line e s
  | .refresh ctl bank => Sys2Proof.Machine.execRefresh ctl bank s
  | .memoryUnitFail u => Sys2Proof.Machine.execMemoryUnitFail u s
  | .pwrfailNFall => Sys2Proof.Machine.execPwrfailNFall s
  | .persistentFlush byRule => Sys2Proof.Machine.execPersistentFlush byRule s
  | .flushDrained failed => Sys2Proof.Machine.execFlushDrained failed s
  | .pflushDone => Sys2Proof.Machine.execPflushDone s
  | .pwrfailRecovery => Sys2Proof.Machine.execPwrfailRecovery s
  | .doorbellWrite who q off size v => Sys2Proof.Machine.execDoorbellWrite who q off size v s
  | .doorbellRead h q off size rd => Sys2Proof.Machine.execDoorbellRead h q off size rd s
  | .descriptorFetch lane => Sys2Proof.Machine.execDescriptorFetch lane s
  | .descriptorStart d => Sys2Proof.Machine.execDescriptorStart d s
  | .nop d => Sys2Proof.Machine.execNop d s
  | .copy d => Sys2Proof.Machine.execCopy d s
  | .fill d => Sys2Proof.Machine.execFill d s
  | .checkAppend d => Sys2Proof.Machine.execCheckAppend d s
  | .checkVerify d => Sys2Proof.Machine.execCheckVerify d s
  | .checkReadout d => Sys2Proof.Machine.execCheckReadout d s
  | .tsnTx d => Sys2Proof.Machine.execTsnTx d s
  | .tsnRx d => Sys2Proof.Machine.execTsnRx d s
  | .slWrite d => Sys2Proof.Machine.execSlWrite d s
  | .slRead d => Sys2Proof.Machine.execSlRead d s
  | .slSend d => Sys2Proof.Machine.execSlSend d s
  | .slRecv d => Sys2Proof.Machine.execSlRecv d s
  | .hash d => Sys2Proof.Machine.execHash d s
  | .gcmSeal d => Sys2Proof.Machine.execGcmSeal d s
  | .gcmOpen d => Sys2Proof.Machine.execGcmOpen d s
  | .cmac d => Sys2Proof.Machine.execCmac d s
  | .sign d => Sys2Proof.Machine.execSign d s
  | .verify d => Sys2Proof.Machine.execVerify d s
  | .kemEncap d => Sys2Proof.Machine.execKemEncap d s
  | .kemDecap d => Sys2Proof.Machine.execKemDecap d s
  | .random d => Sys2Proof.Machine.execRandom d s
  | .keyGen d => Sys2Proof.Machine.execKeyGen d s
  | .keyDerive d => Sys2Proof.Machine.execKeyDerive d s
  | .keyErase d => Sys2Proof.Machine.execKeyErase d s
  | .descriptorComplete d => Sys2Proof.Machine.execDescriptorComplete d s
  | .laneFail lane => Sys2Proof.Machine.execLaneFail lane s
  | .laneDrained lane => Sys2Proof.Machine.execLaneDrained lane s
  | .enable h vi v => Sys2Proof.Machine.execEnable h vi v s
  | .disable h vi v => Sys2Proof.Machine.execDisable h vi v s
  | .queueDisableDone q => Sys2Proof.Machine.execQueueDisableDone q s
  | .read h vi v => Sys2Proof.Machine.execRead h vi v s
  | .drain h vi v => Sys2Proof.Machine.execDrain h vi v s
  | .squash h vi v => Sys2Proof.Machine.execSquash h vi v s
  | .viDrainExpired vi => Sys2Proof.Machine.execViDrainExpired vi s
  | .viResetDone vi => Sys2Proof.Machine.execViResetDone vi s
  | .configRead h q rd => Sys2Proof.Machine.execConfigRead h q rd s
  | .configWrite h q v => Sys2Proof.Machine.execConfigWrite h q v s
  | .hotPlugArrival group bdf => Sys2Proof.Machine.execHotPlugArrival group bdf s
  | .pcieLinkDown group port => Sys2Proof.Machine.execPcieLinkDown group port s
  | .dmaRequest group bdf write addr len data => Sys2Proof.Machine.execDmaRequest group bdf write addr len data s
  | .deviceMsi group bdf m => Sys2Proof.Machine.execDeviceMsi group bdf m s
  | .pcieAer group port uncor cor => Sys2Proof.Machine.execPcieAer group port uncor cor s
  | .tsnFrameReceived port filter frame => Sys2Proof.Machine.execTsnFrameReceived port filter frame s
  | .gclIntervalEnd port => Sys2Proof.Machine.execGclIntervalEnd port s
  | .tsnStreamLost port filter => Sys2Proof.Machine.execTsnStreamLost port filter s
  | .tsnLinkDown port => Sys2Proof.Machine.execTsnLinkDown port s
  | .linkFlit p f => Sys2Proof.Machine.execLinkFlit p f s
  | .replay p => Sys2Proof.Machine.execReplay p s
  | .slLinkDown p retrain => Sys2Proof.Machine.execSlLinkDown p retrain s
  | .gMsg p m => Sys2Proof.Machine.execGMsg p m s
  | .write p m => Sys2Proof.Machine.execWrite p m s
  | .writeAck p m => Sys2Proof.Machine.execWriteAck p m s
  | .readReq p m => Sys2Proof.Machine.execReadReq p m s
  | .readData p m => Sys2Proof.Machine.execReadData p m s
  | .send p m => Sys2Proof.Machine.execSend p m s
  | .sendAck p m => Sys2Proof.Machine.execSendAck p m s
  | .heartbeat p m t4 => Sys2Proof.Machine.execHeartbeat p m t4 s
  | .heartbeatSend p => Sys2Proof.Machine.execHeartbeatSend p s
  | .linkInit p m => Sys2Proof.Machine.execLinkInit p m s
  | .rip p => Sys2Proof.Machine.execRip p s
  | .peerHeartbeatTimeout p => Sys2Proof.Machine.execPeerHeartbeatTimeout p s
  | .peerResetTimeout p => Sys2Proof.Machine.execPeerResetTimeout p s
  | .readmit h p => Sys2Proof.Machine.execReadmit h p s
  | .slStatRead h p rd => Sys2Proof.Machine.execSlStatRead h p rd s
  | .ocuCommit h u v => Sys2Proof.Machine.execOcuCommit h u v s
  | .checkUnitFault u => Sys2Proof.Machine.execCheckUnitFault u s
  | .recordForward u => Sys2Proof.Machine.execRecordForward u s
  | .fenceEscalated u => Sys2Proof.Machine.execFenceEscalated u s
  | .msiPacing hart file id => Sys2Proof.Machine.execMsiPacing hart file id s
  | .ecSelNext h view => Sys2Proof.Machine.execEcSelNext h view s
  | .clear h view => Sys2Proof.Machine.execClear h view s
  | .clearAll h view => Sys2Proof.Machine.execClearAll h view s
  | .ecIrqWrite h view v => Sys2Proof.Machine.execEcIrqWrite h view v s
  | .ecStatRead h view rd => Sys2Proof.Machine.execEcStatRead h view rd s
  | .ecReset h view v => Sys2Proof.Machine.execEcReset h view v s
  | .ecResetDone u ok => Sys2Proof.Machine.execEcResetDone u ok s
  | .coreFence h arraysReadable => Sys2Proof.Machine.execCoreFence h arraysReadable s
  | .cdRegionFence cd reachable => Sys2Proof.Machine.execCdRegionFence cd reachable s
  | .bdRegionFence bd tagsReadable => Sys2Proof.Machine.execBdRegionFence bd tagsReadable s
  | .warmReset cause => Sys2Proof.Machine.execWarmReset cause s
  | .warmResetDrained => Sys2Proof.Machine.execWarmResetDrained s
  | .imsicWrite h addr size v => Sys2Proof.Machine.execImsicWrite h addr size v s
  | .msi m => Sys2Proof.Machine.execMsi m s
  | .blockLost u => Sys2Proof.Machine.execBlockLost u s
  | .secureWipe u zeros => Sys2Proof.Machine.execSecureWipe u zeros s
  | .swdEnable h v => Sys2Proof.Machine.execSwdEnable h v s
  | .kick h => Sys2Proof.Machine.execKick h s
  | .swdFirst => Sys2Proof.Machine.execSwdFirst s
  | .swdReset => Sys2Proof.Machine.execSwdReset s
  | .governorEpoch t => Sys2Proof.Machine.execGovernorEpoch t s
  | .frequencySwitch cluster => Sys2Proof.Machine.execFrequencySwitch cluster s
  | .currentLimiterTrip => Sys2Proof.Machine.execCurrentLimiterTrip s
  | .pk1Entry => Sys2Proof.Machine.execPk1Entry s
  | .pkCtlGo h v => Sys2Proof.Machine.execPkCtlGo h v s
  | .pkEntry => Sys2Proof.Machine.execPkEntry s
  | .pkEntryComplete => Sys2Proof.Machine.execPkEntryComplete s
  | .pkWake src => Sys2Proof.Machine.execPkWake src s
  | .wakeTimeReached => Sys2Proof.Machine.execWakeTimeReached s
  | .pkExitComplete => Sys2Proof.Machine.execPkExitComplete s
  | .ffRuleEvaluation arg => Sys2Proof.Machine.execFfRuleEvaluation arg s
  | .ffDataWrite h v => Sys2Proof.Machine.execFfDataWrite h v s
  | .ffDataRead h rd => Sys2Proof.Machine.execFfDataRead h rd s
  | .ffLockstep => Sys2Proof.Machine.execFfLockstep s
  | .thermalTrip => Sys2Proof.Machine.execThermalTrip s
  | .thermalRecovery => Sys2Proof.Machine.execThermalRecovery s
  | .railFault units => Sys2Proof.Machine.execRailFault units s
  | .ungate h v => Sys2Proof.Machine.execUngate h v s
  | .gateClock h v => Sys2Proof.Machine.execGateClock h v s
  | .gatePower h v => Sys2Proof.Machine.execGatePower h v s
  | .counterWrap h n => Sys2Proof.Machine.execCounterWrap h n s
  | .cntRead h core n rd => Sys2Proof.Machine.execCntRead h core n rd s
  | .xlStatRead h x rd => Sys2Proof.Machine.execXlStatRead h x rd s
  | .slLinkUp p rate => Sys2Proof.Machine.execSlLinkUp p rate s
  | .launchTimeReached d => Sys2Proof.Machine.execLaunchTimeReached d s
  | .fireflyRestartDone => Sys2Proof.Machine.execFireflyRestartDone s

end Sys2Proof.Machine
end

