-- ==== Sys2Proof/Machine/Flit.lean ====
section
/-! DEFINITION. What travels on the wires (R171, R172, R191, R202, R203, R206, R225, R227, R230): encodings and headers of messages, the bodies of flits, control words, the use of slots, and the lanes that carry a flit.
Bits are numbered as the spec numbers them; a header is a number below 2^128 and a body one below 2^512. -/

namespace Sys2Proof.Machine

/-! ### Messages (R171, R172) -/

/-- OPC of a message (R171). -/
def opcCode (o : Opc) : Nat :=
  match o with
  | .rds => 0x01
  | .rdu => 0x02
  | .upg => 0x03
  | .rdnc => 0x04
  | .wrnc => 0x05
  | .wbd => 0x06
  | .evc => 0x07
  | .amof => 0x08
  | .amom => 0x09
  | .snps => 0x10
  | .snpi => 0x11
  | .snpbi => 0x12
  | .rspi => 0x18
  | .rsps => 0x19
  | .rspd => 0x1A
  | .rspx => 0x1B
  | .dat => 0x1C
  | .cmp => 0x1D
  | .cmpack => 0x1E

/-- The message with an OPC; every other value is reserved (R171). -/
def opcOfCode (n : Nat) : Option Opc :=
  match n with
  | 0x01 => some .rds
  | 0x02 => some .rdu
  | 0x03 => some .upg
  | 0x04 => some .rdnc
  | 0x05 => some .wrnc
  | 0x06 => some .wbd
  | 0x07 => some .evc
  | 0x08 => some .amof
  | 0x09 => some .amom
  | 0x10 => some .snps
  | 0x11 => some .snpi
  | 0x12 => some .snpbi
  | 0x18 => some .rspi
  | 0x19 => some .rsps
  | 0x1A => some .rspd
  | 0x1B => some .rspx
  | 0x1C => some .dat
  | 0x1D => some .cmp
  | 0x1E => some .cmpack
  | _ => none

/-- The 128-bit header of a message (R172); bits 14:12 are zero. -/
def headerOf (m : CohMsg) : Nat :=
  opcCode m.opc * 2 ^ 123 + m.dst * 2 ^ 110 + m.src * 2 ^ 97 + m.core * 2 ^ 94 + m.tag * 2 ^ 82 + m.addr * 2 ^ 36 + m.qid * 2 ^ 28
    + bitAt m.spec 27 + bitAt m.secure 26 + bitAt m.except 25 + m.state * 2 ^ 23 + m.poison.toNat * 2 ^ 19 + m.status * 2 ^ 15 + m.misc

/-- Whether every field of a message fits its place in the header. -/
def headerFits (m : CohMsg) : Bool :=
  decide (m.dst < 2 ^ 13) && decide (m.src < 2 ^ 13) && decide (m.core < 8) && decide (m.tag < 2 ^ 12) && decide (m.addr < 2 ^ 46)
    && decide (m.qid < 256) && decide (m.state < 4) && decide (m.status < 16) && decide (m.misc < 2 ^ 12)

/-- The message that a header gives, with what travels beside the header: its class and stream, ISSUE_LO and its data flit; none for a reserved OPC. -/
def messageOf (header cls : Nat) (stream : Option Nat) (issue : BitVec 32) (data : Option Line) : Option CohMsg :=
  (opcOfCode (bitsOf header 123 5)).map (fun o =>
    { opc := o, dst := bitsOf header 110 13, src := bitsOf header 97 13, core := bitsOf header 94 3, tag := bitsOf header 82 12,
      addr := bitsOf header 36 46, qid := bitsOf header 28 8, spec := bitOf header 27, secure := bitOf header 26, except := bitOf header 25,
      state := bitsOf header 23 2, poison := BitVec.ofNat 4 (bitsOf header 19 4), status := bitsOf header 15 4, misc := bitsOf header 0 12,
      hasData := data.isSome, data := data.getD 0, cls := cls, stream := stream, issue := issue })

/-! ### CXL.cache (R191) -/

/-- Snoops to a CXL device. -/
inductive H2d where
  | snpData | snpInv
deriving DecidableEq, Repr

/-- Requests of a CXL device. -/
inductive D2h where
  | rdShared | rdOwn | rdOwnNoData | rdCurr | itoMWr | woWrInv | cleanEvict | dirtyEvict
deriving DecidableEq, Repr

/-- What a port group makes of a snoop for its devices. -/
def h2dOf (o : Opc) : Option H2d :=
  match o with
  | .snps => some .snpData
  | .snpi | .snpbi => some .snpInv
  | _ => none

/-- What a port group makes of a device's request. -/
def d2hOpc (r : D2h) : Opc :=
  match r with
  | .rdShared => .rds
  | .rdOwn => .rdu
  | .rdOwnNoData => .upg
  | .rdCurr => .rdnc
  | .itoMWr | .woWrInv => .wrnc
  | .cleanEvict => .evc
  | .dirtyEvict => .wbd

/-! ### Bodies (R39, R203, R230) -/

/-- KIND 0: the header and ISSUE_LO. -/
def headerBody (m : CohMsg) : Nat := headerOf m + m.issue.toNat * 2 ^ 128

/-- KIND 1: a mailbox message. -/
def mailBody (m : MailMsg) : Nat :=
  m.payload.toNat * 2 ^ 128 + m.dstNode * 2 ^ 115 + m.srcNode * 2 ^ 102 + m.dstCore * 2 ^ 99 + m.srcCore * 2 ^ 96 + m.srcHart * 2 ^ 80
    + m.stream * 2 ^ 64 + m.deadlineLo.toNat * 2 ^ 32 + bitAt m.secure 31

/-- KIND 2, SUBTYPE 0x1: the time broadcast. -/
def timeBody (now frame : Nat) : Nat := 1 * 2 ^ 508 + frame % 2 ^ 64 * 2 ^ 64 + now % 2 ^ 64

/-- KIND 2, SUBTYPE 0x2: a marker report. -/
def reportBody (r : Report) : Nat :=
  2 * 2 ^ 508 + r.crc.toNat * 2 ^ 96 + r.sel % 4 * 2 ^ 82 + r.width % 4 * 2 ^ 80 + r.x * 2 ^ 64 + r.frame % 2 ^ 64

/-- ANSWER of a mailbox answer. -/
def answerCode (a : Answer) : Nat :=
  match a with
  | .accept => 1
  | .refuse => 2
  | .final => 3

/-- KIND 2, SUBTYPE 0x3: a mailbox answer. -/
def answerBody (a : MailAns) : Nat :=
  3 * 2 ^ 508 + a.dstNode * 2 ^ 115 + a.srcNode * 2 ^ 102 + a.dstCore * 2 ^ 99 + a.srcCore * 2 ^ 96 + a.destHart * 2 ^ 80 + answerCode a.answer

/-! ### Flits and control words (R202) -/

/-- KIND of a flit. -/
inductive FlitKind where
  | header | mail | control | data
deriving DecidableEq, Repr

def FlitKind.code (k : FlitKind) : Nat :=
  match k with
  | .header => 0
  | .mail => 1
  | .control => 2
  | .data => 3

/-- A flit with what its control word says of it. -/
structure Flit where
  body : Nat
  vc : Nat
  kind : FlitKind
  stream : Nat
  age : Nat
  ageSub : Nat
deriving DecidableEq, Repr

/-- The virtual channel of a class, 0 B, 1 U, 2 G, for requests and for other messages (R171, R202). -/
def vcOf (cls : Nat) (request : Bool) : Nat := (2 - cls) * 2 + (if request then 0 else 1)

/-- The flits of a message, its header and then its data (R172, R202, R203); ages count on the way. -/
def flitsOf (m : CohMsg) : List Flit :=
  let vc := vcOf m.cls (isRequest m.opc)
  let stream := if m.cls = 2 then m.stream.getD 0 else 0
  { body := headerBody m, vc := vc, kind := .header, stream := stream, age := 0, ageSub := 0 }
    :: (if m.hasData then [{ body := m.data.toNat, vc := vc, kind := .data, stream := stream, age := 0, ageSub := 0 }] else [])

/-- Bits 28:0 of a control word: those of the flit that the lane carries, with VALID, or none, then G_AHEAD and MARK. -/
def controlLow (f : Option Flit) (gAhead mark : Bool) : Nat :=
  (match f with
    | some g => 2 ^ 28 + g.vc * 2 ^ 25 + g.kind.code * 2 ^ 23 + g.stream % 1024 * 2 ^ 13 + g.age % 256 * 2 ^ 5 + g.ageSub % 8 * 2 ^ 2
    | none => 0) + bitAt gAhead 1 + bitAt mark 0

/-- The 40-bit control word of a flit lane in a NoC cycle; the spec gives no table for its SECDED code (log 87). -/
def controlWord (f : Option Flit) (gAhead mark : Bool) : Nat :=
  let low := controlLow f gAhead mark
  (Config.flitEcc ((f.map (·.body)).getD 0) low % 2 ^ 11) * 2 ^ 29 + low

/-! ### Slots (R206) -/

/-- What an output lane does in a slot. -/
inductive SlotUse where
  /-- it carries the flit of the stream that holds the slot -/
  | stream (n : Nat)
  /-- the stream has no flit ready: Class U and Class B may use this NoC cycle -/
  | released
  /-- no stream holds the slot -/
  | free
deriving DecidableEq, Repr

/-- The use of a slot of an output, by G_AHEAD of its inputs in the NoC cycle before. -/
def slotUse (l : List SlotEntry) (node : Nat) (switch : Bool) (output slot : Nat) (ahead : Nat → Bool) : SlotUse :=
  match l.find? (fun e => e.node == node && e.switch == switch && e.output == output && e.slot == slot) with
  | some e => if ahead e.input then .stream e.stream else .released
  | none => .free

/-! ### Lanes and bonds (R225, R227) -/

/-- The NoC cycles that a flit takes on a crossing at a width; a module at half width carries flit lane 0 at full rate. -/
def flitCycles (x : Nat) (w : Width) : Nat :=
  match w with
  | .full => 1
  | .half => if x < 48 then 2 else 1
  | .quarter => if x < 48 then 4 else 2
  | .none => 0

/-- The body bit that a data bond of a vertical port carries in a cycle of a flit, none where it carries none (R225). -/
def bondBit (w : Width) (sel cycle bond : Nat) : Option Nat :=
  match w with
  | .full => if bond < 512 ∧ cycle = 0 then some bond else none
  | .half => if bond / 256 = sel ∧ bond < 512 ∧ cycle < 2 then some (bond % 256 + 256 * cycle) else none
  | .quarter => if bond / 128 = sel ∧ bond < 512 ∧ cycle < 4 then some (bond % 128 + 128 * cycle) else none
  | .none => none

/-- The body bits that a data lane of a module carries in a cycle of a flit, as flit lane, lowest bit and number, in the order of its 16 UI (R227). -/
def laneBits (w : Width) (sel cycle lane : Nat) : List (Nat × Nat × Nat) :=
  match w with
  | .full => if lane < 64 ∧ cycle = 0 then [(0, 8 * lane, 8), (1, 8 * lane, 8)] else []
  | .half => if lane / 32 = sel ∧ lane < 64 ∧ cycle = 0 then [(0, 16 * (lane % 32), 16)] else []
  | .quarter => if lane / 16 = sel ∧ lane < 64 ∧ cycle < 2 then [(0, 32 * (lane % 16) + 16 * cycle, 16)] else []
  | .none => []

/-- The control word that a direction sends in a cycle of a flit: the flit's in the first, VALID 0 in the others (R225). -/
def controlIn (f : Flit) (cycle : Nat) (gAhead mark : Bool) : Nat := controlWord (if cycle = 0 then some f else none) gAhead mark

/-- The 96 bits of a control bundle: both control words, the slot number and even parity over it (R227). -/
def bundleBits (word0 word1 slot : Nat) : Nat :=
  word0 + word1 * 2 ^ 40 + slot * 2 ^ 80 + ((List.range 5).filter (bitOf slot)).length % 2 * 2 ^ 85

end Sys2Proof.Machine
end

