-- ==== Sys2Proof/WellFormed.lean ====
section
/-! DEFINITION. Which commands are well formed: every operand within the field that the spec gives it. A command outside has no sender. -/

namespace Sys2Proof

/-! ### Ranges of single operands -/

/-- A global hart ID (R23). -/
def isHart (h : Nat) : Bool := decide (h < 384)

/-- A register number of a hart (R82). -/
def isReg (r : Nat) : Bool := decide (r < 32)

/-- An L3 slice (R163, R339). -/
def isSlice (n : Nat) : Bool := decide (n < 48)

/-- A Queue Engine lane (R284). -/
def isLane (n : Nat) : Bool := decide (n < 8)

/-- A partner-die site (R16). -/
def isSite (n : Nat) : Bool := decide (n < 2)

/-- A die ID (R16). -/
def isDie (n : Nat) : Bool := decide (n < 32)

def isCd (n : Nat) : Bool := decide (n < 12)
def isBd (n : Nat) : Bool := decide (n < 4)

/-- A PCIe/CXL port group, or a System Link port (R289, R298). -/
def isGroup (n : Nat) : Bool := decide (n < 8)

/-- A virtual instance (R285). -/
def isVi (n : Nat) : Bool := decide (n < 8192)

/-- A global cluster ID (R23). -/
def isCluster (n : Nat) : Bool := decide (n < 48)

/-- A G stream (R221). -/
def isStream (n : Nat) : Bool := decide (n < 1024)

/-- PA[51:6] (R172). -/
def isLine (n : Nat) : Bool := decide (n < 2 ^ 46)

/-- A crossing number (R223). -/
def isCrossing (n : Nat) : Bool := decide (n < 48) || (decide (64 ≤ n) && decide (n < 82))

/-- A queue number (R269). -/
def isQueue (n : Nat) : Bool := decide (n < 2097152)

/-- A QID (R50). -/
def isQid (n : Nat) : Bool := decide (n < 256)

/-- An access size in bytes. -/
def isSize (n : Nat) : Bool := n == 1 || n == 2 || n == 4 || n == 8

/-- A node ID (R17). -/
def isNode (n : Nat) : Bool := decide (n < 8192)

/-- A PCI bus, device and function number (R289). -/
def isBdf (n : Nat) : Bool := decide (n < 65536)

/-- An interrupt identity (R28). -/
def isIdentity (n : Nat) : Bool := decide (1 ≤ n) && decide (n < 2048)

/-! ### Ranges of composed operands -/

/-- A unit as the error record names it (R338, R339). -/
def UnitId.fits (u : UnitId) : Bool := decide (1 ≤ u.ty) && decide (u.ty ≤ 0x1A) && decide (u.no < 65536)

def Agent.fits (a : Agent) : Bool :=
  match a with
  | .hart h => isHart h
  | .node n => isNode n
  | .governor | .clasp => true

def RegTarget.fits (t : RegTarget) : Bool :=
  match t with
  | .addr a size => decide (a < 2 ^ 52) && isSize size
  | .csr n => decide (n < 4096)

/-- An Error Collector view (R345). -/
def EcView.fits (v : EcView) : Bool :=
  match v with
  | .owner => true
  | .quire q => isQid q
  | .low u => u.fits

/-- An access size is a power of two of at most 8 bytes (R82); a vector access is made of such accesses. -/
def LoadOp.fits (o : LoadOp) : Bool := isReg o.rd && decide (o.size < 4)

/-- Atomics of 4 and 8 bytes, and CAS of 16 (R172). -/
def AmoOp.fits (o : AmoOp) : Bool := isReg o.rd && (o.size == 2 || o.size == 3 || (o.size == 4 && o.op == AmoKind.cas && o.rd % 2 == 0))

def Branch.fits (b : Branch) : Bool := isReg b.rd && isReg b.rs1

def RegWrite.fits (w : RegWrite) : Bool :=
  match w with
  | .x n _ | .f n _ | .vec n _ => isReg n

/-- An instruction of 2 or 4 bytes with registers that exist. -/
def Retire.fits (i : Retire) : Bool := (i.len == 2 || i.len == 4) && i.writes.all RegWrite.fits && ((i.br.map Branch.fits).getD true)

/-- The header fields of a coherence message within their widths (R172). -/
def CohMsg.fits (m : CohMsg) : Bool :=
  isNode m.dst && isNode m.src && decide (m.core < 8) && decide (m.tag < 4096) && isLine m.addr && isQid m.qid
    && decide (m.state < 4) && decide (m.status < 16) && decide (m.misc < 4096) && decide (m.cls < 3)
    && (match m.stream with | some n => isStream n | none => true)

def MailMsg.fits (m : MailMsg) : Bool :=
  isNode m.dstNode && decide (m.dstCore < 8) && isNode m.srcNode && decide (m.srcCore < 8) && isHart m.srcHart
    && (isStream m.stream || m.stream == 0xFFFF)

def MailAns.fits (m : MailAns) : Bool :=
  isNode m.dstNode && decide (m.dstCore < 8) && isNode m.srcNode && decide (m.srcCore < 8) && isHart m.destHart

def PairCopy.fits (r : PairCopy) : Bool := decide (r.addr < 2 ^ 52) && decide (r.size < 7)

/-- A lane, or 8 for the front end, with an SQ and its index (R279). -/
def DescRef.fits (d : DescRef) : Bool := decide (d.lane < 9) && isQueue d.sq && decide (d.idx < 2 ^ 32)

def DmiOp.fits (op : DmiOp) : Bool :=
  match op with
  | .haltreq h | .resumereq h | .writeWorld h _ => isHart h
  | .readReg h rd | .writeReg h rd _ => isHart h && isReg rd
  | .haltGroup h g => isHart h && decide (g < 32)
  | .readCsr h n | .writeCsr h n _ => isHart h && decide (n < 4096)
  | .sysbus a => decide (a < 2 ^ 52)

/-- The header fields of a System Link message (R300). -/
def SlMsg.fits (m : SlMsg) : Bool :=
  decide (m.kind < 256) && decide (m.hops < 16) && decide (m.srcPkg < 65536) && decide (m.dstPkg < 65536) && decide (m.tag < 2 ^ 32)
    && decide (m.stream < 65536) && decide (m.status < 256) && decide (m.body.length ≤ 144)

/-- Header fields within their widths, and messages that fill at most the 236 bytes of PAYLOAD (R299, R300). -/
def SlFlit.fits (f : SlFlit) : Bool :=
  decide (f.seq < 1024) && decide (f.ack < 1024) && decide (f.alive < 256) && decide (f.check < 2 ^ 64) && f.msgs.all SlMsg.fits
    && decide ((f.msgs.map (fun m => 16 + m.body.length)).sum ≤ 236)

def MsiMsg.fits (m : MsiMsg) : Bool := isHart m.hart && decide (m.file < 9) && isIdentity m.id

/-! ### Commands -/

/-- Every operand of a command within its field. -/
def Instr.wf (i : Instr) : Bool :=
  match i with
  | .registerWrite who tgt _ => who.fits && tgt.fits
  | .refclkLost => true
  | .refclkRestored => true
  | .nocPllLockLost die => isDie die
  | .frameBoundary => true
  | .slewAdjustedFrame => true
  | .ptStep who _ => who.fits
  | .ptSlew who _ => who.fits
  | .ptStatRead h rd => isHart h && isReg rd
  | .timeBroadcast => true
  | .crossingMark => true
  | .markArrival x _ slot => isCrossing x && decide (slot < 20)
  | .markerReport x _ _ => isCrossing x
  | .stbyPwrgoodRise => true
  | .stbyPwrgoodFall => true
  | .pwrgoodFall => true
  | .resetNRise _ => true
  | .pllLocked => true
  | .claspBoot => true
  | .bindingSelect => true
  | .crossingTraining x _ => isCrossing x
  | .memoryTraining _ => true
  | .bindingApply failed => (failed.map UnitId.fits).getD true
  | .applyDelta h _ => isHart h
  | .handoverAck h _ => isHart h
  | .handoverRefuse h _ => isHart h
  | .handoverTimeout q => isQid q
  | .movePhaseEnd failed => failed.all UnitId.fits
  | .store h _ => isHart h
  | .flashProgramDone _ _ => true
  | .hartStart h _ => isHart h
  | .colophonRequest h _ => isHart h
  | .colophonResign => true
  | .status => true
  | .colophon _ => true
  | .ownerEnrol _ _ => true
  | .ownerUpdate slot _ _ _ _ => decide (slot < 4)
  | .loadBinding _ => true
  | .debugChallenge => true
  | .debugChallengeExpiry => true
  | .debugOpen bits _ _ => decide (bits < 16)
  | .debugClose => true
  | .debugSessionExpiry => true
  | .repairClear x => isCrossing x
  | .instructionRetire h i _ => isHart h && i.fits
  | .branchResolve h b => isHart h && b.fits
  | .lzLoop h level rs1 endOff => isHart h && decide (level < 2) && isReg rs1 && decide (endOff < 4096)
  | .lzLoopi h level count endOff => isHart h && decide (level < 2) && decide (count < 512) && decide (endOff < 4096)
  | .lzSpecfence h => isHart h
  | .lzLock h rd rs1 => isHart h && isReg rd && isReg rs1
  | .lzUnlock h rd rs1 => isHart h && isReg rd && isReg rs1
  | .lzMbsend h rd rs1 => isHart h && isReg rd && isReg rs1
  | .lzMbrecv h rd rs1 => isHart h && isReg rd && isReg rs1
  | .load h o _ => isHart h && o.fits
  | .retiringStore h _ size _ => isHart h && decide (size < 4)
  | .amo h o => isHart h && o.it.fits
  | .lr h rd _ size => isHart h && isReg rd && (size == 2 || size == 3)
  | .sc h rd _ size _ => isHart h && isReg rd && (size == 2 || size == 3)
  | .lrSnoopDeferExpiry h => isHart h
  | .fence h => isHart h
  | .fenceI h => isHart h
  | .sfenceVma h _ _ => isHart h
  | .hfenceVvma h _ _ => isHart h
  | .hfenceGvma h _ _ => isHart h
  | .cboClean h _ => isHart h
  | .cboFlush h _ => isHart h
  | .cboInval h _ => isHart h
  | .cboZero h _ => isHart h
  | .zicbopPrefetch h _ _ => isHart h
  | .hardwarePrefetch h _ _ => isHart h
  | .wfi h => isHart h
  | .cStateEntryComplete h => isHart h
  | .coreWake h _ => isHart h
  | .trapEntry h cause _ => isHart h && decide (cause < 64)
  | .xret h _ => isHart h
  | .interruptTaken h cause => isHart h && decide (cause < 64)
  | .satpWrite h _ _ => isHart h
  | .lzworldWrite h _ => isHart h
  | .lzdlarmWrite h n _ => isHart h && decide (n < 4)
  | .lzdlctlWrite h _ => isHart h
  | .deadlineMiss h n => isHart h && decide (n < 4)
  | .tlbLock h _ => isHart h
  | .tlbUnlock h _ => isHart h
  | .tlbQuery h _ => isHart h
  | .pageWalk h => isHart h
  | .mailboxMessage m _ => m.fits
  | .mailboxAnswer m => m.it.fits
  | .mailboxResend h dest => isHart h && isHart dest
  | .mailboxUTimeout h dest => isHart h && isHart dest
  | .gMessageSend stream => isStream stream
  | .pairRequest h _ r => isHart h && r.fits
  | .pairRelease h => isHart h
  | .pairTimeout h => isHart h
  | .l2WaycfgWrite h core _ => isHart h && isHart core
  | .flushL1d h core => isHart h && isHart core
  | .flushL2 h core => isHart h && isHart core
  | .flushAll h core => isHart h && isHart core
  | .unlockAll h core => isHart h && isHart core
  | .cacheCtlDone core => isHart core
  | .l3qLockWrite h slice q _ => isHart h && isSlice slice && isQid q
  | .l3qFillWrite h slice q _ => isHart h && isSlice slice && isQid q
  | .l3qFlush h slice q => isHart h && isSlice slice && isQid q
  | .l3qFlushDone slice q => isSlice slice && isQid q
  | .l3qReseed h slice q => isHart h && isSlice slice && isQid q
  | .l3SliceFence slice _ => isSlice slice
  | .dirRebuild slice => isSlice slice
  | .rds m => m.it.fits
  | .rdu m => m.it.fits
  | .upg m => m.it.fits
  | .rdnc m => m.it.fits
  | .wrnc m => m.it.fits
  | .wbd m => m.it.fits
  | .evc m => m.it.fits
  | .amof m => m.it.fits
  | .amom m => m.it.fits
  | .transactionStart slice line _ => isSlice slice && isLine line
  | .snps m _ => m.fits
  | .snpi m _ => m.fits
  | .snpbi m _ => m.fits
  | .rspi m => m.it.fits
  | .rsps m => m.it.fits
  | .rspd m => m.it.fits
  | .rspx m => m.it.fits
  | .dat m _ => m.fits
  | .cmp m => m.it.fits
  | .cmpack m => m.it.fits
  | .holdWindowEnd h line => isHart h && isLine line
  | .snoopTimeout slice line node core => isSlice slice && isLine line && isNode node && decide (core < 9)
  | .completionTimeout who tag => who.fits && decide (tag < 4096)
  | .ackTimeout slice line => isSlice slice && isLine line
  | .replan _ => true
  | .sourceHold => true
  | .slotTableSwitch => true
  | .statClear who _ => who.fits
  | .laneFailing x _ lane => isCrossing x && decide (lane < if x < 48 then 592 else 100)
  | .errorCountWindow => true
  | .crossingRemap x => isCrossing x
  | .repairMapSave => true
  | .partnerCertificate site _ => isSite site
  | .partnerCertTimeout site => isSite site
  | .partnerTrained site _ => isSite site
  | .partnerLost site => isSite site
  | .partnerRetry site => isSite site
  | .extest die => isDie die
  | .idcode die => isDie die
  | .samplePreload die => isDie die
  | .clamp die => isDie die
  | .highz die => isDie die
  | .chainStatus die => isDie die
  | .dtmcs die => isDie die
  | .dmi die op => isDie die && op.fits
  | .wrapExtest die => isDie die
  | .wrapIntest die => isDie die
  | .ijtagAccess die => isDie die
  | .bypass die code => isDie die && decide (code < 256)
  | .memoryRead line _ => isLine line
  | .memoryWrite line => isLine line
  | .retiredListSave => true
  | .scrub line _ => isLine line
  | .refresh _ _ => true
  | .memoryUnitFail u => u.fits
  | .pwrfailNFall => true
  | .persistentFlush _ => true
  | .flushDrained _ => true
  | .pflushDone => true
  | .pwrfailRecovery => true
  | .doorbellWrite who q off size _ => who.fits && isQueue q && decide (off < 64) && isSize size
  | .doorbellRead h q off size rd => isHart h && isQueue q && decide (off < 64) && isSize size && isReg rd
  | .descriptorFetch lane => decide (lane < 9)
  | .descriptorStart d => d.fits
  | .nop d => d.fits
  | .copy d => d.fits
  | .fill d => d.fits
  | .checkAppend d => d.fits
  | .checkVerify d => d.fits
  | .checkReadout d => d.fits
  | .tsnTx d => d.fits
  | .tsnRx d => d.fits
  | .slWrite d => d.fits
  | .slRead d => d.fits
  | .slSend d => d.fits
  | .slRecv d => d.fits
  | .hash d => d.fits
  | .gcmSeal d => d.fits
  | .gcmOpen d => d.fits
  | .cmac d => d.fits
  | .sign d => d.fits
  | .verify d => d.fits
  | .kemEncap d => d.fits
  | .kemDecap d => d.fits
  | .random d => d.fits
  | .keyGen d => d.fits
  | .keyDerive d => d.fits
  | .keyErase d => d.fits
  | .descriptorComplete d => d.fits
  | .laneFail lane => isLane lane
  | .laneDrained lane => isLane lane
  | .enable h vi _ => isHart h && isVi vi
  | .disable h vi _ => isHart h && isVi vi
  | .queueDisableDone q => isQueue q
  | .read h vi _ => isHart h && isVi vi
  | .drain h vi _ => isHart h && isVi vi
  | .squash h vi _ => isHart h && isVi vi
  | .viDrainExpired vi => isVi vi
  | .viResetDone vi => isVi vi
  | .configRead h q rd => isHart h && isQid q && isReg rd
  | .configWrite h q _ => isHart h && isQid q
  | .hotPlugArrival group bdf => isGroup group && isBdf bdf
  | .pcieLinkDown group port => isGroup group && decide (port < 4)
  | .dmaRequest group bdf toMem addr len _ =>
    isGroup group && isBdf bdf && decide (addr < 2 ^ 64) && decide (0 < len) && decide (len ≤ if toMem then 512 else 4096)
  | .deviceMsi group bdf m => isGroup group && isBdf bdf && m.fits
  | .pcieAer group port _ _ => isGroup group && decide (port < 4)
  | .tsnFrameReceived port filter _ => decide (port < 4) && decide (filter < 256)
  | .gclIntervalEnd port => decide (port < 4)
  | .tsnStreamLost port filter => decide (port < 4) && decide (filter < 256)
  | .tsnLinkDown port => decide (port < 4)
  | .linkFlit p f => isGroup p && f.fits
  | .replay p => isGroup p
  | .slLinkDown p _ => isGroup p
  | .gMsg p m => isGroup p && m.fits
  | .write p m => isGroup p && m.fits
  | .writeAck p m => isGroup p && m.fits
  | .readReq p m => isGroup p && m.fits
  | .readData p m => isGroup p && m.fits
  | .send p m => isGroup p && m.fits
  | .sendAck p m => isGroup p && m.fits
  | .heartbeat p m _ => isGroup p && m.fits
  | .heartbeatSend p => isGroup p
  | .linkInit p m => isGroup p && m.fits
  | .rip p => isGroup p
  | .peerHeartbeatTimeout p => isGroup p
  | .peerResetTimeout p => isGroup p
  | .readmit h p => isHart h && isGroup p
  | .slStatRead h p rd => isHart h && isGroup p && isReg rd
  | .ocuCommit h u _ => isHart h && decide (16 ≤ u ∧ u < 32)
  | .checkUnitFault u => decide (u < 32)
  | .recordForward u => u.fits
  | .fenceEscalated u => u.fits
  | .msiPacing hart file id => isHart hart && decide (file < 9) && isIdentity id
  | .ecSelNext h view => isHart h && view.fits
  | .clear h view => isHart h && view.fits
  | .clearAll h view => isHart h && view.fits
  | .ecIrqWrite h view _ => isHart h && view.fits
  | .ecStatRead h view rd => isHart h && view.fits && isReg rd
  | .ecReset h view _ => isHart h && view.fits
  | .ecResetDone u _ => u.fits
  | .coreFence h _ => isHart h
  | .cdRegionFence cd _ => isCd cd
  | .bdRegionFence bd _ => isBd bd
  | .warmReset _ => true
  | .warmResetDrained => true
  | .imsicWrite h addr size _ => isHart h && decide (addr < 2 ^ 52) && isSize size
  | .msi m => m.fits
  | .blockLost u => u.fits
  | .secureWipe u _ => u.fits
  | .swdEnable h _ => isHart h
  | .kick h => isHart h
  | .swdFirst => true
  | .swdReset => true
  | .governorEpoch _ => true
  | .frequencySwitch cluster => isCluster cluster
  | .currentLimiterTrip => true
  | .pk1Entry => true
  | .pkCtlGo h _ => isHart h
  | .pkEntry => true
  | .pkEntryComplete => true
  | .pkWake _ => true
  | .wakeTimeReached => true
  | .pkExitComplete => true
  | .ffRuleEvaluation _ => true
  | .ffDataWrite h _ => isHart h
  | .ffDataRead h rd => isHart h && isReg rd
  | .ffLockstep => true
  | .thermalTrip => true
  | .thermalRecovery => true
  | .railFault units => units.all UnitId.fits
  | .ungate h _ => isHart h
  | .gateClock h _ => isHart h
  | .gatePower h _ => isHart h
  | .counterWrap h n => isHart h && decide (n < 128)
  | .cntRead h core n rd => isHart h && isHart core && decide (n < 128) && isReg rd
  | .xlStatRead h x rd => isHart h && isCrossing x && isReg rd
  | .slLinkUp p rate => isGroup p && decide (rate.width < 4)
  | .launchTimeReached d => d.fits
  | .fireflyRestartDone => true

end Sys2Proof
end

