-- ==== Sys2Proof/Safety.lean ====
section
/-! DEFINITION. What counts as a safe run and the terms that statements use: which part of the state a command may change, when a hart takes a command, what an Error Collector carries. -/

namespace Sys2Proof.Machine

/-! ### Safe runs -/

/-- A run of n steps is safe if no step of it stops with a fault or a refusal. -/
def SafeRun (n : Nat) (s : State) : Prop := ∃ t, Host.Core.run Sys2Proof.core n s = .next t

/-! ### Parts of the state -/

/-- The parts of the state, one for each field of `State`. -/
inductive Piece where
  | pending | free | fuse | pins | boot | time | harts | clusters | slices | net | fabric | links | mem | qe | io | sl | chk | err
  | clasp | dbg | pwr | ff | gov
deriving DecidableEq, Repr

/-- Two states agree in a part. -/
def State.agree (p : Piece) (s t : State) : Prop :=
  match p with
  | .pending => t.pending = s.pending
  | .free => t.free = s.free
  | .fuse => t.fuse = s.fuse
  | .pins => t.pins = s.pins
  | .boot => t.boot = s.boot
  | .time => t.time = s.time
  | .harts => t.harts = s.harts
  | .clusters => t.clusters = s.clusters
  | .slices => t.slices = s.slices
  | .net => t.net = s.net
  | .fabric => t.fabric = s.fabric
  | .links => t.links = s.links
  | .mem => t.mem = s.mem
  | .qe => t.qe = s.qe
  | .io => t.io = s.io
  | .sl => t.sl = s.sl
  | .chk => t.chk = s.chk
  | .err => t.err = s.err
  | .clasp => t.clasp = s.clasp
  | .dbg => t.dbg = s.dbg
  | .pwr => t.pwr = s.pwr
  | .ff => t.ff = s.ff
  | .gov => t.gov = s.gov

/-- `t` differs from `s` at most in the parts of a list. -/
def State.changesOnly (ps : List Piece) (s t : State) : Prop := ∀ p, p ∉ ps → s.agree p t

/-! ### Harts -/

/-- A hart takes a command as its next instruction: it runs, and no deadline exception comes first (R96). -/
def State.ready (s : State) (h : Nat) : Bool := s.hartLive h && (s.due h).isNone

/-- A hart takes an access to a register as its next instruction: no side-effect request of its own is still on its way (R188). -/
def State.readySide (s : State) (h : Nat) : Bool := s.ready h && !s.ioTravels h

/-- An execute trigger fires before a hart's next instruction. -/
def State.trigFirst (s : State) (h : Nat) : Bool :=
  match s.due h with
  | some (.trigger _) => true
  | some (.channel _) | none => false

/-- Nothing of a hart keeps a request for a line from leaving: no miss or write-back of it is outstanding (R175, R187), no stream to the line's home is held (R219), and it is no checked pair (R113). -/
def State.unhindered (s : State) (h l : Nat) : Prop :=
  (s.hart h).misses = [] ∧ (s.hart h).wbs = [] ∧ (s.hart h).paired = false ∧ s.streamHeld h .rds (s.homeNode l) false = false

/-! ### What commands may change -/

/-- The hart of a command that concerns that hart alone and writes none of its x, f and vector registers. -/
def onlyHart (i : Instr) : Option Nat :=
  match i with
  | .fence h | .fenceI h | .lzSpecfence h | .wfi h | .cacheCtlDone h => some h
  | .sfenceVma h _ _ | .hfenceVvma h _ _ | .hfenceGvma h _ _ | .trapEntry h _ _ => some h
  | .lzLoop h _ _ _ | .lzLoopi h _ _ _ => some h
  | .interruptTaken h _ | .xret h _ | .counterWrap h _ => some h
  | _ => none

/-- The parts of the state that some commands of one unit may change. -/
def mayTouch (i : Instr) : Option (List Piece) :=
  match i with
  | .rds _ | .rdu _ | .upg _ | .rdnc _ | .wrnc _ | .amof _ | .amom _ | .cmpack _ =>
    some [.boot, .slices, .net, .fabric, .links, .err, .clasp]
  | .nop _ | .keyErase _ => some [.boot, .qe, .chk, .err, .clasp]
  | .slRecv _ | .tsnRx _ => some [.boot, .slices, .net, .fabric, .mem, .qe, .chk, .err, .clasp]
  | .descriptorFetch _ => some [.free, .boot, .slices, .net, .fabric, .mem, .qe, .err, .clasp]
  | .laneFail _ | .viResetDone _ => some [.boot, .qe, .err, .clasp]
  | .queueDisableDone _ => some [.qe]
  | .frameBoundary => some [.time, .fabric]
  | .slewAdjustedFrame => some [.time]
  | .crossingMark => some [.net]
  | .sourceHold => some [.fabric, .links]
  | .memoryWrite _ | .refresh _ _ => some [.mem]
  | .heartbeat _ _ _ | .heartbeatSend _ => some [.sl]
  | .l3qFlushDone _ _ => some [.slices]
  | .errorCountWindow | .partnerRetry _ => some [.links]
  | .debugChallengeExpiry | .status => some [.clasp]
  | _ => none

/-! ### Messages -/

/-- A path leads a message to its destination (R199, R201). -/
def State.comes (s : State) (m : CohMsg) : Bool := s.reach m.src m.dst m.cls m.stream

/-- A coherence message of an opcode is on its way to a node for a line. -/
def State.inFlight (s : State) (o : Opc) (dst line : Nat) : Prop := ∃ m ∈ s.net.coh, m.opc = o ∧ m.dst = dst ∧ m.addr = line

/-- The answer to a request is on its way: back to its core, under its tag. -/
def State.answered (s : State) (o : Opc) (m : CohMsg) : Prop :=
  ∃ r ∈ s.net.coh, r.opc = o ∧ r.dst = m.src ∧ r.core = m.core ∧ r.tag = m.tag ∧ r.addr = m.addr

/-! ### Descriptors -/

/-- No line of some ranges of memory is held at its home or held by a port group (R189, R190). -/
def State.linesFree (s : State) (rs : List (Bool × Nat × Nat)) : Bool :=
  ((rs.filter (fun r => (rangeOf r.2.1).isMemory)).flatMap (fun r => (linesIn r.2.1 r.2.2).map (fun l => (r.1, l)))).all
    (fun e => !s.lineHeld e.2 && (s.portHolders e.2 (!e.1)).isEmpty)

/-- The ranges of a descriptor can be reached now: they lie in its Quire's windows (R278), no line of them is held (R189), and no device port in them is shut (R281). -/
def State.reachable (s : State) (lane : Nat) (f : Flight) : Prop :=
  s.rangesOk lane f = (s, true) ∧ s.linesFree (s.opRanges lane f) = true ∧ (s.opRanges lane f).all (fun x => !s.deadRange x.2.1 x.2.2) = true

/-- A started descriptor of an operation whose lane works and is not gated (R401), and whose ranges can be reached. -/
def State.mayAct (s : State) (d : DescRef) (op : Nat) (f : Flight) : Prop :=
  s.flight d = some f ∧ f.st = .started ∧ f.op = op ∧ (s.lane d.lane).fenced = false ∧ s.isGated (laneUnit d.lane) = false ∧ s.reachable d.lane f

/-- The state once a descriptor's source has been read: the request statistics and the free values of their latencies have moved on. -/
def State.afterRead (s : State) (d : DescRef) (f : Flight) : State := (s.busRead (laneNodeOf d.lane) f.src f.len).2.2

/-- A descriptor's source is memory without poison. -/
def State.sourceGood (s : State) (f : Flight) : Prop :=
  (rangeOf f.src).isMemory = true ∧ s.coherentPoison f.src f.len = false

/-- A descriptor is done with what its completion will carry. -/
def State.ends (t : State) (d : DescRef) (f : Flight) (status len result : Nat) : Prop :=
  t.flight d = some { f with st := .done, status := status, length := len, result := BitVec.ofNat 128 result }

/-- A descriptor is done, and `t` holds the bytes it put at DST from the state `s`; a failed write gives DEV_ERROR and the bytes written before it. -/
def State.puts (s t : State) (d : DescRef) (f : Flight) (bs : List Byte) (result : Nat) : Prop :=
  t.mem = (s.put (laneNodeOf d.lane) f.dst bs false).1.mem ∧ t.harts = (s.put (laneNodeOf d.lane) f.dst bs false).1.harts
    ∧ t.ends d f (if (s.put (laneNodeOf d.lane) f.dst bs false).2.2 then 0 else 8) (s.put (laneNodeOf d.lane) f.dst bs false).2.1 result

/-- A descriptor waits for an outside answer. -/
def State.waits (t : State) (d : DescRef) : Prop := ∃ g, t.flight d = some g ∧ g.st = .waiting

/-! ### System Link messages -/

/-- A message entered a port of `t` in a flit of its own, behind what the port of `s` holds for replay. -/
def State.sentOn (s t : State) (k kind dest tag status : Nat) (body : List Byte) : Prop :=
  ∃ f a, (t.slPort k).replay = (s.slPort k).replay ++ [f] ∧ f.msgs = [a] ∧ a.kind = kind ∧ a.dstPkg = dest ∧ a.tag = tag ∧ a.status = status
    ∧ a.body = body

/-- A port takes a message at once: its peer is UP, does not sleep, and it has room for one more flit. -/
def State.slFree (s : State) (dest k : Nat) : Prop :=
  s.slRoute dest = .inl k ∧ (s.slPort k).peerPk = 0 ∧ (s.slPort k).replay.length < 256

/-! ### Error records -/

/-- Some collector below the chip carries a record of a syndrome on its way up (R340). -/
def State.carries (s : State) (y : Syndrome) : Bool := s.err.low.any (fun c => c.upward.any (fun r => r.syndrome == y.code))

end Sys2Proof.Machine
end

