-- ==== Sys2Proof/Certificates/Slice0/Obligations.lean ====
section
/-! DEFINITION. The statements for the provers: what the commands do, what they leave unchanged, and what every step keeps. -/

open Sys2Proof Sys2Proof.Machine


/-! ### Power and time -/

/-- R413, R415: standby power boots the Firefly with every rule and channel at its reset setting; a fall of STBY_PWRGOOD leaves only flash and key store. R413, R418: a fall of PWRGOOD holds every domain except STBY in reset at once, so that the Firefly keeps its state and write-pending queues are lost. Where the spec leaves it open this is the model's choice: log 9. -/
def Obligations.Power_edges : Prop :=
  ((∀ s : State, s.boot.phase = .off → ∃ t, exec .stbyPwrgoodRise s = .next t ∧ t.boot.phase = .standby ∧ t.pins.stbyPwrgood = true
    ∧ t.ff.booted = true ∧ t.ff.rules = [] ∧ t.ff.chan = [] ∧ t.ff.alert = 0)
  ∧ (∀ s : State, s.boot.phase ≠ .off → ∃ t, exec .stbyPwrgoodFall s = .next t ∧ t.boot.phase = .off ∧ t.pins.stbyPwrgood = false
    ∧ t.harts = [] ∧ t.clusters = [] ∧ t.slices = [] ∧ t.net = Net.reset ∧ t.err = Errors.reset ∧ t.ff.booted = false
    ∧ t.fuse = s.fuse ∧ t.clasp.owners = s.clasp.owners ∧ t.clasp.flash = s.clasp.flash ∧ t.clasp.floor = s.clasp.floor))
  ∧ (∀ s : State, s.pins.pwrgood = true → ∃ t, exec .pwrgoodFall s = .next t ∧ t.boot.phase = .standby ∧ t.boot.warm = false
    ∧ t.pins.pwrgood = false ∧ t.harts = [] ∧ t.clusters = [] ∧ t.slices = [] ∧ t.net = Net.reset ∧ t.fabric = Fabric.reset
    ∧ t.qe = Qe.reset ∧ t.sl = SysLink.reset ∧ t.err = Errors.reset ∧ t.mem.wpq = [] ∧ t.ff = s.ff ∧ t.fuse = s.fuse
    ∧ t.clasp.flash = s.clasp.flash)

/-- R415, R38: the start-up steps that pins, PLLs and the Clasp drive, in their order. Where the spec leaves it open this is the model's choice: log 9 and 24. -/
def Obligations.Startup_steps : Prop :=
  (∀ (s : State) (v : BitVec 16), s.boot.phase = .standby → ∃ t, exec (.resetNRise v) s = .next t ∧ t.boot.phase = .ready 2
    ∧ t.boot.warm = false ∧ t.pins.resetN = true ∧ t.pins.straps = v ∧ t.pins.aliveToggling = !s.ff.restarting)
  ∧ (∀ s : State, s.boot.phase = .ready 2 → ∃ t, exec .pllLocked s = .next t ∧ t.boot.phase = .ready 3 ∧ t.boot.pllLocked = true
    ∧ (s.boot.pllLocked = false → t.time.now = 0 ∧ t.time.started = false))
  ∧ (∀ s : State, s.boot.phase = .ready 3 → s.pins.resetN = true → ∃ t, exec .claspBoot s = .next t ∧ t.boot.phase = .ready 4
    ∧ t.boot.claspUp = true ∧ t.pins.aliveToggling = !s.ff.restarting)

/-- R417, R418, R356: a warm reset stops every hart, holds ALIVE low and starts RIP on the released System Link ports; once drained, every domain except STBY is reset and start-up resumes at step 3. R36, R401: loss of REFCLK and a thermal trip hold every domain except STBY in reset and leave an entry in the Firefly log; their end starts a warm reset, after REFCLK loss with package time restarted at 0. A die other than the IOD that loses PLL lock is fenced as a region. Where the spec leaves it open this is the model's choice: log 57 and 89. -/
def Obligations.Resets_and_trips : Prop :=
  ((∀ s : State, s.boot.phase = .running → s.pins.pwrgood = true → s.boot.flush = .none → s.pwr.pkEntering = none →
    ∃ t, exec (.warmReset .pin) s = .next t ∧ t.boot.phase = .draining ∧ t.boot.warm = true ∧ t.boot.cause = .pin
      ∧ t.pins.resetN = false ∧ t.pins.aliveToggling = false ∧ t.mem = s.mem
      ∧ (∀ p, (t.slPort p).rip = (s.slPort p).released)
      ∧ (∀ h, (t.hart h).run ≠ .running ∧ (t.hart h).run ≠ .halted))
  ∧ (∀ s : State, s.boot.phase = .running → s.boot.fatal.isSome = true → s.boot.flush = .none →
    ∃ t, exec (.warmReset .fatal) s = .next t ∧ t.boot.phase = .draining ∧ t.boot.cause = .fatal ∧ s.ff.logSeq < t.ff.logSeq
      ∧ (∀ h, (t.hart h).run ≠ .running ∧ (t.hart h).run ≠ .halted))
  ∧ (∀ s : State, s.boot.phase = .draining → ∃ t, exec .warmResetDrained s = .next t ∧ t.boot.phase = .ready 3
    ∧ t.boot.bootCount = (s.boot.bootCount + 1) % 2 ^ 32 ∧ t.harts = [] ∧ t.slices = [] ∧ t.err = Errors.reset ∧ t.mem.wpq = []
    ∧ t.clasp.flash = s.clasp.flash ∧ t.clasp.owners = s.clasp.owners ∧ t.ff = s.ff))
  ∧ ((∀ s : State, s.clocked = true → ∃ t, exec .refclkLost s = .next t ∧ t.boot.phase = .refclkLost ∧ t.pins.refclk = false
    ∧ t.harts = [] ∧ t.slices = [] ∧ t.ff.logSeq = s.ff.logSeq + 1)
  ∧ (∀ s : State, s.boot.phase = .refclkLost → ∃ t, exec .refclkRestored s = .next t ∧ t.boot.phase = .draining
    ∧ t.boot.cause = .refclk ∧ t.pins.refclk = true ∧ t.time.now = 0 ∧ t.time.restarted = true)
  ∧ (∀ s : State, s.clocked = true → ∃ t, exec (.nocPllLockLost iodDie) s = .next t ∧ t.boot.phase = .refclkLost)
  ∧ (∀ (s : State) (d : Nat), s.clocked = true → packageDies.contains d = true → d ≠ iodDie →
    ∃ t, exec (.nocPllLockLost d) s = .next t ∧ t.boot.phase = s.boot.phase ∧ t.isFenced (dieUnit d) = true)
  ∧ (∀ s : State, s.clocked = true → ∃ t, exec .thermalTrip s = .next t ∧ t.boot.phase = .tripped ∧ t.harts = [] ∧ t.slices = []
    ∧ t.ff.alert.getLsbD 3 = true ∧ t.ff.logSeq = s.ff.logSeq + 1)
  ∧ (∀ s : State, s.boot.phase = .tripped → ∃ t, exec .thermalRecovery s = .next t ∧ t.boot.phase = .draining
    ∧ t.boot.cause = .thermal))

/-- R37, R38, R41: package time starts at 0 at the first frame boundary after the PLLs lock; every later boundary ends the frame, advances package time, and applies a pending step and B_SHARE. R39, R222: every 1,024 frames each die whose copy differs from the IOD's is corrected and logged. R40, R41: the time owner's M-mode harts schedule a step of package time and its trim; a read of PT_STAT returns its fields and clears SKEW_COUNT. Where the spec leaves it open this is the model's choice: log 1 and 86. -/
def Obligations.Package_time : Prop :=
  ((∀ s : State, s.boot.pllLocked = true → s.time.started = false → ∃ t, exec .frameBoundary s = .next t ∧ t.time.started = true
    ∧ t.time.now = 0 ∧ t.time.frame = 0 ∧ t.time.slot = 0)
  ∧ (∀ s : State, s.boot.pllLocked = true → s.time.started = true → ∃ t, exec .frameBoundary s = .next t
    ∧ t.time.now = s.time.now + (9 - s.time.slot / 2) + s.time.inc + s.time.step.getD 0 ∧ t.time.frame = s.time.frame + 1
    ∧ t.time.slot = 0 ∧ t.time.step = none ∧ (∀ b, s.fabric.bShareNext = some b → t.fabric.bShare = b ∧ t.fabric.bShareNext = none))
  ∧ (∀ s : State, s.time.slewOn = true → s.time.slewCount = s.time.slewInterval → ∃ t, exec .slewAdjustedFrame s = .next t
    ∧ t = { s with time := { s.time with boundaryInc := if s.time.slewDir then 0 else 2 } }))
  ∧ (∀ (s : State) (d : Nat) (k : Int), s.time.started = true → s.time.frame % 1024 = 0 → s.time.skew = [(d, k)] → s.time.holding = [] →
    packageDies.contains d = true → d ≠ iodDie → k ≠ 0 →
    ∃ t, exec .timeBroadcast s = .next t ∧ t.time.holding = [d] ∧ t.time.lastSkewDie = d
      ∧ t.time.skewCount = min 0xFFFF (s.time.skewCount + 1) ∧ t.time.now = s.time.now ∧ t.carries Syn.timeSkew = true)
  ∧ ((∀ (s : State) (h : Nat) (v : Word), s.readySide h = true → s.ownerHart (.hart h) = true → s.time.step = none → v.toNat < 2 ^ 48 →
    exec (.ptStep (.hart h) v) s = .next { s with time := { s.time with step := some v.toNat } })
  ∧ (∀ (s : State) (h : Nat) (v : Word), s.readySide h = true → s.ownerHart (.hart h) = true → v &&& ~~~(word ptSlewMask) = 0 →
    (flagOf v 63 = false ∨ 500 ≤ fieldOf v 0 32) →
    exec (.ptSlew (.hart h) v) s = .next { s with time := { s.time with slewReg := v &&& word ptSlewMask, slewWrite := some (v &&& word ptSlewMask) } })
  ∧ (∀ (s : State) (h rd : Nat), s.readySide h = true → s.readsTime h = true → ∃ t, exec (.ptStatRead h rd) s = .next t
    ∧ (t.hart h).getX rd = (if rd = 0 then 0 else s.time.stat) ∧ t.time = { s.time with skewCount := 0 }
    ∧ s.changesOnly [.time, .harts] t))

/-! ### Crossings -/

/-- R35, R230: in slot 0 of a frame whose count is a multiple of 1,024 every crossing that is UP sends a mark and a marker report in each direction; a mark in its calibrated slot changes nothing else, another one stops Class G on the crossing and retrains it; a report that differs from the receiver's copy is logged and changes nothing. R228, R229: a crossing that finds no bad lane, passes calibration and sees its mark comes UP at full width; an attempt without clocks is repeated once. R233, R235, R237: a lane with 256 corrected errors in a window is marked bad in the repair map, which the Clasp then copies to flash; counts start anew with each window; a dated remap takes its width at its boundary; REPAIR_CLEAR removes a crossing's entries while S_INV is open. R219, R221, R237, R238: a re-plan takes effect three frames later; the sources of changing streams are held for three frames before the switch; at the switch, in slot 0, every element takes the new tables and PLAN_GEN increments. STAT_CTL CLEAR sets every counter of a page to 0. Where the spec leaves it open this is the model's choice: log 24, 26, 27, 58 and 93. -/
def Obligations.Crossings_and_slots : Prop :=
  ((∀ s : State, s.time.started = true → s.time.frame % 1024 = 0 → s.time.slot = 0 → ∃ t, exec .crossingMark s = .next t
    ∧ ∀ (x : Nat) (i : Bool), x ∈ allCrossings → (s.xl x).st = .up →
      ({ x := x, inward := i, frame := s.time.frame } : Mark) ∈ t.net.marks
      ∧ ∃ r ∈ t.net.reports, r.x = x ∧ r.inward = i ∧ r.crc = mapCrc (if i then s.links.near else s.links.far) x i)
  ∧ (∀ (s : State) (x slot : Nat) (i : Bool) (m : Mark), s.net.marks.find? (fun m => m.x == x && m.inward == i) = some m →
    markDeviation x slot = 0 →
    exec (.markArrival x i slot) s = .next { s with net := { s.net with marks := s.net.marks.erase m } })
  ∧ (∀ (s : State) (x slot : Nat) (i : Bool) (m : Mark), s.net.marks.find? (fun m => m.x == x && m.inward == i) = some m →
    markDeviation x slot ≠ 0 → (s.xl x).st = .up → (s.xl x).lastDev = none →
    ∃ t, exec (.markArrival x i slot) s = .next t ∧ (t.xl x).gOff = true ∧ (t.xl x).st = .training ∧ t.carries Syn.xlMarkerDev = true)
  ∧ (∀ (s : State) (x : Nat) (i : Bool) (c : BitVec 32) (r : Report), s.net.reports.find? (fun r => r.x == x && r.inward == i) = some r →
    c ≠ mapCrc (if i then s.links.far else s.links.near) x i →
    ∃ t, exec (.markerReport x i c) s = .next t ∧ t.links = s.links ∧ t.net = { s.net with reports := s.net.reports.erase r }
      ∧ t.carries Syn.xlMapMismatch = true))
  ∧ ((∀ (s : State) (x : Nat) (r : TrainResult), s.trains x = true → r.clocksUp = true → r.badOut = [] → r.badIn = [] →
    r.rawLat ≤ rawLimit x → r.markOk = true → s.links.repair = [] → s.links.far = [] → s.links.near = [] →
    ∃ t, exec (.crossingTraining x r) s = .next t ∧ (t.xl x).st = .up ∧ (t.xl x).widthOut = .full ∧ (t.xl x).widthIn = .full
      ∧ (t.xl x).rawLat = r.rawLat)
  ∧ (∀ (s : State) (x : Nat) (r : TrainResult), s.trains x = true → r.clocksUp = false → (s.xl x).fails = 0 →
    ∃ t, exec (.crossingTraining x r) s = .next t ∧ (t.xl x).st = .training ∧ (t.xl x).fails = 1))
  ∧ ((∀ (s : State) (x lane n : Nat) (i : Bool), (s.xl x).st = .up → (s.xl x).errs = [(i, lane, n)] → 256 ≤ n →
    lane ∉ s.badLanes x i → lane < (lanesOf x).total →
    ∃ t, exec (.laneFailing x i lane) s = .next t ∧ lane ∈ t.badLanes x i ∧ t.links.repairDirty = true)
  ∧ (∀ s : State, s.time.frame % 100000 = 0 → ∃ t, exec .errorCountWindow s = .next t ∧ (∀ x, (t.xl x).errs = [])
    ∧ s.changesOnly [.links] t)
  ∧ (∀ (s : State) (x b : Nat) (r : Remap), (s.xl x).remaps = [r] → r.boundary = some b → b ≤ s.time.frame →
    ∃ t, exec (.crossingRemap x) s = .next t ∧ (t.xl x).remaps = []
      ∧ (if r.inward then (t.xl x).widthIn = r.width ∧ (t.xl x).selIn = r.sel else (t.xl x).widthOut = r.width ∧ (t.xl x).selOut = r.sel))
  ∧ (∀ s : State, s.links.repairDirty = true → exec .repairMapSave s = .next { s with
      links := { s.links with repairDirty := false },
      clasp := { s.clasp with flash := writeArea s.clasp.flash repairArea s.mapImage } })
  ∧ (∀ (s : State) (x : Nat), s.smbusUp = true → s.debugOpenBits.getLsbD 2 = true → ∃ t, exec (.repairClear x) s = .next t
    ∧ t.links.repair = s.links.repair.filter (fun b => b.x != x) ∧ t.links.repairDirty = true))
  ∧ ((∀ (s : State) (x : Nat), s.fabric.plan = none → s.degraded x = true → ∃ t, exec (.replan [x]) s = .next t
    ∧ (∃ p, t.fabric.plan = some p ∧ p.boundary = s.time.frame + 3 ∧ p.isReplan = true) ∧ t.fabric.slots = s.fabric.slots
    ∧ t.fabric.planGen = s.fabric.planGen)
  ∧ (∀ (s : State) (p : Plan), s.fabric.plan = some p → p.holding = false → p.boundary ≤ s.time.frame + 3 →
    ∃ t, exec .sourceHold s = .next t ∧ (∀ n ∈ p.changed, (s.stream n).st = .active → (t.stream n).st = .held)
      ∧ t.fabric.plan = some { p with holding := true, boundary := s.time.frame + 3 } ∧ s.changesOnly [.fabric, .links] t)
  ∧ (∀ (s : State) (p : Plan), s.fabric.plan = some p → p.holding = true → p.boundary ≤ s.time.frame → s.time.slot = 0 →
    ∃ t, exec .slotTableSwitch s = .next t ∧ t.fabric.slots = p.entries ∧ t.fabric.planGen = s.fabric.planGen + 1
      ∧ t.fabric.plan = none)
  ∧ (∀ (s : State) (h i : Nat), s.readySide h = true → s.fmAllowed (.hart h) true (0x40018 + i * 0x100) = true →
    ∃ t, exec (.statClear (.hart h) i) s = .next t ∧ s.changesOnly [.net] t
      ∧ Tab.get t.net.stats Stats.reset i = { Stats.reset with freeze := (Tab.get s.net.stats Stats.reset i).freeze }))

/-- R241, R243: a partner die's certificate is checked for format, signatures and allowlist, in this order, and only then does its port train; a site without a certificate in time is rejected, a trained one that names itself as certified is UP, a lost one has its port in reset, and is tried again. Where the spec leaves it open this is the model's choice: log 6, 58 and 93. -/
def Obligations.Partner_dies : Prop :=
  (∀ (s : State) (i : Nat) (c : List Byte), i < 2 → s.bind.siteList i ≠ [] → (s.partner i).st = .cert →
    ∃ t, exec (.partnerCertificate i c) s = .next t
      ∧ (if certFormat c = true ∧ certSigned c = true ∧ sha384 (c.take (numAt c 8 4)) ∈ s.bind.siteList i then
          (t.partner i).st = .training ∧ (t.xl (80 + i)).st = .training
        else (t.partner i).st = .rejected ∧ t.xl (80 + i) = Xl.reset
          ∧ (t.partner i).reason = (if certFormat c = false then 3 else if certSigned c = false then 4 else 5)))
  ∧ (∀ (s : State) (i : Nat), i < 2 → (s.partner i).st = .cert → (s.partner i).since + 10000000 ≤ s.time.now →
    ∃ t, exec (.partnerCertTimeout i) s = .next t ∧ (t.partner i).st = .rejected ∧ (t.partner i).reason = 2
      ∧ t.xl (80 + i) = Xl.reset ∧ t.carries Syn.partnerRejected = true)
  ∧ (∀ (s : State) (i : Nat) (v : Word), i < 2 → (s.partner i).st = .training → (s.xl (80 + i)).st = .up → fieldOf v 8 2 = 3 →
    fieldOf v 0 5 = 28 + i → fieldOf v 16 4 = (s.partner i).meshW → fieldOf v 20 4 = (s.partner i).meshH →
    ∃ t, exec (.partnerTrained i v) s = .next t ∧ (t.partner i).st = .up ∧ t.clasp.resign = true)
  ∧ (∀ (s : State) (i : Nat), i < 2 → (s.partner i).st = .up → ∃ t, exec (.partnerLost i) s = .next t
    ∧ (t.partner i).st = .lost ∧ t.xl (80 + i) = Xl.reset)
  ∧ (∀ (s : State) (i : Nat), i < 2 → (s.partner i).st = .lost → 0 < (s.partner i).retries →
    (s.partner i).since + 1000000 ≤ s.time.now → (s.partner i).blocked = false → s.bind.siteList i ≠ [] →
    ∃ t, exec (.partnerRetry i) s = .next t ∧ (t.partner i).st = .cert ∧ (t.partner i).retries = (s.partner i).retries - 1)

/-! ### Test and owner ports -/

/-- R244, R245: in a die of the chain an instruction whose condition holds is selected; IDCODE and CHAIN_STATUS capture their values, and a die that does not implement an instruction selects BYPASS, as does an unlisted code. R375: a halt request halts a running hart to which the INV enable of its world applies; a register of a halted hart is read into the data register; without the enable an abstract command ends with cmderr 3. Where the spec leaves it open this is the model's choice: log 63, 65 and 87. -/
def Obligations.Test_port : Prop :=
  ((∀ (s : State), s.inChain iodDie = true → s.pins.resetN = false →
    exec (.extest iodDie) s = .next (s.selectTap iodDie 0x00) ∧ exec (.clamp iodDie) s = .next (s.selectTap iodDie 0x03)
    ∧ exec (.highz iodDie) s = .next (s.selectTap iodDie 0x04))
  ∧ (∀ (s : State), s.inChain iodDie = true → exec (.samplePreload iodDie) s = .next (s.selectTap iodDie 0x02)
    ∧ exec (.chainStatus iodDie) s = .next ((s.selectTap iodDie 0x08).capture s.chainStatus)
    ∧ ∃ t, exec (.dtmcs iodDie) s = .next t ∧ Tab.get t.pins.tap 1 iodDie = 0x10)
  ∧ (∀ (s : State) (d : Nat), s.inChain d = true → exec (.idcode d) s = .next ((s.selectTap d 0x01).capture (idcodeOf d)))
  ∧ (∀ (s : State) (d : Nat), s.inChain d = true → s.wrapOk d = true →
    (∃ t, exec (.wrapExtest d) s = .next t ∧ Tab.get t.pins.tap 1 d = 0x20 ∧ t.pins.dr = s.draw.1 ∧ Tab.get t.pins.wrap 0 d = s.draw.1)
    ∧ (∃ t, exec (.wrapIntest d) s = .next t ∧ Tab.get t.pins.tap 1 d = 0x21 ∧ t.pins.dr = s.draw.1))
  ∧ (∀ (s : State) (d : Nat), s.inChain d = true → s.testSession = true → ∃ t, exec (.ijtagAccess d) s = .next t
    ∧ Tab.get t.pins.tap 1 d = 0x30 ∧ d ∈ t.pins.sib ∧ s.changesOnly [.pins] t)
  ∧ (∀ (s : State) (d : Nat), s.inChain d = true → d ≠ iodDie → exec (.extest d) s = .next (s.tapBypass d))
  ∧ (∀ (s : State) (d c : Nat), s.inChain d = true → [0x00, 0x01, 0x02, 0x03, 0x04, 0x08, 0x10, 0x11, 0x20, 0x21, 0x30].contains c = false →
    exec (.bypass d c) s = .next (s.tapBypass d)))
  ∧ ((∀ (s : State) (h : Nat), s.inChain iodDie = true → s.clocked = true → s.invApplies h = true → (s.hart h).run = .running →
    h ∈ s.cellHarts h → ∃ t, exec (.dmi iodDie (.haltreq h)) s = .next t ∧ (t.hart h).run = .halted ∧ (t.hart h).pc = (s.hart h).pc)
  ∧ (∀ (s : State) (h rd : Nat), s.inChain iodDie = true → s.clocked = true → s.invApplies h = true → (s.hart h).run = .halted → rd < 32 →
    ∃ t, exec (.dmi iodDie (.readReg h rd)) s = .next t ∧ t.dbg.data = (s.hart h).getX rd ∧ t.dbg.cmderr = 0 ∧ t.harts = s.harts)
  ∧ (∀ (s : State) (h rd : Nat) (v : Word), s.inChain iodDie = true → s.clocked = true → s.invApplies h = false →
    ∃ t, exec (.dmi iodDie (.writeReg h rd v)) s = .next t ∧ t.dbg.cmderr = 3 ∧ t.harts = s.harts))

/-- R373: STATUS answers with the header flags; COLOPHON answers with a Colophon over the nonce; a debug challenge is fresh and valid for 60 s. R373, R367: while every owner slot is EMPTY an enrolment fills slot 0; an update takes effect only with an ACTIVE owner's signatures, the next counter and a slot that advances; a Binding is loaded only while there is none. Where the spec leaves it open this is the model's choice: log 6 and 62. -/
def Obligations.Owner_interface : Prop :=
  ((∀ (s : State), s.smbusUp = true → ∃ t, exec .status s = .next t ∧ (t.clasp.smbAnswer.take 5) = 0 :: toLE 4 s.colFlags
    ∧ s.changesOnly [.clasp] t)
  ∧ (∀ (s : State) (n : BitVec 256), s.smbusUp = true → ∃ t, exec (.colophon n) s = .next t
    ∧ t.clasp.smbAnswer = 0 :: (s.colBody n ++ sigBytes (aliasSign (s.colBody n) s.free)) ∧ t.free = s.free + 1
    ∧ t.clasp.epoch = s.clasp.epoch)
  ∧ (∀ (s : State), s.smbusUp = true → ∃ t, exec .debugChallenge s = .next t
    ∧ t.clasp.challenge = some (BitVec.ofNat 256 (Config.freeValue s.free), s.time.now + 60000000000) ∧ t.free = s.free + 1)
  ∧ (∀ (s : State) (c : BitVec 256) (f : Nat), s.clasp.challenge = some (c, f) → f ≤ s.time.now →
    exec .debugChallengeExpiry s = .next { s with clasp := { s.clasp with challenge := none } }))
  ∧ ((∀ (s : State) (a b : List Byte), s.smbusUp = true → (∀ i < 4, (s.owner i).st = .empty) → a.length = 2592 → b.length = 97 →
    ∃ t, exec (.ownerEnrol a b) s = .next t ∧ t.owner 0 = { st := .active, hashes := sha384 a ++ sha384 b }
      ∧ (∀ i, i ≠ 0 → t.owner i = s.owner i) ∧ t.clasp.smbAnswer = [0] ∧ t.carries Syn.ownerKeyChanged = true)
  ∧ (∀ (s : State) (i c : Nat) (hs : List Byte) (g : SigBlock), s.smbusUp = true → i < 4 → hs.length = 96 →
    c = s.clasp.updCounter + 1 → s.slotAdvances i .active = true →
    ∃ t, exec (.ownerUpdate i 1 hs c g) s = .next t
      ∧ (if s.ownerSigned (toLE 1 i ++ toLE 1 1 ++ hs ++ toLE 8 c) g = true then
          t.owner i = { st := .active, hashes := hs } ∧ t.clasp.updCounter = c ∧ t.clasp.smbAnswer = [0]
        else t.clasp.owners = s.clasp.owners ∧ t.clasp.updCounter = s.clasp.updCounter ∧ t.clasp.smbAnswer = [1]))
  ∧ (∀ (s : State) (img : List Byte), s.smbusUp = true → s.boot.phase = .noBinding → s.clasp.work = none →
    ∃ t, exec (.loadBinding img) s = .next t
      ∧ (if (s.storeFault img).isNone then (∃ k, t.clasp.work = some (.flash none img k)) ∧ t.clasp.smbAnswer = [0]
        else t.clasp.work = none ∧ t.clasp.smbAnswer = [1])))

/-- R372, R373, R374: DEBUG_OPEN uses the challenge up and, with an ACTIVE owner's signatures over it, opens BITS AND CEILING; a session ends with DEBUG_CLOSE or when DURATION_S has passed; after a qualifying event the Colophon is signed again and EPOCH advances. R376: an M-mode hart in the Secure world starts the watchdog and kicks it; its first expiry sets STAGE 1, is logged and sends an MSI; its second is uncorrected-fatal. Where the spec leaves it open this is the model's choice: log 6, 63, 64 and 67. -/
def Obligations.Sessions_and_watchdog : Prop :=
  ((∀ (s : State) (bits d f : Nat) (c : BitVec 256) (g : SigBlock), s.smbusUp = true → s.clasp.challenge = some (c, f) → s.time.now < f →
    ∃ t, exec (.debugOpen bits d g) s = .next t ∧ t.clasp.challenge = none
      ∧ t.clasp.session = (if s.ownerSigned (s.debugFields bits d c) g = true then
          some { bits := BitVec.ofNat 4 bits &&& s.debugCeiling, fin := s.time.now + d * 1000000000 }
        else s.clasp.session))
  ∧ (∀ s : State, s.smbusUp = true → s.clasp.session.isSome = true →
    ∃ t, exec .debugClose s = .next t ∧ t.clasp.session = none ∧ t.clasp.resign = true ∧ t.carries Syn.debugClosed = true)
  ∧ (∀ (s : State) (c : Session), s.clasp.session = some c → c.fin ≤ s.time.now →
    ∃ t, exec .debugSessionExpiry s = .next t ∧ t.clasp.session = none ∧ t.clasp.resign = true ∧ t.carries Syn.debugClosed = true)
  ∧ (∀ s : State, s.clasp.resign = true → s.boot.claspUp = true → ∃ t, exec .colophonResign s = .next t
    ∧ t.clasp.epoch = (s.clasp.epoch + 1) % 2 ^ 32 ∧ t.clasp.resign = false ∧ s.changesOnly [.clasp, .free] t))
  ∧ ((∀ (s : State) (h : Nat) (v : Word), s.readySide h = true → s.swdHart (.hart h) = true → s.clasp.swd.enable = false →
    0 < fieldOf (v ||| word (2 ^ 63)) 0 17 → fieldOf (v ||| word (2 ^ 63)) 0 17 ≤ 60000 →
    ∃ t, exec (.swdEnable h v) s = .next t ∧ t.clasp.swd.enable = true ∧ t.clasp.swd.stage = 0 ∧ t.clasp.swd.counted = 0
      ∧ t.clasp.swd.periodMs = fieldOf (v ||| word (2 ^ 63)) 0 17)
  ∧ (∀ (s : State) (h : Nat), s.readySide h = true → s.swdHart (.hart h) = true → s.clasp.swd.enable = true →
    ∃ t, exec (.kick h) s = .next t ∧ t.clasp.swd.stage = 0 ∧ t.clasp.swd.counted = 0 ∧ t.clasp.swd.enable = true
      ∧ t.clasp.swd.periodMs = s.clasp.swd.periodMs)
  ∧ (∀ s : State, s.swdDue = true → s.clasp.swd.stage = 0 → ∃ t, exec .swdFirst s = .next t ∧ t.clasp.swd.stage = 1
    ∧ t.net.msi = s.net.msi ++ [{ hart := s.clasp.swd.hart, file := 0, id := s.clasp.swd.id, secure := true }]
    ∧ t.carries Syn.swdFirst = true)
  ∧ (∀ s : State, s.swdDue = true → s.clasp.swd.stage = 1 → ∃ t, exec .swdReset s = .next t ∧ t.boot.fatal.isSome = true
    ∧ t.carries Syn.swdReset = true))

/-! ### Harts -/

/-- R82, R88, R98: an ordinary instruction that retires writes the register it computed, x0 staying zero, leaves every other register and every other hart as it was, and stores nothing. R84: a 32-bit encoding in the custom opcode spaces that is no Xlz instruction raises an illegal-instruction exception; taken in M-mode, mepc holds the pc, mcause 2 and mtval the encoding, and nothing else of the machine changes. R87, R93: a resolved branch updates the speculative return stack, and a misprediction restores it from the retired copy; the loop state changes only at retirement. Where the spec leaves it open this is the model's choice: log 8 and 11. -/
def Obligations.Instructions_retire : Prop :=
  (∀ (s : State) (h n : Nat) (v : Word) (i : Retire), s.ready h = true → i.len = 4 → xlzIllegal i.bits = false → decodeXlz i.bits = none →
    i.csr = none → i.br = none → i.writes = [.x n v] →
    ∃ t, exec (.instructionRetire h i .none) s = .next t ∧ (t.hart h).getX n = (if n = 0 then 0 else v)
      ∧ (∀ m, m ≠ n → (t.hart h).getX m = (s.hart h).getX m) ∧ (t.hart h).f = (s.hart h).f ∧ (t.hart h).vec = (s.hart h).vec
      ∧ (t.hart h).lastPc = (s.hart h).pc ∧ (t.hart h).mode = (s.hart h).mode ∧ (∀ k, k ≠ h → t.hart k = s.hart k)
      ∧ s.changesOnly [.harts] t)
  ∧ (∀ (s : State) (h : Nat) (i : Retire), s.ready h = true → i.len = 4 → xlzIllegal i.bits = true → (s.hart h).mode = .m →
    ∃ t, exec (.instructionRetire h i .none) s = .next t ∧ (t.hart h).getCsr 0x341 = (s.hart h).pc ∧ (t.hart h).getCsr 0x342 = 2
      ∧ (t.hart h).getCsr 0x343 = i.bits.setWidth 64 ∧ (t.hart h).x = (s.hart h).x ∧ (∀ k, k ≠ h → t.hart k = s.hart k)
      ∧ s.changesOnly [.harts] t)
  ∧ (∀ (s : State) (h : Nat) (b : Branch), s.hartLive h = true → ∃ t, exec (.branchResolve h b) s = .next t
    ∧ (t.hart h).rasSpec = (if (s.hart h).branchCost b = .redirect then (s.hart h).ras else rasAfter (s.hart h).rasSpec b (b.pc + word b.len))
    ∧ (t.hart h).ras = (s.hart h).ras ∧ (t.hart h).loop0 = (s.hart h).loop0 ∧ (t.hart h).loop1 = (s.hart h).loop1
    ∧ (t.hart h).x = (s.hart h).x ∧ s.changesOnly [.harts] t)

/-- R90, R91, R94: a loop setup that no reason of R94 forbids makes its level active with its count, length and end; with count zero it skips the body and writes no loop register. -/
def Obligations.Loop_setup : Prop :=
  (∀ (s : State) (h l r e : Nat), s.ready h = true → l < 2 → 0 < ((s.hart h).getX r).toNat →
    (s.hart h).loopFault l e ((s.hart h).getX r).toNat true = none →
    ∃ t, exec (.lzLoop h l r e) s = .next t ∧ s.changesOnly [.harts] t
      ∧ (t.hart h).loop l = { active := true, virt := (s.hart h).virt, prv := (s.hart h).mode, len := e,
                              count := ((s.hart h).getX r).toNat, stop := (s.hart h).pc + 4 + word (2 * e) })
  ∧ (∀ (s : State) (h l c e : Nat), s.ready h = true → l < 2 → 0 < c → (s.hart h).loopFault l e c false = none →
    ∃ t, exec (.lzLoopi h l c e) s = .next t ∧ s.changesOnly [.harts] t
      ∧ (t.hart h).loop l = { active := true, virt := (s.hart h).virt, prv := (s.hart h).mode, len := e, count := c,
                              stop := (s.hart h).pc + 4 + word (2 * e) })
  ∧ (∀ (s : State) (h l e : Nat), s.ready h = true → (s.hart h).loopFault l e 0 false = none →
    ∃ t, exec (.lzLoopi h l 0 e) s = .next t ∧ (t.hart h).pc = (s.hart h).pc + 4 + word (2 * e)
      ∧ (t.hart h).loop0 = (s.hart h).loop0 ∧ (t.hart h).loop1 = (s.hart h).loop1 ∧ s.changesOnly [.harts] t)

/-- R91: a count of zero skips the body: execution continues at E, and neither lzlc nor lzle is written. -/
def Obligations.Zero_count : Prop :=
  ∀ (s : State) (h level endOff : Nat), s.ready h = true → (s.hart h).loopFault level endOff 0 false = none →
    (∃ t, exec (.lzLoopi h level 0 endOff) s = .next t ∧ (t.hart h).pc = (s.hart h).pc + 4 + word (2 * endOff)
      ∧ (t.hart h).loop0 = (s.hart h).loop0 ∧ (t.hart h).loop1 = (s.hart h).loop1)
    ∧ (∀ rs1, (s.hart h).getX rs1 = 0 → ∃ t, exec (.lzLoop h level rs1 endOff) s = .next t
      ∧ (t.hart h).pc = (s.hart h).pc + 4 + word (2 * endOff) ∧ (t.hart h).loop0 = (s.hart h).loop0 ∧ (t.hart h).loop1 = (s.hart h).loop1)

/-- R99, R103, R161, R187: lz.specfence leaves no unconfirmed line or TLB entry; FENCE.I empties the L1I; a FENCE retires once no older access is outstanding and waits until then. R131: SFENCE.VMA with V = 0 leaves no V = 0 entry that it selects by address and ASID; HFENCE.VVMA and HFENCE.GVMA leave no V = 1 entry of the selected space; entries not selected stay. Where the spec leaves it open this is the model's choice: log 11. -/
def Obligations.Fences_of_harts : Prop :=
  ((∀ (s : State) (h : Nat), s.ready h = true → ∃ t, exec (.lzSpecfence h) s = .next t ∧ s.changesOnly [.harts] t
    ∧ (∀ e ∈ (t.hart h).l1i ++ (t.hart h).l1d ++ (t.hart h).vc ++ (t.hart h).l2, e.2.unconf = false)
    ∧ (∀ e ∈ (t.hart h).itlb ++ (t.hart h).dtlb, e.2.unconf = false))
  ∧ (∀ (s : State) (h : Nat), s.ready h = true → ∃ t, exec (.fenceI h) s = .next t ∧ (t.hart h).l1i = [] ∧ (t.hart h).l1d = (s.hart h).l1d
    ∧ (t.hart h).l2 = (s.hart h).l2 ∧ s.changesOnly [.harts] t)
  ∧ (∀ (s : State) (h : Nat), s.ready h = true → (s.hart h).quiet = true →
    exec (.fence h) s = .next (s.modHart h (fun x => x.retire .fence)))
  ∧ (∀ (s : State) (h : Nat), s.ready h = true → (s.hart h).quiet = false → exec (.fence h) s = .next s))
  ∧ ((∀ (s : State) (h : Nat) (va : Option Word) (asid : Option Nat), s.ready h = true → (s.hart h).mode = .m → (s.hart h).virt = false →
    ∃ t, exec (.sfenceVma h va asid) s = .next t ∧ s.changesOnly [.harts] t
      ∧ ∀ e, e ∈ (t.hart h).l2tlb ↔ e ∈ (s.hart h).l2tlb ∧ fenceSelects false none va asid e.2 = false)
  ∧ (∀ (s : State) (h : Nat) (va : Option Word) (asid : Option Nat), s.ready h = true → (s.hart h).mode = .m →
    ∃ t, exec (.hfenceVvma h va asid) s = .next t ∧ s.changesOnly [.harts] t
      ∧ ∀ e, e ∈ (t.hart h).dtlb ↔ e ∈ (s.hart h).dtlb ∧ fenceSelects true (some (fieldOf ((s.hart h).getCsr 0x680) 44 14)) va asid e.2 = false)
  ∧ (∀ (s : State) (h n : Nat), s.ready h = true → (s.hart h).mode = .m →
    ∃ t, exec (.hfenceGvma h none (some n)) s = .next t ∧ s.changesOnly [.harts] t
      ∧ ∀ e, e ∈ (t.hart h).locked ↔ e ∈ (s.hart h).locked ∧ ¬(e.2.virt = true ∧ e.2.vmid = n)))

/-- R89, R116: a trap and an interrupt taken in M-mode save the pc and the cause and go on at the vector; MRET restores mode and pc. R89: a trap, an interrupt or a return that changes the privilege mode flushes the BTB, the return stacks and the loop buffer and leaves nothing unconfirmed, and so does a write of satp. Where the spec leaves it open this is the model's choice: log 11 and 76. -/
def Obligations.Traps_and_returns : Prop :=
  ((∀ (s : State) (h c : Nat) (v : Word), s.ready h = true → (s.hart h).mode = .m → (s.hart h).virt = false →
    ∃ t, exec (.trapEntry h c v) s = .next t ∧ (t.hart h).getCsr 0x341 = (s.hart h).pc ∧ (t.hart h).getCsr 0x342 = word c
      ∧ (t.hart h).getCsr 0x343 = v ∧ (t.hart h).pc = trapVector ((s.hart h).getCsr 0x305) false c ∧ (t.hart h).mode = .m
      ∧ (t.hart h).x = (s.hart h).x ∧ s.changesOnly [.harts] t)
  ∧ (∀ (s : State) (h c : Nat), s.hartLive h = true → s.interruptDue h c = true → (s.hart h).mode = .m → (s.hart h).virt = false →
    ∃ t, exec (.interruptTaken h c) s = .next t ∧ (t.hart h).getCsr 0x341 = (s.hart h).pc
      ∧ (t.hart h).getCsr 0x342 = word (c + 2 ^ 63) ∧ (t.hart h).pc = trapVector ((s.hart h).getCsr 0x305) true c
      ∧ (t.hart h).x = (s.hart h).x ∧ s.changesOnly [.harts] t)
  ∧ (∀ (s : State) (h : Nat), s.ready h = true → (s.hart h).mode = .m → ∃ t, exec (.xret h .mret) s = .next t
    ∧ (t.hart h).pc = (s.hart h).getCsr 0x341 ∧ (t.hart h).x = (s.hart h).x ∧ s.changesOnly [.harts] t
    ∧ (t.hart h).mode = (if fieldOf ((s.hart h).getCsr 0x300) 11 2 = 3 then .m
        else if fieldOf ((s.hart h).getCsr 0x300) 11 2 = 1 then .s else .u)))
  ∧ ((∀ (s : State) (h c : Nat) (v : Word), s.ready h = true → (s.hart h).mode = .u → ∃ t, exec (.trapEntry h c v) s = .next t
    ∧ (t.hart h).btb = [] ∧ (t.hart h).ras = [] ∧ (t.hart h).rasSpec = [] ∧ (t.hart h).loopBuf = []
    ∧ (∀ e ∈ (t.hart h).l1d ++ (t.hart h).l2, e.2.unconf = false))
  ∧ (∀ (s : State) (h : Nat) (v : Word), s.ready h = true → (s.hart h).mode = .m → modeOk (fieldOf v 60 4) = true → (s.hart h).virt = false →
    ∃ t, exec (.satpWrite h .satp v) s = .next t ∧ (t.hart h).getCsr 0x180 = v ∧ (t.hart h).btb = [] ∧ (t.hart h).ras = []
      ∧ (t.hart h).rasSpec = [] ∧ (∀ e ∈ (t.hart h).itlb ++ (t.hart h).dtlb, e.2.unconf = false)))

/-- R110, R117: in a DUAL_WORLD Quire lzworld bit 0 sets the hart's world, and elsewhere the write is denied and logged; the write waits for the hart's older accesses. R96, R328, R329: a write of lzdlarmN arms channel N for its time; a DONE bit disarms it and clears MISSED; when package time reaches an armed channel's time, MISSED is set, the channel is disarmed, and exception 24 is due where it is enabled. R384, R385: WFI starts the entry into the C-state that CIDLE.DEPTH names; the entry completes; a wake condition brings the core back to C0. Where the spec leaves it open this is the model's choice: log 46. -/
def Obligations.Worlds_deadlines_sleep : Prop :=
  ((∀ (s : State) (h : Nat) (v : Word), s.ready h = true → (s.hart h).mode = .m → (s.hart h).quiet = true →
    s.bind.dualWorld (s.hart h).qid = true → v.toNat < 2 →
    ∃ t, exec (.lzworldWrite h v) s = .next t ∧ (t.hart h).secure = flagOf v 0 ∧ (∀ k, k ≠ h → t.hart k = s.hart k)
      ∧ s.changesOnly [.harts] t)
  ∧ (∀ (s : State) (h : Nat) (v : Word), s.ready h = true → (s.hart h).mode = .m → (s.hart h).quiet = true →
    s.bind.dualWorld (s.hart h).qid = false →
    ∃ t, exec (.lzworldWrite h v) s = .next t ∧ (t.hart h).secure = (s.hart h).secure ∧ t.carries Syn.worldWriteDenied = true)
  ∧ (∀ (s : State) (h : Nat) (v : Word), s.ready h = true → (s.hart h).mode = .m → (s.hart h).quiet = false →
    exec (.lzworldWrite h v) s = .next s))
  ∧ ((∀ (s : State) (h n : Nat) (v : Word), s.ready h = true → n < 4 → s.hartTime h < v.toNat →
    ∃ t, exec (.lzdlarmWrite h n v) s = .next t ∧ Tab.get (t.hart h).dlTime 0 n = v ∧ (t.hart h).dlArmed.getLsbD n = true
      ∧ (t.hart h).dlMissed.getLsbD n = false ∧ (∀ k, k ≠ n → (t.hart h).dlArmed.getLsbD k = (s.hart h).dlArmed.getLsbD k))
  ∧ (∀ (s : State) (h : Nat) (v : Word), s.ready h = true → ∃ t, exec (.lzdlctlWrite h v) s = .next t
    ∧ (t.hart h).dlArmed = (s.hart h).dlArmed &&& ~~~(BitVec.ofNat 4 (fieldOf v 0 4))
    ∧ (t.hart h).dlMissed = (s.hart h).dlMissed &&& ~~~(BitVec.ofNat 4 (fieldOf v 0 4))
    ∧ (t.hart h).dlExcEn = BitVec.ofNat 4 (fieldOf v 8 4))
  ∧ (∀ (s : State) (h n : Nat), n < 4 → (s.hart h).dlArmed.getLsbD n = true → (Tab.get (s.hart h).dlTime 0 n).toNat ≤ s.hartTime h →
    (s.hart h).run ≠ .fenced → ∃ t, exec (.deadlineMiss h n) s = .next t ∧ (t.hart h).dlMissed.getLsbD n = true
      ∧ (t.hart h).dlArmed.getLsbD n = false ∧ t.carries Syn.dlMiss = true
      ∧ ((s.hart h).dlExcEn.getLsbD n = true → s.excOnMiss h = true → (t.hart h).dlTake.getLsbD n = true)))
  ∧ ((∀ (s : State) (h : Nat), s.ready h = true → (s.hart h).mode = .m → ∃ t, exec (.wfi h) s = .next t
    ∧ (t.hart h).entering = some (depthState (s.hart h).cidle) ∧ (t.hart h).cstate = .c0 ∧ (t.hart h).x = (s.hart h).x)
  ∧ (∀ (s : State) (h : Nat), (s.hart h).entering = some .c1 → s.wakeDue h = false → ∃ t, exec (.cStateEntryComplete h) s = .next t
    ∧ (t.hart h).cstate = .c1 ∧ (t.hart h).entering = none ∧ (t.hart h).l1d = (s.hart h).l1d ∧ (t.hart h).x = (s.hart h).x)
  ∧ (∀ (s : State) (h : Nat), (s.hart h).wakeHeld = true → (s.hart h).entering = none → (s.hart h).cstate ≠ .c0 → s.pwr.pk = 0 →
    s.pwr.pkEntering = none → ∃ t, exec (.coreWake h .mailbox) s = .next t ∧ (t.hart h).cstate = .c0 ∧ (t.hart h).wakeHeld = false
      ∧ (t.hart h).x = (s.hart h).x))

/-- R132, R133: UNLOCK invalidates a locked slot and QUERY reports one; a LOCK of a page that its walk finds, and that no other locked entry overlaps, places it in the slot. R121, R126, R136: a page walk asks for a line that the hart's caches lack; one that ends in a leaf, with every PTE it writes owned, writes those PTEs and fills the TLBs with the leaf; and one that ends in a fault raises it for a retiring access. Where the spec leaves it open this is the model's choice: log 11, 41, 84 and 92. -/
def Obligations.Translation : Prop :=
  ((∀ (s : State) (h : Nat) (v : Word), s.ready h = true → (s.hart h).mode = .m → ∃ t, exec (.tlbUnlock h v) s = .next t
    ∧ Tab.find (t.hart h).locked (fieldOf v 7 5) = none
    ∧ fieldOf (t.hart h).lztlblock 0 3 = (if (Tab.find (s.hart h).locked (fieldOf v 7 5)).isSome then 0 else 1))
  ∧ (∀ (s : State) (h : Nat) (v : Word), s.ready h = true → (s.hart h).mode = .m → ∃ t, exec (.tlbQuery h v) s = .next t
    ∧ (t.hart h).locked = (s.hart h).locked
    ∧ fieldOf (t.hart h).lztlblock 0 3 = (if (Tab.find (s.hart h).locked (fieldOf v 7 5)).isSome then 0 else 1))
  ∧ (∀ (s : State) (h : Nat) (v : Word) (e : TlbEnt) (reads : List (Nat × Nat)), s.ready h = true → (s.hart h).mode = .m → flagOf v 5 = false → flagOf v 6 = false →
    modeLevels (fieldOf ((s.hart h).getCsr 0x180) 60 4) ≠ 0 →
    canonical (modeLevels (fieldOf ((s.hart h).getCsr 0x180) 60 4)) (v &&& ~~~(word 0xFFF)).toNat = true →
    s.walkFull h (v &&& ~~~(word 0xFFF)) .load false .s false false = .entry e reads → (s.hart h).notOwned reads = none → (s.hart h).locked = [] →
    ∃ t, exec (.tlbLock h v) s = .next t ∧ Tab.find (t.hart h).locked (fieldOf v 7 5) = some { e with unconf := false }
      ∧ fieldOf (t.hart h).lztlblock 0 3 = 0))
  ∧ ((∀ (s : State) (h l : Nat) (w : Walk), s.hartLive h = true → (s.hart h).walk = some w → w.exec = false → w.store = false →
    s.walkFull h w.va .load ((s.hart h).effMode .load).2 ((s.hart h).effMode .load).1 w.spec true = .need l →
    exec (.pageWalk h) s = .next (s.walkMiss h l false w.spec))
  ∧ (∀ (s : State) (h : Nat) (w : Walk) (e : TlbEnt) (reads : List (Nat × Nat)), s.hartLive h = true → (s.hart h).walk = some w →
    w.exec = false → w.store = false → w.spec = false → (s.hart h).locked = [] → (s.hart h).notOwned reads = none →
    s.walkFull h w.va .load ((s.hart h).effMode .load).2 ((s.hart h).effMode .load).1 false true = .entry e reads →
    ∃ t, exec (.pageWalk h) s = .next t ∧ s.changesOnly [.harts] t ∧ (∀ k, k ≠ h → t.hart k = s.hart k)
      ∧ t.hart h = ((({ s.hart h with walk := none } : Hart).afterWalk reads).fillTlbs .load e))
  ∧ (∀ (s : State) (h : Nat) (w : Walk) (e : Exc), s.hartLive h = true → (s.hart h).walk = some w → w.exec = false → w.store = false →
    w.spec = false → w.hint = false → w.cbo = false →
    s.walkFull h w.va .load ((s.hart h).effMode .load).2 ((s.hart h).effMode .load).1 false true = .exc e →
    exec (.pageWalk h) s = .next ((s.modHart h (fun x => { x with walk := none })).raise h e)))

/-- Frame of commands of one hart, where no trigger on the next instruction's address fires first: fences, traps, returns, loop setups, WFI and the like change that hart and the count of draws only, and leave its x, f and vector registers, its QID and its world as they were; memory and every other hart are unchanged. Where the spec leaves it open this is the model's choice: log 8. -/
def Obligations.Hart_frames : Prop :=
  ∀ (c : Instr) (h : Nat) (s t : State), onlyHart c = some h → s.trigFirst h = false → exec c s = .next t → s.changesOnly [.harts, .free] t
    ∧ (∀ k, k ≠ h → t.hart k = s.hart k) ∧ (t.hart h).x = (s.hart h).x ∧ (t.hart h).f = (s.hart h).f ∧ (t.hart h).vec = (s.hart h).vec
    ∧ (t.hart h).qid = (s.hart h).qid ∧ (t.hart h).secure = (s.hart h).secure ∧ (t.hart h).dlTime = (s.hart h).dlTime

/-! ### Memory accesses and coherence -/

/-- R98, R101, R142, R159, R175: a load of ordinary memory whose line the L1D holds writes its register and nothing outside the hart; one that misses sends RdS to the line's home and waits in a miss register; a speculative one under NOSPEC does nothing. R175, R187: a retiring store to a line that the L1D holds in M or E changes the bytes of its size in that copy, which becomes M, and no memory yet; a store to a line held in S asks its home for ownership by Upg, one to a line not held by RdU. Where the spec leaves it open this is the model's choice: log 38 and 91. -/
def Obligations.Loads_and_stores : Prop :=
  ((∀ (s u : State) (h k pa : Nat) (o : LoadOp) (c : CLine), s.ready h = true → o.size ≤ 3 → o.spec = false → o.fetch = false →
    inLine o.va (2 ^ o.size) = true → s.trigFor h .load o.va.toNat (2 ^ o.size) none = none → (s.hart h).misses = [] →
    s.locate h .load o.va (2 ^ o.size) false = .inr (u, pa, .ordinary) → (u.hart h).ncBusy (pa / 64) = false →
    findLine (u.hart h).l1d (pa / 64) = some (k, c) → k / 8 = l1dSet o.va.toNat → c.poison = 0 →
    ∃ t, exec (.load h o .none) s = .next t ∧ u.changesOnly [.harts] t ∧ (∀ j, j ≠ h → t.hart j = u.hart j)
      ∧ (t.hart h).getX o.rd = (if o.rd = 0 then 0 else extendTo64 o.size (copyGet c pa (2 ^ o.size)) o.signed)
      ∧ ∀ n, n ≠ o.rd → (t.hart h).getX n = (u.hart h).getX n)
  ∧ (∀ (s u : State) (h pa : Nat) (o : LoadOp), s.ready h = true → o.size ≤ 3 → o.spec = false → o.fetch = false →
    inLine o.va (2 ^ o.size) = true → s.trigFor h .load o.va.toNat (2 ^ o.size) none = none → (s.hart h).misses = [] →
    s.locate h .load o.va (2 ^ o.size) false = .inr (u, pa, .ordinary) → (u.hart h).lineSt (pa / 64) = .i → u.unhindered h (pa / 64) →
    ∃ t, exec (.load h o .none) s = .next t ∧ t.inFlight .rds (u.homeNode (pa / 64)) (pa / 64) ∧ u.changesOnly [.harts, .net, .fabric] t
      ∧ (∃ m ∈ (t.hart h).misses, m.line = pa / 64 ∧ m.st = .isD ∧ m.waiters = [.load o pa]) ∧ (t.hart h).x = (u.hart h).x)
  ∧ (∀ (s : State) (h : Nat) (o : LoadOp), s.hartLive h = true → o.spec = true → o.fetch = false → (s.hart h).lzspec.getLsbD 0 = true →
    exec (.load h o .none) s = .next s))
  ∧ ((∀ (s u : State) (h k pa size : Nat) (va data : Word) (c : CLine), s.ready h = true → size ≤ 3 → inLine va (2 ^ size) = true →
    s.trigFor h .store va.toNat (2 ^ size) (some (data.toNat % 2 ^ (8 * 2 ^ size))) = none →
    s.locate h .store va (2 ^ size) false = .inr (u, pa, .ordinary) → (u.hart h).paired = false → (u.hart h).ncBusy (pa / 64) = false →
    findLine (u.hart h).l1d (pa / 64) = some (k, c) → k / 8 = l1dSet va.toNat → (c.st = .m ∨ c.st = .e) →
    ∃ t, exec (.retiringStore h ⟨va, .none⟩ size data) s = .next t ∧ u.changesOnly [.harts] t ∧ (t.hart h).x = (u.hart h).x
      ∧ ∃ d, findLine (t.hart h).l1d (pa / 64) = some (k, d) ∧ d.st = .m ∧ d.data = lineSet c.data (pa % 64) (2 ^ size) data.toNat)
  ∧ (∀ (s u : State) (h pa size : Nat) (va data : Word), s.ready h = true → size ≤ 3 → inLine va (2 ^ size) = true →
    s.trigFor h .store va.toNat (2 ^ size) (some (data.toNat % 2 ^ (8 * 2 ^ size))) = none →
    s.locate h .store va (2 ^ size) false = .inr (u, pa, .ordinary) → ((u.hart h).lineSt (pa / 64) = .i ∨ (u.hart h).lineSt (pa / 64) = .s) →
    u.unhindered h (pa / 64) →
    ∃ t, exec (.retiringStore h ⟨va, .none⟩ size data) s = .next t ∧ u.changesOnly [.harts, .net, .fabric] t ∧ (t.hart h).x = (u.hart h).x
      ∧ t.inFlight (if (u.hart h).lineSt (pa / 64) = .s then .upg else .rdu) (u.homeNode (pa / 64)) (pa / 64)))

/-- R172, R185: a near AMO on a line held in M or E returns the old value and leaves the new one in the copy; a far one goes to the line's home as AmoF. R178: an LR on a line held in M or E returns its value, reserves the line and defers snoops for 64 NoC cycles; an SC succeeds while its line is reserved, and otherwise writes 1 and stores nothing; either way the reservation ends; when the 64 cycles are over a deferred snoop is answered. Where the spec leaves it open this is the model's choice: log 39, 43 and 91. -/
def Obligations.Atomics_and_reservations : Prop :=
  ((∀ (s u : State) (h k pa : Nat) (o : AmoOp) (c : CLine) (b : Bool), s.ready h = true → (o.size = 2 ∨ o.size = 3) →
    o.va.toNat % 2 ^ o.size = 0 → s.trigFor h .load o.va.toNat (2 ^ o.size) none = none → s.trigFor h .store o.va.toNat (2 ^ o.size) none = none →
    s.locate h .store o.va (2 ^ o.size) false = .inr (u, pa, .ordinary) → s.physCheck h .load pa (2 ^ o.size) = .ok b →
    (u.hart h).paired = false → (u.hart h).ncBusy (pa / 64) = false → u.farAmo o pa = false → findLine (u.hart h).l1d (pa / 64) = some (k, c) →
    k / 8 = l1dSet o.va.toNat → (c.st = .m ∨ c.st = .e) → c.poison = 0 →
    ∃ t, exec (.amo h ⟨o, .none⟩) s = .next t ∧ u.changesOnly [.harts] t
      ∧ (t.hart h).getX o.rd = (if o.rd = 0 then 0 else extendTo64 o.size (copyGet c pa (2 ^ o.size)) true)
      ∧ ∃ d, findLine (t.hart h).l1d (pa / 64) = some (k, d) ∧ d.st = .m
        ∧ d.data = lineSet c.data (pa % 64) (2 ^ o.size) (amoResult o.op (2 ^ o.size) (copyGet c pa (2 ^ o.size))
            (o.data.toNat % 2 ^ (8 * 2 ^ o.size)) (o.cmp.toNat % 2 ^ (8 * 2 ^ o.size))))
  ∧ (∀ (s u : State) (h pa : Nat) (o : AmoOp) (b : Bool), s.ready h = true → (o.size = 2 ∨ o.size = 3) → o.va.toNat % 2 ^ o.size = 0 →
    s.trigFor h .load o.va.toNat (2 ^ o.size) none = none → s.trigFor h .store o.va.toNat (2 ^ o.size) none = none →
    s.locate h .store o.va (2 ^ o.size) false = .inr (u, pa, .ordinary) → s.physCheck h .load pa (2 ^ o.size) = .ok b →
    u.farAmo o pa = true → u.unhindered h (pa / 64) → ∃ t, exec (.amo h ⟨o, .none⟩) s = .next t ∧ t.inFlight .amof (u.homeNode (pa / 64)) (pa / 64) ∧ (t.hart h).x = (u.hart h).x
      ∧ (t.hart h).l1d = (u.hart h).l1d))
  ∧ ((∀ (s u : State) (h k pa rd size : Nat) (va : Word) (c : CLine), s.ready h = true → (size = 2 ∨ size = 3) → va.toNat % 2 ^ size = 0 →
    s.trigFor h .load va.toNat (2 ^ size) none = none → s.locate h .load va (2 ^ size) false = .inr (u, pa, .ordinary) →
    (u.hart h).ncBusy (pa / 64) = false → findLine (u.hart h).l1d (pa / 64) = some (k, c) →
    k / 8 = l1dSet va.toNat → (c.st = .m ∨ c.st = .e) → c.poison = 0 →
    ∃ t, exec (.lr h rd ⟨va, .none⟩ size) s = .next t ∧ u.changesOnly [.harts] t ∧ (t.hart h).reserve = some (pa / 64)
      ∧ (t.hart h).deferTo = some (u.time.cycle + 64)
      ∧ (t.hart h).getX rd = (if rd = 0 then 0 else extendTo64 size (copyGet c pa (2 ^ size)) true))
  ∧ (∀ (s u : State) (h k pa rd size : Nat) (va data : Word) (c : CLine), s.ready h = true → (size = 2 ∨ size = 3) → va.toNat % 2 ^ size = 0 →
    s.trigFor h .store va.toNat (2 ^ size) (some (data.toNat % 2 ^ (8 * 2 ^ size))) = none →
    s.locate h .store va (2 ^ size) false = .inr (u, pa, .ordinary) → (u.hart h).paired = false → findLine (u.hart h).l1d (pa / 64) = some (k, c) →
    k / 8 = l1dSet va.toNat → (c.st = .m ∨ c.st = .e) → c.poison = 0 → (u.hart h).reserve = some (pa / 64) → (u.hart h).snoopWait = [] →
    ∃ t, exec (.sc h rd ⟨va, .none⟩ size data) s = .next t ∧ u.changesOnly [.harts] t ∧ (t.hart h).reserve = none ∧ (t.hart h).getX rd = 0
      ∧ ∃ d, findLine (t.hart h).l1d (pa / 64) = some (k, d) ∧ d.data = lineSet c.data (pa % 64) (2 ^ size) data.toNat)
  ∧ (∀ (s u : State) (h pa rd size : Nat) (va data : Word), s.ready h = true → (size = 2 ∨ size = 3) → va.toNat % 2 ^ size = 0 →
    s.trigFor h .store va.toNat (2 ^ size) (some (data.toNat % 2 ^ (8 * 2 ^ size))) = none →
    s.locate h .store va (2 ^ size) false = .inr (u, pa, .ordinary) → (u.hart h).paired = false → (u.hart h).reserve ≠ some (pa / 64) → (u.hart h).snoopWait = [] →
    ∃ t, exec (.sc h rd ⟨va, .none⟩ size data) s = .next t ∧ u.changesOnly [.harts] t ∧ (t.hart h).reserve = none
      ∧ (t.hart h).getX rd = (if rd = 0 then 0 else 1) ∧ (t.hart h).l1d = (u.hart h).l1d)
  ∧ (∀ (s : State) (h n : Nat) (m : CohMsg), (s.hart h).deferTo = some n → n ≤ s.time.cycle → (s.hart h).snoopWait = [m] →
    (s.hart h).holds = [] → ∃ t, exec (.lrSnoopDeferExpiry h) s = .next t
      ∧ ∃ r ∈ t.net.coh, r.dst = m.src ∧ r.src = m.dst ∧ r.tag = m.tag ∧ r.addr = m.addr))

/-- R160: in M-mode, cbo.clean queues a block's dirty data for memory and leaves no core with it in M; cbo.flush does so and leaves no copy in any core; cbo.inval drops the copies unwritten; cbo.zero leaves a line held in M or E with zeros. R98, R101, R160: a Zicbop prefetch never faults, and asks for a line of ordinary memory that the core does not hold; a hardware prefetch stays in the page of its trigger, is speculative, and is not made with PF_OFF. R111, R151, R152: lz.lock of a line that the L2 holds, where the core has no locked way yet, locks its way and returns LOCKED (0); lz.unlock of a locked line unlocks it and returns UNLOCKED (0). Where the spec leaves it open this is the model's choice: log 40. -/
def Obligations.Cache_instructions : Prop :=
  ((∀ (s u : State) (h l : Nat) (va : Word) (v : Line × Poison), s.ready h = true → (s.hart h).mode = .m →
    s.locateBlock h va = .inr (u, l, .ordinary) → u.blockBusy h l = false → (u.hart h).paired = false → u.portHolders l true = [] →
    u.portHolders l false = [] → (u.spend h).dirtyBlock l = some v → u.retired (64 * l) = false →
    (∃ t, exec (.cboClean h va) s = .next t ∧ t.mem.wpq = u.mem.wpq ++ [{ line := l, data := v.1, poison := v.2 }]
      ∧ (∀ k, (t.hart k).lineSt l ≠ .m) ∧ u.changesOnly [.harts, .slices, .mem] t)
    ∧ (∃ t, exec (.cboFlush h va) s = .next t ∧ t.mem.wpq = u.mem.wpq ++ [{ line := l, data := v.1, poison := v.2 }]
      ∧ (∀ k, (t.hart k).lineSt l = .i) ∧ l3Find (t.slice (u.homeOf (64 * l))) l = none ∧ u.changesOnly [.harts, .slices, .mem] t)
    ∧ (∃ t, exec (.cboInval h va) s = .next t ∧ (∀ k, (t.hart k).lineSt l = .i) ∧ u.changesOnly [.harts, .slices] t))
  ∧ (∀ (s u : State) (h k pa : Nat) (va : Word) (c : CLine), s.ready h = true → (s.hart h).mode = .m →
    s.trigFor h .store (word (va.toNat / 64 * 64)).toNat 64 none = none →
    s.locate h .store (word (va.toNat / 64 * 64)) 64 false = .inr (u, pa, .ordinary) → (u.hart h).paired = false →
    (u.hart h).ncBusy (pa / 64) = false → findLine (u.hart h).l1d (pa / 64) = some (k, c) →
    k / 8 = l1dSet (word (va.toNat / 64 * 64)).toNat → (c.st = .m ∨ c.st = .e) →
    ∃ t, exec (.cboZero h va) s = .next t ∧ u.changesOnly [.harts] t
      ∧ ∃ d, findLine (t.hart h).l1d (pa / 64) = some (k, d) ∧ d.st = .m ∧ d.data = 0 ∧ d.poison = 0))
  ∧ ((∀ (s : State) (h : Nat) (k : PrefetchKind) (va : Word), s.ready h = true → ∃ t, exec (.zicbopPrefetch h k va) s = .next t
    ∧ (t.hart h).pc = (s.hart h).pc ∧ (t.hart h).mode = (s.hart h).mode ∧ (t.hart h).x = (s.hart h).x ∧ (t.hart h).getCsr 0x342 = (s.hart h).getCsr 0x342)
  ∧ (∀ (s : State) (h pa pb : Nat) (va : Word), s.ready h = true → (s.hart h).untranslated .load = true → s.translate h .load va = .ok pa pb →
    s.physCheck h .load (pa / 64 * 64) 64 = .ok true → pb = 0 → (s.hart h).lineSt (pa / 64) = .i → s.unhindered h (pa / 64) →
    ∃ t, exec (.zicbopPrefetch h .r va) s = .next t ∧ t.inFlight .rds (s.homeNode (pa / 64)) (pa / 64))
  ∧ (∀ (s : State) (h pa pb : Nat) (trigger va : Word), s.hartLive h = true → (s.hart h).lzspec.getLsbD 2 = false → (s.hart h).prefetchDeg ≠ 0 →
    va.toNat / 4096 = trigger.toNat / 4096 → s.translate h .load trigger = .ok pa pb → s.physCheck h .load (pa / 4096 * 4096) 4096 = .ok true →
    pb = 0 → (s.hart h).lineSt ((pa / 4096 * 4096 + va.toNat % 4096) / 64) = .i → (s.hart h).misses = [] → (s.hart h).wbs = [] →
    ∃ t, exec (.hardwarePrefetch h trigger va) s = .next t ∧ (t.hart h).x = (s.hart h).x
      ∧ ∃ m ∈ t.net.coh, m.opc = .rds ∧ m.spec = true ∧ m.addr = (pa / 4096 * 4096 + va.toNat % 4096) / 64)
  ∧ (∀ (s : State) (h : Nat) (trigger va : Word), s.hartLive h = true → (s.hart h).lzspec.getLsbD 2 = true →
    exec (.hardwarePrefetch h trigger va) s = .next s))
  ∧ ((∀ (s u : State) (h k pa rd rs1 : Nat) (c : CLine), s.ready h = true → s.locate h .load ((s.hart h).getX rs1) 1 false = .inr (u, pa, .ordinary) →
    (u.hart h).paired = false → findLine (u.hart h).l2 (pa / 64) = some (k, c) → (∀ e ∈ (u.hart h).l2, e.2.locked = false) →
    (∀ i, i < 4 → (u.hart h).l2Secure.getLsbD i = u.bind.lineSecure (64 * (pa / 64))) →
    ∃ t, exec (.lzLock h rd rs1) s = .next t ∧ (t.hart h).getX rd = 0
      ∧ Tab.find (t.hart h).l2 k = some { c with locked := true, unconf := false } ∧ (t.hart h).lastPc = (u.hart h).pc)
  ∧ (∀ (s u : State) (h k pa rd rs1 : Nat) (c : CLine), s.ready h = true → s.locate h .load ((s.hart h).getX rs1) 1 false = .inr (u, pa, .ordinary) →
    (u.hart h).paired = false →
    (u.hart h).l2.find? (fun e => e.2.line == pa / 64 && e.2.locked) = some (k, c) → c.st.valid = true →
    ∃ t, exec (.lzUnlock h rd rs1) s = .next t ∧ (t.hart h).getX rd = 0 ∧ Tab.find (t.hart h).l2 k = some { c with locked := false }
      ∧ u.changesOnly [.harts] t))

/-- R179, R199: a RdS, RdU, Upg or AmoF that its home does not refuse waits there with the cycle of its arrival; one with the wrong world tag is answered UNSUPPORTED; one that no path leads to its home stays on its way. R186, R188: a RdNC, WrNC or AMO swap on a device reaches its port's queue, the write answered at once. R180, R431: a RdS for a line that no one holds is granted E with the L3's data, its requester becoming the owner; where the L3 has no copy, the home reads memory. Where the spec leaves it open this is the model's choice: log 44 and 91. -/
def Obligations.Home_requests : Prop :=
  ((∀ p ∈ ([(Instr.rds, fun m => { m with opc := .rds }), (.rdu, fun m => { m with opc := .rdu }), (.upg, fun m => { m with opc := .upg }),
      (.amof, fun m => { m with opc := .amof, hasData := true })] : List ((Met CohMsg → Instr) × (CohMsg → CohMsg))),
    ∀ (s : State) (m : CohMsg), (s.comes m = false → exec (p.1 ⟨m, .none⟩) s = .next s) ∧
    ∀ (n : Nat), s.comes m = true → sliceAt m.dst = some n → s.heldAt 48 (s.bind.baseHome (64 * m.addr)) = none →
    (s.slice n).waiting = [] → (s.slice n).active = [] → (s.slice (s.homeOf (64 * m.addr))).waiting = [] →
    (s.slice (s.homeOf (64 * m.addr))).active = [] →
    (s.requestRefused m = false → ∃ t, exec (p.1 ⟨m, .none⟩) s = .next t ∧ s.changesOnly [.slices, .net] t
      ∧ (t.slice (s.homeOf (64 * m.addr))).waiting = [{ msg := p.2 m, arrived := s.time.cycle }])
    ∧ (isClusterNode m.src = true → s.bind.lineSecure (64 * m.addr) ≠ m.secure → ∃ t, exec (p.1 ⟨m, .none⟩) s = .next t
      ∧ t.answered .dat m ∧ s.changesOnly [.net, .fabric] t))
  ∧ (∀ (s : State) (m : CohMsg) (g : Nat), s.comes m = true → sliceAt m.dst = none → pcieAt m.dst = some g → s.portShut g = false →
    (s.ioFirst { m with opc := .rdnc } = true → ∃ t, exec (.rdnc ⟨m, .none⟩) s = .next t ∧ t.net.io = s.net.io ++ [{ m with opc := .rdnc }]
      ∧ s.changesOnly [.net] t)
    ∧ (s.ioFirst { m with opc := .wrnc, hasData := true } = true → ∃ t, exec (.wrnc ⟨m, .none⟩) s = .next t
      ∧ t.net.io = s.net.io ++ [{ m with opc := .wrnc, hasData := true }]
      ∧ t.answered .cmp m ∧ s.changesOnly [.net] t)
    ∧ (s.ioFirst { m with opc := .amom, hasData := true } = true → amoOfCode (bitsOf m.misc 0 4) = .swap → ∃ t, exec (.amom ⟨m, .none⟩) s = .next t
      ∧ t.net.io = s.net.io ++ [{ m with opc := .amom, hasData := true }] ∧ s.changesOnly [.net] t)))
  ∧ ((∀ (s : State) (n l : Nat) (w : Waiting) (e : Nat × L3Line), (s.slice n).waiting = [w] → (s.slice n).active = [] → w.msg.addr = l →
    w.msg.opc = .rds → w.arrived < s.time.cycle → s.halting = false → (s.slice n).dirFind l = none → (s.freeDir n w.msg.qid l).isSome = true →
    l3Find (s.slice n) l = some e → ∃ t, exec (.transactionStart n l .none) s = .next t ∧ (t.slice n).waiting = []
      ∧ (∃ r ∈ t.net.coh, r.opc = .dat ∧ r.dst = w.msg.src ∧ r.core = w.msg.core ∧ r.tag = w.msg.tag ∧ r.state = 2 ∧ r.data = e.2.data)
      ∧ (∃ d, (t.slice n).dirFind l = some d ∧ d.2.owner = some (w.msg.src, w.msg.core)) ∧ s.changesOnly [.slices, .net, .fabric] t)
  ∧ (∀ (s : State) (n l : Nat) (w : Waiting), (s.slice n).waiting = [w] → (s.slice n).active = [] → w.msg.addr = l →
    w.msg.opc = .rds → w.arrived < s.time.cycle → s.halting = false → (s.slice n).dirFind l = none → (s.freeDir n w.msg.qid l).isSome = true →
    l3Find (s.slice n) l = none → (s.mem.reads.filter (fun r => r.slice == n)).length < 88 → ∃ t, exec (.transactionStart n l .none) s = .next t
      ∧ t.mem.reads = s.mem.reads ++ [{ line := l, slice := n }] ∧ t.net = s.net))

/-- R182: a WbD updates the L3's copy and is answered with Cmp; an Evc frees its sender's owner entry and is answered with Cmp. R170, R177, R178: a snoop that nothing holds up is answered by its cluster, an invalidating one leaving no copy in the cores it reaches; a snoop waits where a hold window keeps its line, and the window's end answers it. Where the spec leaves it open this is the model's choice: log 42. -/
def Obligations.Holders_and_snoops : Prop :=
  ((∀ (s : State) (m : CohMsg) (n k : Nat) (e : L3Line), s.comes m = true → sliceAt m.dst = some n → s.homeOf (64 * m.addr) = n → (s.slice n).rspx = [] →
    (s.slice n).active = [] → s.net.coh = [] → s.bind.persists (64 * m.addr) = false → s.retired (64 * m.addr) = false →
    l3Find (s.slice n) m.addr = some (k, e) → ∃ t, exec (.wbd ⟨m, .none⟩) s = .next t ∧ t.answered .cmp m ∧ s.changesOnly [.slices, .net, .fabric] t
      ∧ Tab.find (t.slice n).lines k = some { e with data := m.data, poison := m.poison, dirty := true })
  ∧ (∀ (s : State) (m : CohMsg) (n k : Nat) (e : DirEnt), s.comes m = true → sliceAt m.dst = some n → s.homeOf (64 * m.addr) = n → (s.slice n).rspx = [] →
    (s.slice n).active = [] → s.net.coh = [] → (s.slice n).dirFind m.addr = some (k, e) → e.owner = some (m.src, m.core) →
    ∃ t, exec (.evc ⟨m, .none⟩) s = .next t ∧ t.answered .cmp m ∧ (t.slice n).dir = Tab.del (s.slice n).dir k
      ∧ (t.slice n).lines = (s.slice n).lines ∧ s.changesOnly [.slices, .net, .fabric] t))
  ∧ ((∀ p ∈ ([(Instr.snps, Opc.snps), (.snpi, .snpi), (.snpbi, .snpbi)] : List ((CohMsg → Upset → Instr) × Opc)), ∀ (s : State) (m : CohMsg),
    s.comes m = true → isClusterNode m.dst = true →
    ((∀ c, c < 8 → (s.hart (hartAt m.dst 0 + c)).snoopHeld m.addr s.time.cycle = false) → ∃ t, exec (p.1 m .none) s = .next t
      ∧ (∃ r ∈ t.net.coh, r.dst = m.src ∧ r.src = m.dst ∧ r.tag = m.tag ∧ r.addr = m.addr) ∧ s.changesOnly [.harts, .net] t
      ∧ (p.2 ≠ .snps → m.except = false → ∀ c, c < 8 → (s.hart (hartAt m.dst 0 + c)).run ≠ .fenced →
        (s.hart (hartAt m.dst 0 + c)).wbs = [] → (t.hart (hartAt m.dst 0 + c)).lineSt m.addr = .i))
    ∧ (m.except = false → (s.hart (hartAt m.dst 0)).snoopHeld m.addr s.time.cycle = true → ∃ t, exec (p.1 m .none) s = .next t
      ∧ (t.hart (hartAt m.dst 0)).snoopWait = (s.hart (hartAt m.dst 0)).snoopWait ++ [{ m with opc := p.2 }]
      ∧ t.net.coh = s.net.coh.erase { m with opc := p.2 }))
  ∧ (∀ (s : State) (h l fin : Nat) (m : CohMsg), (s.hart h).holds = [{ line := l, fin := fin }] → fin ≤ s.time.cycle →
    (s.hart h).reserve = none → (s.hart h).snoopWait = [m] → ∃ t, exec (.holdWindowEnd h l) s = .next t
      ∧ ∃ r ∈ t.net.coh, r.dst = m.src ∧ r.src = m.dst ∧ r.tag = m.tag ∧ r.addr = m.addr))

/-- R180: the answer to one of two snoops is taken by its transaction, which goes on waiting for the other; with the last RspI of a RdU the requester is granted M. R175, R179: a Dat that grants a line to a waiting load fills it, sends CmpAck and gives the load its value; a Cmp frees a write-back buffer, or completes an Upg with CmpAck; the CmpAck closes the home's transaction. R196, R333, R335: an overdue snoop is logged and its answer counted as given; a retiring load whose request expires takes an access fault; a transaction without its CmpAck closes; each is logged. Where the spec leaves it open this is the model's choice: log 73 and 91. -/
def Obligations.Answers_and_timeouts : Prop :=
  ((∀ p ∈ ([(Instr.rspi, Opc.rspi), (.rsps, .rsps), (.rspx, .rspx)] : List ((Met CohMsg → Instr) × Opc)),
    ∀ (s : State) (m : CohMsg) (n : Nat) (x : Txn) (o a : SnoopOut), s.comes m = true → sliceAt m.dst = some n → (s.slice n).ignore = [] →
    (s.slice n).active = [x] → x.req.addr = m.addr → x.snoops = [o, a] → o.node = m.src → o.tag = m.tag → a ≠ o → m.hasData = false →
    ∃ t, exec (p.1 ⟨m, .none⟩) s = .next t ∧ s.changesOnly [.slices, .net] t
      ∧ (t.slice n).active = [{ x with snoops := [a], have_ := x.have_ || m.status % 2 == 1, keepS := x.keepS || decide (p.2 = .rsps) }])
  ∧ (∀ (s : State) (m : CohMsg) (n : Nat) (x : Txn) (o a : SnoopOut), s.comes m = true → sliceAt m.dst = some n → (s.slice n).ignore = [] →
    (s.slice n).active = [x] → x.req.addr = m.addr → x.req.opc = .rdu → x.evict = false → x.snoops = [o, a] → o.node = m.src →
    o.tag = m.tag → a ≠ o → m.hasData = true → ∃ t, exec (.rspd ⟨m, .none⟩) s = .next t ∧ s.changesOnly [.slices, .net] t
      ∧ (t.slice n).active = [{ x with snoops := [a], have_ := x.have_ || m.status % 2 == 1, keepS := true, data := some (m.data, m.poison) }])
  ∧ (∀ (s : State) (m : CohMsg) (n : Nat) (x : Txn) (o : SnoopOut) (e : Nat × L3Line), s.comes m = true → sliceAt m.dst = some n → (s.slice n).ignore = [] →
    (s.slice n).active = [x] → x.req.addr = m.addr → x.req.opc = .rdu → x.evict = false → x.granted = false → x.waitMem = false →
    x.waitEvict = none → x.data = none → x.snoops = [o] → o.node = m.src → o.tag = m.tag → m.hasData = false → l3Find (s.slice n) m.addr = some e →
    ∃ t, exec (.rspi ⟨m, .none⟩) s = .next t ∧ ∃ r ∈ t.net.coh, r.opc = .dat ∧ r.dst = x.req.src ∧ r.tag = x.req.tag ∧ r.state = 3 ∧ r.data = e.2.data))
  ∧ ((∀ (s : State) (m : CohMsg) (ms : Miss) (o : LoadOp) (pa : Nat), s.comes m = true → isClusterNode m.dst = true →
    s.fillWaits { m with opc := .dat, hasData := true } = false → ms.dropped = false →
    (s.hart (hartAt m.dst m.core)).misses = [ms] → ms.tag = m.tag → ms.spec = false → ms.fetch = false → ms.expired = false →
    ms.waiters = [.load o pa] → o.fetch = false → o.rd ≠ 0 → pa / 64 = m.addr → m.status = 0 → 0 < m.state → m.poison = 0 →
    (s.hart (hartAt m.dst m.core)).snoopWait = [] → ∃ t, exec (.dat m .none) s = .next t
      ∧ (t.hart (hartAt m.dst m.core)).getX o.rd = extendTo64 o.size (lineGet m.data (pa % 64) (2 ^ o.size)) o.signed
      ∧ (∃ r ∈ t.net.coh, r.opc = .cmpack ∧ r.dst = m.src ∧ r.tag = m.tag) ∧ (t.hart (hartAt m.dst m.core)).misses = [])
  ∧ (∀ (s : State) (m : CohMsg), s.comes m = true → isClusterNode m.dst = true → (s.hart (hartAt m.dst m.core)).wbs.any (fun w => w.tag == m.tag) = true →
    ∃ t, exec (.cmp ⟨m, .none⟩) s = .next t
      ∧ (t.hart (hartAt m.dst m.core)).wbs = (s.hart (hartAt m.dst m.core)).wbs.filter (fun w => w.tag != m.tag))
  ∧ (∀ (s : State) (m : CohMsg) (ms : Miss), s.comes m = true → isClusterNode m.dst = true → (s.hart (hartAt m.dst m.core)).wbs = [] →
    (s.hart (hartAt m.dst m.core)).oldTags = [] →
    (s.hart (hartAt m.dst m.core)).misses = [ms] → ms.tag = m.tag → m.status = 0 → m.state = 3 → ∃ t, exec (.cmp ⟨m, .none⟩) s = .next t
      ∧ ∃ r ∈ t.net.coh, r.opc = .cmpack ∧ r.dst = m.src ∧ r.tag = m.tag)
  ∧ (∀ (s : State) (m : CohMsg) (n : Nat) (x : Txn), s.comes m = true → sliceAt m.dst = some n → (s.slice n).active = [x] → x.granted = true → x.req.src = m.src →
    x.req.core = m.core → x.req.tag = m.tag → ∃ t, exec (.cmpack ⟨m, .none⟩) s = .next t ∧ (t.slice n).active = [] ∧ s.changesOnly [.slices, .net] t))
  ∧ ((∀ (s : State) (n l node core : Nat) (x : Txn) (o : SnoopOut), (s.slice n).txn l = some x → x.snoops = [o] → o.node = node → o.core = core →
    o.issued + 8192 + o.held ≤ s.time.cycle →
    ∃ t, exec (.snoopTimeout n l node core) s = .next t ∧ t.carries Syn.snoopTimeout = true)
  ∧ (∀ (s : State) (h pa : Nat) (m : Miss) (o : LoadOp), s.hartLive h = true → (s.hart h).mode = .m → (s.hart h).virt = false →
    (s.hart h).misses = [m] → m.expired = false → m.spec = false → m.waiters = [.load o pa] → o.fetch = false →
    m.sent + s.bind.timeoutNs m.cls ≤ s.time.now → ∃ t, exec (.completionTimeout (.hart h) m.tag) s = .next t
      ∧ t.carries (if (sliceAt m.dst).isSome then Syn.cohTimeout else Syn.reqTimeout) = true ∧ (t.hart h).getCsr 0x342 = 5
      ∧ (t.hart h).getCsr 0x343 = o.va)
  ∧ (∀ (s : State) (n l : Nat) (x : Txn), (s.slice n).txn l = some x → x.granted = true →
    x.grantAt + 2 * s.bind.timeoutNs x.req.cls ≤ s.time.cycle → ∃ t, exec (.ackTimeout n l) s = .next t ∧ (t.slice n).txn l = none
      ∧ t.carries Syn.ackTimeout = true))

/-! ### Mailboxes, caches, fences, records -/

/-- R106, R108, R215: lz.mbsend with status SENT puts its buffer into the outbox, and a Class U message leaves at once; another status sends nothing; a G message that was ready before the cycle leaves in a source slot of its stream; the destination accepts, or refuses with its inbox full; the answer frees the outbox entry, keeps it for the next frame boundary, or discards it; a message is sent again, or discarded once TO_U_US has passed. R107, R109: a Class U message enters an inbox that has an entry free beside those reserved for streams and is answered ACCEPT; otherwise it is answered REFUSE and changes no hart; lz.mbrecv stores the oldest entry's 64 bytes, takes it and returns 1, or returns 0 with the inbox empty. Where the spec leaves it open this is the model's choice: log 47 and 91. -/
def Obligations.Mailboxes : Prop :=
  ((∀ (s u : State) (h rd rs1 pa k : Nat) (va : Word) (c : CLine), s.ready h = true → (s.hart h).getX rs1 = va →
    s.trigFor h .load va.toNat 64 none = none → s.bufferAt h .load va = .inr (u, pa, .ordinary) → (u.hart h).paired = false →
    (u.hart h).ncBusy (pa / 64) = false → findLine (u.hart h).l1d (pa / 64) = some (k, c) → k / 8 = l1dSet va.toNat → c.poison = 0 →
    (u.sendStatus h (lineBytes c.data) = 0 → numAt (lineBytes c.data) 2 2 = 0xFFFF → (u.hart h).outbox = [] →
      ∃ t, exec (.lzMbsend h rd rs1) s = .next t ∧ (t.hart h).getX rd = 0 ∧ (t.hart h).outbox.length = 1
        ∧ ∃ m ∈ t.net.mail, m.srcHart = h ∧ m.dstNode = hartNode (numAt (lineBytes c.data) 0 2)
          ∧ m.payload = BitVec.ofNat 384 (ofLE (bytesAt (lineBytes c.data) 16 48)))
    ∧ (u.sendStatus h (lineBytes c.data) ≠ 0 → ∃ t, exec (.lzMbsend h rd rs1) s = .next t
        ∧ (t.hart h).getX rd = (if rd = 0 then 0 else word (u.sendStatus h (lineBytes c.data))) ∧ (t.hart h).outbox = (u.hart h).outbox
        ∧ u.changesOnly [.harts] t))
  ∧ (∀ (s : State) (n : Nat) (e : OutboxEnt), (s.stream n).st = .active → s.inSlot n = true → e.stamp < s.time.cycle → isClusterNode (s.stream n).desc.srcNode = true →
    (s.hart (hartAt (s.stream n).desc.srcNode (s.stream n).desc.srcCore)).outbox = [e] → e.stream = n → e.st = .ready →
    ∃ t, exec (.gMessageSend n) s = .next t ∧ (t.hart (hartAt (s.stream n).desc.srcNode (s.stream n).desc.srcCore)).outbox = []
      ∧ t.net.mail = s.net.mail ++ [s.mailMsg (hartAt (s.stream n).desc.srcNode (s.stream n).desc.srcCore) e])
  ∧ (∀ (s : State) (m : MailAns) (e : OutboxEnt), s.reach m.srcNode m.dstNode 1 none = true → (s.hart (hartAt m.dstNode m.dstCore)).outbox = [e] → e.st = .sent →
    s.outTo (hartAt m.dstNode m.dstCore) m.destHart = some (0, e) → ∃ t, exec (.mailboxAnswer ⟨m, .none⟩) s = .next t
      ∧ (m.answer = .accept → (t.hart (hartAt m.dstNode m.dstCore)).outbox = [] ∧ s.changesOnly [.harts, .net] t)
      ∧ (m.answer = .final → (t.hart (hartAt m.dstNode m.dstCore)).outbox = [] ∧ t.carries Syn.mbUndelivered = true)
      ∧ (m.answer = .refuse → s.outExpired e = false →
          (t.hart (hartAt m.dstNode m.dstCore)).outbox = [{ e with st := .refused, stamp := s.time.frame }]))
  ∧ (∀ (s : State) (h dest i : Nat) (e : OutboxEnt), s.outTo h dest = some (i, e) → e.st = .refused → s.outExpired e = false →
    e.stamp < s.time.frame → ∃ t, exec (.mailboxResend h dest) s = .next t ∧ t.net.mail = s.net.mail ++ [s.mailMsg h e])
  ∧ (∀ (s : State) (h dest : Nat) (e : OutboxEnt), (s.hart h).outbox = [e] → s.outTo h dest = some (0, e) → e.st = .refused →
    s.outExpired e = true → ∃ t, exec (.mailboxUTimeout h dest) s = .next t ∧ (t.hart h).outbox = []
      ∧ (t.hart h).undelivered = satAdd 0xFFFF (s.hart h).undelivered 1 ∧ t.carries Syn.mbUndelivered = true))
  ∧ ((∀ (s : State) (m : MailMsg), s.reach m.srcNode m.dstNode 1 none = true → slAt m.dstNode = none → isClusterNode m.dstNode = true → m.stream = 0xFFFF →
    s.isFenced (UnitId.of 0x02 (hartCluster (hartAt m.dstNode m.dstCore))) = false → s.isFenced (coreUnit (hartAt m.dstNode m.dstCore)) = false →
    (s.hart (hartAt m.dstNode m.dstCore)).run ≠ .fenced → ∃ t, exec (.mailboxMessage m .none) s = .next t
      ∧ (if ((s.hart (hartAt m.dstNode m.dstCore)).inbox.filter (fun e => !e.g)).length + s.reservedAt m.dstNode m.dstCore < 16 then
          (∃ e, (t.hart (hartAt m.dstNode m.dstCore)).inbox = (s.hart (hartAt m.dstNode m.dstCore)).inbox ++ [e] ∧ e.payload = m.payload
            ∧ e.srcHart = m.srcHart ∧ e.g = false ∧ e.secure = m.secure)
          ∧ t.net.ans = s.net.ans ++ [
            { dstNode := m.srcNode, dstCore := m.srcCore, srcNode := m.dstNode, srcCore := m.dstCore,
              destHart := hartAt m.dstNode m.dstCore, answer := .accept }]
        else t.harts = s.harts
          ∧ t.net.ans = s.net.ans ++ [
            { dstNode := m.srcNode, dstCore := m.srcCore, srcNode := m.dstNode, srcCore := m.dstCore,
              destHart := hartAt m.dstNode m.dstCore, answer := .refuse }]))
  ∧ (∀ (s : State) (h rd rs1 : Nat), s.ready h = true → (s.hart h).inbox = [] → ∃ t, exec (.lzMbrecv h rd rs1) s = .next t
    ∧ (t.hart h).getX rd = 0 ∧ s.changesOnly [.harts] t)
  ∧ (∀ (s u : State) (h rd rs1 pa k : Nat) (va : Word) (c : CLine) (e : InboxEnt) (rest : List InboxEnt), s.ready h = true →
    (s.hart h).inbox = e :: rest → (s.hart h).getX rs1 = va → s.trigFor h .store va.toNat 64 (some (lineOf e.bytes).toNat) = none →
    s.bufferAt h .store va = .inr (u, pa, .ordinary) → (u.hart h).paired = false → (u.hart h).ncBusy (pa / 64) = false →
    findLine (u.hart h).l1d (pa / 64) = some (k, c) → k / 8 = l1dSet va.toNat → (c.st = .m ∨ c.st = .e) →
    ∃ t, exec (.lzMbrecv h rd rs1) s = .next t ∧ (t.hart h).getX rd = (if rd = 0 then 0 else 1)
      ∧ (t.hart h).inbox = (u.hart h).inbox.drop 1 ∧ u.changesOnly [.harts] t
      ∧ ∃ d, findLine (t.hart h).l1d (pa / 64) = some (k, d) ∧ d.st = .m ∧ d.data = lineOf e.bytes))

/-- R113, R115: the first copy of a pair's request waits, an equal second copy makes it ready, a different one or 2,048 cycles alone stop the pair; a ready request is released once: a store of up to 8 bytes into the line that the pair holds in M, L2 included, any other for the command that makes it. Where the spec leaves it open this is the model's choice: log 77 and 93. -/
def Obligations.Checked_pairs : Prop :=
  (∀ (s : State) (h : Nat) (r : PairCopy), (s.hart h).paired = true → (s.hart h).run = .running → h % 2 = 0 → s.isFenced (coreUnit h) = false →
    (s.hart h).pairReady = none → (s.hart h).pairOdd = none →
    ((s.hart h).pairEven = none → ∃ t, exec (.pairRequest h false r) s = .next t ∧ (t.hart h).pairEven = some r
      ∧ (t.hart h).pairSince = s.time.cycle ∧ s.changesOnly [.harts] t)
    ∧ ((s.hart h).pairEven = some r → ∃ t, exec (.pairRequest h true r) s = .next t ∧ (t.hart h).pairReady = some (r, s.time.cycle)
      ∧ (t.hart h).pairEven = none ∧ s.changesOnly [.harts] t)
    ∧ (∀ o, o ≠ r → (s.hart h).pairEven = some o → ∃ t, exec (.pairRequest h true r) s = .next t ∧ t.carries Syn.pairDiverge = true
      ∧ t.isFenced (coreUnit h) = true))
  ∧ (∀ (s : State) (h n : Nat) (r : PairCopy), s.isFenced (coreUnit h) = false → (s.hart h).pairReady = some (r, n) →
    r.kind ≠ .store → ∃ t, exec (.pairRelease h) s = .next t ∧ (t.hart h).pairReady = none ∧ (t.hart h).pairGo = some r ∧ s.changesOnly [.harts] t)
  ∧ (∀ (s : State) (h n j k : Nat) (r : PairCopy) (a c : CLine), s.isFenced (coreUnit h) = false → (s.hart h).pairReady = some (r, n) →
    r.kind = .store → r.size < 4 → pairPlace r = .ordinary → (s.hart h).paired = true → (s.hart h).ncBusy (r.addr / 64) = false →
    findLine (s.hart h).l1d (r.addr / 64) = some (j, a) → j / 8 = l1dSet r.va.toNat → a.st = .m →
    findLine (s.hart h).l2 (r.addr / 64) = some (k, c) → ∃ t, exec (.pairRelease h) s = .next t
      ∧ (t.hart h).pairReady = none ∧ s.changesOnly [.harts] t
      ∧ ∃ d, findLine (t.hart h).l2 (r.addr / 64) = some (k, d) ∧ d.data = lineMerge c.data r.data r.enables)
  ∧ (∀ (s : State) (h : Nat) (r : PairCopy), (s.hart h).pairEven = some r → (s.hart h).pairSince + 2048 ≤ s.time.cycle →
    ∃ t, exec (.pairTimeout h) s = .next t ∧ (t.hart h).pairEven = none ∧ t.carries Syn.pairTimeout = true)

/-- R150, R153: the whole-cache operations of CACHE_CTL, by an M-mode hart of the core's Quire, leave BUSY set; CACHE_CTL_DONE clears it; L2_WAYCFG takes a Secure M-mode hart of a DUAL_WORLD Quire's value. R154, R158: in a slice where its Quire has a record and no flush runs, L3Q_LOCK and L3Q_FILL take the ways their masks allow, L3Q_CTL flushes or reseeds, and BUSY clears when the flush is done. Where the spec leaves it open this is the model's choice: log 72. -/
def Obligations.Cache_control : Prop :=
  ((∀ (s : State) (h core : Nat), core < hartCount → s.readySide h = true → s.mHartOf (.hart h) (s.hart core).qid = true → (s.hart core).cacheOp = 0 →
    (∃ t, exec (.flushL1d h core) s = .next t ∧ (t.hart core).cacheOp = 1 ∧ (t.hart core).l1d = [] ∧ (t.hart core).vc = []
      ∧ s.changesOnly [.harts, .net] t)
    ∧ (∃ t, exec (.flushL2 h core) s = .next t ∧ (t.hart core).cacheOp = 2 ∧ (t.hart core).l1d = []
      ∧ (∀ e ∈ (t.hart core).l2, e.2.locked = true) ∧ s.changesOnly [.harts, .net] t)
    ∧ (∃ t, exec (.flushAll h core) s = .next t ∧ (t.hart core).cacheOp = 3 ∧ (t.hart core).l1d = []
      ∧ (∀ e ∈ (t.hart core).l2, e.2.st = .i) ∧ s.changesOnly [.harts, .net] t)
    ∧ (∃ t, exec (.unlockAll h core) s = .next t ∧ (t.hart core).cacheOp = 4 ∧ (∀ e ∈ (t.hart core).l2, e.2.locked = false)
      ∧ (t.hart core).l1d = (s.hart core).l1d ∧ s.changesOnly [.harts, .net] t))
  ∧ (∀ (s : State) (core : Nat), core < hartCount →
    exec (.cacheCtlDone core) s = .next (s.modHart core (fun x => { x with cacheOp := 0 })))
  ∧ (∀ (s : State) (h core : Nat) (v : Word), core < hartCount → s.readySide h = true → s.waycfgAllowed (.hart h) core = true → v.toNat < 16 →
    ∃ t, exec (.l2WaycfgWrite h core v) s = .next t ∧ (t.hart core).l2Secure = BitVec.ofNat 4 v.toNat ∧ s.changesOnly [.harts, .net] t))
  ∧ ((∀ (s : State) (h n q : Nat) (v : Word), n < 48 → q < 256 → s.readySide h = true → s.mHartOf (.hart h) q = true → s.bind.hasSlice n q = true →
    ((s.slice n).quire q).busy = false →
    (∃ t, exec (.l3qLockWrite h n q v) s = .next t
      ∧ ((t.slice n).quire q).lockedWays = BitVec.ofNat 16 (fieldOf v 0 16) &&& ((s.slice n).quire q).lockMask)
    ∧ (∃ t, exec (.l3qFillWrite h n q v) s = .next t ∧ ((t.slice n).quire q).fillWays
        = BitVec.ofNat 16 (fieldOf v 0 16) &&& ((s.slice n).quire q).lockMask &&& ~~~((s.slice n).quire q).lockedWays)
    ∧ (∃ t, exec (.l3qFlush h n q) s = .next t ∧ ((t.slice n).quire q).busy = true
      ∧ ∀ e ∈ (t.slice n).lines, (((s.slice n).quire q).wayMask ||| ((s.slice n).quire q).govMask).getLsbD (e.1 % 16) = true → e.2.valid = false)
    ∧ (∃ t, exec (.l3qReseed h n q) s = .next t ∧ ((t.slice n).quire q).lfsr = some (s.bind.sliceSeed n q)
      ∧ (t.slice n).lines = (s.slice n).lines))
  ∧ (∀ (s : State) (n q : Nat), n < 48 → ((s.slice n).quire q).busy = true → ∃ t, exec (.l3qFlushDone n q) s = .next t
    ∧ ((t.slice n).quire q).busy = false ∧ s.changesOnly [.slices] t))

/-- R163, R346, R349, R350: a fenced core holds nothing and runs no more; a fenced slice's addresses move to their new home, and its directory is rebuilt there; a fenced CD's streams are demoted; a fenced BD's slices are out of service; a fence incomplete after 100 µs passes to the container. R355, R366: EC_RESET of a unit that its view may name runs, and BUSY is set; the unit leaves reset with RESULT 0, or stays fenced with RESULT 3; a Secure-held block that lost power is to be wiped, and its arrays are zeros before it leaves reset. Where the spec leaves it open this is the model's choice: log 53 and 54. -/
def Obligations.Fences_and_resets : Prop :=
  ((∀ (s : State) (h : Nat) (r : Bool), s.fuse.hartOk h = true → (s.hart (pairOf h)).paired = false → (s.hart h).run ≠ .fenced →
    ∃ t, exec (.coreFence h r) s = .next t ∧ (t.hart h).run = .fenced ∧ (t.hart h).l1d = [] ∧ (t.hart h).l2 = [] ∧ (t.hart h).locked = []
      ∧ (t.hart h).inbox = [] ∧ (t.hart h).outbox = [] ∧ (t.hart h).x = (s.hart h).x)
  ∧ (∀ (s : State) (n m : Nat), n < 48 → (s.slice n).rebuilding = false → (s.slice n).movedTo = none → s.newHome n = some m →
    ∃ t, exec (.l3SliceFence n true) s = .next t ∧ (t.slice n).movedTo = some m ∧ (t.slice n).rebuilding = true ∧ (t.slice n).lines = []
      ∧ (t.slice n).dir = [])
  ∧ (∀ (s : State) (n : Nat), n < 48 → (s.slice n).rebuilding = true → (s.slice n).stalled = [] → ∃ t, exec (.dirRebuild n) s = .next t
    ∧ (t.slice n).rebuilding = false ∧ t.carries Syn.dirRebuild = true)
  ∧ (∀ (s : State) (cd n : Nat) (r : Bool), cd < 12 → (s.stream n).st = .active → nodeDie (s.stream n).desc.srcNode = cd →
    ∃ t, exec (.cdRegionFence cd r) s = .next t ∧ (t.stream n).st = .demoted)
  ∧ (∀ (s : State) (bd : Nat) (r : Bool), bd < 4 → ∃ t, exec (.bdRegionFence bd r) s = .next t
    ∧ ∀ k, k < 12 → (t.slice (12 * bd + k)).rebuilding = true ∧ (t.slice (12 * bd + k)).lines = [])
  ∧ (∀ (s : State) (u c : UnitId) (f : Fenced), s.err.fenced.find? (fun f => f.unit == u && !f.complete && decide (f.since + 100000 ≤ s.time.now)) = some f → container u = some c →
    ∃ t, exec (.fenceEscalated u) s = .next t ∧ t.carries Syn.fenceEscalated = true))
  ∧ ((∀ (s : State) (h : Nat) (v : Word) (u : UnitId), s.readySide h = true → s.ecAllowed h .owner = true → (s.ecRegs .owner).rstBusy = false →
    flagOf v 32 = true → UnitId.of (fieldOf v 24 8) (fieldOf v 0 16) = u → s.unitExists u = true → resettable u = true →
    ∃ t, exec (.ecReset h .owner v) s = .next t ∧ (t.ecRegs .owner).rstBusy = true ∧ (t.ecRegs .owner).rstUnit = u.no
      ∧ ({ unit := u, view := some .owner } : UnitReset) ∈ t.err.resets)
  ∧ (∀ (s : State) (h : Nat), s.err.resets.find? (fun r => r.unit == coreUnit h) = some { unit := coreUnit h, view := some .owner } →
    s.fuse.hartOk h = true → s.cellHarts h = [h] → s.pwr.wiping = [] →
    ∃ t, exec (.ecResetDone (coreUnit h) true) s = .next t ∧ (t.hart h).run = .reset ∧ (t.hart h).x = [] ∧ (t.ecRegs .owner).rstBusy = false
      ∧ (t.ecRegs .owner).rstResult = 0 ∧ t.carries Syn.unitReset = true)
  ∧ (∀ (s : State) (u : UnitId), s.err.resets.find? (fun r => r.unit == u) = some { unit := u, view := some .owner } →
    ∃ t, exec (.ecResetDone u false) s = .next t ∧ (t.ecRegs .owner).rstBusy = false ∧ (t.ecRegs .owner).rstResult = 3
      ∧ t.carries Syn.resetFailed = true)
  ∧ (∀ (s : State) (u : UnitId), s.unitExists u = true → s.secureHeld u = true → u ∉ s.pwr.wiping → ∃ t, exec (.blockLost u) s = .next t
    ∧ t.pwr.wiping = s.pwr.wiping ++ [u])
  ∧ (∀ (s : State) (h : Nat), coreUnit h ∈ s.pwr.wiping → s.cellHarts h = [h] → ∃ t, exec (.secureWipe (coreUnit h) true) s = .next t
    ∧ t.pwr.wiping = s.pwr.wiping.erase (coreUnit h) ∧ (t.hart h).x = [] ∧ (t.hart h).l1d = [] ∧ (t.hart h).l2 = [] ∧ (t.hart h).run = .fenced))

/-- R340, R343, R331: a waiting record passes to the collector of the unit above, and from a die into the lowest free slot of the chip collector; an event held for a target is sent once 10 µs have passed. R345: NEXT selects the next record of a view; CLEAR removes the selected one and CLEAR_ALL those that the view shows; a read of EC_STAT clears LOST and DL_MISSES; EC_IRQ holds the target it was given. R28, R362: a store of an identity that the hart's Quire may signal sends an MSI; an MSI sets its pending bit, and a Normal one at a Secure identity is discarded and logged. Where the spec leaves it open this is the model's choice: log 55, 66 and 88. -/
def Obligations.Records_and_interrupts : Prop :=
  ((∀ (s : State) (u p : UnitId) (r : ErrRec) (rest : List ErrRec), (s.err.lowCol u).upward = r :: rest → s.pathFenced u = false →
    container u = some p → p ≠ u → ∃ t, exec (.recordForward u) s = .next t ∧ (t.err.lowCol u).upward = rest
      ∧ (t.err.lowCol p).upward = (s.err.lowCol p).upward ++ [r] ∧ s.changesOnly [.err] t)
  ∧ (∀ (s : State) (u : UnitId) (r : ErrRec) (rest : List ErrRec), (s.err.lowCol u).upward = r :: rest → s.pathFenced u = false →
    container u = none → r.syndrome ≠ Syn.poisonConsumed.code → s.err.slots = [] → ∃ t, exec (.recordForward u) s = .next t
      ∧ t.err.slots = [(0, { r with seq := s.err.seq })] ∧ t.err.seq = s.err.seq + 1 ∧ s.changesOnly [.err, .net] t)
  ∧ (∀ (s : State) (p : Pace) (n : Nat), s.err.paces = [p] → p.held = true → p.last = some n → n + 10000 ≤ s.time.now →
    ∃ t, exec (.msiPacing p.hart p.file p.id) s = .next t ∧ t.err.paces = [{ p with last := some s.time.now, held := false }]
      ∧ t.net.msi = s.net.msi ++ [{ hart := p.hart, file := p.file, id := p.id, secure := p.secure }]))
  ∧ ((∀ (s : State) (h : Nat) (w : EcView), s.readySide h = true → s.ecAllowed h w = true → ∃ t, exec (.ecSelNext h w) s = .next t
    ∧ t.ecRegs w = s.ecNext w ∧ t.err.slots = s.err.slots ∧ s.changesOnly [.err] t)
  ∧ (∀ (s : State) (h : Nat) (r : ErrRec), s.readySide h = true → s.ecAllowed h .owner = true → s.ecSlot .owner s.err.owner.index = some r →
    ∃ t, exec (.clear h .owner) s = .next t ∧ t.err.slots = Tab.del s.err.slots s.err.owner.index ∧ s.changesOnly [.err] t)
  ∧ (∀ (s : State) (h q : Nat), s.readySide h = true → s.ecAllowed h (.quire q) = true → ∃ t, exec (.clearAll h (.quire q)) s = .next t
    ∧ (∀ e, e ∈ t.err.slots ↔ e ∈ s.err.slots ∧ quireSees s.bind q e.2 = false) ∧ s.changesOnly [.err] t)
  ∧ (∀ (s : State) (h rd : Nat) (w : EcView), s.readySide h = true → s.ecAllowed h w = true → ∃ t, exec (.ecStatRead h w rd) s = .next t
    ∧ (t.hart h).getX rd = (if rd = 0 then 0 else s.ecStat w) ∧ (t.ecRegs w).lost = 0 ∧ (t.ecRegs w).dlMisses = 0)
  ∧ (∀ (s : State) (h : Nat) (v : Word), s.readySide h = true → s.ecAllowed h .owner = true → (v &&& ~~~(word 0x8000FFFF0F0007FF)) = 0 →
    s.ecIrqOk .owner v = true → ∃ t, exec (.ecIrqWrite h .owner v) s = .next t ∧ s.changesOnly [.err] t
      ∧ t.err.owner = { s.err.owner with irqEnable := flagOf v 63, irqHart := fieldOf v 32 16, irqFile := fieldOf v 24 4,
                                         irqId := fieldOf v 0 11, irqSecure := (s.hart h).secure }))
  ∧ ((∀ (s : State) (h a th file : Nat) (v : Word), s.readySide h = true → s.inM h = true → decodeImsic a = some (th, file) → s.hasFiles th = true →
    a % 0x1000 = 0 → 1 ≤ v.toNat % 2 ^ 32 → v.toNat % 2 ^ 32 ≤ 2047 → s.maySignal (s.hart h).qid th file (v.toNat % 2 ^ 32) = true →
    exec (.imsicWrite h a 4 v) s = .next (s.sendMsi th file (v.toNat % 2 ^ 32) (s.hart h).secure))
  ∧ (∀ (s : State) (m : MsiMsg), m ∈ s.net.msi → s.fuse.hartOk m.hart = true → (s.hart m.hart).run ≠ .fenced → m.file ≤ 8 → 1 ≤ m.id → m.id ≤ 2047 →
    ∃ t, exec (.msi m) s = .next t ∧ t.net.msi = s.net.msi.erase m
      ∧ (if s.bind.idSecure m.hart m.file m.id = true ∧ m.secure = false then t.harts = s.harts ∧ t.carries Syn.msiWorldDenied = true
        else eiKey m.file m.id ∈ (t.hart m.hart).eip ∧ s.changesOnly [.harts, .net] t)))

/-! ### Memory -/

/-- R248: memory training, as step 6, brings the largest set of identical DIMMs into use, releases PERST_N and goes on to step 7. Where the spec leaves it open this is the model's choice: log 28. -/
def Obligations.Memory_training : Prop :=
  ∀ (s : State) (r : MemTrainResult), s.boot.phase = .ready 6 → ∃ t, exec (.memoryTraining r) s = .next t ∧ t.boot.phase = .ready 7
    ∧ t.boot.memTrained = true ∧ t.pins.perstN = true ∧ t.mem.ddrN = (chooseSet r.dimms).length ∧ t.mem.bytes = s.mem.bytes

/-- R254, R257, R258, R263: a read that a home waits for gives a RdNC the line's data; the oldest queued write of a line, once no Class G request waits for its bank, puts its data into memory, poisoned as a whole if it is poisoned at all, and leaves every other byte. R254, R258, R261: a scrub that finds no error changes no byte; one that finds an uncorrectable error retires the line's page; the changed lists go to flash; a refresh takes a bank for which no Class G request waits; a failed pseudo-channel or channel is out of service and a lost CXL device's range reads as lost. Where the spec leaves it open this is the model's choice: log 20 and 26. -/
def Obligations.Memory_service : Prop :=
  ((∀ (s : State) (n l : Nat) (x : Txn), s.mem.reads = [{ line := l, slice := n }] → (s.slice n).active = [x] → x.req.addr = l →
    x.req.opc = .rdnc → x.evict = false → x.granted = false → x.waitMem = true → x.waitEvict = none → x.snoops = [] →
    (s.slice n).dirFind l = none → s.retired (64 * l) = false → s.mem.wpq = [] → ∃ t, exec (.memoryRead l .ok) s = .next t
      ∧ t.mem = { s.mem with reads := [] } ∧ (t.slice n).active = [] ∧ ∃ r ∈ t.net.coh, r.opc = .dat ∧ r.dst = x.req.src ∧ r.core = x.req.core
        ∧ r.tag = x.req.tag ∧ r.state = 0 ∧ r.data = s.mem.lineData l ∧ r.poison = s.mem.linePoison l)
  ∧ (∀ (s : State) (l : Nat) (w : MemWrite), s.gWaits (s.lineBank l).1 (s.lineBank l).2 = false →
    s.mem.wpq.find? (fun w => w.line == l) = some w → ∃ t, exec (.memoryWrite l) s = .next t
    ∧ t.mem.lineData l = w.data ∧ t.mem.linePoison l = (if w.poison = 0 then 0 else 0xF#4) ∧ t.mem.wpq = s.mem.wpq.erase w
    ∧ (∀ a, a / 64 ≠ l → t.mem.byte a = s.mem.byte a) ∧ s.changesOnly [.mem] t))
  ∧ ((∀ (s : State) (l : Nat), s.populated (64 * l) = true → s.controllerOf (64 * l) < 32 → ∃ t, exec (.scrub l .ok) s = .next t
    ∧ t.mem.bytes = s.mem.bytes ∧ t.mem.poison = s.mem.poison ∧ s.changesOnly [.mem] t)
  ∧ (∀ (s : State) (l : Nat), s.populated (64 * l) = true → s.controllerOf (64 * l) < 32 → s.retired (64 * l) = false →
    rangeOf (64 * l) ≠ .cxl → (s.ctl (s.controllerOf (64 * l))).retired = [] → ∃ t, exec (.scrub l .uncorrectable) s = .next t
      ∧ (t.ctl (s.controllerOf (64 * l))).retired = [(64 * l / 4096, false)] ∧ t.mem.linePoison l = 0xF#4 ∧ t.mem.retireDirty = true)
  ∧ (∀ s : State, s.mem.retireDirty = true → exec .retiredListSave s = .next { s with
      mem := { s.mem with retireDirty := false },
      clasp := { s.clasp with flash := writeArea s.clasp.flash retireArea s.retireImage } })
  ∧ (∀ (s : State) (k bank : Nat), (s.ctl k).st = .up → k < 32 → s.gWaits k bank = false → ∃ t, exec (.refresh k bank) s = .next t
    ∧ (t.ctl k).refreshing = [bank] ∧ s.changesOnly [.mem] t)
  ∧ (∀ (s : State) (n : Nat), n < 256 → s.mem.failedPc.contains n = false → ∃ t, exec (.memoryUnitFail (UnitId.of 0x06 n)) s = .next t
    ∧ n ∈ t.mem.failedPc ∧ t.carries Syn.hbmPcFailed = true ∧ t.mem.bytes = s.mem.bytes)
  ∧ (∀ (s : State) (n : Nat), n < 16 → s.mem.failedCh.contains n = false → ∃ t, exec (.memoryUnitFail (UnitId.of 0x08 n)) s = .next t
    ∧ n ∈ t.mem.failedCh ∧ t.carries Syn.ddrChannelFailed = true)
  ∧ (∀ (s : State) (n : Nat), n < 8 → (s.cxl n).lost = false → (s.cxl n).decoders ≠ [] → ∃ t, exec (.memoryUnitFail (UnitId.of 0x0C n)) s = .next t
    ∧ (t.cxl n).lost = true))

/-- R266, R416, R419: PWRFAIL_N starts a persistent flush in a running package: harts stop, then every queued write is performed and a window's record becomes CLEAN with the flush's trigger, then the domains are held in reset; before step 7 the start-up is held, and PWRFAIL_N high again lets it go on; with RESET_N low it has no effect. Where the spec leaves it open this is the model's choice: log 29. -/
def Obligations.Persistent_flush : Prop :=
  (∀ s : State, s.boot.phase = .running → exec .pwrfailNFall s = .next { s with pins := { s.pins with pwrfailN := false } })
  ∧ (∀ (s : State) (k : Nat), s.boot.phase = .ready k → s.pins.resetN = true → ∃ t, exec .pwrfailNFall s = .next t ∧ t.boot.phase = .powerFail ∧ t.pins.pwrfailN = false)
  ∧ (∀ s : State, s.boot.phase = .running → s.boot.flush = .none → s.pwr.pk < 2 → s.pins.pwrfailN = false →
    ∃ t, exec (.persistentFlush false) s = .next t ∧ t.boot.flush = .stopping ∧ t.boot.flushTrigger = 1 ∧ t.boot.flushTime = s.now
      ∧ (∀ h, (t.hart h).run ≠ .running) ∧ t.mem = s.mem)
  ∧ (∀ (s : State) (w : MemWin), s.boot.flush = .stopping → s.boot.flushTrigger < 256 → s.bind.persistWindows = [w] → s.boot.flushMoving = [] →
    ∃ t, exec (.flushDrained []) s = .next t ∧ t.mem.wpq = [] ∧ t.boot.flush = .drained
      ∧ numAt (t.mem.read w.recordPage 64) 4 1 = 2 ∧ numAt (t.mem.read w.recordPage 64) 5 1 = s.boot.flushTrigger)
  ∧ (∀ s : State, s.boot.flush = .drained → s.pins.resetN = true → ∃ t, exec .pflushDone s = .next t ∧ t.boot.phase = .flushed)
  ∧ (∀ s : State, s.boot.phase = .flushed → s.boot.flushByRule = false → ∃ t, exec .pwrfailRecovery s = .next t ∧ t.boot.phase = .draining
      ∧ t.boot.cause = .flush ∧ t.pins.pwrfailN = true)
  ∧ (∀ s : State, s.boot.phase = .powerFail → ∃ t, exec .pwrfailRecovery s = .next t ∧ t.boot.phase = .ready 3 ∧ t.pins.pwrfailN = true)
  ∧ (∀ (s : State) (k : Nat), s.boot.phase = .ready k → s.pins.resetN = false →
    exec .pwrfailNFall s = .next { s with pins := { s.pins with pwrfailN := false } })

/-- The memory keeps its canonical form: addresses strictly rising, and no entry equal to what an unlisted address reads as (the model's own form of memory, log 4). Where the spec leaves it open this is the model's choice: log 4. -/
def Obligations.Memory_form : Prop :=
  ∀ (s t : State), s.mem.wf = true → step s = .next t → t.mem.wf = true

/-! ### Queue Engine and I/O ports -/

/-- R273, R274: a 64-bit write of a new index to its doorbell moves an enabled SQ's PROD_IDX, or an enabled CQ's CONS_IDX and arms it; a read shows both indices. R286: ENABLE with a legal configuration makes a queue of the VI's Quire and world ENABLED, READ stages its context, DISABLE of an idle queue disables it, and at once or when its descriptors are done; each reports SUCCESS. -/
def Obligations.Queues : Prop :=
  ((∀ (s : State) (h q : Nat) (v : Word), q < queueCount → s.readySide h = true → s.doorbellHart h q = true → s.qe.cached.contains q = true →
    (s.queue q).st = .enabled → s.viResetting (s.queue q).vi = false → fieldOf v 32 32 = 0 →
    ((s.queue q).ty = 1 → (v.setWidth 32 - (s.queue q).cons).toNat ≤ 2 ^ (s.queue q).log2 →
      ((s.queue q).fetch - (s.queue q).cons).toNat ≤ (v.setWidth 32 - (s.queue q).cons).toNat →
      exec (.doorbellWrite (.hart h) q 0 8 v) s = .next (s.setQueue q { s.queue q with prod := v.setWidth 32 }))
    ∧ ((s.queue q).ty = 2 → ((s.queue q).prod - v.setWidth 32).toNat ≤ 2 ^ (s.queue q).log2 → (s.queue q).irqEn = false →
      exec (.doorbellWrite (.hart h) q 0 8 v) s = .next (s.setQueue q { s.queue q with cons := v.setWidth 32, armed := true }))
    ∧ ((s.queue q).ty = 1 → 2 ^ (s.queue q).log2 < (v.setWidth 32 - (s.queue q).cons).toNat →
      ∃ t, exec (.doorbellWrite (.hart h) q 0 8 v) s = .next t ∧ (t.queue q).st = .error ∧ (t.queue q).error = 1
        ∧ (t.queue q).prod = (s.queue q).prod ∧ t.carries Syn.qeDbRange = true))
  ∧ (∀ (s : State) (h q rd : Nat), q < queueCount → s.readySide h = true → s.doorbellHart h q = true → s.qe.cached.contains q = true →
    ∃ t, exec (.doorbellRead h q 0 8 rd) s = .next t ∧ s.changesOnly [.harts] t
      ∧ (t.hart h).getX rd = (if rd = 0 then 0 else word ((s.queue q).cons.toNat * 2 ^ 32 + (s.queue q).prod.toNat))))
  ∧ ((∀ (s : State) (h vi : Nat) (v : Word), vi < viCount → s.readySide h = true → s.viAllowed (.hart h) vi = true → (s.vi vi).cmdBusy = false →
    s.viResetting vi = false → v.toNat < queueCount → s.qe.cached.contains v.toNat = true → s.bind.queueOwner 1 v.toNat = s.viQid vi →
    s.bind.queueSecure 1 v.toNat = s.viSecure vi →
    ((s.queue v.toNat).live = false → s.badConfig vi v.toNat = false → ∃ t, exec (.enable h vi v) s = .next t
      ∧ t.queue v.toNat = s.enabledCtx vi v.toNat ∧ (t.vi vi).result = 0 ∧ (t.vi vi).qst = .enabled ∧ s.changesOnly [.qe] t)
    ∧ ((s.queue v.toNat).live = true → (s.queue v.toNat).vi = vi → (s.queue v.toNat).ty = 1 → s.queueBusy v.toNat = false →
      ∃ t, exec (.disable h vi v) s = .next t ∧ t.queue v.toNat = { s.queue v.toNat with st := .disabled } ∧ (t.vi vi).result = 0
        ∧ s.changesOnly [.qe] t)
    ∧ (∃ t, exec (.read h vi v) s = .next t ∧ (t.vi vi).qbase = word (s.queue v.toNat).ringBase ∧ (t.vi vi).result = 0
      ∧ t.queue v.toNat = s.queue v.toNat ∧ s.changesOnly [.qe] t))
  ∧ (∀ (s : State) (q : Nat), (s.queue q).disabling = true → s.queueBusy q = false →
    (s.vi (s.queue q).vi).cmdBusy = true → (s.vi (s.queue q).vi).queue = q → ∃ t, exec (.queueDisableDone q) s = .next t
    ∧ (t.queue q).st = .disabled ∧ (t.queue q).disabling = false ∧ (t.vi (s.queue q).vi).result = 0))

/-- R277, R279: a lane fetches the next descriptor of the SQ whose turn it is; a NOP or COPY that meets every rule starts; a malformed one ends with BAD_DESC and a poisoned one with POISON. R270, R279, R280: the oldest descriptor of an SQ, once done, advances CONS_IDX; its completion enters the CQ, whose PROD_IDX advances; a SILENT one that succeeded writes no entry. Where the spec leaves it open this is the model's choice: log 50. -/
def Obligations.Descriptors : Prop :=
  ((∀ (s : State) (lane q : Nat), lane < 9 → (s.lane lane).flights = [] → s.halting = false →
    s.nextSq lane = some q → s.qe.cached.contains q = true → (s.queue q).st = .enabled →
    s.entryOk (s.queue q) ((s.queue q).entry (s.queue q).fetch) true = true →
    s.coherentPoison ((s.queue q).entry (s.queue q).fetch) 64 = false →
    s.linesFree [(false, (s.queue q).entry (s.queue q).fetch, 64)] = true → ∃ t, exec (.descriptorFetch lane) s = .next t
      ∧ (t.queue q).fetch = (s.queue q).fetch + 1 ∧ s.changesOnly [.qe, .net, .free] t
      ∧ ∃ f, (t.lane lane).flights = [f] ∧ f.sq = q ∧ f.idx = (s.queue q).fetch.toNat ∧ f.st = .fetched
        ∧ f.raw = lineOf (s.coherentRead ((s.queue q).entry (s.queue q).fetch) 64))
  ∧ (∀ (s : State) (d : DescRef) (f : Flight), s.flight d = some f → f.st = .fetched → s.inOrder f = true → s.halting = false → d.lane < 8 →
    (s.lane d.lane).fenced = false → f.fence = false →
    (f.poisoned = true → ∃ t, exec (.descriptorStart d) s = .next t ∧ t.ends d f 4 0 0 ∧ s.changesOnly [.qe] t)
    ∧ (f.poisoned = false → opOf (s.viFunction f.vi) f.op = false ∨ f.wellFormed = false → ∃ t, exec (.descriptorStart d) s = .next t
      ∧ t.ends d f 6 0 0 ∧ s.changesOnly [.qe] t)
    ∧ (f.poisoned = false → f.op = 0 → f.wellFormed = true → f.len = 0 → f.dropLate = false → ∃ t, exec (.descriptorStart d) s = .next t
      ∧ t.flight d = some { f with st := .started, since := s.time.now } ∧ s.changesOnly [.qe] t)
    ∧ (f.poisoned = false → f.op = 1 → s.viFunction f.vi = 0 → f.wellFormed = true → 0 < f.len → f.dropLate = false →
      s.lengthOk d.lane f = true → s.rangesOk d.lane f = (s, true) → ∃ t, exec (.descriptorStart d) s = .next t
        ∧ t.flight d = some { f with st := .started, since := s.time.now } ∧ s.changesOnly [.qe] t)))
  ∧ ((∀ (s : State) (d : DescRef) (f : Flight), s.flight d = some f → f.st = .done → (s.lane d.lane).fenced = false → (s.queue d.sq).cons.toNat = f.idx → f.silent = true →
    f.status = 0 → f.deadline = 0 → ∃ t, exec (.descriptorComplete d) s = .next t ∧ (t.queue d.sq).cons = (s.queue d.sq).cons + 1
      ∧ t.flight d = none ∧ t.mem = s.mem ∧ s.changesOnly [.qe] t)
  ∧ (∀ (s : State) (d : DescRef) (f : Flight) (c : Nat), s.flight d = some f → f.st = .done → (s.lane d.lane).fenced = false → (s.queue d.sq).cons.toNat = f.idx →
    f.silent = false → f.deadline = 0 → (s.queue d.sq).cq = c → c ≠ d.sq → (s.queue c).st = .enabled → (s.queue c).irqEn = false →
    (s.queue c).held < 2 ^ (s.queue c).log2 → s.entryOk (s.queue c) ((s.queue c).entry (s.queue c).prod) false = true →
    s.retired ((s.queue c).entry (s.queue c).prod) = false → s.qe.cached.contains c = true →
    s.linesFree [(true, (s.queue c).entry (s.queue c).prod, 64)] = true → ∃ t, exec (.descriptorComplete d) s = .next t
      ∧ (t.queue d.sq).cons = (s.queue d.sq).cons + 1 ∧ (t.queue c).prod = (s.queue c).prod + 1 ∧ t.flight d = none
      ∧ t.mem = (s.writeBytes ((s.queue c).entry (s.queue c).prod)
          (completionBytes d.lane f (1 - (s.queue c).prod.toNat / 2 ^ (s.queue c).log2 % 2) false s.now)).mem))

/-- R276: NOP ends with OK; a COPY of one naturally aligned piece puts its source's bytes at DST; FILL puts byte (DST + i) mod 8 of ARGS at DST + i. R317 to R319, R323 to R326: CHECK_APPEND puts the alive byte and the check at DST and reports the check, CHECK_READOUT reports it, CHECK_VERIFY passes the payload on and ends with CHECK_FAIL unless its verdict is clean; OCU_COMMIT of a legal shadow makes it active. Where the spec leaves it open this is the model's choice: log 14. -/
def Obligations.Data_and_check_operations : Prop :=
  ((∀ (s : State) (d : DescRef) (f : Flight), s.mayAct d 0x00 f → ∃ t, exec (.nop d) s = .next t ∧ t.ends d f 0 0 0 ∧ s.changesOnly [.qe, .chk] t)
  ∧ (∀ (s : State) (d : DescRef) (f : Flight), s.mayAct d 0x01 f → s.sourceGood f → 0 < f.len → f.len = pieceSize f.dst f.len →
    (rangeOf f.dst).isMemory = true → s.retired f.dst = false → ∃ t, exec (.copy d) s = .next t ∧ t.ends d f 0 f.len 0
      ∧ t.mem = (s.writeBytes f.dst (s.coherentRead f.src f.len)).mem ∧ t.harts = (s.writeBytes f.dst (s.coherentRead f.src f.len)).harts)
  ∧ (∀ (s : State) (d : DescRef) (f : Flight), s.mayAct d 0x01 f → ∃ t g, exec (.copy d) s = .next t ∧ t.flight d = some g ∧ g.st = .done)
  ∧ (∀ (s : State) (d : DescRef) (f : Flight), s.mayAct d 0x02 f → ∃ t, exec (.fill d) s = .next t
    ∧ s.puts t d f ((List.range f.len).map (fun i => BitVec.ofNat 8 (f.arg ((f.dst + i) % 8) 1))) 0))
  ∧ ((∀ (s : State) (d : DescRef) (f : Flight), s.mayAct d 0x10 f → s.sourceGood f → (s.checkCfg (f.unit d.lane)).a = 0 →
    ∃ t, exec (.checkAppend d) s = .next t
      ∧ s.puts t d f (toLE (s.checkCfg (f.unit d.lane)).bytes (check (s.checkCfg (f.unit d.lane)) (s.coherentRead f.src f.len)))
          (checkResult (check (s.checkCfg (f.unit d.lane)) (s.coherentRead f.src f.len)) 0 0 0))
  ∧ (∀ (s : State) (d : DescRef) (f : Flight), s.mayAct d 0x12 f → s.sourceGood f → ∃ t, exec (.checkReadout d) s = .next t
    ∧ t.ends d f 0 f.len (checkResult (check (s.checkCfg (f.unit d.lane)) (s.coherentRead f.src f.len)) 0 0 0) ∧ t.mem = s.mem)
  ∧ (∀ (s : State) (d : DescRef) (f : Flight), s.mayAct d 0x11 f → s.sourceGood f → f.dst = 0 → ∃ t, exec (.checkVerify d) s = .next t
    ∧ t.mem = s.mem ∧ ∃ g, t.flight d = some g ∧ g.st = .done
      ∧ g.status = (if (verdictOf (s.checkCfg (f.unit d.lane)) (bitOf (f.arg 2 1) 0) (f.arg 1 1) (s.coherentRead f.src f.len)).2.2.1 = 0 then 0 else 5))
  ∧ (∀ (s : State) (h u : Nat) (v : Word), 16 ≤ u → u < 32 → s.readySide h = true → s.ocuAllowed (.hart h) u = true → (s.openUnit u).busy = none →
    (v &&& ~~~(word 0x8000000000000001)) = 0 → (s.openUnit u).shadow.ok = true → ∃ t, exec (.ocuCommit h u v) s = .next t
      ∧ (t.openUnit u).active = (s.openUnit u).shadow ∧ (t.openUnit u).rejected = false ∧ s.changesOnly [.chk] t)
  ∧ (∀ (s : State) (u : Nat), 16 ≤ u → u < 32 → (s.openUnit u).busy = none → ∃ t, exec (.checkUnitFault u) s = .next t
    ∧ t.chk.fenced = s.chk.fenced ++ [u] ∧ t.carries Syn.checkUnitFault = true))

/-- R323: what makes a commit rejected, and what a rejected and an accepted commit do. -/
def Obligations.Commit_rule : Prop :=
  ∀ (s : State) (h u : Nat) (v : Word), 16 ≤ u → u < 32 → s.readySide h = true → s.ocuAllowed (.hart h) u = true → (s.openUnit u).busy = none →
    ∃ t, exec (.ocuCommit h u v) s = .next t ∧ (t.openUnit u).shadow = (s.openUnit u).shadow
      ∧ (if (s.openUnit u).shadow.width < 8 ∨ 64 < (s.openUnit u).shadow.width ∨ (s.openUnit u).shadow.alive = 3
            ∨ (s.openUnit u).shadow.poly.getLsbD 0 = false ∨ 2 ^ (s.openUnit u).shadow.width ≤ (s.openUnit u).shadow.poly.toNat
            ∨ 2 ^ (s.openUnit u).shadow.width ≤ (s.openUnit u).shadow.init.toNat ∨ 2 ^ (s.openUnit u).shadow.width ≤ (s.openUnit u).shadow.xorout.toNat
         then (t.openUnit u).active = (s.openUnit u).active ∧ (t.openUnit u).rejected = true ∧ t.carries Syn.checkCfgRejected = true
         else (t.openUnit u).active = (s.openUnit u).shadow ∧ (t.openUnit u).rejected = false)

/-- R369: HASH, GCM_SEAL and SIGN put their result at DST; GCM_OPEN puts the plaintext there, or writes nothing and ends with CHECK_FAIL; CMAC reports its tag and VERIFY its verdict. The signature functions are uninterpreted (log 6). R368, R369: KEM_ENCAP, KEM_DECAP, KEY_GEN and KEY_DERIVE leave a key of the VI's world in NEW; RANDOM puts random bytes at DST; KEY_ERASE empties its handle. Key generation, encapsulation and randomness are uninterpreted (log 6). Where the spec leaves it open this is the model's choice: log 6, 14 and 51. -/
def Obligations.Crypto_operations : Prop :=
  ((∀ (s : State) (d : DescRef) (f : Flight), s.mayAct d 0x40 f → s.sourceGood f → ∃ t, exec (.hash d) s = .next t
    ∧ s.puts t d f (digest (f.arg 0 1) (s.coherentRead f.src f.len)) 0)
  ∧ (∀ (s : State) (d : DescRef) (f : Flight), s.mayAct d 0x41 f → s.sourceGood f → ∃ t, exec (.gcmSeal d) s = .next t
    ∧ s.puts t d f ((s.coherentRead f.src f.len).take (f.arg 20 4)
          ++ (gcmSeal (s.keyBytes f) f.iv ((s.coherentRead f.src f.len).take (f.arg 20 4)) ((s.coherentRead f.src f.len).drop (f.arg 20 4))).1)
        (ofLE (gcmSeal (s.keyBytes f) f.iv ((s.coherentRead f.src f.len).take (f.arg 20 4)) ((s.coherentRead f.src f.len).drop (f.arg 20 4))).2))
  ∧ (∀ (s : State) (d : DescRef) (f : Flight), s.mayAct d 0x42 f → s.sourceGood f → ∃ t, exec (.gcmOpen d) s = .next t
    ∧ match gcmOpen (s.keyBytes f) f.iv (((s.coherentRead f.src f.len).take (f.len - 16)).take (f.arg 20 4))
        (((s.coherentRead f.src f.len).take (f.len - 16)).drop (f.arg 20 4)) ((s.coherentRead f.src f.len).drop (f.len - 16)) with
      | some pt => s.puts t d f (((s.coherentRead f.src f.len).take (f.len - 16)).take (f.arg 20 4) ++ pt) 0
      | none => t.mem = s.mem ∧ t.ends d f 5 0 0)
  ∧ (∀ (s : State) (d : DescRef) (f : Flight), s.mayAct d 0x43 f → s.sourceGood f → ∃ t, exec (.cmac d) s = .next t ∧ t.mem = s.mem
    ∧ t.ends d f 0 f.len (ofLE (aesCmac (s.keyBytes f) (s.coherentRead f.src f.len))))
  ∧ (∀ (s : State) (d : DescRef) (f : Flight), s.mayAct d 0x44 f → s.sourceGood f → ∃ t, exec (.sign d) s = .next t
    ∧ (s.afterRead d f).draw.2.puts t d f (padTo (signatureSize (f.arg 0 1)) (if f.arg 0 1 = 0 then
          Config.mldsaSign (s.keyBytes f) (s.coherentRead f.src f.len) (s.afterRead d f).free
        else Config.ecdsaSign (s.keyBytes f) (s.coherentRead f.src f.len) (s.afterRead d f).free)) 0)
  ∧ (∀ (s : State) (d : DescRef) (f : Flight), s.mayAct d 0x45 f → s.sourceGood f → f.arg 0 1 = 0 → ∃ t, exec (.verify d) s = .next t ∧ t.mem = s.mem
    ∧ t.ends d f (if Config.mldsaVerify (((s.coherentRead f.src f.len).drop 48).take (publicSize 1)) ((s.coherentRead f.src f.len).take 48)
        ((s.coherentRead f.src f.len).drop (48 + publicSize 1)) then 0 else 5) f.len 0))
  ∧ ((∀ (s : State) (d : DescRef) (f : Flight), s.mayAct d 0x46 f → s.sourceGood f → ∃ t, exec (.kemEncap d) s = .next t
    ∧ t.keyAt (s.viQid f.vi) f.new = some { alg := 0, secure := s.viSecure f.vi, key := (Config.kemEncap (s.coherentRead f.src f.len) (s.afterRead d f).free).2 })
  ∧ (∀ (s : State) (d : DescRef) (f : Flight), s.mayAct d 0x47 f → s.sourceGood f → ∃ t, exec (.kemDecap d) s = .next t ∧ t.ends d f 0 f.len 0
    ∧ t.keyAt (s.viQid f.vi) f.new
      = some { alg := 0, secure := s.viSecure f.vi, key := Config.kemDecap (s.keyBytes f) (s.coherentRead f.src f.len) })
  ∧ (∀ (s : State) (d : DescRef) (f : Flight), s.mayAct d 0x48 f → ∃ t, exec (.random d) s = .next t
    ∧ (s.drawBytes f.len).2.puts t d f (s.drawBytes f.len).1 0)
  ∧ (∀ (s : State) (d : DescRef) (f : Flight), s.mayAct d 0x49 f → ∃ t, exec (.keyGen d) s = .next t
    ∧ t.keyAt (s.viQid f.vi) f.new = some { alg := f.arg 0 1, secure := s.viSecure f.vi, key := Config.keyGen (f.arg 0 1) s.free })
  ∧ (∀ (s : State) (d : DescRef) (f : Flight), s.mayAct d 0x4A f → s.sourceGood f → ∃ t, exec (.keyDerive d) s = .next t ∧ t.ends d f 0 f.len 0
    ∧ t.keyAt (s.viQid f.vi) f.new
      = some { alg := 0, secure := s.viSecure f.vi, key := hkdf (s.rootKey (s.viQid f.vi)) [] (s.coherentRead f.src f.len) 32 })
  ∧ (∀ (s : State) (d : DescRef) (f : Flight), s.mayAct d 0x4B f → ∃ t, exec (.keyErase d) s = .next t ∧ t.ends d f 0 0 0
    ∧ t.keyAt (s.viQid f.vi) f.key = none))

/-- R295, R306: a TSN_TX leaves on its port where it may, else it waits; TSN_RX and SL_RECV wait; SL_WRITE, SL_READ and SL_SEND of one message issue one request on the port their route names and wait, and end with DEV_ERROR where no route leads to the package; a launch time reached sends its frame. Where the spec leaves it open this is the model's choice: log 21, 33 and 49. -/
def Obligations.Port_operations : Prop :=
  (∀ (s : State) (d : DescRef) (f : Flight), s.mayAct d 0x20 f → s.sourceGood f → (s.tsn (f.arg 0 1)).linkUp = true → s.isGated (UnitId.of 0x0E (f.arg 0 1)) = false → ∃ t, exec (.tsnTx d) s = .next t
    ∧ (if s.tsnDue f = true then t.ends d f 0 f.len 0
          ∧ (t.tsn (f.arg 0 1)).sent = (s.tsn (f.arg 0 1)).sent ++ [(s.now, s.coherentRead f.src f.len)]
        else t.waits d ∧ t.io = s.io))
  ∧ (∀ (s : State) (d : DescRef) (f : Flight), s.mayAct d 0x21 f → (s.tsn (f.arg 2 2 / 256)).linkUp = true → s.isGated (UnitId.of 0x0E (f.arg 2 2 / 256)) = false → ∃ t, exec (.tsnRx d) s = .next t
    ∧ t.waits d ∧ s.changesOnly [.qe, .chk] t)
  ∧ (∀ (s : State) (d : DescRef) (f : Flight), s.mayAct d 0x33 f → ∃ t, exec (.slRecv d) s = .next t ∧ t.waits d ∧ s.changesOnly [.qe, .chk] t)
  ∧ (∀ p ∈ ([(Instr.slWrite, 0x30), (.slRead, 0x31), (.slSend, 0x32)] : List ((DescRef → Instr) × Nat)),
    ∀ (s : State) (d : DescRef) (f : Flight), s.mayAct d p.2 f → (p.2 = 0x31 ∨ s.sourceGood f) → 0 < f.len → f.len ≤ 128 →
    (∀ k, s.slRoute (f.arg 0 2) = .inl k → s.isGated (UnitId.of 0x0D k) = false → ∃ t, exec (p.1 d) s = .next t ∧ t.waits d
      ∧ t.sl.reqs = s.sl.reqs ++ [{ tag := s.sl.nextTag, port := k, desc := d, off := 0, len := f.len }])
    ∧ (s.slRoute (f.arg 0 2) = .inr 2 → ∃ t, exec (p.1 d) s = .next t ∧ t.ends d f 8 0 2 ∧ t.sl = s.sl))
  ∧ (∀ (s : State) (d : DescRef) (f : Flight), s.flight d = some f → f.st = .waiting → f.op = 0x20 → f.arg 8 8 ≠ 0 → f.arg 8 8 ≤ s.now →
    (s.tsn (f.arg 0 1)).linkUp = true → s.isGated (UnitId.of 0x0E (f.arg 0 1)) = false → s.isGated (laneUnit d.lane) = false →
    s.reachable d.lane f → s.sourceGood f → ∃ t, exec (.launchTimeReached d) s = .next t ∧ t.ends d f 0 f.len 0
      ∧ (t.tsn (f.arg 0 1)).sent = (s.tsn (f.arg 0 1)).sent ++ [(s.now, s.coherentRead f.src f.len)])

/-- R284: a failed lane is fenced and logged; its drain empties it and ends a descriptor that must not be repeated with LANE_LOST on the SQ's new lane. R287: DRAIN and SQUASH start a reset of the VI, SQUASH ending every fetched descriptor with SQUASHED; a drain that takes too long squashes the rest; the end of the reset disables the VI's queues and clears its staging registers. Where the spec leaves it open this is the model's choice: log 50. -/
def Obligations.Lanes_and_instances : Prop :=
  ((∀ (s : State) (n : Nat), n < 8 → (s.lane n).fenced = false → ∃ t, exec (.laneFail n) s = .next t ∧ (t.lane n).fenced = true
    ∧ (t.lane n).flights = (s.lane n).flights ∧ t.carries Syn.qeLaneLost = true)
  ∧ (∀ (s : State) (n : Nat) (f : Flight), n < 8 → (s.lane n).fenced = true → (s.lane n).flights = [f] → f.st = .started → f.noRepeat = true →
    (s.lane (s.laneOf f.sq)).flights.length < 32 → s.laneOf f.sq ≠ n → ∃ t, exec (.laneDrained n) s = .next t ∧ (t.lane n).flights = []
      ∧ ∃ g ∈ (t.lane (s.laneOf f.sq)).flights, g.sq = f.sq ∧ g.idx = f.idx ∧ g.st = .done ∧ g.status = 1))
  ∧ ((∀ (s : State) (h vi : Nat) (v : Word), vi < viCount → s.readySide h = true → s.viAllowed (.hart h) vi = true → s.viResetting vi = false →
    v.toNat % 4096 = 0 → (∃ t, exec (.drain h vi v) s = .next t ∧ (t.vi vi).mode = .drain ∧ (t.vi vi).since = s.time.now
        ∧ t.qe.lanes = s.qe.lanes ∧ t.qe.ctx = s.qe.ctx)
      ∧ (∃ t, exec (.squash h vi v) s = .next t ∧ (t.vi vi).mode = .squash ∧ t.qe.ctx = s.qe.ctx
        ∧ ∀ e ∈ t.qe.lanes, ∀ f ∈ e.2.flights, f.vi = vi → f.st = .done))
  ∧ (∀ (s : State) (vi : Nat), (s.vi vi).mode = .drain → (s.vi vi).drainExpired = false →
    (s.vi vi).since + 1000 * (s.vi vi).timeoutUs ≤ s.time.now → s.viBusy vi = true → ∃ t, exec (.viDrainExpired vi) s = .next t
      ∧ (t.vi vi).drainExpired = true ∧ t.carries Syn.viDrainExpired = true ∧ ∀ e ∈ t.qe.lanes, ∀ f ∈ e.2.flights, f.vi = vi → f.st = .done)
  ∧ (∀ (s : State) (vi : Nat), s.viResetting vi = true → s.viBusy vi = false → ∃ t, exec (.viResetDone vi) s = .next t ∧ t.viResetting vi = false
    ∧ (t.vi vi).qbase = 0 ∧ (t.vi vi).qcfg = 0 ∧ (t.vi vi).qirq = 0 ∧ ∀ e ∈ t.qe.ctx, e.2.vi = vi → e.2.live = false))

/-- R291 to R294: configuration reads and writes of a Quire's own function; an arriving function; a link that goes down; a function's writes inside its Quire's windows and its MSIs; advanced error reports. R295, R296: a frame goes to the TSN_RX that waits for its filter; a stream without a frame for LOSS_US is lost once; a link that goes down ends the waiting receives; at the end of an interval the next entry's gates apply, and after the last the list as written. Where the spec leaves it open this is the model's choice: log 19, 21 and 52. -/
def Obligations.Io_ports : Prop :=
  ((∀ (s : State) (h q rd : Nat), q < 256 → s.readySide h = true → s.pcfgHart (.hart h) q = true →
    s.cfgAllowed q (s.pcfgSel q).1 (s.pcfgSel q).2.1 = true → ∃ t, exec (.configRead h q rd) s = .next t ∧ s.changesOnly [.harts] t
      ∧ (t.hart h).getX rd = (if rd = 0 then 0
          else (Tab.get s.io.cfg 0 (cfgKey (s.pcfgSel q).1 (s.pcfgSel q).2.1 (s.pcfgSel q).2.2)).setWidth 64))
  ∧ (∀ (s : State) (h q : Nat) (v : Word), q < 256 → s.readySide h = true → s.pcfgHart (.hart h) q = true →
    s.cfgAllowed q (s.pcfgSel q).1 (s.pcfgSel q).2.1 = true → v.toNat < 2 ^ 32 → 32 ≤ (s.pcfgSel q).2.1 →
    ∃ t, exec (.configWrite h q v) s = .next t ∧ s.changesOnly [.io] t
      ∧ Tab.get t.io.cfg 0 (cfgKey (s.pcfgSel q).1 (s.pcfgSel q).2.1 (s.pcfgSel q).2.2) = v.setWidth 32)
  ∧ (∀ (s : State) (g bdf : Nat), g < 8 → bdf < 65536 → (s.group g).dpc = [] →
    (rootPorts (s.group g).arrange).contains (s.rootOf g bdf) = true → ∃ t, exec (.hotPlugArrival g bdf) s = .next t
    ∧ bdf ∈ (t.group g).functions ∧ s.rootOf g bdf ∈ (t.group g).linkUp ∧ s.changesOnly [.io, .mem] t)
  ∧ (∀ (s : State) (g r : Nat), (s.group g).linkUp.contains r = true → ∃ t, exec (.pcieLinkDown g r) s = .next t
    ∧ r ∉ (t.group g).linkUp ∧ r ∈ (t.group g).dpc ∧ ∀ m ∈ t.net.io, ¬(m.dst = pcieNode g ∧ isRequest m.opc = true))
  ∧ (∀ (s : State) (g bdf a len : Nat) (data : List Byte) (b : Bool), g < 8 → 0 < len → s.halting = false → s.fnCut g bdf = false →
    rangeOf a ≠ .doorbell → s.fnQid g bdf ≠ 0 → s.io.held.contains (g * 65536 + bdf) = false → s.rangeCheck (s.fnQid g bdf) (s.fnSecure g bdf) .store a len = .ok b →
    s.deadRange a len = false → s.linesFree [(true, a, len)] = true →
    exec (.dmaRequest g bdf true a len data) s = .next (s.put (pcieNode g) a (padTo len data) false).1)
  ∧ (∀ (s : State) (g bdf a len : Nat) (data : List Byte), g < 8 → 0 < len → s.halting = false → s.fnCut g bdf = false →
    s.fnQid g bdf = 0 → ∃ t, exec (.dmaRequest g bdf false a len data) s = .next t ∧ t.io.aborts = s.io.aborts ++ [(pcieNode g, a)]
      ∧ t.mem = s.mem ∧ t.harts = s.harts)
  ∧ (∀ (s : State) (g bdf : Nat) (m : MsiMsg), g < 8 → s.halting = false → s.fnCut g bdf = false → s.io.held.contains (g * 65536 + bdf) = false → s.fnQid g bdf ≠ 0 → s.maySignal (s.fnQid g bdf) m.hart m.file m.id = true →
    exec (.deviceMsi g bdf m) s = .next (s.sendMsi m.hart m.file m.id (s.fnSecure g bdf)))
  ∧ (∀ (s : State) (g r : Nat) (u c : BitVec 32), g < 8 → ∃ t, exec (.pcieAer g r u c) s = .next t ∧ t.carries Syn.pcieAer = true))
  ∧ ((∀ (s : State) (p f : Nat) (frame : List Byte), p < 4 → f < 256 → (s.tsn p).linkUp = true → s.isGated (UnitId.of 0x0E p) = false → (s.tsn p).dropping.contains f = false →
    s.flightsWhere (fun g => g.awaits (p * 256 + f)) = [] → ∃ t, exec (.tsnFrameReceived p f frame) s = .next t
      ∧ Tab.get (t.tsn p).lastFrame 0 f = s.now ∧ f ∉ (t.tsn p).lost ∧ s.changesOnly [.io] t)
  ∧ (∀ (s : State) (p f : Nat), p < 4 → f < 256 → (s.tsn p).lossUs f ≠ 0 → (s.tsn p).lost.contains f = false →
    Tab.get (s.tsn p).lastFrame 0 f + 1000 * (s.tsn p).lossUs f ≤ s.now → ∃ t, exec (.tsnStreamLost p f) s = .next t
      ∧ (t.tsn p).lost = (s.tsn p).lost ++ [f] ∧ t.carries Syn.tsnStreamLost = true)
  ∧ (∀ (s : State) (p : Nat), p < 4 → (s.tsn p).linkUp = true → ∃ t, exec (.tsnLinkDown p) s = .next t ∧ (t.tsn p).linkUp = false
    ∧ t.carries Syn.tsnLinkDown = true)
  ∧ (∀ (s : State) (p : Nat), p < 4 → (s.tsn p).linkUp = true → (s.tsn p).gclActive = [] → (s.tsn p).gclSince ≤ s.now →
    ∃ t, exec (.gclIntervalEnd p) s = .next t ∧ (t.tsn p).gclActive = (s.tsn p).gcl ∧ (t.tsn p).gclPos = 0 ∧ (t.tsn p).gclSince = s.now))

/-! ### System Links -/

/-- R299, R301, R302, R315, R320: a flit that fails its check or is out of order changes nothing but the NAK to be sent; a good one delivers its messages; an alive value that shows REPEAT makes the link retrain; a NAK replays, the eighth time with a retraining; a link that comes up sends LINK_INIT. Where the spec leaves it open this is the model's choice: log 7 and 49. -/
def Obligations.Link_layer : Prop :=
  (∀ (s : State) (p : Nat) (f : SlFlit), (s.slPort p).released = true → (s.slPort p).link = .up → s.isGated (UnitId.of 0x0D p) = false →
    (slFlitOk (s.checkCfg (8 + p)) f = false ∨ f.seq ≠ ((s.slPort p).rxSeq + 1) % 1024 → exec (.linkFlit p f) s = .next (s.setSlPort p { s.slPort p with nakPending := true }))
    ∧ (slFlitOk (s.checkCfg (8 + p)) f = true → f.seq = ((s.slPort p).rxSeq + 1) % 1024 → s.wakeHold = false →
      (s.bind.aliveBits p = 0 → (∀ m ∈ f.msgs, 1 ≤ m.kind ∧ m.kind ≤ 9) → ∃ t, exec (.linkFlit p f) s = .next t ∧ s.changesOnly [.sl] t
        ∧ (t.slPort p).rxSeq = f.seq ∧ (t.slPort p).inq = (s.slPort p).inq ++ (if (s.slPort p).peer = .isolated then f.msgs.filter slAlways else f.msgs))
      ∧ (s.bind.aliveBits p ≠ 0 → (s.slPort p).aliveRx = some (f.alive % 2 ^ s.bind.aliveBits p) → ∃ t, exec (.linkFlit p f) s = .next t
        ∧ (t.slPort p).link = .training ∧ t.carries Syn.slAliveFault = true)))
  ∧ (∀ (s : State) (p : Nat), (s.slPort p).link = .up → (s.slPort p).nakSeen = true → (s.slPort p).replay ≠ [] → ∃ t, exec (.replay p) s = .next t
    ∧ (t.slPort p).replay = (s.slPort p).replay ∧ (t.slPort p).nakSeen = false
    ∧ (t.slPort p).replays = min 0xFFFF ((s.slPort p).replays + (s.slPort p).replay.length)
    ∧ (if 7 ≤ (s.slPort p).resends then (t.slPort p).link = .training ∧ t.carries Syn.slLinkDown = true
       else (t.slPort p).link = .up ∧ (t.slPort p).resends = (s.slPort p).resends + 1))
  ∧ (∀ (s : State) (p : Nat) (retrain : Bool), (s.slPort p).link = .up → ∃ t, exec (.slLinkDown p retrain) s = .next t
    ∧ (t.slPort p).link = (if retrain then .training else .down) ∧ t.carries Syn.slLinkDown = true)
  ∧ (∀ (s : State) (p : Nat) (rate : LinkRate), (s.slPort p).released = true → (s.slPort p).link = .down → rate.width < 4 → ∃ t, exec (.slLinkUp p rate) s = .next t
    ∧ (t.slPort p).link = .up ∧ (t.slPort p).width = rate.width ∧ (t.slPort p).fullRate = rate.full
    ∧ ∃ f, (t.slPort p).replay = [f] ∧ f.seq = 1 ∧ f.msgs = [s.linkInitMsg p])

/-- R302, R304, R311, R313, R315: LINK_INIT makes an absent peer UP, but one with this package's own ID takes the link down; RIP, 3,500 ns without a HEARTBEAT, and 100 ms in RESETTING end a peer's service, with nothing left waiting on its port; HEARTBEATs are sent with BOOT_COUNT and T_TX, and received they keep the peer alive and form the offset; READMIT and SL_STAT act as said. Where the spec leaves it open this is the model's choice: log 49. -/
def Obligations.Peers : Prop :=
  (∀ (s : State) (p : Nat) (m : SlMsg), (s.slPort p).released = true → (s.slPort p).link = .up →
    (numAt m.body 0 2 ≠ s.bind.packageId → (s.slPort p).peer = .absent → ∃ t, exec (.linkInit p m) s = .next t ∧ (t.slPort p).peer = .up
      ∧ (t.slPort p).peerPkg = numAt m.body 0 2 ∧ (t.slPort p).peerBoot = numAt m.body 4 4 ∧ s.changesOnly [.sl, .err] t)
    ∧ (numAt m.body 0 2 ≠ s.bind.packageId → (s.slPort p).peer = .lost → s.bind.action 0 (numAt m.body 0 2) = 2 → ∃ t, exec (.linkInit p m) s = .next t
      ∧ (t.slPort p).peer = .isolated ∧ t.carries Syn.slPeerReappeared = true)
    ∧ (numAt m.body 0 2 = s.bind.packageId → ∃ t, exec (.linkInit p m) s = .next t ∧ (t.slPort p).link = .down
      ∧ (t.slPort p).peer = (s.slPort p).peer ∧ t.carries Syn.slIdConflict = true))
  ∧ (∀ (s : State) (p : Nat), (s.slPort p).released = true → (s.slPort p).peer = .up → ∃ t, exec (.rip p) s = .next t ∧ (t.slPort p).peer = .resetting
    ∧ (t.slPort p).replay = [] ∧ (t.slPort p).waiting = [] ∧ (∀ r ∈ t.sl.reqs, r.port ≠ p) ∧ t.carries Syn.slPeerResetting = true)
  ∧ (∀ (s : State) (p : Nat), (s.slPort p).peer = .up → (s.slPort p).lastHb + 3500 ≤ s.time.now → ∃ t, exec (.peerHeartbeatTimeout p) s = .next t
    ∧ (t.slPort p).peer = .lost ∧ (∀ r ∈ t.sl.reqs, r.port ≠ p) ∧ t.carries Syn.slPeerLost = true)
  ∧ (∀ (s : State) (p : Nat), (s.slPort p).peer = .resetting → (s.slPort p).resettingAt + 100000000 ≤ s.time.now →
    ∃ t, exec (.peerResetTimeout p) s = .next t ∧ (t.slPort p).peer = .lost ∧ t.carries Syn.slPeerLost = true)
  ∧ (∀ (s : State) (p : Nat), (s.slPort p).released = true → (s.slPort p).link = .up → s.isGated (UnitId.of 0x0D p) = false → (s.slPort p).replay.length < 256 →
    ∃ t f a, exec (.heartbeatSend p) s = .next t ∧ (t.slPort p).replay = (s.slPort p).replay ++ [f] ∧ f.msgs = [a] ∧ a.kind = 8
      ∧ a.dstPkg = (s.slPort p).peerPkg ∧ numAt a.body 0 4 = s.boot.bootCount % 2 ^ 32 ∧ numAt a.body 8 8 = 16 * s.time.now % 2 ^ 64)
  ∧ (∀ (s : State) (p : Nat) (m : SlMsg) (t4 : Nat), (s.slPort p).released = true → (s.slPort p).link = .up → ∃ t, exec (.heartbeat p m t4) s = .next t
    ∧ (t.slPort p).lastHb = s.time.now ∧ (t.slPort p).peerPk = numAt m.body 4 1 ∧ (t.slPort p).lastTtx = numAt m.body 8 8 ∧ (t.slPort p).lastT4 = t4
    ∧ (t.slPort p).offs = (if numAt m.body 16 8 = 0 ∨ 256000 + numAt m.body 16 8 < t4 then (s.slPort p).offs
        else last16 ((s.slPort p).offs ++ [Int.tdiv ((((numAt m.body 8 8 : Int) - numAt m.body 24 8) - numAt m.body 16 8)
          - ((t4 : Int) - numAt m.body 8 8)) 2])))
  ∧ (∀ (s : State) (h p : Nat), p < 8 → s.readySide h = true → s.mHartOf (.hart h) (((s.bind.partnerRec 0 (s.slPort p).peerPkg).map (·.notifyQid)).getD 0) = true →
    (s.slPort p).peer = .isolated → ∃ t, exec (.readmit h p) s = .next t ∧ (t.slPort p).peer = .up ∧ (t.slPort p).lastHb = s.time.now
      ∧ s.changesOnly [.sl, .err] t)
  ∧ (∀ (s : State) (h p rd : Nat), p < 8 → s.readySide h = true → s.inM h = true → exec (.slStatRead h p rd) s
    = .next ((s.setSlPort p { s.slPort p with missedHb := 0, replays := 0 }).modHart h (fun x => x.setX rd (s.slPort p).stat)))

/-- R305 to R308: a G_MSG for a stream of its port becomes a mailbox message, any other is logged; a WRITE inside an EXPORT window reaches memory and is acknowledged, a READ_REQ is answered with the window's bytes, a refused one with REFUSED; the answers end their descriptor; a SEND fills the SQ's SL_RECV, or is answered with REFUSED or NO_BUFFER. Where the spec leaves it open this is the model's choice: log 7 and 49. -/
def Obligations.Link_messages : Prop :=
  (∀ (s : State) (p : Nat) (m : SlMsg), s.slOpen p = true →
    (1024 ≤ m.stream ∨ (s.stream m.stream).st = .absent ∨ (s.stream m.stream).desc.srcNode ≠ slNode p → ∃ t, exec (.gMsg p m) s = .next t
      ∧ t.net = s.net ∧ t.carries Syn.slGUnknown = true)
    ∧ (m.stream < 1024 → (s.stream m.stream).desc.srcNode = slNode p →
      ((s.stream m.stream).st = .held ∨ ((s.stream m.stream).st = .active ∧ s.inSlot m.stream = false) → exec (.gMsg p m) s = .next s)
      ∧ ((s.stream m.stream).st = .demoted → (s.slPort p).fullSpeed = false → ∃ t, exec (.gMsg p m) s = .next t ∧ s.changesOnly [.sl] t)
      ∧ (((s.stream m.stream).st = .active ∧ s.inSlot m.stream = true) ∨ ((s.stream m.stream).st = .demoted ∧ (s.slPort p).fullSpeed = true) →
        ∃ t, exec (.gMsg p m) s = .next t ∧ t.net.mail = s.net.mail ++ [gMail (s.stream m.stream).desc p m] ∧ s.changesOnly [.sl, .fabric, .net] t)))
  ∧ (∀ (s : State) (p : Nat) (m : SlMsg), s.slOpen p = true → m.dstPkg = s.bind.packageId →
    (∀ w, s.remoteWindow m true (m.body.drop 16).length = some w → s.linesFree (s.remoteRange m true (m.body.drop 16).length) = true →
      ∃ t, exec (.write p m) s = .next t ∧ t.mem = (s.put (slNode p) (w.base + numAt m.body 8 8) (m.body.drop 16) m.poison).1.mem
      ∧ ((s.put (slNode p) (w.base + numAt m.body 8 8) (m.body.drop 16) m.poison).2.2 = true → ∀ k, s.slFree m.srcPkg k → s.sentOn t k 3 m.srcPkg m.tag 0 []))
    ∧ (s.remoteWindow m true (m.body.drop 16).length = none → ∃ t, exec (.write p m) s = .next t ∧ t.mem = s.mem ∧ t.harts = s.harts
      ∧ t.carries Syn.slRemoteDenied = true ∧ ∀ k, s.slFree m.srcPkg k → s.sentOn t k 3 m.srcPkg m.tag 3 [])
    ∧ (∀ w, s.remoteWindow m false (numAt m.body 2 2) = some w → (rangeOf (w.base + numAt m.body 8 8)).isMemory = true →
      s.linesFree (s.remoteRange m false (numAt m.body 2 2)) = true → ∃ t, exec (.readReq p m) s = .next t ∧ t.mem = s.mem ∧ ∀ k, s.slFree m.srcPkg k →
        s.sentOn t k 5 m.srcPkg m.tag 0 (s.coherentRead (w.base + numAt m.body 8 8) (numAt m.body 2 2))))
  ∧ (∀ c ∈ ([Instr.writeAck, Instr.sendAck] : List (Nat → SlMsg → Instr)), ∀ (s : State) (p : Nat) (m : SlMsg) (r : SlReq) (f : Flight), s.slOpen p = true →
    m.dstPkg = s.bind.packageId → s.sl.reqs.find? (fun r => r.tag == m.tag) = some r → (s.sl.reqs.erase r).any (fun x => x.desc == r.desc) = false →
    s.flight r.desc = some f → f.status = 0 → ∃ t, exec (c p m) s = .next t ∧ t.sl.reqs = s.sl.reqs.erase r
      ∧ (if m.status = 0 then t.flight r.desc = some { f with st := .done } else t.ends r.desc f 8 (min f.length r.off) m.status))
  ∧ (∀ (s : State) (p : Nat) (m : SlMsg) (r : SlReq) (f : Flight), s.slOpen p = true → m.dstPkg = s.bind.packageId → m.status = 0 → m.poison = false →
    s.sl.reqs.find? (fun r => r.tag == m.tag) = some r → (s.sl.reqs.erase r).any (fun x => x.desc == r.desc) = false → s.flight r.desc = some f →
    s.laneRange r.desc.lane f .store (f.dst + r.off) (m.body.take r.len).length = (s, true) → ∃ t, exec (.readData p m) s = .next t
      ∧ t.mem = (s.put (laneNodeOf r.desc.lane) (f.dst + r.off) (m.body.take r.len) false).1.mem ∧ t.sl.reqs = s.sl.reqs.erase r
      ∧ ∃ g, t.flight r.desc = some g ∧ g.st = .done)
  ∧ (∀ (s : State) (p : Nat) (m : SlMsg), s.slOpen p = true → m.dstPkg = s.bind.packageId → s.linesFree (s.segmentRange m) = true →
    (s.slSq (numAt m.body 0 4 % 2 ^ 21) = false → ∃ t, exec (.send p m) s = .next t ∧ t.mem = s.mem
      ∧ ∀ k, s.slFree m.srcPkg k → s.sentOn t k 7 m.srcPkg m.tag 3 [])
    ∧ (s.slSq (numAt m.body 0 4 % 2 ^ 21) = true → s.sl.recvs = [] → numAt m.body 8 4 = 0 →
      (s.slFreeRecv (numAt m.body 0 4 % 2 ^ 21) = none → ∃ t, exec (.send p m) s = .next t ∧ t.mem = s.mem
        ∧ ∀ k, s.slFree m.srcPkg k → s.sentOn t k 7 m.srcPkg m.tag 4 [])
      ∧ (∀ d f, s.slFreeRecv (numAt m.body 0 4 % 2 ^ 21) = some d → s.flight d = some f → f.status ≠ 4 → numAt m.body 4 4 ≤ f.len →
        numAt m.body 4 4 ≤ (m.body.drop 16).length → m.poison = false → s.laneRange d.lane f .store f.dst (m.body.drop 16).length = (s, true) →
        (s.put (laneNodeOf d.lane) f.dst (m.body.drop 16) false).2.2 = true → ∃ t, exec (.send p m) s = .next t
          ∧ t.mem = (s.put (laneNodeOf d.lane) f.dst (m.body.drop 16) false).1.mem
          ∧ t.ends d f 0 (numAt m.body 4 4) (m.srcPkg + numAt m.body 12 1 * 2 ^ 16 + s.now * 2 ^ 64))))

/-! ### Bindings and requests -/

/-- R71, R73, R74: of two candidates that verify, the one with the higher generation is chosen; applied, it is in effect, the block runs and its boot harts are released at their reset vector; a failed step with no other candidate leaves no Binding. Where the spec leaves it open this is the model's choice: log 59. -/
def Obligations.Binding_applied : Prop :=
  (∀ (s : State) (a b : List Byte), s.boot.phase = .ready 4 → s.boot.current = none → s.candidate 0 = some a → s.candidate 1 = some b →
    (imgGeneration b ≤ imgGeneration a → ∃ t, exec .bindingSelect s = .next t ∧ (match s.verifyFull a true with
      | .inr r => t = { s with boot := { s.boot with current := some 0, candidates := [1], phase := .ready 5 }, clasp := { s.clasp with cand := some r } }
      | .inl y => t.carries y = true ∧ t.boot.current ≠ some 0))
    ∧ (imgGeneration a < imgGeneration b → ∃ t, exec .bindingSelect s = .next t ∧ (match s.verifyFull b true with
      | .inr r => t = { s with boot := { s.boot with current := some 1, candidates := [0], phase := .ready 5 }, clasp := { s.clasp with cand := some r } }
      | .inl y => t.carries y = true ∧ t.boot.current ≠ some 1)))
  ∧ (∀ (s : State), s.boot.phase = .ready 4 → s.candidate 0 = none → s.candidate 1 = none → ∃ t, exec .bindingSelect s = .next t
    ∧ t.boot.phase = .noBinding ∧ t.clasp.noValid = true ∧ t.carries Syn.noValidBinding = true ∧ t.carries Syn.commitRecordInvalid = true)
  ∧ (∀ (s : State) (b : Binding) (dg owner : List Byte), s.boot.phase = .ready 7 → s.clasp.cand = some (b, dg, owner) → s.overlapsContexts b = false →
    s.boot.cause ≠ .pk4Wake → ∃ t, exec (.bindingApply none) s = .next t ∧ t.clasp.eff = b ∧ t.clasp.applied = true ∧ t.clasp.digests = [dg]
      ∧ t.clasp.gens = [b.generation] ∧ t.boot.phase = .running ∧ t.boot.booted = s.boot.current
      ∧ (∀ q ∈ b.quires, (t.hart q.bootHart).run = .running)
      ∧ (∀ q, b.quires = [q] → b.hartQid q.bootHart = q.qid → (t.hart q.bootHart).pc = word q.resetVector))
  ∧ (∀ (s : State) (c : Binding × List Byte × List Byte) (u : UnitId), s.boot.phase = .ready 7 → s.clasp.cand = some c → s.boot.candidates = [] →
    ∃ t, exec (.bindingApply (some u)) s = .next t ∧ t.clasp.eff = Binding.empty ∧ t.boot.phase = .noBinding ∧ t.carries Syn.bindApplyFail = true)

/-- R68: the rollback floor is 0 when shipped; a full Binding applied at boot with RAISE_FLOOR makes it that Binding's GENERATION, which its verification found no lower (R67); no command lowers it. -/
def Obligations.Rollback_floor : Prop :=
  State.reset.clasp.floor = 0
  ∧ (∀ (s : State) (b : Binding) (dg owner : List Byte), s.boot.phase = .ready 7 → s.clasp.cand = some (b, dg, owner) → s.overlapsContexts b = false →
    ∃ t, exec (.bindingApply none) s = .next t
      ∧ (b.raiseFloor = true → s.clasp.floor ≤ b.generation → t.clasp.floor = b.generation) ∧ (b.raiseFloor = false → t.clasp.floor = s.clasp.floor))
  ∧ (∀ (c : Instr) (s t : State), exec c s = .next t → s.clasp.floor ≤ t.clasp.floor)

/-- R67, R72, R73, R77, R81, R372: with the Clasp idle, a request gets the next SEQ and is judged at once: an unreadable image gives BAD_SOURCE, a rejected one its syndrome; a delta that takes nothing from an owner starts its move phase, any other its quiesce phase; STORE starts the flash update; HART_START releases a core; COLOPHON_REQUEST writes a signed Colophon. Where the spec leaves it open this is the model's choice: log 60, 61 and 90. -/
def Obligations.Requests : Prop :=
  (∀ (s : State) (h q : Nat) (v : Word), s.readySide h = true → (s.hart h).qid = q → s.mHartOf (.hart h) q = true → breqBusy (s.breq q).st = false →
    s.clasp.work = none → s.clasp.queue = [] → v.toNat &&& breqMask 8 = v.toNat →
    (∀ c ∈ ([Instr.applyDelta, Instr.store] : List (Nat → Word → Instr)), (s.readImage q (s.breq q).addr.toNat (fieldOf v 0 25)).1 = none →
      ∃ t, exec (c h v) s = .next t ∧ (t.breq q).st = .done ∧ (t.breq q).step = 1 ∧ (t.breq q).result = 4 ∧ (t.breq q).seq = s.clasp.seq + 1
        ∧ t.clasp.eff = s.clasp.eff ∧ t.clasp.work = none)
    ∧ (∀ img, (s.readImage q (s.breq q).addr.toNat (fieldOf v 0 25)).1 = some img →
      (∃ t, exec (.applyDelta h v) s = .next t ∧ t.clasp.eff = s.clasp.eff ∧ (match s.verifyDelta img with
        | .inl y => (t.breq q).st = .done ∧ (t.breq q).syndrome = y.code ∧ (t.breq q).result = 1 ∧ t.carries y = true
        | .inr r => (t.breq q).st = .busy
          ∧ (if (s.oldOwners (s.bind.merge r.1)).isEmpty then (t.breq q).step = 3 ∧ t.clasp.work = some (.move q r.1 r.2)
             else (t.breq q).step = 2 ∧ t.clasp.work = some (.quiesce q r.1 r.2 (s.oldOwners (s.bind.merge r.1)) [] s.time.now)
               ∧ ∀ o ∈ s.oldOwners (s.bind.merge r.1), (t.breq o).pend = true ∧ (t.breq o).pendSeq = s.clasp.seq + 1)))
      ∧ (∃ t, exec (.store h v) s = .next t ∧ (match s.storeFault img with
        | some y => (t.breq q).st = .done ∧ (t.breq q).syndrome = y.code ∧ (t.breq q).result = 1 ∧ t.clasp.flash = s.clasp.flash ∧ t.carries y = true
        | none => (t.breq q).st = .busy ∧ (t.breq q).step = 4 ∧ t.clasp.work = some (.flash (some q) img s.targetSlot)
          ∧ t.clasp.flash = flashErase s.clasp.flash (slotCommit s.targetSlot) 0x10000)))
    ∧ (s.mayStart q (fieldOf v 32 16) = true → ∃ t, exec (.hartStart h v) s = .next t ∧ (t.breq q).st = .done ∧ (t.breq q).result = 0
      ∧ (t.hart (fieldOf v 32 16)).run = .running
      ∧ (t.hart (fieldOf v 32 16)).pc = word (((s.bind.quire (s.bind.hartQid (fieldOf v 32 16))).map (·.resetVector)).getD 0))
    ∧ (s.mayStart q (fieldOf v 32 16) = false → ∃ t, exec (.hartStart h v) s = .next t ∧ (t.breq q).st = .done ∧ (t.breq q).result = 1 ∧ t.harts = s.harts))
  ∧ (∀ (s : State) (h q : Nat) (v : Word), s.readySide h = true → (s.hart h).qid = q → s.mHartOf (.hart h) q = true → breqBusy (s.breq q).colSt = false →
    s.clasp.work = none → s.clasp.queue = [] → v.toNat &&& breqMask 0x68 = v.toNat → ∃ t, exec (.colophonRequest h v) s = .next t
      ∧ (t.breq q).colSt = .done ∧ t.clasp.colophon = s.clasp.colophon
      ∧ (t.breq q).colResult = (if (∃ m, s.rangeCheck q true .store (s.breq q).dest.toNat 65536 = .ok m) then 0 else 1))

/-- R72, R77 to R80: an acknowledgement that counts takes its owner off the list, the last one starts the move; a refusal or a time-out without FORCE aborts the hand-over with its syndrome and moves nothing; at the end of the move the delta is in effect; at the end of a flash update the image and its commit record are there, or STORE_FAIL is reported. Where the spec leaves it open this is the model's choice: log 60 and 61. -/
def Obligations.Hand_overs : Prop :=
  (∀ (s : State) (h o q : Nat) (v : Word) (d : Binding) (dg : List Byte) (waiting forced : List Nat) (since : Nat),
    s.clasp.work = some (.quiesce q d dg waiting forced since) → s.readySide h = true → (s.hart h).qid = o → s.mHartOf (.hart h) o = true →
    (s.breq o).pend = true → fieldOf v 32 16 = (s.breq o).pendSeq.toNat → ((s.breq o).pendSecure = false ∨ (s.hart h).secure = true) →
    (∃ t, exec (.handoverAck h v) s = .next t ∧ t.clasp.eff = s.clasp.eff
      ∧ (if (waiting.filter (· != o)).isEmpty then t.clasp.work = some (.move q d dg) ∧ (t.breq q).step = 3
         else t.clasp.work = some (.quiesce q d dg (waiting.filter (· != o)) forced since)) ∧ (t.breq o).pend = false)
    ∧ (s.mayForce d = false → waiting.contains o = true → s.clasp.queue = [] → ∃ t, exec (.handoverRefuse h v) s = .next t
      ∧ t.clasp.work = none ∧ t.clasp.eff = s.clasp.eff ∧ t.mem = s.mem ∧ (t.breq q).st = .done ∧ (t.breq q).result = 2
      ∧ (t.breq q).syndrome = Syn.handoverRefused.code ∧ t.carries Syn.handoverRefused = true))
  ∧ (∀ (s : State) (o q : Nat) (d : Binding) (dg : List Byte) (waiting forced : List Nat) (since : Nat),
    s.clasp.work = some (.quiesce q d dg waiting forced since) → waiting.contains o = true → s.clasp.queue = [] →
    since + 1000 * ((s.bind.quire o).map (·.handoverUs)).getD 0 ≤ s.time.now → s.quiesced (s.bind.merge d) o = false → s.mayForce d = false →
    ∃ t, exec (.handoverTimeout o) s = .next t ∧ t.clasp.work = none ∧ t.clasp.eff = s.clasp.eff ∧ t.mem = s.mem ∧ (t.breq q).st = .done
      ∧ (t.breq q).result = 2 ∧ (t.breq q).syndrome = Syn.handoverTimeout.code ∧ t.carries Syn.handoverTimeout = true)
  ∧ (∀ (s : State) (q : Nat) (d : Binding) (dg : List Byte), s.clasp.work = some (.move q d dg) → s.moveSettled (s.bind.merge d) = true → (s.movedPorts (s.bind.merge d)).isEmpty = true →
    s.clasp.queue = [] → ∃ t, exec (.movePhaseEnd []) s = .next t ∧ t.clasp.eff = s.bind.merge d ∧ t.clasp.gens = s.clasp.gens ++ [d.generation]
      ∧ t.clasp.digests = s.clasp.digests ++ [dg] ∧ t.clasp.work = none ∧ (t.breq q).st = .done ∧ (t.breq q).result = 0)
  ∧ (∀ (s : State) (q k : Nat) (img : List Byte), s.clasp.work = some (.flash (some q) img k) → s.clasp.queue = [] →
    (∃ t, exec (.flashProgramDone true true) s = .next t ∧ t.clasp.flash = (s.programSlot img k true).clasp.flash ∧ t.clasp.work = none
      ∧ (t.breq q).st = .done ∧ (t.breq q).step = 5 ∧ (t.breq q).result = 0)
    ∧ (∀ recordOk, ∃ t, exec (.flashProgramDone false recordOk) s = .next t ∧ t.clasp.flash = (s.programSlot img k false).clasp.flash
      ∧ t.clasp.work = none ∧ (t.breq q).st = .done ∧ (t.breq q).step = 4 ∧ (t.breq q).result = 1 ∧ t.carries Syn.storeFail = true))

/-! ### Power, Governor, Firefly, registers -/

/-- R381, R382, R397 to R399: an epoch within its limits ends the throttling; one that is too hot moves every cluster it can one level slower and logs THERMAL_THROTTLE; one that can move none logs GOV_LIMIT_UNMET. A ramped cluster switches; the current limiter drops every cluster to P4. Where the spec leaves it open this is the model's choice: log 34 and 68. -/
def Obligations.Governor : Prop :=
  (∀ (s : State) (m : Telemetry), s.boot.phase = .running → s.pwr.pk < 2 →
    (m.tempC ≤ s.govLimits.2 → m.powerW ≤ s.govLimits.1 → ∃ t, exec (.governorEpoch m) s = .next t ∧ t.gov.throttle = [] ∧ t.gov.unmet = 0
      ∧ t.gov.boost = s.bind.allowBoost ∧ ∀ q, (t.govQ q).slack = none ∧ (t.govQ q).missed = false)
    ∧ (s.govLimits.2 < m.tempC → s.bind.govs = [] → s.movable ≠ [] → ∃ t, exec (.governorEpoch m) s = .next t
      ∧ t.carries Syn.thermalThrottle = true ∧ t.gov.boost = false
      ∧ ∀ c ∈ s.movable, Tab.get t.gov.throttle 0 c = Tab.get s.gov.throttle 0 c + 1)
    ∧ (s.govLimits.2 < m.tempC ∨ s.govLimits.1 < m.powerW → s.bind.govs = [] → s.movable = [] → ∃ t, exec (.governorEpoch m) s = .next t
      ∧ t.carries Syn.govLimitUnmet = true ∧ t.gov.unmet = s.gov.unmet + 1))
  ∧ (∀ (s : State) (c k : Nat), (s.cluster c).ramp = some k → s.fuse.clusterOk c = true → ∃ t, exec (.frequencySwitch c) s = .next t
    ∧ (t.cluster c).granted = k ∧ (t.cluster c).ramp = none ∧ (t.cluster c).changes = (s.cluster c).changes + 1)
  ∧ (∀ (s : State), s.boot.phase = .running → ∃ t, exec .currentLimiterTrip s = .next t ∧ t.gov.boost = false ∧ t.carries Syn.govLimitUnmet = true
    ∧ ∀ c, c < clusterCount → s.fuse.clusterOk c = true → 4 ≤ (t.cluster c).granted)

/-- R329, R386 to R390: PK_CTL takes a request; PK1 and the requested states are entered when the rules allow, with armed deadlines given up; a wake source of the state starts the exit, one that comes during entry is held; the exit ends in PK0. Where the spec leaves it open this is the model's choice: log 36, 37 and 69. -/
def Obligations.Package_states : Prop :=
  (∀ (s : State) (h : Nat) (v : Word), s.readySide h = true → s.ownerHart (.hart h) = true → s.pwr.pkPending = false → 2 ≤ fieldOf v 56 3 → fieldOf v 56 3 ≤ 4 →
    exec (.pkCtlGo h v) s
      = .next { s with pwr := { s.pwr with pkTarget := fieldOf v 56 3, pkWakeTime := fieldOf v 0 56, pkPending := true } })
  ∧ (∀ (s : State), s.boot.phase = .running → s.boot.flush = .none → s.pwr.pk = 0 → s.pwr.pkEntering = none → s.allInC3 = true → s.fabricIdle = true →
    ∃ t, exec .pk1Entry s = .next t ∧ t.pwr = { s.pwr with pk := 1 } ∧ t.carries Syn.pkEntered = true ∧ t.ff.logSeq = s.ff.logSeq + 1)
  ∧ (∀ (s : State), s.boot.phase = .running → s.boot.flush = .none → s.pwr.pkPending = true → s.pwr.pk < 2 → s.pwr.pkEntering = none →
    s.pwr.pkExiting = none → s.allInC3 = true → s.fabricIdle = true → s.claspIdle = true → ∃ t, exec .pkEntry s = .next t
      ∧ t.pwr = { s.pwr with pkPending := false, pkEntering := some s.pwr.pkTarget, pkDrained := false } ∧ ∀ h, (t.hart h).dlArmed = 0)
  ∧ (∀ (s : State) (k : Nat), s.pwr.pkEntering = some k → s.pins.resetN = true →
    (s.pwr.pkWakeHeld = none → ∃ t, exec .pkEntryComplete s = .next t ∧ t.pwr = { s.pwr with pk := k, pkEntering := none, pkDrained := false }
      ∧ t.carries Syn.pkEntered = true)
    ∧ (∀ src, s.pwr.pkWakeHeld = some src → k ≠ 4 → ∃ t, exec .pkEntryComplete s = .next t
      ∧ t.pwr = { s.pwr with pk := k, pkEntering := none, pkDrained := false, pkWakeHeld := none, pkExiting := some src }))
  ∧ (∀ (s : State) (k : Nat) (failed : List (Nat × Nat)), s.boot.flush ≠ .stopping → s.pwr.pkEntering = some k → s.pwr.pkDrained = false →
    ∃ t, exec (.flushDrained failed) s = .next t ∧ t.pwr = { s.pwr with pkDrained := true } ∧ t.mem.wpq = [] ∧ t.boot = s.boot)
  ∧ (∀ (s : State) (src : PkSrc), s.wakeSeen src = true →
    (pkWakes src s.pwr.pk = true → s.pwr.pkEntering = none → s.pwr.pkExiting = none → s.boot.phase = .running → s.pwr.pk < 4 →
      exec (.pkWake src) s = .next { s with pwr := { s.pwr with pkExiting := some src } })
    ∧ (∀ k, s.pwr.pkEntering = some k → pkWakes src k = true → s.pwr.pkWakeHeld = none →
      exec (.pkWake src) s = .next { s with pwr := { s.pwr with pkWakeHeld := some src } }))
  ∧ (∀ (s : State), s.wakeTimeDue = true → 1 ≤ s.pwr.pk → s.pwr.pk < 4 → s.pwr.pkEntering = none → s.pwr.pkExiting = none → s.boot.phase = .running →
    exec .wakeTimeReached s = .next { s with pwr := { s.pwr with pkExiting := some .wakeTime } })
  ∧ (∀ (s : State) (src : PkSrc), s.pwr.pkExiting = some src → 1 ≤ s.pwr.pk → s.pwr.pk < 4 → ∃ t, exec .pkExitComplete s = .next t
    ∧ t.pwr = { s.pwr with pk := 0, pkExiting := none } ∧ t.carries Syn.pkWoken = true)

/-- R391 to R395: a firing rule with ALERT sets bit 0 of FF_ALERT and one with FLUSH asks for a flush; with no rule firing only the Firefly's own state moves. FF_DATA writes settings and rule words and reads what FF_SEL selects. A lockstep error restarts the Firefly with its rules kept. Where the spec leaves it open this is the model's choice: log 70. -/
def Obligations.Firefly_rules : Prop :=
  (∀ (s : State) (i : FfInputs) (r : Firefly × List (Nat × Word)), s.pins.stbyPwrgood = true → s.ff.booted = true → s.ff.restarting = false →
    ((s.ff.sampleAll i).commit).evaluate i s.time.now = r → s.boot.phase = .running → s.pwr.pk = 0 → s.pwr.pkEntering = none → r.1.flushRule = none →
    (r.2 = [] → exec (.ffRuleEvaluation i) s = .next { s with ff := r.1 })
    ∧ ((∃ e ∈ r.2, hasAct e 2 = true) → ∃ t, exec (.ffRuleEvaluation i) s = .next t ∧ t.ff.alert.getLsbD 0 = true)
    ∧ (∀ e, r.2.find? (fun e => hasAct e 3) = some e → s.boot.flush = .none → ∃ t, exec (.ffRuleEvaluation i) s = .next t
      ∧ t.ff.flushRule = some e.1))
  ∧ (∀ (s : State) (h : Nat), s.readySide h = true → s.ownerHart (.hart h) = true →
    (∀ v, fieldOf s.ff.sel 0 14 < 8 → ∃ t, exec (.ffDataWrite h v) s = .next t ∧ s.changesOnly [.ff] t
      ∧ Tab.get t.ff.chan 0 (fieldOf s.ff.sel 0 14) = v &&& ~~~(word 0x1FFFFFF) ∧ t.ff.rules = s.ff.rules)
    ∧ (∀ v, 0x100 ≤ fieldOf s.ff.sel 0 14 → fieldOf s.ff.sel 0 14 < 0x180 → ∃ t, exec (.ffDataWrite h v) s = .next t ∧ s.changesOnly [.ff] t
      ∧ Tab.find t.ff.staged (fieldOf s.ff.sel 0 14 - 0x100) = some v ∧ t.ff.chan = s.ff.chan)
    ∧ (∀ rd w, s.ff.selected (fieldOf s.ff.sel 0 14) = some w → ∃ t, exec (.ffDataRead h rd) s = .next t ∧ s.changesOnly [.harts, .ff] t
      ∧ (t.hart h).getX rd = (if rd = 0 then 0 else w) ∧ t.ff = s.ff.advance))
  ∧ (∀ (s : State), s.pins.stbyPwrgood = true → s.ff.booted = true → s.ff.restarting = false → ∃ t, exec .ffLockstep s = .next t
    ∧ t.ff.restarting = true ∧ t.pins.aliveToggling = false ∧ t.ff.alert.getLsbD 4 = true ∧ t.ff.rules = s.ff.rules ∧ t.ff.chan = s.ff.chan)
  ∧ (∀ (s : State), s.ff.restarting = true → exec .fireflyRestartDone s
    = .next { s with ff := { s.ff with restarting := false }, pins := { s.pins with aliveToggling := s.aliveDue } })

/-- R364, R365, R401: a permitted request gates or ungates its unit, a gated port group keeps no request waiting, and a rail fault logs and fences the block. R406 to R408: a counter that wraps sets its overflow bit and feeds the counter chained to it; CNT_READ returns a counter and stamps the page. Where the spec leaves it open this is the model's choice: log 33 and 35. -/
def Obligations.Gates_rails_counters : Prop :=
  ((∀ c ∈ ([(Instr.ungate, 0), (Instr.gateClock, 1), (Instr.gatePower, 2)] : List ((Nat → Word → Instr) × Nat)), ∀ (s : State) (h : Nat) (v : Word) (u : UnitId),
    u = UnitId.of (fieldOf v 16 8) (fieldOf v 0 16) → s.readySide h = true → s.mayGate (.hart h) u = true → gateUnitOk u = true → s.pwr.reqBusy = false →
    s.inHandover u = false → (c.2 = 0 ∨ s.secureHeld u = false ∨ (s.hart h).secure = true) → ∃ t, exec (c.1 h v) s = .next t
      ∧ s.changesOnly [.pwr, .qe, .net, .sl, .free] t ∧ (c.2 = 0 → s.changesOnly [.pwr] t)
      ∧ (c.2 ≠ 0 → u.ty = 0x0C → ∀ m ∈ t.net.io, m.dst = pcieNode u.no → isRequest m.opc = false)
      ∧ t.pwr.gated = s.pwr.gated.filter (fun e => e.1 != u) ++ (if c.2 = 0 then [] else [(u, c.2 == 2)])
      ∧ t.pwr.reqBusy = false ∧ t.pwr.reqResult = 0)
  ∧ (∀ (s : State) (u : UnitId), s.clocked = true → s.unitExists u = true → s.secureHeld u = false → ∃ t, exec (.railFault [u]) s = .next t
    ∧ t.carries Syn.railFault = true ∧ (u.ty = 0x01 → t.isFenced u = true)))
  ∧ ((∀ (s : State) (h n : Nat), s.fuse.hartOk h = true → n < 128 → ∃ t, exec (.counterWrap h n) s = .next t ∧ s.changesOnly [.harts] t
    ∧ Tab.get (t.hart h).cnt 0 n = 0 ∧ (t.hart h).cntOvf.getLsbD n = true
    ∧ (n + 1 < 128 → (s.hart h).cntChain.getLsbD (n + 1) = true → Tab.get (t.hart h).cnt 0 (n + 1) = Tab.get (s.hart h).cnt 0 (n + 1) + 1))
  ∧ (∀ (s : State) (h core n rd : Nat), s.readySide h = true → n < 128 → s.cntAllowed (.hart h) core false = true → (s.hart core).cntOpen n = false →
    ∃ t, exec (.cntRead h core n rd) s = .next t ∧ s.changesOnly [.harts] t
      ∧ (t.hart h).getX rd = (if rd = 0 then 0 else word (((Tab.get (s.hart core).cnt 0 n).toNat + (s.hart core).cntRunning s.time.now n) % 2 ^ 48)) ∧ (t.hart core).cntStamp = s.hartTime core))

/-- R9 to R12, R27, R30, R231: an aligned 64-bit write that the register's rule allows changes the register: BREQ_ADDR, FF_SEL and a request of PK_CTL without GO; a place without a register ignores it; where no register answers, or for another size, an M-mode hart takes a store access fault; XL_STAT reads and clears CE_COUNT. Where the spec leaves it open this is the model's choice: log 72 and 85. -/
def Obligations.Register_writes : Prop :=
  (∀ (s : State) (h a die block off : Nat) (v : Word), s.readySide h = true → decodeControl a = some (die, block, off) → a % 8 = 0 →
    (∀ r, s.regOf die block off = some r → s.regMay (.hart h) r true = true →
      (∀ q, r = .breq q 0 → ∃ t, exec (.registerWrite (.hart h) (.addr a 8) v) s = .next t ∧ (t.breq q).addr = v &&& word pageAddrMask)
      ∧ (r = .ff 0 → ∃ t, exec (.registerWrite (.hart h) (.addr a 8) v) s = .next t ∧ t.ff.sel = v &&& word 0x8000000000003FFF)
      ∧ (r = .pkCtl → s.pwr.pkPending = false → flagOf v 63 = false → 2 ≤ fieldOf v 56 3 → fieldOf v 56 3 ≤ 4 →
        exec (.registerWrite (.hart h) (.addr a 8) v) s
          = .next { s with pwr := { s.pwr with pkTarget := fieldOf v 56 3, pkWakeTime := fieldOf v 0 56, pkPending := false } })
      ∧ (r = .hole → exec (.registerWrite (.hart h) (.addr a 8) v) s = .next s))
    ∧ (∀ size, s.inM h = true → (s.hart h).virt = false → s.regOf die block off = none ∨ size ≠ 8 → ∃ t, exec (.registerWrite (.hart h) (.addr a size) v) s = .next t
      ∧ (t.hart h).getCsr 0x342 = 7 ∧ (t.hart h).getCsr 0x343 = word a ∧ (t.hart h).getCsr 0x341 = (s.hart h).pc ∧ s.changesOnly [.harts] t))
  ∧ (∀ (s : State) (h n : Nat) (v : Word), s.readySide h = true → (s.hart h).csrFault n true = none → s.csrWaits h n v = none →
    exec (.registerWrite (.hart h) (.csr n) v) s = .next ((s.csrWrite h n v).modHart h (fun x => x.retire .csr)))
  ∧ (∀ (s : State) (h x rd : Nat), x < 48 ∨ 64 ≤ x ∧ x < 80 → s.readySide h = true → s.inM h = true →
    exec (.xlStatRead h x rd) s = .next ((s.setXl x { s.xl x with ceCount := 0 }).modHart h (fun y => y.setX rd (s.xl x).stat)))

/-- R232: XL_STAT is read in M-mode; a read in another mode and any write take the access fault for the access type. -/
def Obligations.Xl_stat_access : Prop :=
  ∀ (s : State) (h x : Nat), x < 48 ∨ 64 ≤ x ∧ x < 80 → s.readySide h = true →
    (∀ rd, exec (.xlStatRead h x rd) s = .next (if (s.hart h).mode = .m
      then (s.setXl x { s.xl x with ceCount := 0 }).modHart h (fun y => y.setX rd (s.xl x).stat) else s.ctlFault h false (xlAddr x)))
    ∧ (∀ size v, exec (.registerWrite (.hart h) (.addr (xlAddr x) size) v) s = .next (s.ctlFault h true (xlAddr x)))

/-! ### The machine as a whole -/

/-- The queue: a step runs the command at the front on the state with the queue's rest, and the command answers; with none waiting one NoC cycle passes inside the frame (log 1). Where the spec leaves it open this is the model's choice: log 1. -/
def Obligations.Steps : Prop :=
  (∀ (s : State) (c : Instr) (rest : List Instr), step { s with pending := c :: rest } = exec c { s with pending := rest })
  ∧ (∀ (s : State) (c : Instr), ∃ t, exec c s = .next t)
  ∧ (∀ (s : State), s.pending = [] → ∃ t, step s = .next t ∧ s.changesOnly [.time] t
    ∧ (s.time.slot < 19 → t.time.slot = s.time.slot + 1 ∧ t.time.cycle = s.time.cycle + 1
      ∧ t.time.now = (if s.time.started = true ∧ s.time.slot % 2 = 1 then s.time.now + 1 else s.time.now))
    ∧ (19 ≤ s.time.slot → t.time = s.time))

/-- R49, R68, R150, R239, R298, R322, R372, R391: what reset leaves: no command waiting, memory in canonical form with no poison, package time stopped at 0, no Binding, every hart in reset, no stream, every crossing and port down, no owner key, the rollback floor 0, no record, no session, PK0, no Firefly rule. The pins are the state before RESET_N rises (log 9). Where the spec leaves it open this is the model's choice: log 9 and 10. -/
def Obligations.Reset_state : Prop :=
  State.reset.pending = [] ∧ State.reset.fuse.legal = true ∧ State.reset.mem.wf = true ∧ State.reset.mem.poison = [] ∧ State.reset.time.now = 0 ∧ State.reset.time.started = false
  ∧ State.reset.clasp.eff = Binding.empty ∧ State.reset.clasp.applied = false ∧ State.reset.clasp.owners = [] ∧ State.reset.clasp.floor = 0
  ∧ (∀ h, (State.reset.hart h).run = .reset) ∧ (∀ n, (State.reset.stream n).st = .absent) ∧ (∀ x, (State.reset.xl x).st = .down)
  ∧ (∀ p, (State.reset.slPort p).released = false ∧ (State.reset.slPort p).link = .down) ∧ (∀ q, (State.reset.queue q).st = .disabled)
  ∧ State.reset.err.slots = [] ∧ State.reset.err.fenced = [] ∧ State.reset.clasp.session = none ∧ State.reset.pwr.pk = 0
  ∧ State.reset.ff.rules = [] ∧ State.reset.boot.phase = .standby

/-- R84, R90: words of the spec's table and of its worked example, and words that are no Xlz encoding. -/
def Obligations.Xlz_words : Prop :=
  decodeXlz 0x00C3140B = some (.loopi 0 100 12) ∧ decodeXlz 0x0085008B = some (.loop 1 10 8) ∧ decodeXlz 0x0000200B = some .specfence
  ∧ decodeXlz 0x0005350B = some (.lock 10 10) ∧ decodeXlz 0x0205B50B = some (.unlock 10 11) ∧ decodeXlz 0x0005852B = some (.mbsend 10 11)
  ∧ decodeXlz 0x0005952B = some (.mbrecv 10 11) ∧ xlzIllegal 0x0000210B = true ∧ xlzIllegal 0x0000005B = true ∧ xlzIllegal 0x0000007B = true
  ∧ xlzIllegal 0x0000202B = true ∧ xlzIllegal 0x00000013 = false

/-- R84: for every Xlz instruction with its fields in their widths, the decoder reads the encoder's word back, with every field; and a word that decodes is the encoder's word of what it decodes to. -/
def Obligations.Xlz_round_trip : Prop :=
  (∀ (i : Xlz), i.wf = true → decodeXlz (encodeXlz i) = some i)
  ∧ (∀ (w : BitVec 32) (i : Xlz), decodeXlz w = some i → i.wf = true ∧ encodeXlz i = w)

/-- R171, R172: a message whose fields fit their places is read back from its header with every field, beside its class, stream, ISSUE_LO and data; a header below 2^128 with bits 14:12 zero that gives a message is that message's header, whose fields fit; a reserved OPC gives none. -/
def Obligations.Header_round_trip : Prop :=
  (∀ (m : CohMsg), headerFits m = true → (m.hasData = false → m.data = 0) →
    messageOf (headerOf m) m.cls m.stream m.issue (if m.hasData then some m.data else none) = some m)
  ∧ (∀ (n cls : Nat) (stream : Option Nat) (issue : BitVec 32) (data : Option Line) (m : CohMsg), n < 2 ^ 128 → bitsOf n 12 3 = 0 →
    messageOf n cls stream issue data = some m → headerFits m = true ∧ headerOf m = n)
  ∧ (∀ (n cls : Nat) (stream : Option Nat) (issue : BitVec 32) (data : Option Line),
    bitsOf n 123 5 ∈ [0x00, 0x0A, 0x0B, 0x0C, 0x0D, 0x0E, 0x0F, 0x13, 0x14, 0x15, 0x16, 0x17, 0x1F] →
    messageOf n cls stream issue data = none)

/-- No command touches the queue of commands, and none the fuses: part, fused clusters, grade and serial number (R4). -/
def Obligations.Queue_and_fuses : Prop :=
  ∀ (c : Instr) (s t : State), exec c s = .next t → t.fuse = s.fuse ∧ t.pending = s.pending

/-- Frame of commands of one unit: a request that reaches its home, a descriptor step, a heartbeat, a refresh and the like change only the parts of the state that `mayTouch` lists; the harts, and but for the DRAM commands memory, are unchanged. Where the spec leaves it open this is the model's choice: log 14. -/
def Obligations.Unit_frames : Prop :=
  ∀ (c : Instr) (ps : List Piece) (s t : State), mayTouch c = some ps → exec c s = .next t → s.changesOnly ps t
end

