-- ==== Sys2Proof/Laws/Tab.lean ====
section
/-! SUPPORT. What reading a table gives after each way of writing it. -/

namespace Sys2Proof.Machine

variable {α β : Type}

@[simp] theorem Tab.find_nil (k : Nat) : Tab.find ([] : Tab α) k = none := rfl

@[simp] theorem Tab.get_nil (d : α) (k : Nat) : Tab.get ([] : Tab α) d k = d := rfl

theorem Tab.find_set (t : Tab α) (j k : Nat) (v : α) :
    Tab.find (Tab.set t j v) k = if j = k then some v else Tab.find t k := by
  induction t with
  | nil => simp [Tab.set, Tab.find]
  | cons e rest ih =>
    obtain ⟨i, w⟩ := e
    simp only [Tab.set]
    split
    · simp only [Tab.find]
    · split
      · next h => subst h; simp only [Tab.find]; split <;> rfl
      · next h1 h2 =>
        simp only [Tab.find, ih]
        split
        · next h3 => subst h3; rw [if_neg h2]
        · rfl

@[simp] theorem Tab.find_set_same (t : Tab α) (k : Nat) (v : α) : Tab.find (Tab.set t k v) k = some v := by
  simp [Tab.find_set]

theorem Tab.find_set_other (t : Tab α) {j k : Nat} (v : α) (h : j ≠ k) : Tab.find (Tab.set t j v) k = Tab.find t k := by
  simp [Tab.find_set, h]

theorem Tab.get_set (t : Tab α) (d : α) (j k : Nat) (v : α) :
    Tab.get (Tab.set t j v) d k = if j = k then v else Tab.get t d k := by
  unfold Tab.get
  rw [Tab.find_set]
  split <;> rfl

@[simp] theorem Tab.get_set_same (t : Tab α) (d : α) (k : Nat) (v : α) : Tab.get (Tab.set t k v) d k = v := by
  simp [Tab.get_set]

theorem Tab.get_set_other (t : Tab α) (d : α) {j k : Nat} (v : α) (h : j ≠ k) : Tab.get (Tab.set t j v) d k = Tab.get t d k := by
  simp [Tab.get_set, h]

theorem Tab.get_mod (t : Tab α) (d : α) (j k : Nat) (f : α → α) :
    Tab.get (Tab.mod t d j f) d k = if j = k then f (Tab.get t d k) else Tab.get t d k := by
  unfold Tab.mod
  rw [Tab.get_set]
  split
  · next h => rw [h]
  · rfl

theorem Tab.find_mapAll (t : Tab α) (f : Nat → α → β) (k : Nat) :
    Tab.find (Tab.mapAll t f) k = (Tab.find t k).map (f k) := by
  induction t with
  | nil => rfl
  | cons e rest ih =>
    unfold Tab.mapAll at ih ⊢
    simp only [List.map_cons, Tab.find]
    split
    · next h => simp [h]
    · exact ih

theorem Tab.get_mapAll (t : Tab α) (d : α) (e : β) (f : Nat → α → β) (k : Nat) (h : f k d = e) :
    Tab.get (Tab.mapAll t f) e k = f k (Tab.get t d k) := by
  unfold Tab.get
  rw [Tab.find_mapAll]
  cases Tab.find t k <;> simp [h]

end Sys2Proof.Machine
end

