-- ==== Sys2Proof/Laws/State.lean ====
section
/-! SUPPORT. One lemma for each field of the state and each named update of it: what the update leaves as it was, and what reading back what was written gives. -/

namespace Sys2Proof.Machine

/-! ### setHart -/

@[simp] theorem State.setHart_pending (s : State) (h : Nat) (x : Hart) : (s.setHart h x).pending = s.pending := rfl
@[simp] theorem State.setHart_free (s : State) (h : Nat) (x : Hart) : (s.setHart h x).free = s.free := rfl
@[simp] theorem State.setHart_fuse (s : State) (h : Nat) (x : Hart) : (s.setHart h x).fuse = s.fuse := rfl
@[simp] theorem State.setHart_pins (s : State) (h : Nat) (x : Hart) : (s.setHart h x).pins = s.pins := rfl
@[simp] theorem State.setHart_boot (s : State) (h : Nat) (x : Hart) : (s.setHart h x).boot = s.boot := rfl
@[simp] theorem State.setHart_time (s : State) (h : Nat) (x : Hart) : (s.setHart h x).time = s.time := rfl
@[simp] theorem State.setHart_clusters (s : State) (h : Nat) (x : Hart) : (s.setHart h x).clusters = s.clusters := rfl
@[simp] theorem State.setHart_slices (s : State) (h : Nat) (x : Hart) : (s.setHart h x).slices = s.slices := rfl
@[simp] theorem State.setHart_net (s : State) (h : Nat) (x : Hart) : (s.setHart h x).net = s.net := rfl
@[simp] theorem State.setHart_fabric (s : State) (h : Nat) (x : Hart) : (s.setHart h x).fabric = s.fabric := rfl
@[simp] theorem State.setHart_links (s : State) (h : Nat) (x : Hart) : (s.setHart h x).links = s.links := rfl
@[simp] theorem State.setHart_mem (s : State) (h : Nat) (x : Hart) : (s.setHart h x).mem = s.mem := rfl
@[simp] theorem State.setHart_qe (s : State) (h : Nat) (x : Hart) : (s.setHart h x).qe = s.qe := rfl
@[simp] theorem State.setHart_io (s : State) (h : Nat) (x : Hart) : (s.setHart h x).io = s.io := rfl
@[simp] theorem State.setHart_sl (s : State) (h : Nat) (x : Hart) : (s.setHart h x).sl = s.sl := rfl
@[simp] theorem State.setHart_chk (s : State) (h : Nat) (x : Hart) : (s.setHart h x).chk = s.chk := rfl
@[simp] theorem State.setHart_err (s : State) (h : Nat) (x : Hart) : (s.setHart h x).err = s.err := rfl
@[simp] theorem State.setHart_clasp (s : State) (h : Nat) (x : Hart) : (s.setHart h x).clasp = s.clasp := rfl
@[simp] theorem State.setHart_dbg (s : State) (h : Nat) (x : Hart) : (s.setHart h x).dbg = s.dbg := rfl
@[simp] theorem State.setHart_pwr (s : State) (h : Nat) (x : Hart) : (s.setHart h x).pwr = s.pwr := rfl
@[simp] theorem State.setHart_ff (s : State) (h : Nat) (x : Hart) : (s.setHart h x).ff = s.ff := rfl
@[simp] theorem State.setHart_gov (s : State) (h : Nat) (x : Hart) : (s.setHart h x).gov = s.gov := rfl

/-! ### modHart -/

@[simp] theorem State.modHart_pending (s : State) (h : Nat) (f : Hart → Hart) : (s.modHart h f).pending = s.pending := rfl
@[simp] theorem State.modHart_free (s : State) (h : Nat) (f : Hart → Hart) : (s.modHart h f).free = s.free := rfl
@[simp] theorem State.modHart_fuse (s : State) (h : Nat) (f : Hart → Hart) : (s.modHart h f).fuse = s.fuse := rfl
@[simp] theorem State.modHart_pins (s : State) (h : Nat) (f : Hart → Hart) : (s.modHart h f).pins = s.pins := rfl
@[simp] theorem State.modHart_boot (s : State) (h : Nat) (f : Hart → Hart) : (s.modHart h f).boot = s.boot := rfl
@[simp] theorem State.modHart_time (s : State) (h : Nat) (f : Hart → Hart) : (s.modHart h f).time = s.time := rfl
@[simp] theorem State.modHart_clusters (s : State) (h : Nat) (f : Hart → Hart) : (s.modHart h f).clusters = s.clusters := rfl
@[simp] theorem State.modHart_slices (s : State) (h : Nat) (f : Hart → Hart) : (s.modHart h f).slices = s.slices := rfl
@[simp] theorem State.modHart_net (s : State) (h : Nat) (f : Hart → Hart) : (s.modHart h f).net = s.net := rfl
@[simp] theorem State.modHart_fabric (s : State) (h : Nat) (f : Hart → Hart) : (s.modHart h f).fabric = s.fabric := rfl
@[simp] theorem State.modHart_links (s : State) (h : Nat) (f : Hart → Hart) : (s.modHart h f).links = s.links := rfl
@[simp] theorem State.modHart_mem (s : State) (h : Nat) (f : Hart → Hart) : (s.modHart h f).mem = s.mem := rfl
@[simp] theorem State.modHart_qe (s : State) (h : Nat) (f : Hart → Hart) : (s.modHart h f).qe = s.qe := rfl
@[simp] theorem State.modHart_io (s : State) (h : Nat) (f : Hart → Hart) : (s.modHart h f).io = s.io := rfl
@[simp] theorem State.modHart_sl (s : State) (h : Nat) (f : Hart → Hart) : (s.modHart h f).sl = s.sl := rfl
@[simp] theorem State.modHart_chk (s : State) (h : Nat) (f : Hart → Hart) : (s.modHart h f).chk = s.chk := rfl
@[simp] theorem State.modHart_err (s : State) (h : Nat) (f : Hart → Hart) : (s.modHart h f).err = s.err := rfl
@[simp] theorem State.modHart_clasp (s : State) (h : Nat) (f : Hart → Hart) : (s.modHart h f).clasp = s.clasp := rfl
@[simp] theorem State.modHart_dbg (s : State) (h : Nat) (f : Hart → Hart) : (s.modHart h f).dbg = s.dbg := rfl
@[simp] theorem State.modHart_pwr (s : State) (h : Nat) (f : Hart → Hart) : (s.modHart h f).pwr = s.pwr := rfl
@[simp] theorem State.modHart_ff (s : State) (h : Nat) (f : Hart → Hart) : (s.modHart h f).ff = s.ff := rfl
@[simp] theorem State.modHart_gov (s : State) (h : Nat) (f : Hart → Hart) : (s.modHart h f).gov = s.gov := rfl

/-! ### setCluster -/

@[simp] theorem State.setCluster_pending (s : State) (c : Nat) (x : Cluster) : (s.setCluster c x).pending = s.pending := rfl
@[simp] theorem State.setCluster_free (s : State) (c : Nat) (x : Cluster) : (s.setCluster c x).free = s.free := rfl
@[simp] theorem State.setCluster_fuse (s : State) (c : Nat) (x : Cluster) : (s.setCluster c x).fuse = s.fuse := rfl
@[simp] theorem State.setCluster_pins (s : State) (c : Nat) (x : Cluster) : (s.setCluster c x).pins = s.pins := rfl
@[simp] theorem State.setCluster_boot (s : State) (c : Nat) (x : Cluster) : (s.setCluster c x).boot = s.boot := rfl
@[simp] theorem State.setCluster_time (s : State) (c : Nat) (x : Cluster) : (s.setCluster c x).time = s.time := rfl
@[simp] theorem State.setCluster_harts (s : State) (c : Nat) (x : Cluster) : (s.setCluster c x).harts = s.harts := rfl
@[simp] theorem State.setCluster_slices (s : State) (c : Nat) (x : Cluster) : (s.setCluster c x).slices = s.slices := rfl
@[simp] theorem State.setCluster_net (s : State) (c : Nat) (x : Cluster) : (s.setCluster c x).net = s.net := rfl
@[simp] theorem State.setCluster_fabric (s : State) (c : Nat) (x : Cluster) : (s.setCluster c x).fabric = s.fabric := rfl
@[simp] theorem State.setCluster_links (s : State) (c : Nat) (x : Cluster) : (s.setCluster c x).links = s.links := rfl
@[simp] theorem State.setCluster_mem (s : State) (c : Nat) (x : Cluster) : (s.setCluster c x).mem = s.mem := rfl
@[simp] theorem State.setCluster_qe (s : State) (c : Nat) (x : Cluster) : (s.setCluster c x).qe = s.qe := rfl
@[simp] theorem State.setCluster_io (s : State) (c : Nat) (x : Cluster) : (s.setCluster c x).io = s.io := rfl
@[simp] theorem State.setCluster_sl (s : State) (c : Nat) (x : Cluster) : (s.setCluster c x).sl = s.sl := rfl
@[simp] theorem State.setCluster_chk (s : State) (c : Nat) (x : Cluster) : (s.setCluster c x).chk = s.chk := rfl
@[simp] theorem State.setCluster_err (s : State) (c : Nat) (x : Cluster) : (s.setCluster c x).err = s.err := rfl
@[simp] theorem State.setCluster_clasp (s : State) (c : Nat) (x : Cluster) : (s.setCluster c x).clasp = s.clasp := rfl
@[simp] theorem State.setCluster_dbg (s : State) (c : Nat) (x : Cluster) : (s.setCluster c x).dbg = s.dbg := rfl
@[simp] theorem State.setCluster_pwr (s : State) (c : Nat) (x : Cluster) : (s.setCluster c x).pwr = s.pwr := rfl
@[simp] theorem State.setCluster_ff (s : State) (c : Nat) (x : Cluster) : (s.setCluster c x).ff = s.ff := rfl
@[simp] theorem State.setCluster_gov (s : State) (c : Nat) (x : Cluster) : (s.setCluster c x).gov = s.gov := rfl

/-! ### setSlice -/

@[simp] theorem State.setSlice_pending (s : State) (n : Nat) (x : Slice) : (s.setSlice n x).pending = s.pending := rfl
@[simp] theorem State.setSlice_free (s : State) (n : Nat) (x : Slice) : (s.setSlice n x).free = s.free := rfl
@[simp] theorem State.setSlice_fuse (s : State) (n : Nat) (x : Slice) : (s.setSlice n x).fuse = s.fuse := rfl
@[simp] theorem State.setSlice_pins (s : State) (n : Nat) (x : Slice) : (s.setSlice n x).pins = s.pins := rfl
@[simp] theorem State.setSlice_boot (s : State) (n : Nat) (x : Slice) : (s.setSlice n x).boot = s.boot := rfl
@[simp] theorem State.setSlice_time (s : State) (n : Nat) (x : Slice) : (s.setSlice n x).time = s.time := rfl
@[simp] theorem State.setSlice_harts (s : State) (n : Nat) (x : Slice) : (s.setSlice n x).harts = s.harts := rfl
@[simp] theorem State.setSlice_clusters (s : State) (n : Nat) (x : Slice) : (s.setSlice n x).clusters = s.clusters := rfl
@[simp] theorem State.setSlice_net (s : State) (n : Nat) (x : Slice) : (s.setSlice n x).net = s.net := rfl
@[simp] theorem State.setSlice_fabric (s : State) (n : Nat) (x : Slice) : (s.setSlice n x).fabric = s.fabric := rfl
@[simp] theorem State.setSlice_links (s : State) (n : Nat) (x : Slice) : (s.setSlice n x).links = s.links := rfl
@[simp] theorem State.setSlice_mem (s : State) (n : Nat) (x : Slice) : (s.setSlice n x).mem = s.mem := rfl
@[simp] theorem State.setSlice_qe (s : State) (n : Nat) (x : Slice) : (s.setSlice n x).qe = s.qe := rfl
@[simp] theorem State.setSlice_io (s : State) (n : Nat) (x : Slice) : (s.setSlice n x).io = s.io := rfl
@[simp] theorem State.setSlice_sl (s : State) (n : Nat) (x : Slice) : (s.setSlice n x).sl = s.sl := rfl
@[simp] theorem State.setSlice_chk (s : State) (n : Nat) (x : Slice) : (s.setSlice n x).chk = s.chk := rfl
@[simp] theorem State.setSlice_err (s : State) (n : Nat) (x : Slice) : (s.setSlice n x).err = s.err := rfl
@[simp] theorem State.setSlice_clasp (s : State) (n : Nat) (x : Slice) : (s.setSlice n x).clasp = s.clasp := rfl
@[simp] theorem State.setSlice_dbg (s : State) (n : Nat) (x : Slice) : (s.setSlice n x).dbg = s.dbg := rfl
@[simp] theorem State.setSlice_pwr (s : State) (n : Nat) (x : Slice) : (s.setSlice n x).pwr = s.pwr := rfl
@[simp] theorem State.setSlice_ff (s : State) (n : Nat) (x : Slice) : (s.setSlice n x).ff = s.ff := rfl
@[simp] theorem State.setSlice_gov (s : State) (n : Nat) (x : Slice) : (s.setSlice n x).gov = s.gov := rfl

/-! ### modSlice -/

@[simp] theorem State.modSlice_pending (s : State) (n : Nat) (f : Slice → Slice) : (s.modSlice n f).pending = s.pending := rfl
@[simp] theorem State.modSlice_free (s : State) (n : Nat) (f : Slice → Slice) : (s.modSlice n f).free = s.free := rfl
@[simp] theorem State.modSlice_fuse (s : State) (n : Nat) (f : Slice → Slice) : (s.modSlice n f).fuse = s.fuse := rfl
@[simp] theorem State.modSlice_pins (s : State) (n : Nat) (f : Slice → Slice) : (s.modSlice n f).pins = s.pins := rfl
@[simp] theorem State.modSlice_boot (s : State) (n : Nat) (f : Slice → Slice) : (s.modSlice n f).boot = s.boot := rfl
@[simp] theorem State.modSlice_time (s : State) (n : Nat) (f : Slice → Slice) : (s.modSlice n f).time = s.time := rfl
@[simp] theorem State.modSlice_harts (s : State) (n : Nat) (f : Slice → Slice) : (s.modSlice n f).harts = s.harts := rfl
@[simp] theorem State.modSlice_clusters (s : State) (n : Nat) (f : Slice → Slice) : (s.modSlice n f).clusters = s.clusters := rfl
@[simp] theorem State.modSlice_net (s : State) (n : Nat) (f : Slice → Slice) : (s.modSlice n f).net = s.net := rfl
@[simp] theorem State.modSlice_fabric (s : State) (n : Nat) (f : Slice → Slice) : (s.modSlice n f).fabric = s.fabric := rfl
@[simp] theorem State.modSlice_links (s : State) (n : Nat) (f : Slice → Slice) : (s.modSlice n f).links = s.links := rfl
@[simp] theorem State.modSlice_mem (s : State) (n : Nat) (f : Slice → Slice) : (s.modSlice n f).mem = s.mem := rfl
@[simp] theorem State.modSlice_qe (s : State) (n : Nat) (f : Slice → Slice) : (s.modSlice n f).qe = s.qe := rfl
@[simp] theorem State.modSlice_io (s : State) (n : Nat) (f : Slice → Slice) : (s.modSlice n f).io = s.io := rfl
@[simp] theorem State.modSlice_sl (s : State) (n : Nat) (f : Slice → Slice) : (s.modSlice n f).sl = s.sl := rfl
@[simp] theorem State.modSlice_chk (s : State) (n : Nat) (f : Slice → Slice) : (s.modSlice n f).chk = s.chk := rfl
@[simp] theorem State.modSlice_err (s : State) (n : Nat) (f : Slice → Slice) : (s.modSlice n f).err = s.err := rfl
@[simp] theorem State.modSlice_clasp (s : State) (n : Nat) (f : Slice → Slice) : (s.modSlice n f).clasp = s.clasp := rfl
@[simp] theorem State.modSlice_dbg (s : State) (n : Nat) (f : Slice → Slice) : (s.modSlice n f).dbg = s.dbg := rfl
@[simp] theorem State.modSlice_pwr (s : State) (n : Nat) (f : Slice → Slice) : (s.modSlice n f).pwr = s.pwr := rfl
@[simp] theorem State.modSlice_ff (s : State) (n : Nat) (f : Slice → Slice) : (s.modSlice n f).ff = s.ff := rfl
@[simp] theorem State.modSlice_gov (s : State) (n : Nat) (f : Slice → Slice) : (s.modSlice n f).gov = s.gov := rfl

/-! ### setXl -/

@[simp] theorem State.setXl_pending (s : State) (n : Nat) (v : Xl) : (s.setXl n v).pending = s.pending := rfl
@[simp] theorem State.setXl_free (s : State) (n : Nat) (v : Xl) : (s.setXl n v).free = s.free := rfl
@[simp] theorem State.setXl_fuse (s : State) (n : Nat) (v : Xl) : (s.setXl n v).fuse = s.fuse := rfl
@[simp] theorem State.setXl_pins (s : State) (n : Nat) (v : Xl) : (s.setXl n v).pins = s.pins := rfl
@[simp] theorem State.setXl_boot (s : State) (n : Nat) (v : Xl) : (s.setXl n v).boot = s.boot := rfl
@[simp] theorem State.setXl_time (s : State) (n : Nat) (v : Xl) : (s.setXl n v).time = s.time := rfl
@[simp] theorem State.setXl_harts (s : State) (n : Nat) (v : Xl) : (s.setXl n v).harts = s.harts := rfl
@[simp] theorem State.setXl_clusters (s : State) (n : Nat) (v : Xl) : (s.setXl n v).clusters = s.clusters := rfl
@[simp] theorem State.setXl_slices (s : State) (n : Nat) (v : Xl) : (s.setXl n v).slices = s.slices := rfl
@[simp] theorem State.setXl_net (s : State) (n : Nat) (v : Xl) : (s.setXl n v).net = s.net := rfl
@[simp] theorem State.setXl_fabric (s : State) (n : Nat) (v : Xl) : (s.setXl n v).fabric = s.fabric := rfl
@[simp] theorem State.setXl_mem (s : State) (n : Nat) (v : Xl) : (s.setXl n v).mem = s.mem := rfl
@[simp] theorem State.setXl_qe (s : State) (n : Nat) (v : Xl) : (s.setXl n v).qe = s.qe := rfl
@[simp] theorem State.setXl_io (s : State) (n : Nat) (v : Xl) : (s.setXl n v).io = s.io := rfl
@[simp] theorem State.setXl_sl (s : State) (n : Nat) (v : Xl) : (s.setXl n v).sl = s.sl := rfl
@[simp] theorem State.setXl_chk (s : State) (n : Nat) (v : Xl) : (s.setXl n v).chk = s.chk := rfl
@[simp] theorem State.setXl_err (s : State) (n : Nat) (v : Xl) : (s.setXl n v).err = s.err := rfl
@[simp] theorem State.setXl_clasp (s : State) (n : Nat) (v : Xl) : (s.setXl n v).clasp = s.clasp := rfl
@[simp] theorem State.setXl_dbg (s : State) (n : Nat) (v : Xl) : (s.setXl n v).dbg = s.dbg := rfl
@[simp] theorem State.setXl_pwr (s : State) (n : Nat) (v : Xl) : (s.setXl n v).pwr = s.pwr := rfl
@[simp] theorem State.setXl_ff (s : State) (n : Nat) (v : Xl) : (s.setXl n v).ff = s.ff := rfl
@[simp] theorem State.setXl_gov (s : State) (n : Nat) (v : Xl) : (s.setXl n v).gov = s.gov := rfl

/-! ### setPartner -/

@[simp] theorem State.setPartner_pending (s : State) (n : Nat) (v : Partner) : (s.setPartner n v).pending = s.pending := rfl
@[simp] theorem State.setPartner_free (s : State) (n : Nat) (v : Partner) : (s.setPartner n v).free = s.free := rfl
@[simp] theorem State.setPartner_fuse (s : State) (n : Nat) (v : Partner) : (s.setPartner n v).fuse = s.fuse := rfl
@[simp] theorem State.setPartner_pins (s : State) (n : Nat) (v : Partner) : (s.setPartner n v).pins = s.pins := rfl
@[simp] theorem State.setPartner_boot (s : State) (n : Nat) (v : Partner) : (s.setPartner n v).boot = s.boot := rfl
@[simp] theorem State.setPartner_time (s : State) (n : Nat) (v : Partner) : (s.setPartner n v).time = s.time := rfl
@[simp] theorem State.setPartner_harts (s : State) (n : Nat) (v : Partner) : (s.setPartner n v).harts = s.harts := rfl
@[simp] theorem State.setPartner_clusters (s : State) (n : Nat) (v : Partner) : (s.setPartner n v).clusters = s.clusters := rfl
@[simp] theorem State.setPartner_slices (s : State) (n : Nat) (v : Partner) : (s.setPartner n v).slices = s.slices := rfl
@[simp] theorem State.setPartner_net (s : State) (n : Nat) (v : Partner) : (s.setPartner n v).net = s.net := rfl
@[simp] theorem State.setPartner_fabric (s : State) (n : Nat) (v : Partner) : (s.setPartner n v).fabric = s.fabric := rfl
@[simp] theorem State.setPartner_mem (s : State) (n : Nat) (v : Partner) : (s.setPartner n v).mem = s.mem := rfl
@[simp] theorem State.setPartner_qe (s : State) (n : Nat) (v : Partner) : (s.setPartner n v).qe = s.qe := rfl
@[simp] theorem State.setPartner_io (s : State) (n : Nat) (v : Partner) : (s.setPartner n v).io = s.io := rfl
@[simp] theorem State.setPartner_sl (s : State) (n : Nat) (v : Partner) : (s.setPartner n v).sl = s.sl := rfl
@[simp] theorem State.setPartner_chk (s : State) (n : Nat) (v : Partner) : (s.setPartner n v).chk = s.chk := rfl
@[simp] theorem State.setPartner_err (s : State) (n : Nat) (v : Partner) : (s.setPartner n v).err = s.err := rfl
@[simp] theorem State.setPartner_clasp (s : State) (n : Nat) (v : Partner) : (s.setPartner n v).clasp = s.clasp := rfl
@[simp] theorem State.setPartner_dbg (s : State) (n : Nat) (v : Partner) : (s.setPartner n v).dbg = s.dbg := rfl
@[simp] theorem State.setPartner_pwr (s : State) (n : Nat) (v : Partner) : (s.setPartner n v).pwr = s.pwr := rfl
@[simp] theorem State.setPartner_ff (s : State) (n : Nat) (v : Partner) : (s.setPartner n v).ff = s.ff := rfl
@[simp] theorem State.setPartner_gov (s : State) (n : Nat) (v : Partner) : (s.setPartner n v).gov = s.gov := rfl

/-! ### setStream -/

@[simp] theorem State.setStream_pending (s : State) (n : Nat) (v : Stream) : (s.setStream n v).pending = s.pending := rfl
@[simp] theorem State.setStream_free (s : State) (n : Nat) (v : Stream) : (s.setStream n v).free = s.free := rfl
@[simp] theorem State.setStream_fuse (s : State) (n : Nat) (v : Stream) : (s.setStream n v).fuse = s.fuse := rfl
@[simp] theorem State.setStream_pins (s : State) (n : Nat) (v : Stream) : (s.setStream n v).pins = s.pins := rfl
@[simp] theorem State.setStream_boot (s : State) (n : Nat) (v : Stream) : (s.setStream n v).boot = s.boot := rfl
@[simp] theorem State.setStream_time (s : State) (n : Nat) (v : Stream) : (s.setStream n v).time = s.time := rfl
@[simp] theorem State.setStream_harts (s : State) (n : Nat) (v : Stream) : (s.setStream n v).harts = s.harts := rfl
@[simp] theorem State.setStream_clusters (s : State) (n : Nat) (v : Stream) : (s.setStream n v).clusters = s.clusters := rfl
@[simp] theorem State.setStream_slices (s : State) (n : Nat) (v : Stream) : (s.setStream n v).slices = s.slices := rfl
@[simp] theorem State.setStream_net (s : State) (n : Nat) (v : Stream) : (s.setStream n v).net = s.net := rfl
@[simp] theorem State.setStream_links (s : State) (n : Nat) (v : Stream) : (s.setStream n v).links = s.links := rfl
@[simp] theorem State.setStream_mem (s : State) (n : Nat) (v : Stream) : (s.setStream n v).mem = s.mem := rfl
@[simp] theorem State.setStream_qe (s : State) (n : Nat) (v : Stream) : (s.setStream n v).qe = s.qe := rfl
@[simp] theorem State.setStream_io (s : State) (n : Nat) (v : Stream) : (s.setStream n v).io = s.io := rfl
@[simp] theorem State.setStream_sl (s : State) (n : Nat) (v : Stream) : (s.setStream n v).sl = s.sl := rfl
@[simp] theorem State.setStream_chk (s : State) (n : Nat) (v : Stream) : (s.setStream n v).chk = s.chk := rfl
@[simp] theorem State.setStream_err (s : State) (n : Nat) (v : Stream) : (s.setStream n v).err = s.err := rfl
@[simp] theorem State.setStream_clasp (s : State) (n : Nat) (v : Stream) : (s.setStream n v).clasp = s.clasp := rfl
@[simp] theorem State.setStream_dbg (s : State) (n : Nat) (v : Stream) : (s.setStream n v).dbg = s.dbg := rfl
@[simp] theorem State.setStream_pwr (s : State) (n : Nat) (v : Stream) : (s.setStream n v).pwr = s.pwr := rfl
@[simp] theorem State.setStream_ff (s : State) (n : Nat) (v : Stream) : (s.setStream n v).ff = s.ff := rfl
@[simp] theorem State.setStream_gov (s : State) (n : Nat) (v : Stream) : (s.setStream n v).gov = s.gov := rfl

/-! ### setQueue -/

@[simp] theorem State.setQueue_pending (s : State) (q : Nat) (v : QCtx) : (s.setQueue q v).pending = s.pending := rfl
@[simp] theorem State.setQueue_free (s : State) (q : Nat) (v : QCtx) : (s.setQueue q v).free = s.free := rfl
@[simp] theorem State.setQueue_fuse (s : State) (q : Nat) (v : QCtx) : (s.setQueue q v).fuse = s.fuse := rfl
@[simp] theorem State.setQueue_pins (s : State) (q : Nat) (v : QCtx) : (s.setQueue q v).pins = s.pins := rfl
@[simp] theorem State.setQueue_boot (s : State) (q : Nat) (v : QCtx) : (s.setQueue q v).boot = s.boot := rfl
@[simp] theorem State.setQueue_time (s : State) (q : Nat) (v : QCtx) : (s.setQueue q v).time = s.time := rfl
@[simp] theorem State.setQueue_harts (s : State) (q : Nat) (v : QCtx) : (s.setQueue q v).harts = s.harts := rfl
@[simp] theorem State.setQueue_clusters (s : State) (q : Nat) (v : QCtx) : (s.setQueue q v).clusters = s.clusters := rfl
@[simp] theorem State.setQueue_slices (s : State) (q : Nat) (v : QCtx) : (s.setQueue q v).slices = s.slices := rfl
@[simp] theorem State.setQueue_net (s : State) (q : Nat) (v : QCtx) : (s.setQueue q v).net = s.net := rfl
@[simp] theorem State.setQueue_fabric (s : State) (q : Nat) (v : QCtx) : (s.setQueue q v).fabric = s.fabric := rfl
@[simp] theorem State.setQueue_links (s : State) (q : Nat) (v : QCtx) : (s.setQueue q v).links = s.links := rfl
@[simp] theorem State.setQueue_mem (s : State) (q : Nat) (v : QCtx) : (s.setQueue q v).mem = s.mem := rfl
@[simp] theorem State.setQueue_io (s : State) (q : Nat) (v : QCtx) : (s.setQueue q v).io = s.io := rfl
@[simp] theorem State.setQueue_sl (s : State) (q : Nat) (v : QCtx) : (s.setQueue q v).sl = s.sl := rfl
@[simp] theorem State.setQueue_chk (s : State) (q : Nat) (v : QCtx) : (s.setQueue q v).chk = s.chk := rfl
@[simp] theorem State.setQueue_err (s : State) (q : Nat) (v : QCtx) : (s.setQueue q v).err = s.err := rfl
@[simp] theorem State.setQueue_clasp (s : State) (q : Nat) (v : QCtx) : (s.setQueue q v).clasp = s.clasp := rfl
@[simp] theorem State.setQueue_dbg (s : State) (q : Nat) (v : QCtx) : (s.setQueue q v).dbg = s.dbg := rfl
@[simp] theorem State.setQueue_pwr (s : State) (q : Nat) (v : QCtx) : (s.setQueue q v).pwr = s.pwr := rfl
@[simp] theorem State.setQueue_ff (s : State) (q : Nat) (v : QCtx) : (s.setQueue q v).ff = s.ff := rfl
@[simp] theorem State.setQueue_gov (s : State) (q : Nat) (v : QCtx) : (s.setQueue q v).gov = s.gov := rfl

/-! ### setLane -/

@[simp] theorem State.setLane_pending (s : State) (n : Nat) (v : Lane) : (s.setLane n v).pending = s.pending := rfl
@[simp] theorem State.setLane_free (s : State) (n : Nat) (v : Lane) : (s.setLane n v).free = s.free := rfl
@[simp] theorem State.setLane_fuse (s : State) (n : Nat) (v : Lane) : (s.setLane n v).fuse = s.fuse := rfl
@[simp] theorem State.setLane_pins (s : State) (n : Nat) (v : Lane) : (s.setLane n v).pins = s.pins := rfl
@[simp] theorem State.setLane_boot (s : State) (n : Nat) (v : Lane) : (s.setLane n v).boot = s.boot := rfl
@[simp] theorem State.setLane_time (s : State) (n : Nat) (v : Lane) : (s.setLane n v).time = s.time := rfl
@[simp] theorem State.setLane_harts (s : State) (n : Nat) (v : Lane) : (s.setLane n v).harts = s.harts := rfl
@[simp] theorem State.setLane_clusters (s : State) (n : Nat) (v : Lane) : (s.setLane n v).clusters = s.clusters := rfl
@[simp] theorem State.setLane_slices (s : State) (n : Nat) (v : Lane) : (s.setLane n v).slices = s.slices := rfl
@[simp] theorem State.setLane_net (s : State) (n : Nat) (v : Lane) : (s.setLane n v).net = s.net := rfl
@[simp] theorem State.setLane_fabric (s : State) (n : Nat) (v : Lane) : (s.setLane n v).fabric = s.fabric := rfl
@[simp] theorem State.setLane_links (s : State) (n : Nat) (v : Lane) : (s.setLane n v).links = s.links := rfl
@[simp] theorem State.setLane_mem (s : State) (n : Nat) (v : Lane) : (s.setLane n v).mem = s.mem := rfl
@[simp] theorem State.setLane_io (s : State) (n : Nat) (v : Lane) : (s.setLane n v).io = s.io := rfl
@[simp] theorem State.setLane_sl (s : State) (n : Nat) (v : Lane) : (s.setLane n v).sl = s.sl := rfl
@[simp] theorem State.setLane_chk (s : State) (n : Nat) (v : Lane) : (s.setLane n v).chk = s.chk := rfl
@[simp] theorem State.setLane_err (s : State) (n : Nat) (v : Lane) : (s.setLane n v).err = s.err := rfl
@[simp] theorem State.setLane_clasp (s : State) (n : Nat) (v : Lane) : (s.setLane n v).clasp = s.clasp := rfl
@[simp] theorem State.setLane_dbg (s : State) (n : Nat) (v : Lane) : (s.setLane n v).dbg = s.dbg := rfl
@[simp] theorem State.setLane_pwr (s : State) (n : Nat) (v : Lane) : (s.setLane n v).pwr = s.pwr := rfl
@[simp] theorem State.setLane_ff (s : State) (n : Nat) (v : Lane) : (s.setLane n v).ff = s.ff := rfl
@[simp] theorem State.setLane_gov (s : State) (n : Nat) (v : Lane) : (s.setLane n v).gov = s.gov := rfl

/-! ### setVi -/

@[simp] theorem State.setVi_pending (s : State) (n : Nat) (v : Vi) : (s.setVi n v).pending = s.pending := rfl
@[simp] theorem State.setVi_free (s : State) (n : Nat) (v : Vi) : (s.setVi n v).free = s.free := rfl
@[simp] theorem State.setVi_fuse (s : State) (n : Nat) (v : Vi) : (s.setVi n v).fuse = s.fuse := rfl
@[simp] theorem State.setVi_pins (s : State) (n : Nat) (v : Vi) : (s.setVi n v).pins = s.pins := rfl
@[simp] theorem State.setVi_boot (s : State) (n : Nat) (v : Vi) : (s.setVi n v).boot = s.boot := rfl
@[simp] theorem State.setVi_time (s : State) (n : Nat) (v : Vi) : (s.setVi n v).time = s.time := rfl
@[simp] theorem State.setVi_harts (s : State) (n : Nat) (v : Vi) : (s.setVi n v).harts = s.harts := rfl
@[simp] theorem State.setVi_clusters (s : State) (n : Nat) (v : Vi) : (s.setVi n v).clusters = s.clusters := rfl
@[simp] theorem State.setVi_slices (s : State) (n : Nat) (v : Vi) : (s.setVi n v).slices = s.slices := rfl
@[simp] theorem State.setVi_net (s : State) (n : Nat) (v : Vi) : (s.setVi n v).net = s.net := rfl
@[simp] theorem State.setVi_fabric (s : State) (n : Nat) (v : Vi) : (s.setVi n v).fabric = s.fabric := rfl
@[simp] theorem State.setVi_links (s : State) (n : Nat) (v : Vi) : (s.setVi n v).links = s.links := rfl
@[simp] theorem State.setVi_mem (s : State) (n : Nat) (v : Vi) : (s.setVi n v).mem = s.mem := rfl
@[simp] theorem State.setVi_io (s : State) (n : Nat) (v : Vi) : (s.setVi n v).io = s.io := rfl
@[simp] theorem State.setVi_sl (s : State) (n : Nat) (v : Vi) : (s.setVi n v).sl = s.sl := rfl
@[simp] theorem State.setVi_chk (s : State) (n : Nat) (v : Vi) : (s.setVi n v).chk = s.chk := rfl
@[simp] theorem State.setVi_err (s : State) (n : Nat) (v : Vi) : (s.setVi n v).err = s.err := rfl
@[simp] theorem State.setVi_clasp (s : State) (n : Nat) (v : Vi) : (s.setVi n v).clasp = s.clasp := rfl
@[simp] theorem State.setVi_dbg (s : State) (n : Nat) (v : Vi) : (s.setVi n v).dbg = s.dbg := rfl
@[simp] theorem State.setVi_pwr (s : State) (n : Nat) (v : Vi) : (s.setVi n v).pwr = s.pwr := rfl
@[simp] theorem State.setVi_ff (s : State) (n : Nat) (v : Vi) : (s.setVi n v).ff = s.ff := rfl
@[simp] theorem State.setVi_gov (s : State) (n : Nat) (v : Vi) : (s.setVi n v).gov = s.gov := rfl

/-! ### setGroup -/

@[simp] theorem State.setGroup_pending (s : State) (g : Nat) (v : PortGroup) : (s.setGroup g v).pending = s.pending := rfl
@[simp] theorem State.setGroup_free (s : State) (g : Nat) (v : PortGroup) : (s.setGroup g v).free = s.free := rfl
@[simp] theorem State.setGroup_fuse (s : State) (g : Nat) (v : PortGroup) : (s.setGroup g v).fuse = s.fuse := rfl
@[simp] theorem State.setGroup_pins (s : State) (g : Nat) (v : PortGroup) : (s.setGroup g v).pins = s.pins := rfl
@[simp] theorem State.setGroup_boot (s : State) (g : Nat) (v : PortGroup) : (s.setGroup g v).boot = s.boot := rfl
@[simp] theorem State.setGroup_time (s : State) (g : Nat) (v : PortGroup) : (s.setGroup g v).time = s.time := rfl
@[simp] theorem State.setGroup_harts (s : State) (g : Nat) (v : PortGroup) : (s.setGroup g v).harts = s.harts := rfl
@[simp] theorem State.setGroup_clusters (s : State) (g : Nat) (v : PortGroup) : (s.setGroup g v).clusters = s.clusters := rfl
@[simp] theorem State.setGroup_slices (s : State) (g : Nat) (v : PortGroup) : (s.setGroup g v).slices = s.slices := rfl
@[simp] theorem State.setGroup_net (s : State) (g : Nat) (v : PortGroup) : (s.setGroup g v).net = s.net := rfl
@[simp] theorem State.setGroup_fabric (s : State) (g : Nat) (v : PortGroup) : (s.setGroup g v).fabric = s.fabric := rfl
@[simp] theorem State.setGroup_links (s : State) (g : Nat) (v : PortGroup) : (s.setGroup g v).links = s.links := rfl
@[simp] theorem State.setGroup_mem (s : State) (g : Nat) (v : PortGroup) : (s.setGroup g v).mem = s.mem := rfl
@[simp] theorem State.setGroup_qe (s : State) (g : Nat) (v : PortGroup) : (s.setGroup g v).qe = s.qe := rfl
@[simp] theorem State.setGroup_sl (s : State) (g : Nat) (v : PortGroup) : (s.setGroup g v).sl = s.sl := rfl
@[simp] theorem State.setGroup_chk (s : State) (g : Nat) (v : PortGroup) : (s.setGroup g v).chk = s.chk := rfl
@[simp] theorem State.setGroup_err (s : State) (g : Nat) (v : PortGroup) : (s.setGroup g v).err = s.err := rfl
@[simp] theorem State.setGroup_clasp (s : State) (g : Nat) (v : PortGroup) : (s.setGroup g v).clasp = s.clasp := rfl
@[simp] theorem State.setGroup_dbg (s : State) (g : Nat) (v : PortGroup) : (s.setGroup g v).dbg = s.dbg := rfl
@[simp] theorem State.setGroup_pwr (s : State) (g : Nat) (v : PortGroup) : (s.setGroup g v).pwr = s.pwr := rfl
@[simp] theorem State.setGroup_ff (s : State) (g : Nat) (v : PortGroup) : (s.setGroup g v).ff = s.ff := rfl
@[simp] theorem State.setGroup_gov (s : State) (g : Nat) (v : PortGroup) : (s.setGroup g v).gov = s.gov := rfl

/-! ### setTsn -/

@[simp] theorem State.setTsn_pending (s : State) (c : Nat) (v : Tsn) : (s.setTsn c v).pending = s.pending := rfl
@[simp] theorem State.setTsn_free (s : State) (c : Nat) (v : Tsn) : (s.setTsn c v).free = s.free := rfl
@[simp] theorem State.setTsn_fuse (s : State) (c : Nat) (v : Tsn) : (s.setTsn c v).fuse = s.fuse := rfl
@[simp] theorem State.setTsn_pins (s : State) (c : Nat) (v : Tsn) : (s.setTsn c v).pins = s.pins := rfl
@[simp] theorem State.setTsn_boot (s : State) (c : Nat) (v : Tsn) : (s.setTsn c v).boot = s.boot := rfl
@[simp] theorem State.setTsn_time (s : State) (c : Nat) (v : Tsn) : (s.setTsn c v).time = s.time := rfl
@[simp] theorem State.setTsn_harts (s : State) (c : Nat) (v : Tsn) : (s.setTsn c v).harts = s.harts := rfl
@[simp] theorem State.setTsn_clusters (s : State) (c : Nat) (v : Tsn) : (s.setTsn c v).clusters = s.clusters := rfl
@[simp] theorem State.setTsn_slices (s : State) (c : Nat) (v : Tsn) : (s.setTsn c v).slices = s.slices := rfl
@[simp] theorem State.setTsn_net (s : State) (c : Nat) (v : Tsn) : (s.setTsn c v).net = s.net := rfl
@[simp] theorem State.setTsn_fabric (s : State) (c : Nat) (v : Tsn) : (s.setTsn c v).fabric = s.fabric := rfl
@[simp] theorem State.setTsn_links (s : State) (c : Nat) (v : Tsn) : (s.setTsn c v).links = s.links := rfl
@[simp] theorem State.setTsn_mem (s : State) (c : Nat) (v : Tsn) : (s.setTsn c v).mem = s.mem := rfl
@[simp] theorem State.setTsn_qe (s : State) (c : Nat) (v : Tsn) : (s.setTsn c v).qe = s.qe := rfl
@[simp] theorem State.setTsn_sl (s : State) (c : Nat) (v : Tsn) : (s.setTsn c v).sl = s.sl := rfl
@[simp] theorem State.setTsn_chk (s : State) (c : Nat) (v : Tsn) : (s.setTsn c v).chk = s.chk := rfl
@[simp] theorem State.setTsn_err (s : State) (c : Nat) (v : Tsn) : (s.setTsn c v).err = s.err := rfl
@[simp] theorem State.setTsn_clasp (s : State) (c : Nat) (v : Tsn) : (s.setTsn c v).clasp = s.clasp := rfl
@[simp] theorem State.setTsn_dbg (s : State) (c : Nat) (v : Tsn) : (s.setTsn c v).dbg = s.dbg := rfl
@[simp] theorem State.setTsn_pwr (s : State) (c : Nat) (v : Tsn) : (s.setTsn c v).pwr = s.pwr := rfl
@[simp] theorem State.setTsn_ff (s : State) (c : Nat) (v : Tsn) : (s.setTsn c v).ff = s.ff := rfl
@[simp] theorem State.setTsn_gov (s : State) (c : Nat) (v : Tsn) : (s.setTsn c v).gov = s.gov := rfl

/-! ### setSlPort -/

@[simp] theorem State.setSlPort_pending (s : State) (p : Nat) (v : SlPort) : (s.setSlPort p v).pending = s.pending := rfl
@[simp] theorem State.setSlPort_free (s : State) (p : Nat) (v : SlPort) : (s.setSlPort p v).free = s.free := rfl
@[simp] theorem State.setSlPort_fuse (s : State) (p : Nat) (v : SlPort) : (s.setSlPort p v).fuse = s.fuse := rfl
@[simp] theorem State.setSlPort_pins (s : State) (p : Nat) (v : SlPort) : (s.setSlPort p v).pins = s.pins := rfl
@[simp] theorem State.setSlPort_boot (s : State) (p : Nat) (v : SlPort) : (s.setSlPort p v).boot = s.boot := rfl
@[simp] theorem State.setSlPort_time (s : State) (p : Nat) (v : SlPort) : (s.setSlPort p v).time = s.time := rfl
@[simp] theorem State.setSlPort_harts (s : State) (p : Nat) (v : SlPort) : (s.setSlPort p v).harts = s.harts := rfl
@[simp] theorem State.setSlPort_clusters (s : State) (p : Nat) (v : SlPort) : (s.setSlPort p v).clusters = s.clusters := rfl
@[simp] theorem State.setSlPort_slices (s : State) (p : Nat) (v : SlPort) : (s.setSlPort p v).slices = s.slices := rfl
@[simp] theorem State.setSlPort_net (s : State) (p : Nat) (v : SlPort) : (s.setSlPort p v).net = s.net := rfl
@[simp] theorem State.setSlPort_fabric (s : State) (p : Nat) (v : SlPort) : (s.setSlPort p v).fabric = s.fabric := rfl
@[simp] theorem State.setSlPort_links (s : State) (p : Nat) (v : SlPort) : (s.setSlPort p v).links = s.links := rfl
@[simp] theorem State.setSlPort_mem (s : State) (p : Nat) (v : SlPort) : (s.setSlPort p v).mem = s.mem := rfl
@[simp] theorem State.setSlPort_qe (s : State) (p : Nat) (v : SlPort) : (s.setSlPort p v).qe = s.qe := rfl
@[simp] theorem State.setSlPort_io (s : State) (p : Nat) (v : SlPort) : (s.setSlPort p v).io = s.io := rfl
@[simp] theorem State.setSlPort_chk (s : State) (p : Nat) (v : SlPort) : (s.setSlPort p v).chk = s.chk := rfl
@[simp] theorem State.setSlPort_err (s : State) (p : Nat) (v : SlPort) : (s.setSlPort p v).err = s.err := rfl
@[simp] theorem State.setSlPort_clasp (s : State) (p : Nat) (v : SlPort) : (s.setSlPort p v).clasp = s.clasp := rfl
@[simp] theorem State.setSlPort_dbg (s : State) (p : Nat) (v : SlPort) : (s.setSlPort p v).dbg = s.dbg := rfl
@[simp] theorem State.setSlPort_pwr (s : State) (p : Nat) (v : SlPort) : (s.setSlPort p v).pwr = s.pwr := rfl
@[simp] theorem State.setSlPort_ff (s : State) (p : Nat) (v : SlPort) : (s.setSlPort p v).ff = s.ff := rfl
@[simp] theorem State.setSlPort_gov (s : State) (p : Nat) (v : SlPort) : (s.setSlPort p v).gov = s.gov := rfl

/-! ### setBreq -/

@[simp] theorem State.setBreq_pending (s : State) (q : Nat) (v : Breq) : (s.setBreq q v).pending = s.pending := rfl
@[simp] theorem State.setBreq_free (s : State) (q : Nat) (v : Breq) : (s.setBreq q v).free = s.free := rfl
@[simp] theorem State.setBreq_fuse (s : State) (q : Nat) (v : Breq) : (s.setBreq q v).fuse = s.fuse := rfl
@[simp] theorem State.setBreq_pins (s : State) (q : Nat) (v : Breq) : (s.setBreq q v).pins = s.pins := rfl
@[simp] theorem State.setBreq_boot (s : State) (q : Nat) (v : Breq) : (s.setBreq q v).boot = s.boot := rfl
@[simp] theorem State.setBreq_time (s : State) (q : Nat) (v : Breq) : (s.setBreq q v).time = s.time := rfl
@[simp] theorem State.setBreq_harts (s : State) (q : Nat) (v : Breq) : (s.setBreq q v).harts = s.harts := rfl
@[simp] theorem State.setBreq_clusters (s : State) (q : Nat) (v : Breq) : (s.setBreq q v).clusters = s.clusters := rfl
@[simp] theorem State.setBreq_slices (s : State) (q : Nat) (v : Breq) : (s.setBreq q v).slices = s.slices := rfl
@[simp] theorem State.setBreq_net (s : State) (q : Nat) (v : Breq) : (s.setBreq q v).net = s.net := rfl
@[simp] theorem State.setBreq_fabric (s : State) (q : Nat) (v : Breq) : (s.setBreq q v).fabric = s.fabric := rfl
@[simp] theorem State.setBreq_links (s : State) (q : Nat) (v : Breq) : (s.setBreq q v).links = s.links := rfl
@[simp] theorem State.setBreq_mem (s : State) (q : Nat) (v : Breq) : (s.setBreq q v).mem = s.mem := rfl
@[simp] theorem State.setBreq_qe (s : State) (q : Nat) (v : Breq) : (s.setBreq q v).qe = s.qe := rfl
@[simp] theorem State.setBreq_io (s : State) (q : Nat) (v : Breq) : (s.setBreq q v).io = s.io := rfl
@[simp] theorem State.setBreq_sl (s : State) (q : Nat) (v : Breq) : (s.setBreq q v).sl = s.sl := rfl
@[simp] theorem State.setBreq_chk (s : State) (q : Nat) (v : Breq) : (s.setBreq q v).chk = s.chk := rfl
@[simp] theorem State.setBreq_err (s : State) (q : Nat) (v : Breq) : (s.setBreq q v).err = s.err := rfl
@[simp] theorem State.setBreq_dbg (s : State) (q : Nat) (v : Breq) : (s.setBreq q v).dbg = s.dbg := rfl
@[simp] theorem State.setBreq_pwr (s : State) (q : Nat) (v : Breq) : (s.setBreq q v).pwr = s.pwr := rfl
@[simp] theorem State.setBreq_ff (s : State) (q : Nat) (v : Breq) : (s.setBreq q v).ff = s.ff := rfl
@[simp] theorem State.setBreq_gov (s : State) (q : Nat) (v : Breq) : (s.setBreq q v).gov = s.gov := rfl

/-! ### setGovQ -/

@[simp] theorem State.setGovQ_pending (s : State) (q : Nat) (v : GovQ) : (s.setGovQ q v).pending = s.pending := rfl
@[simp] theorem State.setGovQ_free (s : State) (q : Nat) (v : GovQ) : (s.setGovQ q v).free = s.free := rfl
@[simp] theorem State.setGovQ_fuse (s : State) (q : Nat) (v : GovQ) : (s.setGovQ q v).fuse = s.fuse := rfl
@[simp] theorem State.setGovQ_pins (s : State) (q : Nat) (v : GovQ) : (s.setGovQ q v).pins = s.pins := rfl
@[simp] theorem State.setGovQ_boot (s : State) (q : Nat) (v : GovQ) : (s.setGovQ q v).boot = s.boot := rfl
@[simp] theorem State.setGovQ_time (s : State) (q : Nat) (v : GovQ) : (s.setGovQ q v).time = s.time := rfl
@[simp] theorem State.setGovQ_harts (s : State) (q : Nat) (v : GovQ) : (s.setGovQ q v).harts = s.harts := rfl
@[simp] theorem State.setGovQ_clusters (s : State) (q : Nat) (v : GovQ) : (s.setGovQ q v).clusters = s.clusters := rfl
@[simp] theorem State.setGovQ_slices (s : State) (q : Nat) (v : GovQ) : (s.setGovQ q v).slices = s.slices := rfl
@[simp] theorem State.setGovQ_net (s : State) (q : Nat) (v : GovQ) : (s.setGovQ q v).net = s.net := rfl
@[simp] theorem State.setGovQ_fabric (s : State) (q : Nat) (v : GovQ) : (s.setGovQ q v).fabric = s.fabric := rfl
@[simp] theorem State.setGovQ_links (s : State) (q : Nat) (v : GovQ) : (s.setGovQ q v).links = s.links := rfl
@[simp] theorem State.setGovQ_mem (s : State) (q : Nat) (v : GovQ) : (s.setGovQ q v).mem = s.mem := rfl
@[simp] theorem State.setGovQ_qe (s : State) (q : Nat) (v : GovQ) : (s.setGovQ q v).qe = s.qe := rfl
@[simp] theorem State.setGovQ_io (s : State) (q : Nat) (v : GovQ) : (s.setGovQ q v).io = s.io := rfl
@[simp] theorem State.setGovQ_sl (s : State) (q : Nat) (v : GovQ) : (s.setGovQ q v).sl = s.sl := rfl
@[simp] theorem State.setGovQ_chk (s : State) (q : Nat) (v : GovQ) : (s.setGovQ q v).chk = s.chk := rfl
@[simp] theorem State.setGovQ_err (s : State) (q : Nat) (v : GovQ) : (s.setGovQ q v).err = s.err := rfl
@[simp] theorem State.setGovQ_clasp (s : State) (q : Nat) (v : GovQ) : (s.setGovQ q v).clasp = s.clasp := rfl
@[simp] theorem State.setGovQ_dbg (s : State) (q : Nat) (v : GovQ) : (s.setGovQ q v).dbg = s.dbg := rfl
@[simp] theorem State.setGovQ_pwr (s : State) (q : Nat) (v : GovQ) : (s.setGovQ q v).pwr = s.pwr := rfl
@[simp] theorem State.setGovQ_ff (s : State) (q : Nat) (v : GovQ) : (s.setGovQ q v).ff = s.ff := rfl

/-! ### sendMsi -/

@[simp] theorem State.sendMsi_pending (s : State) (hart file id : Nat) (b : Bool) : (s.sendMsi hart file id b).pending = s.pending := rfl
@[simp] theorem State.sendMsi_free (s : State) (hart file id : Nat) (b : Bool) : (s.sendMsi hart file id b).free = s.free := rfl
@[simp] theorem State.sendMsi_fuse (s : State) (hart file id : Nat) (b : Bool) : (s.sendMsi hart file id b).fuse = s.fuse := rfl
@[simp] theorem State.sendMsi_pins (s : State) (hart file id : Nat) (b : Bool) : (s.sendMsi hart file id b).pins = s.pins := rfl
@[simp] theorem State.sendMsi_boot (s : State) (hart file id : Nat) (b : Bool) : (s.sendMsi hart file id b).boot = s.boot := rfl
@[simp] theorem State.sendMsi_time (s : State) (hart file id : Nat) (b : Bool) : (s.sendMsi hart file id b).time = s.time := rfl
@[simp] theorem State.sendMsi_harts (s : State) (hart file id : Nat) (b : Bool) : (s.sendMsi hart file id b).harts = s.harts := rfl
@[simp] theorem State.sendMsi_clusters (s : State) (hart file id : Nat) (b : Bool) : (s.sendMsi hart file id b).clusters = s.clusters := rfl
@[simp] theorem State.sendMsi_slices (s : State) (hart file id : Nat) (b : Bool) : (s.sendMsi hart file id b).slices = s.slices := rfl
@[simp] theorem State.sendMsi_fabric (s : State) (hart file id : Nat) (b : Bool) : (s.sendMsi hart file id b).fabric = s.fabric := rfl
@[simp] theorem State.sendMsi_links (s : State) (hart file id : Nat) (b : Bool) : (s.sendMsi hart file id b).links = s.links := rfl
@[simp] theorem State.sendMsi_mem (s : State) (hart file id : Nat) (b : Bool) : (s.sendMsi hart file id b).mem = s.mem := rfl
@[simp] theorem State.sendMsi_qe (s : State) (hart file id : Nat) (b : Bool) : (s.sendMsi hart file id b).qe = s.qe := rfl
@[simp] theorem State.sendMsi_io (s : State) (hart file id : Nat) (b : Bool) : (s.sendMsi hart file id b).io = s.io := rfl
@[simp] theorem State.sendMsi_sl (s : State) (hart file id : Nat) (b : Bool) : (s.sendMsi hart file id b).sl = s.sl := rfl
@[simp] theorem State.sendMsi_chk (s : State) (hart file id : Nat) (b : Bool) : (s.sendMsi hart file id b).chk = s.chk := rfl
@[simp] theorem State.sendMsi_err (s : State) (hart file id : Nat) (b : Bool) : (s.sendMsi hart file id b).err = s.err := rfl
@[simp] theorem State.sendMsi_clasp (s : State) (hart file id : Nat) (b : Bool) : (s.sendMsi hart file id b).clasp = s.clasp := rfl
@[simp] theorem State.sendMsi_dbg (s : State) (hart file id : Nat) (b : Bool) : (s.sendMsi hart file id b).dbg = s.dbg := rfl
@[simp] theorem State.sendMsi_pwr (s : State) (hart file id : Nat) (b : Bool) : (s.sendMsi hart file id b).pwr = s.pwr := rfl
@[simp] theorem State.sendMsi_ff (s : State) (hart file id : Nat) (b : Bool) : (s.sendMsi hart file id b).ff = s.ff := rfl
@[simp] theorem State.sendMsi_gov (s : State) (hart file id : Nat) (b : Bool) : (s.sendMsi hart file id b).gov = s.gov := rfl

/-! ### sendCoh -/

@[simp] theorem State.sendCoh_pending (s : State) (m : CohMsg) : (s.sendCoh m).pending = s.pending := rfl
@[simp] theorem State.sendCoh_free (s : State) (m : CohMsg) : (s.sendCoh m).free = s.free := rfl
@[simp] theorem State.sendCoh_fuse (s : State) (m : CohMsg) : (s.sendCoh m).fuse = s.fuse := rfl
@[simp] theorem State.sendCoh_pins (s : State) (m : CohMsg) : (s.sendCoh m).pins = s.pins := rfl
@[simp] theorem State.sendCoh_boot (s : State) (m : CohMsg) : (s.sendCoh m).boot = s.boot := rfl
@[simp] theorem State.sendCoh_time (s : State) (m : CohMsg) : (s.sendCoh m).time = s.time := rfl
@[simp] theorem State.sendCoh_harts (s : State) (m : CohMsg) : (s.sendCoh m).harts = s.harts := rfl
@[simp] theorem State.sendCoh_clusters (s : State) (m : CohMsg) : (s.sendCoh m).clusters = s.clusters := rfl
@[simp] theorem State.sendCoh_slices (s : State) (m : CohMsg) : (s.sendCoh m).slices = s.slices := rfl
@[simp] theorem State.sendCoh_fabric (s : State) (m : CohMsg) : (s.sendCoh m).fabric = s.fabric := rfl
@[simp] theorem State.sendCoh_links (s : State) (m : CohMsg) : (s.sendCoh m).links = s.links := rfl
@[simp] theorem State.sendCoh_mem (s : State) (m : CohMsg) : (s.sendCoh m).mem = s.mem := rfl
@[simp] theorem State.sendCoh_qe (s : State) (m : CohMsg) : (s.sendCoh m).qe = s.qe := rfl
@[simp] theorem State.sendCoh_io (s : State) (m : CohMsg) : (s.sendCoh m).io = s.io := rfl
@[simp] theorem State.sendCoh_sl (s : State) (m : CohMsg) : (s.sendCoh m).sl = s.sl := rfl
@[simp] theorem State.sendCoh_chk (s : State) (m : CohMsg) : (s.sendCoh m).chk = s.chk := rfl
@[simp] theorem State.sendCoh_err (s : State) (m : CohMsg) : (s.sendCoh m).err = s.err := rfl
@[simp] theorem State.sendCoh_clasp (s : State) (m : CohMsg) : (s.sendCoh m).clasp = s.clasp := rfl
@[simp] theorem State.sendCoh_dbg (s : State) (m : CohMsg) : (s.sendCoh m).dbg = s.dbg := rfl
@[simp] theorem State.sendCoh_pwr (s : State) (m : CohMsg) : (s.sendCoh m).pwr = s.pwr := rfl
@[simp] theorem State.sendCoh_ff (s : State) (m : CohMsg) : (s.sendCoh m).ff = s.ff := rfl
@[simp] theorem State.sendCoh_gov (s : State) (m : CohMsg) : (s.sendCoh m).gov = s.gov := rfl

/-! ### takeCoh -/

@[simp] theorem State.takeCoh_pending (s : State) (m : CohMsg) : (s.takeCoh m).pending = s.pending := rfl
@[simp] theorem State.takeCoh_free (s : State) (m : CohMsg) : (s.takeCoh m).free = s.free := rfl
@[simp] theorem State.takeCoh_fuse (s : State) (m : CohMsg) : (s.takeCoh m).fuse = s.fuse := rfl
@[simp] theorem State.takeCoh_pins (s : State) (m : CohMsg) : (s.takeCoh m).pins = s.pins := rfl
@[simp] theorem State.takeCoh_boot (s : State) (m : CohMsg) : (s.takeCoh m).boot = s.boot := rfl
@[simp] theorem State.takeCoh_time (s : State) (m : CohMsg) : (s.takeCoh m).time = s.time := rfl
@[simp] theorem State.takeCoh_harts (s : State) (m : CohMsg) : (s.takeCoh m).harts = s.harts := rfl
@[simp] theorem State.takeCoh_clusters (s : State) (m : CohMsg) : (s.takeCoh m).clusters = s.clusters := rfl
@[simp] theorem State.takeCoh_slices (s : State) (m : CohMsg) : (s.takeCoh m).slices = s.slices := rfl
@[simp] theorem State.takeCoh_fabric (s : State) (m : CohMsg) : (s.takeCoh m).fabric = s.fabric := rfl
@[simp] theorem State.takeCoh_links (s : State) (m : CohMsg) : (s.takeCoh m).links = s.links := rfl
@[simp] theorem State.takeCoh_mem (s : State) (m : CohMsg) : (s.takeCoh m).mem = s.mem := rfl
@[simp] theorem State.takeCoh_qe (s : State) (m : CohMsg) : (s.takeCoh m).qe = s.qe := rfl
@[simp] theorem State.takeCoh_io (s : State) (m : CohMsg) : (s.takeCoh m).io = s.io := rfl
@[simp] theorem State.takeCoh_sl (s : State) (m : CohMsg) : (s.takeCoh m).sl = s.sl := rfl
@[simp] theorem State.takeCoh_chk (s : State) (m : CohMsg) : (s.takeCoh m).chk = s.chk := rfl
@[simp] theorem State.takeCoh_err (s : State) (m : CohMsg) : (s.takeCoh m).err = s.err := rfl
@[simp] theorem State.takeCoh_clasp (s : State) (m : CohMsg) : (s.takeCoh m).clasp = s.clasp := rfl
@[simp] theorem State.takeCoh_dbg (s : State) (m : CohMsg) : (s.takeCoh m).dbg = s.dbg := rfl
@[simp] theorem State.takeCoh_pwr (s : State) (m : CohMsg) : (s.takeCoh m).pwr = s.pwr := rfl
@[simp] theorem State.takeCoh_ff (s : State) (m : CohMsg) : (s.takeCoh m).ff = s.ff := rfl
@[simp] theorem State.takeCoh_gov (s : State) (m : CohMsg) : (s.takeCoh m).gov = s.gov := rfl

/-! ### needResign -/

@[simp] theorem State.needResign_pending (s : State) : (s.needResign).pending = s.pending := rfl
@[simp] theorem State.needResign_free (s : State) : (s.needResign).free = s.free := rfl
@[simp] theorem State.needResign_fuse (s : State) : (s.needResign).fuse = s.fuse := rfl
@[simp] theorem State.needResign_pins (s : State) : (s.needResign).pins = s.pins := rfl
@[simp] theorem State.needResign_boot (s : State) : (s.needResign).boot = s.boot := rfl
@[simp] theorem State.needResign_time (s : State) : (s.needResign).time = s.time := rfl
@[simp] theorem State.needResign_harts (s : State) : (s.needResign).harts = s.harts := rfl
@[simp] theorem State.needResign_clusters (s : State) : (s.needResign).clusters = s.clusters := rfl
@[simp] theorem State.needResign_slices (s : State) : (s.needResign).slices = s.slices := rfl
@[simp] theorem State.needResign_net (s : State) : (s.needResign).net = s.net := rfl
@[simp] theorem State.needResign_fabric (s : State) : (s.needResign).fabric = s.fabric := rfl
@[simp] theorem State.needResign_links (s : State) : (s.needResign).links = s.links := rfl
@[simp] theorem State.needResign_mem (s : State) : (s.needResign).mem = s.mem := rfl
@[simp] theorem State.needResign_qe (s : State) : (s.needResign).qe = s.qe := rfl
@[simp] theorem State.needResign_io (s : State) : (s.needResign).io = s.io := rfl
@[simp] theorem State.needResign_sl (s : State) : (s.needResign).sl = s.sl := rfl
@[simp] theorem State.needResign_chk (s : State) : (s.needResign).chk = s.chk := rfl
@[simp] theorem State.needResign_err (s : State) : (s.needResign).err = s.err := rfl
@[simp] theorem State.needResign_dbg (s : State) : (s.needResign).dbg = s.dbg := rfl
@[simp] theorem State.needResign_pwr (s : State) : (s.needResign).pwr = s.pwr := rfl
@[simp] theorem State.needResign_ff (s : State) : (s.needResign).ff = s.ff := rfl
@[simp] theorem State.needResign_gov (s : State) : (s.needResign).gov = s.gov := rfl

/-! ### Reading back -/

@[simp] theorem State.hart_setHart_same (s : State) (k : Nat) (v : Hart) : (s.setHart k v).hart k = v :=
  Tab.get_set_same _ _ _ _

theorem State.hart_setHart_other (s : State) {j k : Nat} (v : Hart) (h : j ≠ k) : (s.setHart j v).hart k = s.hart k :=
  Tab.get_set_other _ _ _ h

@[simp] theorem State.cluster_setCluster_same (s : State) (k : Nat) (v : Cluster) : (s.setCluster k v).cluster k = v :=
  Tab.get_set_same _ _ _ _

theorem State.cluster_setCluster_other (s : State) {j k : Nat} (v : Cluster) (h : j ≠ k) : (s.setCluster j v).cluster k = s.cluster k :=
  Tab.get_set_other _ _ _ h

@[simp] theorem State.slice_setSlice_same (s : State) (k : Nat) (v : Slice) : (s.setSlice k v).slice k = v :=
  Tab.get_set_same _ _ _ _

theorem State.slice_setSlice_other (s : State) {j k : Nat} (v : Slice) (h : j ≠ k) : (s.setSlice j v).slice k = s.slice k :=
  Tab.get_set_other _ _ _ h

@[simp] theorem State.xl_setXl_same (s : State) (k : Nat) (v : Xl) : (s.setXl k v).xl k = v :=
  Tab.get_set_same _ _ _ _

theorem State.xl_setXl_other (s : State) {j k : Nat} (v : Xl) (h : j ≠ k) : (s.setXl j v).xl k = s.xl k :=
  Tab.get_set_other _ _ _ h

@[simp] theorem State.partner_setPartner_same (s : State) (k : Nat) (v : Partner) : (s.setPartner k v).partner k = v :=
  Tab.get_set_same _ _ _ _

theorem State.partner_setPartner_other (s : State) {j k : Nat} (v : Partner) (h : j ≠ k) : (s.setPartner j v).partner k = s.partner k :=
  Tab.get_set_other _ _ _ h

@[simp] theorem State.stream_setStream_same (s : State) (k : Nat) (v : Stream) : (s.setStream k v).stream k = v :=
  Tab.get_set_same _ _ _ _

theorem State.stream_setStream_other (s : State) {j k : Nat} (v : Stream) (h : j ≠ k) : (s.setStream j v).stream k = s.stream k :=
  Tab.get_set_other _ _ _ h

@[simp] theorem State.queue_setQueue_same (s : State) (k : Nat) (v : QCtx) : (s.setQueue k v).queue k = v :=
  Tab.get_set_same _ _ _ _

theorem State.queue_setQueue_other (s : State) {j k : Nat} (v : QCtx) (h : j ≠ k) : (s.setQueue j v).queue k = s.queue k :=
  Tab.get_set_other _ _ _ h

@[simp] theorem State.lane_setLane_same (s : State) (k : Nat) (v : Lane) : (s.setLane k v).lane k = v :=
  Tab.get_set_same _ _ _ _

theorem State.lane_setLane_other (s : State) {j k : Nat} (v : Lane) (h : j ≠ k) : (s.setLane j v).lane k = s.lane k :=
  Tab.get_set_other _ _ _ h

@[simp] theorem State.vi_setVi_same (s : State) (k : Nat) (v : Vi) : (s.setVi k v).vi k = v :=
  Tab.get_set_same _ _ _ _

theorem State.vi_setVi_other (s : State) {j k : Nat} (v : Vi) (h : j ≠ k) : (s.setVi j v).vi k = s.vi k :=
  Tab.get_set_other _ _ _ h

@[simp] theorem State.group_setGroup_same (s : State) (k : Nat) (v : PortGroup) : (s.setGroup k v).group k = v :=
  Tab.get_set_same _ _ _ _

theorem State.group_setGroup_other (s : State) {j k : Nat} (v : PortGroup) (h : j ≠ k) : (s.setGroup j v).group k = s.group k :=
  Tab.get_set_other _ _ _ h

@[simp] theorem State.tsn_setTsn_same (s : State) (k : Nat) (v : Tsn) : (s.setTsn k v).tsn k = v :=
  Tab.get_set_same _ _ _ _

theorem State.tsn_setTsn_other (s : State) {j k : Nat} (v : Tsn) (h : j ≠ k) : (s.setTsn j v).tsn k = s.tsn k :=
  Tab.get_set_other _ _ _ h

@[simp] theorem State.slPort_setSlPort_same (s : State) (k : Nat) (v : SlPort) : (s.setSlPort k v).slPort k = v :=
  Tab.get_set_same _ _ _ _

theorem State.slPort_setSlPort_other (s : State) {j k : Nat} (v : SlPort) (h : j ≠ k) : (s.setSlPort j v).slPort k = s.slPort k :=
  Tab.get_set_other _ _ _ h

@[simp] theorem State.breq_setBreq_same (s : State) (k : Nat) (v : Breq) : (s.setBreq k v).breq k = v :=
  Tab.get_set_same _ _ _ _

theorem State.breq_setBreq_other (s : State) {j k : Nat} (v : Breq) (h : j ≠ k) : (s.setBreq j v).breq k = s.breq k :=
  Tab.get_set_other _ _ _ h

@[simp] theorem State.govQ_setGovQ_same (s : State) (k : Nat) (v : GovQ) : (s.setGovQ k v).govQ k = v :=
  Tab.get_set_same _ _ _ _

theorem State.govQ_setGovQ_other (s : State) {j k : Nat} (v : GovQ) (h : j ≠ k) : (s.setGovQ j v).govQ k = s.govQ k :=
  Tab.get_set_other _ _ _ h

@[simp] theorem State.hart_modHart_same (s : State) (k : Nat) (f : Hart → Hart) : (s.modHart k f).hart k = f (s.hart k) :=
  Tab.get_set_same _ _ _ _

theorem State.hart_modHart_other (s : State) {j k : Nat} (f : Hart → Hart) (h : j ≠ k) : (s.modHart j f).hart k = s.hart k :=
  Tab.get_set_other _ _ _ h

@[simp] theorem State.slice_modSlice_same (s : State) (k : Nat) (f : Slice → Slice) : (s.modSlice k f).slice k = f (s.slice k) :=
  Tab.get_set_same _ _ _ _

theorem State.slice_modSlice_other (s : State) {j k : Nat} (f : Slice → Slice) (h : j ≠ k) : (s.modSlice j f).slice k = s.slice k :=
  Tab.get_set_other _ _ _ h

end Sys2Proof.Machine
end

