-- ==== Sys2Proof/Laws/Errors.lean ====
section
/-! SUPPORT. What logging an event and fencing a unit do, said once. -/

namespace Sys2Proof.Machine

@[simp] theorem State.addFence_pending (s : State) (u : UnitId) (n : Nat) : (s.addFence u n).pending = s.pending := by
  unfold State.addFence; dsimp only; unfold State.fenceOne; repeat (first | rfl | split)

@[simp] theorem State.addFence_free (s : State) (u : UnitId) (n : Nat) : (s.addFence u n).free = s.free := by
  unfold State.addFence; dsimp only; unfold State.fenceOne; repeat (first | rfl | split)

@[simp] theorem State.addFence_fuse (s : State) (u : UnitId) (n : Nat) : (s.addFence u n).fuse = s.fuse := by
  unfold State.addFence; dsimp only; unfold State.fenceOne; repeat (first | rfl | split)

@[simp] theorem State.addFence_pins (s : State) (u : UnitId) (n : Nat) : (s.addFence u n).pins = s.pins := by
  unfold State.addFence; dsimp only; unfold State.fenceOne; repeat (first | rfl | split)

@[simp] theorem State.addFence_boot (s : State) (u : UnitId) (n : Nat) : (s.addFence u n).boot = s.boot := by
  unfold State.addFence; dsimp only; unfold State.fenceOne; repeat (first | rfl | split)

@[simp] theorem State.addFence_time (s : State) (u : UnitId) (n : Nat) : (s.addFence u n).time = s.time := by
  unfold State.addFence; dsimp only; unfold State.fenceOne; repeat (first | rfl | split)

@[simp] theorem State.addFence_harts (s : State) (u : UnitId) (n : Nat) : (s.addFence u n).harts = s.harts := by
  unfold State.addFence; dsimp only; unfold State.fenceOne; repeat (first | rfl | split)

@[simp] theorem State.addFence_clusters (s : State) (u : UnitId) (n : Nat) : (s.addFence u n).clusters = s.clusters := by
  unfold State.addFence; dsimp only; unfold State.fenceOne; repeat (first | rfl | split)

@[simp] theorem State.addFence_slices (s : State) (u : UnitId) (n : Nat) : (s.addFence u n).slices = s.slices := by
  unfold State.addFence; dsimp only; unfold State.fenceOne; repeat (first | rfl | split)

@[simp] theorem State.addFence_net (s : State) (u : UnitId) (n : Nat) : (s.addFence u n).net = s.net := by
  unfold State.addFence; dsimp only; unfold State.fenceOne; repeat (first | rfl | split)

@[simp] theorem State.addFence_fabric (s : State) (u : UnitId) (n : Nat) : (s.addFence u n).fabric = s.fabric := by
  unfold State.addFence; dsimp only; unfold State.fenceOne; repeat (first | rfl | split)

@[simp] theorem State.addFence_links (s : State) (u : UnitId) (n : Nat) : (s.addFence u n).links = s.links := by
  unfold State.addFence; dsimp only; unfold State.fenceOne; repeat (first | rfl | split)

@[simp] theorem State.addFence_mem (s : State) (u : UnitId) (n : Nat) : (s.addFence u n).mem = s.mem := by
  unfold State.addFence; dsimp only; unfold State.fenceOne; repeat (first | rfl | split)

@[simp] theorem State.addFence_qe (s : State) (u : UnitId) (n : Nat) : (s.addFence u n).qe = s.qe := by
  unfold State.addFence; dsimp only; unfold State.fenceOne; repeat (first | rfl | split)

@[simp] theorem State.addFence_io (s : State) (u : UnitId) (n : Nat) : (s.addFence u n).io = s.io := by
  unfold State.addFence; dsimp only; unfold State.fenceOne; repeat (first | rfl | split)

@[simp] theorem State.addFence_sl (s : State) (u : UnitId) (n : Nat) : (s.addFence u n).sl = s.sl := by
  unfold State.addFence; dsimp only; unfold State.fenceOne; repeat (first | rfl | split)

@[simp] theorem State.addFence_chk (s : State) (u : UnitId) (n : Nat) : (s.addFence u n).chk = s.chk := by
  unfold State.addFence; dsimp only; unfold State.fenceOne; repeat (first | rfl | split)

@[simp] theorem State.addFence_dbg (s : State) (u : UnitId) (n : Nat) : (s.addFence u n).dbg = s.dbg := by
  unfold State.addFence; dsimp only; unfold State.fenceOne; repeat (first | rfl | split)

@[simp] theorem State.addFence_pwr (s : State) (u : UnitId) (n : Nat) : (s.addFence u n).pwr = s.pwr := by
  unfold State.addFence; dsimp only; unfold State.fenceOne; repeat (first | rfl | split)

@[simp] theorem State.addFence_ff (s : State) (u : UnitId) (n : Nat) : (s.addFence u n).ff = s.ff := by
  unfold State.addFence; dsimp only; unfold State.fenceOne; repeat (first | rfl | split)

@[simp] theorem State.addFence_gov (s : State) (u : UnitId) (n : Nat) : (s.addFence u n).gov = s.gov := by
  unfold State.addFence; dsimp only; unfold State.fenceOne; repeat (first | rfl | split)

@[simp] theorem State.raiseFatal_pending (s : State) (r : ErrRec) : (s.raiseFatal r).pending = s.pending := by
  unfold State.raiseFatal; split <;> rfl

@[simp] theorem State.raiseFatal_free (s : State) (r : ErrRec) : (s.raiseFatal r).free = s.free := by
  unfold State.raiseFatal; split <;> rfl

@[simp] theorem State.raiseFatal_fuse (s : State) (r : ErrRec) : (s.raiseFatal r).fuse = s.fuse := by
  unfold State.raiseFatal; split <;> rfl

@[simp] theorem State.raiseFatal_pins (s : State) (r : ErrRec) : (s.raiseFatal r).pins = s.pins := by
  unfold State.raiseFatal; split <;> rfl

@[simp] theorem State.raiseFatal_time (s : State) (r : ErrRec) : (s.raiseFatal r).time = s.time := by
  unfold State.raiseFatal; split <;> rfl

@[simp] theorem State.raiseFatal_harts (s : State) (r : ErrRec) : (s.raiseFatal r).harts = s.harts := by
  unfold State.raiseFatal; split <;> rfl

@[simp] theorem State.raiseFatal_clusters (s : State) (r : ErrRec) : (s.raiseFatal r).clusters = s.clusters := by
  unfold State.raiseFatal; split <;> rfl

@[simp] theorem State.raiseFatal_slices (s : State) (r : ErrRec) : (s.raiseFatal r).slices = s.slices := by
  unfold State.raiseFatal; split <;> rfl

@[simp] theorem State.raiseFatal_net (s : State) (r : ErrRec) : (s.raiseFatal r).net = s.net := by
  unfold State.raiseFatal; split <;> rfl

@[simp] theorem State.raiseFatal_fabric (s : State) (r : ErrRec) : (s.raiseFatal r).fabric = s.fabric := by
  unfold State.raiseFatal; split <;> rfl

@[simp] theorem State.raiseFatal_links (s : State) (r : ErrRec) : (s.raiseFatal r).links = s.links := by
  unfold State.raiseFatal; split <;> rfl

@[simp] theorem State.raiseFatal_mem (s : State) (r : ErrRec) : (s.raiseFatal r).mem = s.mem := by
  unfold State.raiseFatal; split <;> rfl

@[simp] theorem State.raiseFatal_qe (s : State) (r : ErrRec) : (s.raiseFatal r).qe = s.qe := by
  unfold State.raiseFatal; split <;> rfl

@[simp] theorem State.raiseFatal_io (s : State) (r : ErrRec) : (s.raiseFatal r).io = s.io := by
  unfold State.raiseFatal; split <;> rfl

@[simp] theorem State.raiseFatal_sl (s : State) (r : ErrRec) : (s.raiseFatal r).sl = s.sl := by
  unfold State.raiseFatal; split <;> rfl

@[simp] theorem State.raiseFatal_chk (s : State) (r : ErrRec) : (s.raiseFatal r).chk = s.chk := by
  unfold State.raiseFatal; split <;> rfl

@[simp] theorem State.raiseFatal_err (s : State) (r : ErrRec) : (s.raiseFatal r).err = s.err := by
  unfold State.raiseFatal; split <;> rfl

@[simp] theorem State.raiseFatal_clasp (s : State) (r : ErrRec) : (s.raiseFatal r).clasp = s.clasp := by
  unfold State.raiseFatal; split <;> rfl

@[simp] theorem State.raiseFatal_dbg (s : State) (r : ErrRec) : (s.raiseFatal r).dbg = s.dbg := by
  unfold State.raiseFatal; split <;> rfl

@[simp] theorem State.raiseFatal_pwr (s : State) (r : ErrRec) : (s.raiseFatal r).pwr = s.pwr := by
  unfold State.raiseFatal; split <;> rfl

@[simp] theorem State.raiseFatal_ff (s : State) (r : ErrRec) : (s.raiseFatal r).ff = s.ff := by
  unfold State.raiseFatal; split <;> rfl

@[simp] theorem State.raiseFatal_gov (s : State) (r : ErrRec) : (s.raiseFatal r).gov = s.gov := by
  unfold State.raiseFatal; split <;> rfl

@[simp] theorem State.log_pending (s : State) (r : ErrRec) : (s.log r).pending = s.pending := by
  simp only [State.log]; repeat (first | split | rfl | simp)

@[simp] theorem State.log_free (s : State) (r : ErrRec) : (s.log r).free = s.free := by
  simp only [State.log]; repeat (first | split | rfl | simp)

@[simp] theorem State.log_fuse (s : State) (r : ErrRec) : (s.log r).fuse = s.fuse := by
  simp only [State.log]; repeat (first | split | rfl | simp)

@[simp] theorem State.log_pins (s : State) (r : ErrRec) : (s.log r).pins = s.pins := by
  simp only [State.log]; repeat (first | split | rfl | simp)

@[simp] theorem State.log_time (s : State) (r : ErrRec) : (s.log r).time = s.time := by
  simp only [State.log]; repeat (first | split | rfl | simp)

@[simp] theorem State.log_harts (s : State) (r : ErrRec) : (s.log r).harts = s.harts := by
  simp only [State.log]; repeat (first | split | rfl | simp)

@[simp] theorem State.log_clusters (s : State) (r : ErrRec) : (s.log r).clusters = s.clusters := by
  simp only [State.log]; repeat (first | split | rfl | simp)

@[simp] theorem State.log_slices (s : State) (r : ErrRec) : (s.log r).slices = s.slices := by
  simp only [State.log]; repeat (first | split | rfl | simp)

@[simp] theorem State.log_net (s : State) (r : ErrRec) : (s.log r).net = s.net := by
  simp only [State.log]; repeat (first | split | rfl | simp)

@[simp] theorem State.log_fabric (s : State) (r : ErrRec) : (s.log r).fabric = s.fabric := by
  simp only [State.log]; repeat (first | split | rfl | simp)

@[simp] theorem State.log_links (s : State) (r : ErrRec) : (s.log r).links = s.links := by
  simp only [State.log]; repeat (first | split | rfl | simp)

@[simp] theorem State.log_mem (s : State) (r : ErrRec) : (s.log r).mem = s.mem := by
  simp only [State.log]; repeat (first | split | rfl | simp)

@[simp] theorem State.log_qe (s : State) (r : ErrRec) : (s.log r).qe = s.qe := by
  simp only [State.log]; repeat (first | split | rfl | simp)

@[simp] theorem State.log_io (s : State) (r : ErrRec) : (s.log r).io = s.io := by
  simp only [State.log]; repeat (first | split | rfl | simp)

@[simp] theorem State.log_sl (s : State) (r : ErrRec) : (s.log r).sl = s.sl := by
  simp only [State.log]; repeat (first | split | rfl | simp)

@[simp] theorem State.log_chk (s : State) (r : ErrRec) : (s.log r).chk = s.chk := by
  simp only [State.log]; repeat (first | split | rfl | simp)

@[simp] theorem State.log_dbg (s : State) (r : ErrRec) : (s.log r).dbg = s.dbg := by
  simp only [State.log]; repeat (first | split | rfl | simp)

@[simp] theorem State.log_pwr (s : State) (r : ErrRec) : (s.log r).pwr = s.pwr := by
  simp only [State.log]; repeat (first | split | rfl | simp)

@[simp] theorem State.log_ff (s : State) (r : ErrRec) : (s.log r).ff = s.ff := by
  simp only [State.log]; repeat (first | split | rfl | simp)

@[simp] theorem State.log_gov (s : State) (r : ErrRec) : (s.log r).gov = s.gov := by
  simp only [State.log]; repeat (first | split | rfl | simp)

@[simp] theorem State.raiseFatal_boot_phase (s : State) (r : ErrRec) : (s.raiseFatal r).boot.phase = s.boot.phase := by
  unfold State.raiseFatal; split <;> rfl

@[simp] theorem State.raiseFatal_boot_warm (s : State) (r : ErrRec) : (s.raiseFatal r).boot.warm = s.boot.warm := by
  unfold State.raiseFatal; split <;> rfl

@[simp] theorem State.raiseFatal_boot_cause (s : State) (r : ErrRec) : (s.raiseFatal r).boot.cause = s.boot.cause := by
  unfold State.raiseFatal; split <;> rfl

@[simp] theorem State.raiseFatal_boot_pllLocked (s : State) (r : ErrRec) : (s.raiseFatal r).boot.pllLocked = s.boot.pllLocked := by
  unfold State.raiseFatal; split <;> rfl

@[simp] theorem State.raiseFatal_boot_claspUp (s : State) (r : ErrRec) : (s.raiseFatal r).boot.claspUp = s.boot.claspUp := by
  unfold State.raiseFatal; split <;> rfl

@[simp] theorem State.raiseFatal_boot_booted (s : State) (r : ErrRec) : (s.raiseFatal r).boot.booted = s.boot.booted := by
  unfold State.raiseFatal; split <;> rfl

@[simp] theorem State.raiseFatal_boot_candidates (s : State) (r : ErrRec) : (s.raiseFatal r).boot.candidates = s.boot.candidates := by
  unfold State.raiseFatal; split <;> rfl

@[simp] theorem State.raiseFatal_boot_current (s : State) (r : ErrRec) : (s.raiseFatal r).boot.current = s.boot.current := by
  unfold State.raiseFatal; split <;> rfl

@[simp] theorem State.raiseFatal_boot_memTrained (s : State) (r : ErrRec) : (s.raiseFatal r).boot.memTrained = s.boot.memTrained := by
  unfold State.raiseFatal; split <;> rfl

@[simp] theorem State.raiseFatal_boot_flush (s : State) (r : ErrRec) : (s.raiseFatal r).boot.flush = s.boot.flush := by
  unfold State.raiseFatal; split <;> rfl

@[simp] theorem State.raiseFatal_boot_flushTrigger (s : State) (r : ErrRec) : (s.raiseFatal r).boot.flushTrigger = s.boot.flushTrigger := by
  unfold State.raiseFatal; split <;> rfl

@[simp] theorem State.raiseFatal_boot_flushTime (s : State) (r : ErrRec) : (s.raiseFatal r).boot.flushTime = s.boot.flushTime := by
  unfold State.raiseFatal; split <;> rfl

@[simp] theorem State.raiseFatal_boot_flushByRule (s : State) (r : ErrRec) : (s.raiseFatal r).boot.flushByRule = s.boot.flushByRule := by
  unfold State.raiseFatal; split <;> rfl

@[simp] theorem State.raiseFatal_boot_bootCount (s : State) (r : ErrRec) : (s.raiseFatal r).boot.bootCount = s.boot.bootCount := by
  unfold State.raiseFatal; split <;> rfl

@[simp] theorem State.addFence_clasp_owners (s : State) (u : UnitId) (n : Nat) : (s.addFence u n).clasp.owners = s.clasp.owners := by
  unfold State.addFence; dsimp only; unfold State.fenceOne; repeat (first | rfl | split)

@[simp] theorem State.addFence_clasp_updCounter (s : State) (u : UnitId) (n : Nat) : (s.addFence u n).clasp.updCounter = s.clasp.updCounter := by
  unfold State.addFence; dsimp only; unfold State.fenceOne; repeat (first | rfl | split)

@[simp] theorem State.addFence_clasp_floor (s : State) (u : UnitId) (n : Nat) : (s.addFence u n).clasp.floor = s.clasp.floor := by
  unfold State.addFence; dsimp only; unfold State.fenceOne; repeat (first | rfl | split)

@[simp] theorem State.addFence_clasp_svn (s : State) (u : UnitId) (n : Nat) : (s.addFence u n).clasp.svn = s.clasp.svn := by
  unfold State.addFence; dsimp only; unfold State.fenceOne; repeat (first | rfl | split)

@[simp] theorem State.addFence_clasp_flash (s : State) (u : UnitId) (n : Nat) : (s.addFence u n).clasp.flash = s.clasp.flash := by
  unfold State.addFence; dsimp only; unfold State.fenceOne; repeat (first | rfl | split)

@[simp] theorem State.addFence_clasp_eff (s : State) (u : UnitId) (n : Nat) : (s.addFence u n).clasp.eff = s.clasp.eff := by
  unfold State.addFence; dsimp only; unfold State.fenceOne; repeat (first | rfl | split)

@[simp] theorem State.addFence_clasp_applied (s : State) (u : UnitId) (n : Nat) : (s.addFence u n).clasp.applied = s.clasp.applied := by
  unfold State.addFence; dsimp only; unfold State.fenceOne; repeat (first | rfl | split)

@[simp] theorem State.addFence_clasp_ownerHash (s : State) (u : UnitId) (n : Nat) : (s.addFence u n).clasp.ownerHash = s.clasp.ownerHash := by
  unfold State.addFence; dsimp only; unfold State.fenceOne; repeat (first | rfl | split)

@[simp] theorem State.addFence_clasp_digests (s : State) (u : UnitId) (n : Nat) : (s.addFence u n).clasp.digests = s.clasp.digests := by
  unfold State.addFence; dsimp only; unfold State.fenceOne; repeat (first | rfl | split)

@[simp] theorem State.addFence_clasp_gens (s : State) (u : UnitId) (n : Nat) : (s.addFence u n).clasp.gens = s.clasp.gens := by
  unfold State.addFence; dsimp only; unfold State.fenceOne; repeat (first | rfl | split)

@[simp] theorem State.addFence_clasp_noValid (s : State) (u : UnitId) (n : Nat) : (s.addFence u n).clasp.noValid = s.clasp.noValid := by
  unfold State.addFence; dsimp only; unfold State.fenceOne; repeat (first | rfl | split)

@[simp] theorem State.addFence_clasp_cand (s : State) (u : UnitId) (n : Nat) : (s.addFence u n).clasp.cand = s.clasp.cand := by
  unfold State.addFence; dsimp only; unfold State.fenceOne; repeat (first | rfl | split)

@[simp] theorem State.addFence_clasp_breq (s : State) (u : UnitId) (n : Nat) : (s.addFence u n).clasp.breq = s.clasp.breq := by
  unfold State.addFence; dsimp only; unfold State.fenceOne; repeat (first | rfl | split)

@[simp] theorem State.addFence_clasp_seq (s : State) (u : UnitId) (n : Nat) : (s.addFence u n).clasp.seq = s.clasp.seq := by
  unfold State.addFence; dsimp only; unfold State.fenceOne; repeat (first | rfl | split)

@[simp] theorem State.addFence_clasp_queue (s : State) (u : UnitId) (n : Nat) : (s.addFence u n).clasp.queue = s.clasp.queue := by
  unfold State.addFence; dsimp only; unfold State.fenceOne; repeat (first | rfl | split)

@[simp] theorem State.addFence_clasp_work (s : State) (u : UnitId) (n : Nat) : (s.addFence u n).clasp.work = s.clasp.work := by
  unfold State.addFence; dsimp only; unfold State.fenceOne; repeat (first | rfl | split)

@[simp] theorem State.addFence_clasp_epoch (s : State) (u : UnitId) (n : Nat) : (s.addFence u n).clasp.epoch = s.clasp.epoch := by
  unfold State.addFence; dsimp only; unfold State.fenceOne; repeat (first | rfl | split)

@[simp] theorem State.addFence_clasp_colophon (s : State) (u : UnitId) (n : Nat) : (s.addFence u n).clasp.colophon = s.clasp.colophon := by
  unfold State.addFence; dsimp only; unfold State.fenceOne; repeat (first | rfl | split)

@[simp] theorem State.addFence_clasp_smbAnswer (s : State) (u : UnitId) (n : Nat) : (s.addFence u n).clasp.smbAnswer = s.clasp.smbAnswer := by
  unfold State.addFence; dsimp only; unfold State.fenceOne; repeat (first | rfl | split)

@[simp] theorem State.addFence_clasp_challenge (s : State) (u : UnitId) (n : Nat) : (s.addFence u n).clasp.challenge = s.clasp.challenge := by
  unfold State.addFence; dsimp only; unfold State.fenceOne; repeat (first | rfl | split)

@[simp] theorem State.addFence_clasp_session (s : State) (u : UnitId) (n : Nat) : (s.addFence u n).clasp.session = s.clasp.session := by
  unfold State.addFence; dsimp only; unfold State.fenceOne; repeat (first | rfl | split)

@[simp] theorem State.addFence_clasp_swd (s : State) (u : UnitId) (n : Nat) : (s.addFence u n).clasp.swd = s.clasp.swd := by
  unfold State.addFence; dsimp only; unfold State.fenceOne; repeat (first | rfl | split)

@[simp] theorem State.log_boot_phase (s : State) (r : ErrRec) : (s.log r).boot.phase = s.boot.phase := by
  simp only [State.log]; repeat (first | split | rfl | simp)

@[simp] theorem State.log_boot_warm (s : State) (r : ErrRec) : (s.log r).boot.warm = s.boot.warm := by
  simp only [State.log]; repeat (first | split | rfl | simp)

@[simp] theorem State.log_boot_cause (s : State) (r : ErrRec) : (s.log r).boot.cause = s.boot.cause := by
  simp only [State.log]; repeat (first | split | rfl | simp)

@[simp] theorem State.log_boot_pllLocked (s : State) (r : ErrRec) : (s.log r).boot.pllLocked = s.boot.pllLocked := by
  simp only [State.log]; repeat (first | split | rfl | simp)

@[simp] theorem State.log_boot_claspUp (s : State) (r : ErrRec) : (s.log r).boot.claspUp = s.boot.claspUp := by
  simp only [State.log]; repeat (first | split | rfl | simp)

@[simp] theorem State.log_boot_booted (s : State) (r : ErrRec) : (s.log r).boot.booted = s.boot.booted := by
  simp only [State.log]; repeat (first | split | rfl | simp)

@[simp] theorem State.log_boot_candidates (s : State) (r : ErrRec) : (s.log r).boot.candidates = s.boot.candidates := by
  simp only [State.log]; repeat (first | split | rfl | simp)

@[simp] theorem State.log_boot_current (s : State) (r : ErrRec) : (s.log r).boot.current = s.boot.current := by
  simp only [State.log]; repeat (first | split | rfl | simp)

@[simp] theorem State.log_boot_memTrained (s : State) (r : ErrRec) : (s.log r).boot.memTrained = s.boot.memTrained := by
  simp only [State.log]; repeat (first | split | rfl | simp)

@[simp] theorem State.log_boot_flush (s : State) (r : ErrRec) : (s.log r).boot.flush = s.boot.flush := by
  simp only [State.log]; repeat (first | split | rfl | simp)

@[simp] theorem State.log_boot_flushTrigger (s : State) (r : ErrRec) : (s.log r).boot.flushTrigger = s.boot.flushTrigger := by
  simp only [State.log]; repeat (first | split | rfl | simp)

@[simp] theorem State.log_boot_flushTime (s : State) (r : ErrRec) : (s.log r).boot.flushTime = s.boot.flushTime := by
  simp only [State.log]; repeat (first | split | rfl | simp)

@[simp] theorem State.log_boot_flushByRule (s : State) (r : ErrRec) : (s.log r).boot.flushByRule = s.boot.flushByRule := by
  simp only [State.log]; repeat (first | split | rfl | simp)

@[simp] theorem State.log_boot_bootCount (s : State) (r : ErrRec) : (s.log r).boot.bootCount = s.boot.bootCount := by
  simp only [State.log]; repeat (first | split | rfl | simp)

@[simp] theorem State.log_clasp_owners (s : State) (r : ErrRec) : (s.log r).clasp.owners = s.clasp.owners := by
  simp only [State.log]; repeat (first | split | rfl | simp)

@[simp] theorem State.log_clasp_updCounter (s : State) (r : ErrRec) : (s.log r).clasp.updCounter = s.clasp.updCounter := by
  simp only [State.log]; repeat (first | split | rfl | simp)

@[simp] theorem State.log_clasp_floor (s : State) (r : ErrRec) : (s.log r).clasp.floor = s.clasp.floor := by
  simp only [State.log]; repeat (first | split | rfl | simp)

@[simp] theorem State.log_clasp_svn (s : State) (r : ErrRec) : (s.log r).clasp.svn = s.clasp.svn := by
  simp only [State.log]; repeat (first | split | rfl | simp)

@[simp] theorem State.log_clasp_flash (s : State) (r : ErrRec) : (s.log r).clasp.flash = s.clasp.flash := by
  simp only [State.log]; repeat (first | split | rfl | simp)

@[simp] theorem State.log_clasp_eff (s : State) (r : ErrRec) : (s.log r).clasp.eff = s.clasp.eff := by
  simp only [State.log]; repeat (first | split | rfl | simp)

@[simp] theorem State.log_clasp_applied (s : State) (r : ErrRec) : (s.log r).clasp.applied = s.clasp.applied := by
  simp only [State.log]; repeat (first | split | rfl | simp)

@[simp] theorem State.log_clasp_ownerHash (s : State) (r : ErrRec) : (s.log r).clasp.ownerHash = s.clasp.ownerHash := by
  simp only [State.log]; repeat (first | split | rfl | simp)

@[simp] theorem State.log_clasp_digests (s : State) (r : ErrRec) : (s.log r).clasp.digests = s.clasp.digests := by
  simp only [State.log]; repeat (first | split | rfl | simp)

@[simp] theorem State.log_clasp_gens (s : State) (r : ErrRec) : (s.log r).clasp.gens = s.clasp.gens := by
  simp only [State.log]; repeat (first | split | rfl | simp)

@[simp] theorem State.log_clasp_noValid (s : State) (r : ErrRec) : (s.log r).clasp.noValid = s.clasp.noValid := by
  simp only [State.log]; repeat (first | split | rfl | simp)

@[simp] theorem State.log_clasp_cand (s : State) (r : ErrRec) : (s.log r).clasp.cand = s.clasp.cand := by
  simp only [State.log]; repeat (first | split | rfl | simp)

@[simp] theorem State.log_clasp_breq (s : State) (r : ErrRec) : (s.log r).clasp.breq = s.clasp.breq := by
  simp only [State.log]; repeat (first | split | rfl | simp)

@[simp] theorem State.log_clasp_seq (s : State) (r : ErrRec) : (s.log r).clasp.seq = s.clasp.seq := by
  simp only [State.log]; repeat (first | split | rfl | simp)

@[simp] theorem State.log_clasp_queue (s : State) (r : ErrRec) : (s.log r).clasp.queue = s.clasp.queue := by
  simp only [State.log]; repeat (first | split | rfl | simp)

@[simp] theorem State.log_clasp_work (s : State) (r : ErrRec) : (s.log r).clasp.work = s.clasp.work := by
  simp only [State.log]; repeat (first | split | rfl | simp)

@[simp] theorem State.log_clasp_epoch (s : State) (r : ErrRec) : (s.log r).clasp.epoch = s.clasp.epoch := by
  simp only [State.log]; repeat (first | split | rfl | simp)

@[simp] theorem State.log_clasp_colophon (s : State) (r : ErrRec) : (s.log r).clasp.colophon = s.clasp.colophon := by
  simp only [State.log]; repeat (first | split | rfl | simp)

@[simp] theorem State.log_clasp_smbAnswer (s : State) (r : ErrRec) : (s.log r).clasp.smbAnswer = s.clasp.smbAnswer := by
  simp only [State.log]; repeat (first | split | rfl | simp)

@[simp] theorem State.log_clasp_challenge (s : State) (r : ErrRec) : (s.log r).clasp.challenge = s.clasp.challenge := by
  simp only [State.log]; repeat (first | split | rfl | simp)

@[simp] theorem State.log_clasp_session (s : State) (r : ErrRec) : (s.log r).clasp.session = s.clasp.session := by
  simp only [State.log]; repeat (first | split | rfl | simp)

@[simp] theorem State.log_clasp_swd (s : State) (r : ErrRec) : (s.log r).clasp.swd = s.clasp.swd := by
  simp only [State.log]; repeat (first | split | rfl | simp)

theorem State.fenceOne_low (s : State) (u : UnitId) (n : Nat) : (s.fenceOne u n).err.low = s.err.low := by
  unfold State.fenceOne; split <;> rfl

theorem State.addFence_low (s : State) (u : UnitId) (n : Nat) : (s.addFence u n).err.low = s.err.low := by
  unfold State.addFence; dsimp only; split <;> simp only [State.fenceOne_low]

theorem State.raiseFatal_low (s : State) (r : ErrRec) : (s.raiseFatal r).err.low = s.err.low := by
  unfold State.raiseFatal; split <;> rfl

/-- The record that an event forms: stamped with the time of its die, its world tag decided (R338, R361). -/
theorem State.log_low (s : State) (r : ErrRec) :
    (s.log r).err.low = (s.err.setLow ((s.err.lowCol (originUnit r)).receive
      { r with first := s.dieTime (nodeDie r.origin), last := s.dieTime (nodeDie r.origin), secure := s.recordSecure r })).low := by
  simp only [State.log]
  repeat (first | rfl | split | simp only [State.addFence_low, State.raiseFatal_low])

theorem LowCol.receive_upward (c : LowCol) (r : ErrRec) : (c.receive r).upward = c.upward ++ [r] := by
  unfold LowCol.receive; split <;> rfl

theorem LowCol.receive_unit (c : LowCol) (r : ErrRec) : (c.receive r).unit = c.unit := by
  unfold LowCol.receive; split <;> rfl

theorem Errors.lowCol_unit (e : Errors) (u : UnitId) : (e.lowCol u).unit = u := by
  unfold Errors.lowCol
  cases h : e.low.find? (fun c => c.unit == u) with
  | none => rfl
  | some c => simpa using List.find?_some h

/-- A collector that is set stands in the list. -/
theorem Errors.setLow_mem (e : Errors) (c : LowCol) : c ∈ (e.setLow c).low := by
  simp only [Errors.setLow]
  split
  · next h =>
    obtain ⟨d, hd, hu⟩ := List.any_eq_true.mp h
    exact List.mem_map.mpr ⟨d, hd, by simp [hu]⟩
  · simp

/-- Every collector but the one of the unit that is set stays. -/
theorem Errors.setLow_keeps (e : Errors) (c d : LowCol) (hd : d ∈ e.low) (hu : d.unit ≠ c.unit) : d ∈ (e.setLow c).low := by
  simp only [Errors.setLow]
  split
  · exact List.mem_map.mpr ⟨d, hd, by simp [hu]⟩
  · exact List.mem_append_left _ hd

theorem State.carries_iff (s : State) (y : Syndrome) :
    s.carries y = true ↔ ∃ c ∈ s.err.low, ∃ r ∈ c.upward, r.syndrome = y.code := by
  simp [State.carries, List.any_eq_true]

/-- A logged event's record is on its way up. -/
theorem State.log_carries (s : State) (r : ErrRec) (y : Syndrome) (h : r.syndrome = y.code) : (s.log r).carries y = true := by
  rw [State.carries_iff, State.log_low]
  refine ⟨_, Errors.setLow_mem _ _, ?_⟩
  rw [LowCol.receive_upward]
  exact ⟨_, List.mem_append_right _ (List.mem_singleton.mpr rfl), h⟩

end Sys2Proof.Machine
end

