-- ==== Sys2Proof/Laws/Fabric.lean ====
section
/-! SUPPORT. What sending and taking a message do to the network, and what an engine's count of its own traffic changes (R220), said once. -/

namespace Sys2Proof.Machine

@[simp] theorem Net.note_coh (n : Net) (i c b : Nat) (l : Option Nat) : (n.note i c b l).coh = n.coh := rfl
@[simp] theorem Net.note_mail (n : Net) (i c b : Nat) (l : Option Nat) : (n.note i c b l).mail = n.mail := rfl
@[simp] theorem Net.note_ans (n : Net) (i c b : Nat) (l : Option Nat) : (n.note i c b l).ans = n.ans := rfl
@[simp] theorem Net.note_msi (n : Net) (i c b : Nat) (l : Option Nat) : (n.note i c b l).msi = n.msi := rfl
@[simp] theorem Net.note_io (n : Net) (i c b : Nat) (l : Option Nat) : (n.note i c b l).io = n.io := rfl

@[simp] theorem Net.noteAt_coh (n : Net) (x k c b : Nat) (l : Option Nat) : (n.noteAt x k c b l).coh = n.coh := by
  unfold Net.noteAt; split <;> rfl

@[simp] theorem Net.noteAt_mail (n : Net) (x k c b : Nat) (l : Option Nat) : (n.noteAt x k c b l).mail = n.mail := by
  unfold Net.noteAt; split <;> rfl

@[simp] theorem Net.noteAt_io (n : Net) (x k c b : Nat) (l : Option Nat) : (n.noteAt x k c b l).io = n.io := by
  unfold Net.noteAt; split <;> rfl

@[simp] theorem Net.noteAt_msi (n : Net) (x k c b : Nat) (l : Option Nat) : (n.noteAt x k c b l).msi = n.msi := by
  unfold Net.noteAt; split <;> rfl

@[simp] theorem Net.noteSent_coh (n : Net) (m : CohMsg) : (n.noteSent m).coh = n.coh := by
  unfold Net.noteSent; split <;> simp

@[simp] theorem Net.noteSent_mail (n : Net) (m : CohMsg) : (n.noteSent m).mail = n.mail := by
  unfold Net.noteSent; split <;> simp

@[simp] theorem Net.noteSent_io (n : Net) (m : CohMsg) : (n.noteSent m).io = n.io := by
  unfold Net.noteSent; split <;> simp

@[simp] theorem Net.noteSent_msi (n : Net) (m : CohMsg) : (n.noteSent m).msi = n.msi := by
  unfold Net.noteSent; split <;> simp

@[simp] theorem State.sendCoh_coh (s : State) (m : CohMsg) : (s.sendCoh m).net.coh = s.net.coh ++ [m] := by
  simp [State.sendCoh]

@[simp] theorem State.sendCoh_io_msgs (s : State) (m : CohMsg) : (s.sendCoh m).net.io = s.net.io := by simp [State.sendCoh]

@[simp] theorem State.sendCoh_mail (s : State) (m : CohMsg) : (s.sendCoh m).net.mail = s.net.mail := by simp [State.sendCoh]

/-- A message taken is gone from the messages in flight. -/
@[simp] theorem State.takeCoh_coh (s : State) (m : CohMsg) : (s.takeCoh m).net.coh = s.net.coh.erase m := by
  unfold State.takeCoh
  by_cases h : m ∈ s.net.coh
  · simp [h]
  · simp [h, List.erase_of_not_mem h]

@[simp] theorem State.takeCoh_io_msgs (s : State) (m : CohMsg) : (s.takeCoh m).net.io = s.net.io := by
  unfold State.takeCoh; simp; split <;> simp

/-- A count of traffic changes the network's statistics only. -/
theorem State.noteStats_frame (s : State) (i c b : Nat) (l : Option Nat) :
    ∃ p, s.noteStats i c b l = { s with net := { s.net with stats := p } } := ⟨_, rfl⟩

theorem State.noteAt_frame (s : State) (x k c b : Nat) (l : Option Nat) :
    ∃ p, s.noteAt x k c b l = { s with net := { s.net with stats := p } } := by
  unfold State.noteAt Net.noteAt
  split
  · exact ⟨_, rfl⟩
  · exact ⟨s.net.stats, rfl⟩

/-- An engine's traffic changes the free values' counter and its statistics page only. -/
theorem State.noteEngine_frame (s : State) (x : Nat) :
    ∃ k p, s.noteEngine x = { s with free := k, net := { s.net with stats := p } } := by
  unfold State.noteEngine
  split
  · exact ⟨s.free + 1, _, rfl⟩
  · exact ⟨s.free, s.net.stats, rfl⟩

theorem State.noteReads_frame (f : Nat) (s : State) (x a n : Nat) :
    ∃ k p, s.noteReads f x a n = { s with free := k, net := { s.net with stats := p } } := by
  induction f generalizing s a n with
  | zero => exact ⟨s.free, s.net.stats, rfl⟩
  | succ f ih =>
    unfold State.noteReads
    split
    · exact ⟨s.free, s.net.stats, rfl⟩
    · obtain ⟨k, p, h⟩ := s.noteEngine_frame x
      obtain ⟨k2, p2, h2⟩ := ih (s.noteEngine x) (a + pieceSize a n) (n - pieceSize a n)
      exact ⟨k2, p2, by rw [h2, h]⟩

/-- What an engine reads from memory is what memory holds; the read changes the free values' counter and its statistics page only. -/
theorem State.busRead_memory (s : State) (x a n : Nat) (h : (rangeOf a).isMemory = true) :
    ∃ t, s.busRead x a n = (t.coherentRead a n, t.coherentPoison a n, t)
      ∧ ∃ k p, t = { s with free := k, net := { s.net with stats := p } } := by
  refine ⟨s.noteReads (n / 64 + 14) x a n, by simp [State.busRead, h], s.noteReads_frame _ _ _ _⟩

end Sys2Proof.Machine
end

