-- ==== Sys2Proof/Laws/Hart.lean ====
section
/-! SUPPORT. What counting an event, retiring an instruction and taking a trap can do to a hart, said once. -/

namespace Sys2Proof.Machine

/-! ### Registers (R82) -/

@[simp] theorem Hart.getX_zero (x : Hart) : x.getX 0 = 0 := rfl

/-- A register written reads back; x0 stays zero, and every other register reads as before. -/
theorem Hart.getX_setX (x : Hart) (j k : Nat) (v : Word) :
    (x.setX j v).getX k = if k = 0 then 0 else if j = k then v else x.getX k := by
  unfold Hart.getX Hart.setX
  by_cases hk : k = 0
  · simp [hk]
  · by_cases hj : j = 0
    · simp [hk, hj, Ne.symm hk]
    · simp only [hk, hj, if_false]
      rw [Tab.get_set]

theorem Hart.getCsr_setCsr (x : Hart) (j k : Nat) (v : Word) : (x.setCsr j v).getCsr k = if j = k then v else x.getCsr k :=
  Tab.get_set ..

/-! ### Counting (R404 to R407) -/

theorem Hart.addCnt_only (fuel : Nat) (x : Hart) (n k : Nat) : ∃ c o, Hart.addCnt fuel x n k = { x with cnt := c, cntOvf := o } := by
  induction fuel generalizing x n k with
  | zero => exact ⟨_, _, rfl⟩
  | succ f ih =>
    rw [Hart.addCnt]
    split
    · exact ⟨_, _, rfl⟩
    · split
      · obtain ⟨c, o, h⟩ := ih { x with cnt := Tab.set x.cnt n (BitVec.ofNat 48 ((Tab.get x.cnt 0 n).toNat + k)),
                                        cntOvf := x.cntOvf ||| BitVec.ofNat 128 (2 ^ n) } (n + 1) (((Tab.get x.cnt 0 n).toNat + k) / 2 ^ 48)
        exact ⟨c, o, h⟩
      · exact ⟨_, _, rfl⟩

theorem Hart.countStd_only (x : Hart) (n k i : Nat) : ∃ r, x.countStd n k i = { x with csr := r } := by
  unfold Hart.countStd
  dsimp only
  split
  · split
    · exact ⟨_, rfl⟩
    · exact ⟨_, rfl⟩
  · exact ⟨_, rfl⟩

theorem Hart.countStds_only (l : List Nat) (x : Hart) (n k : Nat) : ∃ r, l.foldl (fun x i => x.countStd n k i) x = { x with csr := r } := by
  induction l generalizing x with
  | nil => exact ⟨_, rfl⟩
  | cons i l ih =>
    obtain ⟨r, h⟩ := x.countStd_only n k i
    rw [List.foldl_cons, h]
    exact ih _

/-- An event changes the core's counters and the CSRs of the standard ones, nothing else. -/
theorem Hart.count_only (x : Hart) (n k : Nat) : ∃ c o r, x.count n k = { x with cnt := c, cntOvf := o, csr := r } := by
  have step : ∀ y : Hart, (∃ c o, y = { x with cnt := c, cntOvf := o }) →
      ∃ c o r, ((List.range 29).map (· + 3)).foldl (fun x i => x.countStd n k i) y = { x with cnt := c, cntOvf := o, csr := r } := by
    rintro _ ⟨c, o, rfl⟩
    obtain ⟨r, h⟩ := Hart.countStds_only ((List.range 29).map (· + 3)) { x with cnt := c, cntOvf := o } n k
    exact ⟨c, o, r, h⟩
  unfold Hart.count
  split
  · exact step x ⟨_, _, rfl⟩
  · exact step _ (Hart.addCnt_only 128 x n k)

theorem Hart.counts_only (l : List Nat) (x : Hart) : ∃ c o r, l.foldl (fun y n => y.count n 1) x = { x with cnt := c, cntOvf := o, csr := r } := by
  induction l generalizing x with
  | nil => exact ⟨_, _, _, rfl⟩
  | cons n l ih =>
    obtain ⟨c, o, r, h⟩ := x.count_only n 1
    rw [List.foldl_cons, h]
    exact ih _

theorem Hart.countRetire_only (x : Hart) (cl : RetClass) : ∃ c o r, x.countRetire cl = { x with cnt := c, cntOvf := o, csr := r } := by
  unfold Hart.countRetire
  obtain ⟨c, o, r, h⟩ := Hart.counts_only (retIndex cl :: retAlso cl) x
  rw [h]
  obtain ⟨c, o, r, h⟩ := Hart.count_only { x with cnt := c, cntOvf := o, csr := r } 1 1
  rw [h]
  dsimp only
  split
  · exact ⟨_, _, _, rfl⟩
  · exact ⟨_, _, _, rfl⟩

/-! ### Retirement (R88, R92) -/

theorem Hart.loopAct_only (x : Hart) (level : Nat) (next : Word) :
    ∃ c o r l0 l1 b p, (x.loopAct level next).1 = { x with cnt := c, cntOvf := o, csr := r, loop0 := l0, loop1 := l1, loopBuf := b, pc := p } := by
  have key : ∀ l0 l1 b p, ∃ c o r, ({ x with loop0 := l0, loop1 := l1, loopBuf := b, pc := p } : Hart).count 10 1
      = { x with cnt := c, cntOvf := o, csr := r, loop0 := l0, loop1 := l1, loopBuf := b, pc := p } :=
    fun l0 l1 b p => Hart.count_only { x with loop0 := l0, loop1 := l1, loopBuf := b, pc := p } 10 1
  have act : ∀ l0 l1 b p, ∃ c o r l0' l1' b' p', ({ x with loop0 := l0, loop1 := l1, loopBuf := b, pc := p } : Hart).count 10 1
      = { x with cnt := c, cntOvf := o, csr := r, loop0 := l0', loop1 := l1', loopBuf := b', pc := p' } := fun l0 l1 b p => by
    obtain ⟨c, o, r, h⟩ := key l0 l1 b p
    exact ⟨c, o, r, l0, l1, b, p, h⟩
  unfold Hart.loopAct Hart.setLoop
  dsimp only
  split
  · split
    · exact act _ _ _ _
    · exact act _ _ _ _
  · split
    · exact ⟨_, _, _, _, _, _, _, rfl⟩
    · exact ⟨_, _, _, _, _, _, _, rfl⟩

/-- Going on to the next instruction changes the pc, the loop unit and the counters, nothing else. -/
theorem Hart.goOn_only (x : Hart) (next : Word) :
    ∃ c o r l0 l1 b p, x.goOn next = { x with cnt := c, cntOvf := o, csr := r, loop0 := l0, loop1 := l1, loopBuf := b, pc := p } := by
  unfold Hart.goOn
  split
  · obtain ⟨c, o, r, l0, l1, b, p, h⟩ := x.loopAct_only 1 next
    simp only
    split
    · obtain ⟨c, o, r, l0, l1, b, p, g⟩ := (x.loopAct 1 next).1.loopAct_only 0 next
      rw [g, h]
      exact ⟨c, o, r, l0, l1, b, p, rfl⟩
    · exact ⟨c, o, r, l0, l1, b, p, h⟩
  · split
    · exact x.loopAct_only 0 next
    · exact ⟨_, _, _, _, _, _, _, rfl⟩

/-- Retiring an instruction changes the pc, the last pc, the loop unit and the counters, nothing else. -/
theorem Hart.retire_only (x : Hart) (cl : RetClass) :
    ∃ c o r l0 l1 b p, x.retire cl
      = { x with lastPc := x.pc, cnt := c, cntOvf := o, csr := r, loop0 := l0, loop1 := l1, loopBuf := b, pc := p } := by
  unfold Hart.retire
  obtain ⟨c, o, r, h⟩ := Hart.countRetire_only { x with lastPc := x.pc } cl
  rw [h]
  exact Hart.goOn_only _ _

/-! ### Traps (R89, R116, R137) -/

/-- A speculative miss that is dropped twice is dropped once. -/
@[simp] theorem Miss.forsake_forsake (m : Miss) : m.forsake.forsake = m.forsake := by
  unfold Miss.forsake
  split <;> simp_all

/-- The parts of a hart that neither a flush point nor a trap changes; of the misses only the speculative ones are dropped. -/
def Hart.sameBody (x y : Hart) : Prop :=
  y.run = x.run ∧ y.qid = x.qid ∧ y.paired = x.paired ∧ y.secure = x.secure ∧ y.x = x.x ∧ y.f = x.f ∧ y.vec = x.vec ∧ y.dlTime = x.dlTime
    ∧ y.dlArmed = x.dlArmed ∧ y.dlMissed = x.dlMissed ∧ y.inbox = x.inbox ∧ y.outbox = x.outbox ∧ y.locked = x.locked
    ∧ y.misses.map Miss.forsake = x.misses.map Miss.forsake ∧ y.wbs = x.wbs ∧ y.loop0 = x.loop0 ∧ y.loop1 = x.loop1 ∧ y.eip = x.eip ∧ y.eie = x.eie

theorem Hart.sameBody_trans {x y z : Hart} (h : x.sameBody y) (g : y.sameBody z) : x.sameBody z := by
  unfold Hart.sameBody at *
  simp_all

theorem Hart.count_sameBody (x : Hart) (n k : Nat) : x.sameBody (x.count n k) := by
  obtain ⟨c, o, r, h⟩ := x.count_only n k
  rw [h]
  simp [Hart.sameBody]

theorem Hart.setCsr_sameBody (x : Hart) (n : Nat) (v : Word) : x.sameBody (x.setCsr n v) := by
  simp [Hart.sameBody, Hart.setCsr]

theorem Hart.dropUnconfirmed_sameBody (x : Hart) : x.sameBody x.dropUnconfirmed := by
  unfold Hart.dropUnconfirmed
  simp only
  split
  · simp [Hart.sameBody]
  · refine Hart.sameBody_trans ?_ (Hart.count_sameBody _ 34 _)
    simp [Hart.sameBody]

theorem Hart.flushPoint_sameBody (x : Hart) : x.sameBody x.flushPoint := by
  unfold Hart.flushPoint
  refine Hart.sameBody_trans (Hart.sameBody_trans ?_ (Hart.dropUnconfirmed_sameBody _)) (Hart.count_sameBody _ 11 1)
  simp [Hart.sameBody]

theorem Hart.enterMode_sameBody (x : Hart) (m : Mode) (v : Bool) : x.sameBody (x.enterMode m v) := by
  unfold Hart.enterMode
  split
  · simp [Hart.sameBody]
  · refine Hart.sameBody_trans ?_ (Hart.flushPoint_sameBody _)
    simp [Hart.sameBody]

/-- A trap leaves every integer, floating-point and vector register, the world, the deadlines and the mailboxes as they were, wherever it is taken. -/
theorem Hart.trapTo_sameBody (x : Hart) (to_ : Mode × Bool) (intr : Bool) (e : Exc) : x.sameBody (x.trapTo to_ intr e) := by
  refine Hart.sameBody_trans (x.count_sameBody (if intr then 56 else 55) 1) ?_
  unfold Hart.trapTo
  generalize x.count (if intr then 56 else 55) 1 = y
  dsimp only
  split
  · refine Hart.sameBody_trans ?_ (Hart.enterMode_sameBody _ _ _)
    split <;> simp [Hart.sameBody, Hart.setCsr]
  · split
    · refine Hart.sameBody_trans ?_ (Hart.enterMode_sameBody _ _ _)
      split <;> simp [Hart.sameBody, Hart.setCsr]
    · refine Hart.sameBody_trans ?_ (Hart.enterMode_sameBody _ _ _)
      split <;> simp [Hart.sameBody, Hart.setCsr]

theorem Hart.trap_sameBody (x : Hart) (intr : Bool) (e : Exc) : x.sameBody (x.trap intr e) := Hart.trapTo_sameBody ..

/-- An exception of one hart leaves every other hart as it was. -/
theorem State.raise_other (s : State) (h k : Nat) (e : Exc) (hk : k ≠ h) : (s.raise h e).hart k = s.hart k := by
  unfold State.raise State.modHart State.hart State.setHart
  exact Tab.get_set_other _ _ _ (Ne.symm hk)

end Sys2Proof.Machine
end

