-- ==== Sys2Proof/Laws/Memory.lean ====
section
/-! SUPPORT. The laws of byte memories: every operation keeps the canonical form, a byte written reads back, and every other byte reads as before. -/

namespace Sys2Proof.Machine

variable {d : Nat → Byte}

/-! ### The canonical form -/

theorem Memory.wfFrom_cons (lo k : Nat) (b : Byte) (m : List Host.Cell) :
    Memory.wfFrom d lo ((k, b) :: m) = true ↔ lo ≤ k ∧ b ≠ d k ∧ Memory.wfFrom d (k + 1) m = true := by
  simp [Memory.wfFrom, and_assoc]

theorem Memory.wfFrom_mono {lo hi : Nat} {m : List Host.Cell} (h : Memory.wfFrom d hi m = true) (hle : lo ≤ hi) :
    Memory.wfFrom d lo m = true := by
  cases m with
  | nil => rfl
  | cons c m =>
    obtain ⟨k, b⟩ := c
    rw [Memory.wfFrom_cons] at h ⊢
    exact ⟨by omega, h.2⟩

theorem Memory.cons_wf {lo a : Nat} (b : Byte) {m : List Host.Cell} (h : Memory.wfFrom d (a + 1) m = true) (hle : lo ≤ a) :
    Memory.wfFrom d lo (Memory.cons d a b m) = true := by
  unfold Memory.cons
  split
  · exact Memory.wfFrom_mono h (by omega)
  · rw [Memory.wfFrom_cons]
    exact ⟨hle, ‹_›, h⟩

/-- A write keeps the canonical form. -/
theorem Memory.write_wfFrom {lo a : Nat} (b : Byte) {m : List Host.Cell} (h : Memory.wfFrom d lo m = true) (hle : lo ≤ a) :
    Memory.wfFrom d lo (Memory.write d m a b) = true := by
  induction m generalizing lo with
  | nil => exact Memory.cons_wf b rfl hle
  | cons c m ih =>
    obtain ⟨k, e⟩ := c
    rw [Memory.wfFrom_cons] at h
    simp only [Memory.write]
    split
    · exact Memory.cons_wf b ((Memory.wfFrom_cons _ _ _ _).2 ⟨by omega, h.2⟩) hle
    · split
      · subst_vars
        exact Memory.cons_wf b h.2.2 hle
      · rw [Memory.wfFrom_cons]
        exact ⟨h.1, h.2.1, ih h.2.2 (by omega)⟩

theorem Memory.write_wf (a : Nat) (b : Byte) {m : List Host.Cell} (h : Memory.wf d m = true) : Memory.wf d (Memory.write d m a b) = true :=
  Memory.write_wfFrom b h (Nat.zero_le a)

/-- A write of bytes keeps the canonical form. -/
theorem Memory.writeN_wf (a : Nat) (bs : List Byte) {m : List Host.Cell} (h : Memory.wf d m = true) :
    Memory.wf d (Memory.writeN d m a bs) = true := by
  induction bs generalizing a m with
  | nil => exact h
  | cons b bs ih => exact ih (a + 1) (Memory.write_wf a b h)

/-- Leaving cells out keeps the canonical form. -/
theorem Memory.filter_wfFrom {lo : Nat} {m : List Host.Cell} (p : Host.Cell → Bool) (h : Memory.wfFrom d lo m = true) :
    Memory.wfFrom d lo (m.filter p) = true := by
  induction m generalizing lo with
  | nil => rfl
  | cons c m ih =>
    obtain ⟨k, e⟩ := c
    rw [Memory.wfFrom_cons] at h
    rw [List.filter_cons]
    split
    · rw [Memory.wfFrom_cons]
      exact ⟨h.1, h.2.1, ih h.2.2⟩
    · exact Memory.wfFrom_mono (ih h.2.2) (by omega)

theorem Memory.dropRange_wf {m : List Host.Cell} (base size : Nat) (h : Memory.wf d m = true) : Memory.wf d (Memory.dropRange m base size) = true :=
  Memory.filter_wfFrom _ h

/-- Cells that hold what is read unlisted under another rule are left out: what remains is canonical under that rule. -/
theorem Memory.renorm_wfFrom {e : Nat → Byte} {lo : Nat} {m : List Host.Cell} (h : Memory.wfFrom d lo m = true) :
    Memory.wfFrom e lo (Memory.renorm e m) = true := by
  induction m generalizing lo with
  | nil => rfl
  | cons c m ih =>
    obtain ⟨k, b⟩ := c
    rw [Memory.wfFrom_cons] at h
    unfold Memory.renorm at ih ⊢
    rw [List.filter_cons]
    split
    · rw [Memory.wfFrom_cons]
      exact ⟨h.1, by simpa using ‹(b != e k) = true›, ih h.2.2⟩
    · exact Memory.wfFrom_mono (ih h.2.2) (by omega)

/-- Two rules for unlisted addresses that agree on the listed ones have the same canonical forms. -/
theorem Memory.wfFrom_congr {e : Nat → Byte} {lo : Nat} {m : List Host.Cell} (h : Memory.wfFrom d lo m = true) (he : ∀ c ∈ m, e c.1 = d c.1) :
    Memory.wfFrom e lo m = true := by
  induction m generalizing lo with
  | nil => rfl
  | cons c m ih =>
    obtain ⟨k, b⟩ := c
    rw [Memory.wfFrom_cons] at h ⊢
    refine ⟨h.1, ?_, ih h.2.2 (fun c hc => he c (List.mem_cons_of_mem _ hc))⟩
    rw [he (k, b) (List.mem_cons_self ..)]
    exact h.2.1

/-! ### Reading after a write -/

theorem Memory.read_below {lo : Nat} {m : List Host.Cell} (h : Memory.wfFrom d lo m = true) {a : Nat} (ha : a < lo) :
    Memory.read d m a = d a := by
  induction m generalizing lo with
  | nil => rfl
  | cons c m ih =>
    obtain ⟨k, b⟩ := c
    rw [Memory.wfFrom_cons] at h
    rw [Memory.read, if_neg (by omega)]
    exact ih h.2.2 (by omega)

theorem Memory.read_cons (a x : Nat) (b : Byte) {m : List Host.Cell} (h : Memory.wfFrom d (a + 1) m = true) :
    Memory.read d (Memory.cons d a b m) x = if x = a then b else Memory.read d m x := by
  unfold Memory.cons
  split
  · split
    · subst_vars
      exact Memory.read_below h (by omega)
    · rfl
  · rw [Memory.read]
    split <;> rename_i hx
    · rw [if_pos hx.symm]
    · rw [if_neg (fun h => hx h.symm)]

/-- A byte written reads back, and every other byte reads as before. -/
theorem Memory.read_write {lo : Nat} {m : List Host.Cell} (h : Memory.wfFrom d lo m = true) (a x : Nat) (b : Byte) :
    Memory.read d (Memory.write d m a b) x = if x = a then b else Memory.read d m x := by
  induction m generalizing lo with
  | nil => exact Memory.read_cons a x b rfl
  | cons c m ih =>
    obtain ⟨k, e⟩ := c
    rw [Memory.wfFrom_cons] at h
    simp only [Memory.write]
    split
    · exact Memory.read_cons a x b ((Memory.wfFrom_cons _ _ _ _).2 ⟨by omega, h.2⟩)
    · split
      · rename_i ha
        subst ha
        rw [Memory.read_cons a x b h.2.2]
        split
        · rfl
        · rw [Memory.read, if_neg (by omega)]
      · rw [Memory.read, Memory.read, ih h.2.2]
        by_cases hx : k = x
        · rw [if_pos hx, if_pos hx, if_neg (by omega)]
        · rw [if_neg hx, if_neg hx]

/-- A byte outside the bytes written reads as before. -/
theorem Memory.read_writeN_other {m : List Host.Cell} (h : Memory.wf d m = true) (a x : Nat) (bs : List Byte) (hx : x < a ∨ a + bs.length ≤ x) :
    Memory.read d (Memory.writeN d m a bs) x = Memory.read d m x := by
  induction bs generalizing a m with
  | nil => rfl
  | cons b bs ih =>
    rw [List.length_cons] at hx
    rw [Memory.writeN, ih (Memory.write_wf a b h) (a + 1) (by omega), Memory.read_write h, if_neg (by omega)]

/-- Bytes written read back. -/
theorem Memory.read_writeN {m : List Host.Cell} (h : Memory.wf d m = true) (a i : Nat) (bs : List Byte) (hi : i < bs.length) :
    Memory.read d (Memory.writeN d m a bs) (a + i) = bs[i] := by
  induction bs generalizing a m i with
  | nil => exact absurd hi (Nat.not_lt_zero _)
  | cons b bs ih =>
    have hw := Memory.write_wf (d := d) a b h
    cases i with
    | zero =>
      rw [Memory.writeN, Memory.read_writeN_other hw _ _ _ (by omega), Memory.read_write h, if_pos (by omega)]
      rfl
    | succ i =>
      have := ih hw (a + 1) i (by simpa using hi)
      rw [show a + 1 + i = a + (i + 1) by omega] at this
      exact this

/-! ### The package's memory -/

theorem MemSys.write_wf (m : MemSys) (a : Nat) (bs : List Byte) (h : m.wf = true) : (m.write a bs).wf = true :=
  Memory.writeN_wf a bs h

theorem MemSys.setPoison_wf (m : MemSys) (l : Nat) (p : Poison) (h : m.wf = true) : (m.setPoison l p).wf = true := h

theorem MemSys.writeLine_wf (m : MemSys) (l : Nat) (v : Line) (p : Poison) (h : m.wf = true) : (m.writeLine l v p).wf = true := by
  unfold MemSys.writeLine
  exact MemSys.setPoison_wf _ l p (MemSys.write_wf m (64 * l) (lineBytes v) h)

theorem MemSys.zeroRange_wf (m : MemSys) (base size : Nat) (h : m.wf = true) : (m.zeroRange base size).wf = true := by
  refine Memory.wfFrom_congr (d := eraByte m.eras) (Memory.dropRange_wf base size h) (fun c hc => ?_)
  have hp := (List.mem_filter.1 hc).2
  simp only [Bool.or_eq_true, decide_eq_true_eq] at hp
  have : inRanges [(base, size)] c.1 = false := by
    simp only [inRanges, List.any_cons, List.any_nil, Bool.or_false, Bool.and_eq_false_iff, decide_eq_false_iff_not]
    omega
  simp only [MemSys.zeroRange, eraByte, this, Bool.false_eq_true, if_false]

theorem MemSys.poisonRange_wf (m : MemSys) (base size : Nat) (h : m.wf = true) : (m.poisonRange base size).wf = true :=
  Memory.wfFrom_congr (d := eraByte m.eras) (e := eraByte (.poison base size :: m.eras)) h (fun _ _ => rfl)

theorem MemSys.poisonStack_wf (m : MemSys) (stack : Nat) (h : m.wf = true) : (m.poisonStack stack).wf = true :=
  Memory.wfFrom_congr (d := eraByte m.eras) (e := eraByte (.poisonStack stack :: m.eras)) h (fun _ _ => rfl)

theorem MemSys.lose_wf (m : MemSys) (draw : Nat) (kept : List (Nat × Nat)) (h : m.wf = true) : (m.lose draw kept).wf = true :=
  Memory.renorm_wfFrom (Memory.filter_wfFrom _ h)

/-- Memory after reset is in canonical form. -/
theorem State.reset_mem_wf : State.reset.mem.wf = true := rfl

/-- A byte outside the bytes written reads as before. -/
theorem MemSys.byte_write_other (m : MemSys) (h : m.wf = true) (a x : Nat) (bs : List Byte) (hx : x < a ∨ a + bs.length ≤ x) :
    (m.write a bs).byte x = m.byte x :=
  Memory.read_writeN_other h a x bs hx

/-- Bytes written read back. -/
theorem MemSys.byte_write (m : MemSys) (h : m.wf = true) (a i : Nat) (bs : List Byte) (hi : i < bs.length) :
    (m.write a bs).byte (a + i) = bs[i] :=
  Memory.read_writeN h a i bs hi

end Sys2Proof.Machine
end

