-- ==== Sys2Proof/Laws/Orders.lean ====
section
/-! SUPPORT. What the operations that order accesses and deliver messages can do, said once: an access of an engine at the homes of its lines (R189), an instruction of a hart at its boundary (R96, R188), a request that a pair's comparator releases (R113), and the arrival of a message (R199, R222). -/

namespace Sys2Proof.Machine

/-! ### Accesses of engines (R189) -/

/-- With no line held and none in a port group, the access is performed. -/
theorem State.whenFree_free (s : State) (rs : List (Bool × Nat × Nat)) (go : State → State) (h : s.linesFree rs = true) :
    s.whenFree rs go = go s := by
  unfold State.linesFree at h
  rw [List.all_eq_true] at h
  have hn : (((rs.filter (fun r => (rangeOf r.2.1).isMemory)).flatMap (fun r => (linesIn r.2.1 r.2.2).map (fun l => (r.1, l)))).any
      (fun e => s.lineHeld e.2)) = false := by
    rw [List.any_eq_false]
    intro e he hl
    have := h e he
    simp [hl] at this
  have hf : ((rs.filter (fun r => (rangeOf r.2.1).isMemory)).flatMap (fun r => (linesIn r.2.1 r.2.2).map (fun l => (r.1, l)))).filter
      (fun e => !(s.portHolders e.2 (!e.1)).isEmpty) = [] := by
    rw [List.filter_eq_nil_iff]
    intro e he hl
    have := h e he
    simp only [Bool.and_eq_true] at this
    rw [this.2] at hl
    cases hl
  unfold State.whenFree
  dsimp only
  rw [hn, hf]
  rfl

/-- The access waits, is performed, or first takes its lines from port groups. -/
theorem State.whenFree_cases (s : State) (rs : List (Bool × Nat × Nat)) (go : State → State) :
    s.whenFree rs go = s ∨ s.whenFree rs go = go s ∨
      ∃ es : List (Bool × Nat), es ≠ [] ∧ s.whenFree rs go = es.foldl (fun s e => s.recallPorts e.2 (!e.1) (s.portHolders e.2 (!e.1))) s := by
  unfold State.whenFree
  dsimp only
  split
  · exact .inl rfl
  · split
    · exact .inr (.inl rfl)
    · next he => exact .inr (.inr ⟨_, he, rfl⟩)

/-! ### Instructions (R96, R188) -/

/-- At a ready hart an instruction has its effect. -/
theorem State.instr_ready (s : State) (h : Nat) (f : State → State) (hl : s.hartLive h = true) (hd : s.due h = none) : s.instr h f = f s := by
  simp [State.instr, hl, hd]

/-- A hart that does not run takes no instruction. -/
theorem State.instr_dead (s : State) (h : Nat) (f : State → State) (hl : s.hartLive h = false) : s.instr h f = s := by
  simp [State.instr, hl]

/-- A register access waits for the hart's side-effect requests that are still on their way. -/
theorem State.access_waits (s : State) (h : Nat) (f : State → State) (hl : s.hartLive h = true) (hd : s.due h = none) (ht : s.ioTravels h = true) :
    s.access h f = s := by
  rw [State.access, s.instr_ready h _ hl hd, if_pos ht]

theorem State.access_ready (s : State) (h : Nat) (f : State → State) (hl : s.hartLive h = true) (hd : s.due h = none) (ht : s.ioTravels h = false) :
    s.access h f = f s := by
  rw [State.access, s.instr_ready h _ hl hd, if_neg (by simp [ht])]

/-! ### Pairs (R113) -/

/-- A hart that is no pair needs no release. -/
theorem State.isReleased_alone (s : State) (h : Nat) (k : PairKind) (va : Word) (pa n : Nat) (d : Option Nat) (hp : (s.hart h).paired = false) :
    s.isReleased h k va pa n d = true := by
  simp [State.isReleased, hp]

/-- A request waits, or goes on with its release used up. -/
theorem State.released_cases (s : State) (h : Nat) (k : PairKind) (va : Word) (pa n : Nat) (d : Option Nat) (b : Bool) (f : State → State) :
    s.released h k va pa n d b f = s ∨ (b = false ∧ s.isReleased h k va pa n d = true ∧ s.released h k va pa n d b f = f (s.spend h)) := by
  unfold State.released
  cases b <;> cases s.isReleased h k va pa n d <;> simp

/-! ### Messages (R199, R222) -/

/-- A message to whose destination no path leads stays where it is. -/
theorem State.arrive_lost_way (s : State) (m : CohMsg) (u : Upset) (f : State → CohMsg → State) (h : s.comes m = false) : s.arrive m u f = s := by
  unfold State.comes at h
  simp [State.arrive, h]

/-- A message arrives as it was sent where its path works and no flit of it is bad. -/
theorem State.arrive_whole (s : State) (m : CohMsg) (f : State → CohMsg → State) (h : s.comes m = true) : s.arrive m .none f = f s m := by
  unfold State.comes at h
  simp [State.arrive, h, State.flitFate]

/-- A message whose header is bad is taken away and has no other effect than its count and its record. -/
theorem State.arrive_bad_header (s : State) (m : CohMsg) (n x : Nat) (i : Bool) (l : Nat) (f : State → CohMsg → State) (h : s.comes m = true) :
    s.arrive m (.flitHdr n x i l) f = (s.flitFate m.qid (some (64 * m.addr)) m.hasData (.flitHdr n x i l)).1.takeCoh m := by
  unfold State.comes at h
  simp [State.arrive, h, State.flitFate]

/-! ### Worlds (R360) -/

/-- A refused access is logged for a Secure resource of the hart's own Quire, or leaves the machine as it was. -/
theorem State.noteWorld_cases (s : State) (h a : Nat) : s.noteWorld h a = s ∨ s.noteWorld h a = s.logWorldDenied h a := by
  unfold State.noteWorld
  dsimp only
  split
  · exact .inr rfl
  · exact .inl rfl

end Sys2Proof.Machine
end

