-- ==== Sys2Proof/Machine/Pins.lean ====
section
/-! DEFINITION. The lands (R411, R425 to R427), the levels of the outputs (R390, R391, R395, R423, R424), and what partners observe (R428). -/

namespace Sys2Proof.Machine

/-! ### Rails (R411) -/

/-- The rails of the package. -/
inductive Rail where
  | vddStby | vddioStby | vppHbm | vddIod | vddHbm | vddBd | vddSerdes | vddhSerdes | vddqDdr | vddqHbm | vinCd (n : Nat)
deriving DecidableEq, Repr

/-- Nominal voltage in mV, tolerance in %, maximum current in A, lands, and the place in the power-up order, 0 for group S (R411). -/
structure RailSpec where
  millivolts : Nat
  tolerance : Nat
  maxAmps : Nat
  lands : Nat
  group : Nat
deriving DecidableEq, Repr

def Rail.spec (r : Rail) : RailSpec :=
  match r with
  | .vddStby => { millivolts := 800, tolerance := 3, maxAmps := 12, lands := 6, group := 0 }
  | .vddioStby => { millivolts := 1800, tolerance := 5, maxAmps := 2, lands := 6, group := 0 }
  | .vppHbm => { millivolts := 1800, tolerance := 3, maxAmps := 6, lands := 24, group := 1 }
  | .vddIod => { millivolts := 800, tolerance := 3, maxAmps := 200, lands := 96, group := 2 }
  | .vddHbm => { millivolts := 1100, tolerance := 3, maxAmps := 50, lands := 24, group := 2 }
  | .vddBd => { millivolts := 750, tolerance := 3, maxAmps := 220, lands := 96, group := 3 }
  | .vddSerdes => { millivolts := 900, tolerance := 3, maxAmps := 50, lands := 24, group := 3 }
  | .vddhSerdes => { millivolts := 1200, tolerance := 3, maxAmps := 20, lands := 24, group := 3 }
  | .vddqDdr => { millivolts := 1100, tolerance := 3, maxAmps := 60, lands := 96, group := 3 }
  | .vddqHbm => { millivolts := 400, tolerance := 3, maxAmps := 100, lands := 48, group := 3 }
  | .vinCd _ => { millivolts := 1800, tolerance := 5, maxAmps := 200, lands := 96, group := 4 }

/-- The rails as R411 lists them. -/
def rails : List Rail :=
  [.vddStby, .vddioStby, .vppHbm, .vddIod, .vddHbm, .vddBd, .vddSerdes, .vddhSerdes, .vddqDdr, .vddqHbm, .vinCd 0, .vinCd 1, .vinCd 2, .vinCd 3]

/-! ### The land grid (R425 to R427) -/

/-- What a serial lane belongs to: lane n of PCIe group g, of System Link port p, or of TSN port c. -/
inductive SerPort where
  | pcie (g n : Nat)
  | sysLink (p n : Nat)
  | tsn (c n : Nat)
deriving DecidableEq, Repr

/-- The signals of a DDR5 subchannel (R426); DRST_N and ALERT_N are the channel's. -/
inductive DdrSig where
  | dq (n : Nat)
  | dqs (n : Nat) (true_ : Bool)
  | dca (n : Nat)
  | dpar
  | dcs (n : Nat)
  | dck (true_ : Bool)
  | drst
  | alert
deriving DecidableEq, Repr

/-- What a land carries. A signal of the control set has the name of R426 and its index. -/
inductive Land where
  | gnd
  | rail (r : Rail)
  | serdes (p : SerPort) (tx positive : Bool)
  | perst (g r : Nat)
  | ddr (ch : Nat) (subB : Bool) (s : DdrSig)
  | control (name : String) (n : Nat)
deriving DecidableEq, Repr

/-- A tile of 8 rows × 12 columns; `split x y` has rail x in columns 0 to 5 and rail y in columns 6 to 11. -/
inductive Tile where
  | pcie (g h : Nat)
  | sysLink (p : Nat)
  | tsn
  | ddr (ch : Nat) (subB : Bool)
  | power (r : Rail)
  | split (x y : Rail)
  | m1
  | m2
  | empty
deriving DecidableEq, Repr

/-- The lane of a serial tile (R426). -/
def Tile.lane (t : Tile) (l : Nat) : Option SerPort :=
  match t with
  | .pcie g h => some (.pcie g (8 * h + l))
  | .sysLink p => some (.sysLink p l)
  | .tsn => some (.tsn (l / 2) (l % 2))
  | _ => none

/-- An S tile. -/
def serdesLand (t : Tile) (r c : Nat) : Option Land :=
  if r % 2 = 0 then
    if c % 3 = 0 then some .gnd
    else match t with
      | .pcie g h => if r = 0 ∧ c = 1 then some (.perst g (2 * h)) else if r = 0 ∧ c = 2 then some (.perst g (2 * h + 1)) else none
      | _ => none
  else if c % 3 = 0 then some .gnd
  else (t.lane (c / 3 + 4 * (r / 2 % 2))).map (fun p => .serdes p (decide (r < 4)) (c % 3 == 1))

/-- A D tile. -/
def ddrLand (ch : Nat) (subB : Bool) (r c : Nat) : Option Land :=
  let n := 2 * r + c / 6
  let sig := fun (s : DdrSig) => some (Land.ddr ch subB s)
  if r < 5 then
    match c % 6 with
    | 0 => sig (.dq (4 * n))
    | 1 => sig (.dq (4 * n + 1))
    | 2 => sig (.dqs n true)
    | 3 => sig (.dqs n false)
    | 4 => sig (.dq (4 * n + 2))
    | _ => sig (.dq (4 * n + 3))
  else if r = 5 then (if c % 2 = 0 then some .gnd else none)
  else if r = 6 then
    (if c < 7 then sig (.dca c) else if c = 7 then sig .dpar else if c < 10 then sig (.dcs (c - 8)) else sig (.dck (c == 10)))
  else if c = 0 then sig (if subB then .alert else .drst)
  else if c % 2 = 0 then some .gnd
  else none

/-- Row A, C and E of tile M1. -/
def m1Rows : List (List (String × Nat)) :=
  [[("REFCLK_P", 0), ("REFCLK_N", 0), ("GND", 0), ("STBY_PWRGOOD", 0), ("PWRGOOD", 0), ("RESET_N", 0), ("PWRFAIL_N", 0), ("ALERT_N", 0),
    ("ALIVE", 0), ("PRESENT_N", 0), ("TRST_N", 0), ("TCK", 0)],
   [("TMS", 0), ("TDI", 0), ("TDO", 0), ("SMB_SCL", 0), ("SMB_SDA", 0), ("SMB_ALERT_N", 0), ("PMB_SCL", 0), ("PMB_SDA", 0),
    ("PMB_ALERT_N", 0), ("AVS_CLK", 0), ("AVS_MDATA", 0), ("AVS_SDATA", 0)],
   [("XSPI_CLK", 0), ("XSPI_CS_N", 0), ("XSPI_DQS", 0), ("XSPI_DQ", 0), ("XSPI_DQ", 1), ("XSPI_DQ", 2), ("XSPI_DQ", 3), ("XSPI_DQ", 4),
    ("XSPI_DQ", 5), ("XSPI_DQ", 6), ("XSPI_DQ", 7), ("XSPI_RESET_N", 0)]]

/-- Tile M1. -/
def m1Land (r c : Nat) : Option Land :=
  if r = 0 ∧ c = 2 then some .gnd
  else if r = 0 ∨ r = 2 ∨ r = 4 then ((m1Rows.getD (r / 2) [])[c]?).map (fun e => .control e.1 e.2)
  else if r = 1 ∨ r = 3 then some .gnd
  else if r = 5 then some (.rail (if c < 6 then .vddStby else .vddioStby))
  else none

/-- Tile M2. -/
def m2Land (r c : Nat) : Option Land :=
  match r with
  | 0 => if c < 8 then some (.control "FF_AIN" c) else none
  | 1 => if c < 8 then some (.control "FF_AGND" 0) else none
  | 2 => if c < 8 then some .gnd else none
  | 3 => some (.control "FF_GPIO" c)
  | 4 => some (if c < 4 then .control "FF_GPIO" (12 + c) else .control "STRAP_PX" (c - 4))
  | 5 => some (if c < 8 then .control "STRAP_PX" (8 + c) else .gnd)
  | 6 => some .gnd
  | _ => none

/-- The land at row r and column c of a tile, none where the pattern names none (R426). -/
def Tile.land (t : Tile) (r c : Nat) : Option Land :=
  match t with
  | .pcie _ _ | .sysLink _ | .tsn => serdesLand t r c
  | .ddr ch b => ddrLand ch b r c
  | .power x => some (if (r + c) % 2 = 0 then .rail x else .gnd)
  | .split x y => some (if (r + c) % 2 = 0 then .rail (if c < 6 then x else y) else .gnd)
  | .m1 => m1Land r c
  | .m2 => m2Land r c
  | .empty => none

/-- Tile rows A, B, L and M (R427). -/
def edgeTile (row col : Nat) : Tile :=
  match row with
  | 0 => .pcie (col / 2) (col % 2)
  | 11 => .pcie (4 + col / 2) (col % 2)
  | 1 => [.power .vddqDdr, .sysLink 0, .sysLink 1, .split .vddqHbm .vddHbm, .split .vddSerdes .vddhSerdes, .sysLink 2, .sysLink 3,
          Tile.power .vddqDdr].getD col .empty
  | 10 => [.sysLink 4, .sysLink 5, .split .vddqHbm .vppHbm, .m1, .m2, .sysLink 6, .sysLink 7, Tile.tsn].getD col .empty
  | _ => .empty

/-- Columns 2 to 5 of tile rows C to K (R427). -/
def coreTile (row col : Nat) : Tile :=
  match row with
  | 2 => .power (.vinCd ((col - 2) / 2))
  | 5 => if col = 2 then .power .vddBd else if col = 3 then .power .vddIod else .empty
  | 6 => if col = 4 then .power .vddIod else if col = 5 then .power .vddBd else .empty
  | 9 => .power (.vinCd (3 - (col - 2) / 2))
  | _ => .empty

/-- The tile at tile row 0 to 11 and tile column 0 to 7 (R427). -/
def tileAt (row col : Nat) : Tile :=
  if row < 2 ∨ 10 ≤ row then edgeTile row col
  else match col with
    | 6 => .ddr (row - 2) false
    | 7 => .ddr (row - 2) true
    | 1 => .ddr (8 + (row - 2)) false
    | 0 => .ddr (8 + (row - 2)) true
    | _ => coreTile row col

/-- The land in row 0 to 95 and column 1 to 96 of the grid, none at a position without one (R425). -/
def landAt (row col : Nat) : Option Land :=
  if row < 96 ∧ 1 ≤ col ∧ col ≤ 96 then (tileAt (row / 8) ((col - 1) / 12)).land (row % 8) ((col - 1) % 12) else none

/-- The row of a land's name, such as FB: the letters of its tile row and of the row in the tile (R425). -/
def rowLetters (row : Nat) : String :=
  String.mk [(['A', 'B', 'C', 'D', 'E', 'F', 'G', 'H', 'J', 'K', 'L', 'M'].getD (row / 8) '?'),
             (['A', 'B', 'C', 'D', 'E', 'F', 'G', 'H'].getD (row % 8) '?')]

/-- The centre of a land in hundredths of a millimetre east and north of the package centre (R425). -/
def landCentre (row col : Nat) : Int × Int := (110 * (col : Int) - 5335, 5225 - 110 * (row : Int))

/-- The lands of a tile. -/
def Tile.landCount (t : Tile) : Nat :=
  ((List.range 8).flatMap (fun r => (List.range 12).filter (fun c => (t.land r c).isSome))).length

/-- The lands of the package (R1, R427). -/
def landTotal : Nat :=
  ((List.range 12).flatMap (fun r => (List.range 8).map (fun c => (tileAt r c).landCount))).foldl (· + ·) 0

/-! ### Outputs (R390, R391, R395, R423, R424) -/

/-- What an output land shows; an open-drain output is low or released, and an output whose domain is off floats. -/
inductive OutLevel where
  | low | high | toggling | released | floats
deriving DecidableEq, Repr

/-- ALIVE (R391). -/
def State.aliveOut (s : State) : OutLevel := if s.pins.aliveToggling then .toggling else .low

/-- ALERT_N, held while a bit of FF_ALERT is set (R395). -/
def State.alertOut (s : State) : OutLevel := if s.ff.alert = 0 then .released else .low

/-- PXg_PERSTr_N: low in reset and for a root port that the arrangement does not create (R424); it floats in PK4 (R390). -/
def State.perstOut (s : State) (g r : Nat) : OutLevel :=
  if s.pwr.pk = 4 then .floats else if s.pins.perstN && (rootPorts (s.group g).arrange).contains r then .high else .low

/-- Dch_DRST_N: low until memory trains; it floats in PK4 (R390, R423). -/
def State.drstOut (s : State) : OutLevel :=
  if s.pwr.pk = 4 then .floats else if s.boot.memTrained then .high else .low

/-- The other DDR5 outputs and the PCIe lanes float in PK4, the TSN lanes in PK3 too (R390). -/
def State.ioFloats (s : State) : Bool := s.pwr.pk == 4
def State.tsnFloats (s : State) : Bool := decide (3 ≤ s.pwr.pk)

/-- A standby GPIO as rules drive it; none is an input, as each is after standby power-up (R423). -/
def State.gpioOut (s : State) (n : Nat) : Option Bool := Tab.find s.ff.gpioOut n

/-! ### What partners observe (R428) -/

/-- A PCIe or CXL partner's view. -/
inductive PcieSeen where
  | noLink | perstLow | l1 | down | up
deriving DecidableEq, Repr

/-- A System Link peer's view: RIP, or heartbeats that carry the package state. -/
inductive SlSeen where
  | nothing | rip | heartbeats (pkState : Nat)
deriving DecidableEq, Repr

/-- One row of R428. -/
structure Seen where
  presentLow : Bool
  alive : OutLevel
  pcie : PcieSeen
  sysLink : SlSeen
  tsnLink : Bool
  smbAck : Bool
deriving DecidableEq, Repr

/-- Root port r of group g as its partner sees it. -/
def State.pcieSeen (s : State) (g r : Nat) : PcieSeen :=
  if !s.pins.stbyPwrgood then .noLink
  else if !s.pins.perstN then (if s.boot.warm then .down else .perstLow)
  else if s.pwr.pk = 4 || !(s.group g).linkUp.contains r then .down
  else if 2 ≤ s.pwr.pk then .l1
  else .up

/-- System Link port p as its peer sees it. -/
def State.slSeen (s : State) (p : Nat) : SlSeen :=
  let t := s.slPort p
  if t.rip then .rip else if t.released && decide (t.link = .up) then .heartbeats s.pwr.reported else .nothing

/-- What the partners at a root port, a System Link port and a TSN port, and the board's SMBus controller, observe. -/
def State.seen (s : State) (g r p c : Nat) : Seen :=
  { presentLow := true, alive := s.aliveOut, pcie := s.pcieSeen g r, sysLink := s.slSeen p,
    tsnLink := (s.tsn c).linkUp && !s.tsnFloats, smbAck := s.smbusUp }

end Sys2Proof.Machine
end

