-- ==== Sys2Proof/Tests/Slice0.lean ====
section
/-! SUPPORT. The model's own tests: ill-formed commands that WellFormed refuses, a few single results, and for every obligation with hypotheses states and operands that meet them. -/

open Sys2Proof Sys2Proof.Machine

namespace Sys2Proof.Tests

set_option Elab.async false

/-- A Quire that owns hart 0, is dual-world and starts Secure. -/
def wQuire : Quire :=
  { qid := 1, dualWorld := true, initialSecure := true, userCounters := false, checkPriv := false, bootHart := 0, notifyHart := 0,
    notifyId := 5, resetVector := 0x10000000000, handoverUs := 1, name := [] }

/-- A window of 16 MiB at the start of HBM: R, W, X and EXPORT, whose first line is homed on slice 2. -/
def wWin : MemWin :=
  { qid := 1, index := 0, flags := 0x207, keySlot := 0, shareId := 0, base := 0x10000000000, size := 0x1000000, homeSlices := 0 }

/-- A Binding with one Quire, its core, window, queues, VIs and identities, a System Link route and the QID-0 policies. -/
def wBind : Binding :=
  { Binding.empty with
    generation := 7, present := [1, 2, 4, 8, 9, 0xB, 0xE], quires := [wQuire],
    cores := [{ hart := 0, qid := 1, pair := false }, { hart := 2, qid := 1, pair := false }], windows := [wWin],
    l3Ways := [{ slice := 0, qid := 1, wayMask := 0xF, lockMask := 0x3 }],
    queues := [{ kind := 1, qid := 1, secure := false, function := 0, first := 0, count := 128 },
               { kind := 2, qid := 1, secure := false, function := 0, first := 0, count := 1 },
               { kind := 2, qid := 1, secure := false, function := 1, first := 1, count := 1 },
               { kind := 2, qid := 1, secure := false, function := 2, first := 2, count := 1 },
               { kind := 2, qid := 1, secure := false, function := 3, first := 3, count := 1 },
               { kind := 2, qid := 1, secure := false, function := 4, first := 4, count := 1 }],
    intrs := [{ qid := 1, secure := true, hart := 0, file := 0, firstId := 1, count := 64 }],
    sysLink := some { packageId := 1, portMask := 0xFF, routes := [{ dest := 2, port := 0, altPort := 0xFF }],
                      partners := [{ kind := 0, action := 2, partner := 2, notifyQid := 1 }] },
    deadlines := [{ qid := 0, supervisor := 1, excOnMiss := false, msiOnMiss := false, msiHart := 0, msiId := 0, toGUs := 1, toUUs := 1,
                    toBUs := 1 }] }

/-- A hart of the Quire that runs in M-mode in the Secure world. -/
def wHart : Hart := { Hart.reset with run := .running, qid := 1, secure := true, pc := 0x10000000100, x := [(10, 0x10000000200), (11, 3)] }

/-- A package that runs under that Binding. -/
def w : State :=
  let c : Clasp := { Clasp.reset with eff := wBind, applied := true, gens := [7] }
  { State.reset with
    pins := { State.reset.pins with resetN := true, pwrgood := true, perstN := true, aliveToggling := true },
    boot := { State.reset.boot with phase := .running, pllLocked := true, claspUp := true, memTrained := true, booted := some 0 },
    time := { Time.reset with started := true, now := 2000000000, frame := 200000 },
    harts := [(0, wHart)], clasp := c }

/-- That package with its hart changed. -/
def wh (f : Hart → Hart) : State := w.modHart 0 f

/-- That package with its Clasp changed. -/
def wc (f : Clasp → Clasp) : State := { w with clasp := f w.clasp }

/-- That package with its Binding changed. -/
def wb (f : Binding → Binding) : State := wc (fun c => { c with eff := f c.eff })

/-- That package with its start-up state changed. -/
def wo (f : Boot → Boot) : State := { w with boot := f w.boot }

/-- That package with its power state changed. -/
def wp (f : Power → Power) : State := { w with pwr := f w.pwr }

/-- That package with a port of the System Link. -/
def wsl (t : SlPort) : State := w.setSlPort 0 t

/-- A port whose link is up and whose peer, package 2, is UP. -/
def wPort : SlPort := { SlPort.reset with released := true, link := .up, peer := .up, peerPkg := 2 }

/-- A change of slot tables that waits for its frame boundary. -/
def wPlan : Plan :=
  { boundary := 200003, holding := false, entries := [], bounds := [], demote := [], absent := [], accept := [], changed := [1], isReplan := true }

/-- A fetched ADDI of rd n that puts v there. -/
def wAddi (n : Nat) (v : Word) : Retire := { bits := 0x00000013, len := 4, cls := .alu, writes := [.x n v], csr := none, br := none }

/-- A TLB entry of the page at the window's base. -/
def wTlb : TlbEnt :=
  { virt := false, asid := 3, vmid := 0, global := false, base := 0x10000000000, bits := 12, r := true, w := true, x := true, u := false,
    d := true, pbmt := 0, pa := 0x10000000000, level := 0, pte := 0, gr := false, gw := false, gx := false, gd := false, gpa := 0, glevel := 0,
    gpte := 0, gbits := 0, vbits := 12, unconf := true }

/-- A line of the window in a state. -/
def wLine (st : Mesi) : CLine := { line := 0x400000000, st := st, data := 0x1122334455667788, poison := 0, unconf := false, locked := false }

/-- A load of 8 bytes from the window's base into x5. -/
def wLoad : LoadOp := { rd := 5, va := 0x10000000000, size := 3, signed := false, fetch := false, spec := false }

/-- What an access's address search leaves of the state. -/
def afterLocate (s : State) (h : Nat) (k : AccKind) (va : Word) (n : Nat) : State :=
  match s.locate h k va n false with
  | .inr (u, _, _) => u
  | .inl u => u

/-- The package's hart in S-mode with a one-page Sv39 table at 0x1000_0001_0000 whose only path maps virtual page 0. -/
def wSv39 : State :=
  let s := wh (fun x => { x with mode := .s, csr := [(0x180, 0x8000000010000010)] })
  { s with mem := ((s.mem.write 0x10000010000 (toLE 8 0x4000004401)).write 0x10000011000 (toLE 8 0x4000004801)).write 0x10000012000
                    (toLE 8 0x40000000CF) }

/-- The line of the buffer at 0x1000_0000_0200 with bytes. -/
def wBufLine (bs : List Byte) : CLine := { wLine .s with line := 0x400000008, data := lineOf bs }

/-- What a mailbox instruction's address search leaves of the state. -/
def afterBuffer (s : State) (h : Nat) (k : AccKind) (va : Word) : State :=
  match s.bufferAt h k va with
  | .inr (u, _, _) => u
  | .inl u => u

/-- That package with the hart holding the lines of the table in its L2. -/
def wSv39L : State :=
  wSv39.modHart 0 (fun x => { x with l2 := [0x400000400, 0x400000440, 0x400000480].map (fun l =>
    (l2Set l * 8, { wLine .s with line := l, data := (wSv39.lineValue l).1 })) })

def wWalk : Walk := { va := 0x10, store := false, exec := false, spec := false, hint := false, cbo := false }

/-- The entry that a table walk finds. -/
def wEntry (s : State) : TlbEnt :=
  match s.walkFull 0 0 .load false .s false false with
  | .entry e _ => e
  | _ => wTlb

/-- The PTEs that a table walk reads. -/
def wReads (s : State) : List (Nat × Nat) :=
  match s.walkFull 0 0 .load false .s false false with
  | .entry _ l => l
  | _ => []

/-- The exception that a table walk raises. -/
def wExc (s : State) : Exc :=
  match s.walkFull 0 0x200000 .load false .s false true with
  | .exc e => e
  | _ => Exc.of 0 0

/-- A request of the package's hart, for the line at the window's base. -/
def wMsg (o : Opc) (dst src : Nat) : CohMsg :=
  { opc := o, dst := dst, src := src, core := 0, tag := 5, addr := 0x400000000, qid := 1, spec := false, secure := false, except := false, state := 0,
    poison := 0, status := 0, misc := 0, hasData := false, data := 0x33, cls := 0, stream := none, issue := 0 }

/-- The home node of the window, and the hart's node. -/
def wHome : Nat := sliceNode 2
def wNode : Nat := clusterNode 0

/-- The package with its home slice changed. -/
def ws (f : Slice → Slice) : State := w.modSlice 2 f

/-- A line of the slice. -/
def wL3 : L3Line := { line := 0x400000000, valid := true, dirty := false, qid := 1, data := 0x99, poison := 0 }

/-- A transaction of the slice that waits for snoops. -/
def wTxn : Txn :=
  { req := wMsg .rdu wHome wNode, evict := false, arrived := 0, snoops := [], have_ := false, keepS := false, ownerForm := none, data := none,
    waitMem := false, waitEvict := none, way := none, granted := false, grantAt := 0, shared := false }

/-- A miss of the hart. -/
def wMiss : Miss :=
  { line := 0x400000000, st := .isD, opc := .rds, spec := false, fetch := false, secure := false, tag := 5, cls := 0, dst := wHome, sent := 0,
    expired := false, dropped := false, stream := none, waiters := [.load wLoad 0x10000000000] }

/-- A swap on the doubleword at the window's base. -/
def wAmo : AmoOp := { rd := 6, va := 0x10000000000, size := 3, op := .add, data := 3, cmp := 0, ntlAll := false }

/-- Transactions that wait for two snoops, and for one. -/
def x0 : Txn := { wTxn with snoops := [{ node := wNode, core := 0, tag := 1, issued := 0, held := 0 }, { node := clusterNode 1, core := 0, tag := 2, issued := 0, held := 0 }] }
def x1 : Txn := { wTxn with snoops := [{ node := wNode, core := 0, tag := 1, issued := 0, held := 0 }] }

/-- What a cache-block instruction's address search leaves of the state. -/
def afterBlock (s : State) (h : Nat) (va : Word) : State :=
  match s.locateBlock h va with
  | .inr (u, _, _) => u
  | .inl u => u

/-- A record of an uncorrectable error of the hart's core. -/
def wRec : ErrRec :=
  { severity := 1, addrValid := false, blameValid := false, secure := false, saturated := false, escalated := false, syndrome := 0x0201, origin := 0,
    unitType := 1, qid := 1, unit := 0, blame := 0, count := 1, first := 5, last := 5, addr := 0, info := 0, seq := 0 }

/-- An outbox entry for hart 1 outside the streams, and one of stream 4. -/
def wOut (st : OutSt) : OutboxEnt :=
  { dest := 1, stream := 0xFFFF, deadlineLo := 9, secure := false, payload := 0xAB, st := st, firstSent := some 0, stamp := 0 }
def wOutG : OutboxEnt := { wOut .ready with stream := 4, firstSent := none }

/-- An active stream from hart 0 to hart 2. -/
def wStream : Stream :=
  { st := .active, desc := { stream := 4, rate := 1, secure := false, srcQid := 1, dstQid := 1, srcCore := 0, dstCore := 2, srcNode := clusterNode 0,
                             dstNode := clusterNode 0, routeId := 0, boundPs := 5000 },
    removing := false, planGen := 0, boundPs := 5000, msgs := 0, uMsgs := 0, sentAt := none }

/-- A mailbox message to hart 0 from hart 2. -/
def wMail : MailMsg :=
  { dstNode := clusterNode 0, dstCore := 0, srcNode := clusterNode 0, srcCore := 2, srcHart := 2, stream := 0xFFFF, deadlineLo := 5, secure := false,
    payload := 0x77 }

/-- The inbox entry of such a message. -/
def wIn : InboxEnt :=
  { srcHart := 2, stream := 0xFFFF, g := false, overrun := false, late := false, secure := false, deadlineLo := 5, arrivalLo := 5, payload := 0x77 }

/-- A checked pair of harts 0 and 1. -/
def wPair (f : Hart → Hart) : State := wh (fun x => f { x with paired := true })

/-- A doubleword store of a pair. -/
def wCopy : PairCopy := { kind := .store, va := 0x10000000000, addr := 0x10000000000, size := 3, enables := 0xFF, data := 0x42, attrs := 0 }

/-- The package with its memory, error state and L3 quota changed. -/
def wm (f : MemSys → MemSys) : State := { w with mem := f w.mem }
def we (f : Errors → Errors) : State := { w with err := f w.err }
def wq (f : L3Q → L3Q) : State := ws (fun t => { t with q := [(1, f { L3Q.reset with wayMask := 0xF, lockMask := 0x3 })] })

/-- A core as a unit, and a window that keeps its contents across a power failure. -/
def wCore : UnitId := UnitId.of 0x01 0
def wPersist : MemWin := { wWin with flags := 0x287 }

/-- A buffer that sends a message to hart 0: destination, stream 0xFFFF, deadline and payload. -/
def wBuf : List Byte := toLE 2 0 ++ toLE 2 0xFFFF ++ List.replicate 12 0 ++ toLE 48 0xAB

/-- A write on its way to memory. -/
def w' : MemWrite := { line := 0x400000000, data := 0x5A, poison := 2 }

def wPace : Pace := { src := 0, hart := 0, file := 0, id := 5, secure := true, last := some 0, held := true }

/-- A non-cacheable read that waits for memory. -/
def wRdTxn : Txn := { wTxn with req := wMsg .rdnc wHome wNode, waitMem := true }

/-- The state that a command or a step answers. -/
def after (r : Host.Outcome State Fault Refusal) : State :=
  match r with
  | .next t => t
  | .fault _ | .refused _ => w

/-- An enabled submission queue 5 of VI 0 and its completion queue 6, with rings in the window. -/
def wSq : QCtx :=
  { QCtx.reset with ringBase := 0x10000001000, prod := 3, log2 := 4, st := .enabled, ty := 1, qid := 1, cq := 6 }
def wCq : QCtx := { QCtx.reset with ringBase := 0x10000002000, log2 := 4, st := .enabled, ty := 2, qid := 1, armed := true }

/-- The package with those queues, and with its Queue Engine changed. -/
def wqe (f : Qe → Qe) : State :=
  { w with qe := f { w.qe with ctx := [(5, wSq), (6, wCq)], cached := [5, 6, 7] } }

/-- A descriptor of an operation: OP, FLAGS, LENGTH, SRC, DST and ARGS. -/
def wRaw (op flags len src dst args : Nat) : Line :=
  lineOf (toLE 1 op ++ toLE 1 flags ++ toLE 2 0 ++ toLE 4 len ++ toLE 8 0xD5 ++ toLE 8 src ++ toLE 8 dst ++ toLE 8 0 ++ toLE 24 args)

/-- Such a descriptor of queue 5 in lane 5, and the package that holds it; the VI's function is the one that the operation belongs to. -/
def wFl (st : DescSt) (op flags len args : Nat) : Flight :=
  { sq := 5, idx := 0, vi := if op < 0x10 then 0 else if op < 0x20 then 1 else op / 16, raw := wRaw op flags len 0x10000000000 0x10000000400 args,
    poisoned := false, st := st, status := 0, length := 0, result := 0, reissued := false, since := 0 }
def wRef : DescRef := { lane := 5, sq := 5, idx := 0 }
def wfl (f : Flight) : State := wqe (fun q => { q with lanes := [(5, { Lane.reset with flights := [f] })], keys := [(32 + 3, { alg := 0, secure := false, key := List.replicate 32 7 })] })

/-- A TSN port and a port group. -/
def wTsn (p : Nat) (f : Tsn → Tsn) (s : State) : State := { s with io := { s.io with tsn := [(p, f { Tsn.reset with enable := true, linkUp := true })] } }
def wGroup (g : Nat) (f : PortGroup → PortGroup) : State := { w with io := { w.io with groups := [(g, f { PortGroup.reset with linkUp := [0] })] } }

/-- The package under a Binding that gives its Quire device function 8 of port group 0. -/
def wDev (s : State) : State :=
  { s with clasp := { s.clasp with eff := { s.clasp.eff with functions := [{ group := 0, qid := 1, bdf := 8, secure := true, hotplugCtl := true }] } } }

/-- The package with open unit 31 lent to its Quire. -/
def wOpen (f : OpenUnit → OpenUnit) : State :=
  { (wb (fun b => { b with checks := [{ unit := 31, qid := 1, poly := 0, aliveBits := 0 }] })) with
    chk := { units := [(31, f { shadow := { CheckCfg.reset 0 with init := 5 }, active := CheckCfg.reset 0, rejected := true, busy := none, queue := [] })], fenced := [] } }

/-- A VI's registers. -/
def wVi (n : Nat) (f : Vi → Vi) (s : State) : State := { s with qe := { s.qe with vi := [(n, f Vi.reset)] } }

/-- A short image of a generation with a commit record in a slot, and the package that boots with such images in both slots. -/
def wImg (g : Nat) : List Byte := toLE 8 0 ++ toLE 8 64 ++ toLE 8 g ++ toLE 40 0
def wFlash (a b : Nat) : List Host.Cell :=
  let put := fun (f : List Host.Cell) (k g : Nat) => flashWrite (flashWrite f (slotImage k) (wImg g)) (slotCommit k) (commitRecord k (wImg g))
  put (put [] 0 a) 1 b
def wSelect (a b : Nat) : State :=
  { (wo (fun x => { x with phase := .ready 4, booted := none })) with clasp := { Clasp.reset with flash := wFlash a b } }

/-- The package that is about to apply its Binding. -/
def wApply (f : Binding → Binding) : State :=
  { (wo (fun x => { x with phase := .ready 7, booted := none, current := some 0 })) with
    clasp := { Clasp.reset with cand := some (f wBind, [1], [2]) }, harts := [] }

/-- A System Link message of a kind from package 2, with a body. -/
def wSl (kind : Nat) (body : List Byte) : SlMsg :=
  { kind := kind, hops := 0, secure := false, poison := false, srcPkg := 2, dstPkg := 1, tag := 9, stream := 4, status := 0, body := body }
def wFlit (seq : Nat) (ms : List SlMsg) : SlFlit := { seq := seq, ack := 0, nak := false, alive := 1, check := 0, fecOk := true, msgs := ms }

/-- The address part of a remote access: QID, window, length and offset. -/
def wPart (len off : Nat) : List Byte := [1, 0] ++ toLE 2 len ++ toLE 4 0 ++ toLE 8 off

/-- A waiting receive in queue 5 of a System Link VI, and a request of the queue in flight. -/
def wRecv : State :=
  let f : Flight := { wFl .waiting 0x33 0 8 0 with vi := 3 }
  let s := (wfl f).setSlPort 0 wPort
  s.setQueue 5 { wSq with vi := 3 }
def wReq : SlReq := { tag := 9, port := 0, desc := wRef, off := 0, len := 8 }
def wReqs (st : DescSt) (op : Nat) : State :=
  let s := (wfl (wFl st op 0 8 2)).setSlPort 0 wPort
  { s with sl := { s.sl with reqs := [wReq] } }

/-- A hand-over of Quire 1 that waits for its answer, and its move phase; the delta gives hart 2 back to QID 0. -/
def wDelta : Binding := { Binding.empty with generation := 8, delta := true, baseGeneration := 7, present := [2], cores := [{ hart := 0, qid := 1, pair := false }, { hart := 2, qid := 0, pair := false }] }
def wQuiesce : State :=
  wc (fun c => { c with work := some (.quiesce 1 wDelta [3] [1] [] 0), breq := [(1, { Breq.reset with st := .busy, step := 2, pend := true, pendSeq := 5 })] })
def wMove : State := wc (fun c => { c with work := some (.move 1 wDelta [3]) })

/-- The package in a power state, with its hart in C3. -/
def wSleep (f : Power → Power) : State := { (wh (fun x => { x with cstate := .c3 })) with pwr := f w.pwr }

def wTele (p c : Nat) : Telemetry := { powerW := p, tempC := c, bShare := none, lend := [], prefetch := [], refresh := none }

/-- Firefly inputs, and the package with one enabled rule on GPIO 0 at high level with an action. -/
def wIns : FfInputs := { ain := [], gpio := 1, smbAlert := false }
def wFf (act : Nat) : State := { w with ff := { w.ff with rules := [(0, (word (0x310 + act), 0))] } }

/-! ### Well-formedness: an ill-formed command for each check -/

def badLoad : LoadOp := { rd := 0, va := 0, size := 4, signed := false, fetch := false, spec := false }
def badAmo (rd size : Nat) (op : AmoKind) : AmoOp := { rd := rd, va := 0, size := size, op := op, data := 0, cmp := 0, ntlAll := false }
def badBranch (rd rs1 : Nat) : Branch := { kind := .jalr, pc := 0, len := 4, target := 0, taken := true, rd := rd, rs1 := rs1 }
def badRetire (len : Nat) (ws : List RegWrite) (b : Option Branch) : Retire := { bits := 0, len := len, cls := .alu, writes := ws, csr := none, br := b }
def goodCoh : CohMsg := cohMsg .rds 0 0 0 0 0
def goodMail : MailMsg :=
  { dstNode := 0, dstCore := 0, srcNode := 0, srcCore := 0, srcHart := 0, stream := 0xFFFF, deadlineLo := 0, secure := false, payload := 0 }
def goodSl : SlMsg := wSl 2 []

/-- A hart, register, slice, lane, site, die, group, VI, cluster, stream, crossing, queue, QID or identity that does not exist. -/
theorem test_wf_numbers :
    ([.fence 384, .slStatRead 0 0 32, .dirRebuild 48, .laneFail 8, .partnerLost 2, .nocPllLockLost 32, .cdRegionFence 12 true, .bdRegionFence 4 true,
      .replay 8, .viDrainExpired 8192, .frequencySwitch 48, .gMessageSend 1024, .repairClear 48, .repairClear 63, .repairClear 82,
      .queueDisableDone 2097152, .handoverTimeout 256, .hotPlugArrival 0 65536, .msiPacing 0 9 1, .msiPacing 0 0 0, .msiPacing 0 0 2048,
      .ackTimeout 0 (2 ^ 46), .ownerUpdate 4 0 [] 0 ⟨[], [], [], []⟩] : List Instr).all (fun i => !i.wf) = true := by decide

/-- A field that is too wide for its row. -/
theorem test_wf_fields :
    ([.markArrival 0 true 20, .debugOpen 16 0 ⟨[], [], [], []⟩, .lzLoop 0 2 0 0, .lzLoop 0 0 0 4096, .lzLoopi 0 0 512 0, .retiringStore 0 ⟨0, .none⟩ 4 0,
      .lr 0 0 ⟨0, .none⟩ 1, .sc 0 0 ⟨0, .none⟩ 4 0, .trapEntry 0 64 0, .interruptTaken 0 64, .lzdlarmWrite 0 4 0, .deadlineMiss 0 4, .snoopTimeout 0 0 8192 0,
      .snoopTimeout 0 0 0 9, .completionTimeout .clasp 4096, .laneFailing 0 true 592, .laneFailing 64 true 100, .bypass 0 256, .doorbellRead 0 0 64 4 0,
      .doorbellRead 0 0 0 3 0, .descriptorFetch 9, .pcieLinkDown 0 4, .tsnLinkDown 4, .tsnStreamLost 0 256, .ocuCommit 0 15 0, .ocuCommit 0 32 0,
      .checkUnitFault 32, .counterWrap 0 128, .slLinkUp 0 ⟨4, true⟩, .dmaRequest 0 0 true 0 0 [], .dmaRequest 0 0 true 0 513 [], .dmaRequest 0 0 false 0 4097 [], .imsicWrite 0 (2 ^ 52) 4 0] : List Instr).all
      (fun i => !i.wf) = true := by decide

/-- An operand with a part that does not fit. -/
theorem test_wf_operands :
    ([.registerWrite (.hart 384) (.csr 0) 0, .registerWrite (.node 8192) (.csr 0) 0, .registerWrite .clasp (.addr (2 ^ 52) 8) 0,
      .registerWrite .clasp (.addr 0 3) 0, .registerWrite .clasp (.csr 4096) 0, .clear 0 (.quire 256), .clear 0 (.low ⟨0, 0⟩),
      .recordForward ⟨0x1B, 0⟩, .recordForward ⟨1, 65536⟩, .load 0 badLoad .none, .load 0 { badLoad with size := 3, rd := 32 } .none,
      .amo 0 ⟨(badAmo 0 1 .add), .none⟩, .amo 0 ⟨(badAmo 0 4 .add), .none⟩, .amo 0 ⟨(badAmo 1 4 .cas), .none⟩, .amo 0 ⟨(badAmo 32 3 .add), .none⟩, .branchResolve 0 (badBranch 32 0),
      .branchResolve 0 (badBranch 0 32), .instructionRetire 0 (badRetire 3 [] none) .none, .instructionRetire 0 (badRetire 4 [.x 32 0] none) .none,
      .instructionRetire 0 (badRetire 4 [.f 32 0] none) .none, .instructionRetire 0 (badRetire 4 [.vec 32 0] none) .none,
      .instructionRetire 0 (badRetire 4 [] (some (badBranch 32 0))) .none, .pairRequest 0 true ⟨.store, 0, 2 ^ 52, 3, 0, 0, 0⟩,
      .pairRequest 0 true ⟨.store, 0, 0, 7, 0, 0, 0⟩, .nop ⟨9, 0, 0⟩, .nop ⟨0, 2097152, 0⟩, .nop ⟨0, 0, 2 ^ 32⟩, .dmi 0 (.haltreq 384),
      .dmi 0 (.readReg 0 32), .dmi 0 (.haltGroup 0 32), .dmi 0 (.sysbus (2 ^ 52)), .msi ⟨384, 0, 1, true⟩] : List Instr).all (fun i => !i.wf) = true := by decide

/-- A message with a header field that does not fit. -/
theorem test_wf_messages :
    (([{ goodCoh with dst := 8192 }, { goodCoh with src := 8192 }, { goodCoh with core := 8 }, { goodCoh with tag := 4096 },
       { goodCoh with addr := 2 ^ 46 }, { goodCoh with qid := 256 }, { goodCoh with state := 4 }, { goodCoh with status := 16 },
       { goodCoh with misc := 4096 }, { goodCoh with cls := 3 }, { goodCoh with stream := some 1024 }] : List CohMsg).all (fun m => !(Instr.rds ⟨m, .none⟩).wf)
     && ([{ goodMail with dstNode := 8192 }, { goodMail with dstCore := 8 }, { goodMail with srcNode := 8192 }, { goodMail with srcCore := 8 },
       { goodMail with srcHart := 384 }, { goodMail with stream := 1024 }] : List MailMsg).all (fun m => !(Instr.mailboxMessage m .none).wf)
     && ([⟨8192, 0, 0, 0, 0, .accept⟩, ⟨0, 8, 0, 0, 0, .accept⟩, ⟨0, 0, 8192, 0, 0, .accept⟩, ⟨0, 0, 0, 8, 0, .accept⟩, ⟨0, 0, 0, 0, 384, .accept⟩] : List MailAns).all (fun m => !(Instr.mailboxAnswer ⟨m, .none⟩).wf)
     && ([{ goodSl with kind := 256 }, { goodSl with hops := 16 }, { goodSl with srcPkg := 65536 }, { goodSl with dstPkg := 65536 },
       { goodSl with tag := 2 ^ 32 }, { goodSl with stream := 65536 }, { goodSl with status := 256 },
       { goodSl with body := List.replicate 145 0 }] : List SlMsg).all (fun m => !(Instr.write 0 m).wf)
     && ([{ wFlit 0 [] with seq := 1024 }, { wFlit 0 [] with ack := 1024 }, { wFlit 0 [] with alive := 256 }, { wFlit 0 [] with check := 2 ^ 64 },
       wFlit 0 [{ goodSl with hops := 16 }], wFlit 0 [{ goodSl with body := List.replicate 144 0 }, { goodSl with body := List.replicate 72 0 }]] : List SlFlit).all
       (fun f => !(Instr.linkFlit 0 f).wf)) = true := by decide +kernel

/-- The same commands with operands that fit. -/
theorem test_wf_accepts :
    ([.fence 383, .dirRebuild 47, .repairClear 81, .markArrival 47 true 19, .lzLoopi 0 1 511 4095, .queueDisableDone 2097151, .rds ⟨goodCoh, .none⟩,
      .mailboxMessage goodMail .none, .write 7 goodSl, .linkFlit 7 (wFlit 1023 []), .amo 0 ⟨(badAmo 2 4 .cas), .none⟩, .nop ⟨8, 0, 0⟩] : List Instr).all
      Instr.wf = true := by decide

/-! ### Single results, from the spec's words and from the standards that it names -/

/-- The words of the Xlz encodings (R90, R104). -/
theorem test_xlz_words :
    decodeXlz 0x00C3140B = some (.loopi 0 100 12) ∧ encodeXlz (.loopi 0 100 12) = 0x00C3140B ∧ decodeXlz 0x0005852B = some (.mbsend 10 11)
      ∧ xlzIllegal 0x0000005B = true := by decide

/-- CRC-32C of the nine digits, the check value of that CRC (R318). -/
theorem test_crc32c : crc32c (ascii "123456789") = 0xE3069283 := by decide +kernel

/-- The package time rises by one in every second slot (R37), and an idle step at slot 19 waits for the frame boundary (log 1). -/
theorem test_tick :
    (Time.tick { Time.reset with started := true, slot := 1, now := 41 }).now = 42
      ∧ (Time.tick { Time.reset with started := true, slot := 2, now := 41 }).now = 41 ∧ (Time.tick { Time.reset with slot := 19 }).slot = 19 := by decide

/-- Little-endian stores: the first byte lies lowest (R42), and a value of zero leaves no entry. -/
theorem test_store_order :
    ((w.mem.write 0x10000000000 (toLE 4 0x01020304)).read 0x10000000000 2) = [4, 3]
      ∧ ((w.mem.write 0x10000000000 [7]).write 0x10000000000 [0]).bytes = [] := by decide +kernel

/-- A step takes the front of the queue, and a queue that is empty lets one cycle pass. -/
theorem test_step_front :
    (after (step { w with pending := [.crossingMark, .sourceHold] })).pending = [.sourceHold] ∧ (after (step w)).time.slot = 1 := by decide +kernel

/-- A gated port group answers what waits on it with DEV_ERROR, and an open one keeps it (R401). -/
theorem test_gated_group :
    let m := { cohMsg .rdnc (pcieNode 3) 0 0 5 0 with qid := 1 }
    let s := { w with net := { w.net with io := [m] } }
    (s.gatedRequests (UnitId.of 0x0C 3)).net.io = [] ∧ (s.gatedRequests (UnitId.of 0x0C 3)).net.coh.map (·.status) = [stDevError]
      ∧ (s.gatedRequests (UnitId.of 0x0C 2)).net.io = [m] := by decide +kernel

/-- The lands of the worked examples: DDR5 strobe 2 of channel 3 in row FB, the reference clock in row LA, and a TSN transmit pair in row LD, with their centres (R425 to R427). -/
theorem test_lands :
    landAt 41 75 = some (.ddr 3 false (.dqs 2 true)) ∧ rowLetters 41 = "FB" ∧ landCentre 41 75 = (2915, 715)
      ∧ landAt 80 37 = some (.control "REFCLK_P" 0) ∧ rowLetters 80 = "LA" ∧ landCentre 80 37 = (-1265, -3575)
      ∧ landAt 83 89 = some (.serdes (.tsn 2 1) true true) ∧ rowLetters 83 = "LD" ∧ landCentre 83 89 = (4455, -3905) := by decide +kernel

/-- RESET_N low at State.reset: no hart runs, and the queue is empty. -/
theorem test_reset : State.reset.pending = [] ∧ State.reset.pins.resetN = false ∧ (State.reset.hart 0).run = .reset := by decide

/-- A package at start-up step 7 meets what the floor's clauses ask for, with and without RAISE_FLOOR. -/
theorem witness_Rollback_floor :
    (∃ (s : State) (b : Binding) (dg owner : List Byte), s.boot.phase = .ready 7 ∧ s.clasp.cand = some (b, dg, owner) ∧ s.overlapsContexts b = false
      ∧ b.raiseFloor = true ∧ s.clasp.floor ≤ b.generation) ∧
    (∃ (s : State) (b : Binding) (dg owner : List Byte), s.boot.phase = .ready 7 ∧ s.clasp.cand = some (b, dg, owner) ∧ s.overlapsContexts b = false
      ∧ b.raiseFloor = false) ∧ (∃ (c : Instr) (s t : State), exec c s = .next t) :=
  ⟨⟨wApply (fun b => { b with raiseFloor := true }), { wBind with raiseFloor := true }, [1], [2], by decide +kernel⟩,
   ⟨wApply (fun b => b), wBind, [1], [2], by decide +kernel⟩, ⟨.crossingMark, w, after (exec .crossingMark w), rfl⟩⟩

/-- States that meet the hypotheses of the idle clauses. -/
theorem witness_Steps :
    (∃ s : State, s.pending = [] ∧ s.time.slot < 19) ∧ (∃ s : State, s.pending = [] ∧ 19 ≤ s.time.slot) :=
  ⟨⟨w, by decide +kernel⟩, ⟨{ w with time := { w.time with slot := 19 } }, by decide +kernel⟩⟩

/-- States and operands that meet the hypotheses of `Obligations.Power_edges`, clause by clause. -/
theorem witness_Power_edges :
    (∃ s : State, s.boot.phase = .off) ∧
    (∃ s : State, s.boot.phase ≠ .off) ∧
    (∃ s : State, s.pins.pwrgood = true) :=
  ⟨⟨wo (fun b => { b with phase := .off }), by decide +kernel⟩,
   ⟨w, by decide +kernel⟩,
   ⟨w, by decide +kernel⟩⟩

/-- States and operands that meet the hypotheses of `Obligations.Startup_steps`, clause by clause. -/
theorem witness_Startup_steps :
    (∃ (s : State) (v : BitVec 16), s.boot.phase = .standby) ∧
    (∃ s : State, s.boot.phase = .ready 2) ∧
    (∃ s : State, s.boot.phase = .ready 3 ∧ s.pins.resetN = true) :=
  ⟨⟨State.reset, 3, by decide +kernel⟩,
   ⟨wo (fun b => { b with phase := .ready 2, pllLocked := false }), by decide +kernel⟩,
   ⟨wo (fun b => { b with phase := .ready 3 }), by decide +kernel⟩⟩

/-- States and operands that meet the hypotheses of `Obligations.Resets_and_trips`, clause by clause. -/
theorem witness_Resets_and_trips :
    (∃ s : State, s.boot.phase = .running ∧ s.pins.pwrgood = true ∧ s.boot.flush = .none ∧ s.pwr.pkEntering = none) ∧
    (∃ s : State, s.boot.phase = .running ∧ s.boot.fatal.isSome = true ∧ s.boot.flush = .none) ∧
    (∃ s : State, s.boot.phase = .draining) ∧
    (∃ s : State, s.clocked = true) ∧
    (∃ s : State, s.boot.phase = .refclkLost) ∧
    (∃ s : State, s.clocked = true) ∧
    (∃ (s : State) (d : Nat), s.clocked = true ∧ packageDies.contains d = true ∧ d ≠ iodDie) ∧
    (∃ s : State, s.clocked = true) ∧
    (∃ s : State, s.boot.phase = .tripped) :=
  ⟨⟨w, by decide +kernel⟩,
   ⟨wo (fun b => { b with fatal := some { syndrome := 1, origin := 0, addr := none } }), by decide +kernel⟩,
   ⟨wo (fun b => { b with phase := .draining }), by decide +kernel⟩,
   ⟨w, by decide +kernel⟩,
   ⟨wo (fun b => { b with phase := .refclkLost }), by decide +kernel⟩,
   ⟨w, by decide +kernel⟩,
   ⟨w, 0, by decide +kernel⟩,
   ⟨w, by decide +kernel⟩,
   ⟨wo (fun b => { b with phase := .tripped }), by decide +kernel⟩⟩

/-- States and operands that meet the hypotheses of `Obligations.Package_time`, clause by clause. -/
theorem witness_Package_time :
    (∃ s : State, s.boot.pllLocked = true ∧ s.time.started = false) ∧
    (∃ s : State, s.boot.pllLocked = true ∧ s.time.started = true) ∧
    (∃ s : State, s.time.slewOn = true ∧ s.time.slewCount = s.time.slewInterval) ∧
    (∃ (s : State) (d : Nat) (k : Int), s.time.started = true ∧ s.time.frame % 1024 = 0 ∧ s.time.skew = [(d, k)] ∧ s.time.holding = [] ∧
      packageDies.contains d = true ∧ d ≠ iodDie ∧ k ≠ 0) ∧
    (∃ (s : State) (h : Nat) (v : Word), s.readySide h = true ∧ s.ownerHart (.hart h) = true ∧ s.time.step = none ∧ v.toNat < 2 ^ 48) ∧
    (∃ (s : State) (h : Nat) (v : Word), s.readySide h = true ∧ s.ownerHart (.hart h) = true ∧ v &&& ~~~(word ptSlewMask) = 0 ∧ (flagOf v 63 = false
      ∨ 500 ≤ fieldOf v 0 32)) ∧
    (∃ (s : State) (h rd : Nat), s.readySide h = true ∧ s.readsTime h = true) :=
  ⟨⟨{ w with time := Time.reset }, by decide +kernel⟩,
   ⟨{ w with time := { w.time with slot := 19, step := some 3 } }, by decide +kernel⟩,
   ⟨{ w with time := { w.time with slewOn := true, slewInterval := 5, slewCount := 5 } }, by decide +kernel⟩,
   ⟨{ w with time := { w.time with frame := 1024, skew := [(1, 2)] } }, 1, 2, by decide +kernel⟩,
   ⟨w, 0, 0xFFFFFFFFFFFF, by decide +kernel⟩,
   ⟨w, 0, 0x80000000000001F4, by decide +kernel⟩,
   ⟨w, 0, 31, by decide +kernel⟩⟩

/-- States and operands that meet the hypotheses of `Obligations.Crossings_and_slots`, clause by clause. -/
theorem witness_Crossings_and_slots :
    (∃ s : State, s.time.started = true ∧ s.time.frame % 1024 = 0 ∧ s.time.slot = 0) ∧
    (∃ (s : State) (x slot : Nat) (i : Bool) (m : Mark), s.net.marks.find? (fun m => m.x == x && m.inward == i) = some m ∧ markDeviation x slot = 0) ∧
    (∃ (s : State) (x slot : Nat) (i : Bool) (m : Mark), s.net.marks.find? (fun m => m.x == x && m.inward == i) = some m ∧ markDeviation x slot ≠ 0
      ∧ (s.xl x).st = .up ∧ (s.xl x).lastDev = none) ∧
    (∃ (s : State) (x : Nat) (i : Bool) (c : BitVec 32) (r : Report), s.net.reports.find? (fun r => r.x == x && r.inward == i) = some r ∧ c ≠ mapCrc
      (if i then s.links.far else s.links.near) x i) ∧
    (∃ (s : State) (x : Nat) (r : TrainResult), s.trains x = true ∧ r.clocksUp = true ∧ r.badOut = [] ∧ r.badIn = [] ∧ r.rawLat ≤ rawLimit x ∧
      r.markOk = true ∧ s.links.repair = [] ∧ s.links.far = [] ∧ s.links.near = []) ∧
    (∃ (s : State) (x : Nat) (r : TrainResult), s.trains x = true ∧ r.clocksUp = false ∧ (s.xl x).fails = 0) ∧
    (∃ (s : State) (x lane n : Nat) (i : Bool), (s.xl x).st = .up ∧ (s.xl x).errs = [(i, lane, n)] ∧ 256 ≤ n ∧ lane ∉ s.badLanes x i ∧ lane <
      (lanesOf x).total) ∧
    (∃ s : State, s.time.frame % 100000 = 0) ∧
    (∃ (s : State) (x b : Nat) (r : Remap), (s.xl x).remaps = [r] ∧ r.boundary = some b ∧ b ≤ s.time.frame) ∧
    (∃ s : State, s.links.repairDirty = true) ∧
    (∃ (s : State) (x : Nat), s.smbusUp = true ∧ s.debugOpenBits.getLsbD 2 = true) ∧
    (∃ (s : State) (x : Nat), s.fabric.plan = none ∧ s.degraded x = true) ∧
    (∃ (s : State) (p : Plan), s.fabric.plan = some p ∧ p.holding = false ∧ p.boundary ≤ s.time.frame + 3) ∧
    (∃ (s : State) (p : Plan), s.fabric.plan = some p ∧ p.holding = true ∧ p.boundary ≤ s.time.frame ∧ s.time.slot = 0) ∧
    (∃ (s : State) (h i : Nat), s.readySide h = true ∧ s.fmAllowed (.hart h) true (0x40018 + i * 0x100) = true) :=
  ⟨⟨{ w with time := { w.time with frame := 1024 }, links := { w.links with xl := [(64, { Xl.reset with st := .up })] } }, by decide +kernel⟩,
   ⟨{ w with net := { w.net with marks := [{ x := 0, inward := true, frame := 0 }] } }, 0, 4, true, { x := 0, inward := true, frame := 0 },
     by decide +kernel⟩,
   ⟨{ w with net := { w.net with marks := [{ x := 0, inward := true, frame := 0 }] }, links := { w.links with xl := [(0, { Xl.reset with st := .up })] } },
     0, 5, true, { x := 0, inward := true, frame := 0 }, by decide +kernel⟩,
   ⟨{ w with net := { w.net with reports := [{ x := 0, inward := true, frame := 0, crc := 1, width := 0, sel := 0 }] } }, 0, true, 1,
     { x := 0, inward := true, frame := 0, crc := 1, width := 0, sel := 0 }, by decide +kernel⟩,
   ⟨{ w with links := { w.links with xl := [(0, { Xl.reset with st := .training })] } }, 0,
     { clocksUp := true, badOut := [], badIn := [], rawLat := 1, markOk := true }, by decide +kernel⟩,
   ⟨{ w with links := { w.links with xl := [(64, { Xl.reset with st := .training })] } }, 64,
     { clocksUp := false, badOut := [], badIn := [], rawLat := 1, markOk := true }, by decide +kernel⟩,
   ⟨{ w with links := { w.links with xl := [(0, { Xl.reset with st := .up, errs := [(true, 3, 256)] })] } }, 0, 3, 256, true,
     by decide +kernel⟩,
   ⟨{ w with links := { w.links with xl := [(0, { Xl.reset with st := .up, errs := [(true, 3, 255)] })] } }, by decide +kernel⟩,
   ⟨{ w with links := { w.links with xl := [(0, { Xl.reset with st := .up, remaps := [{ boundary := some 200000, inward := false, width := .half, sel := 1, spares := [] }] })] } },
     0, 200000, { boundary := some 200000, inward := false, width := .half, sel := 1, spares := [] }, by decide +kernel⟩,
   ⟨{ w with links := { w.links with repairDirty := true } }, by decide +kernel⟩,
   ⟨wc (fun c => { c with session := some { bits := 4, fin := 9000000000 } }), 0, by decide +kernel⟩,
   ⟨{ w with links := { w.links with xl := [(0, { Xl.reset with st := .failed })] } }, 0, by decide +kernel⟩,
   ⟨{ w with fabric := { w.fabric with streams := [(1, { Stream.reset with st := .active })], plan := some wPlan } }, wPlan, by decide +kernel⟩,
   ⟨{ w with fabric := { w.fabric with streams := [(1, { Stream.reset with st := .held })], plan := some { wPlan with holding := true, boundary := 200000 } } },
     { wPlan with holding := true, boundary := 200000 }, by decide +kernel⟩,
   ⟨{ w with net := { w.net with stats := [(0, { Stats.reset with bytesB := 64, freeze := true })] } }, 0, 0, by decide +kernel⟩⟩

/-- States and operands that meet the hypotheses of `Obligations.Partner_dies`, clause by clause. -/
theorem witness_Partner_dies :
    (∃ (s : State) (i : Nat) (c : List Byte), i < 2 ∧ s.bind.siteList i ≠ [] ∧ (s.partner i).st = .cert) ∧
    (∃ (s : State) (i : Nat), i < 2 ∧ (s.partner i).st = .cert ∧ (s.partner i).since + 10000000 ≤ s.time.now) ∧
    (∃ (s : State) (i : Nat) (v : Word), i < 2 ∧ (s.partner i).st = .training ∧ (s.xl (80 + i)).st = .up ∧ fieldOf v 8 2 = 3 ∧ fieldOf v 0 5 = 28 +
      i ∧ fieldOf v 16 4 = (s.partner i).meshW ∧ fieldOf v 20 4 = (s.partner i).meshH) ∧
    (∃ (s : State) (i : Nat), i < 2 ∧ (s.partner i).st = .up) ∧
    (∃ (s : State) (i : Nat), i < 2 ∧ (s.partner i).st = .lost ∧ 0 < (s.partner i).retries ∧ (s.partner i).since + 1000000 ≤ s.time.now ∧ (s.partner
      i).blocked = false ∧ s.bind.siteList i ≠ []) :=
  ⟨⟨{ wb (fun b => { b with allow := [{ site := 0, digest := [1] }] }) with links := { w.links with partner := [(0, { Partner.reset with st := .cert })] } },
     0, [1, 2], by decide +kernel⟩,
   ⟨{ w with links := { w.links with partner := [(1, { Partner.reset with st := .cert, since := 1990000000 })] } }, 1, by decide +kernel⟩,
   ⟨{ w with links := { w.links with xl := [(80, { Xl.reset with st := .up })], partner := [(0, { Partner.reset with st := .training, meshW := 2, meshH := 2 })] } },
     0, 0x22031C, by decide +kernel⟩,
   ⟨{ w with links := { w.links with xl := [(81, { Xl.reset with st := .up })], partner := [(1, { Partner.reset with st := .up, retries := 2 })] } },
     1, by decide +kernel⟩,
   ⟨{ wb (fun b => { b with allow := [{ site := 0, digest := [1] }] }) with links := { w.links with partner := [(0, { Partner.reset with st := .lost, retries := 2, since := 1999000000 })] } },
     0, by decide +kernel⟩⟩

/-- States and operands that meet the hypotheses of `Obligations.Test_port`, clause by clause. -/
theorem witness_Test_port :
    (∃ (s : State), s.inChain iodDie = true ∧ s.pins.resetN = false) ∧
    (∃ (s : State), s.inChain iodDie = true) ∧
    (∃ (s : State) (d : Nat), s.inChain d = true) ∧
    (∃ (s : State) (d : Nat), s.inChain d = true ∧ s.wrapOk d = true) ∧
    (∃ (s : State) (d : Nat), s.inChain d = true ∧ s.wrapOk d = true) ∧
    (∃ (s : State) (d : Nat), s.inChain d = true ∧ s.testSession = true) ∧
    (∃ (s : State) (d : Nat), s.inChain d = true ∧ d ≠ iodDie) ∧
    (∃ (s : State) (d c : Nat), s.inChain d = true ∧ [0x00, 0x01, 0x02, 0x03, 0x04, 0x08, 0x10, 0x11, 0x20, 0x21, 0x30].contains c = false) ∧
    (∃ (s : State) (h : Nat), s.inChain iodDie = true ∧ s.clocked = true ∧ s.invApplies h = true ∧ (s.hart h).run = .running ∧ h ∈ s.cellHarts h) ∧
    (∃ (s : State) (h rd : Nat), s.inChain iodDie = true ∧ s.clocked = true ∧ s.invApplies h = true ∧ (s.hart h).run = .halted ∧ rd < 32) ∧
    (∃ (s : State) (h rd : Nat) (v : Word), s.inChain iodDie = true ∧ s.clocked = true ∧ s.invApplies h = false) :=
  ⟨⟨{ w with pins := { w.pins with resetN := false } }, by decide +kernel⟩,
   ⟨w, by decide +kernel⟩,
   ⟨w, 0, by decide +kernel⟩,
   ⟨wc (fun c => { c with session := some { bits := 15, fin := 9000000000 } }), 16, by decide +kernel⟩,
   ⟨wc (fun c => { c with session := some { bits := 15, fin := 9000000000 } }), 0, by decide +kernel⟩,
   ⟨wc (fun c => { c with session := some { bits := 15, fin := 9000000000 } }), 11, by decide +kernel⟩,
   ⟨w, 0, by decide +kernel⟩,
   ⟨w, 24, 0x12, by decide +kernel⟩,
   ⟨wc (fun c => { c with session := some { bits := 15, fin := 9000000000 } }), 0, by decide +kernel⟩,
   ⟨{ wc (fun c => { c with session := some { bits := 15, fin := 9000000000 } }) with harts := [(0, { wHart with run := .halted })] }, 0, 11,
     by decide +kernel⟩,
   ⟨w, 0, 3, 3, by decide +kernel⟩⟩

/-- States and operands that meet the hypotheses of `Obligations.Owner_interface`, clause by clause. -/
theorem witness_Owner_interface :
    (∃ (s : State), s.smbusUp = true) ∧
    (∃ (s : State) (n : BitVec 256), s.smbusUp = true) ∧
    (∃ (s : State), s.smbusUp = true) ∧
    (∃ (s : State) (c : BitVec 256) (f : Nat), s.clasp.challenge = some (c, f) ∧ f ≤ s.time.now) ∧
    (∃ (s : State) (a b : List Byte), s.smbusUp = true ∧ (∀ i < 4, (s.owner i).st = .empty) ∧ a.length = 2592 ∧ b.length = 97) ∧
    (∃ (s : State) (i c : Nat) (hs : List Byte) (g : SigBlock), s.smbusUp = true ∧ i < 4 ∧ hs.length = 96 ∧ c = s.clasp.updCounter + 1 ∧
      s.slotAdvances i .active = true) ∧
    (∃ (s : State) (img : List Byte), s.smbusUp = true ∧ s.boot.phase = .noBinding ∧ s.clasp.work = none) :=
  ⟨⟨w, by decide +kernel⟩,
   ⟨w, 5, by decide +kernel⟩,
   ⟨w, by decide +kernel⟩,
   ⟨wc (fun c => { c with challenge := some (3, 2000000000) }), 3, 2000000000, by decide +kernel⟩,
   ⟨w, List.replicate 2592 1, List.replicate 97 2, by decide +kernel⟩,
   ⟨w, 3, 1, List.replicate 96 7, { mldsaPk := [], mldsaSig := [], ecdsaPk := [], ecdsaSig := [] }, by decide +kernel⟩,
   ⟨wo (fun b => { b with phase := .noBinding }), [1], by decide +kernel⟩⟩

/-- States and operands that meet the hypotheses of `Obligations.Sessions_and_watchdog`, clause by clause. -/
theorem witness_Sessions_and_watchdog :
    (∃ (s : State) (bits d f : Nat) (c : BitVec 256) (g : SigBlock), s.smbusUp = true ∧ s.clasp.challenge = some (c, f) ∧ s.time.now < f) ∧
    (∃ s : State, s.smbusUp = true ∧ s.clasp.session.isSome = true) ∧
    (∃ (s : State) (c : Session), s.clasp.session = some c ∧ c.fin ≤ s.time.now) ∧
    (∃ s : State, s.clasp.resign = true ∧ s.boot.claspUp = true) ∧
    (∃ (s : State) (h : Nat) (v : Word), s.readySide h = true ∧ s.swdHart (.hart h) = true ∧ s.clasp.swd.enable = false ∧ 0 < fieldOf (v ||| word (2
      ^ 63)) 0 17 ∧ fieldOf (v ||| word (2 ^ 63)) 0 17 ≤ 60000) ∧
    (∃ (s : State) (h : Nat), s.readySide h = true ∧ s.swdHart (.hart h) = true ∧ s.clasp.swd.enable = true) ∧
    (∃ s : State, s.swdDue = true ∧ s.clasp.swd.stage = 0) ∧
    (∃ s : State, s.swdDue = true ∧ s.clasp.swd.stage = 1) :=
  ⟨⟨wc (fun c => { c with challenge := some (3, 2000000001) }), 15, 60, 2000000001, 3,
     { mldsaPk := [], mldsaSig := [], ecdsaPk := [], ecdsaSig := [] }, by decide +kernel⟩,
   ⟨wc (fun c => { c with session := some { bits := 15, fin := 9000000000 } }), by decide +kernel⟩,
   ⟨wc (fun c => { c with session := some { bits := 15, fin := 2000000000 } }), { bits := 15, fin := 2000000000 }, by decide +kernel⟩,
   ⟨wc (fun c => { c with resign := true, epoch := 0xFFFFFFFF }), by decide +kernel⟩,
   ⟨w, 0, 60000, by decide +kernel⟩,
   ⟨wc (fun c => { c with swd := { c.swd with enable := true, stage := 1, periodMs := 5 } }), 0, by decide +kernel⟩,
   ⟨wc (fun c => { c with swd := { c.swd with enable := true, periodMs := 5, since := some 1995000000 } }), by decide +kernel⟩,
   ⟨wc (fun c => { c with swd := { c.swd with enable := true, stage := 1, periodMs := 5, since := some 1995000000 } }), by decide +kernel⟩⟩

/-- States and operands that meet the hypotheses of `Obligations.Instructions_retire`, clause by clause. -/
theorem witness_Instructions_retire :
    (∃ (s : State) (h n : Nat) (v : Word) (i : Retire), s.ready h = true ∧ i.len = 4 ∧ xlzIllegal i.bits = false ∧ decodeXlz i.bits = none ∧ i.csr =
      none ∧ i.br = none ∧ i.writes = [.x n v]) ∧
    (∃ (s : State) (h : Nat) (i : Retire), s.ready h = true ∧ i.len = 4 ∧ xlzIllegal i.bits = true ∧ (s.hart h).mode = .m) ∧
    (∃ (s : State) (h : Nat) (b : Branch), s.hartLive h = true) :=
  ⟨⟨w, 0, 31, 0xFFFFFFFFFFFFFFFF, wAddi 31 0xFFFFFFFFFFFFFFFF, by decide +kernel⟩,
   ⟨w, 0, { wAddi 1 0 with bits := 0x0000005B }, by decide +kernel⟩,
   ⟨wh (fun x => { x with ras := [5], rasSpec := [6] }), 0,
     { kind := .cond, pc := 0x10000000100, len := 4, target := 0x10000000000, taken := false, rd := 0, rs1 := 0 }, by decide +kernel⟩⟩

/-- States and operands that meet the hypotheses of `Obligations.Loop_setup`, clause by clause. -/
theorem witness_Loop_setup :
    (∃ (s : State) (h l r e : Nat), s.ready h = true ∧ l < 2 ∧ 0 < ((s.hart h).getX r).toNat ∧ (s.hart h).loopFault l e ((s.hart h).getX r).toNat
      true = none) ∧
    (∃ (s : State) (h l c e : Nat), s.ready h = true ∧ l < 2 ∧ 0 < c ∧ (s.hart h).loopFault l e c false = none) ∧
    (∃ (s : State) (h l e : Nat), s.ready h = true ∧ (s.hart h).loopFault l e 0 false = none) :=
  ⟨⟨w, 0, 0, 11, 2048, by decide +kernel⟩,
   ⟨w, 0, 0, 511, 1, by decide +kernel⟩,
   ⟨w, 0, 0, 12, by decide +kernel⟩⟩

/-- States and operands that meet the hypotheses of `Obligations.Zero_count`, clause by clause. -/
theorem witness_Zero_count :
    (∃ (s : State) (h level endOff : Nat), s.ready h = true ∧ (s.hart h).loopFault level endOff 0 false = none) ∧
    (∃ (s : State) (h level endOff : Nat), ∃ rs1, s.ready h = true ∧ (s.hart h).loopFault level endOff 0 false = none ∧ (s.hart h).getX rs1 = 0) :=
  ⟨⟨w, 0, 0, 2048, by decide +kernel⟩,
   ⟨wh (fun x => { x with loop0 := { active := true, virt := false, prv := .m, len := 24, count := 3, stop := 0x10000000110 } }), 0, 1, 6,
     (0 : Nat), by decide +kernel⟩⟩

/-- States and operands that meet the hypotheses of `Obligations.Fences_of_harts`, clause by clause. -/
theorem witness_Fences_of_harts :
    (∃ (s : State) (h : Nat), s.ready h = true) ∧
    (∃ (s : State) (h : Nat), s.ready h = true) ∧
    (∃ (s : State) (h : Nat), s.ready h = true ∧ (s.hart h).quiet = true) ∧
    (∃ (s : State) (h : Nat), s.ready h = true ∧ (s.hart h).quiet = false) ∧
    (∃ (s : State) (h : Nat) (va : Option Word) (asid : Option Nat), s.ready h = true ∧ (s.hart h).mode = .m ∧ (s.hart h).virt = false) ∧
    (∃ (s : State) (h : Nat) (va : Option Word) (asid : Option Nat), s.ready h = true ∧ (s.hart h).mode = .m) ∧
    (∃ (s : State) (h n : Nat), s.ready h = true ∧ (s.hart h).mode = .m) :=
  ⟨⟨wh (fun x => { x with l1d := [(0, { wLine .s with unconf := true })], dtlb := [(0, wTlb)] }), 0, by decide +kernel⟩,
   ⟨wh (fun x => { x with l1i := [(0, wLine .s)], l1d := [(0, wLine .s)] }), 0, by decide +kernel⟩,
   ⟨w, 0, by decide +kernel⟩,
   ⟨wh (fun x => { x with misses := [{ line := 1, st := .isD, opc := .rds, spec := false, fetch := false, secure := true, tag := 0, cls := 1, dst := 0, sent := 0, expired := false, dropped := false, stream := none, waiters := [.load wLoad 64] }] }),
     0, by decide +kernel⟩,
   ⟨wh (fun x => { x with l2tlb := [(0, wTlb)] }), 0, none, some 3, by decide +kernel⟩,
   ⟨wh (fun x => { x with dtlb := [(0, { wTlb with virt := true })] }), 0, some 0x10000000000, none, by decide +kernel⟩,
   ⟨wh (fun x => { x with locked := [(0, { wTlb with virt := true, vmid := 2 })] }), 0, 2, by decide +kernel⟩⟩

/-- States and operands that meet the hypotheses of `Obligations.Traps_and_returns`, clause by clause. -/
theorem witness_Traps_and_returns :
    (∃ (s : State) (h c : Nat) (v : Word), s.ready h = true ∧ (s.hart h).mode = .m ∧ (s.hart h).virt = false) ∧
    (∃ (s : State) (h c : Nat), s.hartLive h = true ∧ s.interruptDue h c = true ∧ (s.hart h).mode = .m ∧ (s.hart h).virt = false) ∧
    (∃ (s : State) (h : Nat), s.ready h = true ∧ (s.hart h).mode = .m) ∧
    (∃ (s : State) (h c : Nat) (v : Word), s.ready h = true ∧ (s.hart h).mode = .u) ∧
    (∃ (s : State) (h : Nat) (v : Word), s.ready h = true ∧ (s.hart h).mode = .m ∧ modeOk (fieldOf v 60 4) = true ∧ (s.hart h).virt = false) :=
  ⟨⟨wh (fun x => { x with csr := [(0x305, 0x10000000801)] }), 0, 2, 0x13, by decide +kernel⟩,
   ⟨wh (fun x => { x with csr := [(0x300, 8), (0x304, 0x80), (0x305, 0x10000000801), (0x344, 0x80)] }), 0, 7, by decide +kernel⟩,
   ⟨wh (fun x => { x with csr := [(0x300, 0x1880), (0x341, 0x10000000400)] }), 0, by decide +kernel⟩,
   ⟨wh (fun x => { x with mode := .u, ras := [5], btb := [(0, { pc := 0, target := 0 })], l1d := [(0, { wLine .s with unconf := true })] }),
     0, 8, 0, by decide +kernel⟩,
   ⟨wh (fun x => { x with ras := [5], dtlb := [(0, wTlb)] }), 0, 0xF000000000012345, by decide +kernel⟩⟩

/-- States and operands that meet the hypotheses of `Obligations.Worlds_deadlines_sleep`, clause by clause. -/
theorem witness_Worlds_deadlines_sleep :
    (∃ (s : State) (h : Nat) (v : Word), s.ready h = true ∧ (s.hart h).mode = .m ∧ (s.hart h).quiet = true ∧ s.bind.dualWorld (s.hart h).qid = true
      ∧ v.toNat < 2) ∧
    (∃ (s : State) (h : Nat) (v : Word), s.ready h = true ∧ (s.hart h).mode = .m ∧ (s.hart h).quiet = true ∧ s.bind.dualWorld (s.hart h).qid =
      false) ∧
    (∃ (s : State) (h : Nat) (v : Word), s.ready h = true ∧ (s.hart h).mode = .m ∧ (s.hart h).quiet = false) ∧
    (∃ (s : State) (h n : Nat) (v : Word), s.ready h = true ∧ n < 4 ∧ s.hartTime h < v.toNat) ∧
    (∃ (s : State) (h : Nat) (v : Word), s.ready h = true) ∧
    (∃ (s : State) (h n : Nat), n < 4 ∧ (s.hart h).dlArmed.getLsbD n = true ∧ (Tab.get (s.hart h).dlTime 0 n).toNat ≤ s.hartTime h ∧ (s.hart h).run
      ≠ .fenced) ∧
    (∃ (s : State) (h : Nat), s.ready h = true ∧ (s.hart h).mode = .m) ∧
    (∃ (s : State) (h : Nat), (s.hart h).entering = some .c1 ∧ s.wakeDue h = false) ∧
    (∃ (s : State) (h : Nat), (s.hart h).wakeHeld = true ∧ (s.hart h).entering = none ∧ (s.hart h).cstate ≠ .c0 ∧ s.pwr.pk = 0 ∧ s.pwr.pkEntering =
      none) :=
  ⟨⟨w, 0, 0, by decide +kernel⟩,
   ⟨wb (fun b => { b with quires := [{ wQuire with dualWorld := false }] }), 0, 0, by decide +kernel⟩,
   ⟨wh (fun x => { x with misses := [wMiss] }), 0, 0, by decide +kernel⟩,
   ⟨wh (fun x => { x with dlMissed := 15 }), 0, 3, 2000000001, by decide +kernel⟩,
   ⟨wh (fun x => { x with dlArmed := 15, dlMissed := 15, dlExcEn := 15 }), 0, 0x103, by decide +kernel⟩,
   ⟨wh (fun x => { x with dlArmed := 9, dlTime := [(3, 2000000000)] }), 0, 3, by decide +kernel⟩,
   ⟨w, 0, by decide +kernel⟩,
   ⟨wh (fun x => { x with entering := some .c1 }), 0, by decide +kernel⟩,
   ⟨wh (fun x => { x with cstate := .c2, wakeHeld := true }), 0, by decide +kernel⟩⟩

/-- States and operands that meet the hypotheses of `Obligations.Translation`, clause by clause. -/
theorem witness_Translation :
    (∃ (s : State) (h : Nat) (v : Word), s.ready h = true ∧ (s.hart h).mode = .m) ∧
    (∃ (s : State) (h : Nat) (v : Word), s.ready h = true ∧ (s.hart h).mode = .m) ∧
    (∃ (s : State) (h : Nat) (v : Word) (e : TlbEnt) (reads : List (Nat × Nat)), s.ready h = true ∧ (s.hart h).mode = .m ∧ flagOf v 5 = false ∧
      flagOf v 6 = false ∧ modeLevels (fieldOf ((s.hart h).getCsr 0x180) 60 4) ≠ 0 ∧ canonical (modeLevels (fieldOf ((s.hart h).getCsr 0x180) 60 4))
      (v &&& ~~~(word 0xFFF)).toNat = true ∧ s.walkFull h (v &&& ~~~(word 0xFFF)) .load false .s false false = .entry e reads ∧ (s.hart h).notOwned
      reads = none ∧ (s.hart h).locked = []) ∧
    (∃ (s : State) (h l : Nat) (w : Walk), s.hartLive h = true ∧ (s.hart h).walk = some w ∧ w.exec = false ∧ w.store = false ∧ s.walkFull h w.va
      .load ((s.hart h).effMode .load).2 ((s.hart h).effMode .load).1 w.spec true = .need l) ∧
    (∃ (s : State) (h : Nat) (w : Walk) (e : TlbEnt) (reads : List (Nat × Nat)), s.hartLive h = true ∧ (s.hart h).walk = some w ∧ w.exec = false ∧
      w.store = false ∧ w.spec = false ∧ (s.hart h).locked = [] ∧ (s.hart h).notOwned reads = none ∧ s.walkFull h w.va .load ((s.hart h).effMode
      .load).2 ((s.hart h).effMode .load).1 false true = .entry e reads) ∧
    (∃ (s : State) (h : Nat) (w : Walk) (e : Exc), s.hartLive h = true ∧ (s.hart h).walk = some w ∧ w.exec = false ∧ w.store = false ∧ w.spec =
      false ∧ w.hint = false ∧ w.cbo = false ∧ s.walkFull h w.va .load ((s.hart h).effMode .load).2 ((s.hart h).effMode .load).1 false true = .exc e) :=
  ⟨⟨wh (fun x => { x with locked := [(31, wTlb)] }), 0, 0xF80, by decide +kernel⟩,
   ⟨w, 0, 0x80, by decide +kernel⟩,
   ⟨{ wSv39L with harts := [(0, { wSv39L.hart 0 with mode := .m })] }, 0, 0, wEntry wSv39L, wReads wSv39L, by decide +kernel⟩,
   ⟨wSv39.modHart 0 (fun x => { x with walk := some wWalk }), 0, 0x400000400, wWalk, by decide +kernel⟩,
   ⟨wSv39L.modHart 0 (fun x => { x with walk := some wWalk }), 0, wWalk, wEntry wSv39L, wReads wSv39L, by decide +kernel⟩,
   ⟨wSv39L.modHart 0 (fun x => { x with walk := some { wWalk with va := 0x200000 } }), 0, { wWalk with va := 0x200000 }, wExc wSv39L,
     by decide +kernel⟩⟩

/-- States and operands that meet the hypotheses of `Obligations.Hart_frames`, clause by clause. -/
theorem witness_Hart_frames :
    (∃ (c : Instr) (h : Nat) (s t : State), onlyHart c = some h ∧ s.trigFirst h = false ∧ exec c s = .next t) :=
  ⟨.trapEntry 0 2 0, 0, w, after (exec (.trapEntry 0 2 0) (w)), ⟨by decide +kernel, by decide +kernel, rfl⟩⟩

/-- States and operands that meet the hypotheses of `Obligations.Loads_and_stores`, clause by clause. -/
theorem witness_Loads_and_stores :
    (∃ (s u : State) (h k pa : Nat) (o : LoadOp) (c : CLine), s.ready h = true ∧ o.size ≤ 3 ∧ o.spec = false ∧ o.fetch = false ∧ inLine o.va (2 ^
      o.size) = true ∧ s.trigFor h .load o.va.toNat (2 ^ o.size) none = none ∧ (s.hart h).misses = [] ∧ s.locate h .load o.va (2 ^ o.size) false =
      .inr (u, pa, .ordinary) ∧ (u.hart h).ncBusy (pa / 64) = false ∧ findLine (u.hart h).l1d (pa / 64) = some (k, c) ∧ k / 8 = l1dSet o.va.toNat ∧
      c.poison = 0) ∧
    (∃ (s u : State) (h pa : Nat) (o : LoadOp), s.ready h = true ∧ o.size ≤ 3 ∧ o.spec = false ∧ o.fetch = false ∧ inLine o.va (2 ^ o.size) = true ∧
      s.trigFor h .load o.va.toNat (2 ^ o.size) none = none ∧ (s.hart h).misses = [] ∧ s.locate h .load o.va (2 ^ o.size) false = .inr (u, pa,
      .ordinary) ∧ (u.hart h).lineSt (pa / 64) = .i ∧ u.unhindered h (pa / 64)) ∧
    (∃ (s : State) (h : Nat) (o : LoadOp), s.hartLive h = true ∧ o.spec = true ∧ o.fetch = false ∧ (s.hart h).lzspec.getLsbD 0 = true) ∧
    (∃ (s u : State) (h k pa size : Nat) (va data : Word) (c : CLine), s.ready h = true ∧ size ≤ 3 ∧ inLine va (2 ^ size) = true ∧ s.trigFor h
      .store va.toNat (2 ^ size) (some (data.toNat % 2 ^ (8 * 2 ^ size))) = none ∧ s.locate h .store va (2 ^ size) false = .inr (u, pa, .ordinary) ∧
      (u.hart h).paired = false ∧ (u.hart h).ncBusy (pa / 64) = false ∧ findLine (u.hart h).l1d (pa / 64) = some (k, c) ∧ k / 8 = l1dSet va.toNat ∧
      (c.st = .m ∨ c.st = .e)) ∧
    (∃ (s u : State) (h pa size : Nat) (va data : Word), s.ready h = true ∧ size ≤ 3 ∧ inLine va (2 ^ size) = true ∧ s.trigFor h .store va.toNat (2
      ^ size) (some (data.toNat % 2 ^ (8 * 2 ^ size))) = none ∧ s.locate h .store va (2 ^ size) false = .inr (u, pa, .ordinary) ∧ ((u.hart h).lineSt
      (pa / 64) = .i ∨ (u.hart h).lineSt (pa / 64) = .s) ∧ u.unhindered h (pa / 64)) :=
  ⟨⟨wh (fun x => { x with l1d := [(0, wLine .s)] }), afterLocate (wh (fun x => { x with l1d := [(0, wLine .s)] })) 0 .load 0x10000000000 8, 0,
     0, 0x10000000000, wLoad, wLine .s, by decide +kernel⟩,
   ⟨w, afterLocate w 0 .load 0x10000000000 8, 0, 0x10000000000, wLoad, by unfold State.unhindered; decide +kernel⟩,
   ⟨wh (fun x => { x with lzspec := 1 }), 0, { wLoad with spec := true }, by decide +kernel⟩,
   ⟨wh (fun x => { x with l1d := [(7, wLine .e)] }), afterLocate (wh (fun x => { x with l1d := [(7, wLine .e)] })) 0 .store 0x10000000008 8,
     0, 7, 0x10000000008, 3, 0x10000000008, 5, wLine .e, by decide +kernel⟩,
   ⟨wh (fun x => { x with l2 := [(0, wLine .s)] }), afterLocate (wh (fun x => { x with l2 := [(0, wLine .s)] })) 0 .store 0x10000000000 1, 0,
     0x10000000000, 0, 0x10000000000, 5, by unfold State.unhindered; decide +kernel⟩⟩

/-- States and operands that meet the hypotheses of `Obligations.Atomics_and_reservations`, clause by clause. -/
theorem witness_Atomics_and_reservations :
    (∃ (s u : State) (h k pa : Nat) (o : AmoOp) (c : CLine) (b : Bool), s.ready h = true ∧ (o.size = 2 ∨ o.size = 3) ∧ o.va.toNat % 2 ^ o.size = 0 ∧
      s.trigFor h .load o.va.toNat (2 ^ o.size) none = none ∧ s.trigFor h .store o.va.toNat (2 ^ o.size) none = none ∧ s.locate h .store o.va (2 ^
      o.size) false = .inr (u, pa, .ordinary) ∧ s.physCheck h .load pa (2 ^ o.size) = .ok b ∧ (u.hart h).paired = false ∧ (u.hart h).ncBusy (pa / 64)
      = false ∧ u.farAmo o pa = false ∧ findLine (u.hart h).l1d (pa / 64) = some (k, c) ∧ k / 8 = l1dSet o.va.toNat ∧ (c.st = .m ∨ c.st = .e) ∧
      c.poison = 0) ∧
    (∃ (s u : State) (h pa : Nat) (o : AmoOp) (b : Bool), s.ready h = true ∧ (o.size = 2 ∨ o.size = 3) ∧ o.va.toNat % 2 ^ o.size = 0 ∧ s.trigFor h
      .load o.va.toNat (2 ^ o.size) none = none ∧ s.trigFor h .store o.va.toNat (2 ^ o.size) none = none ∧ s.locate h .store o.va (2 ^ o.size) false =
      .inr (u, pa, .ordinary) ∧ s.physCheck h .load pa (2 ^ o.size) = .ok b ∧ u.farAmo o pa = true ∧ u.unhindered h (pa / 64)) ∧
    (∃ (s u : State) (h k pa rd size : Nat) (va : Word) (c : CLine), s.ready h = true ∧ (size = 2 ∨ size = 3) ∧ va.toNat % 2 ^ size = 0 ∧ s.trigFor
      h .load va.toNat (2 ^ size) none = none ∧ s.locate h .load va (2 ^ size) false = .inr (u, pa, .ordinary) ∧ (u.hart h).ncBusy (pa / 64) = false ∧
      findLine (u.hart h).l1d (pa / 64) = some (k, c) ∧ k / 8 = l1dSet va.toNat ∧ (c.st = .m ∨ c.st = .e) ∧ c.poison = 0) ∧
    (∃ (s u : State) (h k pa rd size : Nat) (va data : Word) (c : CLine), s.ready h = true ∧ (size = 2 ∨ size = 3) ∧ va.toNat % 2 ^ size = 0 ∧
      s.trigFor h .store va.toNat (2 ^ size) (some (data.toNat % 2 ^ (8 * 2 ^ size))) = none ∧ s.locate h .store va (2 ^ size) false = .inr (u, pa,
      .ordinary) ∧ (u.hart h).paired = false ∧ findLine (u.hart h).l1d (pa / 64) = some (k, c) ∧ k / 8 = l1dSet va.toNat ∧ (c.st = .m ∨ c.st = .e) ∧
      c.poison = 0 ∧ (u.hart h).reserve = some (pa / 64) ∧ (u.hart h).snoopWait = []) ∧
    (∃ (s u : State) (h pa rd size : Nat) (va data : Word), s.ready h = true ∧ (size = 2 ∨ size = 3) ∧ va.toNat % 2 ^ size = 0 ∧ s.trigFor h .store
      va.toNat (2 ^ size) (some (data.toNat % 2 ^ (8 * 2 ^ size))) = none ∧ s.locate h .store va (2 ^ size) false = .inr (u, pa, .ordinary) ∧ (u.hart
      h).paired = false ∧ (u.hart h).reserve ≠ some (pa / 64) ∧ (u.hart h).snoopWait = []) ∧
    (∃ (s : State) (h n : Nat) (m : CohMsg), (s.hart h).deferTo = some n ∧ n ≤ s.time.cycle ∧ (s.hart h).snoopWait = [m] ∧ (s.hart h).holds = []) :=
  ⟨⟨wh (fun x => { x with l1d := [(0, wLine .e)] }), afterLocate (wh (fun x => { x with l1d := [(0, wLine .e)] })) 0 .store 0x10000000000 8,
     0, 0, 0x10000000000, wAmo, wLine .e, true, by decide +kernel⟩,
   ⟨w, afterLocate (w) 0 .store 0x10000000000 4, 0, 0x10000000000, { wAmo with size := 2, ntlAll := true }, true,
     by unfold State.unhindered; decide +kernel⟩,
   ⟨wh (fun x => { x with l1d := [(0, wLine .m)] }), afterLocate (wh (fun x => { x with l1d := [(0, wLine .m)] })) 0 .load 0x10000000004 4, 0,
     0, 0x10000000004, 0, 2, 0x10000000004, wLine .m, by decide +kernel⟩,
   ⟨wh (fun x => { x with l1d := [(0, wLine .m)], reserve := some 0x400000000 }),
     afterLocate (wh (fun x => { x with l1d := [(0, wLine .m)], reserve := some 0x400000000 })) 0 .store 0x10000000000 8, 0, 0, 0x10000000000,
     7, 3, 0x10000000000, 9, wLine .m, by decide +kernel⟩,
   ⟨wh (fun x => { x with reserve := some 1 }), afterLocate (wh (fun x => { x with reserve := some 1 })) 0 .store 0x10000000000 8, 0,
     0x10000000000, 7, 3, 0x10000000000, 9, by decide +kernel⟩,
   ⟨wh (fun x => { x with l1d := [(0, wLine .m)], reserve := some 0x400000000, deferTo := some 0, snoopWait := [wMsg .snpi wNode wHome] }), 0,
     0, wMsg .snpi wNode wHome, by decide +kernel⟩⟩

/-- States and operands that meet the hypotheses of `Obligations.Cache_instructions`, clause by clause. -/
theorem witness_Cache_instructions :
    (∃ (s u : State) (h l : Nat) (va : Word) (v : Line × Poison), s.ready h = true ∧ (s.hart h).mode = .m ∧ s.locateBlock h va = .inr (u, l,
      .ordinary) ∧ u.blockBusy h l = false ∧ (u.hart h).paired = false ∧ u.portHolders l true = [] ∧ u.portHolders l false = [] ∧ (u.spend
      h).dirtyBlock l = some v ∧ u.retired (64 * l) = false) ∧
    (∃ (s u : State) (h l : Nat) (va : Word) (v : Line × Poison), s.ready h = true ∧ (s.hart h).mode = .m ∧ s.locateBlock h va = .inr (u, l,
      .ordinary) ∧ u.blockBusy h l = false ∧ (u.hart h).paired = false ∧ u.portHolders l true = [] ∧ u.portHolders l false = [] ∧ (u.spend
      h).dirtyBlock l = some v ∧ u.retired (64 * l) = false) ∧
    (∃ (s u : State) (h l : Nat) (va : Word) (v : Line × Poison), s.ready h = true ∧ (s.hart h).mode = .m ∧ s.locateBlock h va = .inr (u, l,
      .ordinary) ∧ u.blockBusy h l = false ∧ (u.hart h).paired = false ∧ u.portHolders l true = [] ∧ u.portHolders l false = [] ∧ (u.spend
      h).dirtyBlock l = some v ∧ u.retired (64 * l) = false) ∧
    (∃ (s u : State) (h k pa : Nat) (va : Word) (c : CLine), s.ready h = true ∧ (s.hart h).mode = .m ∧ s.trigFor h .store (word (va.toNat / 64 *
      64)).toNat 64 none = none ∧ s.locate h .store (word (va.toNat / 64 * 64)) 64 false = .inr (u, pa, .ordinary) ∧ (u.hart h).paired = false ∧
      (u.hart h).ncBusy (pa / 64) = false ∧ findLine (u.hart h).l1d (pa / 64) = some (k, c) ∧ k / 8 = l1dSet (word (va.toNat / 64 * 64)).toNat ∧ (c.st
      = .m ∨ c.st = .e)) ∧
    (∃ (s : State) (h : Nat) (k : PrefetchKind) (va : Word), s.ready h = true) ∧
    (∃ (s : State) (h pa pb : Nat) (va : Word), s.ready h = true ∧ (s.hart h).untranslated .load = true ∧ s.translate h .load va = .ok pa pb ∧
      s.physCheck h .load (pa / 64 * 64) 64 = .ok true ∧ pb = 0 ∧ (s.hart h).lineSt (pa / 64) = .i ∧ s.unhindered h (pa / 64)) ∧
    (∃ (s : State) (h pa pb : Nat) (trigger va : Word), s.hartLive h = true ∧ (s.hart h).lzspec.getLsbD 2 = false ∧ (s.hart h).prefetchDeg ≠ 0 ∧
      va.toNat / 4096 = trigger.toNat / 4096 ∧ s.translate h .load trigger = .ok pa pb ∧ s.physCheck h .load (pa / 4096 * 4096) 4096 = .ok true ∧ pb =
      0 ∧ (s.hart h).lineSt ((pa / 4096 * 4096 + va.toNat % 4096) / 64) = .i ∧ (s.hart h).misses = [] ∧ (s.hart h).wbs = []) ∧
    (∃ (s : State) (h : Nat) (trigger va : Word), s.hartLive h = true ∧ (s.hart h).lzspec.getLsbD 2 = true) ∧
    (∃ (s u : State) (h k pa rd rs1 : Nat) (c : CLine), s.ready h = true ∧ s.locate h .load ((s.hart h).getX rs1) 1 false = .inr (u, pa, .ordinary)
      ∧ (u.hart h).paired = false ∧ findLine (u.hart h).l2 (pa / 64) = some (k, c) ∧ (∀ e ∈ (u.hart h).l2, e.2.locked = false) ∧ (∀ i, i < 4 → (u.hart
      h).l2Secure.getLsbD i = u.bind.lineSecure (64 * (pa / 64)))) ∧
    (∃ (s u : State) (h k pa rd rs1 : Nat) (c : CLine), s.ready h = true ∧ s.locate h .load ((s.hart h).getX rs1) 1 false = .inr (u, pa, .ordinary)
      ∧ (u.hart h).paired = false ∧ (u.hart h).l2.find? (fun e => e.2.line == pa / 64 && e.2.locked) = some (k, c) ∧ c.st.valid = true) :=
  ⟨⟨wh (fun x => { x with l1d := [(0, wLine .m)] }), afterBlock (wh (fun x => { x with l1d := [(0, wLine .m)] })) 0 0x10000000000, 0,
     0x400000000, 0x10000000000, (0x1122334455667788, 0), by decide +kernel⟩,
   ⟨wh (fun x => { x with l1d := [(0, wLine .m)] }), afterBlock (wh (fun x => { x with l1d := [(0, wLine .m)] })) 0 0x10000000000, 0,
     0x400000000, 0x10000000000, (0x1122334455667788, 0), by decide +kernel⟩,
   ⟨wh (fun x => { x with l1d := [(0, wLine .m)] }), afterBlock (wh (fun x => { x with l1d := [(0, wLine .m)] })) 0 0x10000000000, 0,
     0x400000000, 0x10000000000, (0x1122334455667788, 0), by decide +kernel⟩,
   ⟨wh (fun x => { x with l1d := [(0, wLine .e)] }), afterLocate (wh (fun x => { x with l1d := [(0, wLine .e)] })) 0 .store 0x10000000000 64,
     0, 0, 0x10000000000, 0x1000000003F, wLine .e, by decide +kernel⟩,
   ⟨w, 0, .w, 0, by decide +kernel⟩,
   ⟨w, 0, 0x10000000040, 0, 0x10000000040, by unfold State.unhindered; decide +kernel⟩,
   ⟨w, 0, 0x10000000000, 0, 0x10000000000, 0x10000000FC0, by decide +kernel⟩,
   ⟨wh (fun x => { x with lzspec := 4 }), 0, 0, 0, by decide +kernel⟩,
   ⟨wh (fun x => { x with l2 := [(16, wLine .s)], x := [(10, 0x10000000000)] }),
     afterLocate (wh (fun x => { x with l2 := [(16, wLine .s)], x := [(10, 0x10000000000)] })) 0 .load 0x10000000000 1, 0, 16, 0x10000000000, 4,
     10, wLine .s, by decide +kernel⟩,
   ⟨wh (fun x => { x with l2 := [(0, { wLine .s with locked := true })], x := [(10, 0x10000000000)] }),
     afterLocate (wh (fun x => { x with l2 := [(0, { wLine .s with locked := true })], x := [(10, 0x10000000000)] })) 0 .load 0x10000000000 1,
     0, 0, 0x10000000000, 4, 10, { wLine .s with locked := true }, by decide +kernel⟩⟩

/-- States and operands that meet the hypotheses of `Obligations.Home_requests`, clause by clause. -/
theorem witness_Home_requests :
    (∃ p ∈ ([(Instr.rds, fun m => { m with opc := .rds }), (.rdu, fun m => { m with opc := .rdu }), (.upg, fun m => { m with opc := .upg }), (.amof,
      fun m => { m with opc := .amof, hasData := true })] : List ((Met CohMsg → Instr) × (CohMsg → CohMsg))), ∃ (s : State) (m : CohMsg), s.comes m =
      false) ∧
    (∃ p ∈ ([(Instr.rds, fun m => { m with opc := .rds }), (.rdu, fun m => { m with opc := .rdu }), (.upg, fun m => { m with opc := .upg }), (.amof,
      fun m => { m with opc := .amof, hasData := true })] : List ((Met CohMsg → Instr) × (CohMsg → CohMsg))), ∃ (s : State) (m : CohMsg), ∃ (n : Nat),
      s.comes m = true ∧ sliceAt m.dst = some n ∧ s.heldAt 48 (s.bind.baseHome (64 * m.addr)) = none ∧ (s.slice n).waiting = [] ∧ (s.slice n).active =
      [] ∧ (s.slice (s.homeOf (64 * m.addr))).waiting = [] ∧ (s.slice (s.homeOf (64 * m.addr))).active = [] ∧ s.requestRefused m = false) ∧
    (∃ p ∈ ([(Instr.rds, fun m => { m with opc := .rds }), (.rdu, fun m => { m with opc := .rdu }), (.upg, fun m => { m with opc := .upg }), (.amof,
      fun m => { m with opc := .amof, hasData := true })] : List ((Met CohMsg → Instr) × (CohMsg → CohMsg))), ∃ (s : State) (m : CohMsg), ∃ (n : Nat),
      s.comes m = true ∧ sliceAt m.dst = some n ∧ s.heldAt 48 (s.bind.baseHome (64 * m.addr)) = none ∧ (s.slice n).waiting = [] ∧ (s.slice n).active =
      [] ∧ (s.slice (s.homeOf (64 * m.addr))).waiting = [] ∧ (s.slice (s.homeOf (64 * m.addr))).active = [] ∧ isClusterNode m.src = true ∧
      s.bind.lineSecure (64 * m.addr) ≠ m.secure) ∧
    (∃ (s : State) (m : CohMsg) (g : Nat), s.comes m = true ∧ sliceAt m.dst = none ∧ pcieAt m.dst = some g ∧ s.portShut g = false ∧ s.ioFirst
      { m with opc := .rdnc } = true) ∧
    (∃ (s : State) (m : CohMsg) (g : Nat), s.comes m = true ∧ sliceAt m.dst = none ∧ pcieAt m.dst = some g ∧ s.portShut g = false ∧ s.ioFirst
      { m with opc := .wrnc, hasData := true } = true) ∧
    (∃ (s : State) (m : CohMsg) (g : Nat), s.comes m = true ∧ sliceAt m.dst = none ∧ pcieAt m.dst = some g ∧ s.portShut g = false ∧ s.ioFirst
      { m with opc := .amom, hasData := true } = true ∧ amoOfCode (bitsOf m.misc 0 4) = .swap) ∧
    (∃ (s : State) (n l : Nat) (w : Waiting) (e : Nat × L3Line), (s.slice n).waiting = [w] ∧ (s.slice n).active = [] ∧ w.msg.addr = l ∧ w.msg.opc =
      .rds ∧ w.arrived < s.time.cycle ∧ s.halting = false ∧ (s.slice n).dirFind l = none ∧ (s.freeDir n w.msg.qid l).isSome = true ∧ l3Find (s.slice
      n) l = some e) ∧
    (∃ (s : State) (n l : Nat) (w : Waiting), (s.slice n).waiting = [w] ∧ (s.slice n).active = [] ∧ w.msg.addr = l ∧ w.msg.opc = .rds ∧ w.arrived <
      s.time.cycle ∧ s.halting = false ∧ (s.slice n).dirFind l = none ∧ (s.freeDir n w.msg.qid l).isSome = true ∧ l3Find (s.slice n) l = none ∧
      (s.mem.reads.filter (fun r => r.slice == n)).length < 88) :=
  ⟨⟨((Instr.amof, fun m => { m with opc := .amof, hasData := true }) : (Met CohMsg → Instr) × (CohMsg → CohMsg)), by simp,
     { w with links := { w.links with xl := (List.range 82).map (fun x => (x, { Xl.reset with st := .failed })) } }, wMsg .amof wHome wNode,
     by decide +kernel⟩,
   ⟨((Instr.amof, fun m => { m with opc := .amof, hasData := true }) : (Met CohMsg → Instr) × (CohMsg → CohMsg)), by simp, w,
     wMsg .amof wHome wNode, 2, by decide +kernel⟩,
   ⟨((Instr.rds, fun m => { m with opc := .rds }) : (Met CohMsg → Instr) × (CohMsg → CohMsg)), by simp, w,
     { wMsg .rds wHome wNode with secure := true }, 2, by decide +kernel⟩,
   ⟨{ w with io := { w.io with groups := [(0, { PortGroup.reset with linkUp := [0] })] } }, wMsg .rdnc (pcieNode 0) wNode, 0,
     by decide +kernel⟩,
   ⟨{ w with io := { w.io with groups := [(7, { PortGroup.reset with linkUp := [0] })] } }, wMsg .wrnc (pcieNode 7) wNode, 7,
     by decide +kernel⟩,
   ⟨{ w with io := { w.io with groups := [(1, { PortGroup.reset with linkUp := [0] })] } }, wMsg .amom (pcieNode 1) wNode, 1,
     by decide +kernel⟩,
   ⟨{ (ws (fun t => { t with waiting := [{ msg := wMsg .rds wHome wNode, arrived := 0 }], lines := [(0, wL3)] })) with time := { w.time with cycle := 1 } },
     2, 0x400000000, { msg := wMsg .rds wHome wNode, arrived := 0 }, (0, wL3), by decide +kernel⟩,
   ⟨{ (ws (fun t => { t with waiting := [{ msg := wMsg .rds wHome wNode, arrived := 0 }] })) with time := { w.time with cycle := 1 } }, 2,
     0x400000000, { msg := wMsg .rds wHome wNode, arrived := 0 }, by decide +kernel⟩⟩

/-- States and operands that meet the hypotheses of `Obligations.Holders_and_snoops`, clause by clause. -/
theorem witness_Holders_and_snoops :
    (∃ (s : State) (m : CohMsg) (n k : Nat) (e : L3Line), s.comes m = true ∧ sliceAt m.dst = some n ∧ s.homeOf (64 * m.addr) = n ∧ (s.slice n).rspx
      = [] ∧ (s.slice n).active = [] ∧ s.net.coh = [] ∧ s.bind.persists (64 * m.addr) = false ∧ s.retired (64 * m.addr) = false ∧ l3Find (s.slice n)
      m.addr = some (k, e)) ∧
    (∃ (s : State) (m : CohMsg) (n k : Nat) (e : DirEnt), s.comes m = true ∧ sliceAt m.dst = some n ∧ s.homeOf (64 * m.addr) = n ∧ (s.slice n).rspx
      = [] ∧ (s.slice n).active = [] ∧ s.net.coh = [] ∧ (s.slice n).dirFind m.addr = some (k, e) ∧ e.owner = some (m.src, m.core)) ∧
    (∃ p ∈ ([(Instr.snps, Opc.snps), (.snpi, .snpi), (.snpbi, .snpbi)] : List ((CohMsg → Upset → Instr) × Opc)), ∃ (s : State) (m : CohMsg), s.comes
      m = true ∧ isClusterNode m.dst = true ∧ (∀ c, c < 8 → (s.hart (hartAt m.dst 0 + c)).snoopHeld m.addr s.time.cycle = false)) ∧
    (∃ p ∈ ([(Instr.snps, Opc.snps), (.snpi, .snpi), (.snpbi, .snpbi)] : List ((CohMsg → Upset → Instr) × Opc)), ∃ (s : State) (m : CohMsg), s.comes
      m = true ∧ isClusterNode m.dst = true ∧ m.except = false ∧ (s.hart (hartAt m.dst 0)).snoopHeld m.addr s.time.cycle = true) ∧
    (∃ (s : State) (h l fin : Nat) (m : CohMsg), (s.hart h).holds = [{ line := l, fin := fin }] ∧ fin ≤ s.time.cycle ∧ (s.hart h).reserve = none ∧
      (s.hart h).snoopWait = [m]) :=
  ⟨⟨ws (fun t => { t with lines := [(0, wL3)] }), { wMsg .wbd wHome wNode with hasData := true }, 2, 0, wL3, by decide +kernel⟩,
   ⟨ws (fun t => { t with dir := [(0, { line := 0x400000000, qid := 1, secure := false, owner := some (wNode, 0), clusters := 0, ports := 0 })] }),
     wMsg .evc wHome wNode, 2, 0, { line := 0x400000000, qid := 1, secure := false, owner := some (wNode, 0), clusters := 0, ports := 0 },
     by decide +kernel⟩,
   ⟨((Instr.snpi, Opc.snpi) : (CohMsg → Upset → Instr) × Opc), by simp, wh (fun x => { x with l1d := [(0, wLine .m)] }),
     wMsg .snpi wNode wHome, by decide +kernel⟩,
   ⟨((Instr.snpbi, Opc.snpbi) : (CohMsg → Upset → Instr) × Opc), by simp,
     wh (fun x => { x with l1d := [(0, wLine .m)], holds := [{ line := 0x400000000, fin := 99999999999 }] }), wMsg .snpbi wNode wHome,
     by decide +kernel⟩,
   ⟨wh (fun x => { x with l1d := [(0, wLine .m)], holds := [{ line := 0x400000000, fin := 0 }], snoopWait := [wMsg .snpi wNode wHome] }), 0,
     0x400000000, 0, wMsg .snpi wNode wHome, by decide +kernel⟩⟩

/-- States and operands that meet the hypotheses of `Obligations.Answers_and_timeouts`, clause by clause. -/
theorem witness_Answers_and_timeouts :
    (∃ p ∈ ([(Instr.rspi, Opc.rspi), (.rsps, .rsps), (.rspx, .rspx)] : List ((Met CohMsg → Instr) × Opc)), ∃ (s : State) (m : CohMsg) (n : Nat) (x :
      Txn) (o a : SnoopOut), s.comes m = true ∧ sliceAt m.dst = some n ∧ (s.slice n).ignore = [] ∧ (s.slice n).active = [x] ∧ x.req.addr = m.addr ∧
      x.snoops = [o, a] ∧ o.node = m.src ∧ o.tag = m.tag ∧ a ≠ o ∧ m.hasData = false) ∧
    (∃ (s : State) (m : CohMsg) (n : Nat) (x : Txn) (o a : SnoopOut), s.comes m = true ∧ sliceAt m.dst = some n ∧ (s.slice n).ignore = [] ∧ (s.slice
      n).active = [x] ∧ x.req.addr = m.addr ∧ x.req.opc = .rdu ∧ x.evict = false ∧ x.snoops = [o, a] ∧ o.node = m.src ∧ o.tag = m.tag ∧ a ≠ o ∧
      m.hasData = true) ∧
    (∃ (s : State) (m : CohMsg) (n : Nat) (x : Txn) (o : SnoopOut) (e : Nat × L3Line), s.comes m = true ∧ sliceAt m.dst = some n ∧ (s.slice
      n).ignore = [] ∧ (s.slice n).active = [x] ∧ x.req.addr = m.addr ∧ x.req.opc = .rdu ∧ x.evict = false ∧ x.granted = false ∧ x.waitMem = false ∧
      x.waitEvict = none ∧ x.data = none ∧ x.snoops = [o] ∧ o.node = m.src ∧ o.tag = m.tag ∧ m.hasData = false ∧ l3Find (s.slice n) m.addr = some e) ∧
    (∃ (s : State) (m : CohMsg) (ms : Miss) (o : LoadOp) (pa : Nat), s.comes m = true ∧ isClusterNode m.dst = true ∧ s.fillWaits
      { m with opc := .dat, hasData := true } = false ∧ ms.dropped = false ∧ (s.hart (hartAt m.dst m.core)).misses = [ms] ∧ ms.tag = m.tag ∧ ms.spec =
      false ∧ ms.fetch = false ∧ ms.expired = false ∧ ms.waiters = [.load o pa] ∧ o.fetch = false ∧ o.rd ≠ 0 ∧ pa / 64 = m.addr ∧ m.status = 0 ∧ 0 <
      m.state ∧ m.poison = 0 ∧ (s.hart (hartAt m.dst m.core)).snoopWait = []) ∧
    (∃ (s : State) (m : CohMsg), s.comes m = true ∧ isClusterNode m.dst = true ∧ (s.hart (hartAt m.dst m.core)).wbs.any (fun w => w.tag == m.tag) =
      true) ∧
    (∃ (s : State) (m : CohMsg) (ms : Miss), s.comes m = true ∧ isClusterNode m.dst = true ∧ (s.hart (hartAt m.dst m.core)).wbs = [] ∧ (s.hart
      (hartAt m.dst m.core)).oldTags = [] ∧ (s.hart (hartAt m.dst m.core)).misses = [ms] ∧ ms.tag = m.tag ∧ m.status = 0 ∧ m.state = 3) ∧
    (∃ (s : State) (m : CohMsg) (n : Nat) (x : Txn), s.comes m = true ∧ sliceAt m.dst = some n ∧ (s.slice n).active = [x] ∧ x.granted = true ∧
      x.req.src = m.src ∧ x.req.core = m.core ∧ x.req.tag = m.tag) ∧
    (∃ (s : State) (n l node core : Nat) (x : Txn) (o : SnoopOut), (s.slice n).txn l = some x ∧ x.snoops = [o] ∧ o.node = node ∧ o.core = core ∧
      o.issued + 8192 + o.held ≤ s.time.cycle) ∧
    (∃ (s : State) (h pa : Nat) (m : Miss) (o : LoadOp), s.hartLive h = true ∧ (s.hart h).mode = .m ∧ (s.hart h).virt = false ∧ (s.hart h).misses =
      [m] ∧ m.expired = false ∧ m.spec = false ∧ m.waiters = [.load o pa] ∧ o.fetch = false ∧ m.sent + s.bind.timeoutNs m.cls ≤ s.time.now) ∧
    (∃ (s : State) (n l : Nat) (x : Txn), (s.slice n).txn l = some x ∧ x.granted = true ∧ x.grantAt + 2 * s.bind.timeoutNs x.req.cls ≤ s.time.cycle) :=
  ⟨⟨((Instr.rsps, Opc.rsps) : (Met CohMsg → Instr) × Opc), by simp, ws (fun t => { t with active := [x0] }),
     { wMsg .rsps wHome wNode with tag := 1, status := 1 }, 2, x0, { node := wNode, core := 0, tag := 1, issued := 0, held := 0 },
     { node := clusterNode 1, core := 0, tag := 2, issued := 0, held := 0 }, by decide +kernel⟩,
   ⟨ws (fun t => { t with active := [x0] }), { wMsg .rspd wHome wNode with tag := 1, status := 1, hasData := true }, 2, x0,
     { node := wNode, core := 0, tag := 1, issued := 0, held := 0 }, { node := clusterNode 1, core := 0, tag := 2, issued := 0, held := 0 },
     by decide +kernel⟩,
   ⟨ws (fun t => { t with active := [x1], lines := [(0, wL3)] }), { wMsg .rspi wHome wNode with tag := 1 }, 2, x1,
     { node := wNode, core := 0, tag := 1, issued := 0, held := 0 }, (0, wL3), by decide +kernel⟩,
   ⟨wh (fun x => { x with misses := [wMiss] }), { wMsg .dat wNode wHome with state := 2, hasData := true }, wMiss, wLoad, 0x10000000000,
     by decide +kernel⟩,
   ⟨wh (fun x => { x with wbs := [{ line := 1, dirty := false, data := 0, poison := 0, tag := 5, sent := 0, retried := false }] }),
     wMsg .cmp wNode wHome, by decide +kernel⟩,
   ⟨wh (fun x => { x with l1d := [(0, wLine .s)], misses := [{ wMiss with st := .smA, opc := .upg, waiters := [.store 0x10000000000 0x10000000000 3 5] }] }),
     { wMsg .cmp wNode wHome with state := 3 }, { wMiss with st := .smA, opc := .upg, waiters := [.store 0x10000000000 0x10000000000 3 5] },
     by decide +kernel⟩,
   ⟨ws (fun t => { t with active := [{ wTxn with granted := true }] }), wMsg .cmpack wHome wNode, 2, { wTxn with granted := true },
     by decide +kernel⟩,
   ⟨{ (ws (fun t => { t with active := [x1] })) with time := { w.time with cycle := 99999 } }, 2, 0x400000000, wNode, 0, x1,
     { node := wNode, core := 0, tag := 1, issued := 0, held := 0 }, by decide +kernel⟩,
   ⟨wh (fun x => { x with misses := [wMiss] }), 0, 0x10000000000, wMiss, wLoad, by decide +kernel⟩,
   ⟨{ (ws (fun t => { t with active := [{ wTxn with granted := true }] })) with time := { w.time with cycle := 9999999999 } }, 2, 0x400000000,
     { wTxn with granted := true }, by decide +kernel⟩⟩

/-- States and operands that meet the hypotheses of `Obligations.Mailboxes`, clause by clause. -/
theorem witness_Mailboxes :
    (∃ (s u : State) (h rd rs1 pa k : Nat) (va : Word) (c : CLine), s.ready h = true ∧ (s.hart h).getX rs1 = va ∧ s.trigFor h .load va.toNat 64 none
      = none ∧ s.bufferAt h .load va = .inr (u, pa, .ordinary) ∧ (u.hart h).paired = false ∧ (u.hart h).ncBusy (pa / 64) = false ∧ findLine (u.hart
      h).l1d (pa / 64) = some (k, c) ∧ k / 8 = l1dSet va.toNat ∧ c.poison = 0 ∧ u.sendStatus h (lineBytes c.data) = 0 ∧ numAt (lineBytes c.data) 2 2 =
      0xFFFF ∧ (u.hart h).outbox = []) ∧
    (∃ (s u : State) (h rd rs1 pa k : Nat) (va : Word) (c : CLine), s.ready h = true ∧ (s.hart h).getX rs1 = va ∧ s.trigFor h .load va.toNat 64 none
      = none ∧ s.bufferAt h .load va = .inr (u, pa, .ordinary) ∧ (u.hart h).paired = false ∧ (u.hart h).ncBusy (pa / 64) = false ∧ findLine (u.hart
      h).l1d (pa / 64) = some (k, c) ∧ k / 8 = l1dSet va.toNat ∧ c.poison = 0 ∧ u.sendStatus h (lineBytes c.data) ≠ 0) ∧
    (∃ (s : State) (n : Nat) (e : OutboxEnt), (s.stream n).st = .active ∧ s.inSlot n = true ∧ e.stamp < s.time.cycle ∧ isClusterNode (s.stream
      n).desc.srcNode = true ∧ (s.hart (hartAt (s.stream n).desc.srcNode (s.stream n).desc.srcCore)).outbox = [e] ∧ e.stream = n ∧ e.st = .ready) ∧
    (∃ (s : State) (m : MailAns) (e : OutboxEnt), s.reach m.srcNode m.dstNode 1 none = true ∧ (s.hart (hartAt m.dstNode m.dstCore)).outbox = [e] ∧
      e.st = .sent ∧ s.outTo (hartAt m.dstNode m.dstCore) m.destHart = some (0, e)) ∧
    (∃ (s : State) (h dest i : Nat) (e : OutboxEnt), s.outTo h dest = some (i, e) ∧ e.st = .refused ∧ s.outExpired e = false ∧ e.stamp <
      s.time.frame) ∧
    (∃ (s : State) (h dest : Nat) (e : OutboxEnt), (s.hart h).outbox = [e] ∧ s.outTo h dest = some (0, e) ∧ e.st = .refused ∧ s.outExpired e = true) ∧
    (∃ (s : State) (m : MailMsg), s.reach m.srcNode m.dstNode 1 none = true ∧ slAt m.dstNode = none ∧ isClusterNode m.dstNode = true ∧ m.stream =
      0xFFFF ∧ s.isFenced (UnitId.of 0x02 (hartCluster (hartAt m.dstNode m.dstCore))) = false ∧ s.isFenced (coreUnit (hartAt m.dstNode m.dstCore)) =
      false ∧ (s.hart (hartAt m.dstNode m.dstCore)).run ≠ .fenced) ∧
    (∃ (s : State) (h rd rs1 : Nat), s.ready h = true ∧ (s.hart h).inbox = []) ∧
    (∃ (s u : State) (h rd rs1 pa k : Nat) (va : Word) (c : CLine) (e : InboxEnt) (rest : List InboxEnt), s.ready h = true ∧ (s.hart h).inbox = e ::
      rest ∧ (s.hart h).getX rs1 = va ∧ s.trigFor h .store va.toNat 64 (some (lineOf e.bytes).toNat) = none ∧ s.bufferAt h .store va = .inr (u, pa,
      .ordinary) ∧ (u.hart h).paired = false ∧ (u.hart h).ncBusy (pa / 64) = false ∧ findLine (u.hart h).l1d (pa / 64) = some (k, c) ∧ k / 8 = l1dSet
      va.toNat ∧ (c.st = .m ∨ c.st = .e)) :=
  ⟨⟨wh (fun x => { x with l1d := [(64, wBufLine wBuf)] }),
     afterBuffer (wh (fun x => { x with l1d := [(64, wBufLine wBuf)] })) 0 .load 0x10000000200, 0, 5, 10, 0x10000000200, 64, 0x10000000200,
     wBufLine wBuf, by decide +kernel⟩,
   ⟨wh (fun x => { x with l1d := [(64, wBufLine (toLE 2 2 ++ toLE 2 7))] }),
     afterBuffer (wh (fun x => { x with l1d := [(64, wBufLine (toLE 2 2 ++ toLE 2 7))] })) 0 .load 0x10000000200, 0, 0, 10, 0x10000000200, 64,
     0x10000000200, wBufLine (toLE 2 2 ++ toLE 2 7), by decide +kernel⟩,
   ⟨{ (wh (fun x => { x with outbox := [wOutG] })) with time := { w.time with cycle := 1 }, fabric := { w.fabric with streams := [(4, wStream)], slots := [{ node := clusterNode 0 / 16 * 16, switch := false, slot := w.time.slot, input := nodeE (clusterNode 0), output := 0, stream := 4 }] } },
     4, wOutG, by decide +kernel⟩,
   ⟨wh (fun x => { x with outbox := [wOut .sent] }),
     { dstNode := clusterNode 0, dstCore := 0, srcNode := clusterNode 0, srcCore := 1, destHart := 1, answer := .accept }, wOut .sent,
     by decide +kernel⟩,
   ⟨wh (fun x => { x with outbox := [{ wOut .refused with firstSent := some 1999999999 }] }), 0, 1, 0,
     { wOut .refused with firstSent := some 1999999999 }, by decide +kernel⟩,
   ⟨wh (fun x => { x with outbox := [wOut .refused] }), 0, 1, wOut .refused, by decide +kernel⟩,
   ⟨w, wMail, by decide +kernel⟩,
   ⟨w, 0, 5, 10, by decide +kernel⟩,
   ⟨wh (fun x => { x with inbox := [wIn], l1d := [(64, { wBufLine [] with st := .e })] }),
     afterBuffer (wh (fun x => { x with inbox := [wIn], l1d := [(64, { wBufLine [] with st := .e })] })) 0 .store 0x10000000200, 0, 5, 10,
     0x10000000200, 64, 0x10000000200, { wBufLine [] with st := .e }, wIn, [], by decide +kernel⟩⟩

/-- States and operands that meet the hypotheses of `Obligations.Checked_pairs`, clause by clause. -/
theorem witness_Checked_pairs :
    (∃ (s : State) (h : Nat) (r : PairCopy), (s.hart h).paired = true ∧ (s.hart h).run = .running ∧ h % 2 = 0 ∧ s.isFenced (coreUnit h) = false ∧
      (s.hart h).pairReady = none ∧ (s.hart h).pairOdd = none ∧ (s.hart h).pairEven = none) ∧
    (∃ (s : State) (h : Nat) (r : PairCopy), (s.hart h).paired = true ∧ (s.hart h).run = .running ∧ h % 2 = 0 ∧ s.isFenced (coreUnit h) = false ∧
      (s.hart h).pairReady = none ∧ (s.hart h).pairOdd = none ∧ (s.hart h).pairEven = some r) ∧
    (∃ (s : State) (h : Nat) (r : PairCopy), ∃ o, (s.hart h).paired = true ∧ (s.hart h).run = .running ∧ h % 2 = 0 ∧ s.isFenced (coreUnit h) = false
      ∧ (s.hart h).pairReady = none ∧ (s.hart h).pairOdd = none ∧ o ≠ r ∧ (s.hart h).pairEven = some o) ∧
    (∃ (s : State) (h n : Nat) (r : PairCopy), s.isFenced (coreUnit h) = false ∧ (s.hart h).pairReady = some (r, n) ∧ r.kind ≠ .store) ∧
    (∃ (s : State) (h n j k : Nat) (r : PairCopy) (a c : CLine), s.isFenced (coreUnit h) = false ∧ (s.hart h).pairReady = some (r, n) ∧ r.kind =
      .store ∧ r.size < 4 ∧ pairPlace r = .ordinary ∧ (s.hart h).paired = true ∧ (s.hart h).ncBusy (r.addr / 64) = false ∧ findLine (s.hart h).l1d
      (r.addr / 64) = some (j, a) ∧ j / 8 = l1dSet r.va.toNat ∧ a.st = .m ∧ findLine (s.hart h).l2 (r.addr / 64) = some (k, c)) ∧
    (∃ (s : State) (h : Nat) (r : PairCopy), (s.hart h).pairEven = some r ∧ (s.hart h).pairSince + 2048 ≤ s.time.cycle) :=
  ⟨⟨wPair (fun x => x), 0, wCopy, by decide +kernel⟩,
   ⟨wPair (fun x => { x with pairEven := some wCopy }), 0, wCopy, by decide +kernel⟩,
   ⟨wPair (fun x => { x with pairEven := some { wCopy with data := 0x43 } }), 0, wCopy, ({ wCopy with data := 0x43 } : PairCopy),
     by decide +kernel⟩,
   ⟨wPair (fun x => { x with pairReady := some ({ wCopy with kind := .cbo }, 0) }), 0, 0, { wCopy with kind := .cbo }, by decide +kernel⟩,
   ⟨wPair (fun x => { x with pairReady := some (wCopy, 0), l2 := [(0, wLine .m)], l1d := [(0, wLine .m)] }), 0, 0, 0, 0, wCopy, wLine .m,
     wLine .m, by decide +kernel⟩,
   ⟨{ (wPair (fun x => { x with pairEven := some wCopy })) with time := { w.time with cycle := 2048 } }, 0, wCopy, by decide +kernel⟩⟩

/-- States and operands that meet the hypotheses of `Obligations.Cache_control`, clause by clause. -/
theorem witness_Cache_control :
    (∃ (s : State) (h core : Nat), core < hartCount ∧ s.readySide h = true ∧ s.mHartOf (.hart h) (s.hart core).qid = true ∧ (s.hart core).cacheOp =
      0) ∧
    (∃ (s : State) (h core : Nat), core < hartCount ∧ s.readySide h = true ∧ s.mHartOf (.hart h) (s.hart core).qid = true ∧ (s.hart core).cacheOp =
      0) ∧
    (∃ (s : State) (h core : Nat), core < hartCount ∧ s.readySide h = true ∧ s.mHartOf (.hart h) (s.hart core).qid = true ∧ (s.hart core).cacheOp =
      0) ∧
    (∃ (s : State) (h core : Nat), core < hartCount ∧ s.readySide h = true ∧ s.mHartOf (.hart h) (s.hart core).qid = true ∧ (s.hart core).cacheOp =
      0) ∧
    (∃ (s : State) (core : Nat), core < hartCount) ∧
    (∃ (s : State) (h core : Nat) (v : Word), core < hartCount ∧ s.readySide h = true ∧ s.waycfgAllowed (.hart h) core = true ∧ v.toNat < 16) ∧
    (∃ (s : State) (h n q : Nat) (v : Word), n < 48 ∧ q < 256 ∧ s.readySide h = true ∧ s.mHartOf (.hart h) q = true ∧ s.bind.hasSlice n q = true ∧
      ((s.slice n).quire q).busy = false) ∧
    (∃ (s : State) (h n q : Nat) (v : Word), n < 48 ∧ q < 256 ∧ s.readySide h = true ∧ s.mHartOf (.hart h) q = true ∧ s.bind.hasSlice n q = true ∧
      ((s.slice n).quire q).busy = false) ∧
    (∃ (s : State) (h n q : Nat) (v : Word), n < 48 ∧ q < 256 ∧ s.readySide h = true ∧ s.mHartOf (.hart h) q = true ∧ s.bind.hasSlice n q = true ∧
      ((s.slice n).quire q).busy = false) ∧
    (∃ (s : State) (h n q : Nat) (v : Word), n < 48 ∧ q < 256 ∧ s.readySide h = true ∧ s.mHartOf (.hart h) q = true ∧ s.bind.hasSlice n q = true ∧
      ((s.slice n).quire q).busy = false) ∧
    (∃ (s : State) (n q : Nat), n < 48 ∧ ((s.slice n).quire q).busy = true) :=
  ⟨⟨wh (fun x => { x with l1d := [(0, wLine .m)], vc := [(0, { wLine .m with line := 77 })] }), 0, 0, by decide +kernel⟩,
   ⟨wh (fun x => { x with l1d := [(0, wLine .m)], l2 := [(0, wLine .m), (1, { wLine .s with line := 7, locked := true })] }), 0, 0,
     by decide +kernel⟩,
   ⟨wh (fun x => { x with l2 := [(0, wLine .m), (1, { wLine .s with line := 7, locked := true })] }), 0, 0, by decide +kernel⟩,
   ⟨wh (fun x => { x with l2 := [(0, wLine .m), (1, { wLine .s with line := 7, locked := true })] }), 0, 0, by decide +kernel⟩,
   ⟨w, 383, by decide +kernel⟩,
   ⟨wh (fun x => { x with l2 := [(0, wLine .m)] }), 0, 0, 15, by decide +kernel⟩,
   ⟨{ (wq (fun x => x)) with slices := [(0, (wq (fun x => x)).slice 2)] }, 0, 0, 1, 0xFFFF, by decide +kernel⟩,
   ⟨{ (wq (fun x => x)) with slices := [(0, (wq (fun x => { x with lockedWays := 1 })).slice 2)] }, 0, 0, 1, 0xFFFF, by decide +kernel⟩,
   ⟨{ (wq (fun x => x)) with slices := [(0, { (wq (fun x => x)).slice 2 with lines := [(0, wL3), (15, { wL3 with line := 9 })] })] }, 0, 0, 1,
     0, by decide +kernel⟩,
   ⟨{ (wq (fun x => x)) with slices := [(0, (wq (fun x => x)).slice 2)] }, 0, 0, 1, 0, by decide +kernel⟩,
   ⟨wq (fun x => { x with busy := true }), 2, 1, by decide +kernel⟩⟩

/-- States and operands that meet the hypotheses of `Obligations.Fences_and_resets`, clause by clause. -/
theorem witness_Fences_and_resets :
    (∃ (s : State) (h : Nat) (r : Bool), s.fuse.hartOk h = true ∧ (s.hart (pairOf h)).paired = false ∧ (s.hart h).run ≠ .fenced) ∧
    (∃ (s : State) (n m : Nat), n < 48 ∧ (s.slice n).rebuilding = false ∧ (s.slice n).movedTo = none ∧ s.newHome n = some m) ∧
    (∃ (s : State) (n : Nat), n < 48 ∧ (s.slice n).rebuilding = true ∧ (s.slice n).stalled = []) ∧
    (∃ (s : State) (cd n : Nat) (r : Bool), cd < 12 ∧ (s.stream n).st = .active ∧ nodeDie (s.stream n).desc.srcNode = cd) ∧
    (∃ (s : State) (bd : Nat) (r : Bool), bd < 4) ∧
    (∃ (s : State) (u c : UnitId) (f : Fenced), s.err.fenced.find? (fun f => f.unit == u && !f.complete && decide (f.since + 100000 ≤ s.time.now)) =
      some f ∧ container u = some c) ∧
    (∃ (s : State) (h : Nat) (v : Word) (u : UnitId), s.readySide h = true ∧ s.ecAllowed h .owner = true ∧ (s.ecRegs .owner).rstBusy = false ∧
      flagOf v 32 = true ∧ UnitId.of (fieldOf v 24 8) (fieldOf v 0 16) = u ∧ s.unitExists u = true ∧ resettable u = true) ∧
    (∃ (s : State) (h : Nat), s.err.resets.find? (fun r => r.unit == coreUnit h) = some { unit := coreUnit h, view := some .owner } ∧ s.fuse.hartOk
      h = true ∧ s.cellHarts h = [h] ∧ s.pwr.wiping = []) ∧
    (∃ (s : State) (u : UnitId), s.err.resets.find? (fun r => r.unit == u) = some { unit := u, view := some .owner }) ∧
    (∃ (s : State) (u : UnitId), s.unitExists u = true ∧ s.secureHeld u = true ∧ u ∉ s.pwr.wiping) ∧
    (∃ (s : State) (h : Nat), coreUnit h ∈ s.pwr.wiping ∧ s.cellHarts h = [h]) :=
  ⟨⟨wh (fun x => { x with l1d := [(0, wLine .m)], inbox := [wIn], outbox := [wOut .sent] }), 0, true, by decide +kernel⟩,
   ⟨ws (fun t => { t with lines := [(0, { wL3 with dirty := true })] }), 2, 3, by decide +kernel⟩,
   ⟨ws (fun t => { t with rebuilding := true, movedTo := some 3 }), 2, by decide +kernel⟩,
   ⟨{ w with fabric := { w.fabric with streams := [(4, wStream)] } }, 0, 4, true, by decide +kernel⟩,
   ⟨ws (fun t => { t with lines := [(0, wL3)] }), 0, true, by decide +kernel⟩,
   ⟨we (fun e => { e with fenced := [{ unit := wCore, syndrome := 1, complete := false, since := 0 }] }), wCore, UnitId.of 0x02 0,
     { unit := wCore, syndrome := 1, complete := false, since := 0 }, by decide +kernel⟩,
   ⟨w, 0, 0x101000000, wCore, by decide +kernel⟩,
   ⟨we (fun e => { e with resets := [{ unit := wCore, view := some .owner }], fenced := [{ unit := wCore, syndrome := 1, complete := true, since := 0 }] }),
     0, by decide +kernel⟩,
   ⟨we (fun e => { e with resets := [{ unit := wCore, view := some .owner }] }), wCore, by decide +kernel⟩,
   ⟨w, wCore, by decide +kernel⟩,
   ⟨wp (fun p => { p with wiping := [wCore] }), 0, by decide +kernel⟩⟩

/-- States and operands that meet the hypotheses of `Obligations.Records_and_interrupts`, clause by clause. -/
theorem witness_Records_and_interrupts :
    (∃ (s : State) (u p : UnitId) (r : ErrRec) (rest : List ErrRec), (s.err.lowCol u).upward = r :: rest ∧ s.pathFenced u = false ∧ container u =
      some p ∧ p ≠ u) ∧
    (∃ (s : State) (u : UnitId) (r : ErrRec) (rest : List ErrRec), (s.err.lowCol u).upward = r :: rest ∧ s.pathFenced u = false ∧ container u = none
      ∧ r.syndrome ≠ Syn.poisonConsumed.code ∧ s.err.slots = []) ∧
    (∃ (s : State) (p : Pace) (n : Nat), s.err.paces = [p] ∧ p.held = true ∧ p.last = some n ∧ n + 10000 ≤ s.time.now) ∧
    (∃ (s : State) (h : Nat) (w : EcView), s.readySide h = true ∧ s.ecAllowed h w = true) ∧
    (∃ (s : State) (h : Nat) (r : ErrRec), s.readySide h = true ∧ s.ecAllowed h .owner = true ∧ s.ecSlot .owner s.err.owner.index = some r) ∧
    (∃ (s : State) (h q : Nat), s.readySide h = true ∧ s.ecAllowed h (.quire q) = true) ∧
    (∃ (s : State) (h rd : Nat) (w : EcView), s.readySide h = true ∧ s.ecAllowed h w = true) ∧
    (∃ (s : State) (h : Nat) (v : Word), s.readySide h = true ∧ s.ecAllowed h .owner = true ∧ (v &&& ~~~(word 0x8000FFFF0F0007FF)) = 0 ∧ s.ecIrqOk
      .owner v = true) ∧
    (∃ (s : State) (h a th file : Nat) (v : Word), s.readySide h = true ∧ s.inM h = true ∧ decodeImsic a = some (th, file) ∧ s.hasFiles th = true ∧
      a % 0x1000 = 0 ∧ 1 ≤ v.toNat % 2 ^ 32 ∧ v.toNat % 2 ^ 32 ≤ 2047 ∧ s.maySignal (s.hart h).qid th file (v.toNat % 2 ^ 32) = true) ∧
    (∃ (s : State) (m : MsiMsg), m ∈ s.net.msi ∧ s.fuse.hartOk m.hart = true ∧ (s.hart m.hart).run ≠ .fenced ∧ m.file ≤ 8 ∧ 1 ≤ m.id ∧ m.id ≤ 2047) :=
  ⟨⟨we (fun e => { e with low := [{ unit := wCore, kept := [(0, wRec)], upward := [wRec], seq := 1, regs := EcRegs.reset }] }), wCore,
     UnitId.of 0x02 0, wRec, [], by decide +kernel⟩,
   ⟨we (fun e => { e with low := [{ unit := dieUnit 24, kept := [(0, wRec)], upward := [wRec], seq := 1, regs := EcRegs.reset }] }),
     dieUnit 24, wRec, [], by decide +kernel⟩,
   ⟨we (fun e => { e with paces := [wPace] }), wPace, 0, by decide +kernel⟩,
   ⟨we (fun e => { e with slots := [(3, wRec)] }), 0, .owner, by decide +kernel⟩,
   ⟨we (fun e => { e with slots := [(0, wRec)] }), 0, wRec, by decide +kernel⟩,
   ⟨we (fun e => { e with slots := [(0, wRec)] }), 0, 1, by decide +kernel⟩,
   ⟨we (fun e => { e with owner := { e.owner with lost := 5 } }), 0, 5, .owner, by decide +kernel⟩,
   ⟨w, 0, 0x8000000000000005, by decide +kernel⟩,
   ⟨w, 0, imsicBase, 0, 0, 0x7FF, by decide +kernel⟩,
   ⟨{ w with net := { w.net with msi := [{ hart := 0, file := 0, id := 5, secure := true }] } },
     { hart := 0, file := 0, id := 5, secure := true }, by decide +kernel⟩⟩

/-- States and operands that meet the hypotheses of `Obligations.Memory_training`, clause by clause. -/
theorem witness_Memory_training :
    (∃ (s : State) (r : MemTrainResult), s.boot.phase = .ready 6) :=
  ⟨wo (fun b => { b with phase := .ready 6 }),
     { dimms := [some { gib := 32, tRCD := 1, tRP := 1, cl := 1, tRFCsb := 1 }], failedPc := [3], failedCh := [], decoders := [] },
     by decide +kernel⟩

/-- States and operands that meet the hypotheses of `Obligations.Memory_service`, clause by clause. -/
theorem witness_Memory_service :
    (∃ (s : State) (n l : Nat) (x : Txn), s.mem.reads = [{ line := l, slice := n }] ∧ (s.slice n).active = [x] ∧ x.req.addr = l ∧ x.req.opc = .rdnc
      ∧ x.evict = false ∧ x.granted = false ∧ x.waitMem = true ∧ x.waitEvict = none ∧ x.snoops = [] ∧ (s.slice n).dirFind l = none ∧ s.retired (64 *
      l) = false ∧ s.mem.wpq = []) ∧
    (∃ (s : State) (l : Nat) (w : MemWrite), s.gWaits (s.lineBank l).1 (s.lineBank l).2 = false ∧ s.mem.wpq.find? (fun w => w.line == l) = some w) ∧
    (∃ (s : State) (l : Nat), s.populated (64 * l) = true ∧ s.controllerOf (64 * l) < 32) ∧
    (∃ (s : State) (l : Nat), s.populated (64 * l) = true ∧ s.controllerOf (64 * l) < 32 ∧ s.retired (64 * l) = false ∧ rangeOf (64 * l) ≠ .cxl ∧
      (s.ctl (s.controllerOf (64 * l))).retired = []) ∧
    (∃ s : State, s.mem.retireDirty = true) ∧
    (∃ (s : State) (k bank : Nat), (s.ctl k).st = .up ∧ k < 32 ∧ s.gWaits k bank = false) ∧
    (∃ (s : State) (n : Nat), n < 256 ∧ s.mem.failedPc.contains n = false) ∧
    (∃ (s : State) (n : Nat), n < 16 ∧ s.mem.failedCh.contains n = false) ∧
    (∃ (s : State) (n : Nat), n < 8 ∧ (s.cxl n).lost = false ∧ (s.cxl n).decoders ≠ []) :=
  ⟨⟨{ (ws (fun t => { t with active := [wRdTxn] })) with mem := { w.mem with reads := [{ line := 0x400000000, slice := 2 }] } }, 2,
     0x400000000, wRdTxn, by decide +kernel⟩,
   ⟨wm (fun m => { m with wpq := [w'] }), 0x400000000, w', by decide +kernel⟩,
   ⟨w, 0x400000000, by decide +kernel⟩,
   ⟨w, 0x400000000, by decide +kernel⟩,
   ⟨wm (fun m => { m with retireDirty := true }), by decide +kernel⟩,
   ⟨wm (fun m => { m with hbm := [(0, { Ctl.reset with st := .up })] }), 0, 5, by decide +kernel⟩,
   ⟨w, 255, by decide +kernel⟩,
   ⟨w, 15, by decide +kernel⟩,
   ⟨wm (fun m => { m with cxl := [(7, { decoders := [(0, 0, 0, 0)], lost := false })] }), 7, by decide +kernel⟩⟩

/-- States and operands that meet the hypotheses of `Obligations.Persistent_flush`, clause by clause. -/
theorem witness_Persistent_flush :
    (∃ s : State, s.boot.phase = .running) ∧
    (∃ (s : State) (k : Nat), s.boot.phase = .ready k ∧ s.pins.resetN = true) ∧
    (∃ s : State, s.boot.phase = .running ∧ s.boot.flush = .none ∧ s.pwr.pk < 2 ∧ s.pins.pwrfailN = false) ∧
    (∃ (s : State) (w : MemWin), s.boot.flush = .stopping ∧ s.boot.flushTrigger < 256 ∧ s.bind.persistWindows = [w] ∧ s.boot.flushMoving = []) ∧
    (∃ s : State, s.boot.flush = .drained ∧ s.pins.resetN = true) ∧
    (∃ s : State, s.boot.phase = .flushed ∧ s.boot.flushByRule = false) ∧
    (∃ s : State, s.boot.phase = .powerFail) ∧
    (∃ (s : State) (k : Nat), s.boot.phase = .ready k ∧ s.pins.resetN = false) :=
  ⟨⟨w, by decide +kernel⟩,
   ⟨wo (fun b => { b with phase := .ready 3 }), 3, by decide +kernel⟩,
   ⟨{ w with pins := { w.pins with pwrfailN := false } }, by decide +kernel⟩,
   ⟨{ (wb (fun b => { b with windows := [wPersist] })) with boot := { w.boot with flush := .stopping, flushTrigger := 1 } }, wPersist,
     by decide +kernel⟩,
   ⟨wo (fun b => { b with flush := .drained }), by decide +kernel⟩,
   ⟨wo (fun b => { b with phase := .flushed }), by decide +kernel⟩,
   ⟨wo (fun b => { b with phase := .powerFail }), by decide +kernel⟩,
   ⟨{ (wo (fun b => { b with phase := .ready 3 })) with pins := { w.pins with resetN := false } }, 3, by decide +kernel⟩⟩

/-- States and operands that meet the hypotheses of `Obligations.Memory_form`, clause by clause. -/
theorem witness_Memory_form :
    (∃ (s t : State), s.mem.wf = true ∧ step s = .next t) :=
  ⟨wm (fun m => { m with bytes := m.write 0x10000000000 [1, 2, 3] |>.bytes }),
     after (step (wm (fun m => { m with bytes := m.write 0x10000000000 [1, 2, 3] |>.bytes }))), ⟨by decide +kernel, rfl⟩⟩

/-- States and operands that meet the hypotheses of `Obligations.Queues`, clause by clause. -/
theorem witness_Queues :
    (∃ (s : State) (h q : Nat) (v : Word), q < queueCount ∧ s.readySide h = true ∧ s.doorbellHart h q = true ∧ s.qe.cached.contains q = true ∧
      (s.queue q).st = .enabled ∧ s.viResetting (s.queue q).vi = false ∧ fieldOf v 32 32 = 0 ∧ (s.queue q).ty = 1 ∧ (v.setWidth 32 - (s.queue
      q).cons).toNat ≤ 2 ^ (s.queue q).log2 ∧ ((s.queue q).fetch - (s.queue q).cons).toNat ≤ (v.setWidth 32 - (s.queue q).cons).toNat) ∧
    (∃ (s : State) (h q : Nat) (v : Word), q < queueCount ∧ s.readySide h = true ∧ s.doorbellHart h q = true ∧ s.qe.cached.contains q = true ∧
      (s.queue q).st = .enabled ∧ s.viResetting (s.queue q).vi = false ∧ fieldOf v 32 32 = 0 ∧ (s.queue q).ty = 2 ∧ ((s.queue q).prod - v.setWidth
      32).toNat ≤ 2 ^ (s.queue q).log2 ∧ (s.queue q).irqEn = false) ∧
    (∃ (s : State) (h q : Nat) (v : Word), q < queueCount ∧ s.readySide h = true ∧ s.doorbellHart h q = true ∧ s.qe.cached.contains q = true ∧
      (s.queue q).st = .enabled ∧ s.viResetting (s.queue q).vi = false ∧ fieldOf v 32 32 = 0 ∧ (s.queue q).ty = 1 ∧ 2 ^ (s.queue q).log2 < (v.setWidth
      32 - (s.queue q).cons).toNat) ∧
    (∃ (s : State) (h q rd : Nat), q < queueCount ∧ s.readySide h = true ∧ s.doorbellHart h q = true ∧ s.qe.cached.contains q = true) ∧
    (∃ (s : State) (h vi : Nat) (v : Word), vi < viCount ∧ s.readySide h = true ∧ s.viAllowed (.hart h) vi = true ∧ (s.vi vi).cmdBusy = false ∧
      s.viResetting vi = false ∧ v.toNat < queueCount ∧ s.qe.cached.contains v.toNat = true ∧ s.bind.queueOwner 1 v.toNat = s.viQid vi ∧
      s.bind.queueSecure 1 v.toNat = s.viSecure vi ∧ (s.queue v.toNat).live = false ∧ s.badConfig vi v.toNat = false) ∧
    (∃ (s : State) (h vi : Nat) (v : Word), vi < viCount ∧ s.readySide h = true ∧ s.viAllowed (.hart h) vi = true ∧ (s.vi vi).cmdBusy = false ∧
      s.viResetting vi = false ∧ v.toNat < queueCount ∧ s.qe.cached.contains v.toNat = true ∧ s.bind.queueOwner 1 v.toNat = s.viQid vi ∧
      s.bind.queueSecure 1 v.toNat = s.viSecure vi ∧ (s.queue v.toNat).live = true ∧ (s.queue v.toNat).vi = vi ∧ (s.queue v.toNat).ty = 1 ∧
      s.queueBusy v.toNat = false) ∧
    (∃ (s : State) (h vi : Nat) (v : Word), vi < viCount ∧ s.readySide h = true ∧ s.viAllowed (.hart h) vi = true ∧ (s.vi vi).cmdBusy = false ∧
      s.viResetting vi = false ∧ v.toNat < queueCount ∧ s.qe.cached.contains v.toNat = true ∧ s.bind.queueOwner 1 v.toNat = s.viQid vi ∧
      s.bind.queueSecure 1 v.toNat = s.viSecure vi) ∧
    (∃ (s : State) (q : Nat), (s.queue q).disabling = true ∧ s.queueBusy q = false ∧ (s.vi (s.queue q).vi).cmdBusy = true ∧ (s.vi (s.queue
      q).vi).queue = q) :=
  ⟨⟨wqe (fun q => q), 0, 5, 16, by decide +kernel⟩,
   ⟨wqe (fun q => q), 0, 6, 0, by decide +kernel⟩,
   ⟨wqe (fun q => q), 0, 5, 17, by decide +kernel⟩,
   ⟨wqe (fun q => q), 0, 5, 4, by decide +kernel⟩,
   ⟨wVi 0 (fun v => { v with qbase := 0x10000003000, qcfg := 0x4400000000000006 }) (wqe (fun q => q)), 0, 0, 7, by decide +kernel⟩,
   ⟨wqe (fun q => q), 0, 0, 5, by decide +kernel⟩,
   ⟨wqe (fun q => q), 0, 0, 5, by decide +kernel⟩,
   ⟨wqe (fun q => { q with ctx := [(5, { wSq with disabling := true })], vi := [(0, { Vi.reset with cmdBusy := true, queue := 5 })] }), 5,
     by decide +kernel⟩⟩

/-- States and operands that meet the hypotheses of `Obligations.Descriptors`, clause by clause. -/
theorem witness_Descriptors :
    (∃ (s : State) (lane q : Nat), lane < 9 ∧ (s.lane lane).flights = [] ∧ s.halting = false ∧ s.nextSq lane = some q ∧ s.qe.cached.contains q =
      true ∧ (s.queue q).st = .enabled ∧ s.entryOk (s.queue q) ((s.queue q).entry (s.queue q).fetch) true = true ∧ s.coherentPoison ((s.queue q).entry
      (s.queue q).fetch) 64 = false ∧ s.linesFree [(false, (s.queue q).entry (s.queue q).fetch, 64)] = true) ∧
    (∃ (s : State) (d : DescRef) (f : Flight), s.flight d = some f ∧ f.st = .fetched ∧ s.inOrder f = true ∧ s.halting = false ∧ d.lane < 8 ∧ (s.lane
      d.lane).fenced = false ∧ f.fence = false ∧ f.poisoned = true) ∧
    (∃ (s : State) (d : DescRef) (f : Flight), s.flight d = some f ∧ f.st = .fetched ∧ s.inOrder f = true ∧ s.halting = false ∧ d.lane < 8 ∧ (s.lane
      d.lane).fenced = false ∧ f.fence = false ∧ f.poisoned = false ∧ (opOf (s.viFunction f.vi) f.op = false ∨ f.wellFormed = false)) ∧
    (∃ (s : State) (d : DescRef) (f : Flight), s.flight d = some f ∧ f.st = .fetched ∧ s.inOrder f = true ∧ s.halting = false ∧ d.lane < 8 ∧ (s.lane
      d.lane).fenced = false ∧ f.fence = false ∧ f.poisoned = false ∧ f.op = 0 ∧ f.wellFormed = true ∧ f.len = 0 ∧ f.dropLate = false) ∧
    (∃ (s : State) (d : DescRef) (f : Flight), s.flight d = some f ∧ f.st = .fetched ∧ s.inOrder f = true ∧ s.halting = false ∧ d.lane < 8 ∧ (s.lane
      d.lane).fenced = false ∧ f.fence = false ∧ f.poisoned = false ∧ f.op = 1 ∧ s.viFunction f.vi = 0 ∧ f.wellFormed = true ∧ 0 < f.len ∧ f.dropLate
      = false ∧ s.lengthOk d.lane f = true ∧ s.rangesOk d.lane f = (s, true)) ∧
    (∃ (s : State) (d : DescRef) (f : Flight), s.flight d = some f ∧ f.st = .done ∧ (s.lane d.lane).fenced = false ∧ (s.queue d.sq).cons.toNat =
      f.idx ∧ f.silent = true ∧ f.status = 0 ∧ f.deadline = 0) ∧
    (∃ (s : State) (d : DescRef) (f : Flight) (c : Nat), s.flight d = some f ∧ f.st = .done ∧ (s.lane d.lane).fenced = false ∧ (s.queue
      d.sq).cons.toNat = f.idx ∧ f.silent = false ∧ f.deadline = 0 ∧ (s.queue d.sq).cq = c ∧ c ≠ d.sq ∧ (s.queue c).st = .enabled ∧ (s.queue c).irqEn
      = false ∧ (s.queue c).held < 2 ^ (s.queue c).log2 ∧ s.entryOk (s.queue c) ((s.queue c).entry (s.queue c).prod) false = true ∧ s.retired
      ((s.queue c).entry (s.queue c).prod) = false ∧ s.qe.cached.contains c = true ∧ s.linesFree [(true, (s.queue c).entry (s.queue c).prod, 64)] =
      true) :=
  ⟨⟨wqe (fun q => q), 5, 5, by decide +kernel⟩,
   ⟨wfl { wFl .fetched 1 0 64 0 with poisoned := true }, wRef, { wFl .fetched 1 0 64 0 with poisoned := true }, by decide +kernel⟩,
   ⟨wfl (wFl .fetched 3 0 64 0), wRef, wFl .fetched 3 0 64 0, by decide +kernel⟩,
   ⟨wfl (wFl .fetched 0 0 0 0), wRef, wFl .fetched 0 0 0 0, by decide +kernel⟩,
   ⟨wfl (wFl .fetched 1 0 64 0), wRef, wFl .fetched 1 0 64 0, by decide +kernel⟩,
   ⟨wfl (wFl .done 1 4 64 0), wRef, wFl .done 1 4 64 0, by decide +kernel⟩,
   ⟨wfl (wFl .done 1 0 64 0), wRef, wFl .done 1 0 64 0, 6, by decide +kernel⟩⟩

/-- States and operands that meet the hypotheses of `Obligations.Data_and_check_operations`, clause by clause. -/
theorem witness_Data_and_check_operations :
    (∃ (s : State) (d : DescRef) (f : Flight), s.mayAct d 0x00 f) ∧
    (∃ (s : State) (d : DescRef) (f : Flight), s.mayAct d 0x01 f ∧ s.sourceGood f ∧ 0 < f.len ∧ f.len = pieceSize f.dst f.len ∧ (rangeOf
      f.dst).isMemory = true ∧ s.retired f.dst = false) ∧
    (∃ (s : State) (d : DescRef) (f : Flight), s.mayAct d 0x01 f) ∧
    (∃ (s : State) (d : DescRef) (f : Flight), s.mayAct d 0x02 f) ∧
    (∃ (s : State) (d : DescRef) (f : Flight), s.mayAct d 0x10 f ∧ s.sourceGood f ∧ (s.checkCfg (f.unit d.lane)).a = 0) ∧
    (∃ (s : State) (d : DescRef) (f : Flight), s.mayAct d 0x12 f ∧ s.sourceGood f) ∧
    (∃ (s : State) (d : DescRef) (f : Flight), s.mayAct d 0x11 f ∧ s.sourceGood f ∧ f.dst = 0) ∧
    (∃ (s : State) (h u : Nat) (v : Word), 16 ≤ u ∧ u < 32 ∧ s.readySide h = true ∧ s.ocuAllowed (.hart h) u = true ∧ (s.openUnit u).busy = none ∧
      (v &&& ~~~(word 0x8000000000000001)) = 0 ∧ (s.openUnit u).shadow.ok = true) ∧
    (∃ (s : State) (u : Nat), 16 ≤ u ∧ u < 32 ∧ (s.openUnit u).busy = none) :=
  ⟨⟨wfl (wFl .started 0 0 0 0), wRef, wFl .started 0 0 0 0, by unfold State.mayAct State.reachable; decide +kernel⟩,
   ⟨wfl (wFl .started 1 0 16 0), wRef, wFl .started 1 0 16 0, by unfold State.mayAct State.reachable State.sourceGood; decide +kernel⟩,
   ⟨wfl (wFl .started 1 0 200 0), wRef, wFl .started 1 0 200 0, by unfold State.mayAct State.reachable; decide +kernel⟩,
   ⟨wfl (wFl .started 2 0 20 0x0807060504030201), wRef, wFl .started 2 0 20 0x0807060504030201,
     by unfold State.mayAct State.reachable; decide +kernel⟩,
   ⟨wfl (wFl .started 0x10 0 8 0xFF), wRef, wFl .started 0x10 0 8 0xFF,
     by unfold State.mayAct State.reachable State.sourceGood; decide +kernel⟩,
   ⟨wfl (wFl .started 0x12 0 8 0xFF), wRef, wFl .started 0x12 0 8 0xFF,
     by unfold State.mayAct State.reachable State.sourceGood; decide +kernel⟩,
   ⟨(let g := { wFl .started 0x11 0 8 0xFF with raw := wRaw 0x11 0 8 0x10000000000 0 0xFF }; wfl g), wRef,
     { wFl .started 0x11 0 8 0xFF with raw := wRaw 0x11 0 8 0x10000000000 0 0xFF },
     by unfold State.mayAct State.reachable State.sourceGood; decide +kernel⟩,
   ⟨wOpen (fun u => u), 0, 31, 1, by decide +kernel⟩,
   ⟨w, 16, by decide +kernel⟩⟩

/-- States and operands that meet the hypotheses of `Obligations.Commit_rule`, clause by clause. -/
theorem witness_Commit_rule :
    (∃ (s : State) (h u : Nat) (v : Word), 16 ≤ u ∧ u < 32 ∧ s.readySide h = true ∧ s.ocuAllowed (.hart h) u = true ∧ (s.openUnit u).busy = none) :=
  ⟨wOpen (fun u => { u with shadow := { u.shadow with width := 7 } }), 0, 31, 1, by decide +kernel⟩

/-- States and operands that meet the hypotheses of `Obligations.Crypto_operations`, clause by clause. -/
theorem witness_Crypto_operations :
    (∃ (s : State) (d : DescRef) (f : Flight), s.mayAct d 0x40 f ∧ s.sourceGood f) ∧
    (∃ (s : State) (d : DescRef) (f : Flight), s.mayAct d 0x41 f ∧ s.sourceGood f) ∧
    (∃ (s : State) (d : DescRef) (f : Flight), s.mayAct d 0x42 f ∧ s.sourceGood f) ∧
    (∃ (s : State) (d : DescRef) (f : Flight), s.mayAct d 0x43 f ∧ s.sourceGood f) ∧
    (∃ (s : State) (d : DescRef) (f : Flight), s.mayAct d 0x44 f ∧ s.sourceGood f) ∧
    (∃ (s : State) (d : DescRef) (f : Flight), s.mayAct d 0x45 f ∧ s.sourceGood f ∧ f.arg 0 1 = 0) ∧
    (∃ (s : State) (d : DescRef) (f : Flight), s.mayAct d 0x46 f ∧ s.sourceGood f) ∧
    (∃ (s : State) (d : DescRef) (f : Flight), s.mayAct d 0x47 f ∧ s.sourceGood f) ∧
    (∃ (s : State) (d : DescRef) (f : Flight), s.mayAct d 0x48 f) ∧
    (∃ (s : State) (d : DescRef) (f : Flight), s.mayAct d 0x49 f) ∧
    (∃ (s : State) (d : DescRef) (f : Flight), s.mayAct d 0x4A f ∧ s.sourceGood f) ∧
    (∃ (s : State) (d : DescRef) (f : Flight), s.mayAct d 0x4B f) :=
  ⟨⟨wfl (wFl .started 0x40 0 8 0), wRef, wFl .started 0x40 0 8 0, by unfold State.mayAct State.reachable State.sourceGood; decide +kernel⟩,
   ⟨wfl (wFl .started 0x41 0 8 0x40000000000000000000000000000000030000), wRef,
     wFl .started 0x41 0 8 0x40000000000000000000000000000000030000, by unfold State.mayAct State.reachable State.sourceGood; decide +kernel⟩,
   ⟨wfl (wFl .started 0x42 0 24 0x30000), wRef, wFl .started 0x42 0 24 0x30000,
     by unfold State.mayAct State.reachable State.sourceGood; decide +kernel⟩,
   ⟨wfl (wFl .started 0x43 0 8 0x30000), wRef, wFl .started 0x43 0 8 0x30000,
     by unfold State.mayAct State.reachable State.sourceGood; decide +kernel⟩,
   ⟨wfl (wFl .started 0x44 0 48 0x30000), wRef, wFl .started 0x44 0 48 0x30000,
     by unfold State.mayAct State.reachable State.sourceGood; decide +kernel⟩,
   ⟨wfl (wFl .started 0x45 0 7267 0), wRef, wFl .started 0x45 0 7267 0,
     by unfold State.mayAct State.reachable State.sourceGood; decide +kernel⟩,
   ⟨wfl (wFl .started 0x46 0 1568 0x400000000), wRef, wFl .started 0x46 0 1568 0x400000000,
     by unfold State.mayAct State.reachable State.sourceGood; decide +kernel⟩,
   ⟨wfl (wFl .started 0x47 0 1568 0x400030000), wRef, wFl .started 0x47 0 1568 0x400030000,
     by unfold State.mayAct State.reachable State.sourceGood; decide +kernel⟩,
   ⟨wfl (wFl .started 0x48 0 16 0), wRef, wFl .started 0x48 0 16 0, by unfold State.mayAct State.reachable; decide +kernel⟩,
   ⟨wfl (wFl .started 0x49 0 0 0x400000000), wRef, wFl .started 0x49 0 0 0x400000000, by unfold State.mayAct State.reachable; decide +kernel⟩,
   ⟨wfl (wFl .started 0x4A 0 8 0x400000000), wRef, wFl .started 0x4A 0 8 0x400000000,
     by unfold State.mayAct State.reachable State.sourceGood; decide +kernel⟩,
   ⟨wfl (wFl .started 0x4B 0 0 0x30000), wRef, wFl .started 0x4B 0 0 0x30000, by unfold State.mayAct State.reachable; decide +kernel⟩⟩

/-- States and operands that meet the hypotheses of `Obligations.Port_operations`, clause by clause. -/
theorem witness_Port_operations :
    (∃ (s : State) (d : DescRef) (f : Flight), s.mayAct d 0x20 f ∧ s.sourceGood f ∧ (s.tsn (f.arg 0 1)).linkUp = true ∧ s.isGated (UnitId.of 0x0E
      (f.arg 0 1)) = false) ∧
    (∃ (s : State) (d : DescRef) (f : Flight), s.mayAct d 0x21 f ∧ (s.tsn (f.arg 2 2 / 256)).linkUp = true ∧ s.isGated (UnitId.of 0x0E (f.arg 2 2 /
      256)) = false) ∧
    (∃ (s : State) (d : DescRef) (f : Flight), s.mayAct d 0x33 f) ∧
    (∃ p ∈ ([(Instr.slWrite, 0x30), (.slRead, 0x31), (.slSend, 0x32)] : List ((DescRef → Instr) × Nat)), ∃ (s : State) (d : DescRef) (f : Flight), ∃
      k, s.mayAct d p.2 f ∧ (p.2 = 0x31 ∨ s.sourceGood f) ∧ 0 < f.len ∧ f.len ≤ 128 ∧ s.slRoute (f.arg 0 2) = .inl k ∧ s.isGated (UnitId.of 0x0D k) =
      false) ∧
    (∃ p ∈ ([(Instr.slWrite, 0x30), (.slRead, 0x31), (.slSend, 0x32)] : List ((DescRef → Instr) × Nat)), ∃ (s : State) (d : DescRef) (f : Flight),
      s.mayAct d p.2 f ∧ (p.2 = 0x31 ∨ s.sourceGood f) ∧ 0 < f.len ∧ f.len ≤ 128 ∧ s.slRoute (f.arg 0 2) = .inr 2) ∧
    (∃ (s : State) (d : DescRef) (f : Flight), s.flight d = some f ∧ f.st = .waiting ∧ f.op = 0x20 ∧ f.arg 8 8 ≠ 0 ∧ f.arg 8 8 ≤ s.now ∧ (s.tsn
      (f.arg 0 1)).linkUp = true ∧ s.isGated (UnitId.of 0x0E (f.arg 0 1)) = false ∧ s.isGated (laneUnit d.lane) = false ∧ s.reachable d.lane f ∧
      s.sourceGood f) :=
  ⟨⟨wTsn 3 (fun t => t) (wfl (wFl .started 0x20 0 8 3)), wRef, wFl .started 0x20 0 8 3,
     by unfold State.mayAct State.reachable State.sourceGood; decide +kernel⟩,
   ⟨wTsn 3 (fun t => t) (wfl (wFl .started 0x21 0 8 0x3010000)), wRef, wFl .started 0x21 0 8 0x3010000,
     by unfold State.mayAct State.reachable; decide +kernel⟩,
   ⟨wfl (wFl .started 0x33 0 8 0), wRef, wFl .started 0x33 0 8 0, by unfold State.mayAct State.reachable; decide +kernel⟩,
   ⟨((Instr.slWrite, 0x30) : (DescRef → Instr) × Nat), by simp, (wfl (wFl .started 0x30 0 128 2)).setSlPort 0 wPort, wRef,
     wFl .started 0x30 0 128 2, (0 : Nat), by unfold State.mayAct State.reachable State.sourceGood; decide +kernel⟩,
   ⟨((Instr.slRead, 0x31) : (DescRef → Instr) × Nat), by simp, (wfl (wFl .started 0x31 0 128 2)).setSlPort 0 { wPort with peer := .isolated },
     wRef, wFl .started 0x31 0 128 2, by unfold State.mayAct State.reachable State.sourceGood; decide +kernel⟩,
   ⟨wTsn 3 (fun t => t) (wfl (wFl .waiting 0x20 0 8 0x10000000000000003)), wRef, wFl .waiting 0x20 0 8 0x10000000000000003,
     by unfold State.reachable State.sourceGood; decide +kernel⟩⟩

/-- States and operands that meet the hypotheses of `Obligations.Lanes_and_instances`, clause by clause. -/
theorem witness_Lanes_and_instances :
    (∃ (s : State) (n : Nat), n < 8 ∧ (s.lane n).fenced = false) ∧
    (∃ (s : State) (n : Nat) (f : Flight), n < 8 ∧ (s.lane n).fenced = true ∧ (s.lane n).flights = [f] ∧ f.st = .started ∧ f.noRepeat = true ∧
      (s.lane (s.laneOf f.sq)).flights.length < 32 ∧ s.laneOf f.sq ≠ n) ∧
    (∃ (s : State) (h vi : Nat) (v : Word), vi < viCount ∧ s.readySide h = true ∧ s.viAllowed (.hart h) vi = true ∧ s.viResetting vi = false ∧
      v.toNat % 4096 = 0) ∧
    (∃ (s : State) (h vi : Nat) (v : Word), vi < viCount ∧ s.readySide h = true ∧ s.viAllowed (.hart h) vi = true ∧ s.viResetting vi = false ∧
      v.toNat % 4096 = 0) ∧
    (∃ (s : State) (vi : Nat), (s.vi vi).mode = .drain ∧ (s.vi vi).drainExpired = false ∧ (s.vi vi).since + 1000 * (s.vi vi).timeoutUs ≤ s.time.now
      ∧ s.viBusy vi = true) ∧
    (∃ (s : State) (vi : Nat), s.viResetting vi = true ∧ s.viBusy vi = false) :=
  ⟨⟨w, 7, by decide +kernel⟩,
   ⟨wqe (fun q => { q with lanes := [(5, { Lane.reset with fenced := true, flights := [wFl .started 1 1 8 0] })] }), 5, wFl .started 1 1 8 0,
     by decide +kernel⟩,
   ⟨wfl (wFl .started 1 0 8 0), 0, 0, 0x2000, by decide +kernel⟩,
   ⟨wfl (wFl .started 1 0 8 0), 0, 0, 0, by decide +kernel⟩,
   ⟨wVi 0 (fun v => { v with mode := .drain }) (wfl (wFl .started 1 0 8 0)), 0, by decide +kernel⟩,
   ⟨wVi 0 (fun v => { v with mode := .drain, qbase := 5 }) (wqe (fun q => q)), 0, by decide +kernel⟩⟩

/-- States and operands that meet the hypotheses of `Obligations.Io_ports`, clause by clause. -/
theorem witness_Io_ports :
    (∃ (s : State) (h q rd : Nat), q < 256 ∧ s.readySide h = true ∧ s.pcfgHart (.hart h) q = true ∧ s.cfgAllowed q (s.pcfgSel q).1 (s.pcfgSel q).2.1
      = true) ∧
    (∃ (s : State) (h q : Nat) (v : Word), q < 256 ∧ s.readySide h = true ∧ s.pcfgHart (.hart h) q = true ∧ s.cfgAllowed q (s.pcfgSel q).1
      (s.pcfgSel q).2.1 = true ∧ v.toNat < 2 ^ 32 ∧ 32 ≤ (s.pcfgSel q).2.1) ∧
    (∃ (s : State) (g bdf : Nat), g < 8 ∧ bdf < 65536 ∧ (s.group g).dpc = [] ∧ (rootPorts (s.group g).arrange).contains (s.rootOf g bdf) = true) ∧
    (∃ (s : State) (g r : Nat), (s.group g).linkUp.contains r = true) ∧
    (∃ (s : State) (g bdf a len : Nat) (data : List Byte) (b : Bool), g < 8 ∧ 0 < len ∧ s.halting = false ∧ s.fnCut g bdf = false ∧ rangeOf a ≠
      .doorbell ∧ s.fnQid g bdf ≠ 0 ∧ s.io.held.contains (g * 65536 + bdf) = false ∧ s.rangeCheck (s.fnQid g bdf) (s.fnSecure g bdf) .store a len =
      .ok b ∧ s.deadRange a len = false ∧ s.linesFree [(true, a, len)] = true) ∧
    (∃ (s : State) (g bdf a len : Nat) (data : List Byte), g < 8 ∧ 0 < len ∧ s.halting = false ∧ s.fnCut g bdf = false ∧ s.fnQid g bdf = 0) ∧
    (∃ (s : State) (g bdf : Nat) (m : MsiMsg), g < 8 ∧ s.halting = false ∧ s.fnCut g bdf = false ∧ s.io.held.contains (g * 65536 + bdf) = false ∧
      s.fnQid g bdf ≠ 0 ∧ s.maySignal (s.fnQid g bdf) m.hart m.file m.id = true) ∧
    (∃ (s : State) (g r : Nat) (u c : BitVec 32), g < 8) ∧
    (∃ (s : State) (p f : Nat) (frame : List Byte), p < 4 ∧ f < 256 ∧ (s.tsn p).linkUp = true ∧ s.isGated (UnitId.of 0x0E p) = false ∧ (s.tsn
      p).dropping.contains f = false ∧ s.flightsWhere (fun g => g.awaits (p * 256 + f)) = []) ∧
    (∃ (s : State) (p f : Nat), p < 4 ∧ f < 256 ∧ (s.tsn p).lossUs f ≠ 0 ∧ (s.tsn p).lost.contains f = false ∧ Tab.get (s.tsn p).lastFrame 0 f +
      1000 * (s.tsn p).lossUs f ≤ s.now) ∧
    (∃ (s : State) (p : Nat), p < 4 ∧ (s.tsn p).linkUp = true) ∧
    (∃ (s : State) (p : Nat), p < 4 ∧ (s.tsn p).linkUp = true ∧ (s.tsn p).gclActive = [] ∧ (s.tsn p).gclSince ≤ s.now) :=
  ⟨⟨wDev { w with io := { w.io with pcfgAddr := [(1, 0x80000000)], cfg := [(cfgKey 0 8 0, 0x1234)] } }, 0, 1, 5, by decide +kernel⟩,
   ⟨{ (wb (fun b => { b with functions := [{ group := 0, qid := 1, bdf := 256, secure := true, hotplugCtl := true }] })) with io := { w.io with pcfgAddr := [(1, 0x1000000000)] } },
     0, 1, 0xFFFFFFFF, by decide +kernel⟩,
   ⟨w, 7, 256, by decide +kernel⟩,
   ⟨wGroup 0 (fun g => g), 0, 0, by decide +kernel⟩,
   ⟨wDev w, 0, 8, 0x10000000000, 3, [1, 2, 3], true, by decide +kernel⟩,
   ⟨w, 0, 8, 0x10000000000, 3, [], by decide +kernel⟩,
   ⟨wDev w, 0, 8, { hart := 0, file := 0, id := 5, secure := true }, by decide +kernel⟩,
   ⟨w, 7, 0, 1, 0, by decide +kernel⟩,
   ⟨wTsn 3 (fun t => { t with lost := [255] }) w, 3, 255, [1], by decide +kernel⟩,
   ⟨wTsn 3 (fun t => { t with filterLoss := [(255, 0x10000)] }) w, 3, 255, by decide +kernel⟩,
   ⟨wTsn 3 (fun t => t) w, 3, by decide +kernel⟩,
   ⟨wTsn 3 (fun t => { t with gcl := [(0, 5)] }) w, 3, by decide +kernel⟩⟩

/-- States and operands that meet the hypotheses of `Obligations.Link_layer`, clause by clause. -/
theorem witness_Link_layer :
    (∃ (s : State) (p : Nat) (f : SlFlit), (s.slPort p).released = true ∧ (s.slPort p).link = .up ∧ s.isGated (UnitId.of 0x0D p) = false ∧ (slFlitOk
      (s.checkCfg (8 + p)) f = false ∨ f.seq ≠ ((s.slPort p).rxSeq + 1) % 1024)) ∧
    (∃ (s : State) (p : Nat) (f : SlFlit), (s.slPort p).released = true ∧ (s.slPort p).link = .up ∧ s.isGated (UnitId.of 0x0D p) = false ∧ slFlitOk
      (s.checkCfg (8 + p)) f = true ∧ f.seq = ((s.slPort p).rxSeq + 1) % 1024 ∧ s.wakeHold = false ∧ s.bind.aliveBits p = 0 ∧ (∀ m ∈ f.msgs, 1 ≤
      m.kind ∧ m.kind ≤ 9)) ∧
    (∃ (s : State) (p : Nat) (f : SlFlit), (s.slPort p).released = true ∧ (s.slPort p).link = .up ∧ s.isGated (UnitId.of 0x0D p) = false ∧ slFlitOk
      (s.checkCfg (8 + p)) f = true ∧ f.seq = ((s.slPort p).rxSeq + 1) % 1024 ∧ s.wakeHold = false ∧ s.bind.aliveBits p ≠ 0 ∧ (s.slPort p).aliveRx =
      some (f.alive % 2 ^ s.bind.aliveBits p)) ∧
    (∃ (s : State) (p : Nat), (s.slPort p).link = .up ∧ (s.slPort p).nakSeen = true ∧ (s.slPort p).replay ≠ []) ∧
    (∃ (s : State) (p : Nat) (retrain : Bool), (s.slPort p).link = .up) ∧
    (∃ (s : State) (p : Nat) (rate : LinkRate), (s.slPort p).released = true ∧ (s.slPort p).link = .down ∧ rate.width < 4) :=
  ⟨⟨wsl wPort, 0, wFlit 2 [], by decide +kernel⟩,
   ⟨wsl { wPort with rxSeq := 1023 }, 0, slChecked ((wsl { wPort with rxSeq := 1023 }).checkCfg 8) (wFlit 0 [wSl 2 []]), by decide +kernel⟩,
   ⟨(wb (fun b => { b with checks := [{ unit := 8, qid := 0, poly := 0, aliveBits := 4 }] })).setSlPort 0 { wPort with aliveRx := some 1 }, 0,
     slChecked (((wb (fun b => { b with checks := [{ unit := 8, qid := 0, poly := 0, aliveBits := 4 }] })).setSlPort 0 { wPort with aliveRx := some 1 }).checkCfg 8) (wFlit 1 []),
     by decide +kernel⟩,
   ⟨wsl { wPort with nakSeen := true, replay := [wFlit 1 []], resends := 7 }, 0, by decide +kernel⟩,
   ⟨wsl wPort, 0, true, by decide +kernel⟩,
   ⟨wsl { wPort with link := .down }, 0, ⟨3, true⟩, by decide +kernel⟩⟩

/-- States and operands that meet the hypotheses of `Obligations.Peers`, clause by clause. -/
theorem witness_Peers :
    (∃ (s : State) (p : Nat) (m : SlMsg), (s.slPort p).released = true ∧ (s.slPort p).link = .up ∧ numAt m.body 0 2 ≠ s.bind.packageId ∧ (s.slPort
      p).peer = .absent) ∧
    (∃ (s : State) (p : Nat) (m : SlMsg), (s.slPort p).released = true ∧ (s.slPort p).link = .up ∧ numAt m.body 0 2 ≠ s.bind.packageId ∧ (s.slPort
      p).peer = .lost ∧ s.bind.action 0 (numAt m.body 0 2) = 2) ∧
    (∃ (s : State) (p : Nat) (m : SlMsg), (s.slPort p).released = true ∧ (s.slPort p).link = .up ∧ numAt m.body 0 2 = s.bind.packageId) ∧
    (∃ (s : State) (p : Nat), (s.slPort p).released = true ∧ (s.slPort p).peer = .up) ∧
    (∃ (s : State) (p : Nat), (s.slPort p).peer = .up ∧ (s.slPort p).lastHb + 3500 ≤ s.time.now) ∧
    (∃ (s : State) (p : Nat), (s.slPort p).peer = .resetting ∧ (s.slPort p).resettingAt + 100000000 ≤ s.time.now) ∧
    (∃ (s : State) (p : Nat), (s.slPort p).released = true ∧ (s.slPort p).link = .up ∧ s.isGated (UnitId.of 0x0D p) = false ∧ (s.slPort
      p).replay.length < 256) ∧
    (∃ (s : State) (p : Nat) (m : SlMsg) (t4 : Nat), (s.slPort p).released = true ∧ (s.slPort p).link = .up) ∧
    (∃ (s : State) (h p : Nat), p < 8 ∧ s.readySide h = true ∧ s.mHartOf (.hart h) (((s.bind.partnerRec 0 (s.slPort p).peerPkg).map
      (·.notifyQid)).getD 0) = true ∧ (s.slPort p).peer = .isolated) ∧
    (∃ (s : State) (h p rd : Nat), p < 8 ∧ s.readySide h = true ∧ s.inM h = true) :=
  ⟨⟨wsl { wPort with peer := .absent }, 0, wSl 9 (toLE 2 2 ++ toLE 2 0 ++ toLE 4 77), by decide +kernel⟩,
   ⟨wsl { wPort with peer := .lost }, 0, wSl 9 (toLE 2 2 ++ toLE 2 0 ++ toLE 4 77), by decide +kernel⟩,
   ⟨wsl wPort, 0, wSl 9 (toLE 2 1), by decide +kernel⟩,
   ⟨(wReqs .waiting 0x30), 0, by decide +kernel⟩,
   ⟨wsl { wPort with lastHb := 1999996500 }, 0, by decide +kernel⟩,
   ⟨wsl { wPort with peer := .resetting, resettingAt := 1900000000 }, 0, by decide +kernel⟩,
   ⟨wsl wPort, 0, by decide +kernel⟩,
   ⟨wsl wPort, 0, wSl 8 (toLE 4 0 ++ toLE 4 0 ++ toLE 8 100 ++ toLE 8 7 ++ toLE 8 3), 200, by decide +kernel⟩,
   ⟨wsl { wPort with peer := .isolated }, 0, 0, by decide +kernel⟩,
   ⟨wsl { wPort with missedHb := 3 }, 0, 0, 5, by decide +kernel⟩⟩

/-- States and operands that meet the hypotheses of `Obligations.Link_messages`, clause by clause. -/
theorem witness_Link_messages :
    (∃ (s : State) (p : Nat) (m : SlMsg), s.slOpen p = true ∧ (1024 ≤ m.stream ∨ (s.stream m.stream).st = .absent ∨ (s.stream m.stream).desc.srcNode
      ≠ slNode p)) ∧
    (∃ (s : State) (p : Nat) (m : SlMsg), s.slOpen p = true ∧ m.stream < 1024 ∧ (s.stream m.stream).desc.srcNode = slNode p ∧ (s.stream m.stream).st
      = .held ∨ ((s.stream m.stream).st = .active ∧ s.inSlot m.stream = false)) ∧
    (∃ (s : State) (p : Nat) (m : SlMsg), s.slOpen p = true ∧ m.stream < 1024 ∧ (s.stream m.stream).desc.srcNode = slNode p ∧ (s.stream m.stream).st
      = .demoted ∧ (s.slPort p).fullSpeed = false) ∧
    (∃ (s : State) (p : Nat) (m : SlMsg), s.slOpen p = true ∧ m.stream < 1024 ∧ (s.stream m.stream).desc.srcNode = slNode p ∧ ((s.stream
      m.stream).st = .active ∧ s.inSlot m.stream = true) ∨ ((s.stream m.stream).st = .demoted ∧ (s.slPort p).fullSpeed = true)) ∧
    (∃ (s : State) (p : Nat) (m : SlMsg), ∃ w, s.slOpen p = true ∧ m.dstPkg = s.bind.packageId ∧ s.remoteWindow m true (m.body.drop 16).length =
      some w ∧ s.linesFree (s.remoteRange m true (m.body.drop 16).length) = true) ∧
    (∃ (s : State) (p : Nat) (m : SlMsg), s.slOpen p = true ∧ m.dstPkg = s.bind.packageId ∧ s.remoteWindow m true (m.body.drop 16).length = none) ∧
    (∃ (s : State) (p : Nat) (m : SlMsg), ∃ w, s.slOpen p = true ∧ m.dstPkg = s.bind.packageId ∧ s.remoteWindow m false (numAt m.body 2 2) = some w
      ∧ (rangeOf (w.base + numAt m.body 8 8)).isMemory = true ∧ s.linesFree (s.remoteRange m false (numAt m.body 2 2)) = true) ∧
    (∃ c ∈ ([Instr.writeAck, Instr.sendAck] : List (Nat → SlMsg → Instr)), ∃ (s : State) (p : Nat) (m : SlMsg) (r : SlReq) (f : Flight), s.slOpen p
      = true ∧ m.dstPkg = s.bind.packageId ∧ s.sl.reqs.find? (fun r => r.tag == m.tag) = some r ∧ (s.sl.reqs.erase r).any (fun x => x.desc == r.desc)
      = false ∧ s.flight r.desc = some f ∧ f.status = 0) ∧
    (∃ (s : State) (p : Nat) (m : SlMsg) (r : SlReq) (f : Flight), s.slOpen p = true ∧ m.dstPkg = s.bind.packageId ∧ m.status = 0 ∧ m.poison = false
      ∧ s.sl.reqs.find? (fun r => r.tag == m.tag) = some r ∧ (s.sl.reqs.erase r).any (fun x => x.desc == r.desc) = false ∧ s.flight r.desc = some f ∧
      s.laneRange r.desc.lane f .store (f.dst + r.off) (m.body.take r.len).length = (s, true)) ∧
    (∃ (s : State) (p : Nat) (m : SlMsg), s.slOpen p = true ∧ m.dstPkg = s.bind.packageId ∧ s.linesFree (s.segmentRange m) = true ∧ s.slSq (numAt
      m.body 0 4 % 2 ^ 21) = false) ∧
    (∃ (s : State) (p : Nat) (m : SlMsg), s.slOpen p = true ∧ m.dstPkg = s.bind.packageId ∧ s.linesFree (s.segmentRange m) = true ∧ s.slSq (numAt
      m.body 0 4 % 2 ^ 21) = true ∧ s.sl.recvs = [] ∧ numAt m.body 8 4 = 0 ∧ s.slFreeRecv (numAt m.body 0 4 % 2 ^ 21) = none) ∧
    (∃ (s : State) (p : Nat) (m : SlMsg), ∃ d f, s.slOpen p = true ∧ m.dstPkg = s.bind.packageId ∧ s.linesFree (s.segmentRange m) = true ∧ s.slSq
      (numAt m.body 0 4 % 2 ^ 21) = true ∧ s.sl.recvs = [] ∧ numAt m.body 8 4 = 0 ∧ s.slFreeRecv (numAt m.body 0 4 % 2 ^ 21) = some d ∧ s.flight d =
      some f ∧ f.status ≠ 4 ∧ numAt m.body 4 4 ≤ f.len ∧ numAt m.body 4 4 ≤ (m.body.drop 16).length ∧ m.poison = false ∧ s.laneRange d.lane f .store
      f.dst (m.body.drop 16).length = (s, true) ∧ (s.put (laneNodeOf d.lane) f.dst (m.body.drop 16) false).2.2 = true) :=
  ⟨⟨wsl wPort, 0, wSl 1 (toLE 8 0 ++ toLE 48 5), by decide +kernel⟩,
   ⟨{ (wsl wPort) with fabric := { w.fabric with streams := [(4, { wStream with st := .held, desc := { wStream.desc with srcNode := slNode 0, srcQid := 0 } })] } },
     0, wSl 1 (toLE 8 0 ++ toLE 48 5), by decide +kernel⟩,
   ⟨{ (wsl wPort) with fabric := { w.fabric with streams := [(4, { wStream with st := .demoted, desc := { wStream.desc with srcNode := slNode 0, srcQid := 0 } })] } },
     0, wSl 1 (toLE 8 0 ++ toLE 48 5), by decide +kernel⟩,
   ⟨{ (wsl { wPort with fullRate := true }) with fabric := { w.fabric with streams := [(4, { wStream with st := .demoted, desc := { wStream.desc with srcNode := slNode 0, srcQid := 0 } })] } },
     0, wSl 1 (toLE 8 0 ++ toLE 48 5), by decide +kernel⟩,
   ⟨wsl wPort, 0, wSl 2 (wPart 0 0xFFFF80 ++ toLE 128 5), wWin, by decide +kernel⟩,
   ⟨wsl wPort, 0, wSl 2 (wPart 0 0xFFFF81 ++ toLE 128 5), by decide +kernel⟩,
   ⟨wsl wPort, 0, wSl 4 (wPart 128 0), wWin, by decide +kernel⟩,
   ⟨(Instr.writeAck : Nat → SlMsg → Instr), by simp, wReqs .waiting 0x30, 0, wSl 3 [], wReq, wFl .waiting 0x30 0 8 2, by decide +kernel⟩,
   ⟨wReqs .waiting 0x31, 0, wSl 5 (toLE 8 0x1234), wReq, wFl .waiting 0x31 0 8 2, by decide +kernel⟩,
   ⟨wsl wPort, 0, wSl 6 (toLE 4 5), by decide +kernel⟩,
   ⟨(wRecv).setLane 5 Lane.reset, 0, wSl 6 (toLE 4 5 ++ toLE 4 8 ++ toLE 8 0 ++ toLE 8 0x99), by decide +kernel⟩,
   ⟨wRecv, 0, wSl 6 (toLE 4 5 ++ toLE 4 8 ++ toLE 8 0 ++ toLE 8 0x99), wRef, { wFl .waiting 0x33 0 8 0 with vi := 3 }, by decide +kernel⟩⟩

/-- States and operands that meet the hypotheses of `Obligations.Binding_applied`, clause by clause. -/
theorem witness_Binding_applied :
    (∃ (s : State) (a b : List Byte), s.boot.phase = .ready 4 ∧ s.boot.current = none ∧ s.candidate 0 = some a ∧ s.candidate 1 = some b ∧
      imgGeneration b ≤ imgGeneration a) ∧
    (∃ (s : State) (a b : List Byte), s.boot.phase = .ready 4 ∧ s.boot.current = none ∧ s.candidate 0 = some a ∧ s.candidate 1 = some b ∧
      imgGeneration a < imgGeneration b) ∧
    (∃ (s : State), s.boot.phase = .ready 4 ∧ s.candidate 0 = none ∧ s.candidate 1 = none) ∧
    (∃ (s : State) (b : Binding) (dg owner : List Byte), s.boot.phase = .ready 7 ∧ s.clasp.cand = some (b, dg, owner) ∧ s.overlapsContexts b = false
      ∧ s.boot.cause ≠ .pk4Wake) ∧
    (∃ (s : State) (c : Binding × List Byte × List Byte) (u : UnitId), s.boot.phase = .ready 7 ∧ s.clasp.cand = some c ∧ s.boot.candidates = []) :=
  ⟨⟨wSelect 5 5, wImg 5, wImg 5, by decide +kernel⟩,
   ⟨wSelect 5 6, wImg 5, wImg 6, by decide +kernel⟩,
   ⟨{ (wSelect 5 6) with clasp := Clasp.reset }, by decide +kernel⟩,
   ⟨wApply (fun b => b), wBind, [1], [2], by decide +kernel⟩,
   ⟨wApply (fun b => b), (wBind, [1], [2]), UnitId.of 0x02 0, by decide +kernel⟩⟩

/-- States and operands that meet the hypotheses of `Obligations.Requests`, clause by clause. -/
theorem witness_Requests :
    (∃ (s : State) (h q : Nat) (v : Word), ∃ c ∈ ([Instr.applyDelta, Instr.store] : List (Nat → Word → Instr)), s.readySide h = true ∧ (s.hart
      h).qid = q ∧ s.mHartOf (.hart h) q = true ∧ breqBusy (s.breq q).st = false ∧ s.clasp.work = none ∧ s.clasp.queue = [] ∧ v.toNat &&& breqMask 8 =
      v.toNat ∧ (s.readImage q (s.breq q).addr.toNat (fieldOf v 0 25)).1 = none) ∧
    (∃ (s : State) (h q : Nat) (v : Word), ∃ img, s.readySide h = true ∧ (s.hart h).qid = q ∧ s.mHartOf (.hart h) q = true ∧ breqBusy (s.breq q).st
      = false ∧ s.clasp.work = none ∧ s.clasp.queue = [] ∧ v.toNat &&& breqMask 8 = v.toNat ∧ (s.readImage q (s.breq q).addr.toNat (fieldOf v 0 25)).1
      = some img) ∧
    (∃ (s : State) (h q : Nat) (v : Word), ∃ img, s.readySide h = true ∧ (s.hart h).qid = q ∧ s.mHartOf (.hart h) q = true ∧ breqBusy (s.breq q).st
      = false ∧ s.clasp.work = none ∧ s.clasp.queue = [] ∧ v.toNat &&& breqMask 8 = v.toNat ∧ (s.readImage q (s.breq q).addr.toNat (fieldOf v 0 25)).1
      = some img) ∧
    (∃ (s : State) (h q : Nat) (v : Word), s.readySide h = true ∧ (s.hart h).qid = q ∧ s.mHartOf (.hart h) q = true ∧ breqBusy (s.breq q).st = false
      ∧ s.clasp.work = none ∧ s.clasp.queue = [] ∧ v.toNat &&& breqMask 8 = v.toNat ∧ s.mayStart q (fieldOf v 32 16) = true) ∧
    (∃ (s : State) (h q : Nat) (v : Word), s.readySide h = true ∧ (s.hart h).qid = q ∧ s.mHartOf (.hart h) q = true ∧ breqBusy (s.breq q).st = false
      ∧ s.clasp.work = none ∧ s.clasp.queue = [] ∧ v.toNat &&& breqMask 8 = v.toNat ∧ s.mayStart q (fieldOf v 32 16) = false) ∧
    (∃ (s : State) (h q : Nat) (v : Word), s.readySide h = true ∧ (s.hart h).qid = q ∧ s.mHartOf (.hart h) q = true ∧ breqBusy (s.breq q).colSt =
      false ∧ s.clasp.work = none ∧ s.clasp.queue = [] ∧ v.toNat &&& breqMask 0x68 = v.toNat) :=
  ⟨⟨w, 0, 1, 0x8F00000000000040, (Instr.applyDelta : Nat → Word → Instr), by simp, by decide +kernel⟩,
   ⟨wc (fun c => { c with breq := [(1, { Breq.reset with addr := 0x10000001000 })] }), 0, 1, 64,
     ((wc (fun c => { c with breq := [(1, { Breq.reset with addr := 0x10000001000 })] })).readImage 1 0x10000001000 64).1.getD [],
     by decide +kernel⟩,
   ⟨wc (fun c => { c with breq := [(1, { Breq.reset with addr := 0x10000001000 })] }), 0, 1, 64,
     ((wc (fun c => { c with breq := [(1, { Breq.reset with addr := 0x10000001000 })] })).readImage 1 0x10000001000 64).1.getD [],
     by decide +kernel⟩,
   ⟨{ w with harts := [(0, wHart), (2, { Hart.reset with qid := 1 })] }, 0, 1, 0x200000000, by decide +kernel⟩,
   ⟨w, 0, 1, 0x0, by decide +kernel⟩,
   ⟨wc (fun c => { c with breq := [(1, { Breq.reset with dest := 0x10000010000 })], colophon := [1] }), 0, 1, 0, by decide +kernel⟩⟩

/-- States and operands that meet the hypotheses of `Obligations.Hand_overs`, clause by clause. -/
theorem witness_Hand_overs :
    (∃ (s : State) (h o q : Nat) (v : Word) (d : Binding) (dg : List Byte) (waiting forced : List Nat) (since : Nat), s.clasp.work = some (.quiesce
      q d dg waiting forced since) ∧ s.readySide h = true ∧ (s.hart h).qid = o ∧ s.mHartOf (.hart h) o = true ∧ (s.breq o).pend = true ∧ fieldOf v 32
      16 = (s.breq o).pendSeq.toNat ∧ ((s.breq o).pendSecure = false ∨ (s.hart h).secure = true)) ∧
    (∃ (s : State) (h o q : Nat) (v : Word) (d : Binding) (dg : List Byte) (waiting forced : List Nat) (since : Nat), s.clasp.work = some (.quiesce
      q d dg waiting forced since) ∧ s.readySide h = true ∧ (s.hart h).qid = o ∧ s.mHartOf (.hart h) o = true ∧ (s.breq o).pend = true ∧ fieldOf v 32
      16 = (s.breq o).pendSeq.toNat ∧ ((s.breq o).pendSecure = false ∨ (s.hart h).secure = true) ∧ s.mayForce d = false ∧ waiting.contains o = true ∧
      s.clasp.queue = []) ∧
    (∃ (s : State) (o q : Nat) (d : Binding) (dg : List Byte) (waiting forced : List Nat) (since : Nat), s.clasp.work = some (.quiesce q d dg
      waiting forced since) ∧ waiting.contains o = true ∧ s.clasp.queue = [] ∧ since + 1000 * ((s.bind.quire o).map (·.handoverUs)).getD 0 ≤
      s.time.now ∧ s.quiesced (s.bind.merge d) o = false ∧ s.mayForce d = false) ∧
    (∃ (s : State) (q : Nat) (d : Binding) (dg : List Byte), s.clasp.work = some (.move q d dg) ∧ s.moveSettled (s.bind.merge d) = true ∧
      (s.movedPorts (s.bind.merge d)).isEmpty = true ∧ s.clasp.queue = []) ∧
    (∃ (s : State) (q k : Nat) (img : List Byte), s.clasp.work = some (.flash (some q) img k) ∧ s.clasp.queue = []) ∧
    (∃ (s : State) (q k : Nat) (img : List Byte), ∃ recordOk : Bool, s.clasp.work = some (.flash (some q) img k) ∧ s.clasp.queue = []) :=
  ⟨⟨wQuiesce, 0, 1, 1, 0x500000000, wDelta, [3], [1], [], 0, by decide +kernel⟩,
   ⟨wQuiesce, 0, 1, 1, 0x500000000, wDelta, [3], [1], [], 0, by decide +kernel⟩,
   ⟨wQuiesce, 1, 1, wDelta, [3], [1], [], 0, by decide +kernel⟩,
   ⟨wMove, 1, wDelta, [3], by decide +kernel⟩,
   ⟨wc (fun c => { c with work := some (.flash (some 1) [1, 2] 1) }), 1, 1, [1, 2], by decide +kernel⟩,
   ⟨wc (fun c => { c with work := some (.flash (some 1) [1, 2] 1) }), 1, 1, [1, 2], true, by decide +kernel⟩⟩

/-- States and operands that meet the hypotheses of `Obligations.Governor`, clause by clause. -/
theorem witness_Governor :
    (∃ (s : State) (m : Telemetry), s.boot.phase = .running ∧ s.pwr.pk < 2 ∧ m.tempC ≤ s.govLimits.2 ∧ m.powerW ≤ s.govLimits.1) ∧
    (∃ (s : State) (m : Telemetry), s.boot.phase = .running ∧ s.pwr.pk < 2 ∧ s.govLimits.2 < m.tempC ∧ s.bind.govs = [] ∧ s.movable ≠ []) ∧
    (∃ (s : State) (m : Telemetry), s.boot.phase = .running ∧ s.pwr.pk < 2 ∧ (s.govLimits.2 < m.tempC ∨ s.govLimits.1 < m.powerW) ∧ s.bind.govs = []
      ∧ s.movable = []) ∧
    (∃ (s : State) (c k : Nat), (s.cluster c).ramp = some k ∧ s.fuse.clusterOk c = true) ∧
    (∃ (s : State), s.boot.phase = .running) :=
  ⟨⟨w, wTele 10 50, by decide +kernel⟩,
   ⟨w, wTele 10 101, by decide +kernel⟩,
   ⟨{ w with clusters := (List.range 48).map (fun c => (c, { Cluster.reset with granted := 15 })), fuse := { w.fuse with fusedClusters := List.range 48 } },
     wTele 10 101, by decide +kernel⟩,
   ⟨{ w with clusters := [(0, { Cluster.reset with ramp := some 7 })] }, 0, 7, by decide +kernel⟩,
   ⟨w, by decide +kernel⟩⟩

/-- States and operands that meet the hypotheses of `Obligations.Package_states`, clause by clause. -/
theorem witness_Package_states :
    (∃ (s : State) (h : Nat) (v : Word), s.readySide h = true ∧ s.ownerHart (.hart h) = true ∧ s.pwr.pkPending = false ∧ 2 ≤ fieldOf v 56 3 ∧
      fieldOf v 56 3 ≤ 4) ∧
    (∃ (s : State), s.boot.phase = .running ∧ s.boot.flush = .none ∧ s.pwr.pk = 0 ∧ s.pwr.pkEntering = none ∧ s.allInC3 = true ∧ s.fabricIdle =
      true) ∧
    (∃ (s : State), s.boot.phase = .running ∧ s.boot.flush = .none ∧ s.pwr.pkPending = true ∧ s.pwr.pk < 2 ∧ s.pwr.pkEntering = none ∧
      s.pwr.pkExiting = none ∧ s.allInC3 = true ∧ s.fabricIdle = true ∧ s.claspIdle = true) ∧
    (∃ (s : State) (k : Nat), s.pwr.pkEntering = some k ∧ s.pins.resetN = true ∧ s.pwr.pkWakeHeld = none) ∧
    (∃ (s : State) (k : Nat), ∃ src, s.pwr.pkEntering = some k ∧ s.pins.resetN = true ∧ s.pwr.pkWakeHeld = some src ∧ k ≠ 4) ∧
    (∃ (s : State) (k : Nat) (failed : List (Nat × Nat)), s.boot.flush ≠ .stopping ∧ s.pwr.pkEntering = some k ∧ s.pwr.pkDrained = false) ∧
    (∃ (s : State) (src : PkSrc), s.wakeSeen src = true ∧ pkWakes src s.pwr.pk = true ∧ s.pwr.pkEntering = none ∧ s.pwr.pkExiting = none ∧
      s.boot.phase = .running ∧ s.pwr.pk < 4) ∧
    (∃ (s : State) (src : PkSrc), ∃ k, s.wakeSeen src = true ∧ s.pwr.pkEntering = some k ∧ pkWakes src k = true ∧ s.pwr.pkWakeHeld = none) ∧
    (∃ (s : State), s.wakeTimeDue = true ∧ 1 ≤ s.pwr.pk ∧ s.pwr.pk < 4 ∧ s.pwr.pkEntering = none ∧ s.pwr.pkExiting = none ∧ s.boot.phase = .running) ∧
    (∃ (s : State) (src : PkSrc), s.pwr.pkExiting = some src ∧ 1 ≤ s.pwr.pk ∧ s.pwr.pk < 4) :=
  ⟨⟨w, 0, 0x0400000000000005, by decide +kernel⟩,
   ⟨wSleep (fun p => p), by decide +kernel⟩,
   ⟨wSleep (fun p => { p with pkPending := true }), by decide +kernel⟩,
   ⟨wSleep (fun p => { p with pkEntering := some 4 }), 4, by decide +kernel⟩,
   ⟨wSleep (fun p => { p with pkEntering := some 3, pkWakeHeld := some .pcie }), 3, PkSrc.pcie, by decide +kernel⟩,
   ⟨wSleep (fun p => { p with pkEntering := some 3 }), 3, [(1, 0)], by decide +kernel⟩,
   ⟨wSleep (fun p => { p with pk := 2 }), .tsn, by decide +kernel⟩,
   ⟨wSleep (fun p => { p with pkEntering := some 4 }), .firefly, (4 : Nat), by decide +kernel⟩,
   ⟨wSleep (fun p => { p with pk := 3, pkWakeTime := 5 }), by decide +kernel⟩,
   ⟨wSleep (fun p => { p with pk := 1, pkExiting := some .core }), .core, by decide +kernel⟩⟩

/-- States and operands that meet the hypotheses of `Obligations.Firefly_rules`, clause by clause. -/
theorem witness_Firefly_rules :
    (∃ (s : State) (i : FfInputs) (r : Firefly × List (Nat × Word)), s.pins.stbyPwrgood = true ∧ s.ff.booted = true ∧ s.ff.restarting = false ∧
      ((s.ff.sampleAll i).commit).evaluate i s.time.now = r ∧ s.boot.phase = .running ∧ s.pwr.pk = 0 ∧ s.pwr.pkEntering = none ∧ r.1.flushRule = none
      ∧ r.2 = []) ∧
    (∃ (s : State) (i : FfInputs) (r : Firefly × List (Nat × Word)), s.pins.stbyPwrgood = true ∧ s.ff.booted = true ∧ s.ff.restarting = false ∧
      ((s.ff.sampleAll i).commit).evaluate i s.time.now = r ∧ s.boot.phase = .running ∧ s.pwr.pk = 0 ∧ s.pwr.pkEntering = none ∧ r.1.flushRule = none
      ∧ (∃ e ∈ r.2, hasAct e 2 = true)) ∧
    (∃ (s : State) (i : FfInputs) (r : Firefly × List (Nat × Word)), ∃ e, s.pins.stbyPwrgood = true ∧ s.ff.booted = true ∧ s.ff.restarting = false ∧
      ((s.ff.sampleAll i).commit).evaluate i s.time.now = r ∧ s.boot.phase = .running ∧ s.pwr.pk = 0 ∧ s.pwr.pkEntering = none ∧ r.1.flushRule = none
      ∧ r.2.find? (fun e => hasAct e 3) = some e ∧ s.boot.flush = .none) ∧
    (∃ (s : State) (h : Nat), ∃ v : Word, s.readySide h = true ∧ s.ownerHart (.hart h) = true ∧ fieldOf s.ff.sel 0 14 < 8) ∧
    (∃ (s : State) (h : Nat), ∃ v : Word, s.readySide h = true ∧ s.ownerHart (.hart h) = true ∧ 0x100 ≤ fieldOf s.ff.sel 0 14 ∧ fieldOf s.ff.sel 0
      14 < 0x180) ∧
    (∃ (s : State) (h : Nat), ∃ (rd : Nat) (w : Word), s.readySide h = true ∧ s.ownerHart (.hart h) = true ∧ s.ff.selected (fieldOf s.ff.sel 0 14) =
      some w) ∧
    (∃ (s : State), s.pins.stbyPwrgood = true ∧ s.ff.booted = true ∧ s.ff.restarting = false) ∧
    (∃ (s : State), s.ff.restarting = true) :=
  ⟨⟨w, wIns, ((w.ff.sampleAll wIns).commit).evaluate wIns w.time.now, by decide +kernel⟩,
   ⟨wFf 0x40000, wIns, (((wFf 0x40000).ff.sampleAll wIns).commit).evaluate wIns w.time.now, by decide +kernel⟩,
   ⟨wFf 0x80000, wIns, (((wFf 0x80000).ff.sampleAll wIns).commit).evaluate wIns w.time.now,
     (((((wFf 0x80000).ff.sampleAll wIns).commit).evaluate wIns w.time.now).2.headD (0, 0)), by decide +kernel⟩,
   ⟨{ w with ff := { w.ff with sel := 7 } }, 0, (0xFFFFFFFFFFFFFFFF : Word), by decide +kernel⟩,
   ⟨{ w with ff := { w.ff with sel := 0x17F } }, 0, (5 : Word), by decide +kernel⟩,
   ⟨{ w with ff := { w.ff with sel := 0x8000000000000207 } }, 0, 5, (0 : Word), by decide +kernel⟩,
   ⟨w, by decide +kernel⟩,
   ⟨{ w with ff := { w.ff with restarting := true } }, by decide +kernel⟩⟩

/-- States and operands that meet the hypotheses of `Obligations.Gates_rails_counters`, clause by clause. -/
theorem witness_Gates_rails_counters :
    (∃ c ∈ ([(Instr.ungate, 0), (Instr.gateClock, 1), (Instr.gatePower, 2)] : List ((Nat → Word → Instr) × Nat)), ∃ (s : State) (h : Nat) (v : Word)
      (u : UnitId), u = UnitId.of (fieldOf v 16 8) (fieldOf v 0 16) ∧ s.readySide h = true ∧ s.mayGate (.hart h) u = true ∧ gateUnitOk u = true ∧
      s.pwr.reqBusy = false ∧ s.inHandover u = false ∧ (c.2 = 0 ∨ s.secureHeld u = false ∨ (s.hart h).secure = true)) ∧
    (∃ (s : State) (u : UnitId), s.clocked = true ∧ s.unitExists u = true ∧ s.secureHeld u = false) ∧
    (∃ (s : State) (h n : Nat), s.fuse.hartOk h = true ∧ n < 128) ∧
    (∃ (s : State) (h core n rd : Nat), s.readySide h = true ∧ n < 128 ∧ s.cntAllowed (.hart h) core false = true ∧ (s.hart core).cntOpen n = false) :=
  ⟨⟨((Instr.gatePower, 2) : (Nat → Word → Instr) × Nat), by simp, w, 0, 0x0C0007, UnitId.of 0x0C 7, by decide +kernel⟩,
   ⟨{ w with harts := [(0, { wHart with secure := false })] }, UnitId.of 0x0C 1, by decide +kernel⟩,
   ⟨wh (fun x => { x with cntChain := 0x2, cnt := [(0, 0xFFFFFFFFFFFF)] }), 0, 0, by decide +kernel⟩,
   ⟨wh (fun x => { x with cnt := [(1, 77)] }), 0, 0, 1, 5, by decide +kernel⟩⟩

/-- States and operands that meet the hypotheses of `Obligations.Register_writes`, clause by clause. -/
theorem witness_Register_writes :
    (∃ (s : State) (h a die block off : Nat) (v : Word), ∃ r, ∃ q, s.readySide h = true ∧ decodeControl a = some (die, block, off) ∧ a % 8 = 0 ∧
      s.regOf die block off = some r ∧ s.regMay (.hart h) r true = true ∧ r = .breq q 0) ∧
    (∃ (s : State) (h a die block off : Nat) (v : Word), ∃ r, s.readySide h = true ∧ decodeControl a = some (die, block, off) ∧ a % 8 = 0 ∧ s.regOf
      die block off = some r ∧ s.regMay (.hart h) r true = true ∧ r = .ff 0) ∧
    (∃ (s : State) (h a die block off : Nat) (v : Word), ∃ r, s.readySide h = true ∧ decodeControl a = some (die, block, off) ∧ a % 8 = 0 ∧ s.regOf
      die block off = some r ∧ s.regMay (.hart h) r true = true ∧ r = .pkCtl ∧ s.pwr.pkPending = false ∧ flagOf v 63 = false ∧ 2 ≤ fieldOf v 56 3 ∧
      fieldOf v 56 3 ≤ 4) ∧
    (∃ (s : State) (h a die block off : Nat) (v : Word), ∃ r, s.readySide h = true ∧ decodeControl a = some (die, block, off) ∧ a % 8 = 0 ∧ s.regOf
      die block off = some r ∧ s.regMay (.hart h) r true = true ∧ r = .hole) ∧
    (∃ (s : State) (h a die block off : Nat) (v : Word), ∃ size, s.readySide h = true ∧ decodeControl a = some (die, block, off) ∧ a % 8 = 0 ∧ s.inM
      h = true ∧ (s.hart h).virt = false ∧ (s.regOf die block off = none ∨ size ≠ 8)) ∧
    (∃ (s : State) (h n : Nat) (v : Word), s.readySide h = true ∧ (s.hart h).csrFault n true = none ∧ s.csrWaits h n v = none) ∧
    (∃ (s : State) (h x rd : Nat), (x < 48 ∨ 64 ≤ x ∧ x < 80) ∧ s.readySide h = true ∧ s.inM h = true) :=
  ⟨⟨w, 0, breqAddr 1 0, iodDie, 0, 0x10100, 0xFFFFFFFFFFFFFFFF, Reg.breq 1 0, (1 : Nat), by decide +kernel⟩,
   ⟨w, 0, controlAddr iodDie 0x040 0, iodDie, 0x40, 0, 0xFFFFFFFFFFFFFFFF, Reg.ff 0, by decide +kernel⟩,
   ⟨w, 0, controlAddr iodDie 0x010 0x100, iodDie, 0x10, 0x100, 0x0400000000000005, Reg.pkCtl, by decide +kernel⟩,
   ⟨w, 0, controlAddr iodDie 0x040 0x18, iodDie, 0x40, 0x18, 1, Reg.hole, by decide +kernel⟩,
   ⟨w, 0, controlAddr iodDie 0x040 0, iodDie, 0x40, 0, 1, (4 : Nat), by decide +kernel⟩,
   ⟨w, 0, 0x340, 9, by decide +kernel⟩,
   ⟨{ w with links := { w.links with xl := [(79, { Xl.reset with ceCount := 4 })] } }, 0, 79, 5, by decide +kernel⟩⟩

/-- States and operands that meet the hypotheses of `Obligations.Xl_stat_access`, clause by clause. -/
theorem witness_Xl_stat_access :
    (∃ (s : State) (h x : Nat), (x < 48 ∨ 64 ≤ x ∧ x < 80) ∧ s.readySide h = true) :=
  ⟨w, 0, 47, by decide +kernel⟩

/-- States and operands that meet the hypotheses of `Obligations.Xlz_round_trip`, clause by clause. -/
theorem witness_Xlz_round_trip :
    (∃ (i : Xlz), i.wf = true) ∧
    (∃ (w : BitVec 32) (i : Xlz), decodeXlz w = some i) :=
  ⟨⟨.loopi 1 511 4095, by decide +kernel⟩,
   ⟨0x00C3140B, .loopi 0 100 12, by decide +kernel⟩⟩

/-- States and operands that meet the hypotheses of `Obligations.Header_round_trip`, clause by clause. -/
theorem witness_Header_round_trip :
    (∃ (m : CohMsg), headerFits m = true ∧ (m.hasData = false → m.data = 0)) ∧
    (∃ (n cls : Nat) (stream : Option Nat) (issue : BitVec 32) (data : Option Line) (m : CohMsg), n < 2 ^ 128 ∧ bitsOf n 12 3 = 0 ∧ messageOf n cls
      stream issue data = some m) ∧
    (∃ (n cls : Nat) (stream : Option Nat) (issue : BitVec 32) (data : Option Line), bitsOf n 123 5 ∈ [0x00, 0x0A, 0x0B, 0x0C, 0x0D, 0x0E, 0x0F,
      0x13, 0x14, 0x15, 0x16, 0x17, 0x1F]) :=
  ⟨⟨{ wMsg .dat wHome wNode with tag := 4095, hasData := true }, by decide +kernel⟩,
   ⟨0x1C * 2 ^ 123, 0, none, 0, some 5, { wMsg .dat 0 0 with tag := 0, addr := 0, qid := 0, hasData := true, data := 5 }, by decide +kernel⟩,
   ⟨0x1F * 2 ^ 123, 0, none, 0, none, by decide +kernel⟩⟩

/-- States and operands that meet the hypotheses of `Obligations.Queue_and_fuses`, clause by clause. -/
theorem witness_Queue_and_fuses :
    (∃ (c : Instr) (s t : State), exec c s = .next t) :=
  ⟨.nop wRef, w, after (exec (.nop wRef) (w)), rfl⟩

/-- States and operands that meet the hypotheses of `Obligations.Unit_frames`, clause by clause. -/
theorem witness_Unit_frames :
    (∃ (c : Instr) (ps : List Piece) (s t : State), mayTouch c = some ps ∧ exec c s = .next t) :=
  ⟨.crossingMark, (mayTouch (.crossingMark)).getD [], w, after (exec (.crossingMark) (w)), ⟨by decide +kernel, rfl⟩⟩

end Sys2Proof.Tests
end

section
/-! PROOFS. No command touches the fuses or the queue of commands (R4): one lemma for each function
of the model that a command calls, in the order of the model's files, then one arm for each command. -/

namespace Sys2Proof.Machine

/-! ### What every command keeps -/

/-- What no command may change: the fuses (R4) and the queue of waiting commands. -/
def State.kept (s : State) : Fuse × List Instr := (s.fuse, s.pending)

/-- The next state of an outcome has the fuses and the queue of a state. -/
structure Keeps (s : State) (o : Result) : Prop where
  kept : ∀ t, o = .next t → t.kept = s.kept

@[simp] theorem keeps_next (s t : State) : Keeps s (.next t) ↔ t.kept = s.kept :=
  ⟨fun h => h.kept t rfl, fun h => ⟨fun _ e => by cases e; exact h⟩⟩

theorem Keeps.next {s t : State} (h : t.kept = s.kept) : Keeps s (.next t) := (keeps_next s t).mpr h

/-- A record update of other fields keeps both.
Its proof is no bare `rfl`: `simp` does not close the side conditions about functions (`foldl_kept`, `State.instr_kept`)
by rules that hold by definition. -/
@[simp] theorem State.kept_update (s : State) (free pins boot time harts clusters slices net fabric links mem qe io sl chk err clasp dbg pwr ff gov) :
    State.kept ⟨s.pending, free, s.fuse, pins, boot, time, harts, clusters, slices, net, fabric, links, mem, qe, io, sl, chk, err, clasp, dbg,
      pwr, ff, gov⟩ = s.kept := by simp [State.kept]

@[simp] theorem State.kept_ite (c : Prop) [Decidable c] (s t : State) : (if c then s else t).kept = if c then s.kept else t.kept :=
  apply_ite State.kept c s t

@[simp] theorem fst_ite_kept {α : Type} (c : Prop) [Decidable c] (r t : State × α) :
    (if c then r else t).1.kept = if c then r.1.kept else t.1.kept := apply_ite (fun r : State × α => r.1.kept) c r t

@[simp] theorem snd_ite_kept {α : Type} (c : Prop) [Decidable c] (r t : α × State) :
    (if c then r else t).2.kept = if c then r.2.kept else t.2.kept := apply_ite (fun r : α × State => r.2.kept) c r t

/-- What every step of a fold keeps, the fold keeps. -/
theorem foldl_frame {σ α β : Type} (g : σ → β) (f : σ → α → σ) (l : List α) (r : σ) (h : ∀ r a, g (f r a) = g r) : g (l.foldl f r) = g r := by
  induction l generalizing r with
  | nil => rfl
  | cons a l ih => rw [List.foldl_cons, ih, h]

@[simp] theorem foldl_kept {α : Type} (f : State → α → State) (l : List α) (s : State) (h : ∀ s a, (f s a).kept = s.kept) :
    (l.foldl f s).kept = s.kept := foldl_frame State.kept f l s h

/-! ### Machine/Ops.lean -/

@[simp] theorem State.setHart_kept (s : State) (h : Nat) (x : Hart) : (s.setHart h x).kept = s.kept := by simp [State.setHart]
@[simp] theorem State.modHart_kept (s : State) (h : Nat) (f : Hart → Hart) : (s.modHart h f).kept = s.kept := by simp [State.modHart]
@[simp] theorem State.setCluster_kept (s : State) (c : Nat) (x : Cluster) : (s.setCluster c x).kept = s.kept := by simp [State.setCluster]
@[simp] theorem State.setSlice_kept (s : State) (n : Nat) (x : Slice) : (s.setSlice n x).kept = s.kept := by simp [State.setSlice]
@[simp] theorem State.modSlice_kept (s : State) (n : Nat) (f : Slice → Slice) : (s.modSlice n f).kept = s.kept := by simp [State.modSlice]
@[simp] theorem State.setXl_kept (s : State) (x : Nat) (v : Xl) : (s.setXl x v).kept = s.kept := by simp [State.setXl]
@[simp] theorem State.setPartner_kept (s : State) (i : Nat) (v : Partner) : (s.setPartner i v).kept = s.kept := by simp [State.setPartner]
@[simp] theorem State.setStream_kept (s : State) (n : Nat) (v : Stream) : (s.setStream n v).kept = s.kept := by simp [State.setStream]
@[simp] theorem State.setQueue_kept (s : State) (q : Nat) (v : QCtx) : (s.setQueue q v).kept = s.kept := by simp [State.setQueue]
@[simp] theorem State.setLane_kept (s : State) (n : Nat) (v : Lane) : (s.setLane n v).kept = s.kept := by simp [State.setLane]
@[simp] theorem State.setVi_kept (s : State) (n : Nat) (v : Vi) : (s.setVi n v).kept = s.kept := by simp [State.setVi]
@[simp] theorem State.setGroup_kept (s : State) (g : Nat) (v : PortGroup) : (s.setGroup g v).kept = s.kept := by simp [State.setGroup]
@[simp] theorem State.setTsn_kept (s : State) (c : Nat) (v : Tsn) : (s.setTsn c v).kept = s.kept := by simp [State.setTsn]
@[simp] theorem State.setSlPort_kept (s : State) (p : Nat) (v : SlPort) : (s.setSlPort p v).kept = s.kept := by simp [State.setSlPort]
@[simp] theorem State.setBreq_kept (s : State) (q : Nat) (v : Breq) : (s.setBreq q v).kept = s.kept := by simp [State.setBreq]
@[simp] theorem State.setGovQ_kept (s : State) (q : Nat) (v : GovQ) : (s.setGovQ q v).kept = s.kept := by simp [State.setGovQ]
@[simp] theorem State.draw_kept (s : State) : s.draw.2.kept = s.kept := by simp [State.draw]
@[simp] theorem State.drawBytes_kept (s : State) (n : Nat) : (s.drawBytes n).2.kept = s.kept := by simp [State.drawBytes]

@[simp] theorem State.sendMsi_kept (s : State) (hart file id : Nat) (secure : Bool) :
    (s.sendMsi hart file id secure).kept = s.kept := by simp [State.sendMsi]

@[simp] theorem State.noteStats_kept (s : State) (i cls bytes : Nat) (lat : Option Nat) :
    (s.noteStats i cls bytes lat).kept = s.kept := by simp [State.noteStats]

@[simp] theorem State.noteAt_kept (s : State) (node core cls bytes : Nat) (lat : Option Nat) :
    (s.noteAt node core cls bytes lat).kept = s.kept := by simp [State.noteAt]

@[simp] theorem State.sendCoh_kept (s : State) (m : CohMsg) : (s.sendCoh m).kept = s.kept := by simp [State.sendCoh]
@[simp] theorem State.takeCoh_kept (s : State) (m : CohMsg) : (s.takeCoh m).kept = s.kept := by simp [State.takeCoh]

@[simp] theorem State.pacedMsi_kept (s : State) (src hart file id : Nat) (secure : Bool) :
    (s.pacedMsi src hart file id secure).kept = s.kept := by simp [State.pacedMsi]

@[simp] theorem State.needResign_kept (s : State) : s.needResign.kept = s.kept := by simp [State.needResign]
@[simp] theorem State.fenceOne_kept (s : State) (u : UnitId) (syn : Nat) : (s.fenceOne u syn).kept = s.kept := by simp [State.fenceOne]
@[simp] theorem State.addFence_kept (s : State) (u : UnitId) (syn : Nat) : (s.addFence u syn).kept = s.kept := by simp [State.addFence]

@[simp] theorem State.raiseFatal_kept (s : State) (r : ErrRec) : (s.raiseFatal r).kept = s.kept := by
  unfold State.raiseFatal
  split <;> simp

@[simp] theorem State.log_kept (s : State) (r : ErrRec) : (s.log r).kept = s.kept := by simp [State.log]

@[simp] theorem State.countFlit_kept (s : State) (x : Nat) (inward : Bool) (lane : Nat) (corrected : Bool) :
    (s.countFlit x inward lane corrected).kept = s.kept := by simp [State.countFlit]

@[simp] theorem State.deadlineMissOf_kept (s : State) (q : Nat) (r : ErrRec) : (s.deadlineMissOf q r).kept = s.kept := by
  simp only [State.deadlineMissOf]
  (repeat' split) <;> simp

/-! ### Machine/MemMap.lean -/

@[simp] theorem State.setCtl_kept (s : State) (k : Nat) (c : Ctl) : (s.setCtl k c).kept = s.kept := by simp [State.setCtl]

/-! ### Machine/Errors.lean -/

@[simp] theorem State.setEcRegs_kept (s : State) (v : EcView) (r : EcRegs) : (s.setEcRegs v r).kept = s.kept := by
  unfold State.setEcRegs
  split <;> simp

@[simp] theorem State.viewEvent_kept (s : State) (r : ErrRec) : (s.viewEvent r).kept = s.kept := by simp [State.viewEvent]

@[simp] theorem State.storeRecord_kept (s : State) (r : ErrRec) : (s.storeRecord r).kept = s.kept := by
  unfold State.storeRecord
  (repeat' split) <;> simp

@[simp] theorem State.coalesceInto_kept (s : State) (i : Nat) (old new : ErrRec) :
    (s.coalesceInto i old new).kept = s.kept := by simp [State.coalesceInto]

@[simp] theorem State.chipReceive_kept (s : State) (r : ErrRec) : (s.chipReceive r).kept = s.kept := by
  simp only [State.chipReceive]
  (repeat' split) <;> simp

@[simp] theorem recordForward_kept (s : State) (u : UnitId) : (recordForward s u).kept = s.kept := by
  simp only [recordForward]
  (repeat' split) <;> simp

@[simp] theorem msiPacing_kept (s : State) (hart file id : Nat) : (msiPacing s hart file id).kept = s.kept := by simp [msiPacing]

@[simp] theorem State.ecClear_kept (s : State) (v : EcView) : (s.ecClear v).kept = s.kept := by
  simp only [State.ecClear]
  (repeat' split) <;> simp

@[simp] theorem State.ecClearAll_kept (s : State) (v : EcView) : (s.ecClearAll v).kept = s.kept := by
  unfold State.ecClearAll
  split <;> simp

/-! ### Machine/Crc.lean -/

@[simp] theorem State.setOpenUnit_kept (s : State) (u : Nat) (v : OpenUnit) : (s.setOpenUnit u v).kept = s.kept := by simp [State.setOpenUnit]

/-! ### Machine/Route.lean -/

@[simp] theorem State.flitFate_kept (s : State) (qid : Nat) (addr : Option Nat) (hasData : Bool) (u : Upset) :
    (s.flitFate qid addr hasData u).1.kept = s.kept := by
  unfold State.flitFate
  (repeat' split) <;> simp

@[simp] theorem State.arrive_kept (s : State) (m : CohMsg) (u : Upset) (f : State → CohMsg → State) (hf : ∀ s a, (f s a).kept = s.kept) :
    (s.arrive m u f).kept = s.kept := by
  simp only [State.arrive]
  split
  · rfl
  · split <;> simp [hf]

/-! ### Machine/DebugOps.lean -/

@[simp] theorem State.setSwd_kept (s : State) (w : Swd) : (s.setSwd w).kept = s.kept := by simp [State.setSwd]
@[simp] theorem State.swdSync_kept (s : State) : s.swdSync.kept = s.kept := by simp [State.swdSync]
@[simp] theorem State.swdRestart_kept (s : State) : s.swdRestart.kept = s.kept := by simp [State.swdRestart]

/-! ### Machine/HartOps.lean -/

@[simp] theorem State.raise_kept (s : State) (h : Nat) (e : Exc) : (s.raise h e).kept = s.kept := by simp [State.raise]
@[simp] theorem State.raiseCode_kept (s : State) (h code : Nat) (tval : Word) : (s.raiseCode h code tval).kept = s.kept := by simp [State.raiseCode]

@[simp] theorem State.raiseIllegal_kept (s : State) (h code bits free : Nat) :
    (s.raiseIllegal h code bits free).kept = s.kept := by simp [State.raiseIllegal]

@[simp] theorem State.haltOne_kept (s : State) (h cause : Nat) : (s.haltOne h cause).kept = s.kept := by simp [State.haltOne]
@[simp] theorem State.haltHart_kept (s : State) (h cause : Nat) : (s.haltHart h cause).kept = s.kept := by simp [State.haltHart]
@[simp] theorem State.resumeHart_kept (s : State) (h : Nat) : (s.resumeHart h).kept = s.kept := by simp [State.resumeHart]
@[simp] theorem State.fire_kept (s : State) (h i : Nat) (a : Word) : (s.fire h i a).kept = s.kept := by simp [State.fire]

@[simp] theorem State.instr_kept (s : State) (h : Nat) (f : State → State) (hf : ∀ s, (f s).kept = s.kept) : (s.instr h f).kept = s.kept := by
  unfold State.instr
  split
  · split <;> simp [hf]
  · rfl

@[simp] theorem State.watched_kept (s : State) (h : Nat) (k : TrigKind) (va : Word) (n : Nat) (data : Option Nat) (f : State → State)
    (hf : ∀ s, (f s).kept = s.kept) :
    (s.watched h k va n data f).kept = s.kept := by
  unfold State.watched
  split <;> simp [hf]

@[simp] theorem State.logWorldDenied_kept (s : State) (h a : Nat) : (s.logWorldDenied h a).kept = s.kept := by simp [State.logWorldDenied]

/-! ### Machine/Cache.lean -/

@[simp] theorem State.queueWrite_kept (s : State) (l : Nat) (d : Line) (p : Poison) : (s.queueWrite l d p).kept = s.kept := by simp [State.queueWrite]

@[simp] theorem State.fillL3_kept (s : State) (n q l : Nat) (dirty : Bool) (d : Line) (p : Poison) : (s.fillL3 n q l dirty d p).kept = s.kept := by
  simp only [State.fillL3]
  (repeat' split) <;> simp

@[simp] theorem State.homeWrite_kept (s : State) (n q l : Nat) (alloc : Bool) (d : Line) (p : Poison) :
    (s.homeWrite n q l alloc d p).kept = s.kept := by
  simp only [State.homeWrite]
  (repeat' split) <;> simp

@[simp] theorem State.patchLine_kept (s : State) (l : Nat) (d : Line) (p : Poison) : (s.patchLine l d p).kept = s.kept := by simp [State.patchLine]

@[simp] theorem State.coherentWriteLine_kept (s : State) (l : Nat) (d : Line) (p : Poison) :
    (s.coherentWriteLine l d p).kept = s.kept := by simp [State.coherentWriteLine]

@[simp] theorem State.coherentWrite_kept (fuel : Nat) (s : State) (a : Nat) (bs : List Byte) : (State.coherentWrite fuel s a bs).kept = s.kept := by
  induction fuel generalizing s a bs with
  | zero => rfl
  | succ n ih => unfold State.coherentWrite; split <;> simp [ih]

@[simp] theorem State.writeBytes_kept (s : State) (a : Nat) (bs : List Byte) : (s.writeBytes a bs).kept = s.kept := by simp [State.writeBytes]

/-! ### Machine/Xlate.lean -/

@[simp] theorem State.startWalk_kept (s : State) (h : Nat) (va : Word) (k : AccKind) (spec : Bool) :
    (s.startWalk h va k spec).kept = s.kept := by simp [State.startWalk]

@[simp] theorem State.walkFault_kept (s : State) (h : Nat) (wk : Walk) (e : Exc) : (s.walkFault h wk e).kept = s.kept := by simp [State.walkFault]
@[simp] theorem State.logPtePoison_kept (s : State) (h a : Nat) : (s.logPtePoison h a).kept = s.kept := by simp [State.logPtePoison]

@[simp] theorem fenceOp_kept (s : State) (h : Nat) (k : FenceKind) (sel : Hart → TlbEnt → Bool) : (fenceOp s h k sel).kept = s.kept :=
  State.instr_kept _ _ _ fun s => by split <;> simp

theorem execSfenceVma_keeps (h : Nat) (va : Option Word) (asid : Option Nat) (s : State) :
    Keeps s (execSfenceVma h va asid s) := by simp [execSfenceVma]

theorem execHfenceVvma_keeps (h : Nat) (va : Option Word) (asid : Option Nat) (s : State) :
    Keeps s (execHfenceVvma h va asid s) := by simp [execHfenceVvma]

theorem execHfenceGvma_keeps (h : Nat) (gpa : Option Word) (vmid : Option Nat) (s : State) :
    Keeps s (execHfenceGvma h gpa vmid s) := by simp [execHfenceGvma]

/-! ### Machine/Coherence.lean -/

@[simp] theorem State.putHart_kept (s : State) (h : Nat) (x : Hart) : (s.putHart h x).kept = s.kept := by simp [State.putHart]

@[simp] theorem State.countStream_kept (s : State) (n : Option Nat) : (s.countStream n).kept = s.kept := by
  unfold State.countStream
  split <;> simp

@[simp] theorem State.countDemoted_kept (s : State) (n : Option Nat) : (s.countDemoted n).kept = s.kept := by
  unfold State.countDemoted
  split <;> simp

@[simp] theorem State.request_kept (s : State) (h : Nat) (opc : Opc) (st : MissSt) (dst l misc : Nat) (spec fetch : Bool) (data : Line)
    (ws : List Waiter) :
    (s.request h opc st dst l misc spec fetch data ws).kept = s.kept := by simp [State.request]

@[simp] theorem State.access_kept (s : State) (h : Nat) (f : State → State) (hf : ∀ s, (f s).kept = s.kept) :
    (s.access h f).kept = s.kept := by simp [State.access, hf]

@[simp] theorem State.consumePoison_kept (s : State) (h a : Nat) (k : AccKind) (va : Word) :
    (s.consumePoison h a k va).kept = s.kept := by simp [State.consumePoison]

@[simp] theorem State.perform_kept (s : State) (h : Nat) (w : Waiter) : (s.perform h w).kept = s.kept := by
  simp only [State.perform]
  (repeat' split) <;> simp

@[simp] theorem State.performAll_kept (s : State) (h l : Nat) (ws : List Waiter) : (s.performAll h l ws).kept = s.kept := by
  induction ws generalizing s with
  | nil => rfl
  | cons w rest ih => unfold State.performAll; (repeat' split) <;> simp [ih]

@[simp] theorem State.answerSnoop_kept (s : State) (m : CohMsg) : (s.answerSnoop m).kept = s.kept := by
  simp only [State.answerSnoop, State.sendCoh_kept]
  refine foldl_frame (fun r : State × _ => r.1.kept) _ _ _ fun r c => ?_
  simp

@[simp] theorem State.noteHeld_kept (s : State) (m : CohMsg) (k : Nat) : (s.noteHeld m k).kept = s.kept := by
  unfold State.noteHeld
  split <;> simp

@[simp] theorem snoopArrives_kept (s : State) (m : CohMsg) : (snoopArrives s m).kept = s.kept := by
  simp only [snoopArrives]
  (repeat' split) <;> simp

@[simp] theorem State.logFilter_kept (s : State) (u : Upset) (m : CohMsg) : (s.logFilter u m).kept = s.kept := by
  unfold State.logFilter
  (repeat' split) <;> simp

@[simp] theorem snoopFiltered_kept (u : Upset) (s : State) (m : CohMsg) : (snoopFiltered u s m).kept = s.kept := by simp [snoopFiltered]
theorem execSnps_keeps (m : CohMsg) (u : Upset) (s : State) : Keeps s (execSnps m u s) := by simp [execSnps]
theorem execSnpi_keeps (m : CohMsg) (u : Upset) (s : State) : Keeps s (execSnpi m u s) := by simp [execSnpi]
theorem execSnpbi_keeps (m : CohMsg) (u : Upset) (s : State) : Keeps s (execSnpbi m u s) := by simp [execSnpbi]
@[simp] theorem State.releaseSnoops_kept (s : State) (h : Nat) : (s.releaseSnoops h).kept = s.kept := by simp [State.releaseSnoops]
@[simp] theorem holdWindowEnd_kept (s : State) (h l : Nat) : (holdWindowEnd s h l).kept = s.kept := by simp [holdWindowEnd]

@[simp] theorem lrSnoopDeferExpiry_kept (s : State) (h : Nat) : (lrSnoopDeferExpiry s h).kept = s.kept := by
  unfold lrSnoopDeferExpiry
  split <;> simp

@[simp] theorem State.logUnexpected_kept (s : State) (m : CohMsg) : (s.logUnexpected m).kept = s.kept := by simp [State.logUnexpected]

@[simp] theorem State.sendSnoops_kept (s : State) (n l : Nat) (opc : Opc) (targets : List (Nat × Nat)) (req : CohMsg) :
    (s.sendSnoops n l opc targets req).2.kept = s.kept :=
  foldl_frame (fun r : _ × State => r.2.kept) _ _ _ fun r d => by simp

@[simp] theorem State.sendAnswer_kept (s : State) (req m : CohMsg) : (s.sendAnswer req m).kept = s.kept := by simp [State.sendAnswer]

@[simp] theorem State.grantWith_kept (s : State) (n : Nat) (x : Txn) (d : Line × Poison) : (s.grantWith n x d).kept = s.kept := by
  simp only [State.grantWith]
  (repeat' split) <;> simp

@[simp] theorem State.advance_kept (fuel : Nat) (s : State) (n l : Nat) : (State.advance fuel s n l).kept = s.kept := by
  induction fuel generalizing s l with
  | zero => rfl
  | succ n ih => unfold State.advance; (repeat' split) <;> simp [ih]

@[simp] theorem State.kickReads_kept (s : State) (n : Nat) : (s.kickReads n).kept = s.kept := by simp [State.kickReads]

@[simp] theorem homeRequest_kept (s : State) (m : CohMsg) : (homeRequest s m).kept = s.kept := by
  simp only [homeRequest]
  (repeat' split) <;> simp

theorem execRds_keeps (m : Met CohMsg) (s : State) : Keeps s (execRds m s) := by simp [execRds]
theorem execRdu_keeps (m : Met CohMsg) (s : State) : Keeps s (execRdu m s) := by simp [execRdu]
theorem execUpg_keeps (m : Met CohMsg) (s : State) : Keeps s (execUpg m s) := by simp [execUpg]
theorem execAmof_keeps (m : Met CohMsg) (s : State) : Keeps s (execAmof m s) := by simp [execAmof]

@[simp] theorem State.begin_kept (s : State) (n : Nat) (w : Waiting) (ent : Option DirEnt) (plan : Option (Opc × List (Nat × Nat)))
    (way : Option Nat) :
    (s.begin n w ent plan way).kept = s.kept := by
  unfold State.begin
  split <;> simp

@[simp] theorem State.recall_kept (s : State) (n l : Nat) (opc : Opc) (qid : Nat) (secure : Bool) (targets : List (Nat × Nat)) (wants : Option Nat) :
    (s.recall n l opc qid secure targets wants).kept = s.kept := by simp [State.recall]

@[simp] theorem State.recallPorts_kept (s : State) (l : Nat) (clean : Bool) (ds : List (Nat × Nat)) : (s.recallPorts l clean ds).kept = s.kept := by
  simp only [State.recallPorts]
  (repeat' split) <;> simp

@[simp] theorem State.beginEvicting_kept (s : State) (n : Nat) (w : Waiting) (k : Nat) (v : DirEnt) :
    (s.beginEvicting n w k v).kept = s.kept := by simp [State.beginEvicting]

@[simp] theorem transactionStart_kept (s : State) (n l : Nat) : (transactionStart s n l).kept = s.kept := by
  simp only [transactionStart]
  (repeat' split) <;> simp

@[simp] theorem State.recoverDir_kept (s : State) (n l : Nat) : (s.recoverDir n l).kept = s.kept := by
  unfold State.recoverDir
  split <;> simp

@[simp] theorem State.homeUpset_kept (s : State) (n l : Nat) (u : Upset) : (s.homeUpset n l u).1.kept = s.kept := by
  unfold State.homeUpset
  (repeat' split) <;> simp

theorem execTransactionStart_keeps (slice line : Nat) (u : Upset) (s : State) :
    Keeps s (execTransactionStart slice line u s) := by simp [execTransactionStart]

@[simp] theorem State.takeResponse_kept (s : State) (n : Nat) (x : Txn) (o : SnoopOut) (kind : Opc) (have_ : Bool) (d : Option (Line × Poison)) :
    (s.takeResponse n x o kind have_ d).kept = s.kept := by
  unfold State.takeResponse
  split <;> simp

@[simp] theorem responseArrives_kept (s : State) (m : CohMsg) : (responseArrives s m).kept = s.kept := by
  simp only [responseArrives]
  (repeat' split) <;> simp

theorem execRspi_keeps (m : Met CohMsg) (s : State) : Keeps s (execRspi m s) := by simp [execRspi]
theorem execRsps_keeps (m : Met CohMsg) (s : State) : Keeps s (execRsps m s) := by simp [execRsps]
theorem execRspd_keeps (m : Met CohMsg) (s : State) : Keeps s (execRspd m s) := by simp [execRspd]
theorem execRspx_keeps (m : Met CohMsg) (s : State) : Keeps s (execRspx m s) := by simp [execRspx]

@[simp] theorem leavingArrives_kept (s : State) (m : CohMsg) : (leavingArrives s m).kept = s.kept := by
  simp only [leavingArrives]
  (repeat' split) <;> simp

theorem execWbd_keeps (m : Met CohMsg) (s : State) : Keeps s (execWbd m s) := by simp [execWbd]
theorem execEvc_keeps (m : Met CohMsg) (s : State) : Keeps s (execEvc m s) := by simp [execEvc]

@[simp] theorem cmpackArrives_kept (s : State) (m : CohMsg) : (cmpackArrives s m).kept = s.kept := by
  unfold cmpackArrives
  split <;> simp

theorem execCmpack_keeps (m : Met CohMsg) (s : State) : Keeps s (execCmpack m s) := by simp [execCmpack]
@[simp] theorem State.sendAck_kept (s : State) (m : CohMsg) : (s.sendAck m).kept = s.kept := by simp [State.sendAck]

@[simp] theorem State.failWalk_kept (s : State) (h : Nat) : (s.failWalk h).kept = s.kept := by
  unfold State.failWalk
  split <;> simp

@[simp] theorem State.failWaiters_kept (s : State) (h : Nat) (ws : List Waiter) : (s.failWaiters h ws).kept = s.kept := by
  unfold State.failWaiters
  split <;> simp

@[simp] theorem State.useOnce_kept (s : State) (h : Nat) (m : CohMsg) (ms : Miss) : (s.useOnce h m ms).kept = s.kept := by
  unfold State.useOnce
  (repeat' split) <;> simp

@[simp] theorem State.startHold_kept (s : State) (h l : Nat) : (s.startHold h l).kept = s.kept := by simp [State.startHold]
@[simp] theorem State.returnGrant_kept (s : State) (m : CohMsg) : (s.returnGrant m).kept = s.kept := by simp [State.returnGrant]

@[simp] theorem datTaken_kept (s : State) (m : CohMsg) : (datTaken s m).kept = s.kept := by
  simp only [datTaken]
  (repeat' split) <;> simp

@[simp] theorem datArrives_kept (s : State) (m : CohMsg) : (datArrives s m).kept = s.kept := by simp [datArrives]
theorem execDat_keeps (m : CohMsg) (u : Upset) (s : State) : Keeps s (execDat m u s) := by simp [execDat]

@[simp] theorem cmpArrives_kept (s : State) (m : CohMsg) : (cmpArrives s m).kept = s.kept := by
  unfold cmpArrives
  extract_lets t u _ h x v own
  have hu : u.kept = s.kept := (t.noteAt_kept ..).trans (s.takeCoh_kept m)
  have hv : v.kept = s.kept := (u.modHart_kept ..).trans hu
  clear_value v u
  split
  · simpa using hu
  · split
    · simpa using hu
    · split
      · simpa using hu
      · split
        · split <;> simpa using hu
        · extract_lets idx held owned acked noted holding
          have hacked : acked.kept = s.kept := by simp [acked, owned, held, hv]
          have hholding : holding.kept = s.kept := by simp [holding, noted, hacked]
          simp [hv, hholding]

theorem execCmp_keeps (m : Met CohMsg) (s : State) : Keeps s (execCmp m s) := by simp [execCmp]

@[simp] theorem State.dropOwner_kept (s : State) (n : Nat) (node : Nat) (core : Option Nat) :
    (s.dropOwner n node core).kept = s.kept := by simp [State.dropOwner]

@[simp] theorem State.dropSnoops_kept (s : State) (n node : Nat) (core : Option Nat) : (s.dropSnoops n node core).kept = s.kept := by
  refine foldl_kept _ _ _ fun s p => ?_
  split
  · rfl
  · split <;> simp

@[simp] theorem State.loseHolder_kept (s : State) (node : Nat) (core : Option Nat) :
    (s.loseHolder node core).kept = s.kept := by simp [State.loseHolder]

@[simp] theorem snoopTimeout_kept (s : State) (n l node core : Nat) : (snoopTimeout s n l node core).kept = s.kept := by
  unfold snoopTimeout
  (repeat' split) <;> simp

@[simp] theorem ackTimeout_kept (s : State) (n l : Nat) : (ackTimeout s n l).kept = s.kept := by
  unfold ackTimeout
  split <;> simp

/-! ### Machine/Walk.lean -/

@[simp] theorem State.missFor_kept (s : State) (h l : Nat) (opc : Opc) (st : MissSt) (spec fetch : Bool) (w : Waiter) :
    (s.missFor h l opc st spec fetch w).kept = s.kept := by simp [State.missFor]

@[simp] theorem State.walkMiss_kept (s : State) (h l : Nat) (own spec : Bool) : (s.walkMiss h l own spec).kept = s.kept := by simp [State.walkMiss]

@[simp] theorem State.walkFill_kept (s : State) (h : Nat) (wk : Walk) (k : AccKind) (v : Bool) (e : TlbEnt) :
    (s.walkFill h wk k v e).kept = s.kept := by
  simp only [State.walkFill]
  (repeat' split) <;> simp

@[simp] theorem pageWalk_kept (s : State) (h : Nat) : (pageWalk s h).kept = s.kept := by
  simp only [pageWalk]
  (repeat' split) <;> simp

theorem execPageWalk_keeps (h : Nat) (s : State) : Keeps s (execPageWalk h s) := by simp [execPageWalk]

theorem State.lockWaits_kept {s t : State} {h : Nat} {v : Word} (e : s.lockWaits h v = some t) : t.kept = s.kept := by
  unfold State.lockWaits at e
  split at e
  · cases e
    simp
  · obtain ⟨l, -, rfl⟩ := Option.map_eq_some_iff.mp e
    simp
  · cases e

@[simp] theorem tlbLock_kept (s : State) (h : Nat) (v : Word) : (tlbLock s h v).kept = s.kept := by
  unfold tlbLock
  split <;> simp

@[simp] theorem tlbUnlock_kept (s : State) (h : Nat) (v : Word) : (tlbUnlock s h v).kept = s.kept := by simp [tlbUnlock]
@[simp] theorem tlbQuery_kept (s : State) (h : Nat) (v : Word) : (tlbQuery s h v).kept = s.kept := by simp [tlbQuery]

@[simp] theorem lockCsr_kept (s : State) (h : Nat) (f : State → State) (hf : ∀ s, (f s).kept = s.kept) : (lockCsr s h f).kept = s.kept := by
  simp [lockCsr, hf]

@[simp] theorem State.logCsrReserved_kept (s : State) (h num : Nat) (v : Word) :
    (s.logCsrReserved h num v).kept = s.kept := by simp [State.logCsrReserved]

@[simp] theorem lockReserved_kept (s : State) (h : Nat) (v : Word) : (lockReserved s h v).kept = s.kept := by simp [lockReserved]

theorem execTlbLock_keeps (h : Nat) (v : Word) (s : State) : Keeps s (execTlbLock h v s) := by
  unfold execTlbLock
  split
  next t e =>
    split at e
    · simpa using State.lockWaits_kept e
    · cases e
  next => simp

theorem execTlbUnlock_keeps (h : Nat) (v : Word) (s : State) : Keeps s (execTlbUnlock h v s) := by simp [execTlbUnlock]
theorem execTlbQuery_keeps (h : Nat) (v : Word) (s : State) : Keeps s (execTlbQuery h v s) := by simp [execTlbQuery]

/-! ### Machine/Csr.lean -/

@[simp] theorem State.indirectWrite_kept (s : State) (h file sel : Nat) (v : Word) : (s.indirectWrite h file sel v).kept = s.kept := by
  unfold State.indirectWrite
  (repeat' split) <;> simp

@[simp] theorem State.writeWorld_kept (s : State) (h : Nat) (v : Word) : (s.writeWorld h v).kept = s.kept := by simp [State.writeWorld]
@[simp] theorem State.channelMissAs_kept (s : State) (h n flags : Nat) : (s.channelMissAs h n flags).kept = s.kept := by simp [State.channelMissAs]
@[simp] theorem State.channelMiss_kept (s : State) (h n : Nat) : (s.channelMiss h n).kept = s.kept := by simp [State.channelMiss]
@[simp] theorem State.armChannel_kept (s : State) (h n : Nat) (v : Word) : (s.armChannel h n v).kept = s.kept := by simp [State.armChannel]
@[simp] theorem State.noteSlack_kept (s : State) (h n : Nat) : (s.noteSlack h n).kept = s.kept := by simp [State.noteSlack]
@[simp] theorem State.writeDlctl_kept (s : State) (h : Nat) (v : Word) : (s.writeDlctl h v).kept = s.kept := by simp [State.writeDlctl]

@[simp] theorem State.writeLoopEnd_kept (s : State) (h level : Nat) (v : Word) :
    (s.writeLoopEnd h level v).kept = s.kept := by simp [State.writeLoopEnd]

@[simp] theorem writeTlbLock_kept (s : State) (h : Nat) (v : Word) : (writeTlbLock s h v).kept = s.kept := by
  unfold writeTlbLock
  split <;> simp

@[simp] theorem State.customWrite_kept (s : State) (h n : Nat) (v : Word) : (s.customWrite h n v).kept = s.kept := by
  unfold State.customWrite
  split <;> simp

@[simp] theorem State.claimTop_kept (s : State) (h n : Nat) : (s.claimTop h n).kept = s.kept := by
  unfold State.claimTop
  split <;> simp

@[simp] theorem State.csrWrite_kept (s : State) (h n0 : Nat) (v : Word) : (s.csrWrite h n0 v).kept = s.kept := by
  simp only [State.csrWrite]
  (repeat' split) <;> simp

@[simp] theorem State.csrValue_kept (s : State) (h n : Nat) : (s.csrValue h n).2.kept = s.kept := by simp [State.csrValue]

theorem State.csrWaits_kept {s t : State} {h n : Nat} {v : Word} (e : s.csrWaits h n v = some t) : t.kept = s.kept := by
  simp only [State.csrWaits] at e
  split at e
  · cases e
  · split at e
    · cases e
      rfl
    · split at e
      · exact State.lockWaits_kept e
      · cases e

theorem State.csrInstr_kept {s t : State} {h : Nat} {c : CsrOp} (e : s.csrInstr h c = .inr t) : t.kept = s.kept := by
  cases c <;> simp only [State.csrInstr] at e <;> split at e <;> cases e <;> simp

/-! ### Machine/Levels.lean -/

@[simp] theorem State.putCluster_kept (s : State) (c : Nat) (x : Cluster) : (s.putCluster c x).kept = s.kept := by simp [State.putCluster]
@[simp] theorem State.deriveLevels_kept (s : State) (boost : Bool) : (s.deriveLevels boost).kept = s.kept := by simp [State.deriveLevels]
@[simp] theorem State.dropP0_kept (s : State) : s.dropP0.kept = s.kept := by simp [State.dropP0]

/-! ### Machine/HartExec.lean -/

@[simp] theorem branchResolve_kept (s : State) (h : Nat) (b : Branch) : (branchResolve s h b).kept = s.kept := by simp [branchResolve]

@[simp] theorem State.confirmFetch_kept (s : State) (h : Nat) : (s.confirmFetch h).kept = s.kept := by
  simp only [State.confirmFetch]
  (repeat' split) <;> simp

theorem State.retireWaits_kept {s t : State} {h : Nat} {i : Retire} (e : s.retireWaits h i = some t) : t.kept = s.kept := by
  obtain ⟨w, -, hw⟩ := Option.bind_eq_some_iff.mp e
  exact State.csrWaits_kept hw

@[simp] theorem retireInstr_kept (s : State) (h : Nat) (i : Retire) : (retireInstr s h i).kept = s.kept := by
  simp only [retireInstr]
  split
  · simp
  · split
    · rfl
    · split
      · simp
      · split
        next t e => exact State.retireWaits_kept e
        next =>
          split
          · simp
          next t e =>
            split at e
            · simp [State.csrInstr_kept e]
            · cases e
              simp

@[simp] theorem retireUpset_kept (s : State) (h : Nat) (i : Retire) (u : Upset) : (retireUpset s h i u).kept = s.kept := by
  unfold retireUpset
  split <;> simp

theorem execInstructionRetire_keeps (h : Nat) (i : Retire) (u : Upset) (s : State) :
    Keeps s (execInstructionRetire h i u s) := by simp [execInstructionRetire]

@[simp] theorem loopSetup_kept (s : State) (h level endOff count : Nat) (range : Bool) : (loopSetup s h level endOff count range).kept = s.kept :=
  State.instr_kept _ _ _ fun s => by split <;> simp

theorem execLzLoop_keeps (h level rs1 endOff : Nat) (s : State) : Keeps s (execLzLoop h level rs1 endOff s) := by simp [execLzLoop]
theorem execLzSpecfence_keeps (h : Nat) (s : State) : Keeps s (execLzSpecfence h s) := by simp [execLzSpecfence]
theorem execFence_keeps (h : Nat) (s : State) : Keeps s (execFence h s) := by simp [execFence]
theorem execFenceI_keeps (h : Nat) (s : State) : Keeps s (execFenceI h s) := by simp [execFenceI]
theorem execTrapEntry_keeps (h cause : Nat) (tval : Word) (s : State) : Keeps s (execTrapEntry h cause tval s) := by simp [execTrapEntry]

theorem execXret_keeps (h : Nat) (kind : XretKind) (s : State) : Keeps s (execXret h kind s) :=
  Keeps.next (State.instr_kept _ _ _ fun s => by split <;> simp)

theorem execInterruptTaken_keeps (h cause : Nat) (s : State) : Keeps s (execInterruptTaken h cause s) := by
  unfold execInterruptTaken
  split <;> simp

@[simp] theorem csrRow_kept (s : State) (h n : Nat) (v : Word) : (csrRow s h n v).kept = s.kept := by
  refine State.instr_kept _ _ _ fun s => ?_
  split
  · simp
  · split
    next t e => exact State.csrWaits_kept e
    next => simp

theorem execSatpWrite_keeps (h : Nat) (csr : SatpCsr) (v : Word) (s : State) : Keeps s (execSatpWrite h csr v s) := by simp [execSatpWrite]
theorem execLzdlarmWrite_keeps (h n : Nat) (v : Word) (s : State) : Keeps s (execLzdlarmWrite h n v s) := by simp [execLzdlarmWrite]
@[simp] theorem deadlineMiss_kept (s : State) (h n : Nat) : (deadlineMiss s h n).kept = s.kept := by simp [deadlineMiss]

theorem execWfi_keeps (h : Nat) (s : State) : Keeps s (execWfi h s) :=
  Keeps.next (State.instr_kept _ _ _ fun s => by split <;> simp)

@[simp] theorem State.wakeCore_kept (s : State) (h : Nat) : (s.wakeCore h).kept = s.kept := by simp [State.wakeCore]

@[simp] theorem cStateEntryComplete_kept (s : State) (h : Nat) : (cStateEntryComplete s h).kept = s.kept := by
  simp only [cStateEntryComplete]
  (repeat' split) <;> simp

@[simp] theorem coreWake_kept (s : State) (h : Nat) (src : WakeSrc) : (coreWake s h src).kept = s.kept := by simp [coreWake]

/-! ### Machine/Mailbox.lean -/

@[simp] theorem State.slSend_kept (s : State) (p : Nat) (m : SlMsg) : (s.slSend p m).kept = s.kept := by simp [State.slSend]

@[simp] theorem State.pump_kept (fuel : Nat) (s : State) (h : Nat) : (State.pump fuel s h).kept = s.kept := by
  induction fuel generalizing s with
  | zero => rfl
  | succ n ih =>
    unfold State.pump
    split
    · rfl
    · simp [ih]

@[simp] theorem gMessageSend_kept (s : State) (n : Nat) : (gMessageSend s n).kept = s.kept := by
  simp only [gMessageSend]
  (repeat' split) <;> simp

@[simp] theorem State.undelivered_kept (s : State) (h dest : Nat) : (s.undelivered h dest).kept = s.kept := by simp [State.undelivered]
@[simp] theorem State.dropOut_kept (s : State) (h i : Nat) : (s.dropOut h i).kept = s.kept := by simp [State.dropOut]

@[simp] theorem mailboxAnswer_kept (s : State) (m : MailAns) : (mailboxAnswer s m).kept = s.kept := by
  simp only [mailboxAnswer]
  (repeat' split) <;> simp

theorem execMailboxAnswer_keeps (m : Met MailAns) (s : State) : Keeps s (execMailboxAnswer m s) := by simp [execMailboxAnswer]

@[simp] theorem mailboxResend_kept (s : State) (h dest : Nat) : (mailboxResend s h dest).kept = s.kept := by
  unfold mailboxResend
  split <;> simp

@[simp] theorem mailboxUTimeout_kept (s : State) (h dest : Nat) : (mailboxUTimeout s h dest).kept = s.kept := by
  unfold mailboxUTimeout
  split <;> simp

@[simp] theorem State.gLate_kept (s : State) (h : Nat) (e : InboxEnt) : (s.gLate h e).kept = s.kept := by simp [State.gLate]
@[simp] theorem State.inboxPut_kept (s : State) (h : Nat) (m : MailMsg) : (s.inboxPut h m).kept = s.kept := by simp [State.inboxPut]

@[simp] theorem State.answerMail_kept (s : State) (m : MailMsg) (dest : Nat) (a : Answer) :
    (s.answerMail m dest a).kept = s.kept := by simp [State.answerMail]

@[simp] theorem mailboxMessage_kept (s : State) (m : MailMsg) : (mailboxMessage s m).kept = s.kept := by
  unfold mailboxMessage
  split <;> simp

@[simp] theorem mailFlits_kept (s : State) (m : MailMsg) (u : Upset) : (mailFlits s m u).kept = s.kept := by simp [mailFlits]
@[simp] theorem State.mbSend_kept (s : State) (h rd : Nat) (buf : List Byte) : (s.mbSend h rd buf).kept = s.kept := by simp [State.mbSend]
@[simp] theorem State.pairFail_kept (s : State) (h : Nat) (y : Syndrome) : (s.pairFail h y).kept = s.kept := by simp [State.pairFail]

@[simp] theorem pairRequest_kept (s : State) (h : Nat) (odd : Bool) (r : PairCopy) : (pairRequest s h odd r).kept = s.kept := by
  simp only [pairRequest]
  (repeat' split) <;> simp

@[simp] theorem State.spend_kept (s : State) (h : Nat) : (s.spend h).kept = s.kept := by simp [State.spend]

@[simp] theorem State.released_kept (s : State) (h : Nat) (kind : PairKind) (va : Word) (pa size : Nat) (data : Option Nat) (busy : Bool)
    (f : State → State) (hf : ∀ s, (f s).kept = s.kept) :
    (s.released h kind va pa size data busy f).kept = s.kept := by
  unfold State.released
  split <;> simp [hf]

@[simp] theorem pairTimeout_kept (s : State) (h : Nat) : (pairTimeout s h).kept = s.kept := by simp [pairTimeout]

/-! ### Machine/Ctl.lean -/

@[simp] theorem State.logWrite_kept (s : State) (y : Syndrome) (who : Agent) (die block off : Nat) (v : Word) :
    (s.logWrite y who die block off v).kept = s.kept := by simp [State.logWrite]

@[simp] theorem State.whileActive_kept (s : State) (who : Agent) (die block off : Nat) (v : Word) :
    (s.whileActive who die block off v).kept = s.kept := by simp [State.whileActive]

@[simp] theorem State.reserved_kept (s : State) (who : Agent) (die block off : Nat) (v : Word) (own : Nat) :
    (s.reserved who die block off v own).kept = s.kept := by simp [State.reserved]

@[simp] theorem State.noteWorld_kept (s : State) (h a : Nat) : (s.noteWorld h a).kept = s.kept := by simp [State.noteWorld]
@[simp] theorem State.ctlFault_kept (s : State) (h : Nat) (write : Bool) (a : Nat) : (s.ctlFault h write a).kept = s.kept := by simp [State.ctlFault]
@[simp] theorem State.logUnmapped_kept (s : State) (node a q : Nat) : (s.logUnmapped node a q).kept = s.kept := by simp [State.logUnmapped]

@[simp] theorem State.refuse_kept (s : State) (who : Agent) (write : Bool) (a : Nat) : (s.refuse who write a).kept = s.kept := by
  unfold State.refuse
  split <;> simp

@[simp] theorem State.asAgent_kept (s : State) (who : Agent) (f : State → State) (hf : ∀ s, (f s).kept = s.kept) :
    (s.asAgent who f).kept = s.kept := by
  unfold State.asAgent
  split <;> simp [hf]

@[simp] theorem State.readReg_kept (s : State) (h rd a : Nat) (ok : State → Bool) (value : State → Word) (effect : State → State)
    (heffect : ∀ s, (effect s).kept = s.kept) :
    (s.readReg h rd a ok value effect).kept = s.kept :=
  State.access_kept _ _ _ fun s => by simp [heffect]

@[simp] theorem State.notifyQuire_kept (s : State) (q : Nat) : (s.notifyQuire q).kept = s.kept := by
  unfold State.notifyQuire
  split <;> simp

@[simp] theorem State.alert_kept (s : State) (i : Nat) : (s.alert i).kept = s.kept := by simp [State.alert]

@[simp] theorem State.partnerAct_kept (s : State) (kind n : Nat) : (s.partnerAct kind n).kept = s.kept := by
  unfold State.partnerAct
  split <;> simp

@[simp] theorem State.demote_kept (s : State) (n : Nat) : (s.demote n).kept = s.kept := by simp [State.demote]
@[simp] theorem State.demoteWhere_kept (s : State) (p : GStream → Bool) : (s.demoteWhere p).kept = s.kept := by simp [State.demoteWhere]

/-! ### Machine/Check.lean -/

@[simp] theorem State.logCheck_kept (s : State) (y : Syndrome) (u q : Nat) (sq : Option Nat) :
    (s.logCheck y u q sq).kept = s.kept := by simp [State.logCheck]

@[simp] theorem State.logOcu_kept (s : State) (y : Syndrome) (who : Agent) (u reg : Nat) (v : Word) :
    (s.logOcu y who u reg v).kept = s.kept := by simp [State.logOcu]

@[simp] theorem writeOcu_kept (s : State) (who : Agent) (u reg : Nat) (v : Word) : (writeOcu s who u reg v).kept = s.kept := by
  unfold writeOcu
  (repeat' split) <;> simp

@[simp] theorem writeCommit_kept (s : State) (who : Agent) (u : Nat) (v : Word) : (writeCommit s who u v).kept = s.kept := by simp [writeCommit]
theorem execOcuCommit_keeps (h u : Nat) (v : Word) (s : State) : Keeps s (execOcuCommit h u v s) := by simp [execOcuCommit]

/-! ### Machine/QeOps.lean -/

@[simp] theorem State.whenFree_kept (s : State) (rs : List (Bool × Nat × Nat)) (go : State → State) (hgo : ∀ s, (go s).kept = s.kept) :
    (s.whenFree rs go).kept = s.kept := by
  simp only [State.whenFree]
  split
  · rfl
  · split <;> simp [hgo]

@[simp] theorem State.noteEngine_kept (s : State) (node : Nat) : (s.noteEngine node).kept = s.kept := by
  unfold State.noteEngine
  split <;> simp

@[simp] theorem State.noteReads_kept (fuel : Nat) (s : State) (node a n : Nat) : (State.noteReads fuel s node a n).kept = s.kept := by
  induction fuel generalizing s a n with
  | zero => rfl
  | succ k ih => simp [State.noteReads, ih]

@[simp] theorem State.busRead_kept (s : State) (node a n : Nat) : (s.busRead node a n).2.2.kept = s.kept := by
  unfold State.busRead
  split <;> simp

@[simp] theorem State.putPiece_kept (s : State) (node a : Nat) (bs : List Byte) (poison : Poison) :
    (s.putPiece node a bs poison).1.kept = s.kept := by simp [State.putPiece]

@[simp] theorem State.putBytes_kept (fuel : Nat) (s : State) (node a : Nat) (bs : List Byte) (poison : Bool) (n : Nat) :
    (State.putBytes fuel s node a bs poison n).1.kept = s.kept := by
  induction fuel generalizing s a bs n with
  | zero => rfl
  | succ k ih => simp [State.putBytes, ih]

@[simp] theorem State.put_kept (s : State) (node a : Nat) (bs : List Byte) (poison : Bool) :
    (s.put node a bs poison).1.kept = s.kept := by simp [State.put]

@[simp] theorem State.logQe_kept (s : State) (y : Syndrome) (q : Nat) (v : Option Nat) (a : Option Nat) :
    (s.logQe y q v a).kept = s.kept := by simp [State.logQe]

@[simp] theorem State.queueError_kept (s : State) (q err : Nat) : (s.queueError q err).kept = s.kept := by simp [State.queueError]
@[simp] theorem State.loadCtx_kept (s : State) (q : Nat) : (s.loadCtx q).kept = s.kept := by simp [State.loadCtx]
@[simp] theorem State.cqMsi_kept (s : State) (q : Nat) : (s.cqMsi q).kept = s.kept := by simp [State.cqMsi]
@[simp] theorem State.sqDoorbell_kept (s : State) (q : Nat) (v : BitVec 32) : (s.sqDoorbell q v).kept = s.kept := by simp [State.sqDoorbell]
@[simp] theorem State.cqDoorbell_kept (s : State) (q : Nat) (v : BitVec 32) : (s.cqDoorbell q v).kept = s.kept := by simp [State.cqDoorbell]
@[simp] theorem State.doorbell_kept (s : State) (q : Nat) (v : BitVec 32) : (s.doorbell q v).kept = s.kept := by simp [State.doorbell]

@[simp] theorem State.doorbellStore_kept (s : State) (q off size : Nat) (v : Word) :
    (s.doorbellStore q off size v).kept = s.kept := by simp [State.doorbellStore]

@[simp] theorem State.modFlight_kept (s : State) (d : DescRef) (g : Flight → Flight) : (s.modFlight d g).kept = s.kept := by simp [State.modFlight]

@[simp] theorem State.finish_kept (s : State) (d : DescRef) (status len : Nat) (result : Nat) :
    (s.finish d status len result).kept = s.kept := by simp [State.finish]

@[simp] theorem State.laneRange_kept (s : State) (lane : Nat) (f : Flight) (k : AccKind) (a n : Nat) :
    (s.laneRange lane f k a n).1.kept = s.kept := by
  unfold State.laneRange
  split <;> simp

@[simp] theorem State.qeMiss_kept (s : State) (y : Syndrome) (lane : Nat) (f : Flight) : (s.qeMiss y lane f).kept = s.kept := by simp [State.qeMiss]
@[simp] theorem State.retireFlight_kept (s : State) (d : DescRef) : (s.retireFlight d).kept = s.kept := by simp [State.retireFlight]
@[simp] theorem State.cqDropped_kept (s : State) (cq q : Nat) : (s.cqDropped cq q).kept = s.kept := by simp [State.cqDropped]

@[simp] theorem State.postEntry_kept (s : State) (d : DescRef) (f : Flight) (cq : Nat) :
    (s.postEntry d f cq).kept = s.kept := by simp [State.postEntry]

@[simp] theorem State.complete_kept (s : State) (d : DescRef) (f : Flight) : (s.complete d f).kept = s.kept := by simp [State.complete]

@[simp] theorem descriptorComplete_kept (s : State) (d : DescRef) : (descriptorComplete s d).kept = s.kept := by
  unfold descriptorComplete
  split <;> simp

@[simp] theorem State.squash_kept (s : State) (p : Flight → Bool) : (s.squash p).kept = s.kept := by simp [State.squash]

/-! ### Machine/SysLink.lean -/

@[simp] theorem State.logSl_kept (s : State) (y : Syndrome) (p : Nat) : (s.logSl y p).kept = s.kept := by simp [State.logSl]
@[simp] theorem State.slServe_kept (s : State) (p : Nat) : (s.slServe p).kept = s.kept := by simp [State.slServe]
@[simp] theorem State.slAnswered_kept (s : State) (r : SlReq) (reason : Nat) : (s.slAnswered r reason).kept = s.kept := by simp [State.slAnswered]
@[simp] theorem State.slPeerGone_kept (s : State) (p : Nat) : (s.slPeerGone p).kept = s.kept := by simp [State.slPeerGone]
@[simp] theorem State.slDemote_kept (s : State) (p : Nat) : (s.slDemote p).kept = s.kept := by simp [State.slDemote]
@[simp] theorem State.logNoRoute_kept (s : State) (dest : Nat) : (s.logNoRoute dest).kept = s.kept := by simp [State.logNoRoute]

theorem State.slSendTo_kept (s : State) (m : SlMsg) : Sum.elim (fun t => t.kept = s.kept) (fun r => r.1.kept = s.kept) (s.slSendTo m) := by
  unfold State.slSendTo
  split <;> simp

@[simp] theorem State.slDataIn_kept (s : State) (r : SlReq) (m : SlMsg) : (s.slDataIn r m).kept = s.kept := by
  unfold State.slDataIn
  split <;> simp

@[simp] theorem State.slAnswerIn_kept (s : State) (m : SlMsg) : (s.slAnswerIn m).kept = s.kept := by
  unfold State.slAnswerIn
  split <;> simp

@[simp] theorem State.slAnswer_kept (s : State) (m : SlMsg) (status : Nat) (poison : Bool) (body : List Byte) :
    (s.slAnswer m status poison body).kept = s.kept := by
  simp only [State.slAnswer]
  split
  · simp
  · have hsent := s.slSendTo_kept { s.slNew (m.kind + 1) m.srcPkg m.tag m.secure body with status := status, poison := poison }
    split <;> simp_all

@[simp] theorem State.slForward_kept (s : State) (p : Nat) (m : SlMsg) : (s.slForward p m).kept = s.kept := by
  simp only [State.slForward]
  split
  · split <;> simp
  · have hsent := s.slSendTo_kept { m with hops := m.hops - 1 }
    split <;> simp_all

@[simp] theorem State.slTake_kept (s : State) (p : Nat) (m : SlMsg) : (s.slTake p m).kept = s.kept := by simp [State.slTake]

@[simp] theorem State.slHandle_kept (s : State) (p : Nat) (m : SlMsg) (f : State → State) (hf : ∀ s, (f s).kept = s.kept) :
    (s.slHandle p m f).kept = s.kept := by
  unfold State.slHandle
  (repeat' split) <;> simp [hf]

@[simp] theorem State.slDrop_kept (s : State) (p : Nat) (retrain : Bool) : (s.slDrop p retrain).kept = s.kept := by simp [State.slDrop]
theorem execSlLinkDown_keeps (p : Nat) (retrain : Bool) (s : State) : Keeps s (execSlLinkDown p retrain s) := by simp [execSlLinkDown]
@[simp] theorem State.slAccept_kept (s : State) (p : Nat) (f : SlFlit) : (s.slAccept p f).kept = s.kept := by simp [State.slAccept]
@[simp] theorem linkFlit_kept (s : State) (p : Nat) (f : SlFlit) : (linkFlit s p f).kept = s.kept := by simp [linkFlit]
@[simp] theorem replay_kept (s : State) (p : Nat) : (replay s p).kept = s.kept := by simp [replay]
@[simp] theorem slLinkUp_kept (s : State) (p width : Nat) (fullRate : Bool) : (slLinkUp s p width fullRate).kept = s.kept := by simp [slLinkUp]
theorem execSlLinkUp_keeps (p : Nat) (rate : LinkRate) (s : State) : Keeps s (execSlLinkUp p rate s) := by simp [execSlLinkUp]

@[simp] theorem linkInit_kept (s : State) (p : Nat) (m : SlMsg) : (linkInit s p m).kept = s.kept := by
  simp only [linkInit]
  (repeat' split) <;> simp

theorem execLinkInit_keeps (p : Nat) (m : SlMsg) (s : State) : Keeps s (execLinkInit p m s) := by simp [execLinkInit]
@[simp] theorem State.slLeave_kept (s : State) (p : Nat) (st : PeerSt) : (s.slLeave p st).kept = s.kept := by simp [State.slLeave]
@[simp] theorem rip_kept (s : State) (p : Nat) : (rip s p).kept = s.kept := by simp [rip]
@[simp] theorem peerHeartbeatTimeout_kept (s : State) (p : Nat) : (peerHeartbeatTimeout s p).kept = s.kept := by simp [peerHeartbeatTimeout]
@[simp] theorem peerResetTimeout_kept (s : State) (p : Nat) : (peerResetTimeout s p).kept = s.kept := by simp [peerResetTimeout]
@[simp] theorem heartbeatSend_kept (s : State) (p : Nat) : (heartbeatSend s p).kept = s.kept := by simp [heartbeatSend]
@[simp] theorem State.slFlushWaiting_kept (s : State) (p : Nat) : (s.slFlushWaiting p).kept = s.kept := by simp [State.slFlushWaiting]
@[simp] theorem heartbeat_kept (s : State) (p : Nat) (m : SlMsg) (t4 : Nat) : (heartbeat s p m t4).kept = s.kept := by simp [heartbeat]
theorem execHeartbeat_keeps (p : Nat) (m : SlMsg) (t4 : Nat) (s : State) : Keeps s (execHeartbeat p m t4 s) := by simp [execHeartbeat]
@[simp] theorem gMsg_kept (s : State) (p : Nat) (m : SlMsg) : (gMsg s p m).kept = s.kept := by simp [gMsg]
theorem execGMsg_keeps (p : Nat) (m : SlMsg) (s : State) : Keeps s (execGMsg p m s) := by simp [execGMsg]

@[simp] theorem State.remoteDenied_kept (s : State) (p : Nat) (m : SlMsg) (write : Bool) (len : Nat) :
    (s.remoteDenied p m write len).kept = s.kept := by
  simp only [State.remoteDenied]
  (repeat' split) <;> simp

@[simp] theorem slWriteIn_kept (s : State) (p : Nat) (m : SlMsg) : (slWriteIn s p m).kept = s.kept := by
  simp only [slWriteIn]
  (repeat' split) <;> simp

theorem execWrite_keeps (p : Nat) (m : SlMsg) (s : State) : Keeps s (execWrite p m s) := by simp [execWrite]

@[simp] theorem slReadIn_kept (s : State) (p : Nat) (m : SlMsg) : (slReadIn s p m).kept = s.kept := by
  simp only [slReadIn]
  (repeat' split) <;> simp

theorem execReadReq_keeps (p : Nat) (m : SlMsg) (s : State) : Keeps s (execReadReq p m s) := by simp [execReadReq]
theorem execWriteAck_keeps (p : Nat) (m : SlMsg) (s : State) : Keeps s (execWriteAck p m s) := by simp [execWriteAck]
theorem execReadData_keeps (p : Nat) (m : SlMsg) (s : State) : Keeps s (execReadData p m s) := by simp [execReadData]
theorem execSendAck_keeps (p : Nat) (m : SlMsg) (s : State) : Keeps s (execSendAck p m s) := by simp [execSendAck]

@[simp] theorem State.slSegment_kept (s : State) (m : SlMsg) (r : SlRecv) : (s.slSegment m r).kept = s.kept := by
  simp only [State.slSegment]
  (repeat' split) <;> simp

@[simp] theorem slSendIn_kept (s : State) (m : SlMsg) : (slSendIn s m).kept = s.kept := by
  simp only [slSendIn]
  (repeat' split) <;> simp

@[simp] theorem State.slLocal_kept (s : State) (p : Nat) (m : SlMsg) : (s.slLocal p m).kept = s.kept := by
  unfold State.slLocal
  split <;> simp

theorem execSend_keeps (p : Nat) (m : SlMsg) (s : State) : Keeps s (execSend p m s) := by simp [execSend]
theorem execSlStatRead_keeps (h p rd : Nat) (s : State) : Keeps s (execSlStatRead h p rd s) := by simp [execSlStatRead]
@[simp] theorem writeSlCtl_kept (s : State) (who : Agent) (p : Nat) (v : Word) : (writeSlCtl s who p v).kept = s.kept := by simp [writeSlCtl]
theorem execReadmit_keeps (h p : Nat) (s : State) : Keeps s (execReadmit h p s) := by simp [execReadmit]
@[simp] theorem State.slWakeDeliver_kept (s : State) : s.slWakeDeliver.kept = s.kept := by simp [State.slWakeDeliver]

/-! ### Machine/Queue.lean -/

@[simp] theorem writeDoorbell_kept (s : State) (who : Agent) (q off size : Nat) (v : Word) : (writeDoorbell s who q off size v).kept = s.kept := by
  unfold writeDoorbell
  split <;> simp

theorem execDoorbellWrite_keeps (who : Agent) (q off size : Nat) (v : Word) (s : State) :
    Keeps s (execDoorbellWrite who q off size v s) := by simp [execDoorbellWrite]

theorem execDoorbellRead_keeps (h q off size rd : Nat) (s : State) : Keeps s (execDoorbellRead h q off size rd s) := by simp [execDoorbellRead]
@[simp] theorem State.ringFault_kept (s : State) (lane q a : Nat) : (s.ringFault lane q a).kept = s.kept := by simp [State.ringFault]
@[simp] theorem State.fetchFrom_kept (s : State) (lane q : Nat) : (s.fetchFrom lane q).kept = s.kept := by simp [State.fetchFrom]

@[simp] theorem descriptorFetch_kept (s : State) (lane : Nat) : (descriptorFetch s lane).kept = s.kept := by
  unfold descriptorFetch
  (repeat' split) <;> simp

@[simp] theorem State.rangesOk_kept (s : State) (lane : Nat) (f : Flight) : (s.rangesOk lane f).1.kept = s.kept := by
  simp only [State.rangesOk]
  (repeat' split) <;> simp

@[simp] theorem State.startChecked_kept (s : State) (d : DescRef) (f : Flight) : (s.startChecked d f).kept = s.kept := by simp [State.startChecked]
@[simp] theorem State.judge_kept (s : State) (d : DescRef) (f : Flight) : (s.judge d f).kept = s.kept := by simp [State.judge]

@[simp] theorem descriptorStart_kept (s : State) (d : DescRef) : (descriptorStart s d).kept = s.kept := by
  unfold descriptorStart
  split <;> simp

@[simp] theorem State.refuseOp_kept (s : State) (d : DescRef) (f : Flight) : (s.refuseOp d f).kept = s.kept := by
  simp only [State.refuseOp]
  (repeat' split) <;> simp

@[simp] theorem State.actOn_kept (s : State) (d : DescRef) (f : Flight) (go : State → Flight → State) (hgo : ∀ s a, (go s a).kept = s.kept) :
    (s.actOn d f go).kept = s.kept := by
  simp [State.actOn, hgo]

@[simp] theorem State.runOp_kept (s : State) (d : DescRef) (op : Nat) (go : State → Flight → State) (hgo : ∀ s a, (go s a).kept = s.kept) :
    (s.runOp d op go).kept = s.kept := by
  unfold State.runOp
  split
  · rfl
  · split
    · rfl
    · exact State.whenFree_kept _ _ _ fun s => by simp [hgo]

theorem execNop_keeps (d : DescRef) (s : State) : Keeps s (execNop d s) := by simp [execNop]

@[simp] theorem State.copyFrom_kept (fuel : Nat) (s : State) (node src dst n done : Nat) (poison : Bool) :
    (State.copyFrom fuel s node src dst n done poison).1.kept = s.kept := by
  induction fuel generalizing s src dst n done poison with
  | zero => rfl
  | succ k ih => simp [State.copyFrom, ih]

theorem execCopy_keeps (d : DescRef) (s : State) : Keeps s (execCopy d s) := by simp [execCopy]
theorem execFill_keeps (d : DescRef) (s : State) : Keeps s (execFill d s) := by simp [execFill]
theorem execCheckAppend_keeps (d : DescRef) (s : State) : Keeps s (execCheckAppend d s) := by simp [execCheckAppend]

@[simp] theorem State.logVerdict_kept (s : State) (u q sq verdict gap : Nat) : (s.logVerdict u q sq verdict gap).kept = s.kept := by
  unfold State.logVerdict
  split <;> simp

theorem execCheckVerify_keeps (d : DescRef) (s : State) : Keeps s (execCheckVerify d s) := by
  simp [execCheckVerify]

theorem execCheckReadout_keeps (d : DescRef) (s : State) : Keeps s (execCheckReadout d s) := by simp [execCheckReadout]
@[simp] theorem State.tsnSend_kept (s : State) (d : DescRef) (f : Flight) : (s.tsnSend d f).kept = s.kept := by simp [State.tsnSend]
theorem execTsnTx_keeps (d : DescRef) (s : State) : Keeps s (execTsnTx d s) := by simp [execTsnTx]
theorem execTsnRx_keeps (d : DescRef) (s : State) : Keeps s (execTsnRx d s) := by simp [execTsnRx]

@[simp] theorem State.slBegin_kept (s : State) (d : DescRef) (dest : Nat) (f : Flight) (go : State → Option Nat → State)
    (hgo : ∀ s a, (go s a).kept = s.kept) :
    (s.slBegin d dest f go).kept = s.kept := by
  unfold State.slBegin
  (repeat' split) <;> simp [hgo]

@[simp] theorem State.slNote_kept (s : State) (p : Option Nat) (d : DescRef) (off len : Nat) :
    (s.slNote p d off len).1.kept = s.kept := by simp [State.slNote]

@[simp] theorem State.slEmit_kept (s : State) (p : Option Nat) (m : SlMsg) : (s.slEmit p m).kept = s.kept := by
  unfold State.slEmit
  split <;> simp

@[simp] theorem State.slIssue_kept (s : State) (p : Option Nat) (d : DescRef) (off len : Nat) (m : SlMsg) :
    (s.slIssue p d off len m).kept = s.kept := by simp [State.slIssue]

theorem execSlWrite_keeps (d : DescRef) (s : State) : Keeps s (execSlWrite d s) :=
  Keeps.next (State.runOp_kept _ _ _ _ fun s f => State.slBegin_kept _ _ _ _ _ fun s p => by simp)

theorem execSlRead_keeps (d : DescRef) (s : State) : Keeps s (execSlRead d s) :=
  Keeps.next (State.runOp_kept _ _ _ _ fun s f => State.slBegin_kept _ _ _ _ _ fun s p => by simp)

theorem execSlSend_keeps (d : DescRef) (s : State) : Keeps s (execSlSend d s) :=
  Keeps.next (State.runOp_kept _ _ _ _ fun s f => State.slBegin_kept _ _ _ _ _ fun s p => by simp)

theorem execSlRecv_keeps (d : DescRef) (s : State) : Keeps s (execSlRecv d s) := by simp [execSlRecv]
@[simp] theorem State.setKey_kept (s : State) (q h : Nat) (k : KeyHandle) : (s.setKey q h k).kept = s.kept := by simp [State.setKey]

@[simp] theorem State.newKey_kept (s : State) (f : Flight) (alg : Nat) (key : List Byte) :
    (s.newKey f alg key).kept = s.kept := by simp [State.newKey]

@[simp] theorem State.deliver_kept (s : State) (d : DescRef) (f : Flight) (bs : List Byte) (poison : Bool) (result : Nat) :
    (s.deliver d f bs poison result).kept = s.kept := by simp [State.deliver]

theorem execHash_keeps (d : DescRef) (s : State) : Keeps s (execHash d s) := by simp [execHash]
theorem execGcmSeal_keeps (d : DescRef) (s : State) : Keeps s (execGcmSeal d s) := by simp [execGcmSeal]

theorem execGcmOpen_keeps (d : DescRef) (s : State) : Keeps s (execGcmOpen d s) := by
  refine Keeps.next (State.runOp_kept _ _ _ _ fun s f => ?_)
  dsimp only
  split <;> simp

theorem execCmac_keeps (d : DescRef) (s : State) : Keeps s (execCmac d s) := by simp [execCmac]
theorem execSign_keeps (d : DescRef) (s : State) : Keeps s (execSign d s) := by simp [execSign]
theorem execVerify_keeps (d : DescRef) (s : State) : Keeps s (execVerify d s) := by simp [execVerify]
theorem execKemEncap_keeps (d : DescRef) (s : State) : Keeps s (execKemEncap d s) := by simp [execKemEncap]
theorem execKemDecap_keeps (d : DescRef) (s : State) : Keeps s (execKemDecap d s) := by simp [execKemDecap]
theorem execRandom_keeps (d : DescRef) (s : State) : Keeps s (execRandom d s) := by simp [execRandom]
theorem execKeyGen_keeps (d : DescRef) (s : State) : Keeps s (execKeyGen d s) := by simp [execKeyGen]
theorem execKeyDerive_keeps (d : DescRef) (s : State) : Keeps s (execKeyDerive d s) := by simp [execKeyDerive]
theorem execKeyErase_keeps (d : DescRef) (s : State) : Keeps s (execKeyErase d s) := by simp [execKeyErase]
@[simp] theorem State.failLane_kept (s : State) (lane : Nat) : (s.failLane lane).kept = s.kept := by simp [State.failLane]
theorem execLaneFail_keeps (lane : Nat) (s : State) : Keeps s (execLaneFail lane s) := by simp [execLaneFail]

@[simp] theorem State.putFlight_kept (s : State) (failed lane : Nat) (f g : Flight) :
    (s.putFlight failed lane f g).kept = s.kept := by simp [State.putFlight]

@[simp] theorem State.rehome_kept (s : State) (failed : Nat) (f : Flight) : (s.rehome failed f).kept = s.kept := by
  unfold State.rehome
  (repeat' split) <;> simp

@[simp] theorem laneDrained_kept (s : State) (lane : Nat) : (laneDrained s lane).kept = s.kept := by simp [laneDrained]

@[simp] theorem checkUnitFault_kept (s : State) (u : Nat) : (checkUnitFault s u).kept = s.kept := by
  simp only [checkUnitFault]
  (repeat' split) <;> simp

@[simp] theorem State.viResult_kept (s : State) (v q result : Nat) : (s.viResult v q result).kept = s.kept := by simp [State.viResult]
@[simp] theorem State.viEnable_kept (s : State) (v q : Nat) : (s.viEnable v q).kept = s.kept := by simp [State.viEnable]
@[simp] theorem State.viDisable_kept (s : State) (v q : Nat) : (s.viDisable v q).kept = s.kept := by simp [State.viDisable]
@[simp] theorem State.viRead_kept (s : State) (v q : Nat) : (s.viRead v q).kept = s.kept := by simp [State.viRead]

@[simp] theorem writeQcmd_kept (s : State) (who : Agent) (vi : Nat) (v : Word) : (writeQcmd s who vi v).kept = s.kept := by
  simp only [writeQcmd]
  (repeat' split) <;> simp

theorem execEnable_keeps (h vi : Nat) (v : Word) (s : State) : Keeps s (execEnable h vi v s) := by simp [execEnable]
theorem execDisable_keeps (h vi : Nat) (v : Word) (s : State) : Keeps s (execDisable h vi v s) := by simp [execDisable]
theorem execRead_keeps (h vi : Nat) (v : Word) (s : State) : Keeps s (execRead h vi v s) := by simp [execRead]
@[simp] theorem queueDisableDone_kept (s : State) (q : Nat) : (queueDisableDone s q).kept = s.kept := by simp [queueDisableDone]

@[simp] theorem writeViReset_kept (s : State) (who : Agent) (vi : Nat) (v : Word) : (writeViReset s who vi v).kept = s.kept := by
  unfold writeViReset
  (repeat' split) <;> simp

theorem execDrain_keeps (h vi : Nat) (v : Word) (s : State) : Keeps s (execDrain h vi v s) := by simp [execDrain]
theorem execSquash_keeps (h vi : Nat) (v : Word) (s : State) : Keeps s (execSquash h vi v s) := by simp [execSquash]
@[simp] theorem viDrainExpired_kept (s : State) (vi : Nat) : (viDrainExpired s vi).kept = s.kept := by simp [viDrainExpired]
@[simp] theorem State.viResetEnd_kept (s : State) (vi : Nat) : (s.viResetEnd vi).kept = s.kept := by simp [State.viResetEnd]
@[simp] theorem viResetDone_kept (s : State) (vi : Nat) : (viResetDone s vi).kept = s.kept := by simp [viResetDone]

@[simp] theorem writeViStage_kept (s : State) (who : Agent) (v reg : Nat) (x : Word) :
    (writeViStage s who v reg x).kept = s.kept := by simp [writeViStage]

/-! ### Machine/Ports.lean -/

@[simp] theorem State.logPcie_kept (s : State) (y : Syndrome) (group r q : Nat) : (s.logPcie y group r q).kept = s.kept := by simp [State.logPcie]
@[simp] theorem writePcfgAddr_kept (s : State) (who : Agent) (q : Nat) (v : Word) : (writePcfgAddr s who q v).kept = s.kept := by simp [writePcfgAddr]
@[simp] theorem State.pcfgNote_kept (s : State) (q : Nat) : (s.pcfgNote q).kept = s.kept := by simp [State.pcfgNote]
theorem execConfigRead_keeps (h q rd : Nat) (s : State) : Keeps s (execConfigRead h q rd s) := by simp [execConfigRead]

@[simp] theorem State.cfgWrite_kept (s : State) (q group bdf off : Nat) (v : BitVec 32) :
    (s.cfgWrite q group bdf off v).kept = s.kept := by simp [State.cfgWrite]

@[simp] theorem writePcfgData_kept (s : State) (who : Agent) (q : Nat) (v : Word) : (writePcfgData s who q v).kept = s.kept := by simp [writePcfgData]
theorem execConfigWrite_keeps (h q : Nat) (v : Word) (s : State) : Keeps s (execConfigWrite h q v s) := by simp [execConfigWrite]
@[simp] theorem hotPlugArrival_kept (s : State) (group bdf : Nat) : (hotPlugArrival s group bdf).kept = s.kept := by simp [hotPlugArrival]

@[simp] theorem State.failRequestsTo_kept (s : State) (node status : Nat) :
    (s.failRequestsTo node status).kept = s.kept := by simp [State.failRequestsTo]

@[simp] theorem pcieLinkDown_kept (s : State) (group port : Nat) : (pcieLinkDown s group port).kept = s.kept := by simp [pcieLinkDown]
@[simp] theorem State.dmaRefused_kept (s : State) (group addr : Nat) : (s.dmaRefused group addr).kept = s.kept := by simp [State.dmaRefused]

@[simp] theorem State.dmaDoorbell_kept (s : State) (group bdf addr : Nat) (data : List Byte) :
    (s.dmaDoorbell group bdf addr data).kept = s.kept := by simp [State.dmaDoorbell]

@[simp] theorem dmaRequest_kept (s : State) (group bdf : Nat) (write : Bool) (addr len : Nat) (data : List Byte) :
    (dmaRequest s group bdf write addr len data).kept = s.kept := by
  simp only [dmaRequest]
  (repeat' split) <;> simp

@[simp] theorem deviceMsi_kept (s : State) (group bdf : Nat) (m : MsiMsg) : (deviceMsi s group bdf m).kept = s.kept := by simp [deviceMsi]

theorem execPcieAer_keeps (group port : Nat) (uncor cor : BitVec 32) (s : State) :
    Keeps s (execPcieAer group port uncor cor s) := by simp [execPcieAer]

@[simp] theorem State.reservedTsn_kept (s : State) (who : Agent) (c off : Nat) (v : Word) (own : Nat) :
    (s.reservedTsn who c off v own).kept = s.kept := by simp [State.reservedTsn]

@[simp] theorem tsnLinkDown_kept (s : State) (port : Nat) : (tsnLinkDown s port).kept = s.kept := by simp [tsnLinkDown]
@[simp] theorem writeTsn_kept (s : State) (who : Agent) (c off : Nat) (v : Word) : (writeTsn s who c off v).kept = s.kept := by simp [writeTsn]

@[simp] theorem State.tsnDeliver_kept (s : State) (d : DescRef) (f : Flight) (frame : List Byte) :
    (s.tsnDeliver d f frame).kept = s.kept := by simp [State.tsnDeliver]

@[simp] theorem tsnFrameReceived_kept (s : State) (port filter : Nat) (frame : List Byte) : (tsnFrameReceived s port filter frame).kept = s.kept := by
  simp only [tsnFrameReceived]
  (repeat' split) <;> simp

@[simp] theorem tsnStreamLost_kept (s : State) (port filter : Nat) : (tsnStreamLost s port filter).kept = s.kept := by simp [tsnStreamLost]
@[simp] theorem State.tsnGatesChanged_kept (s : State) (port : Nat) : (s.tsnGatesChanged port).kept = s.kept := by simp [State.tsnGatesChanged]
@[simp] theorem gclIntervalEnd_kept (s : State) (port : Nat) : (gclIntervalEnd s port).kept = s.kept := by simp [gclIntervalEnd]

@[simp] theorem launchTimeReached_kept (s : State) (d : DescRef) : (launchTimeReached s d).kept = s.kept := by
  unfold launchTimeReached
  split <;> simp

/-! ### Machine/Fences.lean -/

@[simp] theorem State.resetCore_kept (s : State) (h : Nat) : (s.resetCore h).kept = s.kept := by simp [State.resetCore]
@[simp] theorem State.completeFence_kept (s : State) (u : UnitId) : (s.completeFence u).kept = s.kept := by simp [State.completeFence]
@[simp] theorem State.liftFence_kept (s : State) (u : UnitId) : (s.liftFence u).kept = s.kept := by simp [State.liftFence]
@[simp] theorem State.writeBackNow_kept (s : State) (h : Nat) (w : Wb) : (s.writeBackNow h w).kept = s.kept := by simp [State.writeBackNow]

@[simp] theorem State.flushDirty_kept (s : State) (h : Nat) (readable : Bool) : (s.flushDirty h readable).kept = s.kept :=
  foldl_kept _ _ _ fun s l => by split <;> simp

@[simp] theorem State.stopCore_kept (s : State) (h : Nat) (readable : Bool) : (s.stopCore h readable).kept = s.kept := by simp [State.stopCore]
@[simp] theorem State.logCoreLost_kept (s : State) (h : Nat) : (s.logCoreLost h).kept = s.kept := by simp [State.logCoreLost]
@[simp] theorem coreFence_kept (s : State) (h0 : Nat) (readable : Bool) : (coreFence s h0 readable).kept = s.kept := by simp [coreFence]
@[simp] theorem cdRegionFence_kept (s : State) (cd : Nat) (reachable : Bool) : (cdRegionFence s cd reachable).kept = s.kept := by simp [cdRegionFence]
theorem execCdRegionFence_keeps (cd : Nat) (reachable : Bool) (s : State) : Keeps s (execCdRegionFence cd reachable s) := by simp [execCdRegionFence]
@[simp] theorem State.poisonDirty_kept (s : State) (n : Nat) : (s.poisonDirty n).kept = s.kept := by simp [State.poisonDirty]
@[simp] theorem State.askPorts_kept (s : State) (n : Nat) (p : Nat → Bool) : (s.askPorts n p).kept = s.kept := by simp [State.askPorts]
@[simp] theorem State.moveSlice_kept (s : State) (n : Nat) (home : Option Nat) : (s.moveSlice n home).kept = s.kept := by simp [State.moveSlice]
@[simp] theorem bdRegionFence_kept (s : State) (bd : Nat) (readable : Bool) : (bdRegionFence s bd readable).kept = s.kept := by simp [bdRegionFence]

theorem execBdRegionFence_keeps (bd : Nat) (tagsReadable : Bool) (s : State) :
    Keeps s (execBdRegionFence bd tagsReadable s) := by simp [execBdRegionFence]

@[simp] theorem l3SliceFence_kept (s : State) (n : Nat) (readable : Bool) : (l3SliceFence s n readable).kept = s.kept := by
  unfold l3SliceFence
  (repeat' split) <;> simp

@[simp] theorem State.recallFrom_kept (s : State) (h : Nat) (p : Nat → Bool) : (s.recallFrom h p).kept = s.kept := by
  simp only [State.recallFrom, State.setHart_kept]
  refine (foldl_kept _ _ _ fun s l => ?_).trans (foldl_kept _ _ _ fun s w => by simp)
  split <;> simp

@[simp] theorem State.recallSet_kept (s : State) (p : Nat → Bool) : (s.recallSet p).kept = s.kept := by simp [State.recallSet]
@[simp] theorem State.resume_kept (s : State) (ms : List CohMsg) : (s.resume ms).kept = s.kept := by simp [State.resume]
@[simp] theorem dirRebuild_kept (s : State) (n : Nat) : (dirRebuild s n).kept = s.kept := by simp [dirRebuild]
@[simp] theorem State.returnSlice_kept (s : State) (n : Nat) : (s.returnSlice n).kept = s.kept := by simp [State.returnSlice]

@[simp] theorem fenceEscalated_kept (s : State) (u : UnitId) : (fenceEscalated s u).kept = s.kept := by
  unfold fenceEscalated
  (repeat' split) <;> simp

@[simp] theorem State.fenceForReset_kept (s : State) (u : UnitId) : (s.fenceForReset u).kept = s.kept := by simp [State.fenceForReset]
@[simp] theorem State.dropCopies_kept (s : State) (u : UnitId) : (s.dropCopies u).kept = s.kept := by simp [State.dropCopies]
@[simp] theorem State.partnerDown_kept (s : State) (site : Nat) : (s.partnerDown site).kept = s.kept := by simp [State.partnerDown]

@[simp] theorem State.partnerReject_kept (s : State) (site reason : Nat) :
    (s.partnerReject site reason).kept = s.kept := by simp [State.partnerReject]

@[simp] theorem State.failRequestsToDie_kept (s : State) (die status : Nat) :
    (s.failRequestsToDie die status).kept = s.kept := by simp [State.failRequestsToDie]

@[simp] theorem partnerLost_kept (s : State) (site : Nat) : (partnerLost s site).kept = s.kept := by simp [partnerLost]

@[simp] theorem State.partnerPortReset_kept (s : State) (site : Nat) : (s.partnerPortReset site).kept = s.kept := by
  unfold State.partnerPortReset
  split <;> simp

@[simp] theorem State.resetXl_kept (s : State) (x : Nat) : (s.resetXl x).kept = s.kept := by simp [State.resetXl]

@[simp] theorem State.resetUnit_kept (s : State) (u : UnitId) : (s.resetUnit u).kept = s.kept := by
  unfold State.resetUnit
  split <;> simp

@[simp] theorem writeEcReset_kept (s : State) (h : Nat) (view : EcView) (v : Word) : (writeEcReset s h view v).kept = s.kept := by
  unfold writeEcReset
  (repeat' split) <;> simp

theorem execEcReset_keeps (h : Nat) (view : EcView) (v : Word) (s : State) : Keeps s (execEcReset h view v s) := by simp [execEcReset]

@[simp] theorem ecResetDone_kept (s : State) (u : UnitId) (ok : Bool) : (ecResetDone s u ok).kept = s.kept := by
  unfold ecResetDone
  (repeat' split) <;> simp

@[simp] theorem State.notifyHolder_kept (s : State) (u : UnitId) : (s.notifyHolder u).kept = s.kept := by
  unfold State.notifyHolder
  split <;> simp

@[simp] theorem blockLost_kept (s : State) (u : UnitId) : (blockLost s u).kept = s.kept := by simp [blockLost]
@[simp] theorem State.wipe_kept (s : State) (u : UnitId) : (s.wipe u).kept = s.kept := by simp [State.wipe]
@[simp] theorem secureWipe_kept (s : State) (u : UnitId) (zeros : Bool) : (secureWipe s u zeros).kept = s.kept := by simp [secureWipe]

/-! ### Machine/Counters.lean -/

@[simp] theorem State.cntValue_kept (s : State) (core n : Nat) : (s.cntValue core n).2.kept = s.kept := by simp [State.cntValue]
@[simp] theorem State.cntStamped_kept (s : State) (core : Nat) : (s.cntStamped core).kept = s.kept := by simp [State.cntStamped]
@[simp] theorem cntRead_kept (s : State) (h core n rd : Nat) : (cntRead s h core n rd).kept = s.kept := by simp [cntRead]
theorem execCntRead_keeps (h core n rd : Nat) (s : State) : Keeps s (execCntRead h core n rd s) := by simp [execCntRead]
@[simp] theorem counterWrap_kept (s : State) (h n : Nat) : (counterWrap s h n).kept = s.kept := by simp [counterWrap]

@[simp] theorem writeCnt_kept (s : State) (who : Agent) (core off : Nat) (v : Word) : (writeCnt s who core off v).kept = s.kept := by
  unfold writeCnt
  (repeat' split) <;> simp

/-! ### Machine/EcCtl.lean -/

@[simp] theorem State.ecReserved_kept (s : State) (h : Nat) (view : EcView) (reg : Nat) (v : Word) (own : Nat) :
    (s.ecReserved h view reg v own).kept = s.kept := by simp [State.ecReserved]

@[simp] theorem writeEcSel_kept (s : State) (h : Nat) (view : EcView) (v : Word) : (writeEcSel s h view v).kept = s.kept := by simp [writeEcSel]
@[simp] theorem writeEcCtl_kept (s : State) (h : Nat) (view : EcView) (v : Word) : (writeEcCtl s h view v).kept = s.kept := by simp [writeEcCtl]

@[simp] theorem writeEcIrq_kept (s : State) (h : Nat) (view : EcView) (v : Word) : (writeEcIrq s h view v).kept = s.kept := by
  unfold writeEcIrq
  (repeat' split) <;> simp

theorem execEcSelNext_keeps (h : Nat) (view : EcView) (s : State) : Keeps s (execEcSelNext h view s) := by simp [execEcSelNext]
theorem execClear_keeps (h : Nat) (view : EcView) (s : State) : Keeps s (execClear h view s) := by simp [execClear]
theorem execClearAll_keeps (h : Nat) (view : EcView) (s : State) : Keeps s (execClearAll h view s) := by simp [execClearAll]
theorem execEcIrqWrite_keeps (h : Nat) (view : EcView) (v : Word) (s : State) : Keeps s (execEcIrqWrite h view v s) := by simp [execEcIrqWrite]
@[simp] theorem State.ecStatRead_kept (s : State) (view : EcView) : (s.ecStatRead view).kept = s.kept := by simp [State.ecStatRead]
theorem execEcStatRead_keeps (h : Nat) (view : EcView) (rd : Nat) (s : State) : Keeps s (execEcStatRead h view rd s) := by simp [execEcStatRead]

@[simp] theorem writeEc_kept (s : State) (h : Nat) (view : EcView) (reg : Nat) (v : Word) :
    (writeEc s h view reg v).kept = s.kept := by simp [writeEc]

@[simp] theorem State.imsicStore_kept (s : State) (h addr size : Nat) (v : Word) (tval : Word) : (s.imsicStore h addr size v tval).kept = s.kept := by
  unfold State.imsicStore
  split <;> simp

theorem execImsicWrite_keeps (h addr size : Nat) (v : Word) (s : State) : Keeps s (execImsicWrite h addr size v s) := by simp [execImsicWrite]
@[simp] theorem msiArrives_kept (s : State) (m : MsiMsg) : (msiArrives s m).kept = s.kept := by simp [msiArrives]

/-! ### Machine/Fabric.lean -/

@[simp] theorem State.dateRemaps_kept (s : State) (xs : List Nat) (b : Nat) : (s.dateRemaps xs b).kept = s.kept := by simp [State.dateRemaps]
@[simp] theorem replan_kept (s : State) (changed : List Nat) : (replan s changed).kept = s.kept := by simp [replan]
@[simp] theorem State.moveRemaps_kept (s : State) (old b : Nat) : (s.moveRemaps old b).kept = s.kept := by simp [State.moveRemaps]

@[simp] theorem sourceHold_kept (s : State) : (sourceHold s).kept = s.kept := by
  unfold sourceHold
  split <;> simp

@[simp] theorem State.dropStreamMessages_kept (s : State) (ns : List Nat) :
    (s.dropStreamMessages ns).kept = s.kept := by simp [State.dropStreamMessages]

@[simp] theorem State.activate_kept (s : State) (n bound : Nat) : (s.activate n bound).kept = s.kept := by simp [State.activate]
@[simp] theorem State.demotePartners_kept (s : State) : s.demotePartners.kept = s.kept := by simp [State.demotePartners]

@[simp] theorem slotTableSwitch_kept (s : State) : (slotTableSwitch s).kept = s.kept := by
  unfold slotTableSwitch
  split <;> simp

@[simp] theorem State.restorePartner_kept (s : State) (site : Nat) : (s.restorePartner site).kept = s.kept :=
  foldl_kept _ _ _ fun s e => by split <;> simp

@[simp] theorem State.clearGOff_kept (s : State) : s.clearGOff.kept = s.kept := by simp [State.clearGOff]
@[simp] theorem State.applyTables_kept (s : State) (b : Binding) : (s.applyTables b).kept = s.kept := by simp [State.applyTables]
@[simp] theorem State.admitHeld_kept (s : State) (g : GStream) : (s.admitHeld g).kept = s.kept := by simp [State.admitHeld]
@[simp] theorem State.planDelta_kept (s : State) (b : Binding) : (s.planDelta b).kept = s.kept := by simp [State.planDelta]
@[simp] theorem writeStatCtl_kept (s : State) (who : Agent) (i : Nat) (v : Word) : (writeStatCtl s who i v).kept = s.kept := by simp [writeStatCtl]
theorem execStatClear_keeps (who : Agent) (i : Nat) (s : State) : Keeps s (execStatClear who i s) := by simp [execStatClear]
@[simp] theorem writeFmShare_kept (s : State) (who : Agent) (v : Word) : (writeFmShare s who v).kept = s.kept := by simp [writeFmShare]
@[simp] theorem writeFm_kept (s : State) (who : Agent) (off : Nat) (v : Word) : (writeFm s who off v).kept = s.kept := by simp [writeFm]

/-! ### Machine/Flash.lean -/

@[simp] theorem State.ffLog_kept (s : State) (kind detail body : Nat) : (s.ffLog kind detail body).kept = s.kept := by simp [State.ffLog]

/-! ### Machine/Links.lean -/

@[simp] theorem State.markBad_kept (s : State) (x : Nat) (inward : Bool) (lanes : List Nat) :
    (s.markBad x inward lanes).kept = s.kept := by simp [State.markBad]

@[simp] theorem State.copyMap_kept (s : State) (x : Nat) : (s.copyMap x).kept = s.kept := by simp [State.copyMap]
@[simp] theorem repairMapSave_kept (s : State) : (repairMapSave s).kept = s.kept := by simp [repairMapSave]

@[simp] theorem State.loadRepairMap_kept (s : State) : s.loadRepairMap.kept = s.kept := by
  unfold State.loadRepairMap
  split <;> simp

@[simp] theorem State.failCrossing_kept (s : State) (x : Nat) : (s.failCrossing x).kept = s.kept := by
  unfold State.failCrossing
  split <;> simp

@[simp] theorem State.logSpares_kept (s : State) (x : Nat) (inward : Bool) (lanes : List Nat) :
    (s.logSpares x inward lanes).kept = s.kept := by simp [State.logSpares]

@[simp] theorem State.logWidth_kept (s : State) (x : Nat) (inward : Bool) (old new : Width) (sel : Nat) :
    (s.logWidth x inward old new sel).kept = s.kept := by simp [State.logWidth]

@[simp] theorem State.logRepairs_kept (s : State) (x : Nat) (inward : Bool) : (s.logRepairs x inward).kept = s.kept := by
  simp only [State.logRepairs]
  (repeat' split) <;> simp

@[simp] theorem State.trainFailed_kept (s : State) (x : Nat) : (s.trainFailed x).kept = s.kept := by simp [State.trainFailed]
@[simp] theorem State.endTraining_kept (s : State) : s.endTraining.kept = s.kept := by simp [State.endTraining]

@[simp] theorem State.trainCrossing_kept (s : State) (x : Nat) (r : TrainResult) : (s.trainCrossing x r).kept = s.kept := by
  simp only [State.trainCrossing]
  (repeat' split) <;> simp

@[simp] theorem crossingTraining_kept (s : State) (x : Nat) (r : TrainResult) : (crossingTraining s x r).kept = s.kept := by simp [crossingTraining]

@[simp] theorem crossingMark_kept (s : State) : (crossingMark s).kept = s.kept := by
  unfold crossingMark
  split
  · exact foldl_kept _ _ _ fun s x => rfl
  · rfl

@[simp] theorem State.markDeviates_kept (s : State) (x : Nat) (d : Int) : (s.markDeviates x d).kept = s.kept := by simp [State.markDeviates]

@[simp] theorem markArrival_kept (s : State) (x : Nat) (inward : Bool) (slot : Nat) : (markArrival s x inward slot).kept = s.kept := by
  unfold markArrival
  split <;> simp

@[simp] theorem markerReport_kept (s : State) (x : Nat) (inward : Bool) (crc : BitVec 32) : (markerReport s x inward crc).kept = s.kept := by
  unfold markerReport
  split <;> simp

theorem execErrorCountWindow_keeps (s : State) : Keeps s (execErrorCountWindow s) := by simp [execErrorCountWindow]

@[simp] theorem laneFailing_kept (s : State) (x : Nat) (inward : Bool) (lane : Nat) : (laneFailing s x inward lane).kept = s.kept := by
  simp only [laneFailing]
  (repeat' split) <;> simp

@[simp] theorem State.applyRemap_kept (s : State) (x : Nat) (r : Remap) : (s.applyRemap x r).kept = s.kept := by simp [State.applyRemap]
@[simp] theorem crossingRemap_kept (s : State) (x : Nat) : (crossingRemap s x).kept = s.kept := by simp [crossingRemap]
theorem execXlStatRead_keeps (h x rd : Nat) (s : State) : Keeps s (execXlStatRead h x rd s) := by simp [execXlStatRead]
@[simp] theorem State.partnerLinkUp_kept (s : State) (site : Nat) : (s.partnerLinkUp site).kept = s.kept := by simp [State.partnerLinkUp]

@[simp] theorem partnerCertificate_kept (s : State) (site : Nat) (c : List Byte) :
    (partnerCertificate s site c).kept = s.kept := by simp [partnerCertificate]

theorem execPartnerCertTimeout_keeps (site : Nat) (s : State) : Keeps s (execPartnerCertTimeout site s) := by simp [execPartnerCertTimeout]
@[simp] theorem State.partnerTrainFail_kept (s : State) (x : Nat) : (s.partnerTrainFail x).kept = s.kept := by simp [State.partnerTrainFail]
theorem execCrossingTraining_keeps (x : Nat) (r : TrainResult) (s : State) : Keeps s (execCrossingTraining x r s) := by simp [execCrossingTraining]
@[simp] theorem partnerTrained_kept (s : State) (site : Nat) (info : Word) : (partnerTrained s site info).kept = s.kept := by simp [partnerTrained]
@[simp] theorem partnerRetry_kept (s : State) (site : Nat) : (partnerRetry s site).kept = s.kept := by simp [partnerRetry]

/-! ### Machine/MemCtl.lean -/

@[simp] theorem State.retirePage_kept (s : State) (a : Nat) (threshold : Bool) :
    (s.retirePage a threshold).kept = s.kept := by simp [State.retirePage]

@[simp] theorem State.memCorrected_kept (s : State) (a : Nat) : (s.memCorrected a).kept = s.kept := by simp [State.memCorrected]
@[simp] theorem State.memUncorrected_kept (s : State) (a : Nat) : (s.memUncorrected a).kept = s.kept := by simp [State.memUncorrected]

@[simp] theorem State.memServe_kept (s : State) (l : Nat) (e : Ecc) : (s.memServe l e).1.kept = s.kept := by
  simp only [State.memServe]
  (repeat' split) <;> simp

@[simp] theorem memoryRead_kept (s : State) (l : Nat) (e : Ecc) : (memoryRead s l e).kept = s.kept := by
  simp only [memoryRead]
  (repeat' split) <;> simp

@[simp] theorem memoryWrite_kept (s : State) (l : Nat) : (memoryWrite s l).kept = s.kept := by
  unfold memoryWrite
  (repeat' split) <;> simp

@[simp] theorem scrub_kept (s : State) (l : Nat) (e : Ecc) : (scrub s l e).kept = s.kept := by
  unfold scrub
  split <;> simp

@[simp] theorem refresh_kept (s : State) (k bank : Nat) : (refresh s k bank).kept = s.kept := by simp [refresh]
@[simp] theorem State.dropPc_kept (s : State) (pc : Nat) : (s.dropPc pc).kept = s.kept := by simp [State.dropPc]
@[simp] theorem State.failPc_kept (s : State) (pc : Nat) : (s.failPc pc).kept = s.kept := by simp [State.failPc]
@[simp] theorem State.dropCh_kept (s : State) (ch : Nat) : (s.dropCh ch).kept = s.kept := by simp [State.dropCh]
@[simp] theorem State.failCh_kept (s : State) (ch : Nat) : (s.failCh ch).kept = s.kept := by simp [State.failCh]
@[simp] theorem State.loseCxl_kept (s : State) (g : Nat) : (s.loseCxl g).kept = s.kept := by simp [State.loseCxl]
theorem execMemoryUnitFail_keeps (u : UnitId) (s : State) : Keeps s (execMemoryUnitFail u s) := by simp [execMemoryUnitFail]
@[simp] theorem memoryTraining_kept (s : State) (r : MemTrainResult) : (memoryTraining s r).kept = s.kept := by simp [memoryTraining]
@[simp] theorem retiredListSave_kept (s : State) : (retiredListSave s).kept = s.kept := by simp [retiredListSave]

@[simp] theorem State.loadRetired_kept (s : State) : s.loadRetired.kept = s.kept := by
  unfold State.loadRetired
  split <;> simp

@[simp] theorem writeMc_kept (s : State) (who : Agent) (die block k off : Nat) (v : Word) :
    (writeMc s who die block k off v).kept = s.kept := by simp [writeMc]

/-! ### Machine/Time.lean -/

@[simp] theorem frameBoundary_kept (s : State) : (frameBoundary s).kept = s.kept := by simp [frameBoundary]
theorem execSlewAdjustedFrame_keeps (s : State) : Keeps s (execSlewAdjustedFrame s) := by simp [execSlewAdjustedFrame]
@[simp] theorem writePtStep_kept (s : State) (who : Agent) (v : Word) : (writePtStep s who v).kept = s.kept := by simp [writePtStep]
theorem execPtStep_keeps (who : Agent) (v : Word) (s : State) : Keeps s (execPtStep who v s) := by simp [execPtStep]
@[simp] theorem writePtSlew_kept (s : State) (who : Agent) (v : Word) : (writePtSlew s who v).kept = s.kept := by simp [writePtSlew]
theorem execPtSlew_keeps (who : Agent) (v : Word) (s : State) : Keeps s (execPtSlew who v s) := by simp [execPtSlew]

theorem execPtStatRead_keeps (h rd : Nat) (s : State) : Keeps s (execPtStatRead h rd s) :=
  Keeps.next (State.readReg_kept _ _ _ _ _ _ _ fun _ => rfl)

@[simp] theorem writePtStat_kept (s : State) (who : Agent) (v : Word) : (writePtStat s who v).kept = s.kept := by simp [writePtStat]
@[simp] theorem State.correctDie_kept (s : State) (d : Nat) : (s.correctDie d).kept = s.kept := by simp [State.correctDie]
@[simp] theorem timeBroadcast_kept (s : State) : (timeBroadcast s).kept = s.kept := by simp [timeBroadcast]

/-! ### Machine/Startup.lean -/

@[simp] theorem State.loseMemory_kept (s : State) (cxlOnly : Bool) : (s.loseMemory cxlOnly).kept = s.kept := by simp [State.loseMemory]
@[simp] theorem State.resetDomains_kept (s : State) : s.resetDomains.kept = s.kept := by simp [State.resetDomains]
@[simp] theorem State.holdDomains_kept (s : State) (phase : Phase) : (s.holdDomains phase).kept = s.kept := by simp [State.holdDomains]
@[simp] theorem State.stopHarts_kept (s : State) : s.stopHarts.kept = s.kept := by simp [State.stopHarts]

@[simp] theorem State.copyFatal_kept (s : State) : s.copyFatal.kept = s.kept := by
  unfold State.copyFatal
  split <;> simp

@[simp] theorem State.startWarm_kept (s : State) (cause : ResetCause) : (s.startWarm cause).kept = s.kept := by simp [State.startWarm]

@[simp] theorem State.resetFalls_kept (s : State) : s.resetFalls.kept = s.kept := by
  simp only [State.resetFalls]
  (repeat' split) <;> simp

@[simp] theorem warmReset_kept (s : State) (cause : ResetCause) : (warmReset s cause).kept = s.kept := by
  unfold warmReset
  (repeat' split) <;> simp

@[simp] theorem warmResetDrained_kept (s : State) : (warmResetDrained s).kept = s.kept := by simp [warmResetDrained]
@[simp] theorem stbyPwrgoodRise_kept (s : State) : (stbyPwrgoodRise s).kept = s.kept := by simp [stbyPwrgoodRise]
@[simp] theorem stbyPwrgoodFall_kept (s : State) : (stbyPwrgoodFall s).kept = s.kept := by simp [stbyPwrgoodFall]
@[simp] theorem pwrgoodFall_kept (s : State) : (pwrgoodFall s).kept = s.kept := by simp [pwrgoodFall]

@[simp] theorem resetNRise_kept (s : State) (straps : BitVec 16) : (resetNRise s straps).kept = s.kept := by
  unfold resetNRise
  split <;> simp

@[simp] theorem pllLocked_kept (s : State) : (pllLocked s).kept = s.kept := by simp [pllLocked]

@[simp] theorem State.fatalSlot_kept (s : State) : s.fatalSlot.kept = s.kept := by
  unfold State.fatalSlot
  split <;> simp

@[simp] theorem claspBoot_kept (s : State) : (claspBoot s).kept = s.kept := by simp [claspBoot]
@[simp] theorem State.refclkGone_kept (s : State) : s.refclkGone.kept = s.kept := by simp [State.refclkGone]
theorem execRefclkLost_keeps (s : State) : Keeps s (execRefclkLost s) := by simp [execRefclkLost]
@[simp] theorem refclkRestored_kept (s : State) : (refclkRestored s).kept = s.kept := by simp [refclkRestored]
theorem execThermalTrip_keeps (s : State) : Keeps s (execThermalTrip s) := by simp [execThermalTrip]
theorem execThermalRecovery_keeps (s : State) : Keeps s (execThermalRecovery s) := by simp [execThermalRecovery]

/-! ### Machine/Persist.lean -/

@[simp] theorem State.putRecord_kept (s : State) (a : Nat) (bs : List Byte) : (s.putRecord a bs).kept = s.kept := by simp [State.putRecord]
@[simp] theorem State.armWindow_kept (s : State) (w : MemWin) : (s.armWindow w).kept = s.kept := by simp [State.armWindow]
@[simp] theorem State.armLost_kept (s : State) (w : MemWin) : (s.armLost w).kept = s.kept := by simp [State.armLost]
@[simp] theorem State.pkWoken_kept (s : State) (src : PkSrc) : (s.pkWoken src).kept = s.kept := by simp [State.pkWoken]
@[simp] theorem State.armAll_kept (s : State) (lost : Bool) : (s.armAll lost).kept = s.kept := by simp [State.armAll]
@[simp] theorem State.commitWindow_kept (s : State) (w : MemWin) : (s.commitWindow w).kept = s.kept := by simp [State.commitWindow]
@[simp] theorem State.commitFlush_kept (s : State) (failed : List (Nat × Nat)) : (s.commitFlush failed).kept = s.kept := by simp [State.commitFlush]
@[simp] theorem State.writeBackL3_kept (s : State) : s.writeBackL3.kept = s.kept := by simp [State.writeBackL3]

@[simp] theorem State.sleepFlush_kept (s : State) (k : Nat) (failed : List (Nat × Nat)) :
    (s.sleepFlush k failed).kept = s.kept := by simp [State.sleepFlush]

/-! ### Machine/BindVerify.lean -/

@[simp] theorem State.logClasp_kept (s : State) (y : Syndrome) : (s.logClasp y).kept = s.kept := by simp [State.logClasp]
@[simp] theorem State.logClaspFor_kept (s : State) (q : Nat) (y : Syndrome) : (s.logClaspFor q y).kept = s.kept := by simp [State.logClaspFor]

/-! ### Machine/CacheCtl.lean -/

@[simp] theorem writeCacheCtl_kept (s : State) (who : Agent) (core : Nat) (v : Word) :
    (writeCacheCtl s who core v).kept = s.kept := by simp [writeCacheCtl]

theorem execFlushL1d_keeps (h core : Nat) (s : State) : Keeps s (execFlushL1d h core s) := by simp [execFlushL1d]
theorem execFlushL2_keeps (h core : Nat) (s : State) : Keeps s (execFlushL2 h core s) := by simp [execFlushL2]
theorem execFlushAll_keeps (h core : Nat) (s : State) : Keeps s (execFlushAll h core s) := by simp [execFlushAll]
theorem execUnlockAll_keeps (h core : Nat) (s : State) : Keeps s (execUnlockAll h core s) := by simp [execUnlockAll]
theorem execCacheCtlDone_keeps (core : Nat) (s : State) : Keeps s (execCacheCtlDone core s) := by simp [execCacheCtlDone]
@[simp] theorem writeWaycfg_kept (s : State) (who : Agent) (core : Nat) (v : Word) : (writeWaycfg s who core v).kept = s.kept := by simp [writeWaycfg]
theorem execL2WaycfgWrite_keeps (h core : Nat) (v : Word) (s : State) : Keeps s (execL2WaycfgWrite h core v s) := by simp [execL2WaycfgWrite]

@[simp] theorem State.lockRejected_kept (s : State) (who : Agent) (n q reg : Nat) (v : Word) :
    (s.lockRejected who n q reg v).kept = s.kept := by simp [State.lockRejected]

@[simp] theorem State.setL3q_kept (s : State) (n q : Nat) (m : L3Q) : (s.setL3q n q m).kept = s.kept := by simp [State.setL3q]
@[simp] theorem State.flushWays_kept (s : State) (n ways locked : Nat) : (s.flushWays n ways locked).kept = s.kept := by simp [State.flushWays]
@[simp] theorem State.lockWays_kept (s : State) (n q : Nat) (v : Word) : (s.lockWays n q v).kept = s.kept := by simp [State.lockWays]

@[simp] theorem writeL3q_kept (s : State) (who : Agent) (n q reg : Nat) (v : Word) : (writeL3q s who n q reg v).kept = s.kept := by
  unfold writeL3q
  (repeat' split) <;> simp

theorem execL3qLockWrite_keeps (h slice q : Nat) (v : Word) (s : State) : Keeps s (execL3qLockWrite h slice q v s) := by simp [execL3qLockWrite]
theorem execL3qFillWrite_keeps (h slice q : Nat) (v : Word) (s : State) : Keeps s (execL3qFillWrite h slice q v s) := by simp [execL3qFillWrite]
theorem execL3qFlush_keeps (h slice q : Nat) (s : State) : Keeps s (execL3qFlush h slice q s) := by simp [execL3qFlush]
theorem execL3qReseed_keeps (h slice q : Nat) (s : State) : Keeps s (execL3qReseed h slice q s) := by simp [execL3qReseed]
theorem execL3qFlushDone_keeps (slice q : Nat) (s : State) : Keeps s (execL3qFlushDone slice q s) := by simp [execL3qFlushDone]

/-! ### Machine/Binding.lean -/

@[simp] theorem State.noBinding_kept (s : State) : s.noBinding.kept = s.kept := by simp [State.noBinding]

@[simp] theorem State.chooseFrom_kept (s : State) (slots : List Nat) : (s.chooseFrom slots).kept = s.kept := by
  induction slots generalizing s with
  | nil => exact State.noBinding_kept s
  | cons k rest ih =>
    show (match s.candidate k with
      | none => s.chooseFrom rest
      | some img => match s.verifyFull img true with
        | .inl y => (s.logClasp y).chooseFrom rest
        | .inr r => { s with boot := _, clasp := _ }).kept = _
    split
    · exact ih s
    · split
      · rw [ih, State.logClasp_kept]
      · simp

@[simp] theorem bindingSelect_kept (s : State) : (bindingSelect s).kept = s.kept := by simp [bindingSelect]
@[simp] theorem State.loadKey_kept (s : State) (w : MemWin) : (s.loadKey w).kept = s.kept := by simp [State.loadKey]
@[simp] theorem State.reseal_kept (s : State) (w : MemWin) : (s.reseal w).kept = s.kept := by simp [State.reseal]
@[simp] theorem State.resetOpenUnit_kept (s : State) (u : Nat) : (s.resetOpenUnit u).kept = s.kept := by simp [State.resetOpenUnit]
@[simp] theorem State.releaseHart_kept (s : State) (h : Nat) : (s.releaseHart h).kept = s.kept := by simp [State.releaseHart]
@[simp] theorem State.applyFailed_kept (s : State) : s.applyFailed.kept = s.kept := by simp [State.applyFailed]
@[simp] theorem State.applyCore_kept (s : State) (b : Binding) : (s.applyCore b).kept = s.kept := by simp [State.applyCore]
@[simp] theorem State.applyRest_kept (s : State) (b : Binding) : (s.applyRest b).kept = s.kept := by simp [State.applyRest]

@[simp] theorem bindingApply_kept (s : State) (failed : Option UnitId) : (bindingApply s failed).kept = s.kept := by
  simp only [bindingApply]
  (repeat' split) <;> simp

/-! ### Machine/Handover.lean -/

@[simp] theorem State.squashQueues_kept (s : State) (gone : List Claim) : (s.squashQueues gone).kept = s.kept := by simp [State.squashQueues]
@[simp] theorem State.beginMove_kept (s : State) (new : Binding) : (s.beginMove new).kept = s.kept := by simp [State.beginMove]
@[simp] theorem State.evacuate_kept (s : State) (p : Nat → Bool) : (s.evacuate p).kept = s.kept := by simp [State.evacuate]
@[simp] theorem State.zeroMemory_kept (s : State) (lo hi : Nat) : (s.zeroMemory lo hi).kept = s.kept := by simp [State.zeroMemory]
@[simp] theorem State.rekey_kept (s : State) (w : MemWin) : (s.rekey w).kept = s.kept := by simp [State.rekey]
@[simp] theorem State.rehomeWindows_kept (s : State) (new : Binding) : (s.rehomeWindows new).kept = s.kept := by simp [State.rehomeWindows]
@[simp] theorem State.moveWays_kept (s : State) (old new : Binding) : (s.moveWays old new).kept = s.kept := by simp [State.moveWays]
@[simp] theorem State.recallMoved_kept (s : State) (es : List (Nat × DirEnt)) : (s.recallMoved es).kept = s.kept := by simp [State.recallMoved]

@[simp] theorem State.moveCores_kept (s : State) (harts : List Nat) (failed : List Nat) :
    (s.moveCores harts failed).kept = s.kept := by simp [State.moveCores]

@[simp] theorem State.moveQueues_kept (s : State) (gone : List Claim) : (s.moveQueues gone).kept = s.kept := by simp [State.moveQueues]
@[simp] theorem State.dropHandles_kept (s : State) : s.dropHandles.kept = s.kept := by simp [State.dropHandles]
@[simp] theorem State.moveIdentities_kept (s : State) (gone : List Claim) : (s.moveIdentities gone).kept = s.kept := by simp [State.moveIdentities]
@[simp] theorem State.moveFunctions_kept (s : State) (gone : List Claim) : (s.moveFunctions gone).kept = s.kept := by simp [State.moveFunctions]

/-! ### Machine/Colophon.lean -/

@[simp] theorem State.signColophon_kept (s : State) (nonce : BitVec 256) : (s.signColophon nonce).2.kept = s.kept := by simp [State.signColophon]
@[simp] theorem colophonResign_kept (s : State) : (colophonResign s).kept = s.kept := by simp [colophonResign]

/-! ### Machine/Gate.lean -/

@[simp] theorem State.gateResult_kept (s : State) (r : Nat) : (s.gateResult r).kept = s.kept := by simp [State.gateResult]
@[simp] theorem State.logPwrDenied_kept (s : State) (u : UnitId) (q : Nat) : (s.logPwrDenied u q).kept = s.kept := by simp [State.logPwrDenied]

@[simp] theorem State.gatedRequests_kept (s : State) (u : UnitId) : (s.gatedRequests u).kept = s.kept := by
  unfold State.gatedRequests
  split <;> simp

@[simp] theorem State.judgeGate_kept (s : State) : s.judgeGate.kept = s.kept := by simp [State.judgeGate]
@[simp] theorem writePwrReq_kept (s : State) (who : Agent) (v : Word) : (writePwrReq s who v).kept = s.kept := by simp [writePwrReq]
theorem execUngate_keeps (h : Nat) (v : Word) (s : State) : Keeps s (execUngate h v s) := by simp [execUngate]
theorem execGateClock_keeps (h : Nat) (v : Word) (s : State) : Keeps s (execGateClock h v s) := by simp [execGateClock]
theorem execGatePower_keeps (h : Nat) (v : Word) (s : State) : Keeps s (execGatePower h v s) := by simp [execGatePower]

/-! ### Machine/Requests.lean -/

@[simp] theorem State.readImage_kept (s : State) (q addr len : Nat) : (s.readImage q addr len).2.kept = s.kept := by simp [State.readImage]

@[simp] theorem State.setReq_kept (s : State) (q : Nat) (st : ReqSt) (step syn result : Nat) :
    (s.setReq q st step syn result).kept = s.kept := by simp [State.setReq]

@[simp] theorem State.endReq_kept (s : State) (q step syn result : Nat) : (s.endReq q step syn result).kept = s.kept := by simp [State.endReq]
@[simp] theorem State.setWork_kept (s : State) (w : Option Work) : (s.setWork w).kept = s.kept := by simp [State.setWork]

@[simp] theorem State.pendOwner_kept (s : State) (new : Binding) (seq : BitVec 16) (q : Nat) :
    (s.pendOwner new seq q).kept = s.kept := by simp [State.pendOwner]

@[simp] theorem State.startMove_kept (s : State) (q : Nat) (d : Binding) (digest : List Byte) :
    (s.startMove q d digest).kept = s.kept := by simp [State.startMove]

@[simp] theorem State.startHandover_kept (s : State) (q : Nat) (d : Binding) (digest : List Byte) :
    (s.startHandover q d digest).kept = s.kept := by simp [State.startHandover]

@[simp] theorem State.clearPend_kept (s : State) (q : Nat) : (s.clearPend q).kept = s.kept := by simp [State.clearPend]

@[simp] theorem State.abortHandover_kept (s : State) (q : Nat) (d : Binding) (o : Nat) (y : Syndrome) :
    (s.abortHandover q d o y).kept = s.kept := by simp [State.abortHandover]

@[simp] theorem State.forceOwner_kept (s : State) (new : Binding) (o : Nat) (y : Syndrome) :
    (s.forceOwner new o y).kept = s.kept := by simp [State.forceOwner]

@[simp] theorem State.ownerDone_kept (s : State) (o : Nat) (forced : Bool) : (s.ownerDone o forced).kept = s.kept := by
  unfold State.ownerDone
  split <;> simp

@[simp] theorem State.ownerFails_kept (s : State) (o : Nat) (y : Syndrome) : (s.ownerFails o y).kept = s.kept := by
  unfold State.ownerFails
  split <;> simp

@[simp] theorem State.moveMemory_kept (s : State) (old new d : Binding) : (s.moveMemory old new d).kept = s.kept := by simp [State.moveMemory]
@[simp] theorem State.moveRest_kept (s : State) (old new d : Binding) : (s.moveRest old new d).kept = s.kept := by simp [State.moveRest]

@[simp] theorem State.finishMove_kept (s : State) (q : Nat) (d : Binding) (digest : List Byte) (failed : List UnitId) :
    (s.finishMove q d digest failed).kept = s.kept := by simp [State.finishMove]

@[simp] theorem State.startStore_kept (s : State) (q : Option Nat) (img : List Byte) :
    (s.startStore q img).kept = s.kept := by simp [State.startStore]

@[simp] theorem State.programSlot_kept (s : State) (img : List Byte) (t : Nat) (recordOk : Bool) :
    (s.programSlot img t recordOk).kept = s.kept := by simp [State.programSlot]

@[simp] theorem State.runBreq_kept (s : State) (q addr op arg len : Nat) : (s.runBreq q addr op arg len).kept = s.kept := by
  simp only [State.runBreq]
  (repeat' split) <;> simp

@[simp] theorem State.runCol_kept (s : State) (q : Nat) (nonce : BitVec 256) (dest : Nat) : (s.runCol q nonce dest).kept = s.kept := by
  unfold State.runCol
  split <;> simp

@[simp] theorem State.runRequest_kept (s : State) (r : Request) : (s.runRequest r).kept = s.kept := by
  unfold State.runRequest
  split <;> simp

@[simp] theorem State.serve_kept (fuel : Nat) (s : State) : (State.serve fuel s).kept = s.kept := by
  induction fuel generalizing s with
  | zero => rfl
  | succ n ih => unfold State.serve; split <;> simp [ih]

@[simp] theorem State.goOnServing_kept (s : State) : s.goOnServing.kept = s.kept := by simp [State.goOnServing]
@[simp] theorem State.breqCtl_kept (s : State) (who : Agent) (q : Nat) (v : Word) : (s.breqCtl who q v).kept = s.kept := by simp [State.breqCtl]
@[simp] theorem State.colCtl_kept (s : State) (who : Agent) (q : Nat) (v : Word) : (s.colCtl who q v).kept = s.kept := by simp [State.colCtl]

@[simp] theorem State.handoverAnswer_kept (s : State) (h q : Nat) (v : Word) :
    (s.handoverAnswer h q v).kept = s.kept := by simp [State.handoverAnswer]

@[simp] theorem writeBreq_kept (s : State) (who : Agent) (q reg : Nat) (v : Word) : (writeBreq s who q reg v).kept = s.kept := by
  unfold writeBreq
  split <;> simp

@[simp] theorem State.submit_kept (s : State) (h op : Nat) (v : Word) : (s.submit h op v).kept = s.kept := by simp [State.submit]
theorem execColophonRequest_keeps (h : Nat) (v : Word) (s : State) : Keeps s (execColophonRequest h v s) := by simp [execColophonRequest]
theorem execHandoverAck_keeps (h : Nat) (v : Word) (s : State) : Keeps s (execHandoverAck h v s) := by simp [execHandoverAck]
theorem execHandoverRefuse_keeps (h : Nat) (v : Word) (s : State) : Keeps s (execHandoverRefuse h v s) := by simp [execHandoverRefuse]

@[simp] theorem handoverTimeout_kept (s : State) (o : Nat) : (handoverTimeout s o).kept = s.kept := by
  unfold handoverTimeout
  split <;> simp

@[simp] theorem movePhaseEnd_kept (s : State) (failed : List UnitId) : (movePhaseEnd s failed).kept = s.kept := by
  unfold movePhaseEnd
  split <;> simp

@[simp] theorem flashProgramDone_kept (s : State) (imageOk recordOk : Bool) : (flashProgramDone s imageOk recordOk).kept = s.kept := by
  unfold flashProgramDone
  (repeat' split) <;> simp

/-! ### Machine/Debug.lean -/

@[simp] theorem State.swdRefuse_kept (s : State) (who : Agent) (write : Bool) : (s.swdRefuse who write).kept = s.kept := by
  unfold State.swdRefuse
  split <;> simp

@[simp] theorem swdFirst_kept (s0 : State) : (swdFirst s0).kept = s0.kept := by simp [swdFirst]
@[simp] theorem swdReset_kept (s0 : State) : (swdReset s0).kept = s0.kept := by simp [swdReset]
@[simp] theorem writeSwd_kept (s : State) (who : Agent) (v : Word) : (writeSwd s who v).kept = s.kept := by simp [writeSwd]
theorem execSwdEnable_keeps (h : Nat) (v : Word) (s : State) : Keeps s (execSwdEnable h v s) := by simp [execSwdEnable]
theorem execKick_keeps (h : Nat) (s : State) : Keeps s (execKick h s) := by simp [execKick]
@[simp] theorem State.releaseHalted_kept (s : State) : s.releaseHalted.kept = s.kept := by simp [State.releaseHalted]

@[simp] theorem State.openSession_kept (s : State) (bits : BitVec 4) (durationS : Nat) :
    (s.openSession bits durationS).kept = s.kept := by simp [State.openSession]

@[simp] theorem State.closeSession_kept (s : State) : s.closeSession.kept = s.kept := by simp [State.closeSession]

theorem execDebugSessionExpiry_keeps (s : State) : Keeps s (execDebugSessionExpiry s) := by
  unfold execDebugSessionExpiry
  split <;> simp

@[simp] theorem State.setCmderr_kept (s : State) (e : Nat) : (s.setCmderr e).kept = s.kept := by simp [State.setCmderr]

@[simp] theorem State.abstractCmd_kept (s : State) (h : Nat) (f : State → State) (hf : ∀ s, (f s).kept = s.kept) :
    (s.abstractCmd h f).kept = s.kept := by
  unfold State.abstractCmd
  (repeat' split) <;> simp [hf]

@[simp] theorem State.debugCsrWrite_kept (s : State) (h n : Nat) (v : Word) : (s.debugCsrWrite h n v).kept = s.kept := by simp [State.debugCsrWrite]

@[simp] theorem State.dmiOp_kept (s : State) (op : DmiOp) : (s.dmiOp op).kept = s.kept := by
  cases op <;> simp [State.dmiOp]

@[simp] theorem State.selectTap_kept (s : State) (die code : Nat) : (s.selectTap die code).kept = s.kept := by simp [State.selectTap]
@[simp] theorem State.tapBypass_kept (s : State) (die : Nat) : (s.tapBypass die).kept = s.kept := by simp [State.tapBypass]

@[simp] theorem State.tapInstr_kept (s : State) (die code : Nat) (iodOnly cond : Bool) :
    (s.tapInstr die code iodOnly cond).kept = s.kept := by simp [State.tapInstr]

@[simp] theorem State.capture_kept (s : State) (v : Nat) : (s.capture v).kept = s.kept := by simp [State.capture]
theorem execExtest_keeps (die : Nat) (s : State) : Keeps s (execExtest die s) := by simp [execExtest]
theorem execIdcode_keeps (die : Nat) (s : State) : Keeps s (execIdcode die s) := by simp [execIdcode]
theorem execClamp_keeps (die : Nat) (s : State) : Keeps s (execClamp die s) := by simp [execClamp]
theorem execHighz_keeps (die : Nat) (s : State) : Keeps s (execHighz die s) := by simp [execHighz]
theorem execChainStatus_keeps (die : Nat) (s : State) : Keeps s (execChainStatus die s) := by simp [execChainStatus]
theorem execDtmcs_keeps (die : Nat) (s : State) : Keeps s (execDtmcs die s) := by simp [execDtmcs]
theorem execDmi_keeps (die : Nat) (op : DmiOp) (s : State) : Keeps s (execDmi die op s) := by simp [execDmi]
@[simp] theorem State.captureWrap_kept (s : State) (die code : Nat) : (s.captureWrap die code).kept = s.kept := by simp [State.captureWrap]
theorem execWrapExtest_keeps (die : Nat) (s : State) : Keeps s (execWrapExtest die s) := by simp [execWrapExtest]
theorem execWrapIntest_keeps (die : Nat) (s : State) : Keeps s (execWrapIntest die s) := by simp [execWrapIntest]
theorem execIjtagAccess_keeps (die : Nat) (s : State) : Keeps s (execIjtagAccess die s) := by simp [execIjtagAccess]
theorem execBypass_keeps (die code : Nat) (s : State) : Keeps s (execBypass die code s) := by simp [execBypass]

/-! ### Machine/Governor.lean -/

@[simp] theorem State.epochSlack_kept (s : State) : s.epochSlack.2.kept = s.kept := by
  unfold State.epochSlack
  split <;> simp

@[simp] theorem State.govLog_kept (s : State) (kind reason qid old new target : Nat) (slack : Word) :
    (s.govLog kind reason qid old new target slack).kept = s.kept := by simp [State.govLog]

@[simp] theorem State.govLogAt_kept (s : State) (kind reason qid old new target : Nat) :
    (s.govLogAt kind reason qid old new target).kept = s.kept := by simp [State.govLogAt]

@[simp] theorem writeGovSel_kept (s : State) (who : Agent) (v : Word) : (writeGovSel s who v).kept = s.kept := by
  unfold writeGovSel
  split <;> simp

@[simp] theorem State.epochQuire_kept (s : State) (r : GovRec) : (s.epochQuire r).kept = s.kept := by
  simp only [State.epochQuire]
  (repeat' split) <;> simp

@[simp] theorem State.throttleOne_kept (s : State) (reason c : Nat) : (s.throttleOne reason c).kept = s.kept := by simp [State.throttleOne]
@[simp] theorem State.limitUnmet_kept (s : State) : s.limitUnmet.kept = s.kept := by simp [State.limitUnmet]

@[simp] theorem State.epochLimits_kept (s : State) (t : Telemetry) : (s.epochLimits t).kept = s.kept := by
  unfold State.epochLimits
  split <;> simp

@[simp] theorem State.epochShare_kept (s : State) (g : GovPkg) (n : Nat) : (s.epochShare g n).kept = s.kept := by simp [State.epochShare]

@[simp] theorem State.epochLend_kept (s : State) (g : GovPkg) (n q : Nat) (m : BitVec 16) :
    (s.epochLend g n q m).kept = s.kept := by simp [State.epochLend]

@[simp] theorem State.epochPrefetch_kept (s : State) (h n : Nat) : (s.epochPrefetch h n).kept = s.kept := by simp [State.epochPrefetch]
@[simp] theorem State.epochRefresh_kept (s : State) (g : GovPkg) (n : Nat) : (s.epochRefresh g n).kept = s.kept := by simp [State.epochRefresh]

@[simp] theorem State.epochAdjust_kept (s : State) (t : Telemetry) : (s.epochAdjust t).kept = s.kept := by
  unfold State.epochAdjust
  (repeat' split) <;> simp

@[simp] theorem governorEpoch_kept (s : State) (t : Telemetry) : (governorEpoch s t).kept = s.kept := by simp [governorEpoch]

@[simp] theorem frequencySwitch_kept (s : State) (c : Nat) : (frequencySwitch s c).kept = s.kept := by
  simp only [frequencySwitch]
  (repeat' split) <;> simp

@[simp] theorem currentLimiterTrip_kept (s : State) : (currentLimiterTrip s).kept = s.kept := by simp [currentLimiterTrip]
@[simp] theorem writeCidle_kept (s : State) (who : Agent) (core : Nat) (v : Word) : (writeCidle s who core v).kept = s.kept := by simp [writeCidle]

/-! ### Machine/Package.lean -/

@[simp] theorem writePkCtl_kept (s : State) (who : Agent) (v : Word) : (writePkCtl s who v).kept = s.kept := by simp [writePkCtl]
theorem execPkCtlGo_keeps (h : Nat) (v : Word) (s : State) : Keeps s (execPkCtlGo h v s) := by simp [execPkCtlGo]
@[simp] theorem State.pkEntered_kept (s : State) (k : Nat) : (s.pkEntered k).kept = s.kept := by simp [State.pkEntered]
@[simp] theorem pk1Entry_kept (s : State) : (pk1Entry s).kept = s.kept := by simp [pk1Entry]
@[simp] theorem State.sleepMisses_kept (s : State) : s.sleepMisses.kept = s.kept := by simp [State.sleepMisses]
@[simp] theorem pkEntry_kept (s : State) : (pkEntry s).kept = s.kept := by simp [pkEntry]
@[simp] theorem State.loseCds_kept (s : State) : s.loseCds.kept = s.kept := by simp [State.loseCds]
@[simp] theorem State.losePk3_kept (s : State) : s.losePk3.kept = s.kept := by simp [State.losePk3]
@[simp] theorem State.startExit_kept (s : State) (src : PkSrc) : (s.startExit src).kept = s.kept := by simp [State.startExit]

@[simp] theorem State.wakeBy_kept (s : State) (src : PkSrc) : (s.wakeBy src).kept = s.kept := by
  unfold State.wakeBy
  split <;> simp

@[simp] theorem pkEntryComplete_kept (s : State) : (pkEntryComplete s).kept = s.kept := by
  simp only [pkEntryComplete]
  (repeat' split) <;> simp

theorem execPkWake_keeps (src : PkSrc) (s : State) : Keeps s (execPkWake src s) := by simp [execPkWake]
theorem execWakeTimeReached_keeps (s : State) : Keeps s (execWakeTimeReached s) := by simp [execWakeTimeReached]
@[simp] theorem State.restorePk3_kept (s : State) : s.restorePk3.kept = s.kept := by simp [State.restorePk3]

@[simp] theorem pkExitComplete_kept (s : State) : (pkExitComplete s).kept = s.kept := by
  unfold pkExitComplete
  split <;> simp

/-! ### Machine/Firefly.lean -/

@[simp] theorem State.ruleLog_kept (s : State) (n : Nat) : (s.ruleLog n).kept = s.kept := by simp [State.ruleLog]
@[simp] theorem State.ruleGpio_kept (s : State) (w : Word) : (s.ruleGpio w).kept = s.kept := by simp [State.ruleGpio]

@[simp] theorem State.ruleActs_kept (s : State) (rs : List (Nat × Word)) : (s.ruleActs rs).kept = s.kept := by
  simp only [State.ruleActs, State.kept_ite, State.wakeBy_kept, ite_self]
  rw [foldl_kept _ _ _ fun s e => State.ruleGpio_kept ..]
  simp only [State.kept_ite, State.alert_kept, ite_self]
  split <;> simp

@[simp] theorem State.ruleRecovery_kept (s : State) : s.ruleRecovery.kept = s.kept := by
  unfold State.ruleRecovery
  split <;> simp

@[simp] theorem ffRuleEvaluation_kept (s : State) (i : FfInputs) : (ffRuleEvaluation s i).kept = s.kept := by simp [ffRuleEvaluation]
@[simp] theorem writeFfData_kept (s : State) (who : Agent) (v : Word) : (writeFfData s who v).kept = s.kept := by simp [writeFfData]
@[simp] theorem writeFf_kept (s : State) (who : Agent) (off : Nat) (v : Word) : (writeFf s who off v).kept = s.kept := by simp [writeFf]
theorem execFfDataWrite_keeps (h : Nat) (v : Word) (s : State) : Keeps s (execFfDataWrite h v s) := by simp [execFfDataWrite]
@[simp] theorem State.ffDataAfter_kept (s : State) : s.ffDataAfter.kept = s.kept := by simp [State.ffDataAfter]
theorem execFfDataRead_keeps (h rd : Nat) (s : State) : Keeps s (execFfDataRead h rd s) := by simp [execFfDataRead]
@[simp] theorem ffLockstep_kept (s : State) : (ffLockstep s).kept = s.kept := by simp [ffLockstep]
theorem execFireflyRestartDone_keeps (s : State) : Keeps s (execFireflyRestartDone s) := by simp [execFireflyRestartDone]
@[simp] theorem State.railFaultOf_kept (s : State) (u : UnitId) : (s.railFaultOf u).kept = s.kept := by simp [State.railFaultOf]
@[simp] theorem nocPllLockLost_kept (s : State) (die : Nat) : (nocPllLockLost s die).kept = s.kept := by simp [nocPllLockLost]
theorem execRailFault_keeps (units : List UnitId) (s : State) : Keeps s (execRailFault units s) := by simp [execRailFault]

/-! ### Machine/Smbus.lean -/

@[simp] theorem State.answer_kept (s : State) (data : List Byte) : (s.answer data).kept = s.kept := by simp [State.answer]
@[simp] theorem State.answerRefused_kept (s : State) (y : Syndrome) : (s.answerRefused y).kept = s.kept := by simp [State.answerRefused]
@[simp] theorem smbStatus_kept (s : State) : (smbStatus s).kept = s.kept := by simp [smbStatus]
@[simp] theorem smbColophon_kept (s : State) (nonce : BitVec 256) : (smbColophon s nonce).kept = s.kept := by simp [smbColophon]
@[simp] theorem State.setOwner_kept (s : State) (i : Nat) (o : Owner) : (s.setOwner i o).kept = s.kept := by simp [State.setOwner]
@[simp] theorem ownerEnrol_kept (s : State) (mldsaPk ecdsaPk : List Byte) : (ownerEnrol s mldsaPk ecdsaPk).kept = s.kept := by simp [ownerEnrol]

@[simp] theorem ownerUpdate_kept (s : State) (slot state : Nat) (hashes : List Byte) (counter : Nat) (sig : SigBlock) :
    (ownerUpdate s slot state hashes counter sig).kept = s.kept := by
  unfold ownerUpdate
  (repeat' split) <;> simp

@[simp] theorem loadBinding_kept (s : State) (img : List Byte) : (loadBinding s img).kept = s.kept := by
  unfold loadBinding
  (repeat' split) <;> simp

@[simp] theorem debugChallenge_kept (s : State) : (debugChallenge s).kept = s.kept := by simp [debugChallenge]

theorem execDebugChallengeExpiry_keeps (s : State) : Keeps s (execDebugChallengeExpiry s) := by
  unfold execDebugChallengeExpiry
  split <;> simp

@[simp] theorem debugOpen_kept (s : State) (bits durationS : Nat) (sig : SigBlock) :
    (debugOpen s bits durationS sig).kept = s.kept := by simp [debugOpen]

theorem execDebugClose_keeps (s : State) : Keeps s (execDebugClose s) := by simp [execDebugClose]
@[simp] theorem repairClear_kept (s : State) (x : Nat) : (repairClear s x).kept = s.kept := by simp [repairClear]

/-! ### Machine/Regs.lean -/

@[simp] theorem State.regDenied_kept (s : State) (who : Agent) (r : Reg) : (s.regDenied who r).kept = s.kept := by
  unfold State.regDenied
  split <;> simp

@[simp] theorem State.regAfter_kept (s : State) (r : Reg) : (s.regAfter r).kept = s.kept := by
  unfold State.regAfter
  (repeat' split) <;> simp

@[simp] theorem State.regStore_kept (s : State) (who : Agent) (die block off : Nat) (r : Reg) (v : Word) :
    (s.regStore who die block off r v).kept = s.kept := by
  unfold State.regStore
  (repeat' split) <;> simp

theorem State.ctlLoad_kept (s : State) (h a size : Nat) : Sum.elim (fun t => t.kept = s.kept) (fun r => r.2.kept = s.kept) (s.ctlLoad h a size) := by
  unfold State.ctlLoad
  (repeat' split) <;> simp

theorem State.ctlStore_kept (s : State) (who : Agent) (a size : Nat) (v : Word) :
    Sum.elim (fun t => t.kept = s.kept) (fun r => r.kept = s.kept) (s.ctlStore who a size v) := by
  unfold State.ctlStore
  (repeat' split) <;> simp

@[simp] theorem registerWrite_kept (s : State) (who : Agent) (tgt : RegTarget) (v : Word) : (registerWrite s who tgt v).kept = s.kept := by
  unfold registerWrite
  split
  next a size =>
    refine State.asAgent_kept _ _ _ fun s => ?_
    have hctl := s.ctlStore_kept who a size v
    split <;> simp_all
  next => split <;> simp

/-! ### Machine/Access.lean -/

@[simp] theorem State.noteXlate_kept (s : State) (h : Nat) (k : AccKind) (va : Word) (spec : Bool) :
    (s.noteXlate h k va spec).kept = s.kept := by simp [State.noteXlate]

@[simp] theorem State.accFault_kept (s : State) (h : Nat) (k : AccKind) (va : Word) (spec : Bool) :
    (s.accFault h k va spec).kept = s.kept := by simp [State.accFault]

theorem State.locate_kept (s : State) (h : Nat) (k : AccKind) (va : Word) (n : Nat) (spec : Bool) :
    Sum.elim (fun t => t.kept = s.kept) (fun r => r.1.kept = s.kept) (s.locate h k va n spec) := by
  unfold State.locate
  (repeat' split) <;> simp

@[simp] theorem State.misaligned_kept (s : State) (h : Nat) (k : AccKind) (va : Word) : (s.misaligned h k va).kept = s.kept := by
  have hat := s.locate_kept h k va 1 false
  unfold State.misaligned
  split <;> simp_all

@[simp] theorem State.tlbUpset_kept (s : State) (h : Nat) (k : AccKind) (va : Word) (u : Upset) : (s.tlbUpset h k va u).1.kept = s.kept := by
  simp only [State.tlbUpset]
  (repeat' split) <;> simp

theorem State.locateWith_kept (s : State) (h : Nat) (k : AccKind) (va : Word) (n : Nat) (spec : Bool) (u : Upset) :
    Sum.elim (fun t => t.kept = s.kept) (fun r => r.1.kept = s.kept) (s.locateWith h k va n spec u) := by
  have hat := (s.tlbUpset h k va u).1.locate_kept h k va n spec
  simp only [State.locateWith]
  split
  · simp
  · simpa using hat

@[simp] theorem State.cacheUpset_kept (s : State) (h l : Nat) (fetch : Bool) (u : Upset) : (s.cacheUpset h l fetch u).1.kept = s.kept := by
  simp only [State.cacheUpset]
  (repeat' split) <;> simp

@[simp] theorem State.recallLine_kept (s : State) (h : Nat) (va : Word) (l : Nat) (spec : Bool) :
    (s.recallLine h va l spec).kept = s.kept := by simp [State.recallLine]

@[simp] theorem State.ownAccess_kept (s : State) (h : Nat) (va : Word) (l : Nat) (w : Waiter) : (s.ownAccess h va l w).kept = s.kept := by
  simp only [State.ownAccess]
  (repeat' split) <;> simp

@[simp] theorem State.ownWith_kept (s : State) (h : Nat) (va : Word) (l : Nat) (u : Upset) (w : Waiter) :
    (s.ownWith h va l u w).kept = s.kept := by simp [State.ownWith]

@[simp] theorem State.ncLoad_kept (s : State) (h : Nat) (o : LoadOp) (pa : Nat) : (s.ncLoad h o pa).kept = s.kept := by simp [State.ncLoad]
@[simp] theorem State.loaded_kept (s : State) (h : Nat) (o : LoadOp) (v : Word) : (s.loaded h o v).kept = s.kept := by simp [State.loaded]

@[simp] theorem State.ioLoad_kept (s : State) (h : Nat) (o : LoadOp) (pa : Nat) : (s.ioLoad h o pa).kept = s.kept := by
  have hctl := (s.modHart h (fun x => x.count 37 1)).ctlLoad_kept h pa (2 ^ o.size)
  simp only [State.ioLoad]
  (repeat' split) <;> simp_all

@[simp] theorem State.cachedLoad_kept (s : State) (h : Nat) (o : LoadOp) (pa : Nat) (u : Upset) :
    (s.cachedLoad h o pa u).kept = s.kept := by simp [State.cachedLoad]

@[simp] theorem loadAccess_kept (s : State) (h : Nat) (o : LoadOp) (u : Upset) : (loadAccess s h o u).kept = s.kept := by
  have hat := s.locateWith_kept h (loadKind o) o.va (2 ^ o.size) o.spec u
  simp only [loadAccess]
  (repeat' split) <;> simp_all

theorem execLoad_keeps (h : Nat) (o : LoadOp) (u : Upset) (s : State) : Keeps s (execLoad h o u s) := by simp [execLoad]

@[simp] theorem State.ncStore_kept (fuel : Nat) (s : State) (h : Nat) (st : MissSt) (node : Nat) (va : Word) (pa : Nat) (bs : List Byte) :
    (State.ncStore fuel s h st node va pa bs).kept = s.kept := by
  induction fuel generalizing s pa bs with
  | zero => rfl
  | succ n ih => unfold State.ncStore; split <;> simp [ih]

@[simp] theorem State.ioStore_kept (s : State) (h : Nat) (va : Word) (pa size : Nat) (v : Word) : (s.ioStore h va pa size v).kept = s.kept := by
  have hctl := (s.modHart h (fun x => x.count 37 1)).ctlStore_kept (.hart h) pa (2 ^ size) v
  simp only [State.ioStore]
  (repeat' split) <;> simp_all

@[simp] theorem State.ncPut_kept (s : State) (h : Nat) (va : Word) (pa : Nat) (bs : List Byte) :
    (s.ncPut h va pa bs).kept = s.kept := by simp [State.ncPut]

@[simp] theorem storeAccess_kept (s : State) (h : Nat) (va : Word) (size : Nat) (data : Word) (u : Upset) :
    (storeAccess s h va size data u).kept = s.kept := by
  have hat := s.locateWith_kept h .store va (2 ^ size) false u
  simp only [storeAccess]
  (repeat' split) <;> simp_all

theorem execRetiringStore_keeps (h : Nat) (va : Met Word) (size : Nat) (data : Word) (s : State) :
    Keeps s (execRetiringStore h va size data s) := by simp [execRetiringStore]

@[simp] theorem State.farSend_kept (s : State) (h : Nat) (o : AmoOp) (pa : Nat) : (s.farSend h o pa).kept = s.kept := by simp [State.farSend]

@[simp] theorem State.amoAt_kept (s : State) (h : Nat) (o : AmoOp) (pa : Nat) (st : MissSt) : (s.amoAt h o pa st).kept = s.kept := by
  unfold State.amoAt
  split <;> simp

theorem State.amoGo_kept (s : State) (h : Nat) (o : AmoOp) (pa : Nat) (p : AccPlace) (t : State) :
    ((s.amoGo h o pa p).2 t).kept = t.kept := by
  unfold State.amoGo
  split
  · simp
  · simp
  · split <;> simp

@[simp] theorem amoAccess_kept (s : State) (h : Nat) (o : AmoOp) (u : Upset) : (amoAccess s h o u).kept = s.kept := by
  have hat := s.locateWith_kept h .store o.va (2 ^ o.size) false u
  have hgo (p : AccPlace) (pa size : Nat) (data : Option Nat) (r : State) :
      (r.released h .amo o.va pa size data (r.amoGo h o pa p).1 (r.amoGo h o pa p).2).kept = r.kept :=
    State.released_kept _ _ _ _ _ _ _ _ _ fun t => State.amoGo_kept ..
  simp only [amoAccess]
  split
  · rfl
  · split
    · simp
    · split
      next t e => simpa [e] using hat
      next t pa p e =>
        have ht : t.kept = s.kept := by simpa [e] using hat
        split <;> simp [hgo, ht]

theorem execAmo_keeps (h : Nat) (o : Met AmoOp) (s : State) : Keeps s (execAmo h o s) :=
  Keeps.next (State.instr_kept _ _ _ fun s => State.watched_kept _ _ _ _ _ _ _ fun s => by simp)

@[simp] theorem lrAccess_kept (s : State) (h rd : Nat) (va : Word) (size : Nat) (u : Upset) : (lrAccess s h rd va size u).kept = s.kept := by
  have hat := s.locateWith_kept h .load va (2 ^ size) false u
  simp only [lrAccess]
  (repeat' split) <;> simp_all

theorem execLr_keeps (h rd : Nat) (va : Met Word) (size : Nat) (s : State) : Keeps s (execLr h rd va size s) := by simp [execLr]
@[simp] theorem State.endReserve_kept (s : State) (h : Nat) : (s.endReserve h).kept = s.kept := by simp [State.endReserve]

@[simp] theorem State.scPerform_kept (s : State) (h rd : Nat) (va : Word) (pa size : Nat) (data : Word) :
    (s.scPerform h rd va pa size data).kept = s.kept := by simp [State.scPerform]

@[simp] theorem State.scGo_kept (s : State) (h rd : Nat) (va : Word) (pa size : Nat) (data : Word) : (s.scGo h rd va pa size data).kept = s.kept := by
  simp only [State.scGo]
  (repeat' split) <;> simp

@[simp] theorem scAccess_kept (s : State) (h rd : Nat) (va : Word) (size : Nat) (data : Word) (u : Upset) :
    (scAccess s h rd va size data u).kept = s.kept := by
  have hat := s.locateWith_kept h .store va (2 ^ size) false u
  simp only [scAccess]
  (repeat' split) <;> simp_all

theorem execSc_keeps (h rd : Nat) (va : Met Word) (size : Nat) (data : Word) (s : State) : Keeps s (execSc h rd va size data s) := by simp [execSc]

theorem State.locateBlock_kept (s : State) (h : Nat) (va : Word) :
    Sum.elim (fun t => t.kept = s.kept) (fun r => r.1.kept = s.kept) (s.locateBlock h va) := by
  simp only [State.locateBlock]
  (repeat' split) <;> simp

@[simp] theorem State.cleanBlock_kept (s : State) (l : Nat) : (s.cleanBlock l).kept = s.kept := by
  unfold State.cleanBlock
  split <;> simp

@[simp] theorem State.dropBlock_kept (s : State) (l : Nat) : (s.dropBlock l).kept = s.kept := by simp [State.dropBlock]

@[simp] theorem State.flushBlock_kept (s : State) (l : Nat) : (s.flushBlock l).kept = s.kept := by
  unfold State.flushBlock
  split <;> simp

@[simp] theorem CboKind.act_kept (k : CboKind) (x : Hart) (s : State) (l : Nat) : (CboKind.act k x s l).kept = s.kept := by
  unfold CboKind.act
  split <;> simp

@[simp] theorem cboOp_kept (s : State) (h : Nat) (va : Word) (k : CboKind) : (cboOp s h va k).kept = s.kept := by
  have hat := s.locateBlock_kept h va
  simp only [cboOp]
  (repeat' split) <;> simp_all

theorem execCboClean_keeps (h : Nat) (va : Word) (s : State) : Keeps s (execCboClean h va s) := by simp [execCboClean]
theorem execCboFlush_keeps (h : Nat) (va : Word) (s : State) : Keeps s (execCboFlush h va s) := by simp [execCboFlush]
theorem execCboInval_keeps (h : Nat) (va : Word) (s : State) : Keeps s (execCboInval h va s) := by simp [execCboInval]

@[simp] theorem cboZero_kept (s : State) (h : Nat) (va : Word) : (cboZero s h va).kept = s.kept := by
  have hat := s.locate_kept h .store (word (va.toNat / 64 * 64)) 64 false
  simp only [cboZero]
  (repeat' split) <;> simp_all

theorem execCboZero_keeps (h : Nat) (va : Word) (s : State) : Keeps s (execCboZero h va s) := by simp [execCboZero]

@[simp] theorem State.prefetchLine_kept (s : State) (h l : Nat) (va : Word) (spec fetch : Bool) :
    (s.prefetchLine h l va spec fetch).kept = s.kept := by simp [State.prefetchLine]

@[simp] theorem zicbopPrefetch_kept (s : State) (h : Nat) (kind : PrefetchKind) (va : Word) : (zicbopPrefetch s h kind va).kept = s.kept := by
  simp only [zicbopPrefetch]
  (repeat' split) <;> simp

theorem execZicbopPrefetch_keeps (h : Nat) (kind : PrefetchKind) (va : Word) (s : State) :
    Keeps s (execZicbopPrefetch h kind va s) := by simp [execZicbopPrefetch]

@[simp] theorem hardwarePrefetch_kept (s : State) (h : Nat) (trigger va : Word) : (hardwarePrefetch s h trigger va).kept = s.kept := by
  simp only [hardwarePrefetch]
  (repeat' split) <;> simp

theorem execHardwarePrefetch_keeps (h : Nat) (trigger va : Word) (s : State) :
    Keeps s (execHardwarePrefetch h trigger va s) := by simp [execHardwarePrefetch]

@[simp] theorem lockOp_kept (s : State) (h rd rs1 : Nat) (f : State → Word → Nat → State) (hf : ∀ s a b, (f s a b).kept = s.kept) :
    (lockOp s h rd rs1 f).kept = s.kept := by
  have hat := s.locate_kept h .load ((s.hart h).getX rs1) 1 false
  simp only [lockOp]
  split <;> simp_all

@[simp] theorem State.lockGo_kept (s : State) (h rd : Nat) (va : Word) (pa : Nat) : (s.lockGo h rd va pa).kept = s.kept := by simp [State.lockGo]
theorem execLzLock_keeps (h rd rs1 : Nat) (s : State) : Keeps s (execLzLock h rd rs1 s) := by simp [execLzLock]

theorem execLzUnlock_keeps (h rd rs1 : Nat) (s : State) : Keeps s (execLzUnlock h rd rs1 s) :=
  Keeps.next (State.instr_kept _ _ _ fun s => lockOp_kept _ _ _ _ _ fun s va pa => by simp)

@[simp] theorem State.portRequest_kept (s : State) (m : CohMsg) (g : Nat) : (s.portRequest m g).kept = s.kept := by simp [State.portRequest]

@[simp] theorem ncRequest_kept (s : State) (m : CohMsg) : (ncRequest s m).kept = s.kept := by
  unfold ncRequest
  (repeat' split) <;> simp

theorem execRdnc_keeps (m : Met CohMsg) (s : State) : Keeps s (execRdnc m s) := by simp [execRdnc]
theorem execWrnc_keeps (m : Met CohMsg) (s : State) : Keeps s (execWrnc m s) := by simp [execWrnc]
theorem execAmom_keeps (m : Met CohMsg) (s : State) : Keeps s (execAmom m s) := by simp [execAmom]

@[simp] theorem State.logTimeout_kept (s : State) (origin dst tag line qid : Nat) :
    (s.logTimeout origin dst tag line qid).kept = s.kept := by simp [State.logTimeout]

@[simp] theorem State.missExpired_kept (s : State) (h : Nat) (m : Miss) : (s.missExpired h m).kept = s.kept := by simp [State.missExpired]
@[simp] theorem State.wbExpired_kept (s : State) (h : Nat) (w : Wb) : (s.wbExpired h w).kept = s.kept := by simp [State.wbExpired]

@[simp] theorem hartTimeout_kept (s : State) (h tag : Nat) : (hartTimeout s h tag).kept = s.kept := by
  simp only [hartTimeout]
  (repeat' split) <;> simp

@[simp] theorem State.retryOnce_kept (s : State) (node tag : Nat) : (s.retryOnce node tag).kept = s.kept := by
  unfold State.retryOnce
  split <;> simp

@[simp] theorem State.laneTimeout_kept (s : State) (lane i : Nat) : (s.laneTimeout lane i).kept = s.kept := by
  unfold State.laneTimeout
  split <;> simp

@[simp] theorem nodeTimeout_kept (s : State) (node tag : Nat) : (nodeTimeout s node tag).kept = s.kept := by
  unfold nodeTimeout
  (repeat' split) <;> simp

theorem execCompletionTimeout_keeps (who : Agent) (tag : Nat) (s : State) : Keeps s (execCompletionTimeout who tag s) := by
  unfold execCompletionTimeout
  split <;> simp

/-! ### Machine/Flush.lean -/

@[simp] theorem pwrfailNFall_kept (s : State) : (pwrfailNFall s).kept = s.kept := by
  simp only [pwrfailNFall]
  (repeat' split) <;> simp

@[simp] theorem State.abortQuiesce_kept (s : State) : s.abortQuiesce.kept = s.kept := by
  unfold State.abortQuiesce
  split <;> simp

@[simp] theorem persistentFlush_kept (s : State) (byRule : Bool) : (persistentFlush s byRule).kept = s.kept := by simp [persistentFlush]

@[simp] theorem flushDrained_kept (s : State) (failed : List (Nat × Nat)) : (flushDrained s failed).kept = s.kept := by
  unfold flushDrained
  (repeat' split) <;> simp

@[simp] theorem pflushDone_kept (s : State) : (pflushDone s).kept = s.kept := by simp [pflushDone]

@[simp] theorem pwrfailRecovery_kept (s : State) : (pwrfailRecovery s).kept = s.kept := by
  simp only [pwrfailRecovery]
  (repeat' split) <;> simp

/-! ### Machine/Pair.lean -/

theorem State.bufferAt_kept (s : State) (h : Nat) (k : AccKind) (va : Word) :
    Sum.elim (fun t => t.kept = s.kept) (fun r => r.1.kept = s.kept) (s.bufferAt h k va) := by
  have hat := s.locate_kept h k va 64 false
  simp only [State.bufferAt]
  (repeat' split) <;> simp_all

@[simp] theorem State.sendFrom_kept (s : State) (h rd : Nat) (va : Word) (pa : Nat) (d : Line × Poison) :
    (s.sendFrom h rd va pa d).kept = s.kept := by simp [State.sendFrom]

@[simp] theorem mbsendAccess_kept (s : State) (h rd rs1 : Nat) : (mbsendAccess s h rd rs1).kept = s.kept := by
  have hat := s.bufferAt_kept h .load ((s.hart h).getX rs1)
  simp only [mbsendAccess]
  (repeat' split) <;> simp_all

theorem execLzMbsend_keeps (h rd rs1 : Nat) (s : State) : Keeps s (execLzMbsend h rd rs1 s) := by simp [execLzMbsend]
@[simp] theorem State.tookEntry_kept (s : State) (h rd : Nat) : (s.tookEntry h rd).kept = s.kept := by simp [State.tookEntry]

@[simp] theorem mbrecvAccess_kept (s : State) (h rd : Nat) (va : Word) (e : InboxEnt) : (mbrecvAccess s h rd va e).kept = s.kept := by
  have hat := s.bufferAt_kept h .store va
  simp only [mbrecvAccess]
  (repeat' split) <;> simp_all

theorem execLzMbrecv_keeps (h rd rs1 : Nat) (s : State) : Keeps s (execLzMbrecv h rd rs1 s) :=
  Keeps.next (State.instr_kept _ _ _ fun s => by split <;> simp)

theorem State.pairStore_kept {s t : State} {h : Nat} {r : PairCopy} (e : s.pairStore h r = some t) : t.kept = s.kept := by
  simp only [State.pairStore] at e
  split at e <;> split at e <;> cases e <;> simp

@[simp] theorem pairRelease_kept (s : State) (h : Nat) : (pairRelease s h).kept = s.kept := by
  simp only [pairRelease]
  split
  · rfl
  next r _ _ =>
    split
    · cases e : (s.modHart h (fun x => { x with pairReady := none }.count 53 1)).pairStore h r with
      | none => rfl
      | some t => simpa using State.pairStore_kept e
    · simp

/-! ### Machine/Dispatch.lean -/

/-- Every command keeps the fuses and the queue, each by the lemma about its meaning. -/
theorem exec_keeps (c : Instr) (s : State) : Keeps s (exec c s) :=
  match c with
  | .registerWrite .. => .next (registerWrite_kept ..)
  | .refclkLost => execRefclkLost_keeps ..
  | .refclkRestored => .next (refclkRestored_kept ..)
  | .nocPllLockLost .. => .next (nocPllLockLost_kept ..)
  | .frameBoundary => .next (frameBoundary_kept ..)
  | .slewAdjustedFrame => execSlewAdjustedFrame_keeps ..
  | .ptStep .. => execPtStep_keeps ..
  | .ptSlew .. => execPtSlew_keeps ..
  | .ptStatRead .. => execPtStatRead_keeps ..
  | .timeBroadcast => .next (timeBroadcast_kept ..)
  | .crossingMark => .next (crossingMark_kept ..)
  | .markArrival .. => .next (markArrival_kept ..)
  | .markerReport .. => .next (markerReport_kept ..)
  | .stbyPwrgoodRise => .next (stbyPwrgoodRise_kept ..)
  | .stbyPwrgoodFall => .next (stbyPwrgoodFall_kept ..)
  | .pwrgoodFall => .next (pwrgoodFall_kept ..)
  | .resetNRise .. => .next (resetNRise_kept ..)
  | .pllLocked => .next (pllLocked_kept ..)
  | .claspBoot => .next (claspBoot_kept ..)
  | .bindingSelect => .next (bindingSelect_kept ..)
  | .crossingTraining .. => execCrossingTraining_keeps ..
  | .memoryTraining .. => .next (memoryTraining_kept ..)
  | .bindingApply .. => .next (bindingApply_kept ..)
  | .applyDelta .. => .next (State.submit_kept ..)
  | .handoverAck .. => execHandoverAck_keeps ..
  | .handoverRefuse .. => execHandoverRefuse_keeps ..
  | .handoverTimeout .. => .next (handoverTimeout_kept ..)
  | .movePhaseEnd .. => .next (movePhaseEnd_kept ..)
  | .store .. => .next (State.submit_kept ..)
  | .flashProgramDone .. => .next (flashProgramDone_kept ..)
  | .hartStart .. => .next (State.submit_kept ..)
  | .colophonRequest .. => execColophonRequest_keeps ..
  | .colophonResign => .next (colophonResign_kept ..)
  | .status => .next (smbStatus_kept ..)
  | .colophon .. => .next (smbColophon_kept ..)
  | .ownerEnrol .. => .next (ownerEnrol_kept ..)
  | .ownerUpdate .. => .next (ownerUpdate_kept ..)
  | .loadBinding .. => .next (loadBinding_kept ..)
  | .debugChallenge => .next (debugChallenge_kept ..)
  | .debugChallengeExpiry => execDebugChallengeExpiry_keeps ..
  | .debugOpen .. => .next (debugOpen_kept ..)
  | .debugClose => execDebugClose_keeps ..
  | .debugSessionExpiry => execDebugSessionExpiry_keeps ..
  | .repairClear .. => .next (repairClear_kept ..)
  | .instructionRetire .. => execInstructionRetire_keeps ..
  | .branchResolve .. => .next (branchResolve_kept ..)
  | .lzLoop .. => execLzLoop_keeps ..
  | .lzLoopi .. => .next (loopSetup_kept ..)
  | .lzSpecfence .. => execLzSpecfence_keeps ..
  | .lzLock .. => execLzLock_keeps ..
  | .lzUnlock .. => execLzUnlock_keeps ..
  | .lzMbsend .. => execLzMbsend_keeps ..
  | .lzMbrecv .. => execLzMbrecv_keeps ..
  | .load .. => execLoad_keeps ..
  | .retiringStore .. => execRetiringStore_keeps ..
  | .amo .. => execAmo_keeps ..
  | .lr .. => execLr_keeps ..
  | .sc .. => execSc_keeps ..
  | .lrSnoopDeferExpiry .. => .next (lrSnoopDeferExpiry_kept ..)
  | .fence .. => execFence_keeps ..
  | .fenceI .. => execFenceI_keeps ..
  | .sfenceVma .. => execSfenceVma_keeps ..
  | .hfenceVvma .. => execHfenceVvma_keeps ..
  | .hfenceGvma .. => execHfenceGvma_keeps ..
  | .cboClean .. => execCboClean_keeps ..
  | .cboFlush .. => execCboFlush_keeps ..
  | .cboInval .. => execCboInval_keeps ..
  | .cboZero .. => execCboZero_keeps ..
  | .zicbopPrefetch .. => execZicbopPrefetch_keeps ..
  | .hardwarePrefetch .. => execHardwarePrefetch_keeps ..
  | .wfi .. => execWfi_keeps ..
  | .cStateEntryComplete .. => .next (cStateEntryComplete_kept ..)
  | .coreWake .. => .next (coreWake_kept ..)
  | .trapEntry .. => execTrapEntry_keeps ..
  | .xret .. => execXret_keeps ..
  | .interruptTaken .. => execInterruptTaken_keeps ..
  | .satpWrite .. => execSatpWrite_keeps ..
  | .lzworldWrite .. => .next (csrRow_kept ..)
  | .lzdlarmWrite .. => execLzdlarmWrite_keeps ..
  | .lzdlctlWrite .. => .next (csrRow_kept ..)
  | .deadlineMiss .. => .next (deadlineMiss_kept ..)
  | .tlbLock .. => execTlbLock_keeps ..
  | .tlbUnlock .. => execTlbUnlock_keeps ..
  | .tlbQuery .. => execTlbQuery_keeps ..
  | .pageWalk .. => execPageWalk_keeps ..
  | .mailboxMessage .. => .next (mailFlits_kept ..)
  | .mailboxAnswer .. => execMailboxAnswer_keeps ..
  | .mailboxResend .. => .next (mailboxResend_kept ..)
  | .mailboxUTimeout .. => .next (mailboxUTimeout_kept ..)
  | .gMessageSend .. => .next (gMessageSend_kept ..)
  | .pairRequest .. => .next (pairRequest_kept ..)
  | .pairRelease .. => .next (pairRelease_kept ..)
  | .pairTimeout .. => .next (pairTimeout_kept ..)
  | .l2WaycfgWrite .. => execL2WaycfgWrite_keeps ..
  | .flushL1d .. => execFlushL1d_keeps ..
  | .flushL2 .. => execFlushL2_keeps ..
  | .flushAll .. => execFlushAll_keeps ..
  | .unlockAll .. => execUnlockAll_keeps ..
  | .cacheCtlDone .. => execCacheCtlDone_keeps ..
  | .l3qLockWrite .. => execL3qLockWrite_keeps ..
  | .l3qFillWrite .. => execL3qFillWrite_keeps ..
  | .l3qFlush .. => execL3qFlush_keeps ..
  | .l3qFlushDone .. => execL3qFlushDone_keeps ..
  | .l3qReseed .. => execL3qReseed_keeps ..
  | .l3SliceFence .. => .next (l3SliceFence_kept ..)
  | .dirRebuild .. => .next (dirRebuild_kept ..)
  | .rds .. => execRds_keeps ..
  | .rdu .. => execRdu_keeps ..
  | .upg .. => execUpg_keeps ..
  | .rdnc .. => execRdnc_keeps ..
  | .wrnc .. => execWrnc_keeps ..
  | .wbd .. => execWbd_keeps ..
  | .evc .. => execEvc_keeps ..
  | .amof .. => execAmof_keeps ..
  | .amom .. => execAmom_keeps ..
  | .transactionStart .. => execTransactionStart_keeps ..
  | .snps .. => execSnps_keeps ..
  | .snpi .. => execSnpi_keeps ..
  | .snpbi .. => execSnpbi_keeps ..
  | .rspi .. => execRspi_keeps ..
  | .rsps .. => execRsps_keeps ..
  | .rspd .. => execRspd_keeps ..
  | .rspx .. => execRspx_keeps ..
  | .dat .. => execDat_keeps ..
  | .cmp .. => execCmp_keeps ..
  | .cmpack .. => execCmpack_keeps ..
  | .holdWindowEnd .. => .next (holdWindowEnd_kept ..)
  | .snoopTimeout .. => .next (snoopTimeout_kept ..)
  | .completionTimeout .. => execCompletionTimeout_keeps ..
  | .ackTimeout .. => .next (ackTimeout_kept ..)
  | .replan .. => .next (replan_kept ..)
  | .sourceHold => .next (sourceHold_kept ..)
  | .slotTableSwitch => .next (slotTableSwitch_kept ..)
  | .statClear .. => execStatClear_keeps ..
  | .laneFailing .. => .next (laneFailing_kept ..)
  | .errorCountWindow => execErrorCountWindow_keeps ..
  | .crossingRemap .. => .next (crossingRemap_kept ..)
  | .repairMapSave => .next (repairMapSave_kept ..)
  | .partnerCertificate .. => .next (partnerCertificate_kept ..)
  | .partnerCertTimeout .. => execPartnerCertTimeout_keeps ..
  | .partnerTrained .. => .next (partnerTrained_kept ..)
  | .partnerLost .. => .next (partnerLost_kept ..)
  | .partnerRetry .. => .next (partnerRetry_kept ..)
  | .extest .. => execExtest_keeps ..
  | .idcode .. => execIdcode_keeps ..
  | .samplePreload .. => .next (State.tapInstr_kept ..)
  | .clamp .. => execClamp_keeps ..
  | .highz .. => execHighz_keeps ..
  | .chainStatus .. => execChainStatus_keeps ..
  | .dtmcs .. => execDtmcs_keeps ..
  | .dmi .. => execDmi_keeps ..
  | .wrapExtest .. => execWrapExtest_keeps ..
  | .wrapIntest .. => execWrapIntest_keeps ..
  | .ijtagAccess .. => execIjtagAccess_keeps ..
  | .bypass .. => execBypass_keeps ..
  | .memoryRead .. => .next (memoryRead_kept ..)
  | .memoryWrite .. => .next (memoryWrite_kept ..)
  | .retiredListSave => .next (retiredListSave_kept ..)
  | .scrub .. => .next (scrub_kept ..)
  | .refresh .. => .next (refresh_kept ..)
  | .memoryUnitFail .. => execMemoryUnitFail_keeps ..
  | .pwrfailNFall => .next (pwrfailNFall_kept ..)
  | .persistentFlush .. => .next (persistentFlush_kept ..)
  | .flushDrained .. => .next (flushDrained_kept ..)
  | .pflushDone => .next (pflushDone_kept ..)
  | .pwrfailRecovery => .next (pwrfailRecovery_kept ..)
  | .doorbellWrite .. => execDoorbellWrite_keeps ..
  | .doorbellRead .. => execDoorbellRead_keeps ..
  | .descriptorFetch .. => .next (descriptorFetch_kept ..)
  | .descriptorStart .. => .next (descriptorStart_kept ..)
  | .nop .. => execNop_keeps ..
  | .copy .. => execCopy_keeps ..
  | .fill .. => execFill_keeps ..
  | .checkAppend .. => execCheckAppend_keeps ..
  | .checkVerify .. => execCheckVerify_keeps ..
  | .checkReadout .. => execCheckReadout_keeps ..
  | .tsnTx .. => execTsnTx_keeps ..
  | .tsnRx .. => execTsnRx_keeps ..
  | .slWrite .. => execSlWrite_keeps ..
  | .slRead .. => execSlRead_keeps ..
  | .slSend .. => execSlSend_keeps ..
  | .slRecv .. => execSlRecv_keeps ..
  | .hash .. => execHash_keeps ..
  | .gcmSeal .. => execGcmSeal_keeps ..
  | .gcmOpen .. => execGcmOpen_keeps ..
  | .cmac .. => execCmac_keeps ..
  | .sign .. => execSign_keeps ..
  | .verify .. => execVerify_keeps ..
  | .kemEncap .. => execKemEncap_keeps ..
  | .kemDecap .. => execKemDecap_keeps ..
  | .random .. => execRandom_keeps ..
  | .keyGen .. => execKeyGen_keeps ..
  | .keyDerive .. => execKeyDerive_keeps ..
  | .keyErase .. => execKeyErase_keeps ..
  | .descriptorComplete .. => .next (descriptorComplete_kept ..)
  | .laneFail .. => execLaneFail_keeps ..
  | .laneDrained .. => .next (laneDrained_kept ..)
  | .enable .. => execEnable_keeps ..
  | .disable .. => execDisable_keeps ..
  | .queueDisableDone .. => .next (queueDisableDone_kept ..)
  | .read .. => execRead_keeps ..
  | .drain .. => execDrain_keeps ..
  | .squash .. => execSquash_keeps ..
  | .viDrainExpired .. => .next (viDrainExpired_kept ..)
  | .viResetDone .. => .next (viResetDone_kept ..)
  | .configRead .. => execConfigRead_keeps ..
  | .configWrite .. => execConfigWrite_keeps ..
  | .hotPlugArrival .. => .next (hotPlugArrival_kept ..)
  | .pcieLinkDown .. => .next (pcieLinkDown_kept ..)
  | .dmaRequest .. => .next (dmaRequest_kept ..)
  | .deviceMsi .. => .next (deviceMsi_kept ..)
  | .pcieAer .. => execPcieAer_keeps ..
  | .tsnFrameReceived .. => .next (tsnFrameReceived_kept ..)
  | .gclIntervalEnd .. => .next (gclIntervalEnd_kept ..)
  | .tsnStreamLost .. => .next (tsnStreamLost_kept ..)
  | .tsnLinkDown .. => .next (tsnLinkDown_kept ..)
  | .linkFlit .. => .next (linkFlit_kept ..)
  | .replay .. => .next (replay_kept ..)
  | .slLinkDown .. => execSlLinkDown_keeps ..
  | .gMsg .. => execGMsg_keeps ..
  | .write .. => execWrite_keeps ..
  | .writeAck .. => execWriteAck_keeps ..
  | .readReq .. => execReadReq_keeps ..
  | .readData .. => execReadData_keeps ..
  | .send .. => execSend_keeps ..
  | .sendAck .. => execSendAck_keeps ..
  | .heartbeat .. => execHeartbeat_keeps ..
  | .heartbeatSend .. => .next (heartbeatSend_kept ..)
  | .linkInit .. => execLinkInit_keeps ..
  | .rip .. => .next (rip_kept ..)
  | .peerHeartbeatTimeout .. => .next (peerHeartbeatTimeout_kept ..)
  | .peerResetTimeout .. => .next (peerResetTimeout_kept ..)
  | .readmit .. => execReadmit_keeps ..
  | .slStatRead .. => execSlStatRead_keeps ..
  | .ocuCommit .. => execOcuCommit_keeps ..
  | .checkUnitFault .. => .next (checkUnitFault_kept ..)
  | .recordForward .. => .next (recordForward_kept ..)
  | .fenceEscalated .. => .next (fenceEscalated_kept ..)
  | .msiPacing .. => .next (msiPacing_kept ..)
  | .ecSelNext .. => execEcSelNext_keeps ..
  | .clear .. => execClear_keeps ..
  | .clearAll .. => execClearAll_keeps ..
  | .ecIrqWrite .. => execEcIrqWrite_keeps ..
  | .ecStatRead .. => execEcStatRead_keeps ..
  | .ecReset .. => execEcReset_keeps ..
  | .ecResetDone .. => .next (ecResetDone_kept ..)
  | .coreFence .. => .next (coreFence_kept ..)
  | .cdRegionFence .. => execCdRegionFence_keeps ..
  | .bdRegionFence .. => execBdRegionFence_keeps ..
  | .warmReset .. => .next (warmReset_kept ..)
  | .warmResetDrained => .next (warmResetDrained_kept ..)
  | .imsicWrite .. => execImsicWrite_keeps ..
  | .msi .. => .next (msiArrives_kept ..)
  | .blockLost .. => .next (blockLost_kept ..)
  | .secureWipe .. => .next (secureWipe_kept ..)
  | .swdEnable .. => execSwdEnable_keeps ..
  | .kick .. => execKick_keeps ..
  | .swdFirst => .next (swdFirst_kept ..)
  | .swdReset => .next (swdReset_kept ..)
  | .governorEpoch .. => .next (governorEpoch_kept ..)
  | .frequencySwitch .. => .next (frequencySwitch_kept ..)
  | .currentLimiterTrip => .next (currentLimiterTrip_kept ..)
  | .pk1Entry => .next (pk1Entry_kept ..)
  | .pkCtlGo .. => execPkCtlGo_keeps ..
  | .pkEntry => .next (pkEntry_kept ..)
  | .pkEntryComplete => .next (pkEntryComplete_kept ..)
  | .pkWake .. => execPkWake_keeps ..
  | .wakeTimeReached => execWakeTimeReached_keeps ..
  | .pkExitComplete => .next (pkExitComplete_kept ..)
  | .ffRuleEvaluation .. => .next (ffRuleEvaluation_kept ..)
  | .ffDataWrite .. => execFfDataWrite_keeps ..
  | .ffDataRead .. => execFfDataRead_keeps ..
  | .ffLockstep => .next (ffLockstep_kept ..)
  | .thermalTrip => execThermalTrip_keeps ..
  | .thermalRecovery => execThermalRecovery_keeps ..
  | .railFault .. => execRailFault_keeps ..
  | .ungate .. => execUngate_keeps ..
  | .gateClock .. => execGateClock_keeps ..
  | .gatePower .. => execGatePower_keeps ..
  | .counterWrap .. => .next (counterWrap_kept ..)
  | .cntRead .. => execCntRead_keeps ..
  | .xlStatRead .. => execXlStatRead_keeps ..
  | .slLinkUp .. => execSlLinkUp_keeps ..
  | .launchTimeReached .. => .next (launchTimeReached_kept ..)
  | .fireflyRestartDone => execFireflyRestartDone_keeps ..

/-- Settles O59: the frame of each command's meaning, command by command. -/
theorem queueAndFuses : Obligations.Queue_and_fuses := by
  unfold Obligations.Queue_and_fuses
  intro c s t h
  exact Prod.mk.inj ((exec_keeps c s).kept t h)

end Sys2Proof.Machine
end

section
/-! PROOFS. Register writes (R9, R30): a write that no register answers is a control-space fault, and the fault
of a Normal hart at a Secure resource of its own Quire is logged (R360), so that it does not change the harts alone. -/

namespace Sys2Proof.Machine

/-- A write of a ready hart that no register answers, or of a size that no register takes, is a control-space fault (R9, R30). -/
theorem exec_registerWrite_unanswered {s : State} {h a die block off size : Nat} (v : Word) (hready : s.readySide h = true)
    (hplace : decodeControl a = some (die, block, off)) (hno : s.regOf die block off = none ∨ size ≠ 8) :
    exec (.registerWrite (.hart h) (.addr a size) v) s = .next (s.ctlFault h true a) := by
  have hreg : (if regShape a size then s.regOf die block off else none) = none := by
    rcases hno with hnone | hsize
    · simp [hnone]
    · simp [regShape, hsize]
  have hstore : s.ctlStore (.hart h) a size v = .inl s := by simp only [State.ctlStore, hplace, hreg]
  obtain ⟨⟨hlive, hdue⟩, hfree⟩ : (s.hartLive h = true ∧ s.due h = none) ∧ s.ioTravels h = false := by
    simpa [State.readySide, State.ready] using hready
  have hwrite : registerWrite s (.hart h) (.addr a size) v = s.ctlFault h true a := by
    simp only [registerWrite, State.asAgent, s.access_ready h _ hlive hdue hfree, hstore, State.refuse]
  exact congrArg Host.Outcome.next hwrite

/-- A control-space fault at a Secure resource of a Normal hart's own Quire sends WORLD_ACCESS_DENIED on its way (R360). -/
theorem State.ctlFault_carries {s : State} {h a : Nat} (write : Bool) (hnormal : (s.hart h).secure = false) (hq : (s.hart h).qid ≠ 0)
    (hunit : s.secureUnitAt (s.hart h).qid a = true) : (s.ctlFault h write a).carries Syn.worldAccessDenied = true := by
  have hnote : s.noteWorld h a = s.logWorldDenied h a := by simp [State.noteWorld, hnormal, hq, hunit]
  have hlog : (s.logWorldDenied h a).carries Syn.worldAccessDenied = true := s.log_carries _ _ rfl
  simp only [State.ctlFault, hnote]
  split <;> exact hlog

/-- A dual-world Quire whose VI 0 is a Secure resource, and whose hart 0 runs in M-mode in the Normal world. -/
def normalHartSecureVi : State :=
  { State.reset with
    harts := [(0, { Hart.reset with run := .running, qid := 1 })]
    clasp := { Clasp.reset with
      eff := { Binding.empty with
        quires := [{ qid := 1, dualWorld := true, initialSecure := false, userCounters := false, checkPriv := false, bootHart := 0,
                     notifyHart := 0, notifyId := 0, resetVector := 0x10000000000, handoverUs := 1, name := [] }]
        cores := [{ hart := 0, qid := 1, pair := false }]
        queues := [{ kind := 2, qid := 1, secure := true, function := 0, first := 0, count := 1 }] } } }

/-- Refutes O52: a 4-byte write of a Normal M-mode hart to the page of its own Quire's Secure VI faults, but it also
logs WORLD_ACCESS_DENIED (R360), so that the Error Collectors change and not the harts alone. -/
theorem not_registerWrites : ¬ Obligations.Register_writes := by
  unfold Obligations.Register_writes
  rintro ⟨hwrites, -, -⟩
  have hready : normalHartSecureVi.readySide 0 = true := by decide
  have hplace : decodeControl (controlAddr iodDie 0x120 0) = some (iodDie, 0x120, 0) := by decide
  obtain ⟨-, hfaults⟩ := hwrites normalHartSecureVi 0 (controlAddr iodDie 0x120 0) iodDie 0x120 0 0 hready hplace (by decide)
  obtain ⟨t, hexec, -, -, -, honly⟩ := hfaults 4 (by decide) (by decide) (.inr (by decide))
  rw [exec_registerWrite_unanswered 0 hready hplace (.inr (by decide))] at hexec
  cases hexec
  have hlogged : (normalHartSecureVi.ctlFault 0 true (controlAddr iodDie 0x120 0)).carries Syn.worldAccessDenied = true :=
    State.ctlFault_carries true (by decide) (by decide) (by decide)
  have herr : (normalHartSecureVi.ctlFault 0 true (controlAddr iodDie 0x120 0)).err = normalHartSecureVi.err := honly .err (by decide)
  rw [State.carries, herr] at hlogged
  cases hlogged

end Sys2Proof.Machine
end

section
/-! PROOFS. Facts that the statements on start-up, package time and crossings share: a ready hart's register access,
and which parts of the state an update leaves alone. -/

namespace Sys2Proof.Machine

/-- A register access of a ready hart takes place at once (R96, R188). -/
theorem State.access_of_readySide {s : State} {h : Nat} (f : State → State) (hready : s.readySide h = true) : s.access h f = f s := by
  obtain ⟨⟨hlive, hdue⟩, hfree⟩ : (s.hartLive h = true ∧ s.due h = none) ∧ s.ioTravels h = false := by
    simpa [State.readySide, State.ready] using hready
  exact s.access_ready h f hlive hdue hfree

/-- A write command of a ready hart takes place at once. -/
theorem State.asAgent_of_readySide {s : State} {h : Nat} (f : State → State) (hready : s.readySide h = true) : s.asAgent (.hart h) f = f s :=
  State.access_of_readySide f hready

/-- A permitted register read of a ready hart has its effect and puts the value in rd. -/
theorem State.readReg_of_readySide {s : State} {h : Nat} (rd a : Nat) (ok : State → Bool) (value : State → Word) (effect : State → State)
    (hready : s.readySide h = true) (hok : ok s = true) :
    s.readReg h rd a ok value effect = (effect s).modHart h (fun x => x.setX rd (value s)) := by
  rw [State.readReg, State.access_of_readySide _ hready, if_pos hok]

/-- A write that sets no bit outside the register's own fields is no reserved write (R12). -/
theorem State.reserved_own {s : State} (who : Agent) (die block off : Nat) {v : Word} {own : Nat} (h : v &&& ~~~(word own) = 0) :
    s.reserved who die block off v own = s := if_pos h

theorem State.changesOnly_net (s : State) (n : Net) : s.changesOnly [.net] { s with net := n } := by
  intro p hp
  cases p with
  | net => simp at hp
  | _ => rfl

theorem State.changesOnly_links (s : State) (l : Links) : s.changesOnly [.links] { s with links := l } := by
  intro p hp
  cases p with
  | links => simp at hp
  | _ => rfl

theorem State.changesOnly_time_harts (s : State) (u : Time) (hs : Tab Hart) : s.changesOnly [.time, .harts] { s with time := u, harts := hs } := by
  intro p hp
  cases p with
  | time | harts => simp at hp
  | _ => rfl

theorem State.changesOnly_fabric_links (s : State) (f : Fabric) (l : Links) :
    s.changesOnly [.fabric, .links] { s with fabric := f, links := l } := by
  intro p hp
  cases p with
  | fabric | links => simp at hp
  | _ => rfl

end Sys2Proof.Machine
end

section
/-! PROOFS. Start-up steps 1 to 3 (R38, R415): RESET_N, the PLLs, the Clasp. -/

namespace Sys2Proof.Machine

/-- In a cold start the rise of RESET_N samples the straps and starts the PLLs (R415 step 1). -/
theorem exec_resetNRise_cold {s : State} (v : BitVec 16) (h : s.boot.phase = .standby) :
    ∃ t, exec (.resetNRise v) s = .next t ∧ t.boot.phase = .ready 2 ∧ t.boot.warm = false ∧ t.pins.resetN = true ∧ t.pins.straps = v
      ∧ t.pins.aliveToggling = !s.ff.restarting :=
  ⟨resetNRise s v, rfl, by simp [resetNRise, h]⟩

/-- Locked PLLs end step 2, and package time is to start at 0 where they had not locked before (R38, R415 step 2). -/
theorem exec_pllLocked_step2 {s : State} (h : s.boot.phase = .ready 2) :
    ∃ t, exec .pllLocked s = .next t ∧ t.boot.phase = .ready 3 ∧ t.boot.pllLocked = true
      ∧ (s.boot.pllLocked = false → t.time.now = 0 ∧ t.time.started = false) := by
  refine ⟨pllLocked s, rfl, ?_⟩
  simp only [pllLocked, h, ne_eq, not_true_eq_false, if_false, true_and]
  intro hfirst
  simp [hfirst, Time.reset]

@[simp] theorem State.setCtl_ff (s : State) (k : Nat) (c : Ctl) : (s.setCtl k c).ff = s.ff := by
  unfold State.setCtl
  split <;> rfl

@[simp] theorem State.loadRepairMap_ff (s : State) : s.loadRepairMap.ff = s.ff := by
  unfold State.loadRepairMap
  split <;> rfl

@[simp] theorem State.loadRetired_ff (s : State) : s.loadRetired.ff = s.ff := by
  unfold State.loadRetired
  split
  · refine foldl_frame State.ff _ _ _ fun s i => ?_
    dsimp only
    split
    · rfl
    · exact State.setCtl_ff ..
  · rfl

@[simp] theorem State.fatalSlot_ff (s : State) : s.fatalSlot.ff = s.ff := by
  unfold State.fatalSlot
  split
  · split <;> rfl
  · rfl

/-- With RESET_N high the Clasp boots at step 3, and ALIVE toggles unless the Firefly restarts (R415 step 3). -/
theorem exec_claspBoot_step3 {s : State} (h : s.boot.phase = .ready 3) (hreset : s.pins.resetN = true) :
    ∃ t, exec .claspBoot s = .next t ∧ t.boot.phase = .ready 4 ∧ t.boot.claspUp = true ∧ t.pins.aliveToggling = !s.ff.restarting := by
  refine ⟨claspBoot s, rfl, ?_⟩
  have hff : (if s.boot.warm then s else s.loadRepairMap).ff = s.ff := by split <;> simp
  simp [claspBoot, h, hreset, hff]

/-- Settles O2: each start-up step by its own command. -/
theorem startupSteps : Obligations.Startup_steps := by
  unfold Obligations.Startup_steps
  exact ⟨fun _ v h => exec_resetNRise_cold v h, fun _ h => exec_pllLocked_step2 h, fun _ h hr => exec_claspBoot_step3 h hr⟩

end Sys2Proof.Machine
end

section
/-! PROOFS. Package time (R37 to R41): frame boundaries, the correction of skewed dies, and the registers of block 0x050. -/

namespace Sys2Proof.Machine

/-! ### Frames (R33, R37, R41) -/

@[simp] theorem Time.advance_now (t : Time) (k : Nat) : (t.advance k).now = t.now + k := rfl

@[simp] theorem Time.applySkew_now (t : Time) : t.applySkew.now = t.now := rfl

@[simp] theorem Time.applySlew_now (t : Time) : t.applySlew.now = t.now := by
  unfold Time.applySlew
  split
  · rfl
  · split <;> rfl

/-- A boundary gains what the frame's even slots have left, its boundary increment, and a pending step (R37, R40). -/
theorem Time.boundary_now (t : Time) : t.boundary.now = t.now + (9 - t.slot / 2) + t.inc + t.step.getD 0 := by
  simp only [Time.boundary, Time.applySlew_now, Time.applySkew_now, Time.advance_now, Time.ticksLeft]
  omega

/-- Package time starts at 0 at the first boundary after the PLLs lock (R38). -/
theorem exec_frameBoundary_first {s : State} (hpll : s.boot.pllLocked = true) (hfirst : s.time.started = false) :
    ∃ t, exec .frameBoundary s = .next t ∧ t.time.started = true ∧ t.time.now = 0 ∧ t.time.frame = 0 ∧ t.time.slot = 0 :=
  ⟨frameBoundary s, rfl, by simp [frameBoundary, hpll, hfirst]⟩

/-- A later boundary ends the frame, and a pending step and B_SHARE take effect (R37, R40, R221). -/
theorem exec_frameBoundary_later {s : State} (hpll : s.boot.pllLocked = true) (hrun : s.time.started = true) :
    ∃ t, exec .frameBoundary s = .next t ∧ t.time.now = s.time.now + (9 - s.time.slot / 2) + s.time.inc + s.time.step.getD 0
      ∧ t.time.frame = s.time.frame + 1 ∧ t.time.slot = 0 ∧ t.time.step = none
      ∧ (∀ b, s.fabric.bShareNext = some b → t.fabric.bShare = b ∧ t.fabric.bShareNext = none) := by
  refine ⟨frameBoundary s, rfl, ?_⟩
  have htime : (frameBoundary s).time = s.time.boundary := by simp [frameBoundary, hpll, hrun]
  rw [htime]
  refine ⟨s.time.boundary_now, rfl, rfl, rfl, fun b hb => ?_⟩
  simp [frameBoundary, hpll, hrun, hb]

/-- In an adjusted frame the boundary increment is 2 or 0 (R41). -/
theorem exec_slewAdjustedFrame_due {s : State} (hon : s.time.slewOn = true) (hcount : s.time.slewCount = s.time.slewInterval) :
    exec .slewAdjustedFrame s = .next { s with time := { s.time with boundaryInc := if s.time.slewDir then 0 else 2 } } := by
  have hdue : s.time.slewDue = true := by simp [Time.slewDue, hon, hcount]
  have hinc : s.time.inc = if s.time.slewDir then 0 else 2 := by rw [Time.inc, if_pos hdue]
  rw [← hinc]
  exact congrArg Host.Outcome.next (if_pos hdue)

/-! ### Broadcast (R39) -/

/-- One die is corrected: it is held, counted in SKEW_COUNT and logged, and package time stays. -/
theorem State.correctDie_time (s : State) (d : Nat) :
    (s.correctDie d).time = { s.time with skewCount := satAdd 0xFFFF s.time.skewCount 1, lastSkewDie := d, holding := s.time.holding ++ [d] } :=
  State.log_time _ _

theorem State.correctDie_carries (s : State) (d : Nat) : (s.correctDie d).carries Syn.timeSkew = true :=
  State.log_carries _ _ _ rfl

/-- A test that one member alone passes leaves that member of a list without repetition. -/
theorem filter_eq_singleton {α : Type} [DecidableEq α] {l : List α} {p : α → Bool} {a : α} (hl : l.Nodup) (ha : a ∈ l)
    (hp : ∀ b, p b = true ↔ b = a) : l.filter p = [a] := by
  have hpa : p = fun b => b == a := funext fun b => by rw [Bool.eq_iff_iff, hp, beq_iff_eq]
  rw [hpa, List.filter_beq, List.count_eq_one_of_mem hl ha, List.replicate_one]

theorem timeBroadcast_single {s : State} {d : Nat} {k : Int} (hrun : s.time.started = true) (hframe : s.time.frame % 1024 = 0)
    (hskew : s.time.skew = [(d, k)]) (hhold : s.time.holding = []) (hdie : packageDies.contains d = true) (hiod : d ≠ iodDie) (hk : k ≠ 0) :
    timeBroadcast s = s.correctDie d := by
  have hskewed : ∀ e, (e != iodDie && Tab.get s.time.skew 0 e != 0 && !s.time.holding.contains e) = true ↔ e = d := by
    intro e
    by_cases he : d = e
    · subst he; simp [hskew, hhold, Tab.get, Tab.find, hiod, hk]
    · simp [hskew, Tab.get, Tab.find, he, Ne.symm he]
  have honly := filter_eq_singleton (l := packageDies) (by decide) (by simpa using hdie) hskewed
  simp only [timeBroadcast, hrun, hframe, honly]
  rfl

/-- The one die whose copy differs is corrected and logged (R39, R222). -/
theorem exec_timeBroadcast_single {s : State} {d : Nat} {k : Int} (hrun : s.time.started = true) (hframe : s.time.frame % 1024 = 0)
    (hskew : s.time.skew = [(d, k)]) (hhold : s.time.holding = []) (hdie : packageDies.contains d = true) (hiod : d ≠ iodDie) (hk : k ≠ 0) :
    ∃ t, exec .timeBroadcast s = .next t ∧ t.time.holding = [d] ∧ t.time.lastSkewDie = d
      ∧ t.time.skewCount = min 0xFFFF (s.time.skewCount + 1) ∧ t.time.now = s.time.now ∧ t.carries Syn.timeSkew = true := by
  refine ⟨s.correctDie d, congrArg Host.Outcome.next (timeBroadcast_single hrun hframe hskew hhold hdie hiod hk), ?_⟩
  simp [State.correctDie_time, State.correctDie_carries, hhold, satAdd]

/-! ### Registers (R40, R41) -/

/-- The time owner schedules a step of package time (R40). -/
theorem exec_ptStep_owner {s : State} {h : Nat} {v : Word} (hready : s.readySide h = true) (howner : s.ownerHart (.hart h) = true)
    (hnone : s.time.step = none) (hv : v.toNat < 2 ^ 48) :
    exec (.ptStep (.hart h) v) s = .next { s with time := { s.time with step := some v.toNat } } := by
  refine congrArg Host.Outcome.next ((State.asAgent_of_readySide _ hready).trans ?_)
  simp only [writePtStep, howner, hnone, Option.isSome_none, Nat.not_le.mpr hv]
  rfl

/-- The time owner sets the trim; the setting takes effect at the next boundary (R40, R41). -/
theorem exec_ptSlew_owner {s : State} {h : Nat} {v : Word} (hready : s.readySide h = true) (howner : s.ownerHart (.hart h) = true)
    (hown : v &&& ~~~(word ptSlewMask) = 0) (hint : flagOf v 63 = false ∨ 500 ≤ fieldOf v 0 32) :
    exec (.ptSlew (.hart h) v) s
      = .next { s with time := { s.time with slewReg := v &&& word ptSlewMask, slewWrite := some (v &&& word ptSlewMask) } } := by
  refine congrArg Host.Outcome.next ((State.asAgent_of_readySide _ hready).trans ?_)
  have hlong : (flagOf v 63 && decide (fieldOf v 0 32 < 500)) = false := by
    rcases hint with hoff | hlong
    · simp [hoff]
    · simp [Nat.not_lt.mpr hlong]
  simp only [writePtSlew, howner, State.reserved_own _ _ _ _ hown, hlong]
  rfl

/-- A read of PT_STAT returns the fields and clears SKEW_COUNT, and changes nothing else (R40). -/
theorem exec_ptStatRead_allowed {s : State} {h : Nat} (rd : Nat) (hready : s.readySide h = true) (hread : s.readsTime h = true) :
    ∃ t, exec (.ptStatRead h rd) s = .next t ∧ (t.hart h).getX rd = (if rd = 0 then 0 else s.time.stat)
      ∧ t.time = { s.time with skewCount := 0 } ∧ s.changesOnly [.time, .harts] t := by
  refine ⟨({ s with time := { s.time with skewCount := 0 } } : State).modHart h (fun x => x.setX rd s.time.stat),
    congrArg Host.Outcome.next (State.readReg_of_readySide _ _ _ _ _ hready hread), ?_, rfl, s.changesOnly_time_harts _ _⟩
  simp [Hart.getX_setX]

/-- Settles O4: frames, the broadcast, then the registers. -/
theorem packageTime : Obligations.Package_time := by
  unfold Obligations.Package_time
  refine ⟨⟨fun _ => exec_frameBoundary_first, fun _ => exec_frameBoundary_later, fun s hon hcount => ?_⟩,
    fun _ _ _ => exec_timeBroadcast_single, fun _ _ _ => exec_ptStep_owner, fun _ _ _ => exec_ptSlew_owner,
    fun _ _ rd => exec_ptStatRead_allowed rd⟩
  exact ⟨_, exec_slewAdjustedFrame_due hon hcount, rfl⟩

end Sys2Proof.Machine
end

section
/-! PROOFS. Crossings (R35, R228 to R237): marks and reports, training, bad lanes, remaps and the repair map. -/

namespace Sys2Proof.Machine

/-! ### What leaves the crossings as they are -/

/-- The state of a crossing and the repair map stand in `links`. -/
theorem State.xl_congr {s t : State} (h : t.links = s.links) (x : Nat) : t.xl x = s.xl x := by rw [State.xl, State.xl, h]

theorem State.badLanes_congr {s t : State} (h : t.links.repair = s.links.repair) (x : Nat) (i : Bool) : t.badLanes x i = s.badLanes x i := by
  rw [State.badLanes, State.badLanes, h]

@[simp] theorem State.log_xl (s : State) (r : ErrRec) (x : Nat) : (s.log r).xl x = s.xl x := State.xl_congr (s.log_links r) x
@[simp] theorem State.needResign_xl (s : State) (x : Nat) : s.needResign.xl x = s.xl x := State.xl_congr s.needResign_links x
@[simp] theorem State.copyMap_xl (s : State) (y x : Nat) : (s.copyMap y).xl x = s.xl x := rfl
@[simp] theorem State.copyMap_repair (s : State) (x : Nat) : (s.copyMap x).links.repair = s.links.repair := rfl
@[simp] theorem State.copyMap_repairDirty (s : State) (x : Nat) : (s.copyMap x).links.repairDirty = s.links.repairDirty := rfl
@[simp] theorem State.setXl_repair (s : State) (x : Nat) (v : Xl) : (s.setXl x v).links.repair = s.links.repair := rfl
@[simp] theorem State.setXl_repairDirty (s : State) (x : Nat) (v : Xl) : (s.setXl x v).links.repairDirty = s.links.repairDirty := rfl

@[simp] theorem State.liftFence_links (s : State) (u : UnitId) : (s.liftFence u).links = s.links := by
  simp only [State.liftFence]
  split <;> rfl

@[simp] theorem State.liftFence_xl (s : State) (u : UnitId) (x : Nat) : (s.liftFence u).xl x = s.xl x := State.xl_congr (s.liftFence_links u) x

@[simp] theorem State.logSpares_links (s : State) (x : Nat) (i : Bool) (lanes : List Nat) : (s.logSpares x i lanes).links = s.links :=
  foldl_frame State.links _ _ _ fun s _ => s.log_links _

@[simp] theorem State.logWidth_links (s : State) (x : Nat) (i : Bool) (old new : Width) (sel : Nat) :
    (s.logWidth x i old new sel).links = s.links := by
  unfold State.logWidth
  split
  · exact s.log_links _
  · rfl

@[simp] theorem State.endTraining_links (s : State) : s.endTraining.links = s.links := by
  unfold State.endTraining
  split <;> rfl

/-- A failed crossing changes no entry of the repair map. -/
theorem State.failCrossing_repair (s : State) (x : Nat) :
    (s.failCrossing x).links.repair = s.links.repair ∧ (s.failCrossing x).links.repairDirty = s.links.repairDirty := by
  unfold State.failCrossing
  dsimp only
  split
  · split <;> simp
  · split <;> simp
  · simp

/-! ### Marks and reports (R35, R230, R231) -/

/-- The mark that a crossing sends in one direction (R35). -/
def State.markOf (s : State) (x : Nat) (i : Bool) : Mark := { x := x, inward := i, frame := s.time.frame }

/-- The marker report that a crossing sends in one direction (R230). -/
def State.reportOf (s : State) (x : Nat) (i : Bool) : Report :=
  { x := x, inward := i, frame := s.time.frame, crc := mapCrc (if i then s.links.near else s.links.far) x i,
    width := widthCode (if i then (s.xl x).widthIn else (s.xl x).widthOut), sel := if i then (s.xl x).selIn else (s.xl x).selOut }

/-- A crossing's marks and reports sent. -/
def State.sendMarks (s : State) (x : Nat) : State :=
  { s with net := { s.net with marks := s.net.marks ++ [s.markOf x false, s.markOf x true],
                               reports := s.net.reports ++ [s.reportOf x false, s.reportOf x true] } }

/-- In slot 0 of a frame of 1,024 CROSSING_MARK sends the marks and reports of every crossing that is UP. -/
theorem crossingMark_due {s : State} (hrun : s.time.started = true) (hframe : s.time.frame % 1024 = 0) (hslot : s.time.slot = 0) :
    crossingMark s = (allCrossings.filter (fun x => decide ((s.xl x).st = .up))).foldl State.sendMarks s := by
  refine (if_pos ?_ : crossingMark s = _)
  simp [hrun, hframe, hslot]

/-- Several crossings' marks and reports stand in their order behind those on their way. -/
theorem State.foldl_sendMarks (l : List Nat) (s : State) :
    l.foldl State.sendMarks s = { s with net := { s.net with
      marks := s.net.marks ++ l.flatMap (fun x => [s.markOf x false, s.markOf x true]),
      reports := s.net.reports ++ l.flatMap (fun x => [s.reportOf x false, s.reportOf x true]) } } := by
  induction l generalizing s with
  | nil => simp
  | cons x l ih =>
    rw [List.foldl_cons, ih]
    simp [State.sendMarks, State.markOf, State.reportOf, State.xl]

/-- Every crossing that is UP sends a mark and a marker report in each direction (R35, R230). -/
theorem exec_crossingMark_due {s : State} (hrun : s.time.started = true) (hframe : s.time.frame % 1024 = 0) (hslot : s.time.slot = 0) :
    ∃ t, exec .crossingMark s = .next t ∧ ∀ (x : Nat) (i : Bool), x ∈ allCrossings → (s.xl x).st = .up →
      ({ x := x, inward := i, frame := s.time.frame } : Mark) ∈ t.net.marks
      ∧ ∃ r ∈ t.net.reports, r.x = x ∧ r.inward = i ∧ r.crc = mapCrc (if i then s.links.near else s.links.far) x i := by
  refine ⟨crossingMark s, rfl, fun x i hx hup => ?_⟩
  have hl : x ∈ allCrossings.filter (fun x => decide ((s.xl x).st = .up)) := by simp [hx, hup]
  rw [crossingMark_due hrun hframe hslot, State.foldl_sendMarks]
  refine ⟨?_, s.reportOf x i, ?_, rfl, rfl, rfl⟩
  · exact List.mem_append_right _ (List.mem_flatMap.mpr ⟨x, hl, by cases i <;> simp [State.markOf]⟩)
  · exact List.mem_append_right _ (List.mem_flatMap.mpr ⟨x, hl, by cases i <;> simp⟩)

/-- A mark in its calibrated slot is taken and changes nothing else (R35). -/
theorem exec_markArrival_inSlot {s : State} {x slot : Nat} {i : Bool} {m : Mark}
    (hm : s.net.marks.find? (fun m => m.x == x && m.inward == i) = some m) (hdev : markDeviation x slot = 0) :
    exec (.markArrival x i slot) s = .next { s with net := { s.net with marks := s.net.marks.erase m } } := by
  refine congrArg Host.Outcome.next ?_
  simp [markArrival, hm, hdev]

/-- The first deviation in a second: no Class G on the crossing, which retrains, and the deviation is logged (R231). -/
theorem State.markDeviates_first {s : State} {x : Nat} (d : Int) (hfirst : (s.xl x).lastDev = none) :
    ((s.markDeviates x d).xl x).gOff = true ∧ ((s.markDeviates x d).xl x).st = .training
      ∧ (s.markDeviates x d).carries Syn.xlMarkerDev = true := by
  simp only [State.markDeviates, hfirst, Bool.false_eq_true, if_false, State.needResign_xl, State.log_xl, State.xl_setXl_same, true_and]
  exact State.log_carries _ _ _ rfl

/-- A mark in another slot stops Class G on its crossing and retrains it (R35, R231). -/
theorem exec_markArrival_deviating {s : State} {x slot : Nat} {i : Bool} {m : Mark}
    (hm : s.net.marks.find? (fun m => m.x == x && m.inward == i) = some m) (hdev : markDeviation x slot ≠ 0) (hup : (s.xl x).st = .up)
    (hfirst : (s.xl x).lastDev = none) :
    ∃ t, exec (.markArrival x i slot) s = .next t ∧ (t.xl x).gOff = true ∧ (t.xl x).st = .training ∧ t.carries Syn.xlMarkerDev = true := by
  have hstep : markArrival s x i slot
      = ({ s with net := { s.net with marks := s.net.marks.erase m } } : State).markDeviates x (markDeviation x slot) := by
    simp only [markArrival, hm]
    exact if_neg (not_or.mpr ⟨hdev, not_not.mpr hup⟩)
  exact ⟨_, congrArg Host.Outcome.next hstep, State.markDeviates_first _ hfirst⟩

/-- A report that differs from the receiver's copy is taken and logged, and changes nothing else (R230). -/
theorem exec_markerReport_differs {s : State} {x : Nat} {i : Bool} {c : BitVec 32} {r : Report}
    (hr : s.net.reports.find? (fun r => r.x == x && r.inward == i) = some r)
    (hc : c ≠ mapCrc (if i then s.links.far else s.links.near) x i) :
    ∃ t, exec (.markerReport x i c) s = .next t ∧ t.links = s.links ∧ t.net = { s.net with reports := s.net.reports.erase r }
      ∧ t.carries Syn.xlMapMismatch = true := by
  have hstep : markerReport s x i c = ({ s with net := { s.net with reports := s.net.reports.erase r } } : State).log
      ((Syn.xlMapMismatch.ofCrossing x).withInfo 0 2 0) := by
    simp only [markerReport, hr]
    exact if_neg hc
  exact ⟨_, congrArg Host.Outcome.next hstep, State.log_links _ _, State.log_net _ _, State.log_carries _ _ _ rfl⟩

/-! ### Training (R228, R229, R234) -/

/-- With no bad lane a direction runs at full width (R235). -/
theorem LaneSet.width_nil (m : LaneSet) : m.width [] = some (.full, 0) := by
  simp [LaneSet.width, LaneSet.controlOk, LaneSet.unrepaired]

theorem State.badLanes_nil {s : State} (h : s.links.repair = []) (x : Nat) (i : Bool) : s.badLanes x i = [] := by
  simp [State.badLanes, h]

/-- A training that finds no bad lane, between ends without bad lanes in their copies, adds none to the map. -/
theorem State.trainAdds_nil {s : State} (hfar : s.links.far = []) (hnear : s.links.near = []) (x : Nat) (i : Bool) : s.trainAdds x i [] = [] := by
  simp [State.trainAdds, hfar, hnear, distinct]

theorem State.markBad_nil (s : State) (x : Nat) (i : Bool) : s.markBad x i [] = s := by
  simp [State.markBad, distinct]

/-- Where nothing is repaired nothing is logged. -/
theorem State.logRepairs_none {s : State} {x : Nat} {i : Bool} (h : s.badLanes x i = []) : s.logRepairs x i = s := by
  simp [State.logRepairs, h, LaneSet.width_nil, LaneSet.uses, LaneSet.usesAfter, State.logSpares, State.logWidth]

/-- A crossing that finds no bad lane, passes calibration and sees its mark comes UP at full width (R228, R229). -/
theorem State.trainCrossing_clean {s : State} {x : Nat} {r : TrainResult} (hclocks : r.clocksUp = true) (hout : r.badOut = [])
    (hin : r.badIn = []) (hlat : r.rawLat ≤ rawLimit x) (hmark : r.markOk = true) (hmap : s.links.repair = [])
    (hfar : s.links.far = []) (hnear : s.links.near = []) :
    ((s.trainCrossing x r).xl x).st = .up ∧ ((s.trainCrossing x r).xl x).widthOut = .full
      ∧ ((s.trainCrossing x r).xl x).widthIn = .full ∧ ((s.trainCrossing x r).xl x).rawLat = r.rawLat := by
  have hbad (i : Bool) : s.badLanes x i = [] := State.badLanes_nil hmap x i
  have hlog (i : Bool) : s.logRepairs x i = s := State.logRepairs_none (hbad i)
  simp [State.trainCrossing, hclocks, hout, hin, State.trainAdds_nil hfar hnear, State.markBad_nil, hlog, hbad, LaneSet.width_nil, hmark,
    Nat.not_lt.mpr hlat]

/-- A crossing that is not FAILED rejects no partner die. -/
theorem State.partnerTrainFail_trained {s : State} {x : Nat} (h : (s.xl x).st ≠ .failed) : s.partnerTrainFail x = s :=
  if_neg fun hfail => h hfail.2.1

theorem crossingTraining_xl {s : State} {x : Nat} (r : TrainResult) (h : s.trains x = true) :
    (crossingTraining s x r).xl x = (s.trainCrossing x r).xl x := by
  rw [crossingTraining, if_pos h]
  exact State.xl_congr (State.endTraining_links _) x

/-- A training that does not end FAILED leaves its crossing as the training itself does. -/
theorem exec_crossingTraining_xl {s : State} {x : Nat} (r : TrainResult) (h : s.trains x = true)
    (hst : ((s.trainCrossing x r).xl x).st ≠ .failed) :
    ∃ t, exec (.crossingTraining x r) s = .next t ∧ t.xl x = (s.trainCrossing x r).xl x := by
  have hxl := crossingTraining_xl r h
  refine ⟨(crossingTraining s x r).partnerTrainFail x, rfl, ?_⟩
  rw [State.partnerTrainFail_trained (by rwa [hxl]), hxl]

theorem exec_crossingTraining_clean {s : State} {x : Nat} {r : TrainResult} (h : s.trains x = true) (hclocks : r.clocksUp = true)
    (hout : r.badOut = []) (hin : r.badIn = []) (hlat : r.rawLat ≤ rawLimit x) (hmark : r.markOk = true) (hmap : s.links.repair = [])
    (hfar : s.links.far = []) (hnear : s.links.near = []) :
    ∃ t, exec (.crossingTraining x r) s = .next t ∧ (t.xl x).st = .up ∧ (t.xl x).widthOut = .full ∧ (t.xl x).widthIn = .full
      ∧ (t.xl x).rawLat = r.rawLat := by
  have hclean := State.trainCrossing_clean hclocks hout hin hlat hmark hmap hfar hnear
  obtain ⟨t, hexec, hxl⟩ := exec_crossingTraining_xl r h (by simp [hclean.1])
  exact ⟨t, hexec, by rw [hxl]; exact hclean⟩

/-- The first attempt without clocks is repeated (R228). -/
theorem exec_crossingTraining_noClocks {s : State} {x : Nat} {r : TrainResult} (h : s.trains x = true) (hclocks : r.clocksUp = false)
    (hfirst : (s.xl x).fails = 0) :
    ∃ t, exec (.crossingTraining x r) s = .next t ∧ (t.xl x).st = .training ∧ (t.xl x).fails = 1 := by
  have hagain : s.trainCrossing x r = s.setXl x { s.xl x with st := .training, fails := 1 } := by
    simp [State.trainCrossing, hclocks, State.trainFailed, hfirst]
  obtain ⟨t, hexec, hxl⟩ := exec_crossingTraining_xl r h (by simp [hagain])
  exact ⟨t, hexec, by simp [hxl, hagain]⟩

/-! ### Failure in service (R233, R235, R237) -/

/-- A lane that the map does not hold is added to it, and the map is to be saved (R233). -/
theorem State.markBad_new {s : State} {x lane : Nat} {i : Bool} (h : lane ∉ s.badLanes x i) :
    s.markBad x i [lane] = { s with links := { s.links with
      repair := s.links.repair ++ [{ x := x, inward := i, lane := lane }], repairDirty := true } } := by
  simp [State.markBad, distinct, h]

theorem State.markBad_new_mem {s : State} {x lane : Nat} {i : Bool} (h : lane ∉ s.badLanes x i) :
    lane ∈ (s.markBad x i [lane]).badLanes x i ∧ (s.markBad x i [lane]).links.repairDirty = true := by
  simp [State.markBad_new h, State.badLanes]

/-- The corrected errors of a lane in the window (R235). -/
def Xl.errCount (c : Xl) (i : Bool) (lane : Nat) : Nat := ((c.errs.find? (fun e => e.1 == i && e.2.1 == lane)).map (·.2.2)).getD 0

/-- LANE_FAILING marks the lane bad; what else it does leaves the repair map alone. -/
theorem laneFailing_marks {s : State} {x lane : Nat} {i : Bool} (hup : (s.xl x).st = .up) (hcount : 256 ≤ (s.xl x).errCount i lane)
    (hnew : lane ∉ s.badLanes x i) (hlane : lane < (lanesOf x).total) :
    (laneFailing s x i lane).links.repair = (s.markBad x i [lane]).links.repair
      ∧ (laneFailing s x i lane).links.repairDirty = (s.markBad x i [lane]).links.repairDirty := by
  simp only [laneFailing]
  split
  · next hstops =>
    rcases hstops with hdown | hfew | hheld | hbeyond
    · exact absurd hup hdown
    · exact absurd hcount (Nat.not_le.mpr hfew)
    · exact absurd (List.contains_iff_mem.mp hheld) hnew
    · exact absurd hlane (Nat.not_lt.mpr hbeyond)
  · split
    · exact State.failCrossing_repair _ x
    · exact ⟨rfl, rfl⟩

/-- A lane with 256 corrected errors in a window is marked bad in the repair map (R235). -/
theorem exec_laneFailing_marks {s : State} {x lane n : Nat} {i : Bool} (hup : (s.xl x).st = .up) (herrs : (s.xl x).errs = [(i, lane, n)])
    (hn : 256 ≤ n) (hnew : lane ∉ s.badLanes x i) (hlane : lane < (lanesOf x).total) :
    ∃ t, exec (.laneFailing x i lane) s = .next t ∧ lane ∈ t.badLanes x i ∧ t.links.repairDirty = true := by
  obtain ⟨hrepair, hdirty⟩ := laneFailing_marks hup (by simpa [Xl.errCount, herrs] using hn) hnew hlane
  obtain ⟨hmem, hset⟩ := State.markBad_new_mem hnew
  exact ⟨_, rfl, by rwa [State.badLanes_congr hrepair], hdirty.trans hset⟩

/-- At a frame count that is a multiple of 100,000 every lane's count starts anew, and nothing else changes (R235). -/
theorem exec_errorCountWindow_due {s : State} (hframe : s.time.frame % 100000 = 0) :
    ∃ t, exec .errorCountWindow s = .next t ∧ (∀ x, (t.xl x).errs = []) ∧ s.changesOnly [.links] t := by
  refine ⟨_, congrArg Host.Outcome.next (if_pos (by simp [hframe])), fun x => ?_, s.changesOnly_links _⟩
  exact congrArg Xl.errs (Tab.get_mapAll s.links.xl Xl.reset Xl.reset (fun _ c => { c with errs := [] }) x rfl)

/-- A remap in force gives its direction its width and its half or quarter, and leaves the waiting remaps alone (R237). -/
theorem State.applyRemap_xl (s : State) (x : Nat) (r : Remap) :
    ((s.applyRemap x r).xl x).remaps = (s.xl x).remaps
      ∧ (if r.inward then ((s.applyRemap x r).xl x).widthIn = r.width ∧ ((s.applyRemap x r).xl x).selIn = r.sel
        else ((s.applyRemap x r).xl x).widthOut = r.width ∧ ((s.applyRemap x r).xl x).selOut = r.sel) := by
  simp only [State.applyRemap, State.xl_congr (State.logWidth_links ..), State.xl_congr (State.logSpares_links ..), State.needResign_xl,
    State.xl_setXl_same]
  cases r.inward <;> simp

/-- A remap whose boundary has come takes effect and waits no longer (R237). -/
theorem exec_crossingRemap_due {s : State} {x b : Nat} {r : Remap} (hr : (s.xl x).remaps = [r]) (hb : r.boundary = some b)
    (hdue : b ≤ s.time.frame) :
    ∃ t, exec (.crossingRemap x) s = .next t ∧ (t.xl x).remaps = []
      ∧ (if r.inward then (t.xl x).widthIn = r.width ∧ (t.xl x).selIn = r.sel else (t.xl x).widthOut = r.width ∧ (t.xl x).selOut = r.sel) := by
  have hstep : crossingRemap s x = (s.setXl x { s.xl x with remaps := [] }).applyRemap x r := by
    simp [crossingRemap, hr, hb, hdue]
  obtain ⟨hremaps, hwidth⟩ := (s.setXl x { s.xl x with remaps := [] }).applyRemap_xl x r
  exact ⟨_, congrArg Host.Outcome.next hstep, by rw [hremaps, State.xl_setXl_same], hwidth⟩

/-! ### The repair map (R233) -/

/-- A changed repair map is copied to flash (R233). -/
theorem exec_repairMapSave_dirty {s : State} (h : s.links.repairDirty = true) :
    exec .repairMapSave s = .next { s with
      links := { s.links with repairDirty := false },
      clasp := { s.clasp with flash := writeArea s.clasp.flash repairArea s.mapImage } } :=
  congrArg Host.Outcome.next (if_pos h)

/-- While S_INV is open REPAIR_CLEAR removes a crossing's entries (R233). -/
theorem exec_repairClear_open {s : State} (x : Nat) (hup : s.smbusUp = true) (hopen : s.debugOpenBits.getLsbD 2 = true) :
    ∃ t, exec (.repairClear x) s = .next t ∧ t.links.repair = s.links.repair.filter (fun b => b.x != x) ∧ t.links.repairDirty = true := by
  refine ⟨repairClear s x, rfl, ?_⟩
  simp [repairClear, hup, hopen, State.answer]

end Sys2Proof.Machine
end

section
/-! PROOFS. Slot tables (R219, R221, R237, R238): a re-plan, the hold of the sources, the switch, and the statistics pages. -/

namespace Sys2Proof.Machine

/-! ### Re-planning (R237, R238) -/

/-- Dating the waiting remaps changes the crossings only. -/
theorem State.dateRemaps_fabric (s : State) (xs : List Nat) (b : Nat) : (s.dateRemaps xs b).fabric = s.fabric :=
  foldl_frame State.fabric _ xs s fun _ _ => rfl

/-- A re-plan of a degraded crossing waits for the boundary three frames ahead; the tables in force stay until then (R219, R237, R238). -/
theorem exec_replan_degraded {s : State} {x : Nat} (hplan : s.fabric.plan = none) (hdeg : s.degraded x = true) :
    ∃ t, exec (.replan [x]) s = .next t ∧ (∃ p, t.fabric.plan = some p ∧ p.boundary = s.time.frame + 3 ∧ p.isReplan = true)
      ∧ t.fabric.slots = s.fabric.slots ∧ t.fabric.planGen = s.fabric.planGen := by
  have hchanged : (distinct [x]).filter s.degraded = [x] := by simp [distinct, hdeg]
  refine ⟨replan s [x], rfl, ?_⟩
  simp [replan, hplan, hchanged, State.dateRemaps_fabric]

/-! ### The hold of the sources (R219) -/

/-- The source of one stream held from now on, if it is active (R219). -/
def State.holdStream (s : State) (n : Nat) : State :=
  if (s.stream n).st = .active then s.setStream n { s.stream n with st := .held } else s

/-- Holding a stream changes the state of that stream only, from active to held. -/
theorem State.holdStream_st (s : State) (n k : Nat) :
    ((s.holdStream n).stream k).st = if n = k ∧ (s.stream k).st = .active then .held else (s.stream k).st := by
  unfold State.holdStream
  by_cases hk : n = k
  · subst hk
    split <;> simp_all
  · split
    · simp [State.stream_setStream_other _ _ hk, hk]
    · simp [hk]

/-- Of several streams the active ones are held, and no other stream changes its state. -/
theorem State.foldl_holdStream_st (l : List Nat) (s : State) (k : Nat) :
    ((l.foldl State.holdStream s).stream k).st = if k ∈ l ∧ (s.stream k).st = .active then .held else (s.stream k).st := by
  induction l generalizing s with
  | nil => simp
  | cons n l ih =>
    rw [List.foldl_cons, ih, State.holdStream_st]
    by_cases hactive : (s.stream k).st = .active
    · by_cases hk : n = k
      · simp [hk, hactive]
      · simp [hk, hactive, Ne.symm hk]
    · simp [hactive]

/-- Holding streams changes the fabric only. -/
theorem State.foldl_holdStream_only (l : List Nat) (s : State) : ∃ f, l.foldl State.holdStream s = { s with fabric := f } := by
  induction l generalizing s with
  | nil => exact ⟨s.fabric, rfl⟩
  | cons n l ih =>
    obtain ⟨f, hf⟩ := ih (s.holdStream n)
    refine ⟨f, ?_⟩
    rw [List.foldl_cons, hf, State.holdStream]
    split <;> rfl

/-- The sources of a plan's changing streams held, its remaps moved to a boundary b (R219, R237). -/
def State.holdSources (s : State) (p : Plan) (b : Nat) : State := p.changed.foldl State.holdStream (s.moveRemaps p.boundary b)

theorem State.holdSources_only (s : State) (p : Plan) (b : Nat) : ∃ f l, s.holdSources p b = { s with fabric := f, links := l } := by
  obtain ⟨f, hf⟩ := State.foldl_holdStream_only p.changed (s.moveRemaps p.boundary b)
  exact ⟨f, _, hf⟩

theorem State.holdSources_st {s : State} {p : Plan} {n : Nat} (b : Nat) (hn : n ∈ p.changed) (hactive : (s.stream n).st = .active) :
    ((s.holdSources p b).stream n).st = .held :=
  (State.foldl_holdStream_st p.changed (s.moveRemaps p.boundary b) n).trans (if_pos ⟨hn, hactive⟩)

/-- A plan whose boundary is at most three frames away holds its sources and waits three frames from now (R219). -/
theorem sourceHold_due {s : State} {p : Plan} (hplan : s.fabric.plan = some p) (hwaits : p.holding = false)
    (hnear : p.boundary ≤ s.time.frame + 3) :
    sourceHold s = { s.holdSources p (s.time.frame + 3) with fabric := { (s.holdSources p (s.time.frame + 3)).fabric with
      plan := some { p with holding := true, boundary := s.time.frame + 3 } } } := by
  simp only [sourceHold, hplan]
  exact if_neg (by simp [hwaits, hnear])

/-- The sources of the changing streams are held for three frames before the switch (R219). -/
theorem exec_sourceHold_due {s : State} {p : Plan} (hplan : s.fabric.plan = some p) (hwaits : p.holding = false)
    (hnear : p.boundary ≤ s.time.frame + 3) :
    ∃ t, exec .sourceHold s = .next t ∧ (∀ n ∈ p.changed, (s.stream n).st = .active → (t.stream n).st = .held)
      ∧ t.fabric.plan = some { p with holding := true, boundary := s.time.frame + 3 } ∧ s.changesOnly [.fabric, .links] t := by
  refine ⟨_, congrArg Host.Outcome.next (sourceHold_due hplan hwaits hnear), fun n hn => State.holdSources_st _ hn, rfl, ?_⟩
  obtain ⟨f, l, honly⟩ := s.holdSources_only p (s.time.frame + 3)
  rw [honly]
  exact s.changesOnly_fabric_links _ l

/-! ### The switch (R219, R238) -/

/-- The slot tables in force, PLAN_GEN, and the change that waits. -/
def State.tables (s : State) : List SlotEntry × BitVec 16 × Option Plan := (s.fabric.slots, s.fabric.planGen, s.fabric.plan)

theorem State.tables_congr {s t : State} (h : t.fabric = s.fabric) : t.tables = s.tables := by rw [State.tables, State.tables, h]

/-- What no step of a fold changes, the fold leaves alone. The lemmas below that close its side condition are proved by
`simp`, not by a bare `rfl`: `simp` uses no rule that holds by definition there. -/
@[simp] theorem foldl_tables {α : Type} (f : State → α → State) (l : List α) (s : State) (h : ∀ s a, (f s a).tables = s.tables) :
    (l.foldl f s).tables = s.tables := foldl_frame State.tables f l s h

@[simp] theorem State.setStream_tables (s : State) (n : Nat) (v : Stream) : (s.setStream n v).tables = s.tables := by
  simp [State.tables, State.setStream]

@[simp] theorem State.activate_tables (s : State) (n bound : Nat) : (s.activate n bound).tables = s.tables := by simp [State.activate]
@[simp] theorem State.log_tables (s : State) (r : ErrRec) : (s.log r).tables = s.tables := State.tables_congr (s.log_fabric r)
@[simp] theorem State.needResign_tables (s : State) : s.needResign.tables = s.tables := State.tables_congr s.needResign_fabric

@[simp] theorem State.dropStreamMessages_tables (s : State) (ns : List Nat) : (s.dropStreamMessages ns).tables = s.tables :=
  State.tables_congr rfl

@[simp] theorem State.demote_tables (s : State) (n : Nat) : (s.demote n).tables = s.tables := by
  simp only [State.demote]
  split <;> simp

@[simp] theorem State.demotePartners_tables (s : State) : s.demotePartners.tables = s.tables :=
  foldl_tables _ _ s fun s i => by split <;> simp [State.demoteWhere]

@[simp] theorem State.notifyQuire_tables (s : State) (q : Nat) : (s.notifyQuire q).tables = s.tables := by
  unfold State.notifyQuire
  split
  · exact State.tables_congr (State.sendMsi_fabric ..)
  · rfl

@[simp] theorem State.tables_update (s : State) (slots : List SlotEntry) (gen : BitVec 16) (plan : Option Plan) :
    State.tables { s with fabric := { s.fabric with slots := slots, planGen := gen, plan := plan } } = (slots, gen, plan) := rfl

/-- At the chosen boundary, in slot 0, the switch puts the plan's tables in force, increments PLAN_GEN, and leaves no plan waiting. -/
theorem slotTableSwitch_tables {s : State} {p : Plan} (hplan : s.fabric.plan = some p) (hholding : p.holding = true)
    (hdue : p.boundary ≤ s.time.frame) (hslot : s.time.slot = 0) : (slotTableSwitch s).tables = (p.entries, s.fabric.planGen + 1, none) := by
  have hpass : ¬ (!p.holding || decide (s.time.frame < p.boundary) || s.time.slot != 0) = true := by
    simp [hholding, hdue, hslot]
  simp only [slotTableSwitch, hplan]
  rw [if_neg hpass]
  split <;> simp

/-- At the switch every element takes the new tables and PLAN_GEN increments (R219, R238). -/
theorem exec_slotTableSwitch_due {s : State} {p : Plan} (hplan : s.fabric.plan = some p) (hholding : p.holding = true)
    (hdue : p.boundary ≤ s.time.frame) (hslot : s.time.slot = 0) :
    ∃ t, exec .slotTableSwitch s = .next t ∧ t.fabric.slots = p.entries ∧ t.fabric.planGen = s.fabric.planGen + 1 ∧ t.fabric.plan = none := by
  obtain ⟨hslots, hrest⟩ := Prod.mk.inj (slotTableSwitch_tables hplan hholding hdue hslot)
  obtain ⟨hgen, hnone⟩ := Prod.mk.inj hrest
  exact ⟨slotTableSwitch s, rfl, hslots, hgen, hnone⟩

/-! ### Statistics pages (R221) -/

/-- The value that STAT_CLEAR writes has CLEAR set, FREEZE as given, and no reserved bit (R221). -/
theorem statClear_value (freeze : Bool) :
    flagOf (word (2 ^ 62 + bitAt freeze 63)) 62 = true ∧ flagOf (word (2 ^ 62 + bitAt freeze 63)) 63 = freeze
      ∧ word (2 ^ 62 + bitAt freeze 63) &&& ~~~(word (2 ^ 63 + 2 ^ 62)) = 0 := by
  cases freeze <;> decide

/-- A clear by a hart that may write the page sets every counter of it to 0 and leaves FREEZE (R221). -/
theorem exec_statClear_allowed {s : State} {h i : Nat} (hready : s.readySide h = true)
    (hallowed : s.fmAllowed (.hart h) true (0x40018 + i * 0x100) = true) :
    exec (.statClear (.hart h) i) s = .next { s with net := { s.net with
      stats := Tab.set s.net.stats i { Stats.reset with freeze := (Tab.get s.net.stats Stats.reset i).freeze } } } := by
  refine congrArg Host.Outcome.next ((State.asAgent_of_readySide _ hready).trans ?_)
  obtain ⟨hclear, hfreeze, hown⟩ := statClear_value (Tab.get s.net.stats Stats.reset i).freeze
  simp only [writeStatCtl, hallowed, State.reserved_own _ _ _ _ hown, hclear, hfreeze]
  rfl

/-- Settles O5: marks and reports, training, failures in service, then the slot tables. -/
theorem crossingsAndSlots : Obligations.Crossings_and_slots := by
  unfold Obligations.Crossings_and_slots
  refine ⟨⟨fun _ => exec_crossingMark_due, fun _ _ _ _ _ => exec_markArrival_inSlot, fun _ _ _ _ _ => exec_markArrival_deviating,
      fun _ _ _ _ _ => exec_markerReport_differs⟩,
    ⟨fun _ _ _ => exec_crossingTraining_clean, fun _ _ _ => exec_crossingTraining_noClocks⟩,
    ⟨fun _ _ _ _ _ => exec_laneFailing_marks, fun _ => exec_errorCountWindow_due, fun _ _ _ _ => exec_crossingRemap_due,
      fun _ => exec_repairMapSave_dirty, fun _ x => exec_repairClear_open x⟩,
    fun _ _ => exec_replan_degraded, fun _ _ => exec_sourceHold_due, fun _ _ => exec_slotTableSwitch_due, fun s h i hready hallowed => ?_⟩
  exact ⟨_, exec_statClear_allowed hready hallowed, s.changesOnly_net _, Tab.get_set_same ..⟩

end Sys2Proof.Machine
end

section
/-! PROOFS. The rollback floor (R68): no command lowers it. One lemma for each function that a command calls, in the
order of the model's files: most leave the Clasp's ledger as it is, the Clasp's own functions at least the floor in it. -/

namespace Sys2Proof.Machine

/-! ### What most commands keep of the Clasp

What `State.kept` names, the fuses and the queue, has its lemmas above; these are about the Clasp. They speak of its ledger as a whole where a
function keeps all of it: what follows about Bindings and hand-overs reads the Binding in effect, the work, the requests and the
request pages from it, not the floor alone. -/

/-- The Clasp without what every unit may write: its flash, the mark of a stale Colophon and the Secure watchdog. -/
def Clasp.ledger (c : Clasp) : Clasp := { c with flash := [], resign := false, swd := Swd.reset }

/-- The Clasp's ledger of a state: the floor, the Binding in effect, the requests, the work, and what else only the Clasp's own commands change. -/
def State.ledger (s : State) : Clasp := s.clasp.ledger

@[simp] theorem State.ledger_mk (pending free fuse pins boot time harts clusters slices net fabric links mem qe io sl chk err clasp dbg pwr ff gov) :
    State.ledger ⟨pending, free, fuse, pins, boot, time, harts, clusters, slices, net, fabric, links, mem, qe, io, sl, chk, err, clasp, dbg,
      pwr, ff, gov⟩ = clasp.ledger := by simp [State.ledger]

@[simp] theorem Clasp.ledger_fold (s : State) : s.clasp.ledger = s.ledger := by simp [State.ledger]

@[simp] theorem State.ledger_update (s : State) (flash : List Host.Cell) (resign : Bool) (swd : Swd) :
    Clasp.ledger { s.clasp with flash := flash, resign := resign, swd := swd } = s.ledger := by
  simp [State.ledger, Clasp.ledger]

/-- The next state of an outcome has the rollback floor of a state. -/
structure FloorKept (s : State) (o : Result) : Prop where
  floor : ∀ t, o = .next t → t.ledger.floor = s.ledger.floor

@[simp] theorem floorKept_next (s t : State) : FloorKept s (.next t) ↔ t.ledger.floor = s.ledger.floor :=
  ⟨fun h => h.floor t rfl, fun h => ⟨fun _ e => by cases e; exact h⟩⟩

theorem FloorKept.next {s t : State} (h : t.ledger.floor = s.ledger.floor) : FloorKept s (.next t) := (floorKept_next s t).mpr h

theorem FloorKept.of_ledger {s t : State} (h : t.ledger = s.ledger) : FloorKept s (.next t) := .next (congrArg Clasp.floor h)

@[simp] theorem Clasp.ledger_floor (c : Clasp) : c.ledger.floor = c.floor := by simp [Clasp.ledger]
@[simp] theorem Clasp.ledger_eff (c : Clasp) : c.ledger.eff = c.eff := by simp [Clasp.ledger]
theorem State.clasp_floor (s : State) : s.clasp.floor = s.ledger.floor := (Clasp.ledger_floor _).symm

@[simp] theorem Clasp.floor_ite (c : Prop) [Decidable c] (a b : Clasp) : (if c then a else b).floor = if c then a.floor else b.floor :=
  apply_ite Clasp.floor c a b

@[simp] theorem foldl_floor {α : Type} (f : State → α → State) (l : List α) (s : State) (h : ∀ s a, (f s a).ledger.floor = s.ledger.floor) :
    (l.foldl f s).ledger.floor = s.ledger.floor := foldl_frame (fun s => s.ledger.floor) f l s h

@[simp] theorem State.ledger_ite (c : Prop) [Decidable c] (s t : State) : (if c then s else t).ledger = if c then s.ledger else t.ledger :=
  apply_ite State.ledger c s t

@[simp] theorem fst_ite_ledger {α : Type} (c : Prop) [Decidable c] (r t : State × α) :
    (if c then r else t).1.ledger = if c then r.1.ledger else t.1.ledger := apply_ite (fun r : State × α => r.1.ledger) c r t

@[simp] theorem snd_ite_ledger {α : Type} (c : Prop) [Decidable c] (r t : α × State) :
    (if c then r else t).2.ledger = if c then r.2.ledger else t.2.ledger := apply_ite (fun r : α × State => r.2.ledger) c r t

@[simp] theorem foldl_ledger {α : Type} (f : State → α → State) (l : List α) (s : State) (h : ∀ s a, (f s a).ledger = s.ledger) :
    (l.foldl f s).ledger = s.ledger := foldl_frame State.ledger f l s h

/-! ### Machine/Ops.lean -/

@[simp] theorem State.setHart_ledger (s : State) (h : Nat) (x : Hart) : (s.setHart h x).ledger = s.ledger := by simp [State.setHart]
@[simp] theorem State.modHart_ledger (s : State) (h : Nat) (f : Hart → Hart) : (s.modHart h f).ledger = s.ledger := by simp [State.modHart]

@[simp] theorem State.setCluster_ledger (s : State) (c : Nat) (x : Cluster) :
    (s.setCluster c x).ledger = s.ledger := by simp [State.setCluster]

@[simp] theorem State.setSlice_ledger (s : State) (n : Nat) (x : Slice) : (s.setSlice n x).ledger = s.ledger := by simp [State.setSlice]

@[simp] theorem State.modSlice_ledger (s : State) (n : Nat) (f : Slice → Slice) :
    (s.modSlice n f).ledger = s.ledger := by simp [State.modSlice]

@[simp] theorem State.setXl_ledger (s : State) (x : Nat) (v : Xl) : (s.setXl x v).ledger = s.ledger := by simp [State.setXl]

@[simp] theorem State.setPartner_ledger (s : State) (i : Nat) (v : Partner) :
    (s.setPartner i v).ledger = s.ledger := by simp [State.setPartner]

@[simp] theorem State.setStream_ledger (s : State) (n : Nat) (v : Stream) : (s.setStream n v).ledger = s.ledger := by simp [State.setStream]
@[simp] theorem State.setQueue_ledger (s : State) (q : Nat) (v : QCtx) : (s.setQueue q v).ledger = s.ledger := by simp [State.setQueue]
@[simp] theorem State.setLane_ledger (s : State) (n : Nat) (v : Lane) : (s.setLane n v).ledger = s.ledger := by simp [State.setLane]
@[simp] theorem State.setVi_ledger (s : State) (n : Nat) (v : Vi) : (s.setVi n v).ledger = s.ledger := by simp [State.setVi]
@[simp] theorem State.setGroup_ledger (s : State) (g : Nat) (v : PortGroup) : (s.setGroup g v).ledger = s.ledger := by simp [State.setGroup]
@[simp] theorem State.setTsn_ledger (s : State) (c : Nat) (v : Tsn) : (s.setTsn c v).ledger = s.ledger := by simp [State.setTsn]
@[simp] theorem State.setSlPort_ledger (s : State) (p : Nat) (v : SlPort) : (s.setSlPort p v).ledger = s.ledger := by simp [State.setSlPort]

@[simp] theorem State.setBreq_floor (s : State) (q : Nat) (v : Breq) :
    (s.setBreq q v).ledger.floor = s.ledger.floor := by simp [State.setBreq, State.clasp_floor]

@[simp] theorem State.setGovQ_ledger (s : State) (q : Nat) (v : GovQ) : (s.setGovQ q v).ledger = s.ledger := by simp [State.setGovQ]
@[simp] theorem State.draw_ledger (s : State) : s.draw.2.ledger = s.ledger := by simp [State.draw]
@[simp] theorem State.drawBytes_ledger (s : State) (n : Nat) : (s.drawBytes n).2.ledger = s.ledger := by simp [State.drawBytes]

@[simp] theorem State.sendMsi_ledger (s : State) (hart file id : Nat) (secure : Bool) :
    (s.sendMsi hart file id secure).ledger = s.ledger := by simp [State.sendMsi]

@[simp] theorem State.noteStats_ledger (s : State) (i cls bytes : Nat) (lat : Option Nat) :
    (s.noteStats i cls bytes lat).ledger = s.ledger := by simp [State.noteStats]

@[simp] theorem State.noteAt_ledger (s : State) (node core cls bytes : Nat) (lat : Option Nat) :
    (s.noteAt node core cls bytes lat).ledger = s.ledger := by simp [State.noteAt]

@[simp] theorem State.sendCoh_ledger (s : State) (m : CohMsg) : (s.sendCoh m).ledger = s.ledger := by simp [State.sendCoh]
@[simp] theorem State.takeCoh_ledger (s : State) (m : CohMsg) : (s.takeCoh m).ledger = s.ledger := by simp [State.takeCoh]

@[simp] theorem State.pacedMsi_ledger (s : State) (src hart file id : Nat) (secure : Bool) :
    (s.pacedMsi src hart file id secure).ledger = s.ledger := by simp [State.pacedMsi]

@[simp] theorem State.needResign_ledger (s : State) : s.needResign.ledger = s.ledger := by simp [State.needResign]

@[simp] theorem State.fenceOne_ledger (s : State) (u : UnitId) (syn : Nat) :
    (s.fenceOne u syn).ledger = s.ledger := by simp [State.fenceOne]

@[simp] theorem State.addFence_ledger (s : State) (u : UnitId) (syn : Nat) :
    (s.addFence u syn).ledger = s.ledger := by simp [State.addFence]

@[simp] theorem State.raiseFatal_ledger (s : State) (r : ErrRec) : (s.raiseFatal r).ledger = s.ledger := by
  unfold State.raiseFatal
  split <;> simp

@[simp] theorem State.log_ledger (s : State) (r : ErrRec) : (s.log r).ledger = s.ledger := by simp [State.log]

@[simp] theorem State.countFlit_ledger (s : State) (x : Nat) (inward : Bool) (lane : Nat) (corrected : Bool) :
    (s.countFlit x inward lane corrected).ledger = s.ledger := by simp [State.countFlit]

@[simp] theorem State.deadlineMissOf_ledger (s : State) (q : Nat) (r : ErrRec) : (s.deadlineMissOf q r).ledger = s.ledger := by
  simp only [State.deadlineMissOf]
  (repeat' split) <;> simp

/-! ### Machine/MemMap.lean -/

@[simp] theorem State.setCtl_ledger (s : State) (k : Nat) (c : Ctl) : (s.setCtl k c).ledger = s.ledger := by simp [State.setCtl]

/-! ### Machine/Errors.lean -/

@[simp] theorem State.setEcRegs_ledger (s : State) (v : EcView) (r : EcRegs) : (s.setEcRegs v r).ledger = s.ledger := by
  unfold State.setEcRegs
  split <;> simp

@[simp] theorem State.viewEvent_ledger (s : State) (r : ErrRec) : (s.viewEvent r).ledger = s.ledger := by simp [State.viewEvent]

@[simp] theorem State.storeRecord_ledger (s : State) (r : ErrRec) : (s.storeRecord r).ledger = s.ledger := by
  unfold State.storeRecord
  (repeat' split) <;> simp

@[simp] theorem State.coalesceInto_ledger (s : State) (i : Nat) (old new : ErrRec) :
    (s.coalesceInto i old new).ledger = s.ledger := by simp [State.coalesceInto]

@[simp] theorem State.chipReceive_ledger (s : State) (r : ErrRec) : (s.chipReceive r).ledger = s.ledger := by
  simp only [State.chipReceive]
  (repeat' split) <;> simp

@[simp] theorem recordForward_ledger (s : State) (u : UnitId) : (recordForward s u).ledger = s.ledger := by
  simp only [recordForward]
  (repeat' split) <;> simp

@[simp] theorem msiPacing_ledger (s : State) (hart file id : Nat) : (msiPacing s hart file id).ledger = s.ledger := by simp [msiPacing]

@[simp] theorem State.ecClear_ledger (s : State) (v : EcView) : (s.ecClear v).ledger = s.ledger := by
  simp only [State.ecClear]
  (repeat' split) <;> simp

@[simp] theorem State.ecClearAll_ledger (s : State) (v : EcView) : (s.ecClearAll v).ledger = s.ledger := by
  unfold State.ecClearAll
  split <;> simp

/-! ### Machine/Crc.lean -/

@[simp] theorem State.setOpenUnit_ledger (s : State) (u : Nat) (v : OpenUnit) :
    (s.setOpenUnit u v).ledger = s.ledger := by simp [State.setOpenUnit]

/-! ### Machine/Route.lean -/

@[simp] theorem State.flitFate_ledger (s : State) (qid : Nat) (addr : Option Nat) (hasData : Bool) (u : Upset) :
    (s.flitFate qid addr hasData u).1.ledger = s.ledger := by
  unfold State.flitFate
  (repeat' split) <;> simp

@[simp] theorem State.arrive_ledger (s : State) (m : CohMsg) (u : Upset) (f : State → CohMsg → State) (hf : ∀ s a, (f s a).ledger = s.ledger) :
    (s.arrive m u f).ledger = s.ledger := by
  simp only [State.arrive]
  split
  · rfl
  · split <;> simp [hf]

/-! ### Machine/DebugOps.lean -/

@[simp] theorem State.setSwd_ledger (s : State) (w : Swd) : (s.setSwd w).ledger = s.ledger := by simp [State.setSwd]
@[simp] theorem State.swdSync_ledger (s : State) : s.swdSync.ledger = s.ledger := by simp [State.swdSync]
@[simp] theorem State.swdRestart_ledger (s : State) : s.swdRestart.ledger = s.ledger := by simp [State.swdRestart]

/-! ### Machine/HartOps.lean -/

@[simp] theorem State.raise_ledger (s : State) (h : Nat) (e : Exc) : (s.raise h e).ledger = s.ledger := by simp [State.raise]

@[simp] theorem State.raiseCode_ledger (s : State) (h code : Nat) (tval : Word) :
    (s.raiseCode h code tval).ledger = s.ledger := by simp [State.raiseCode]

@[simp] theorem State.raiseIllegal_ledger (s : State) (h code bits free : Nat) :
    (s.raiseIllegal h code bits free).ledger = s.ledger := by simp [State.raiseIllegal]

@[simp] theorem State.haltOne_ledger (s : State) (h cause : Nat) : (s.haltOne h cause).ledger = s.ledger := by simp [State.haltOne]
@[simp] theorem State.haltHart_ledger (s : State) (h cause : Nat) : (s.haltHart h cause).ledger = s.ledger := by simp [State.haltHart]
@[simp] theorem State.resumeHart_ledger (s : State) (h : Nat) : (s.resumeHart h).ledger = s.ledger := by simp [State.resumeHart]
@[simp] theorem State.fire_ledger (s : State) (h i : Nat) (a : Word) : (s.fire h i a).ledger = s.ledger := by simp [State.fire]

@[simp] theorem State.instr_ledger (s : State) (h : Nat) (f : State → State) (hf : ∀ s, (f s).ledger = s.ledger) :
    (s.instr h f).ledger = s.ledger := by
  unfold State.instr
  split
  · split <;> simp [hf]
  · rfl

@[simp] theorem State.instr_floor (s : State) (h : Nat) (f : State → State) (hf : ∀ s, (f s).ledger.floor = s.ledger.floor) :
    (s.instr h f).ledger.floor = s.ledger.floor := by
  unfold State.instr
  split
  · split <;> simp [hf]
  · rfl

@[simp] theorem State.watched_ledger (s : State) (h : Nat) (k : TrigKind) (va : Word) (n : Nat) (data : Option Nat) (f : State → State)
    (hf : ∀ s, (f s).ledger = s.ledger) :
    (s.watched h k va n data f).ledger = s.ledger := by
  unfold State.watched
  split <;> simp [hf]

@[simp] theorem State.watched_floor (s : State) (h : Nat) (k : TrigKind) (va : Word) (n : Nat) (data : Option Nat) (f : State → State)
    (hf : ∀ s, (f s).ledger.floor = s.ledger.floor) :
    (s.watched h k va n data f).ledger.floor = s.ledger.floor := by
  unfold State.watched
  split <;> simp [hf]

@[simp] theorem State.logWorldDenied_ledger (s : State) (h a : Nat) :
    (s.logWorldDenied h a).ledger = s.ledger := by simp [State.logWorldDenied]

/-! ### Machine/Cache.lean -/

@[simp] theorem State.queueWrite_ledger (s : State) (l : Nat) (d : Line) (p : Poison) :
    (s.queueWrite l d p).ledger = s.ledger := by simp [State.queueWrite]

@[simp] theorem State.fillL3_ledger (s : State) (n q l : Nat) (dirty : Bool) (d : Line) (p : Poison) :
    (s.fillL3 n q l dirty d p).ledger = s.ledger := by
  simp only [State.fillL3]
  (repeat' split) <;> simp

@[simp] theorem State.homeWrite_ledger (s : State) (n q l : Nat) (alloc : Bool) (d : Line) (p : Poison) :
    (s.homeWrite n q l alloc d p).ledger = s.ledger := by
  simp only [State.homeWrite]
  (repeat' split) <;> simp

@[simp] theorem State.patchLine_ledger (s : State) (l : Nat) (d : Line) (p : Poison) :
    (s.patchLine l d p).ledger = s.ledger := by simp [State.patchLine]

@[simp] theorem State.coherentWriteLine_ledger (s : State) (l : Nat) (d : Line) (p : Poison) :
    (s.coherentWriteLine l d p).ledger = s.ledger := by simp [State.coherentWriteLine]

@[simp] theorem State.coherentWrite_ledger (fuel : Nat) (s : State) (a : Nat) (bs : List Byte) :
    (State.coherentWrite fuel s a bs).ledger = s.ledger := by
  induction fuel generalizing s a bs with
  | zero => rfl
  | succ n ih => unfold State.coherentWrite; split <;> simp [ih]

@[simp] theorem State.writeBytes_ledger (s : State) (a : Nat) (bs : List Byte) :
    (s.writeBytes a bs).ledger = s.ledger := by simp [State.writeBytes]

/-! ### Machine/Xlate.lean -/

@[simp] theorem State.startWalk_ledger (s : State) (h : Nat) (va : Word) (k : AccKind) (spec : Bool) :
    (s.startWalk h va k spec).ledger = s.ledger := by simp [State.startWalk]

@[simp] theorem State.walkFault_ledger (s : State) (h : Nat) (wk : Walk) (e : Exc) :
    (s.walkFault h wk e).ledger = s.ledger := by simp [State.walkFault]

@[simp] theorem State.logPtePoison_ledger (s : State) (h a : Nat) : (s.logPtePoison h a).ledger = s.ledger := by simp [State.logPtePoison]

@[simp] theorem fenceOp_ledger (s : State) (h : Nat) (k : FenceKind) (sel : Hart → TlbEnt → Bool) : (fenceOp s h k sel).ledger = s.ledger :=
  State.instr_ledger _ _ _ fun s => by split <;> simp

/-! ### Machine/Coherence.lean -/

@[simp] theorem State.putHart_ledger (s : State) (h : Nat) (x : Hart) : (s.putHart h x).ledger = s.ledger := by simp [State.putHart]

@[simp] theorem State.countStream_ledger (s : State) (n : Option Nat) : (s.countStream n).ledger = s.ledger := by
  unfold State.countStream
  split <;> simp

@[simp] theorem State.countDemoted_ledger (s : State) (n : Option Nat) : (s.countDemoted n).ledger = s.ledger := by
  unfold State.countDemoted
  split <;> simp

@[simp] theorem State.request_ledger (s : State) (h : Nat) (opc : Opc) (st : MissSt) (dst l misc : Nat) (spec fetch : Bool) (data : Line)
    (ws : List Waiter) :
    (s.request h opc st dst l misc spec fetch data ws).ledger = s.ledger := by simp [State.request]

@[simp] theorem State.access_ledger (s : State) (h : Nat) (f : State → State) (hf : ∀ s, (f s).ledger = s.ledger) :
    (s.access h f).ledger = s.ledger := by simp [State.access, hf]

@[simp] theorem State.access_floor (s : State) (h : Nat) (f : State → State) (hf : ∀ s, (f s).ledger.floor = s.ledger.floor) :
    (s.access h f).ledger.floor = s.ledger.floor := by simp [State.access, hf]

@[simp] theorem State.consumePoison_ledger (s : State) (h a : Nat) (k : AccKind) (va : Word) :
    (s.consumePoison h a k va).ledger = s.ledger := by simp [State.consumePoison]

@[simp] theorem State.perform_ledger (s : State) (h : Nat) (w : Waiter) : (s.perform h w).ledger = s.ledger := by
  simp only [State.perform]
  (repeat' split) <;> simp

@[simp] theorem State.performAll_ledger (s : State) (h l : Nat) (ws : List Waiter) : (s.performAll h l ws).ledger = s.ledger := by
  induction ws generalizing s with
  | nil => rfl
  | cons w rest ih => unfold State.performAll; (repeat' split) <;> simp [ih]

@[simp] theorem State.answerSnoop_ledger (s : State) (m : CohMsg) : (s.answerSnoop m).ledger = s.ledger := by
  simp only [State.answerSnoop, State.sendCoh_ledger]
  refine foldl_frame (fun r : State × _ => r.1.ledger) _ _ _ fun r c => ?_
  simp

@[simp] theorem State.noteHeld_ledger (s : State) (m : CohMsg) (k : Nat) : (s.noteHeld m k).ledger = s.ledger := by
  unfold State.noteHeld
  split <;> simp

@[simp] theorem snoopArrives_ledger (s : State) (m : CohMsg) : (snoopArrives s m).ledger = s.ledger := by
  simp only [snoopArrives]
  (repeat' split) <;> simp

@[simp] theorem State.logFilter_ledger (s : State) (u : Upset) (m : CohMsg) : (s.logFilter u m).ledger = s.ledger := by
  unfold State.logFilter
  (repeat' split) <;> simp

@[simp] theorem snoopFiltered_ledger (u : Upset) (s : State) (m : CohMsg) :
    (snoopFiltered u s m).ledger = s.ledger := by simp [snoopFiltered]

@[simp] theorem State.releaseSnoops_ledger (s : State) (h : Nat) : (s.releaseSnoops h).ledger = s.ledger := by simp [State.releaseSnoops]
@[simp] theorem holdWindowEnd_ledger (s : State) (h l : Nat) : (holdWindowEnd s h l).ledger = s.ledger := by simp [holdWindowEnd]

@[simp] theorem lrSnoopDeferExpiry_ledger (s : State) (h : Nat) : (lrSnoopDeferExpiry s h).ledger = s.ledger := by
  unfold lrSnoopDeferExpiry
  split <;> simp

@[simp] theorem State.logUnexpected_ledger (s : State) (m : CohMsg) : (s.logUnexpected m).ledger = s.ledger := by simp [State.logUnexpected]

@[simp] theorem State.sendSnoops_ledger (s : State) (n l : Nat) (opc : Opc) (targets : List (Nat × Nat)) (req : CohMsg) :
    (s.sendSnoops n l opc targets req).2.ledger = s.ledger :=
  foldl_frame (fun r : _ × State => r.2.ledger) _ _ _ fun r d => by simp

@[simp] theorem State.sendAnswer_ledger (s : State) (req m : CohMsg) : (s.sendAnswer req m).ledger = s.ledger := by simp [State.sendAnswer]

@[simp] theorem State.grantWith_ledger (s : State) (n : Nat) (x : Txn) (d : Line × Poison) : (s.grantWith n x d).ledger = s.ledger := by
  simp only [State.grantWith]
  (repeat' split) <;> simp

@[simp] theorem State.advance_ledger (fuel : Nat) (s : State) (n l : Nat) : (State.advance fuel s n l).ledger = s.ledger := by
  induction fuel generalizing s l with
  | zero => rfl
  | succ n ih => unfold State.advance; (repeat' split) <;> simp [ih]

@[simp] theorem State.kickReads_ledger (s : State) (n : Nat) : (s.kickReads n).ledger = s.ledger := by simp [State.kickReads]

@[simp] theorem homeRequest_ledger (s : State) (m : CohMsg) : (homeRequest s m).ledger = s.ledger := by
  simp only [homeRequest]
  (repeat' split) <;> simp

@[simp] theorem State.begin_ledger (s : State) (n : Nat) (w : Waiting) (ent : Option DirEnt) (plan : Option (Opc × List (Nat × Nat)))
    (way : Option Nat) :
    (s.begin n w ent plan way).ledger = s.ledger := by
  unfold State.begin
  split <;> simp

@[simp] theorem State.recall_ledger (s : State) (n l : Nat) (opc : Opc) (qid : Nat) (secure : Bool) (targets : List (Nat × Nat)) (wants : Option Nat) :
    (s.recall n l opc qid secure targets wants).ledger = s.ledger := by simp [State.recall]

@[simp] theorem State.recallPorts_ledger (s : State) (l : Nat) (clean : Bool) (ds : List (Nat × Nat)) :
    (s.recallPorts l clean ds).ledger = s.ledger := by
  simp only [State.recallPorts]
  (repeat' split) <;> simp

@[simp] theorem State.beginEvicting_ledger (s : State) (n : Nat) (w : Waiting) (k : Nat) (v : DirEnt) :
    (s.beginEvicting n w k v).ledger = s.ledger := by simp [State.beginEvicting]

@[simp] theorem transactionStart_ledger (s : State) (n l : Nat) : (transactionStart s n l).ledger = s.ledger := by
  simp only [transactionStart]
  (repeat' split) <;> simp

@[simp] theorem State.recoverDir_ledger (s : State) (n l : Nat) : (s.recoverDir n l).ledger = s.ledger := by
  unfold State.recoverDir
  split <;> simp

@[simp] theorem State.homeUpset_ledger (s : State) (n l : Nat) (u : Upset) : (s.homeUpset n l u).1.ledger = s.ledger := by
  unfold State.homeUpset
  (repeat' split) <;> simp

@[simp] theorem State.takeResponse_ledger (s : State) (n : Nat) (x : Txn) (o : SnoopOut) (kind : Opc) (have_ : Bool) (d : Option (Line × Poison)) :
    (s.takeResponse n x o kind have_ d).ledger = s.ledger := by
  unfold State.takeResponse
  split <;> simp

@[simp] theorem responseArrives_ledger (s : State) (m : CohMsg) : (responseArrives s m).ledger = s.ledger := by
  simp only [responseArrives]
  (repeat' split) <;> simp

@[simp] theorem leavingArrives_ledger (s : State) (m : CohMsg) : (leavingArrives s m).ledger = s.ledger := by
  simp only [leavingArrives]
  (repeat' split) <;> simp

@[simp] theorem cmpackArrives_ledger (s : State) (m : CohMsg) : (cmpackArrives s m).ledger = s.ledger := by
  unfold cmpackArrives
  split <;> simp

@[simp] theorem State.sendAck_ledger (s : State) (m : CohMsg) : (s.sendAck m).ledger = s.ledger := by simp [State.sendAck]

@[simp] theorem State.failWalk_ledger (s : State) (h : Nat) : (s.failWalk h).ledger = s.ledger := by
  unfold State.failWalk
  split <;> simp

@[simp] theorem State.failWaiters_ledger (s : State) (h : Nat) (ws : List Waiter) : (s.failWaiters h ws).ledger = s.ledger := by
  unfold State.failWaiters
  split <;> simp

@[simp] theorem State.useOnce_ledger (s : State) (h : Nat) (m : CohMsg) (ms : Miss) : (s.useOnce h m ms).ledger = s.ledger := by
  unfold State.useOnce
  (repeat' split) <;> simp

@[simp] theorem State.startHold_ledger (s : State) (h l : Nat) : (s.startHold h l).ledger = s.ledger := by simp [State.startHold]
@[simp] theorem State.returnGrant_ledger (s : State) (m : CohMsg) : (s.returnGrant m).ledger = s.ledger := by simp [State.returnGrant]

@[simp] theorem datTaken_ledger (s : State) (m : CohMsg) : (datTaken s m).ledger = s.ledger := by
  simp only [datTaken]
  (repeat' split) <;> simp

@[simp] theorem datArrives_ledger (s : State) (m : CohMsg) : (datArrives s m).ledger = s.ledger := by simp [datArrives]

@[simp] theorem cmpArrives_ledger (s : State) (m : CohMsg) : (cmpArrives s m).ledger = s.ledger := by
  unfold cmpArrives
  extract_lets t u _ h x v own
  have hu : u.ledger = s.ledger := (t.noteAt_ledger ..).trans (s.takeCoh_ledger m)
  have hv : v.ledger = s.ledger := (u.modHart_ledger ..).trans hu
  clear_value v u
  split
  · simpa using hu
  · split
    · simpa using hu
    · split
      · simpa using hu
      · split
        · split <;> simpa using hu
        · extract_lets idx held owned acked noted holding
          have hacked : acked.ledger = s.ledger := by simp [acked, owned, held, hv]
          have hholding : holding.ledger = s.ledger := by simp [holding, noted, hacked]
          simp [hv, hholding]

@[simp] theorem State.dropOwner_ledger (s : State) (n : Nat) (node : Nat) (core : Option Nat) :
    (s.dropOwner n node core).ledger = s.ledger := by simp [State.dropOwner]

@[simp] theorem State.dropSnoops_ledger (s : State) (n node : Nat) (core : Option Nat) : (s.dropSnoops n node core).ledger = s.ledger := by
  refine foldl_ledger _ _ _ fun s p => ?_
  split
  · rfl
  · split <;> simp

@[simp] theorem State.loseHolder_ledger (s : State) (node : Nat) (core : Option Nat) :
    (s.loseHolder node core).ledger = s.ledger := by simp [State.loseHolder]

@[simp] theorem snoopTimeout_ledger (s : State) (n l node core : Nat) : (snoopTimeout s n l node core).ledger = s.ledger := by
  unfold snoopTimeout
  (repeat' split) <;> simp

@[simp] theorem ackTimeout_ledger (s : State) (n l : Nat) : (ackTimeout s n l).ledger = s.ledger := by
  unfold ackTimeout
  split <;> simp

/-! ### Machine/Walk.lean -/

@[simp] theorem State.missFor_ledger (s : State) (h l : Nat) (opc : Opc) (st : MissSt) (spec fetch : Bool) (w : Waiter) :
    (s.missFor h l opc st spec fetch w).ledger = s.ledger := by simp [State.missFor]

@[simp] theorem State.walkMiss_ledger (s : State) (h l : Nat) (own spec : Bool) :
    (s.walkMiss h l own spec).ledger = s.ledger := by simp [State.walkMiss]

@[simp] theorem State.walkFill_ledger (s : State) (h : Nat) (wk : Walk) (k : AccKind) (v : Bool) (e : TlbEnt) :
    (s.walkFill h wk k v e).ledger = s.ledger := by
  simp only [State.walkFill]
  (repeat' split) <;> simp

@[simp] theorem pageWalk_ledger (s : State) (h : Nat) : (pageWalk s h).ledger = s.ledger := by
  simp only [pageWalk]
  (repeat' split) <;> simp

theorem State.lockWaits_ledger {s t : State} {h : Nat} {v : Word} (e : s.lockWaits h v = some t) : t.ledger = s.ledger := by
  unfold State.lockWaits at e
  split at e
  · cases e
    simp
  · obtain ⟨l, -, rfl⟩ := Option.map_eq_some_iff.mp e
    simp
  · cases e

@[simp] theorem tlbLock_ledger (s : State) (h : Nat) (v : Word) : (tlbLock s h v).ledger = s.ledger := by
  unfold tlbLock
  split <;> simp

@[simp] theorem tlbUnlock_ledger (s : State) (h : Nat) (v : Word) : (tlbUnlock s h v).ledger = s.ledger := by simp [tlbUnlock]
@[simp] theorem tlbQuery_ledger (s : State) (h : Nat) (v : Word) : (tlbQuery s h v).ledger = s.ledger := by simp [tlbQuery]

@[simp] theorem lockCsr_ledger (s : State) (h : Nat) (f : State → State) (hf : ∀ s, (f s).ledger = s.ledger) :
    (lockCsr s h f).ledger = s.ledger := by
  simp [lockCsr, hf]

@[simp] theorem State.logCsrReserved_ledger (s : State) (h num : Nat) (v : Word) :
    (s.logCsrReserved h num v).ledger = s.ledger := by simp [State.logCsrReserved]

@[simp] theorem lockReserved_ledger (s : State) (h : Nat) (v : Word) : (lockReserved s h v).ledger = s.ledger := by simp [lockReserved]

/-! ### Machine/Csr.lean -/

@[simp] theorem State.indirectWrite_ledger (s : State) (h file sel : Nat) (v : Word) :
    (s.indirectWrite h file sel v).ledger = s.ledger := by
  unfold State.indirectWrite
  (repeat' split) <;> simp

@[simp] theorem State.writeWorld_ledger (s : State) (h : Nat) (v : Word) :
    (s.writeWorld h v).ledger = s.ledger := by simp [State.writeWorld]

@[simp] theorem State.channelMissAs_ledger (s : State) (h n flags : Nat) :
    (s.channelMissAs h n flags).ledger = s.ledger := by simp [State.channelMissAs]

@[simp] theorem State.channelMiss_ledger (s : State) (h n : Nat) : (s.channelMiss h n).ledger = s.ledger := by simp [State.channelMiss]

@[simp] theorem State.armChannel_ledger (s : State) (h n : Nat) (v : Word) :
    (s.armChannel h n v).ledger = s.ledger := by simp [State.armChannel]

@[simp] theorem State.noteSlack_ledger (s : State) (h n : Nat) : (s.noteSlack h n).ledger = s.ledger := by simp [State.noteSlack]

@[simp] theorem State.writeDlctl_ledger (s : State) (h : Nat) (v : Word) :
    (s.writeDlctl h v).ledger = s.ledger := by simp [State.writeDlctl]

@[simp] theorem State.writeLoopEnd_ledger (s : State) (h level : Nat) (v : Word) :
    (s.writeLoopEnd h level v).ledger = s.ledger := by simp [State.writeLoopEnd]

@[simp] theorem writeTlbLock_ledger (s : State) (h : Nat) (v : Word) : (writeTlbLock s h v).ledger = s.ledger := by
  unfold writeTlbLock
  split <;> simp

@[simp] theorem State.customWrite_ledger (s : State) (h n : Nat) (v : Word) : (s.customWrite h n v).ledger = s.ledger := by
  unfold State.customWrite
  split <;> simp

@[simp] theorem State.claimTop_ledger (s : State) (h n : Nat) : (s.claimTop h n).ledger = s.ledger := by
  unfold State.claimTop
  split <;> simp

@[simp] theorem State.csrWrite_ledger (s : State) (h n0 : Nat) (v : Word) : (s.csrWrite h n0 v).ledger = s.ledger := by
  simp only [State.csrWrite]
  (repeat' split) <;> simp

@[simp] theorem State.csrValue_ledger (s : State) (h n : Nat) : (s.csrValue h n).2.ledger = s.ledger := by simp [State.csrValue]

theorem State.csrWaits_ledger {s t : State} {h n : Nat} {v : Word} (e : s.csrWaits h n v = some t) : t.ledger = s.ledger := by
  simp only [State.csrWaits] at e
  split at e
  · cases e
  · split at e
    · cases e
      rfl
    · split at e
      · exact State.lockWaits_ledger e
      · cases e

theorem State.csrInstr_ledger {s t : State} {h : Nat} {c : CsrOp} (e : s.csrInstr h c = .inr t) : t.ledger = s.ledger := by
  cases c <;> simp only [State.csrInstr] at e <;> split at e <;> cases e <;> simp

/-! ### Machine/Levels.lean -/

@[simp] theorem State.putCluster_ledger (s : State) (c : Nat) (x : Cluster) :
    (s.putCluster c x).ledger = s.ledger := by simp [State.putCluster]

@[simp] theorem State.deriveLevels_ledger (s : State) (boost : Bool) :
    (s.deriveLevels boost).ledger = s.ledger := by simp [State.deriveLevels]

@[simp] theorem State.dropP0_ledger (s : State) : s.dropP0.ledger = s.ledger := by simp [State.dropP0]

/-! ### Machine/HartExec.lean -/

@[simp] theorem branchResolve_ledger (s : State) (h : Nat) (b : Branch) : (branchResolve s h b).ledger = s.ledger := by simp [branchResolve]

@[simp] theorem State.confirmFetch_ledger (s : State) (h : Nat) : (s.confirmFetch h).ledger = s.ledger := by
  simp only [State.confirmFetch]
  (repeat' split) <;> simp

theorem State.retireWaits_ledger {s t : State} {h : Nat} {i : Retire} (e : s.retireWaits h i = some t) : t.ledger = s.ledger := by
  obtain ⟨w, -, hw⟩ := Option.bind_eq_some_iff.mp e
  exact State.csrWaits_ledger hw

@[simp] theorem retireInstr_ledger (s : State) (h : Nat) (i : Retire) : (retireInstr s h i).ledger = s.ledger := by
  simp only [retireInstr]
  split
  · simp
  · split
    · rfl
    · split
      · simp
      · split
        next t e => exact State.retireWaits_ledger e
        next =>
          split
          · simp
          next t e =>
            split at e
            · simp [State.csrInstr_ledger e]
            · cases e
              simp

@[simp] theorem retireUpset_ledger (s : State) (h : Nat) (i : Retire) (u : Upset) : (retireUpset s h i u).ledger = s.ledger := by
  unfold retireUpset
  split <;> simp

@[simp] theorem loopSetup_ledger (s : State) (h level endOff count : Nat) (range : Bool) :
    (loopSetup s h level endOff count range).ledger = s.ledger :=
  State.instr_ledger _ _ _ fun s => by split <;> simp

@[simp] theorem csrRow_ledger (s : State) (h n : Nat) (v : Word) : (csrRow s h n v).ledger = s.ledger := by
  refine State.instr_ledger _ _ _ fun s => ?_
  split
  · simp
  · split
    next t e => exact State.csrWaits_ledger e
    next => simp

@[simp] theorem deadlineMiss_ledger (s : State) (h n : Nat) : (deadlineMiss s h n).ledger = s.ledger := by simp [deadlineMiss]

@[simp] theorem State.wakeCore_ledger (s : State) (h : Nat) : (s.wakeCore h).ledger = s.ledger := by simp [State.wakeCore]

@[simp] theorem cStateEntryComplete_ledger (s : State) (h : Nat) : (cStateEntryComplete s h).ledger = s.ledger := by
  simp only [cStateEntryComplete]
  (repeat' split) <;> simp

@[simp] theorem coreWake_ledger (s : State) (h : Nat) (src : WakeSrc) : (coreWake s h src).ledger = s.ledger := by simp [coreWake]

/-! ### Machine/Mailbox.lean -/

@[simp] theorem State.slSend_ledger (s : State) (p : Nat) (m : SlMsg) : (s.slSend p m).ledger = s.ledger := by simp [State.slSend]

@[simp] theorem State.pump_ledger (fuel : Nat) (s : State) (h : Nat) : (State.pump fuel s h).ledger = s.ledger := by
  induction fuel generalizing s with
  | zero => rfl
  | succ n ih =>
    unfold State.pump
    split
    · rfl
    · simp [ih]

@[simp] theorem gMessageSend_ledger (s : State) (n : Nat) : (gMessageSend s n).ledger = s.ledger := by
  simp only [gMessageSend]
  (repeat' split) <;> simp

@[simp] theorem State.undelivered_ledger (s : State) (h dest : Nat) :
    (s.undelivered h dest).ledger = s.ledger := by simp [State.undelivered]

@[simp] theorem State.dropOut_ledger (s : State) (h i : Nat) : (s.dropOut h i).ledger = s.ledger := by simp [State.dropOut]

@[simp] theorem mailboxAnswer_ledger (s : State) (m : MailAns) : (mailboxAnswer s m).ledger = s.ledger := by
  simp only [mailboxAnswer]
  (repeat' split) <;> simp

@[simp] theorem mailboxResend_ledger (s : State) (h dest : Nat) : (mailboxResend s h dest).ledger = s.ledger := by
  unfold mailboxResend
  split <;> simp

@[simp] theorem mailboxUTimeout_ledger (s : State) (h dest : Nat) : (mailboxUTimeout s h dest).ledger = s.ledger := by
  unfold mailboxUTimeout
  split <;> simp

@[simp] theorem State.gLate_ledger (s : State) (h : Nat) (e : InboxEnt) : (s.gLate h e).ledger = s.ledger := by simp [State.gLate]
@[simp] theorem State.inboxPut_ledger (s : State) (h : Nat) (m : MailMsg) : (s.inboxPut h m).ledger = s.ledger := by simp [State.inboxPut]

@[simp] theorem State.answerMail_ledger (s : State) (m : MailMsg) (dest : Nat) (a : Answer) :
    (s.answerMail m dest a).ledger = s.ledger := by simp [State.answerMail]

@[simp] theorem mailboxMessage_ledger (s : State) (m : MailMsg) : (mailboxMessage s m).ledger = s.ledger := by
  unfold mailboxMessage
  split <;> simp

@[simp] theorem mailFlits_ledger (s : State) (m : MailMsg) (u : Upset) : (mailFlits s m u).ledger = s.ledger := by simp [mailFlits]

@[simp] theorem State.mbSend_ledger (s : State) (h rd : Nat) (buf : List Byte) :
    (s.mbSend h rd buf).ledger = s.ledger := by simp [State.mbSend]

@[simp] theorem State.pairFail_ledger (s : State) (h : Nat) (y : Syndrome) : (s.pairFail h y).ledger = s.ledger := by simp [State.pairFail]

@[simp] theorem pairRequest_ledger (s : State) (h : Nat) (odd : Bool) (r : PairCopy) : (pairRequest s h odd r).ledger = s.ledger := by
  simp only [pairRequest]
  (repeat' split) <;> simp

@[simp] theorem State.spend_ledger (s : State) (h : Nat) : (s.spend h).ledger = s.ledger := by simp [State.spend]

@[simp] theorem State.released_ledger (s : State) (h : Nat) (kind : PairKind) (va : Word) (pa size : Nat) (data : Option Nat) (busy : Bool)
    (f : State → State) (hf : ∀ s, (f s).ledger = s.ledger) :
    (s.released h kind va pa size data busy f).ledger = s.ledger := by
  unfold State.released
  split <;> simp [hf]

@[simp] theorem pairTimeout_ledger (s : State) (h : Nat) : (pairTimeout s h).ledger = s.ledger := by simp [pairTimeout]

/-! ### Machine/Ctl.lean -/

@[simp] theorem State.logWrite_ledger (s : State) (y : Syndrome) (who : Agent) (die block off : Nat) (v : Word) :
    (s.logWrite y who die block off v).ledger = s.ledger := by simp [State.logWrite]

@[simp] theorem State.whileActive_ledger (s : State) (who : Agent) (die block off : Nat) (v : Word) :
    (s.whileActive who die block off v).ledger = s.ledger := by simp [State.whileActive]

@[simp] theorem State.reserved_ledger (s : State) (who : Agent) (die block off : Nat) (v : Word) (own : Nat) :
    (s.reserved who die block off v own).ledger = s.ledger := by simp [State.reserved]

@[simp] theorem State.noteWorld_ledger (s : State) (h a : Nat) : (s.noteWorld h a).ledger = s.ledger := by simp [State.noteWorld]

@[simp] theorem State.ctlFault_ledger (s : State) (h : Nat) (write : Bool) (a : Nat) :
    (s.ctlFault h write a).ledger = s.ledger := by simp [State.ctlFault]

@[simp] theorem State.logUnmapped_ledger (s : State) (node a q : Nat) :
    (s.logUnmapped node a q).ledger = s.ledger := by simp [State.logUnmapped]

@[simp] theorem State.refuse_ledger (s : State) (who : Agent) (write : Bool) (a : Nat) : (s.refuse who write a).ledger = s.ledger := by
  unfold State.refuse
  split <;> simp

@[simp] theorem State.asAgent_ledger (s : State) (who : Agent) (f : State → State) (hf : ∀ s, (f s).ledger = s.ledger) :
    (s.asAgent who f).ledger = s.ledger := by
  unfold State.asAgent
  split <;> simp [hf]

@[simp] theorem State.asAgent_floor (s : State) (who : Agent) (f : State → State) (hf : ∀ s, (f s).ledger.floor = s.ledger.floor) :
    (s.asAgent who f).ledger.floor = s.ledger.floor := by
  unfold State.asAgent
  split <;> simp [hf]

@[simp] theorem State.readReg_ledger (s : State) (h rd a : Nat) (ok : State → Bool) (value : State → Word) (effect : State → State)
    (heffect : ∀ s, (effect s).ledger = s.ledger) :
    (s.readReg h rd a ok value effect).ledger = s.ledger :=
  State.access_ledger _ _ _ fun s => by simp [heffect]

@[simp] theorem State.notifyQuire_ledger (s : State) (q : Nat) : (s.notifyQuire q).ledger = s.ledger := by
  unfold State.notifyQuire
  split <;> simp

@[simp] theorem State.alert_ledger (s : State) (i : Nat) : (s.alert i).ledger = s.ledger := by simp [State.alert]

@[simp] theorem State.partnerAct_ledger (s : State) (kind n : Nat) : (s.partnerAct kind n).ledger = s.ledger := by
  unfold State.partnerAct
  split <;> simp

@[simp] theorem State.demote_ledger (s : State) (n : Nat) : (s.demote n).ledger = s.ledger := by simp [State.demote]

@[simp] theorem State.demoteWhere_ledger (s : State) (p : GStream → Bool) :
    (s.demoteWhere p).ledger = s.ledger := by simp [State.demoteWhere]

/-! ### Machine/Check.lean -/

@[simp] theorem State.logCheck_ledger (s : State) (y : Syndrome) (u q : Nat) (sq : Option Nat) :
    (s.logCheck y u q sq).ledger = s.ledger := by simp [State.logCheck]

@[simp] theorem State.logOcu_ledger (s : State) (y : Syndrome) (who : Agent) (u reg : Nat) (v : Word) :
    (s.logOcu y who u reg v).ledger = s.ledger := by simp [State.logOcu]

@[simp] theorem writeOcu_ledger (s : State) (who : Agent) (u reg : Nat) (v : Word) : (writeOcu s who u reg v).ledger = s.ledger := by
  unfold writeOcu
  (repeat' split) <;> simp

@[simp] theorem writeCommit_ledger (s : State) (who : Agent) (u : Nat) (v : Word) :
    (writeCommit s who u v).ledger = s.ledger := by simp [writeCommit]

/-! ### Machine/QeOps.lean -/

@[simp] theorem State.whenFree_ledger (s : State) (rs : List (Bool × Nat × Nat)) (go : State → State) (hgo : ∀ s, (go s).ledger = s.ledger) :
    (s.whenFree rs go).ledger = s.ledger := by
  simp only [State.whenFree]
  split
  · rfl
  · split <;> simp [hgo]

@[simp] theorem State.noteEngine_ledger (s : State) (node : Nat) : (s.noteEngine node).ledger = s.ledger := by
  unfold State.noteEngine
  split <;> simp

@[simp] theorem State.noteReads_ledger (fuel : Nat) (s : State) (node a n : Nat) : (State.noteReads fuel s node a n).ledger = s.ledger := by
  induction fuel generalizing s a n with
  | zero => rfl
  | succ k ih => simp [State.noteReads, ih]

@[simp] theorem State.busRead_ledger (s : State) (node a n : Nat) : (s.busRead node a n).2.2.ledger = s.ledger := by
  unfold State.busRead
  split <;> simp

@[simp] theorem State.putPiece_ledger (s : State) (node a : Nat) (bs : List Byte) (poison : Poison) :
    (s.putPiece node a bs poison).1.ledger = s.ledger := by simp [State.putPiece]

@[simp] theorem State.putBytes_ledger (fuel : Nat) (s : State) (node a : Nat) (bs : List Byte) (poison : Bool) (n : Nat) :
    (State.putBytes fuel s node a bs poison n).1.ledger = s.ledger := by
  induction fuel generalizing s a bs n with
  | zero => rfl
  | succ k ih => simp [State.putBytes, ih]

@[simp] theorem State.put_ledger (s : State) (node a : Nat) (bs : List Byte) (poison : Bool) :
    (s.put node a bs poison).1.ledger = s.ledger := by simp [State.put]

@[simp] theorem State.logQe_ledger (s : State) (y : Syndrome) (q : Nat) (v : Option Nat) (a : Option Nat) :
    (s.logQe y q v a).ledger = s.ledger := by simp [State.logQe]

@[simp] theorem State.queueError_ledger (s : State) (q err : Nat) : (s.queueError q err).ledger = s.ledger := by simp [State.queueError]
@[simp] theorem State.loadCtx_ledger (s : State) (q : Nat) : (s.loadCtx q).ledger = s.ledger := by simp [State.loadCtx]
@[simp] theorem State.cqMsi_ledger (s : State) (q : Nat) : (s.cqMsi q).ledger = s.ledger := by simp [State.cqMsi]

@[simp] theorem State.sqDoorbell_ledger (s : State) (q : Nat) (v : BitVec 32) :
    (s.sqDoorbell q v).ledger = s.ledger := by simp [State.sqDoorbell]

@[simp] theorem State.cqDoorbell_ledger (s : State) (q : Nat) (v : BitVec 32) :
    (s.cqDoorbell q v).ledger = s.ledger := by simp [State.cqDoorbell]

@[simp] theorem State.doorbell_ledger (s : State) (q : Nat) (v : BitVec 32) : (s.doorbell q v).ledger = s.ledger := by simp [State.doorbell]

@[simp] theorem State.doorbellStore_ledger (s : State) (q off size : Nat) (v : Word) :
    (s.doorbellStore q off size v).ledger = s.ledger := by simp [State.doorbellStore]

@[simp] theorem State.modFlight_ledger (s : State) (d : DescRef) (g : Flight → Flight) :
    (s.modFlight d g).ledger = s.ledger := by simp [State.modFlight]

@[simp] theorem State.finish_ledger (s : State) (d : DescRef) (status len : Nat) (result : Nat) :
    (s.finish d status len result).ledger = s.ledger := by simp [State.finish]

@[simp] theorem State.laneRange_ledger (s : State) (lane : Nat) (f : Flight) (k : AccKind) (a n : Nat) :
    (s.laneRange lane f k a n).1.ledger = s.ledger := by
  unfold State.laneRange
  split <;> simp

@[simp] theorem State.qeMiss_ledger (s : State) (y : Syndrome) (lane : Nat) (f : Flight) :
    (s.qeMiss y lane f).ledger = s.ledger := by simp [State.qeMiss]

@[simp] theorem State.retireFlight_ledger (s : State) (d : DescRef) : (s.retireFlight d).ledger = s.ledger := by simp [State.retireFlight]
@[simp] theorem State.cqDropped_ledger (s : State) (cq q : Nat) : (s.cqDropped cq q).ledger = s.ledger := by simp [State.cqDropped]

@[simp] theorem State.postEntry_ledger (s : State) (d : DescRef) (f : Flight) (cq : Nat) :
    (s.postEntry d f cq).ledger = s.ledger := by simp [State.postEntry]

@[simp] theorem State.complete_ledger (s : State) (d : DescRef) (f : Flight) :
    (s.complete d f).ledger = s.ledger := by simp [State.complete]

@[simp] theorem descriptorComplete_ledger (s : State) (d : DescRef) : (descriptorComplete s d).ledger = s.ledger := by
  unfold descriptorComplete
  split <;> simp

@[simp] theorem State.squash_ledger (s : State) (p : Flight → Bool) : (s.squash p).ledger = s.ledger := by simp [State.squash]

/-! ### Machine/SysLink.lean -/

@[simp] theorem State.logSl_ledger (s : State) (y : Syndrome) (p : Nat) : (s.logSl y p).ledger = s.ledger := by simp [State.logSl]
@[simp] theorem State.slServe_ledger (s : State) (p : Nat) : (s.slServe p).ledger = s.ledger := by simp [State.slServe]

@[simp] theorem State.slAnswered_ledger (s : State) (r : SlReq) (reason : Nat) :
    (s.slAnswered r reason).ledger = s.ledger := by simp [State.slAnswered]

@[simp] theorem State.slPeerGone_ledger (s : State) (p : Nat) : (s.slPeerGone p).ledger = s.ledger := by simp [State.slPeerGone]
@[simp] theorem State.slDemote_ledger (s : State) (p : Nat) : (s.slDemote p).ledger = s.ledger := by simp [State.slDemote]
@[simp] theorem State.logNoRoute_ledger (s : State) (dest : Nat) : (s.logNoRoute dest).ledger = s.ledger := by simp [State.logNoRoute]

theorem State.slSendTo_ledger (s : State) (m : SlMsg) :
    Sum.elim (fun t => t.ledger = s.ledger) (fun r => r.1.ledger = s.ledger) (s.slSendTo m) := by
  unfold State.slSendTo
  split <;> simp

@[simp] theorem State.slDataIn_ledger (s : State) (r : SlReq) (m : SlMsg) : (s.slDataIn r m).ledger = s.ledger := by
  unfold State.slDataIn
  split <;> simp

@[simp] theorem State.slAnswerIn_ledger (s : State) (m : SlMsg) : (s.slAnswerIn m).ledger = s.ledger := by
  unfold State.slAnswerIn
  split <;> simp

@[simp] theorem State.slAnswer_ledger (s : State) (m : SlMsg) (status : Nat) (poison : Bool) (body : List Byte) :
    (s.slAnswer m status poison body).ledger = s.ledger := by
  simp only [State.slAnswer]
  split
  · simp
  · have hsent := s.slSendTo_ledger { s.slNew (m.kind + 1) m.srcPkg m.tag m.secure body with status := status, poison := poison }
    split <;> simp_all

@[simp] theorem State.slForward_ledger (s : State) (p : Nat) (m : SlMsg) : (s.slForward p m).ledger = s.ledger := by
  simp only [State.slForward]
  split
  · split <;> simp
  · have hsent := s.slSendTo_ledger { m with hops := m.hops - 1 }
    split <;> simp_all

@[simp] theorem State.slTake_ledger (s : State) (p : Nat) (m : SlMsg) : (s.slTake p m).ledger = s.ledger := by simp [State.slTake]

@[simp] theorem State.slHandle_ledger (s : State) (p : Nat) (m : SlMsg) (f : State → State) (hf : ∀ s, (f s).ledger = s.ledger) :
    (s.slHandle p m f).ledger = s.ledger := by
  unfold State.slHandle
  (repeat' split) <;> simp [hf]

@[simp] theorem State.slDrop_ledger (s : State) (p : Nat) (retrain : Bool) :
    (s.slDrop p retrain).ledger = s.ledger := by simp [State.slDrop]

@[simp] theorem State.slAccept_ledger (s : State) (p : Nat) (f : SlFlit) : (s.slAccept p f).ledger = s.ledger := by simp [State.slAccept]
@[simp] theorem linkFlit_ledger (s : State) (p : Nat) (f : SlFlit) : (linkFlit s p f).ledger = s.ledger := by simp [linkFlit]
@[simp] theorem replay_ledger (s : State) (p : Nat) : (replay s p).ledger = s.ledger := by simp [replay]

@[simp] theorem slLinkUp_ledger (s : State) (p width : Nat) (fullRate : Bool) :
    (slLinkUp s p width fullRate).ledger = s.ledger := by simp [slLinkUp]

@[simp] theorem linkInit_ledger (s : State) (p : Nat) (m : SlMsg) : (linkInit s p m).ledger = s.ledger := by
  simp only [linkInit]
  (repeat' split) <;> simp

@[simp] theorem State.slLeave_ledger (s : State) (p : Nat) (st : PeerSt) : (s.slLeave p st).ledger = s.ledger := by simp [State.slLeave]
@[simp] theorem rip_ledger (s : State) (p : Nat) : (rip s p).ledger = s.ledger := by simp [rip]

@[simp] theorem peerHeartbeatTimeout_ledger (s : State) (p : Nat) :
    (peerHeartbeatTimeout s p).ledger = s.ledger := by simp [peerHeartbeatTimeout]

@[simp] theorem peerResetTimeout_ledger (s : State) (p : Nat) : (peerResetTimeout s p).ledger = s.ledger := by simp [peerResetTimeout]
@[simp] theorem heartbeatSend_ledger (s : State) (p : Nat) : (heartbeatSend s p).ledger = s.ledger := by simp [heartbeatSend]
@[simp] theorem State.slFlushWaiting_ledger (s : State) (p : Nat) : (s.slFlushWaiting p).ledger = s.ledger := by simp [State.slFlushWaiting]

@[simp] theorem heartbeat_ledger (s : State) (p : Nat) (m : SlMsg) (t4 : Nat) :
    (heartbeat s p m t4).ledger = s.ledger := by simp [heartbeat]

@[simp] theorem gMsg_ledger (s : State) (p : Nat) (m : SlMsg) : (gMsg s p m).ledger = s.ledger := by simp [gMsg]

@[simp] theorem State.remoteDenied_ledger (s : State) (p : Nat) (m : SlMsg) (write : Bool) (len : Nat) :
    (s.remoteDenied p m write len).ledger = s.ledger := by
  simp only [State.remoteDenied]
  (repeat' split) <;> simp

@[simp] theorem slWriteIn_ledger (s : State) (p : Nat) (m : SlMsg) : (slWriteIn s p m).ledger = s.ledger := by
  simp only [slWriteIn]
  (repeat' split) <;> simp

@[simp] theorem slReadIn_ledger (s : State) (p : Nat) (m : SlMsg) : (slReadIn s p m).ledger = s.ledger := by
  simp only [slReadIn]
  (repeat' split) <;> simp

@[simp] theorem State.slSegment_ledger (s : State) (m : SlMsg) (r : SlRecv) : (s.slSegment m r).ledger = s.ledger := by
  simp only [State.slSegment]
  (repeat' split) <;> simp

@[simp] theorem slSendIn_ledger (s : State) (m : SlMsg) : (slSendIn s m).ledger = s.ledger := by
  simp only [slSendIn]
  (repeat' split) <;> simp

@[simp] theorem State.slLocal_ledger (s : State) (p : Nat) (m : SlMsg) : (s.slLocal p m).ledger = s.ledger := by
  unfold State.slLocal
  split <;> simp

@[simp] theorem writeSlCtl_ledger (s : State) (who : Agent) (p : Nat) (v : Word) :
    (writeSlCtl s who p v).ledger = s.ledger := by simp [writeSlCtl]

@[simp] theorem State.slWakeDeliver_ledger (s : State) : s.slWakeDeliver.ledger = s.ledger := by simp [State.slWakeDeliver]

/-! ### Machine/Queue.lean -/

@[simp] theorem writeDoorbell_ledger (s : State) (who : Agent) (q off size : Nat) (v : Word) :
    (writeDoorbell s who q off size v).ledger = s.ledger := by
  unfold writeDoorbell
  split <;> simp

@[simp] theorem State.ringFault_ledger (s : State) (lane q a : Nat) : (s.ringFault lane q a).ledger = s.ledger := by simp [State.ringFault]
@[simp] theorem State.fetchFrom_ledger (s : State) (lane q : Nat) : (s.fetchFrom lane q).ledger = s.ledger := by simp [State.fetchFrom]

@[simp] theorem descriptorFetch_ledger (s : State) (lane : Nat) : (descriptorFetch s lane).ledger = s.ledger := by
  unfold descriptorFetch
  (repeat' split) <;> simp

@[simp] theorem State.rangesOk_ledger (s : State) (lane : Nat) (f : Flight) : (s.rangesOk lane f).1.ledger = s.ledger := by
  simp only [State.rangesOk]
  (repeat' split) <;> simp

@[simp] theorem State.startChecked_ledger (s : State) (d : DescRef) (f : Flight) :
    (s.startChecked d f).ledger = s.ledger := by simp [State.startChecked]

@[simp] theorem State.judge_ledger (s : State) (d : DescRef) (f : Flight) : (s.judge d f).ledger = s.ledger := by simp [State.judge]

@[simp] theorem descriptorStart_ledger (s : State) (d : DescRef) : (descriptorStart s d).ledger = s.ledger := by
  unfold descriptorStart
  split <;> simp

@[simp] theorem State.refuseOp_ledger (s : State) (d : DescRef) (f : Flight) : (s.refuseOp d f).ledger = s.ledger := by
  simp only [State.refuseOp]
  (repeat' split) <;> simp

@[simp] theorem State.actOn_ledger (s : State) (d : DescRef) (f : Flight) (go : State → Flight → State) (hgo : ∀ s a, (go s a).ledger = s.ledger) :
    (s.actOn d f go).ledger = s.ledger := by
  simp [State.actOn, hgo]

@[simp] theorem State.runOp_ledger (s : State) (d : DescRef) (op : Nat) (go : State → Flight → State) (hgo : ∀ s a, (go s a).ledger = s.ledger) :
    (s.runOp d op go).ledger = s.ledger := by
  unfold State.runOp
  split
  · rfl
  · split
    · rfl
    · exact State.whenFree_ledger _ _ _ fun s => by simp [hgo]

@[simp] theorem State.copyFrom_ledger (fuel : Nat) (s : State) (node src dst n done : Nat) (poison : Bool) :
    (State.copyFrom fuel s node src dst n done poison).1.ledger = s.ledger := by
  induction fuel generalizing s src dst n done poison with
  | zero => rfl
  | succ k ih => simp [State.copyFrom, ih]

@[simp] theorem State.logVerdict_ledger (s : State) (u q sq verdict gap : Nat) : (s.logVerdict u q sq verdict gap).ledger = s.ledger := by
  unfold State.logVerdict
  split <;> simp

@[simp] theorem State.tsnSend_ledger (s : State) (d : DescRef) (f : Flight) : (s.tsnSend d f).ledger = s.ledger := by simp [State.tsnSend]

@[simp] theorem State.slBegin_ledger (s : State) (d : DescRef) (dest : Nat) (f : Flight) (go : State → Option Nat → State)
    (hgo : ∀ s a, (go s a).ledger = s.ledger) :
    (s.slBegin d dest f go).ledger = s.ledger := by
  unfold State.slBegin
  (repeat' split) <;> simp [hgo]

@[simp] theorem State.slNote_ledger (s : State) (p : Option Nat) (d : DescRef) (off len : Nat) :
    (s.slNote p d off len).1.ledger = s.ledger := by simp [State.slNote]

@[simp] theorem State.slEmit_ledger (s : State) (p : Option Nat) (m : SlMsg) : (s.slEmit p m).ledger = s.ledger := by
  unfold State.slEmit
  split <;> simp

@[simp] theorem State.slIssue_ledger (s : State) (p : Option Nat) (d : DescRef) (off len : Nat) (m : SlMsg) :
    (s.slIssue p d off len m).ledger = s.ledger := by simp [State.slIssue]

@[simp] theorem State.setKey_ledger (s : State) (q h : Nat) (k : KeyHandle) : (s.setKey q h k).ledger = s.ledger := by simp [State.setKey]

@[simp] theorem State.newKey_ledger (s : State) (f : Flight) (alg : Nat) (key : List Byte) :
    (s.newKey f alg key).ledger = s.ledger := by simp [State.newKey]

@[simp] theorem State.deliver_ledger (s : State) (d : DescRef) (f : Flight) (bs : List Byte) (poison : Bool) (result : Nat) :
    (s.deliver d f bs poison result).ledger = s.ledger := by simp [State.deliver]

@[simp] theorem State.failLane_ledger (s : State) (lane : Nat) : (s.failLane lane).ledger = s.ledger := by simp [State.failLane]

@[simp] theorem State.putFlight_ledger (s : State) (failed lane : Nat) (f g : Flight) :
    (s.putFlight failed lane f g).ledger = s.ledger := by simp [State.putFlight]

@[simp] theorem State.rehome_ledger (s : State) (failed : Nat) (f : Flight) : (s.rehome failed f).ledger = s.ledger := by
  unfold State.rehome
  (repeat' split) <;> simp

@[simp] theorem laneDrained_ledger (s : State) (lane : Nat) : (laneDrained s lane).ledger = s.ledger := by simp [laneDrained]

@[simp] theorem checkUnitFault_ledger (s : State) (u : Nat) : (checkUnitFault s u).ledger = s.ledger := by
  simp only [checkUnitFault]
  (repeat' split) <;> simp

@[simp] theorem State.viResult_ledger (s : State) (v q result : Nat) : (s.viResult v q result).ledger = s.ledger := by simp [State.viResult]
@[simp] theorem State.viEnable_ledger (s : State) (v q : Nat) : (s.viEnable v q).ledger = s.ledger := by simp [State.viEnable]
@[simp] theorem State.viDisable_ledger (s : State) (v q : Nat) : (s.viDisable v q).ledger = s.ledger := by simp [State.viDisable]
@[simp] theorem State.viRead_ledger (s : State) (v q : Nat) : (s.viRead v q).ledger = s.ledger := by simp [State.viRead]

@[simp] theorem writeQcmd_ledger (s : State) (who : Agent) (vi : Nat) (v : Word) : (writeQcmd s who vi v).ledger = s.ledger := by
  simp only [writeQcmd]
  (repeat' split) <;> simp

@[simp] theorem queueDisableDone_ledger (s : State) (q : Nat) : (queueDisableDone s q).ledger = s.ledger := by simp [queueDisableDone]

@[simp] theorem writeViReset_ledger (s : State) (who : Agent) (vi : Nat) (v : Word) : (writeViReset s who vi v).ledger = s.ledger := by
  unfold writeViReset
  (repeat' split) <;> simp

@[simp] theorem viDrainExpired_ledger (s : State) (vi : Nat) : (viDrainExpired s vi).ledger = s.ledger := by simp [viDrainExpired]
@[simp] theorem State.viResetEnd_ledger (s : State) (vi : Nat) : (s.viResetEnd vi).ledger = s.ledger := by simp [State.viResetEnd]
@[simp] theorem viResetDone_ledger (s : State) (vi : Nat) : (viResetDone s vi).ledger = s.ledger := by simp [viResetDone]

@[simp] theorem writeViStage_ledger (s : State) (who : Agent) (v reg : Nat) (x : Word) :
    (writeViStage s who v reg x).ledger = s.ledger := by simp [writeViStage]

/-! ### Machine/Ports.lean -/

@[simp] theorem State.logPcie_ledger (s : State) (y : Syndrome) (group r q : Nat) :
    (s.logPcie y group r q).ledger = s.ledger := by simp [State.logPcie]

@[simp] theorem writePcfgAddr_ledger (s : State) (who : Agent) (q : Nat) (v : Word) :
    (writePcfgAddr s who q v).ledger = s.ledger := by simp [writePcfgAddr]

@[simp] theorem State.pcfgNote_ledger (s : State) (q : Nat) : (s.pcfgNote q).ledger = s.ledger := by simp [State.pcfgNote]

@[simp] theorem State.cfgWrite_ledger (s : State) (q group bdf off : Nat) (v : BitVec 32) :
    (s.cfgWrite q group bdf off v).ledger = s.ledger := by simp [State.cfgWrite]

@[simp] theorem writePcfgData_ledger (s : State) (who : Agent) (q : Nat) (v : Word) :
    (writePcfgData s who q v).ledger = s.ledger := by simp [writePcfgData]

@[simp] theorem hotPlugArrival_ledger (s : State) (group bdf : Nat) :
    (hotPlugArrival s group bdf).ledger = s.ledger := by simp [hotPlugArrival]

@[simp] theorem State.failRequestsTo_ledger (s : State) (node status : Nat) :
    (s.failRequestsTo node status).ledger = s.ledger := by simp [State.failRequestsTo]

@[simp] theorem pcieLinkDown_ledger (s : State) (group port : Nat) : (pcieLinkDown s group port).ledger = s.ledger := by simp [pcieLinkDown]

@[simp] theorem State.dmaRefused_ledger (s : State) (group addr : Nat) :
    (s.dmaRefused group addr).ledger = s.ledger := by simp [State.dmaRefused]

@[simp] theorem State.dmaDoorbell_ledger (s : State) (group bdf addr : Nat) (data : List Byte) :
    (s.dmaDoorbell group bdf addr data).ledger = s.ledger := by simp [State.dmaDoorbell]

@[simp] theorem dmaRequest_ledger (s : State) (group bdf : Nat) (write : Bool) (addr len : Nat) (data : List Byte) :
    (dmaRequest s group bdf write addr len data).ledger = s.ledger := by
  simp only [dmaRequest]
  (repeat' split) <;> simp

@[simp] theorem deviceMsi_ledger (s : State) (group bdf : Nat) (m : MsiMsg) :
    (deviceMsi s group bdf m).ledger = s.ledger := by simp [deviceMsi]

@[simp] theorem State.reservedTsn_ledger (s : State) (who : Agent) (c off : Nat) (v : Word) (own : Nat) :
    (s.reservedTsn who c off v own).ledger = s.ledger := by simp [State.reservedTsn]

@[simp] theorem tsnLinkDown_ledger (s : State) (port : Nat) : (tsnLinkDown s port).ledger = s.ledger := by simp [tsnLinkDown]

@[simp] theorem writeTsn_ledger (s : State) (who : Agent) (c off : Nat) (v : Word) :
    (writeTsn s who c off v).ledger = s.ledger := by simp [writeTsn]

@[simp] theorem State.tsnDeliver_ledger (s : State) (d : DescRef) (f : Flight) (frame : List Byte) :
    (s.tsnDeliver d f frame).ledger = s.ledger := by simp [State.tsnDeliver]

@[simp] theorem tsnFrameReceived_ledger (s : State) (port filter : Nat) (frame : List Byte) :
    (tsnFrameReceived s port filter frame).ledger = s.ledger := by
  simp only [tsnFrameReceived]
  (repeat' split) <;> simp

@[simp] theorem tsnStreamLost_ledger (s : State) (port filter : Nat) :
    (tsnStreamLost s port filter).ledger = s.ledger := by simp [tsnStreamLost]

@[simp] theorem State.tsnGatesChanged_ledger (s : State) (port : Nat) :
    (s.tsnGatesChanged port).ledger = s.ledger := by simp [State.tsnGatesChanged]

@[simp] theorem gclIntervalEnd_ledger (s : State) (port : Nat) : (gclIntervalEnd s port).ledger = s.ledger := by simp [gclIntervalEnd]

@[simp] theorem launchTimeReached_ledger (s : State) (d : DescRef) : (launchTimeReached s d).ledger = s.ledger := by
  unfold launchTimeReached
  split <;> simp

/-! ### Machine/Fences.lean -/

@[simp] theorem State.resetCore_ledger (s : State) (h : Nat) : (s.resetCore h).ledger = s.ledger := by simp [State.resetCore]
@[simp] theorem State.completeFence_ledger (s : State) (u : UnitId) : (s.completeFence u).ledger = s.ledger := by simp [State.completeFence]
@[simp] theorem State.liftFence_ledger (s : State) (u : UnitId) : (s.liftFence u).ledger = s.ledger := by simp [State.liftFence]

@[simp] theorem State.writeBackNow_ledger (s : State) (h : Nat) (w : Wb) :
    (s.writeBackNow h w).ledger = s.ledger := by simp [State.writeBackNow]

@[simp] theorem State.flushDirty_ledger (s : State) (h : Nat) (readable : Bool) : (s.flushDirty h readable).ledger = s.ledger :=
  foldl_ledger _ _ _ fun s l => by split <;> simp

@[simp] theorem State.stopCore_ledger (s : State) (h : Nat) (readable : Bool) :
    (s.stopCore h readable).ledger = s.ledger := by simp [State.stopCore]

@[simp] theorem State.logCoreLost_ledger (s : State) (h : Nat) : (s.logCoreLost h).ledger = s.ledger := by simp [State.logCoreLost]

@[simp] theorem coreFence_ledger (s : State) (h0 : Nat) (readable : Bool) :
    (coreFence s h0 readable).ledger = s.ledger := by simp [coreFence]

@[simp] theorem cdRegionFence_ledger (s : State) (cd : Nat) (reachable : Bool) :
    (cdRegionFence s cd reachable).ledger = s.ledger := by simp [cdRegionFence]

@[simp] theorem State.poisonDirty_ledger (s : State) (n : Nat) : (s.poisonDirty n).ledger = s.ledger := by simp [State.poisonDirty]

@[simp] theorem State.askPorts_ledger (s : State) (n : Nat) (p : Nat → Bool) :
    (s.askPorts n p).ledger = s.ledger := by simp [State.askPorts]

@[simp] theorem State.moveSlice_ledger (s : State) (n : Nat) (home : Option Nat) :
    (s.moveSlice n home).ledger = s.ledger := by simp [State.moveSlice]

@[simp] theorem bdRegionFence_ledger (s : State) (bd : Nat) (readable : Bool) :
    (bdRegionFence s bd readable).ledger = s.ledger := by simp [bdRegionFence]

@[simp] theorem l3SliceFence_ledger (s : State) (n : Nat) (readable : Bool) : (l3SliceFence s n readable).ledger = s.ledger := by
  unfold l3SliceFence
  (repeat' split) <;> simp

@[simp] theorem State.recallFrom_ledger (s : State) (h : Nat) (p : Nat → Bool) : (s.recallFrom h p).ledger = s.ledger := by
  simp only [State.recallFrom, State.setHart_ledger]
  refine (foldl_ledger _ _ _ fun s l => ?_).trans (foldl_ledger _ _ _ fun s w => by simp)
  split <;> simp

@[simp] theorem State.recallSet_ledger (s : State) (p : Nat → Bool) : (s.recallSet p).ledger = s.ledger := by simp [State.recallSet]
@[simp] theorem State.resume_ledger (s : State) (ms : List CohMsg) : (s.resume ms).ledger = s.ledger := by simp [State.resume]
@[simp] theorem dirRebuild_ledger (s : State) (n : Nat) : (dirRebuild s n).ledger = s.ledger := by simp [dirRebuild]
@[simp] theorem State.returnSlice_ledger (s : State) (n : Nat) : (s.returnSlice n).ledger = s.ledger := by simp [State.returnSlice]

@[simp] theorem fenceEscalated_ledger (s : State) (u : UnitId) : (fenceEscalated s u).ledger = s.ledger := by
  unfold fenceEscalated
  (repeat' split) <;> simp

@[simp] theorem State.fenceForReset_ledger (s : State) (u : UnitId) : (s.fenceForReset u).ledger = s.ledger := by simp [State.fenceForReset]
@[simp] theorem State.dropCopies_ledger (s : State) (u : UnitId) : (s.dropCopies u).ledger = s.ledger := by simp [State.dropCopies]
@[simp] theorem State.partnerDown_ledger (s : State) (site : Nat) : (s.partnerDown site).ledger = s.ledger := by simp [State.partnerDown]

@[simp] theorem State.partnerReject_ledger (s : State) (site reason : Nat) :
    (s.partnerReject site reason).ledger = s.ledger := by simp [State.partnerReject]

@[simp] theorem State.failRequestsToDie_ledger (s : State) (die status : Nat) :
    (s.failRequestsToDie die status).ledger = s.ledger := by simp [State.failRequestsToDie]

@[simp] theorem partnerLost_ledger (s : State) (site : Nat) : (partnerLost s site).ledger = s.ledger := by simp [partnerLost]

@[simp] theorem State.partnerPortReset_ledger (s : State) (site : Nat) : (s.partnerPortReset site).ledger = s.ledger := by
  unfold State.partnerPortReset
  split <;> simp

@[simp] theorem State.resetXl_ledger (s : State) (x : Nat) : (s.resetXl x).ledger = s.ledger := by simp [State.resetXl]

@[simp] theorem State.resetUnit_ledger (s : State) (u : UnitId) : (s.resetUnit u).ledger = s.ledger := by
  unfold State.resetUnit
  split <;> simp

@[simp] theorem writeEcReset_ledger (s : State) (h : Nat) (view : EcView) (v : Word) : (writeEcReset s h view v).ledger = s.ledger := by
  unfold writeEcReset
  (repeat' split) <;> simp

@[simp] theorem ecResetDone_ledger (s : State) (u : UnitId) (ok : Bool) : (ecResetDone s u ok).ledger = s.ledger := by
  unfold ecResetDone
  (repeat' split) <;> simp

@[simp] theorem State.notifyHolder_ledger (s : State) (u : UnitId) : (s.notifyHolder u).ledger = s.ledger := by
  unfold State.notifyHolder
  split <;> simp

@[simp] theorem blockLost_ledger (s : State) (u : UnitId) : (blockLost s u).ledger = s.ledger := by simp [blockLost]
@[simp] theorem State.wipe_ledger (s : State) (u : UnitId) : (s.wipe u).ledger = s.ledger := by simp [State.wipe]
@[simp] theorem secureWipe_ledger (s : State) (u : UnitId) (zeros : Bool) : (secureWipe s u zeros).ledger = s.ledger := by simp [secureWipe]

/-! ### Machine/Counters.lean -/

@[simp] theorem State.cntValue_ledger (s : State) (core n : Nat) : (s.cntValue core n).2.ledger = s.ledger := by simp [State.cntValue]
@[simp] theorem State.cntStamped_ledger (s : State) (core : Nat) : (s.cntStamped core).ledger = s.ledger := by simp [State.cntStamped]
@[simp] theorem cntRead_ledger (s : State) (h core n rd : Nat) : (cntRead s h core n rd).ledger = s.ledger := by simp [cntRead]
@[simp] theorem counterWrap_ledger (s : State) (h n : Nat) : (counterWrap s h n).ledger = s.ledger := by simp [counterWrap]

@[simp] theorem writeCnt_ledger (s : State) (who : Agent) (core off : Nat) (v : Word) : (writeCnt s who core off v).ledger = s.ledger := by
  unfold writeCnt
  (repeat' split) <;> simp

/-! ### Machine/EcCtl.lean -/

@[simp] theorem State.ecReserved_ledger (s : State) (h : Nat) (view : EcView) (reg : Nat) (v : Word) (own : Nat) :
    (s.ecReserved h view reg v own).ledger = s.ledger := by simp [State.ecReserved]

@[simp] theorem writeEcSel_ledger (s : State) (h : Nat) (view : EcView) (v : Word) :
    (writeEcSel s h view v).ledger = s.ledger := by simp [writeEcSel]

@[simp] theorem writeEcCtl_ledger (s : State) (h : Nat) (view : EcView) (v : Word) :
    (writeEcCtl s h view v).ledger = s.ledger := by simp [writeEcCtl]

@[simp] theorem writeEcIrq_ledger (s : State) (h : Nat) (view : EcView) (v : Word) : (writeEcIrq s h view v).ledger = s.ledger := by
  unfold writeEcIrq
  (repeat' split) <;> simp

@[simp] theorem State.ecStatRead_ledger (s : State) (view : EcView) : (s.ecStatRead view).ledger = s.ledger := by simp [State.ecStatRead]

@[simp] theorem writeEc_ledger (s : State) (h : Nat) (view : EcView) (reg : Nat) (v : Word) :
    (writeEc s h view reg v).ledger = s.ledger := by simp [writeEc]

@[simp] theorem State.imsicStore_ledger (s : State) (h addr size : Nat) (v : Word) (tval : Word) :
    (s.imsicStore h addr size v tval).ledger = s.ledger := by
  unfold State.imsicStore
  split <;> simp

@[simp] theorem msiArrives_ledger (s : State) (m : MsiMsg) : (msiArrives s m).ledger = s.ledger := by simp [msiArrives]

/-! ### Machine/Fabric.lean -/

@[simp] theorem State.dateRemaps_ledger (s : State) (xs : List Nat) (b : Nat) :
    (s.dateRemaps xs b).ledger = s.ledger := by simp [State.dateRemaps]

@[simp] theorem replan_ledger (s : State) (changed : List Nat) : (replan s changed).ledger = s.ledger := by simp [replan]
@[simp] theorem State.moveRemaps_ledger (s : State) (old b : Nat) : (s.moveRemaps old b).ledger = s.ledger := by simp [State.moveRemaps]

@[simp] theorem sourceHold_ledger (s : State) : (sourceHold s).ledger = s.ledger := by
  unfold sourceHold
  split <;> simp

@[simp] theorem State.dropStreamMessages_ledger (s : State) (ns : List Nat) :
    (s.dropStreamMessages ns).ledger = s.ledger := by simp [State.dropStreamMessages]

@[simp] theorem State.activate_ledger (s : State) (n bound : Nat) : (s.activate n bound).ledger = s.ledger := by simp [State.activate]
@[simp] theorem State.demotePartners_ledger (s : State) : s.demotePartners.ledger = s.ledger := by simp [State.demotePartners]

@[simp] theorem slotTableSwitch_ledger (s : State) : (slotTableSwitch s).ledger = s.ledger := by
  unfold slotTableSwitch
  split <;> simp

@[simp] theorem State.restorePartner_ledger (s : State) (site : Nat) : (s.restorePartner site).ledger = s.ledger :=
  foldl_ledger _ _ _ fun s e => by split <;> simp

@[simp] theorem State.clearGOff_ledger (s : State) : s.clearGOff.ledger = s.ledger := by simp [State.clearGOff]
@[simp] theorem State.applyTables_ledger (s : State) (b : Binding) : (s.applyTables b).ledger = s.ledger := by simp [State.applyTables]
@[simp] theorem State.admitHeld_ledger (s : State) (g : GStream) : (s.admitHeld g).ledger = s.ledger := by simp [State.admitHeld]
@[simp] theorem State.planDelta_ledger (s : State) (b : Binding) : (s.planDelta b).ledger = s.ledger := by simp [State.planDelta]

@[simp] theorem writeStatCtl_ledger (s : State) (who : Agent) (i : Nat) (v : Word) :
    (writeStatCtl s who i v).ledger = s.ledger := by simp [writeStatCtl]

@[simp] theorem writeFmShare_ledger (s : State) (who : Agent) (v : Word) :
    (writeFmShare s who v).ledger = s.ledger := by simp [writeFmShare]

@[simp] theorem writeFm_ledger (s : State) (who : Agent) (off : Nat) (v : Word) :
    (writeFm s who off v).ledger = s.ledger := by simp [writeFm]

/-! ### Machine/Flash.lean -/

@[simp] theorem State.ffLog_ledger (s : State) (kind detail body : Nat) :
    (s.ffLog kind detail body).ledger = s.ledger := by simp [State.ffLog]

/-! ### Machine/Links.lean -/

@[simp] theorem State.markBad_ledger (s : State) (x : Nat) (inward : Bool) (lanes : List Nat) :
    (s.markBad x inward lanes).ledger = s.ledger := by simp [State.markBad]

@[simp] theorem State.copyMap_ledger (s : State) (x : Nat) : (s.copyMap x).ledger = s.ledger := by simp [State.copyMap]
@[simp] theorem repairMapSave_ledger (s : State) : (repairMapSave s).ledger = s.ledger := by simp [repairMapSave]

@[simp] theorem State.loadRepairMap_ledger (s : State) : s.loadRepairMap.ledger = s.ledger := by
  unfold State.loadRepairMap
  split <;> simp

@[simp] theorem State.failCrossing_ledger (s : State) (x : Nat) : (s.failCrossing x).ledger = s.ledger := by
  unfold State.failCrossing
  split <;> simp

@[simp] theorem State.logSpares_ledger (s : State) (x : Nat) (inward : Bool) (lanes : List Nat) :
    (s.logSpares x inward lanes).ledger = s.ledger := by simp [State.logSpares]

@[simp] theorem State.logWidth_ledger (s : State) (x : Nat) (inward : Bool) (old new : Width) (sel : Nat) :
    (s.logWidth x inward old new sel).ledger = s.ledger := by simp [State.logWidth]

@[simp] theorem State.logRepairs_ledger (s : State) (x : Nat) (inward : Bool) : (s.logRepairs x inward).ledger = s.ledger := by
  simp only [State.logRepairs]
  (repeat' split) <;> simp

@[simp] theorem State.trainFailed_ledger (s : State) (x : Nat) : (s.trainFailed x).ledger = s.ledger := by simp [State.trainFailed]
@[simp] theorem State.endTraining_ledger (s : State) : s.endTraining.ledger = s.ledger := by simp [State.endTraining]

@[simp] theorem State.trainCrossing_ledger (s : State) (x : Nat) (r : TrainResult) : (s.trainCrossing x r).ledger = s.ledger := by
  simp only [State.trainCrossing]
  (repeat' split) <;> simp

@[simp] theorem crossingTraining_ledger (s : State) (x : Nat) (r : TrainResult) :
    (crossingTraining s x r).ledger = s.ledger := by simp [crossingTraining]

@[simp] theorem crossingMark_ledger (s : State) : (crossingMark s).ledger = s.ledger := by
  unfold crossingMark
  split
  · exact foldl_ledger _ _ _ fun s x => rfl
  · rfl

@[simp] theorem State.markDeviates_ledger (s : State) (x : Nat) (d : Int) :
    (s.markDeviates x d).ledger = s.ledger := by simp [State.markDeviates]

@[simp] theorem markArrival_ledger (s : State) (x : Nat) (inward : Bool) (slot : Nat) :
    (markArrival s x inward slot).ledger = s.ledger := by
  unfold markArrival
  split <;> simp

@[simp] theorem markerReport_ledger (s : State) (x : Nat) (inward : Bool) (crc : BitVec 32) :
    (markerReport s x inward crc).ledger = s.ledger := by
  unfold markerReport
  split <;> simp

@[simp] theorem laneFailing_ledger (s : State) (x : Nat) (inward : Bool) (lane : Nat) :
    (laneFailing s x inward lane).ledger = s.ledger := by
  simp only [laneFailing]
  (repeat' split) <;> simp

@[simp] theorem State.applyRemap_ledger (s : State) (x : Nat) (r : Remap) :
    (s.applyRemap x r).ledger = s.ledger := by simp [State.applyRemap]

@[simp] theorem crossingRemap_ledger (s : State) (x : Nat) : (crossingRemap s x).ledger = s.ledger := by simp [crossingRemap]

@[simp] theorem State.partnerLinkUp_ledger (s : State) (site : Nat) :
    (s.partnerLinkUp site).ledger = s.ledger := by simp [State.partnerLinkUp]

@[simp] theorem partnerCertificate_ledger (s : State) (site : Nat) (c : List Byte) :
    (partnerCertificate s site c).ledger = s.ledger := by simp [partnerCertificate]

@[simp] theorem State.partnerTrainFail_ledger (s : State) (x : Nat) :
    (s.partnerTrainFail x).ledger = s.ledger := by simp [State.partnerTrainFail]

@[simp] theorem partnerTrained_ledger (s : State) (site : Nat) (info : Word) :
    (partnerTrained s site info).ledger = s.ledger := by simp [partnerTrained]

@[simp] theorem partnerRetry_ledger (s : State) (site : Nat) : (partnerRetry s site).ledger = s.ledger := by simp [partnerRetry]

/-! ### Machine/MemCtl.lean -/

@[simp] theorem State.retirePage_ledger (s : State) (a : Nat) (threshold : Bool) :
    (s.retirePage a threshold).ledger = s.ledger := by simp [State.retirePage]

@[simp] theorem State.memCorrected_ledger (s : State) (a : Nat) : (s.memCorrected a).ledger = s.ledger := by simp [State.memCorrected]
@[simp] theorem State.memUncorrected_ledger (s : State) (a : Nat) : (s.memUncorrected a).ledger = s.ledger := by simp [State.memUncorrected]

@[simp] theorem State.memServe_ledger (s : State) (l : Nat) (e : Ecc) : (s.memServe l e).1.ledger = s.ledger := by
  simp only [State.memServe]
  (repeat' split) <;> simp

@[simp] theorem memoryRead_ledger (s : State) (l : Nat) (e : Ecc) : (memoryRead s l e).ledger = s.ledger := by
  simp only [memoryRead]
  (repeat' split) <;> simp

@[simp] theorem memoryWrite_ledger (s : State) (l : Nat) : (memoryWrite s l).ledger = s.ledger := by
  unfold memoryWrite
  (repeat' split) <;> simp

@[simp] theorem scrub_ledger (s : State) (l : Nat) (e : Ecc) : (scrub s l e).ledger = s.ledger := by
  unfold scrub
  split <;> simp

@[simp] theorem refresh_ledger (s : State) (k bank : Nat) : (refresh s k bank).ledger = s.ledger := by simp [refresh]
@[simp] theorem State.dropPc_ledger (s : State) (pc : Nat) : (s.dropPc pc).ledger = s.ledger := by simp [State.dropPc]
@[simp] theorem State.failPc_ledger (s : State) (pc : Nat) : (s.failPc pc).ledger = s.ledger := by simp [State.failPc]
@[simp] theorem State.dropCh_ledger (s : State) (ch : Nat) : (s.dropCh ch).ledger = s.ledger := by simp [State.dropCh]
@[simp] theorem State.failCh_ledger (s : State) (ch : Nat) : (s.failCh ch).ledger = s.ledger := by simp [State.failCh]
@[simp] theorem State.loseCxl_ledger (s : State) (g : Nat) : (s.loseCxl g).ledger = s.ledger := by simp [State.loseCxl]
@[simp] theorem memoryTraining_ledger (s : State) (r : MemTrainResult) : (memoryTraining s r).ledger = s.ledger := by simp [memoryTraining]
@[simp] theorem retiredListSave_ledger (s : State) : (retiredListSave s).ledger = s.ledger := by simp [retiredListSave]

@[simp] theorem State.loadRetired_ledger (s : State) : s.loadRetired.ledger = s.ledger := by
  unfold State.loadRetired
  split <;> simp

@[simp] theorem writeMc_ledger (s : State) (who : Agent) (die block k off : Nat) (v : Word) :
    (writeMc s who die block k off v).ledger = s.ledger := by simp [writeMc]

/-! ### Machine/Time.lean -/

@[simp] theorem frameBoundary_ledger (s : State) : (frameBoundary s).ledger = s.ledger := by simp [frameBoundary]
@[simp] theorem writePtStep_ledger (s : State) (who : Agent) (v : Word) : (writePtStep s who v).ledger = s.ledger := by simp [writePtStep]
@[simp] theorem writePtSlew_ledger (s : State) (who : Agent) (v : Word) : (writePtSlew s who v).ledger = s.ledger := by simp [writePtSlew]
@[simp] theorem writePtStat_ledger (s : State) (who : Agent) (v : Word) : (writePtStat s who v).ledger = s.ledger := by simp [writePtStat]
@[simp] theorem State.correctDie_ledger (s : State) (d : Nat) : (s.correctDie d).ledger = s.ledger := by simp [State.correctDie]
@[simp] theorem timeBroadcast_ledger (s : State) : (timeBroadcast s).ledger = s.ledger := by simp [timeBroadcast]

/-! ### Machine/Startup.lean -/

@[simp] theorem State.loseMemory_ledger (s : State) (cxlOnly : Bool) :
    (s.loseMemory cxlOnly).ledger = s.ledger := by simp [State.loseMemory]

/-- A reset keeps the rollback floor among what the Clasp's storage holds (R68). -/
@[simp] theorem Clasp.afterReset_floor (c : Clasp) : c.afterReset.floor = c.floor := by simp [Clasp.afterReset]

@[simp] theorem State.resetDomains_floor (s : State) : s.resetDomains.ledger.floor = s.ledger.floor := by
  simp [State.resetDomains, State.clasp_floor]

@[simp] theorem State.holdDomains_floor (s : State) (phase : Phase) :
    (s.holdDomains phase).ledger.floor = s.ledger.floor := by simp [State.holdDomains]

@[simp] theorem State.stopHarts_ledger (s : State) : s.stopHarts.ledger = s.ledger := by simp [State.stopHarts]

@[simp] theorem State.copyFatal_ledger (s : State) : s.copyFatal.ledger = s.ledger := by
  unfold State.copyFatal
  split <;> simp

@[simp] theorem State.startWarm_ledger (s : State) (cause : ResetCause) : (s.startWarm cause).ledger = s.ledger := by simp [State.startWarm]

@[simp] theorem State.resetFalls_floor (s : State) : s.resetFalls.ledger.floor = s.ledger.floor := by
  simp only [State.resetFalls]
  (repeat' split) <;> simp

@[simp] theorem warmReset_floor (s : State) (cause : ResetCause) : (warmReset s cause).ledger.floor = s.ledger.floor := by
  unfold warmReset
  (repeat' split) <;> simp

@[simp] theorem warmResetDrained_floor (s : State) : (warmResetDrained s).ledger.floor = s.ledger.floor := by simp [warmResetDrained]
@[simp] theorem stbyPwrgoodRise_ledger (s : State) : (stbyPwrgoodRise s).ledger = s.ledger := by simp [stbyPwrgoodRise]
@[simp] theorem stbyPwrgoodFall_floor (s : State) : (stbyPwrgoodFall s).ledger.floor = s.ledger.floor := by simp [stbyPwrgoodFall]
@[simp] theorem pwrgoodFall_floor (s : State) : (pwrgoodFall s).ledger.floor = s.ledger.floor := by simp [pwrgoodFall]

@[simp] theorem resetNRise_ledger (s : State) (straps : BitVec 16) : (resetNRise s straps).ledger = s.ledger := by
  unfold resetNRise
  split <;> simp

@[simp] theorem pllLocked_ledger (s : State) : (pllLocked s).ledger = s.ledger := by simp [pllLocked]

@[simp] theorem State.fatalSlot_ledger (s : State) : s.fatalSlot.ledger = s.ledger := by
  unfold State.fatalSlot
  split <;> simp

@[simp] theorem claspBoot_ledger (s : State) : (claspBoot s).ledger = s.ledger := by simp [claspBoot]
@[simp] theorem State.refclkGone_floor (s : State) : s.refclkGone.ledger.floor = s.ledger.floor := by simp [State.refclkGone]
@[simp] theorem refclkRestored_ledger (s : State) : (refclkRestored s).ledger = s.ledger := by simp [refclkRestored]

/-! ### Machine/Persist.lean -/

@[simp] theorem State.putRecord_ledger (s : State) (a : Nat) (bs : List Byte) :
    (s.putRecord a bs).ledger = s.ledger := by simp [State.putRecord]

@[simp] theorem State.armWindow_ledger (s : State) (w : MemWin) : (s.armWindow w).ledger = s.ledger := by simp [State.armWindow]
@[simp] theorem State.armLost_ledger (s : State) (w : MemWin) : (s.armLost w).ledger = s.ledger := by simp [State.armLost]
@[simp] theorem State.pkWoken_ledger (s : State) (src : PkSrc) : (s.pkWoken src).ledger = s.ledger := by simp [State.pkWoken]
@[simp] theorem State.armAll_ledger (s : State) (lost : Bool) : (s.armAll lost).ledger = s.ledger := by simp [State.armAll]
@[simp] theorem State.commitWindow_ledger (s : State) (w : MemWin) : (s.commitWindow w).ledger = s.ledger := by simp [State.commitWindow]

@[simp] theorem State.commitFlush_ledger (s : State) (failed : List (Nat × Nat)) :
    (s.commitFlush failed).ledger = s.ledger := by simp [State.commitFlush]

@[simp] theorem State.writeBackL3_ledger (s : State) : s.writeBackL3.ledger = s.ledger := by simp [State.writeBackL3]

@[simp] theorem State.sleepFlush_ledger (s : State) (k : Nat) (failed : List (Nat × Nat)) :
    (s.sleepFlush k failed).ledger = s.ledger := by simp [State.sleepFlush]

/-! ### Machine/BindVerify.lean -/

@[simp] theorem State.logClasp_ledger (s : State) (y : Syndrome) : (s.logClasp y).ledger = s.ledger := by simp [State.logClasp]

@[simp] theorem State.logClaspFor_ledger (s : State) (q : Nat) (y : Syndrome) :
    (s.logClaspFor q y).ledger = s.ledger := by simp [State.logClaspFor]

/-! ### Machine/CacheCtl.lean -/

@[simp] theorem writeCacheCtl_ledger (s : State) (who : Agent) (core : Nat) (v : Word) :
    (writeCacheCtl s who core v).ledger = s.ledger := by simp [writeCacheCtl]

@[simp] theorem writeWaycfg_ledger (s : State) (who : Agent) (core : Nat) (v : Word) :
    (writeWaycfg s who core v).ledger = s.ledger := by simp [writeWaycfg]

@[simp] theorem State.lockRejected_ledger (s : State) (who : Agent) (n q reg : Nat) (v : Word) :
    (s.lockRejected who n q reg v).ledger = s.ledger := by simp [State.lockRejected]

@[simp] theorem State.setL3q_ledger (s : State) (n q : Nat) (m : L3Q) : (s.setL3q n q m).ledger = s.ledger := by simp [State.setL3q]

@[simp] theorem State.flushWays_ledger (s : State) (n ways locked : Nat) :
    (s.flushWays n ways locked).ledger = s.ledger := by simp [State.flushWays]

@[simp] theorem State.lockWays_ledger (s : State) (n q : Nat) (v : Word) : (s.lockWays n q v).ledger = s.ledger := by simp [State.lockWays]

@[simp] theorem writeL3q_ledger (s : State) (who : Agent) (n q reg : Nat) (v : Word) : (writeL3q s who n q reg v).ledger = s.ledger := by
  unfold writeL3q
  (repeat' split) <;> simp

/-! ### Machine/Binding.lean -/

@[simp] theorem State.noBinding_floor (s : State) :
    s.noBinding.ledger.floor = s.ledger.floor := by simp [State.noBinding, State.clasp_floor]

theorem State.chooseFrom_of_none {s : State} {k : Nat} (rest : List Nat) (hk : s.candidate k = none) :
    s.chooseFrom (k :: rest) = s.chooseFrom rest := by
  show (match s.candidate k with
    | none => s.chooseFrom rest
    | some _ => _) = _
  rw [hk]

theorem State.chooseFrom_of_some {s : State} {k : Nat} {img : List Byte} (rest : List Nat) (hk : s.candidate k = some img) :
    s.chooseFrom (k :: rest) = (s.verifyFull img true).elim (fun y => (s.logClasp y).chooseFrom rest) fun r =>
      { s with boot := { s.boot with current := some k, candidates := rest }, clasp := { s.clasp with cand := some r } } := by
  show (match s.candidate k with
    | none => s.chooseFrom rest
    | some img => match s.verifyFull img true with
      | .inl y => (s.logClasp y).chooseFrom rest
      | .inr r => { s with boot := _, clasp := _ }) = _
  rw [hk]
  cases h : s.verifyFull img true <;> simp [h]

/-- What one slot does to the choice: it is passed over, its image is rejected and logged, or it is chosen (R71). -/
theorem State.chooseFrom_cons (s : State) (k : Nat) (rest : List Nat) :
    s.chooseFrom (k :: rest) = s.chooseFrom rest ∨ (∃ y, s.chooseFrom (k :: rest) = (s.logClasp y).chooseFrom rest)
      ∨ ∃ r, s.chooseFrom (k :: rest)
          = { s with boot := { s.boot with current := some k, candidates := rest }, clasp := { s.clasp with cand := some r } } := by
  cases hk : s.candidate k with
  | none => exact .inl (State.chooseFrom_of_none rest hk)
  | some img =>
    rw [State.chooseFrom_of_some rest hk]
    cases s.verifyFull img true with
    | inl y => exact .inr (.inl ⟨y, rfl⟩)
    | inr r => exact .inr (.inr ⟨r, rfl⟩)

@[simp] theorem State.chooseFrom_floor (s : State) (slots : List Nat) : (s.chooseFrom slots).ledger.floor = s.ledger.floor := by
  induction slots generalizing s with
  | nil => exact State.noBinding_floor s
  | cons k rest ih =>
    obtain h | ⟨y, h⟩ | ⟨r, h⟩ := s.chooseFrom_cons k rest <;> simp [h, ih, State.clasp_floor]

@[simp] theorem bindingSelect_floor (s : State) : (bindingSelect s).ledger.floor = s.ledger.floor := by simp [bindingSelect]
@[simp] theorem State.loadKey_ledger (s : State) (w : MemWin) : (s.loadKey w).ledger = s.ledger := by simp [State.loadKey]
@[simp] theorem State.reseal_ledger (s : State) (w : MemWin) : (s.reseal w).ledger = s.ledger := by simp [State.reseal]
@[simp] theorem State.resetOpenUnit_ledger (s : State) (u : Nat) : (s.resetOpenUnit u).ledger = s.ledger := by simp [State.resetOpenUnit]
@[simp] theorem State.releaseHart_ledger (s : State) (h : Nat) : (s.releaseHart h).ledger = s.ledger := by simp [State.releaseHart]

@[simp] theorem State.applyFailed_floor (s : State) :
    s.applyFailed.ledger.floor = s.ledger.floor := by simp [State.applyFailed, State.clasp_floor]

@[simp] theorem State.applyCore_floor (s : State) (b : Binding) :
    (s.applyCore b).ledger.floor = s.ledger.floor := by simp [State.applyCore, State.clasp_floor]

@[simp] theorem State.applyRest_ledger (s : State) (b : Binding) : (s.applyRest b).ledger = s.ledger := by simp [State.applyRest]

/-! ### Machine/Handover.lean -/

@[simp] theorem State.squashQueues_ledger (s : State) (gone : List Claim) :
    (s.squashQueues gone).ledger = s.ledger := by simp [State.squashQueues]

@[simp] theorem State.beginMove_ledger (s : State) (new : Binding) : (s.beginMove new).ledger = s.ledger := by simp [State.beginMove]
@[simp] theorem State.evacuate_ledger (s : State) (p : Nat → Bool) : (s.evacuate p).ledger = s.ledger := by simp [State.evacuate]
@[simp] theorem State.zeroMemory_ledger (s : State) (lo hi : Nat) : (s.zeroMemory lo hi).ledger = s.ledger := by simp [State.zeroMemory]
@[simp] theorem State.rekey_ledger (s : State) (w : MemWin) : (s.rekey w).ledger = s.ledger := by simp [State.rekey]

@[simp] theorem State.rehomeWindows_ledger (s : State) (new : Binding) :
    (s.rehomeWindows new).ledger = s.ledger := by simp [State.rehomeWindows]

@[simp] theorem State.moveWays_ledger (s : State) (old new : Binding) : (s.moveWays old new).ledger = s.ledger := by simp [State.moveWays]

@[simp] theorem State.recallMoved_ledger (s : State) (es : List (Nat × DirEnt)) :
    (s.recallMoved es).ledger = s.ledger := by simp [State.recallMoved]

@[simp] theorem State.moveCores_ledger (s : State) (harts : List Nat) (failed : List Nat) :
    (s.moveCores harts failed).ledger = s.ledger := by simp [State.moveCores]

@[simp] theorem State.moveQueues_ledger (s : State) (gone : List Claim) :
    (s.moveQueues gone).ledger = s.ledger := by simp [State.moveQueues]

@[simp] theorem State.dropHandles_ledger (s : State) : s.dropHandles.ledger = s.ledger := by simp [State.dropHandles]

@[simp] theorem State.moveIdentities_ledger (s : State) (gone : List Claim) :
    (s.moveIdentities gone).ledger = s.ledger := by simp [State.moveIdentities]

@[simp] theorem State.moveFunctions_ledger (s : State) (gone : List Claim) :
    (s.moveFunctions gone).ledger = s.ledger := by simp [State.moveFunctions]

/-! ### Machine/Colophon.lean -/

@[simp] theorem State.signColophon_ledger (s : State) (nonce : BitVec 256) :
    (s.signColophon nonce).2.ledger = s.ledger := by simp [State.signColophon]

@[simp] theorem colophonResign_floor (s : State) :
    (colophonResign s).ledger.floor = s.ledger.floor := by simp [colophonResign, State.clasp_floor]

/-! ### Machine/Gate.lean -/

@[simp] theorem State.gateResult_ledger (s : State) (r : Nat) : (s.gateResult r).ledger = s.ledger := by simp [State.gateResult]

@[simp] theorem State.logPwrDenied_ledger (s : State) (u : UnitId) (q : Nat) :
    (s.logPwrDenied u q).ledger = s.ledger := by simp [State.logPwrDenied]

@[simp] theorem State.gatedRequests_ledger (s : State) (u : UnitId) : (s.gatedRequests u).ledger = s.ledger := by
  unfold State.gatedRequests
  split <;> simp

@[simp] theorem State.judgeGate_ledger (s : State) : s.judgeGate.ledger = s.ledger := by simp [State.judgeGate]
@[simp] theorem writePwrReq_ledger (s : State) (who : Agent) (v : Word) : (writePwrReq s who v).ledger = s.ledger := by simp [writePwrReq]

/-! ### Machine/Requests.lean -/

@[simp] theorem State.readImage_ledger (s : State) (q addr len : Nat) :
    (s.readImage q addr len).2.ledger = s.ledger := by simp [State.readImage]

@[simp] theorem State.setReq_floor (s : State) (q : Nat) (st : ReqSt) (step syn result : Nat) :
    (s.setReq q st step syn result).ledger.floor = s.ledger.floor := by simp [State.setReq]

@[simp] theorem State.endReq_floor (s : State) (q step syn result : Nat) :
    (s.endReq q step syn result).ledger.floor = s.ledger.floor := by simp [State.endReq]

@[simp] theorem State.setWork_floor (s : State) (w : Option Work) :
    (s.setWork w).ledger.floor = s.ledger.floor := by simp [State.setWork, State.clasp_floor]

@[simp] theorem State.pendOwner_floor (s : State) (new : Binding) (seq : BitVec 16) (q : Nat) :
    (s.pendOwner new seq q).ledger.floor = s.ledger.floor := by simp [State.pendOwner]

@[simp] theorem State.startMove_floor (s : State) (q : Nat) (d : Binding) (digest : List Byte) :
    (s.startMove q d digest).ledger.floor = s.ledger.floor := by simp [State.startMove]

@[simp] theorem State.startHandover_floor (s : State) (q : Nat) (d : Binding) (digest : List Byte) :
    (s.startHandover q d digest).ledger.floor = s.ledger.floor := by simp [State.startHandover]

@[simp] theorem State.clearPend_floor (s : State) (q : Nat) : (s.clearPend q).ledger.floor = s.ledger.floor := by simp [State.clearPend]

@[simp] theorem State.abortHandover_floor (s : State) (q : Nat) (d : Binding) (o : Nat) (y : Syndrome) :
    (s.abortHandover q d o y).ledger.floor = s.ledger.floor := by simp [State.abortHandover]

@[simp] theorem State.forceOwner_ledger (s : State) (new : Binding) (o : Nat) (y : Syndrome) :
    (s.forceOwner new o y).ledger = s.ledger := by simp [State.forceOwner]

@[simp] theorem State.ownerDone_floor (s : State) (o : Nat) (forced : Bool) : (s.ownerDone o forced).ledger.floor = s.ledger.floor := by
  unfold State.ownerDone
  split <;> simp

@[simp] theorem State.ownerFails_floor (s : State) (o : Nat) (y : Syndrome) : (s.ownerFails o y).ledger.floor = s.ledger.floor := by
  unfold State.ownerFails
  split <;> simp

@[simp] theorem State.moveMemory_ledger (s : State) (old new d : Binding) :
    (s.moveMemory old new d).ledger = s.ledger := by simp [State.moveMemory]

@[simp] theorem State.moveRest_ledger (s : State) (old new d : Binding) :
    (s.moveRest old new d).ledger = s.ledger := by simp [State.moveRest]

@[simp] theorem State.finishMove_floor (s : State) (q : Nat) (d : Binding) (digest : List Byte) (failed : List UnitId) :
    (s.finishMove q d digest failed).ledger.floor = s.ledger.floor := by simp [State.finishMove, State.clasp_floor]

@[simp] theorem State.startStore_floor (s : State) (q : Option Nat) (img : List Byte) :
    (s.startStore q img).ledger.floor = s.ledger.floor := by simp [State.startStore, State.clasp_floor]

@[simp] theorem State.programSlot_ledger (s : State) (img : List Byte) (t : Nat) (recordOk : Bool) :
    (s.programSlot img t recordOk).ledger = s.ledger := by simp [State.programSlot]

@[simp] theorem State.runBreq_floor (s : State) (q addr op arg len : Nat) :
    (s.runBreq q addr op arg len).ledger.floor = s.ledger.floor := by
  simp only [State.runBreq]
  (repeat' split) <;> simp

@[simp] theorem State.runCol_floor (s : State) (q : Nat) (nonce : BitVec 256) (dest : Nat) :
    (s.runCol q nonce dest).ledger.floor = s.ledger.floor := by
  unfold State.runCol
  split <;> simp

@[simp] theorem State.runRequest_floor (s : State) (r : Request) : (s.runRequest r).ledger.floor = s.ledger.floor := by
  unfold State.runRequest
  split <;> simp

@[simp] theorem State.serve_floor (fuel : Nat) (s : State) : (State.serve fuel s).ledger.floor = s.ledger.floor := by
  induction fuel generalizing s with
  | zero => rfl
  | succ n ih => unfold State.serve; split <;> simp [ih, State.clasp_floor]

@[simp] theorem State.goOnServing_floor (s : State) : s.goOnServing.ledger.floor = s.ledger.floor := by simp [State.goOnServing]

@[simp] theorem State.breqCtl_floor (s : State) (who : Agent) (q : Nat) (v : Word) :
    (s.breqCtl who q v).ledger.floor = s.ledger.floor := by simp [State.breqCtl, State.clasp_floor]

@[simp] theorem State.colCtl_floor (s : State) (who : Agent) (q : Nat) (v : Word) :
    (s.colCtl who q v).ledger.floor = s.ledger.floor := by simp [State.colCtl, State.clasp_floor]

@[simp] theorem State.handoverAnswer_floor (s : State) (h q : Nat) (v : Word) :
    (s.handoverAnswer h q v).ledger.floor = s.ledger.floor := by simp [State.handoverAnswer]

@[simp] theorem writeBreq_floor (s : State) (who : Agent) (q reg : Nat) (v : Word) :
    (writeBreq s who q reg v).ledger.floor = s.ledger.floor := by
  unfold writeBreq
  split <;> simp

@[simp] theorem State.submit_floor (s : State) (h op : Nat) (v : Word) :
    (s.submit h op v).ledger.floor = s.ledger.floor := by simp [State.submit]

@[simp] theorem handoverTimeout_floor (s : State) (o : Nat) : (handoverTimeout s o).ledger.floor = s.ledger.floor := by
  unfold handoverTimeout
  split <;> simp

@[simp] theorem movePhaseEnd_floor (s : State) (failed : List UnitId) : (movePhaseEnd s failed).ledger.floor = s.ledger.floor := by
  unfold movePhaseEnd
  split <;> simp

@[simp] theorem flashProgramDone_floor (s : State) (imageOk recordOk : Bool) :
    (flashProgramDone s imageOk recordOk).ledger.floor = s.ledger.floor := by
  unfold flashProgramDone
  (repeat' split) <;> simp

/-! ### Machine/Debug.lean -/

@[simp] theorem State.swdRefuse_ledger (s : State) (who : Agent) (write : Bool) : (s.swdRefuse who write).ledger = s.ledger := by
  unfold State.swdRefuse
  split <;> simp

@[simp] theorem swdFirst_ledger (s0 : State) : (swdFirst s0).ledger = s0.ledger := by simp [swdFirst]
@[simp] theorem swdReset_ledger (s0 : State) : (swdReset s0).ledger = s0.ledger := by simp [swdReset]
@[simp] theorem writeSwd_ledger (s : State) (who : Agent) (v : Word) : (writeSwd s who v).ledger = s.ledger := by simp [writeSwd]
@[simp] theorem State.releaseHalted_ledger (s : State) : s.releaseHalted.ledger = s.ledger := by simp [State.releaseHalted]

@[simp] theorem State.openSession_floor (s : State) (bits : BitVec 4) (durationS : Nat) :
    (s.openSession bits durationS).ledger.floor = s.ledger.floor := by simp [State.openSession, State.clasp_floor]

@[simp] theorem State.closeSession_floor (s : State) :
    s.closeSession.ledger.floor = s.ledger.floor := by simp [State.closeSession, State.clasp_floor]

@[simp] theorem State.setCmderr_ledger (s : State) (e : Nat) : (s.setCmderr e).ledger = s.ledger := by simp [State.setCmderr]

@[simp] theorem State.abstractCmd_ledger (s : State) (h : Nat) (f : State → State) (hf : ∀ s, (f s).ledger = s.ledger) :
    (s.abstractCmd h f).ledger = s.ledger := by
  unfold State.abstractCmd
  (repeat' split) <;> simp [hf]

@[simp] theorem State.debugCsrWrite_ledger (s : State) (h n : Nat) (v : Word) :
    (s.debugCsrWrite h n v).ledger = s.ledger := by simp [State.debugCsrWrite]

@[simp] theorem State.dmiOp_ledger (s : State) (op : DmiOp) : (s.dmiOp op).ledger = s.ledger := by
  cases op <;> simp [State.dmiOp]

@[simp] theorem State.selectTap_ledger (s : State) (die code : Nat) : (s.selectTap die code).ledger = s.ledger := by simp [State.selectTap]
@[simp] theorem State.tapBypass_ledger (s : State) (die : Nat) : (s.tapBypass die).ledger = s.ledger := by simp [State.tapBypass]

@[simp] theorem State.tapInstr_ledger (s : State) (die code : Nat) (iodOnly cond : Bool) :
    (s.tapInstr die code iodOnly cond).ledger = s.ledger := by simp [State.tapInstr]

@[simp] theorem State.capture_ledger (s : State) (v : Nat) : (s.capture v).ledger = s.ledger := by simp [State.capture]

@[simp] theorem State.captureWrap_ledger (s : State) (die code : Nat) :
    (s.captureWrap die code).ledger = s.ledger := by simp [State.captureWrap]

/-! ### Machine/Governor.lean -/

@[simp] theorem State.epochSlack_ledger (s : State) : s.epochSlack.2.ledger = s.ledger := by
  unfold State.epochSlack
  split <;> simp

@[simp] theorem State.govLog_ledger (s : State) (kind reason qid old new target : Nat) (slack : Word) :
    (s.govLog kind reason qid old new target slack).ledger = s.ledger := by simp [State.govLog]

@[simp] theorem State.govLogAt_ledger (s : State) (kind reason qid old new target : Nat) :
    (s.govLogAt kind reason qid old new target).ledger = s.ledger := by simp [State.govLogAt]

@[simp] theorem writeGovSel_ledger (s : State) (who : Agent) (v : Word) : (writeGovSel s who v).ledger = s.ledger := by
  unfold writeGovSel
  split <;> simp

@[simp] theorem State.epochQuire_ledger (s : State) (r : GovRec) : (s.epochQuire r).ledger = s.ledger := by
  simp only [State.epochQuire]
  (repeat' split) <;> simp

@[simp] theorem State.throttleOne_ledger (s : State) (reason c : Nat) :
    (s.throttleOne reason c).ledger = s.ledger := by simp [State.throttleOne]

@[simp] theorem State.limitUnmet_ledger (s : State) : s.limitUnmet.ledger = s.ledger := by simp [State.limitUnmet]

@[simp] theorem State.epochLimits_ledger (s : State) (t : Telemetry) : (s.epochLimits t).ledger = s.ledger := by
  unfold State.epochLimits
  split <;> simp

@[simp] theorem State.epochShare_ledger (s : State) (g : GovPkg) (n : Nat) :
    (s.epochShare g n).ledger = s.ledger := by simp [State.epochShare]

@[simp] theorem State.epochLend_ledger (s : State) (g : GovPkg) (n q : Nat) (m : BitVec 16) :
    (s.epochLend g n q m).ledger = s.ledger := by simp [State.epochLend]

@[simp] theorem State.epochPrefetch_ledger (s : State) (h n : Nat) :
    (s.epochPrefetch h n).ledger = s.ledger := by simp [State.epochPrefetch]

@[simp] theorem State.epochRefresh_ledger (s : State) (g : GovPkg) (n : Nat) :
    (s.epochRefresh g n).ledger = s.ledger := by simp [State.epochRefresh]

@[simp] theorem State.epochAdjust_ledger (s : State) (t : Telemetry) : (s.epochAdjust t).ledger = s.ledger := by
  unfold State.epochAdjust
  (repeat' split) <;> simp

@[simp] theorem governorEpoch_ledger (s : State) (t : Telemetry) : (governorEpoch s t).ledger = s.ledger := by simp [governorEpoch]

@[simp] theorem frequencySwitch_ledger (s : State) (c : Nat) : (frequencySwitch s c).ledger = s.ledger := by
  simp only [frequencySwitch]
  (repeat' split) <;> simp

@[simp] theorem currentLimiterTrip_ledger (s : State) : (currentLimiterTrip s).ledger = s.ledger := by simp [currentLimiterTrip]

@[simp] theorem writeCidle_ledger (s : State) (who : Agent) (core : Nat) (v : Word) :
    (writeCidle s who core v).ledger = s.ledger := by simp [writeCidle]

/-! ### Machine/Package.lean -/

@[simp] theorem writePkCtl_ledger (s : State) (who : Agent) (v : Word) : (writePkCtl s who v).ledger = s.ledger := by simp [writePkCtl]
@[simp] theorem State.pkEntered_ledger (s : State) (k : Nat) : (s.pkEntered k).ledger = s.ledger := by simp [State.pkEntered]
@[simp] theorem pk1Entry_ledger (s : State) : (pk1Entry s).ledger = s.ledger := by simp [pk1Entry]
@[simp] theorem State.sleepMisses_ledger (s : State) : s.sleepMisses.ledger = s.ledger := by simp [State.sleepMisses]
@[simp] theorem pkEntry_ledger (s : State) : (pkEntry s).ledger = s.ledger := by simp [pkEntry]
@[simp] theorem State.loseCds_ledger (s : State) : s.loseCds.ledger = s.ledger := by simp [State.loseCds]
@[simp] theorem State.losePk3_ledger (s : State) : s.losePk3.ledger = s.ledger := by simp [State.losePk3]
@[simp] theorem State.startExit_ledger (s : State) (src : PkSrc) : (s.startExit src).ledger = s.ledger := by simp [State.startExit]

@[simp] theorem State.wakeBy_ledger (s : State) (src : PkSrc) : (s.wakeBy src).ledger = s.ledger := by
  unfold State.wakeBy
  split <;> simp

@[simp] theorem pkEntryComplete_ledger (s : State) : (pkEntryComplete s).ledger = s.ledger := by
  simp only [pkEntryComplete]
  (repeat' split) <;> simp

@[simp] theorem State.restorePk3_ledger (s : State) : s.restorePk3.ledger = s.ledger := by simp [State.restorePk3]

@[simp] theorem pkExitComplete_ledger (s : State) : (pkExitComplete s).ledger = s.ledger := by
  unfold pkExitComplete
  split <;> simp

/-! ### Machine/Firefly.lean -/

@[simp] theorem State.ruleLog_ledger (s : State) (n : Nat) : (s.ruleLog n).ledger = s.ledger := by simp [State.ruleLog]
@[simp] theorem State.ruleGpio_ledger (s : State) (w : Word) : (s.ruleGpio w).ledger = s.ledger := by simp [State.ruleGpio]

@[simp] theorem State.ruleActs_ledger (s : State) (rs : List (Nat × Word)) : (s.ruleActs rs).ledger = s.ledger := by
  simp only [State.ruleActs, State.ledger_ite, State.wakeBy_ledger, ite_self]
  rw [foldl_ledger _ _ _ fun s e => State.ruleGpio_ledger ..]
  simp only [State.ledger_ite, State.alert_ledger, ite_self]
  split <;> simp

@[simp] theorem State.ruleRecovery_ledger (s : State) : s.ruleRecovery.ledger = s.ledger := by
  unfold State.ruleRecovery
  split <;> simp

@[simp] theorem ffRuleEvaluation_ledger (s : State) (i : FfInputs) : (ffRuleEvaluation s i).ledger = s.ledger := by simp [ffRuleEvaluation]
@[simp] theorem writeFfData_ledger (s : State) (who : Agent) (v : Word) : (writeFfData s who v).ledger = s.ledger := by simp [writeFfData]

@[simp] theorem writeFf_ledger (s : State) (who : Agent) (off : Nat) (v : Word) :
    (writeFf s who off v).ledger = s.ledger := by simp [writeFf]

@[simp] theorem State.ffDataAfter_ledger (s : State) : s.ffDataAfter.ledger = s.ledger := by simp [State.ffDataAfter]
@[simp] theorem ffLockstep_ledger (s : State) : (ffLockstep s).ledger = s.ledger := by simp [ffLockstep]
@[simp] theorem State.railFaultOf_ledger (s : State) (u : UnitId) : (s.railFaultOf u).ledger = s.ledger := by simp [State.railFaultOf]

@[simp] theorem nocPllLockLost_floor (s : State) (die : Nat) :
    (nocPllLockLost s die).ledger.floor = s.ledger.floor := by simp [nocPllLockLost]

/-! ### Machine/Smbus.lean -/

@[simp] theorem State.answer_floor (s : State) (data : List Byte) :
    (s.answer data).ledger.floor = s.ledger.floor := by simp [State.answer, State.clasp_floor]

@[simp] theorem State.answerRefused_floor (s : State) (y : Syndrome) :
    (s.answerRefused y).ledger.floor = s.ledger.floor := by simp [State.answerRefused, State.clasp_floor]

@[simp] theorem smbStatus_floor (s : State) : (smbStatus s).ledger.floor = s.ledger.floor := by simp [smbStatus]

@[simp] theorem smbColophon_floor (s : State) (nonce : BitVec 256) :
    (smbColophon s nonce).ledger.floor = s.ledger.floor := by simp [smbColophon]

@[simp] theorem State.setOwner_floor (s : State) (i : Nat) (o : Owner) :
    (s.setOwner i o).ledger.floor = s.ledger.floor := by simp [State.setOwner, State.clasp_floor]

@[simp] theorem ownerEnrol_floor (s : State) (mldsaPk ecdsaPk : List Byte) :
    (ownerEnrol s mldsaPk ecdsaPk).ledger.floor = s.ledger.floor := by simp [ownerEnrol]

@[simp] theorem ownerUpdate_floor (s : State) (slot state : Nat) (hashes : List Byte) (counter : Nat) (sig : SigBlock) :
    (ownerUpdate s slot state hashes counter sig).ledger.floor = s.ledger.floor := by
  unfold ownerUpdate
  (repeat' split) <;> simp [State.clasp_floor]

@[simp] theorem loadBinding_floor (s : State) (img : List Byte) : (loadBinding s img).ledger.floor = s.ledger.floor := by
  unfold loadBinding
  (repeat' split) <;> simp

@[simp] theorem debugChallenge_floor (s : State) :
    (debugChallenge s).ledger.floor = s.ledger.floor := by simp [debugChallenge, State.clasp_floor]

@[simp] theorem debugOpen_floor (s : State) (bits durationS : Nat) (sig : SigBlock) :
    (debugOpen s bits durationS sig).ledger.floor = s.ledger.floor := by simp [debugOpen, State.clasp_floor]

@[simp] theorem repairClear_floor (s : State) (x : Nat) : (repairClear s x).ledger.floor = s.ledger.floor := by simp [repairClear]

/-! ### Machine/Regs.lean -/

@[simp] theorem State.regDenied_ledger (s : State) (who : Agent) (r : Reg) : (s.regDenied who r).ledger = s.ledger := by
  unfold State.regDenied
  split <;> simp

@[simp] theorem State.regAfter_ledger (s : State) (r : Reg) : (s.regAfter r).ledger = s.ledger := by
  unfold State.regAfter
  (repeat' split) <;> simp

@[simp] theorem State.regStore_floor (s : State) (who : Agent) (die block off : Nat) (r : Reg) (v : Word) :
    (s.regStore who die block off r v).ledger.floor = s.ledger.floor := by
  unfold State.regStore
  (repeat' split) <;> simp

theorem State.ctlLoad_ledger (s : State) (h a size : Nat) :
    Sum.elim (fun t => t.ledger = s.ledger) (fun r => r.2.ledger = s.ledger) (s.ctlLoad h a size) := by
  unfold State.ctlLoad
  (repeat' split) <;> simp

theorem State.ctlStore_floor (s : State) (who : Agent) (a size : Nat) (v : Word) :
    Sum.elim (fun t => t.ledger.floor = s.ledger.floor) (fun r => r.ledger.floor = s.ledger.floor) (s.ctlStore who a size v) := by
  unfold State.ctlStore
  (repeat' split) <;> simp

@[simp] theorem registerWrite_floor (s : State) (who : Agent) (tgt : RegTarget) (v : Word) :
    (registerWrite s who tgt v).ledger.floor = s.ledger.floor := by
  unfold registerWrite
  split
  next a size =>
    refine State.asAgent_floor _ _ _ fun s => ?_
    have hctl := s.ctlStore_floor who a size v
    split <;> simp_all
  next => split <;> simp

/-! ### Machine/Access.lean -/

@[simp] theorem State.noteXlate_ledger (s : State) (h : Nat) (k : AccKind) (va : Word) (spec : Bool) :
    (s.noteXlate h k va spec).ledger = s.ledger := by simp [State.noteXlate]

@[simp] theorem State.accFault_ledger (s : State) (h : Nat) (k : AccKind) (va : Word) (spec : Bool) :
    (s.accFault h k va spec).ledger = s.ledger := by simp [State.accFault]

theorem State.locate_ledger (s : State) (h : Nat) (k : AccKind) (va : Word) (n : Nat) (spec : Bool) :
    Sum.elim (fun t => t.ledger = s.ledger) (fun r => r.1.ledger = s.ledger) (s.locate h k va n spec) := by
  unfold State.locate
  (repeat' split) <;> simp

@[simp] theorem State.misaligned_ledger (s : State) (h : Nat) (k : AccKind) (va : Word) : (s.misaligned h k va).ledger = s.ledger := by
  have hat := s.locate_ledger h k va 1 false
  unfold State.misaligned
  split <;> simp_all

@[simp] theorem State.tlbUpset_ledger (s : State) (h : Nat) (k : AccKind) (va : Word) (u : Upset) :
    (s.tlbUpset h k va u).1.ledger = s.ledger := by
  simp only [State.tlbUpset]
  (repeat' split) <;> simp

theorem State.locateWith_ledger (s : State) (h : Nat) (k : AccKind) (va : Word) (n : Nat) (spec : Bool) (u : Upset) :
    Sum.elim (fun t => t.ledger = s.ledger) (fun r => r.1.ledger = s.ledger) (s.locateWith h k va n spec u) := by
  have hat := (s.tlbUpset h k va u).1.locate_ledger h k va n spec
  simp only [State.locateWith]
  split
  · simp
  · simpa using hat

@[simp] theorem State.cacheUpset_ledger (s : State) (h l : Nat) (fetch : Bool) (u : Upset) :
    (s.cacheUpset h l fetch u).1.ledger = s.ledger := by
  simp only [State.cacheUpset]
  (repeat' split) <;> simp

@[simp] theorem State.recallLine_ledger (s : State) (h : Nat) (va : Word) (l : Nat) (spec : Bool) :
    (s.recallLine h va l spec).ledger = s.ledger := by simp [State.recallLine]

@[simp] theorem State.ownAccess_ledger (s : State) (h : Nat) (va : Word) (l : Nat) (w : Waiter) :
    (s.ownAccess h va l w).ledger = s.ledger := by
  simp only [State.ownAccess]
  (repeat' split) <;> simp

@[simp] theorem State.ownWith_ledger (s : State) (h : Nat) (va : Word) (l : Nat) (u : Upset) (w : Waiter) :
    (s.ownWith h va l u w).ledger = s.ledger := by simp [State.ownWith]

@[simp] theorem State.ncLoad_ledger (s : State) (h : Nat) (o : LoadOp) (pa : Nat) :
    (s.ncLoad h o pa).ledger = s.ledger := by simp [State.ncLoad]

@[simp] theorem State.loaded_ledger (s : State) (h : Nat) (o : LoadOp) (v : Word) :
    (s.loaded h o v).ledger = s.ledger := by simp [State.loaded]

@[simp] theorem State.ioLoad_ledger (s : State) (h : Nat) (o : LoadOp) (pa : Nat) : (s.ioLoad h o pa).ledger = s.ledger := by
  have hctl := (s.modHart h (fun x => x.count 37 1)).ctlLoad_ledger h pa (2 ^ o.size)
  simp only [State.ioLoad]
  (repeat' split) <;> simp_all

@[simp] theorem State.cachedLoad_ledger (s : State) (h : Nat) (o : LoadOp) (pa : Nat) (u : Upset) :
    (s.cachedLoad h o pa u).ledger = s.ledger := by simp [State.cachedLoad]

@[simp] theorem loadAccess_ledger (s : State) (h : Nat) (o : LoadOp) (u : Upset) : (loadAccess s h o u).ledger = s.ledger := by
  have hat := s.locateWith_ledger h (loadKind o) o.va (2 ^ o.size) o.spec u
  simp only [loadAccess]
  (repeat' split) <;> simp_all

@[simp] theorem State.ncStore_ledger (fuel : Nat) (s : State) (h : Nat) (st : MissSt) (node : Nat) (va : Word) (pa : Nat) (bs : List Byte) :
    (State.ncStore fuel s h st node va pa bs).ledger = s.ledger := by
  induction fuel generalizing s pa bs with
  | zero => rfl
  | succ n ih => unfold State.ncStore; split <;> simp [ih]

@[simp] theorem State.ioStore_floor (s : State) (h : Nat) (va : Word) (pa size : Nat) (v : Word) :
    (s.ioStore h va pa size v).ledger.floor = s.ledger.floor := by
  have hctl := (s.modHart h (fun x => x.count 37 1)).ctlStore_floor (.hart h) pa (2 ^ size) v
  simp only [State.ioStore]
  (repeat' split) <;> simp_all

@[simp] theorem State.ncPut_ledger (s : State) (h : Nat) (va : Word) (pa : Nat) (bs : List Byte) :
    (s.ncPut h va pa bs).ledger = s.ledger := by simp [State.ncPut]

@[simp] theorem storeAccess_floor (s : State) (h : Nat) (va : Word) (size : Nat) (data : Word) (u : Upset) :
    (storeAccess s h va size data u).ledger.floor = s.ledger.floor := by
  have hat := s.locateWith_ledger h .store va (2 ^ size) false u
  simp only [storeAccess]
  (repeat' split) <;> simp_all

@[simp] theorem State.farSend_ledger (s : State) (h : Nat) (o : AmoOp) (pa : Nat) :
    (s.farSend h o pa).ledger = s.ledger := by simp [State.farSend]

@[simp] theorem State.amoAt_ledger (s : State) (h : Nat) (o : AmoOp) (pa : Nat) (st : MissSt) : (s.amoAt h o pa st).ledger = s.ledger := by
  unfold State.amoAt
  split <;> simp

theorem State.amoGo_ledger (s : State) (h : Nat) (o : AmoOp) (pa : Nat) (p : AccPlace) (t : State) :
    ((s.amoGo h o pa p).2 t).ledger = t.ledger := by
  unfold State.amoGo
  split
  · simp
  · simp
  · split <;> simp

@[simp] theorem amoAccess_ledger (s : State) (h : Nat) (o : AmoOp) (u : Upset) : (amoAccess s h o u).ledger = s.ledger := by
  have hat := s.locateWith_ledger h .store o.va (2 ^ o.size) false u
  have hgo (p : AccPlace) (pa size : Nat) (data : Option Nat) (r : State) :
      (r.released h .amo o.va pa size data (r.amoGo h o pa p).1 (r.amoGo h o pa p).2).ledger = r.ledger :=
    State.released_ledger _ _ _ _ _ _ _ _ _ fun t => State.amoGo_ledger ..
  simp only [amoAccess]
  split
  · rfl
  · split
    · simp
    · split
      next t e => simpa [e] using hat
      next t pa p e =>
        have ht : t.ledger = s.ledger := by simpa [e] using hat
        split <;> simp [hgo, ht]

@[simp] theorem lrAccess_ledger (s : State) (h rd : Nat) (va : Word) (size : Nat) (u : Upset) :
    (lrAccess s h rd va size u).ledger = s.ledger := by
  have hat := s.locateWith_ledger h .load va (2 ^ size) false u
  simp only [lrAccess]
  (repeat' split) <;> simp_all

@[simp] theorem State.endReserve_ledger (s : State) (h : Nat) : (s.endReserve h).ledger = s.ledger := by simp [State.endReserve]

@[simp] theorem State.scPerform_ledger (s : State) (h rd : Nat) (va : Word) (pa size : Nat) (data : Word) :
    (s.scPerform h rd va pa size data).ledger = s.ledger := by simp [State.scPerform]

@[simp] theorem State.scGo_ledger (s : State) (h rd : Nat) (va : Word) (pa size : Nat) (data : Word) :
    (s.scGo h rd va pa size data).ledger = s.ledger := by
  simp only [State.scGo]
  (repeat' split) <;> simp

@[simp] theorem scAccess_ledger (s : State) (h rd : Nat) (va : Word) (size : Nat) (data : Word) (u : Upset) :
    (scAccess s h rd va size data u).ledger = s.ledger := by
  have hat := s.locateWith_ledger h .store va (2 ^ size) false u
  simp only [scAccess]
  (repeat' split) <;> simp_all

theorem State.locateBlock_ledger (s : State) (h : Nat) (va : Word) :
    Sum.elim (fun t => t.ledger = s.ledger) (fun r => r.1.ledger = s.ledger) (s.locateBlock h va) := by
  simp only [State.locateBlock]
  (repeat' split) <;> simp

@[simp] theorem State.cleanBlock_ledger (s : State) (l : Nat) : (s.cleanBlock l).ledger = s.ledger := by
  unfold State.cleanBlock
  split <;> simp

@[simp] theorem State.dropBlock_ledger (s : State) (l : Nat) : (s.dropBlock l).ledger = s.ledger := by simp [State.dropBlock]

@[simp] theorem State.flushBlock_ledger (s : State) (l : Nat) : (s.flushBlock l).ledger = s.ledger := by
  unfold State.flushBlock
  split <;> simp

@[simp] theorem CboKind.act_ledger (k : CboKind) (x : Hart) (s : State) (l : Nat) : (CboKind.act k x s l).ledger = s.ledger := by
  unfold CboKind.act
  split <;> simp

@[simp] theorem cboOp_ledger (s : State) (h : Nat) (va : Word) (k : CboKind) : (cboOp s h va k).ledger = s.ledger := by
  have hat := s.locateBlock_ledger h va
  simp only [cboOp]
  (repeat' split) <;> simp_all

@[simp] theorem cboZero_ledger (s : State) (h : Nat) (va : Word) : (cboZero s h va).ledger = s.ledger := by
  have hat := s.locate_ledger h .store (word (va.toNat / 64 * 64)) 64 false
  simp only [cboZero]
  (repeat' split) <;> simp_all

@[simp] theorem State.prefetchLine_ledger (s : State) (h l : Nat) (va : Word) (spec fetch : Bool) :
    (s.prefetchLine h l va spec fetch).ledger = s.ledger := by simp [State.prefetchLine]

@[simp] theorem zicbopPrefetch_ledger (s : State) (h : Nat) (kind : PrefetchKind) (va : Word) :
    (zicbopPrefetch s h kind va).ledger = s.ledger := by
  simp only [zicbopPrefetch]
  (repeat' split) <;> simp

@[simp] theorem hardwarePrefetch_ledger (s : State) (h : Nat) (trigger va : Word) :
    (hardwarePrefetch s h trigger va).ledger = s.ledger := by
  simp only [hardwarePrefetch]
  (repeat' split) <;> simp

@[simp] theorem lockOp_ledger (s : State) (h rd rs1 : Nat) (f : State → Word → Nat → State) (hf : ∀ s a b, (f s a b).ledger = s.ledger) :
    (lockOp s h rd rs1 f).ledger = s.ledger := by
  have hat := s.locate_ledger h .load ((s.hart h).getX rs1) 1 false
  simp only [lockOp]
  split <;> simp_all

@[simp] theorem State.lockGo_ledger (s : State) (h rd : Nat) (va : Word) (pa : Nat) :
    (s.lockGo h rd va pa).ledger = s.ledger := by simp [State.lockGo]

@[simp] theorem State.portRequest_ledger (s : State) (m : CohMsg) (g : Nat) :
    (s.portRequest m g).ledger = s.ledger := by simp [State.portRequest]

@[simp] theorem ncRequest_ledger (s : State) (m : CohMsg) : (ncRequest s m).ledger = s.ledger := by
  unfold ncRequest
  (repeat' split) <;> simp

@[simp] theorem State.logTimeout_ledger (s : State) (origin dst tag line qid : Nat) :
    (s.logTimeout origin dst tag line qid).ledger = s.ledger := by simp [State.logTimeout]

@[simp] theorem State.missExpired_ledger (s : State) (h : Nat) (m : Miss) :
    (s.missExpired h m).ledger = s.ledger := by simp [State.missExpired]

@[simp] theorem State.wbExpired_ledger (s : State) (h : Nat) (w : Wb) : (s.wbExpired h w).ledger = s.ledger := by simp [State.wbExpired]

@[simp] theorem hartTimeout_ledger (s : State) (h tag : Nat) : (hartTimeout s h tag).ledger = s.ledger := by
  simp only [hartTimeout]
  (repeat' split) <;> simp

@[simp] theorem State.retryOnce_ledger (s : State) (node tag : Nat) : (s.retryOnce node tag).ledger = s.ledger := by
  unfold State.retryOnce
  split <;> simp

@[simp] theorem State.laneTimeout_ledger (s : State) (lane i : Nat) : (s.laneTimeout lane i).ledger = s.ledger := by
  unfold State.laneTimeout
  split <;> simp

@[simp] theorem nodeTimeout_ledger (s : State) (node tag : Nat) : (nodeTimeout s node tag).ledger = s.ledger := by
  unfold nodeTimeout
  (repeat' split) <;> simp

/-! ### Machine/Flush.lean -/

@[simp] theorem pwrfailNFall_floor (s : State) : (pwrfailNFall s).ledger.floor = s.ledger.floor := by
  simp only [pwrfailNFall]
  (repeat' split) <;> simp

@[simp] theorem State.abortQuiesce_floor (s : State) : s.abortQuiesce.ledger.floor = s.ledger.floor := by
  unfold State.abortQuiesce
  split <;> simp

@[simp] theorem persistentFlush_floor (s : State) (byRule : Bool) :
    (persistentFlush s byRule).ledger.floor = s.ledger.floor := by simp [persistentFlush]

@[simp] theorem flushDrained_ledger (s : State) (failed : List (Nat × Nat)) : (flushDrained s failed).ledger = s.ledger := by
  unfold flushDrained
  (repeat' split) <;> simp

@[simp] theorem pflushDone_floor (s : State) : (pflushDone s).ledger.floor = s.ledger.floor := by simp [pflushDone]

@[simp] theorem pwrfailRecovery_ledger (s : State) : (pwrfailRecovery s).ledger = s.ledger := by
  simp only [pwrfailRecovery]
  (repeat' split) <;> simp

/-! ### Machine/Pair.lean -/

theorem State.bufferAt_ledger (s : State) (h : Nat) (k : AccKind) (va : Word) :
    Sum.elim (fun t => t.ledger = s.ledger) (fun r => r.1.ledger = s.ledger) (s.bufferAt h k va) := by
  have hat := s.locate_ledger h k va 64 false
  simp only [State.bufferAt]
  (repeat' split) <;> simp_all

@[simp] theorem State.sendFrom_ledger (s : State) (h rd : Nat) (va : Word) (pa : Nat) (d : Line × Poison) :
    (s.sendFrom h rd va pa d).ledger = s.ledger := by simp [State.sendFrom]

@[simp] theorem mbsendAccess_ledger (s : State) (h rd rs1 : Nat) : (mbsendAccess s h rd rs1).ledger = s.ledger := by
  have hat := s.bufferAt_ledger h .load ((s.hart h).getX rs1)
  simp only [mbsendAccess]
  (repeat' split) <;> simp_all

@[simp] theorem State.tookEntry_ledger (s : State) (h rd : Nat) : (s.tookEntry h rd).ledger = s.ledger := by simp [State.tookEntry]

@[simp] theorem mbrecvAccess_ledger (s : State) (h rd : Nat) (va : Word) (e : InboxEnt) : (mbrecvAccess s h rd va e).ledger = s.ledger := by
  have hat := s.bufferAt_ledger h .store va
  simp only [mbrecvAccess]
  (repeat' split) <;> simp_all

theorem State.pairStore_floor {s t : State} {h : Nat} {r : PairCopy} (e : s.pairStore h r = some t) : t.ledger.floor = s.ledger.floor := by
  simp only [State.pairStore] at e
  split at e <;> split at e <;> cases e <;> simp

@[simp] theorem pairRelease_floor (s : State) (h : Nat) : (pairRelease s h).ledger.floor = s.ledger.floor := by
  simp only [pairRelease]
  split
  · rfl
  next r _ _ =>
    split
    · cases e : (s.modHart h (fun x => { x with pairReady := none }.count 53 1)).pairStore h r with
      | none => rfl
      | some t => simpa using State.pairStore_floor e
    · simp

theorem execTlbLock_floorKept (h : Nat) (v : Word) (s : State) : FloorKept s (execTlbLock h v s) := by
  unfold execTlbLock
  split
  next t e =>
    split at e
    · simp [State.lockWaits_ledger e]
    · cases e
  next => simp

/-! ### Machine/Dispatch.lean -/

/-- Every command but BINDING_APPLY keeps the rollback floor, each by the lemmas about its meaning. -/
theorem exec_floorKept (c : Instr) (s : State) (hc : ∀ failed, c ≠ .bindingApply failed) : FloorKept s (exec c s) := by
  -- First the commands whose meaning branches, or hands a function to a combinator; of any other, `simp` finds the lemma about its meaning.
  cases c
  case bindingApply failed => exact absurd rfl (hc failed)
  case tlbLock h v => exact execTlbLock_floorKept h v s
  case xret | wfi | lzMbrecv => exact .of_ledger (State.instr_ledger _ _ _ fun s => by split <;> simp)
  case amo => exact .of_ledger (State.instr_ledger _ _ _ fun s => State.watched_ledger _ _ _ _ _ _ _ fun s => by simp)
  case lzUnlock => exact .of_ledger (State.instr_ledger _ _ _ fun s => lockOp_ledger _ _ _ _ _ fun s va pa => by simp)
  case ptStatRead => exact .of_ledger (State.readReg_ledger _ _ _ _ _ _ _ fun _ => rfl)
  case slWrite | slRead | slSend => exact .of_ledger (State.runOp_ledger _ _ _ _ fun s f => State.slBegin_ledger _ _ _ _ _ fun s p => by simp)
  case gcmOpen => exact .of_ledger (State.runOp_ledger _ _ _ _ fun s f => by dsimp only; split <;> simp)
  case interruptTaken | completionTimeout | debugSessionExpiry | debugChallengeExpiry => exact .next (by split <;> simp [State.clasp_floor])
  all_goals exact .next (by simp)

end Sys2Proof.Machine
end

section
/-! PROOFS. BINDING_APPLY (R68, R73, R74): its steps, what they do to the rollback floor, and the floor over every command. -/

namespace Sys2Proof.Machine

/-- The steps of R73 up to the arming of the windows: the cores first, then the other resources, then persistence. -/
def State.applySteps (s : State) (b : Binding) (owner : List Byte) (lost : Bool) : State :=
  ((({ s with clasp := { s.clasp with ownerHash := owner } } : State).applyCore b).applyRest b).armAll lost

/-- The applied Binding in force: the floor raised where it says so (R68), the start-up over. -/
def State.putInForce (s : State) (b : Binding) (digest : List Byte) : State :=
  { s with
    clasp := { s.clasp with applied := true, digests := [digest], gens := [b.generation], cand := none, noValid := false,
                            floor := if b.raiseFloor then max s.clasp.floor b.generation else s.clasp.floor },
    boot := { s.boot with phase := .running, booted := s.boot.current },
    pwr := { s.pwr with pk := 0, pkExiting := none } }

/-- The boot hart of each Quire leaves reset (R73). -/
def State.releaseBoots (s : State) (b : Binding) : State := b.quires.foldl (fun s q => s.releaseHart q.bootHart) s

@[simp] theorem State.applySteps_floor (s : State) (b : Binding) (owner : List Byte) (lost : Bool) :
    (s.applySteps b owner lost).ledger.floor = s.ledger.floor := by simp [State.applySteps, State.clasp_floor]

@[simp] theorem State.putInForce_floor (s : State) (b : Binding) (digest : List Byte) :
    (s.putInForce b digest).ledger.floor = if b.raiseFloor then max s.ledger.floor b.generation else s.ledger.floor := by
  simp [State.putInForce, State.clasp_floor]

@[simp] theorem State.releaseBoots_ledger (s : State) (b : Binding) : (s.releaseBoots b).ledger = s.ledger := by simp [State.releaseBoots]

/-- After a wake from PK4, `t` with what had waited for the wake delivered; else `t` (the wake is judged on the state before the application). -/
def State.pk4Woken (s t : State) : State :=
  if decide (s.boot.cause = .pk4Wake) && s.boot.warm then
    (match s.pwr.pkExiting with | some p => t.slWakeDeliver.pkWoken p | none => t.slWakeDeliver) else t

@[simp] theorem State.pk4Woken_ledger (s t : State) : (s.pk4Woken t).ledger = t.ledger := by
  simp only [State.pk4Woken]
  (repeat' split) <;> simp

/-- BINDING_APPLY of a candidate clear of the context table, as far as its steps succeed (R73). -/
def State.applyBinding (s : State) (b : Binding) (digest owner : List Byte) : State :=
  (s.pk4Woken ((s.applySteps b owner (decide (s.boot.cause = .pk4Wake) && s.boot.warm)).putInForce b digest)).needResign.releaseBoots b

theorem bindingApply_eq {s : State} {b : Binding} {dg owner : List Byte} (hphase : s.boot.phase = .ready 7)
    (hcand : s.clasp.cand = some (b, dg, owner)) (hfree : s.overlapsContexts b = false) : bindingApply s none = s.applyBinding b dg owner := by
  have hdef : bindingApply s none = (match s.boot.phase, s.clasp.cand with
    | .ready 7, some (b, digest, owner) =>
      if s.overlapsContexts b then (s.logClasp Syn.bindConflict).applyFailed else s.applyBinding b digest owner
    | _, _ => s) := by
    simp only [bindingApply, State.applyBinding, State.releaseBoots, State.pk4Woken, State.putInForce, State.applySteps] <;> rfl
  rw [hdef, hphase, hcand]
  simp [hfree]

/-- Whatever BINDING_APPLY comes to, applied or failed, the floor does not fall. -/
theorem bindingApply_floor_le (s : State) (failed : Option UnitId) : s.ledger.floor ≤ (bindingApply s failed).ledger.floor := by
  simp only [bindingApply]
  (repeat' split) <;> simp [State.clasp_floor]

/-- A Binding applied with RAISE_FLOOR takes the floor to its GENERATION, if that is higher (R68). -/
theorem bindingApply_floor {s : State} {b : Binding} {dg owner : List Byte} (hphase : s.boot.phase = .ready 7)
    (hcand : s.clasp.cand = some (b, dg, owner)) (hfree : s.overlapsContexts b = false) :
    (bindingApply s none).ledger.floor = if b.raiseFloor then max s.ledger.floor b.generation else s.ledger.floor := by
  simp [bindingApply_eq hphase hcand hfree, State.applyBinding]

/-- No command lowers the rollback floor (R68): BINDING_APPLY may raise it, every other command keeps it. -/
theorem exec_floor_le {c : Instr} {s t : State} (h : exec c s = .next t) : s.ledger.floor ≤ t.ledger.floor := by
  by_cases hc : ∃ failed, c = .bindingApply failed
  · obtain ⟨failed, rfl⟩ := hc
    cases h
    exact bindingApply_floor_le s failed
  · exact ((exec_floorKept c s fun failed e => hc ⟨failed, e⟩).floor t h).ge

/-- Settles O45: BINDING_APPLY takes the floor to the maximum of it and the GENERATION, and no command lowers it, by `exec_floor_le`. -/
theorem rollbackFloor : Obligations.Rollback_floor := by
  unfold Obligations.Rollback_floor
  simp only [State.clasp_floor]
  refine ⟨by simp [State.ledger, Clasp.ledger, State.reset, Clasp.reset], fun s b dg owner hphase hcand hfree => ⟨_, rfl, ?_, ?_⟩,
    fun _ _ _ => exec_floor_le⟩
  · intro hraise hle
    simp [bindingApply_floor hphase hcand hfree, hraise, hle]
  · intro hraise
    simp [bindingApply_floor hphase hcand hfree, hraise]

end Sys2Proof.Machine
end

section
/-! PROOFS. The state that reset leaves. -/

namespace Sys2Proof.Machine

/-- Settles O55: each part of the reset state as its definition gives it. -/
theorem resetState : Obligations.Reset_state := by
  unfold Obligations.Reset_state
  exact ⟨rfl, rfl, rfl, rfl, rfl, rfl, rfl, rfl, rfl, rfl, fun _ => rfl, fun _ => rfl, fun _ => rfl, fun _ => ⟨rfl, rfl⟩, fun _ => rfl,
    rfl, rfl, rfl, rfl, rfl, rfl⟩

end Sys2Proof.Machine
end

section
/-! PROOFS. Which records stay on their way when others are logged (R340). -/

namespace Sys2Proof.Machine

/-! ### Records on their way (R340) -/

/-- The collector of a unit carries a record of a syndrome upwards. Unlike `State.carries`, it outlives later records in any
state: a state may list two collectors of a unit, and the next record of the unit overwrites the second. -/
def State.sends (s : State) (u : UnitId) (y : Syndrome) : Prop := ∃ r ∈ (s.err.lowCol u).upward, r.syndrome = y.code

theorem Errors.lowCol_setLow_same (e : Errors) {c : LowCol} {u : UnitId} (hu : c.unit = u) : (e.setLow c).lowCol u = c := by
  subst hu
  unfold Errors.lowCol Errors.setLow
  cases hd : e.low.find? (fun d => d.unit == c.unit) with
  | none =>
    have hany : e.low.any (fun d => d.unit == c.unit) = false := by simpa using hd
    simp [hany, List.find?_append, hd]
  | some d =>
    have hmem := List.mem_of_find?_eq_some hd
    have hunit : d.unit = c.unit := by simpa using List.find?_some hd
    have hany : e.low.any (fun d => d.unit == c.unit) = true := List.any_eq_true.mpr ⟨d, hmem, by simp [hunit]⟩
    have hsame : (fun d : LowCol => (if d.unit == c.unit then c else d).unit == c.unit) = fun d => d.unit == c.unit := by
      funext d
      split <;> simp_all
    simp only [hany, if_true, List.find?_map, Function.comp_def, hsame, hd]
    simp [hunit]

theorem Errors.lowCol_setLow_other (e : Errors) {c : LowCol} {u : UnitId} (hu : u ≠ c.unit) : (e.setLow c).lowCol u = e.lowCol u := by
  unfold Errors.lowCol Errors.setLow
  have hc : (c.unit == u) = false := by simpa using hu.symm
  split
  · have hunit : (fun d : LowCol => (if d.unit == c.unit then c else d).unit == u) = fun d => d.unit == u := by
      funext d
      split <;> simp_all
    simp only [List.find?_map, Function.comp_def, hunit]
    cases hd : e.low.find? (fun d => d.unit == u) with
    | none => rfl
    | some d =>
      have := List.find?_some hd
      simp_all
  · simp [List.find?_append, hc]

theorem State.sends.carries {s : State} {u : UnitId} {y : Syndrome} (h : s.sends u y) : s.carries y = true := by
  obtain ⟨r, hr, hy⟩ := h
  rw [State.carries_iff]
  unfold Errors.lowCol at hr
  cases hc : s.err.low.find? (fun c => c.unit == u) with
  | none => simp [hc, LowCol.reset] at hr
  | some c => exact ⟨c, List.mem_of_find?_eq_some hc, r, by simpa [hc] using hr, hy⟩

theorem State.sends_congr {s t : State} (h : t.err.low = s.err.low) (u : UnitId) (y : Syndrome) : t.sends u y ↔ s.sends u y := by
  rw [State.sends, State.sends, Errors.lowCol, Errors.lowCol, h]

/-- Logging an event, the collector of the record's origin sends the record after what it sent before; the others send what they sent. -/
theorem State.log_sends_iff (s : State) (r : ErrRec) (u : UnitId) (y : Syndrome) :
    (s.log r).sends u y ↔ s.sends u y ∨ u = originUnit r ∧ r.syndrome = y.code := by
  have hlow : ∀ c : LowCol, (s.log r).err.low = (s.err.setLow c).low → ((s.log r).err.lowCol u) = (s.err.setLow c).lowCol u := fun c h => by
    rw [Errors.lowCol, Errors.lowCol, h]
  rw [State.sends, hlow _ (s.log_low r)]
  by_cases hu : u = originUnit r
  · subst hu
    rw [Errors.lowCol_setLow_same _ ((LowCol.receive_unit ..).trans (Errors.lowCol_unit ..)), LowCol.receive_upward]
    simp [State.sends, or_and_right, exists_or]
  · rw [Errors.lowCol_setLow_other _ (by rwa [LowCol.receive_unit, Errors.lowCol_unit])]
    simp [State.sends, hu]

end Sys2Proof.Machine
end

section
/-! PROOFS. The choice of a candidate at start-up, and a Binding applied (R71, R73, R74). -/

namespace Sys2Proof.Machine

/-! ### Choosing a candidate (R71) -/

theorem State.log_sends (s : State) {r : ErrRec} {y : Syndrome} (h : r.syndrome = y.code) : (s.log r).sends (originUnit r) y :=
  (s.log_sends_iff r _ y).mpr (.inr ⟨rfl, h⟩)

theorem State.log_sends_mono {s : State} {u : UnitId} {y : Syndrome} (r : ErrRec) (h : s.sends u y) : (s.log r).sends u y :=
  (s.log_sends_iff r u y).mpr (.inl h)

theorem State.noBinding_sends_mono {s : State} {u : UnitId} {y : Syndrome} (h : s.sends u y) : s.noBinding.sends u y :=
  State.log_sends_mono _ h

theorem State.chooseFrom_sends_mono {slots : List Nat} {s : State} {u : UnitId} {y : Syndrome} (hs : s.sends u y) :
    (s.chooseFrom slots).sends u y := by
  induction slots generalizing s with
  | nil => exact State.noBinding_sends_mono hs
  | cons k rest ih =>
    obtain h | ⟨x, h⟩ | ⟨r, h⟩ := s.chooseFrom_cons k rest <;> rw [h]
    · exact ih hs
    · exact ih (State.log_sends_mono _ hs)
    · exact hs

theorem State.chooseFrom_current {slots : List Nat} {s : State} {k : Nat} (hk : (s.chooseFrom slots).boot.current = some k) : k ∈ slots := by
  induction slots generalizing s with
  | nil => cases hk
  | cons i rest ih =>
    obtain h | ⟨x, h⟩ | ⟨r, h⟩ := s.chooseFrom_cons i rest <;> rw [h] at hk
    · exact .tail _ (ih hk)
    · exact .tail _ (ih hk)
    · cases hk
      exact .head _

/-- Step 5 of the start-up follows where a candidate was chosen (R71). -/
def State.selected (s : State) : State := if s.boot.current.isSome then { s with boot := { s.boot with phase := .ready 5 } } else s

@[simp] theorem State.selected_err (s : State) : s.selected.err = s.err := by
  unfold State.selected
  split <;> rfl

@[simp] theorem State.selected_current (s : State) : s.selected.boot.current = s.boot.current := by
  unfold State.selected
  split <;> rfl

theorem bindingSelect_two {s : State} {a b : List Byte} (hphase : s.boot.phase = .ready 4) (ha : s.candidate 0 = some a)
    (hb : s.candidate 1 = some b) :
    bindingSelect s = (s.chooseFrom (if imgGeneration a < imgGeneration b then [1, 0] else [0, 1])).selected := by
  have hslots : ∀ l : List Nat, (∀ k ∈ l, k = 0 ∨ k = 1) → l.filter (fun k => (s.candidate k).isSome) = l := fun l hl =>
    List.filter_eq_self.mpr fun k hk => by rcases hl k hk with rfl | rfl <;> simp [ha, hb]
  have hfilter : (if imgGeneration a < imgGeneration b then [1, 0] else [0, 1]).filter (fun k => (s.candidate k).isSome)
      = if imgGeneration a < imgGeneration b then [1, 0] else [0, 1] := hslots _ fun k hk => by
    split at hk <;> simp_all [or_comm]
  unfold bindingSelect
  simp [State.selected, hphase, ha, hb, hfilter]

theorem State.chooseFrom_verified {s : State} {k : Nat} {img : List Byte} {r : Binding × List Byte × List Byte} (rest : List Nat)
    (hk : s.candidate k = some img) (hr : s.verifyFull img true = .inr r) :
    (s.chooseFrom (k :: rest)).selected
      = { s with boot := { s.boot with current := some k, candidates := rest, phase := .ready 5 }, clasp := { s.clasp with cand := some r } } := by
  simp [State.chooseFrom_of_some rest hk, hr, State.selected]

theorem State.chooseFrom_rejected {s : State} {k : Nat} {img : List Byte} {y : Syndrome} {rest : List Nat} (hk : s.candidate k = some img)
    (hy : s.verifyFull img true = .inl y) (hrest : k ∉ rest) :
    (s.chooseFrom (k :: rest)).selected.carries y = true ∧ (s.chooseFrom (k :: rest)).selected.boot.current ≠ some k := by
  have hstep : s.chooseFrom (k :: rest) = (s.logClasp y).chooseFrom rest := by simp [State.chooseFrom_of_some rest hk, hy]
  rw [hstep, State.selected_current]
  have hsends : ((s.logClasp y).chooseFrom rest).sends _ y := State.chooseFrom_sends_mono (s.log_sends rfl)
  exact ⟨((State.sends_congr (by simp) _ y).mpr hsends).carries, fun h => hrest (State.chooseFrom_current h)⟩

/-- Of two candidates the one that is tried first is chosen if it verifies; else its fault is logged and it is not chosen (R71). -/
theorem State.chooseFrom_first {s : State} {k : Nat} {img : List Byte} {rest : List Nat} (hk : s.candidate k = some img) (hrest : k ∉ rest) :
    match s.verifyFull img true with
    | .inr r => (s.chooseFrom (k :: rest)).selected
        = { s with boot := { s.boot with current := some k, candidates := rest, phase := .ready 5 }, clasp := { s.clasp with cand := some r } }
    | .inl y => (s.chooseFrom (k :: rest)).selected.carries y = true ∧ (s.chooseFrom (k :: rest)).selected.boot.current ≠ some k := by
  cases h : s.verifyFull img true with
  | inl y => exact State.chooseFrom_rejected hk h hrest
  | inr r => exact State.chooseFrom_verified rest hk h

theorem exec_bindingSelect_two {s : State} {a b : List Byte} (hphase : s.boot.phase = .ready 4) (ha : s.candidate 0 = some a)
    (hb : s.candidate 1 = some b) :
    (imgGeneration b ≤ imgGeneration a → ∃ t, exec .bindingSelect s = .next t ∧ (match s.verifyFull a true with
      | .inr r => t = { s with boot := { s.boot with current := some 0, candidates := [1], phase := .ready 5 }, clasp := { s.clasp with cand := some r } }
      | .inl y => t.carries y = true ∧ t.boot.current ≠ some 0))
    ∧ (imgGeneration a < imgGeneration b → ∃ t, exec .bindingSelect s = .next t ∧ (match s.verifyFull b true with
      | .inr r => t = { s with boot := { s.boot with current := some 1, candidates := [0], phase := .ready 5 }, clasp := { s.clasp with cand := some r } }
      | .inl y => t.carries y = true ∧ t.boot.current ≠ some 1)) := by
  refine ⟨fun hle => ⟨_, rfl, ?_⟩, fun hlt => ⟨_, rfl, ?_⟩⟩
  · rw [bindingSelect_two hphase ha hb, if_neg (Nat.not_lt.mpr hle)]
    exact State.chooseFrom_first ha (by simp)
  · rw [bindingSelect_two hphase ha hb, if_pos hlt]
    exact State.chooseFrom_first hb (by simp)

theorem State.candidate_congr {s t : State} (h : t.clasp.flash = s.clasp.flash) (k : Nat) : t.candidate k = s.candidate k := by
  simp only [State.candidate, h]

@[simp] theorem State.logClasp_candidate (s : State) (y : Syndrome) (k : Nat) : (s.logClasp y).candidate k = s.candidate k :=
  State.candidate_congr (s.log_clasp_flash _) k

theorem State.chooseFrom_nil (s : State) : s.chooseFrom [] = s.noBinding := rfl

theorem State.noBinding_current (s : State) : s.noBinding.boot.current = none := rfl

/-- Without a candidate both slots' commit records are logged as invalid, and no Binding is left (R71). -/
theorem bindingSelect_none {s : State} (hphase : s.boot.phase = .ready 4) (ha : s.candidate 0 = none) (hb : s.candidate 1 = none) :
    bindingSelect s = ((s.logClasp Syn.commitRecordInvalid).logClasp Syn.commitRecordInvalid).noBinding := by
  unfold bindingSelect
  simp [hphase, ha, hb, State.chooseFrom_nil, State.noBinding_current]

theorem exec_bindingSelect_none {s : State} (hphase : s.boot.phase = .ready 4) (ha : s.candidate 0 = none) (hb : s.candidate 1 = none) :
    ∃ t, exec .bindingSelect s = .next t
    ∧ t.boot.phase = .noBinding ∧ t.clasp.noValid = true ∧ t.carries Syn.noValidBinding = true ∧ t.carries Syn.commitRecordInvalid = true := by
  refine ⟨_, rfl, ?_⟩
  rw [bindingSelect_none hphase ha hb]
  exact ⟨rfl, rfl, (State.log_sends _ rfl).carries, (State.noBinding_sends_mono (State.log_sends_mono _ (State.log_sends _ rfl))).carries⟩

/-! ### A failed application (R74) -/

/-- Everything back at QID 0, and no candidate applied (R74). -/
def State.unbound (s : State) : State :=
  { s with clasp := { s.clasp with eff := Binding.empty, cand := none }, boot := { s.boot with current := none } }

theorem State.applyFailed_last {s : State} (hlast : s.boot.candidates = []) : s.applyFailed = s.unbound.noBinding := by
  have hrest : s.applyFailed = s.unbound.chooseFrom s.boot.candidates := rfl
  rw [hrest, hlast, State.chooseFrom_nil]

theorem exec_bindingApply_failed {s : State} {c : Binding × List Byte × List Byte} (u : UnitId) (hphase : s.boot.phase = .ready 7)
    (hcand : s.clasp.cand = some c) (hlast : s.boot.candidates = []) :
    ∃ t, exec (.bindingApply (some u)) s = .next t ∧ t.clasp.eff = Binding.empty ∧ t.boot.phase = .noBinding
      ∧ t.carries Syn.bindApplyFail = true := by
  have hstep : bindingApply s (some u) = (s.log (Syn.bindApplyFail.record (unitNode u) u.ty u.no 0)).applyFailed := by
    unfold bindingApply
    simp only [hphase, hcand]
  refine ⟨_, rfl, ?_⟩
  rw [hstep, State.applyFailed_last ((s.log_boot_candidates _).trans hlast)]
  have hsent := s.log_sends (r := Syn.bindApplyFail.record (unitNode u) u.ty u.no 0) (y := Syn.bindApplyFail) rfl
  exact ⟨State.log_clasp_eff _ _, rfl, (State.noBinding_sends_mono (s := State.unbound _) hsent).carries⟩

/-! ### What the steps of an application leave of the start-up's choice -/

theorem foldl_current {α : Type} (f : State → α → State) (l : List α) (s : State) (h : ∀ s a, (f s a).boot.current = s.boot.current) :
    (l.foldl f s).boot.current = s.boot.current := foldl_frame (fun s => s.boot.current) f l s h

@[simp] theorem State.loadKey_boot (s : State) (w : MemWin) : (s.loadKey w).boot = s.boot := by
  simp only [State.loadKey]
  (repeat' split) <;> simp [State.draw]

@[simp] theorem State.reseal_boot (s : State) (w : MemWin) : (s.reseal w).boot = s.boot := by
  simp only [State.reseal]
  (repeat' split) <;> simp [State.draw]

@[simp] theorem State.applyCore_current (s : State) (b : Binding) : (s.applyCore b).boot.current = s.boot.current := by
  simp only [State.applyCore]
  rw [foldl_current, foldl_current, foldl_current] <;> intros <;> simp

@[simp] theorem State.demote_current (s : State) (n : Nat) : (s.demote n).boot.current = s.boot.current := by
  simp only [State.demote]
  split <;> simp

@[simp] theorem State.demotePartners_current (s : State) : s.demotePartners.boot.current = s.boot.current :=
  foldl_current _ _ _ fun s i => by
    split
    · rfl
    · exact foldl_current _ _ _ fun s n => by simp

@[simp] theorem State.applyTables_current (s : State) (b : Binding) : (s.applyTables b).boot.current = s.boot.current := by
  simp only [State.applyTables, State.demotePartners_current]
  rw [foldl_current, foldl_current] <;> intros <;> simp [State.activate, State.clearGOff]

@[simp] theorem State.putCluster_current (s : State) (c : Nat) (x : Cluster) : (s.putCluster c x).boot.current = s.boot.current := by
  simp only [State.putCluster]
  split
  · rfl
  · exact foldl_current _ _ _ fun s h => by split <;> simp

@[simp] theorem State.partnerLinkUp_current (s : State) (i : Nat) : (s.partnerLinkUp i).boot.current = s.boot.current := by
  simp only [State.partnerLinkUp]
  split <;> simp

@[simp] theorem State.applyRest_current (s : State) (b : Binding) : (s.applyRest b).boot.current = s.boot.current := by
  simp only [State.applyRest, State.deriveLevels, State.partnerLinkUp_current]
  rw [foldl_current, foldl_current, foldl_current] <;> intros <;> simp [State.resetOpenUnit, State.setOpenUnit]

@[simp] theorem State.putRecord_boot (s : State) (a : Nat) (bs : List Byte) : (s.putRecord a bs).boot = s.boot := by
  simp [State.putRecord]

@[simp] theorem State.armWindow_current (s : State) (w : MemWin) : (s.armWindow w).boot.current = s.boot.current := by
  simp only [State.armWindow]
  split <;> simp

@[simp] theorem State.armAll_current (s : State) (lost : Bool) : (s.armAll lost).boot.current = s.boot.current :=
  foldl_current _ _ _ fun s w => by split <;> simp [State.armLost]

@[simp] theorem State.applySteps_current (s : State) (b : Binding) (owner : List Byte) (lost : Bool) :
    (s.applySteps b owner lost).boot.current = s.boot.current := by simp [State.applySteps]

/-! ### The boot harts (R73) -/

/-- What one step of a fold establishes and every step keeps holds after a fold over a list with that step's element. -/
theorem foldl_of_mem {σ α : Type} {P : σ → Prop} {f : σ → α → σ} {a : α} {l : List α} (ha : a ∈ l) (hset : ∀ s, P (f s a))
    (hkeep : ∀ s b, P s → P (f s b)) (s : σ) : P (l.foldl f s) := by
  induction l generalizing s with
  | nil => cases ha
  | cons b l ih =>
    rw [List.foldl_cons]
    cases ha with
    | head => exact List.foldlRecOn l f (hset s) fun t ht c _ => hkeep t c ht
    | tail _ ha => exact ih ha _

/-- A hart runs from an address in its first state. -/
def Hart.startedAt (x : Hart) (v : Word) : Prop := x.run = .running ∧ x.pc = v

/-- The reset vector at which a hart of the Binding in effect starts (R73). -/
def Binding.vectorOf (b : Binding) (h : Nat) : Nat := ((b.quire (b.hartQid h)).map (·.resetVector)).getD 0

/-- A core or a pair starts the hart it is named by. -/
theorem State.mem_cellHarts (s : State) (h : Nat) : h ∈ s.cellHarts h := by
  unfold State.cellHarts pairOf
  split
  · simp
    omega
  · simp

/-- One hart of a released cell at its first state. -/
def State.startHart (s : State) (v : Word) (q k : Nat) : State :=
  s.setHart k ({ s.freshHart k with run := .running, pc := v, lastPc := v }.reseed (s.bind.seed q) k)

theorem State.releaseHart_eq (s : State) (h : Nat) :
    s.releaseHart h = (s.cellHarts h).foldl (fun t k => t.startHart (word (s.bind.vectorOf h)) (s.bind.hartQid h) k) s := rfl

theorem State.startHart_same (s : State) (v : Word) (q : Nat) (k : Nat) : ((s.startHart v q k).hart k).startedAt v := by
  rw [State.startHart, State.hart_setHart_same]
  exact ⟨rfl, rfl⟩

theorem State.startHart_other (s : State) (v : Word) (q : Nat) {j k : Nat} (h : k ≠ j) : (s.startHart v q k).hart j = s.hart j :=
  State.hart_setHart_other _ _ h

theorem State.startHart_startedAt {s : State} {v : Word} {j : Nat} (q : Nat) (k : Nat) (h : (s.hart j).startedAt v) :
    ((s.startHart v q k).hart j).startedAt v := by
  by_cases hk : k = j
  · exact hk ▸ s.startHart_same v q k
  · rwa [State.startHart_other s v q hk]

theorem State.startHart_running {s : State} {j : Nat} (v : Word) (q : Nat) (k : Nat) (h : (s.hart j).run = .running) :
    ((s.startHart v q k).hart j).run = .running := by
  by_cases hk : k = j
  · exact hk ▸ (s.startHart_same v q k).1
  · rwa [State.startHart_other s v q hk]

theorem State.releaseHart_started (s : State) (h : Nat) : ((s.releaseHart h).hart h).startedAt (word (s.bind.vectorOf h)) := by
  rw [State.releaseHart_eq]
  exact foldl_of_mem (P := fun t : State => (t.hart h).startedAt _) (s.mem_cellHarts h) (fun t => t.startHart_same ..)
    (fun t k ht => State.startHart_startedAt _ k ht) s

theorem State.releaseHart_running {s : State} {k : Nat} (h : Nat) (hk : (s.hart k).run = .running) : ((s.releaseHart h).hart k).run = .running := by
  rw [State.releaseHart_eq]
  exact List.foldlRecOn (motive := fun t : State => (t.hart k).run = .running) _ _ hk fun t ht i _ => State.startHart_running _ _ i ht

theorem State.releaseBoots_running (s : State) {b : Binding} {q : Quire} (hq : q ∈ b.quires) : ((s.releaseBoots b).hart q.bootHart).run = .running :=
  foldl_of_mem (P := fun t : State => (t.hart q.bootHart).run = .running) hq (fun t => (t.releaseHart_started q.bootHart).1)
    (fun _ r ht => State.releaseHart_running r.bootHart ht) s

/-- The boot hart of a Binding's only Quire starts at that Quire's reset vector. -/
theorem State.releaseBoots_pc {s : State} {b : Binding} {q : Quire} (hbind : s.bind = b) (honly : b.quires = [q]) (hqid : b.hartQid q.bootHart = q.qid) :
    ((s.releaseBoots b).hart q.bootHart).pc = word q.resetVector := by
  have hvector : b.vectorOf q.bootHart = q.resetVector := by simp [Binding.vectorOf, Binding.quire, honly, hqid]
  have hboots : s.releaseBoots b = s.releaseHart q.bootHart := by simp [State.releaseBoots, honly]
  rw [hboots, (s.releaseHart_started q.bootHart).2, hbind, hvector]

@[simp] theorem State.releaseHart_boot (s : State) (h : Nat) : (s.releaseHart h).boot = s.boot :=
  foldl_frame State.boot _ _ s fun _ _ => rfl

@[simp] theorem State.releaseBoots_boot (s : State) (b : Binding) : (s.releaseBoots b).boot = s.boot :=
  foldl_frame State.boot _ _ s fun s q => s.releaseHart_boot q.bootHart

/-! ### A Binding applied (R73) -/

@[simp] theorem State.applySteps_eff (s : State) (b : Binding) (owner : List Byte) (lost : Bool) : (s.applySteps b owner lost).ledger.eff = b := by
  simp [State.applySteps, State.applyCore]

theorem State.applyBinding_awake {s : State} (b : Binding) (digest owner : List Byte) (hcause : s.boot.cause ≠ .pk4Wake) :
    s.applyBinding b digest owner = ((s.applySteps b owner false).putInForce b digest).needResign.releaseBoots b := by
  have hlost : (decide (s.boot.cause = .pk4Wake) && s.boot.warm) = false := by simp [hcause]
  simp only [State.applyBinding, State.pk4Woken, hlost]
  rfl

theorem exec_bindingApply_succeeds {s : State} {b : Binding} {dg owner : List Byte} (hphase : s.boot.phase = .ready 7)
    (hcand : s.clasp.cand = some (b, dg, owner)) (hfree : s.overlapsContexts b = false) (hcause : s.boot.cause ≠ .pk4Wake) :
    ∃ t, exec (.bindingApply none) s = .next t ∧ t.clasp.eff = b ∧ t.clasp.applied = true ∧ t.clasp.digests = [dg]
      ∧ t.clasp.gens = [b.generation] ∧ t.boot.phase = .running ∧ t.boot.booted = s.boot.current
      ∧ (∀ q ∈ b.quires, (t.hart q.bootHart).run = .running)
      ∧ (∀ q, b.quires = [q] → b.hartQid q.bootHart = q.qid → (t.hart q.bootHart).pc = word q.resetVector) := by
  have hstep : bindingApply s none = _ := (bindingApply_eq hphase hcand hfree).trans (State.applyBinding_awake b dg owner hcause)
  have heff := s.applySteps_eff b owner false
  have hcurrent := s.applySteps_current b owner false
  generalize s.applySteps b owner false = v at hstep heff hcurrent
  refine ⟨_, rfl, ?_⟩
  rw [hstep]
  have hledger := (State.releaseBoots_ledger (v.putInForce b dg).needResign b).trans (State.needResign_ledger _)
  have hboot := State.releaseBoots_boot (v.putInForce b dg).needResign b
  exact ⟨(congrArg Clasp.eff hledger).trans heff, congrArg Clasp.applied hledger, congrArg Clasp.digests hledger, congrArg Clasp.gens hledger,
    congrArg Boot.phase hboot, (congrArg Boot.booted hboot).trans hcurrent,
    fun q hq => State.releaseBoots_running _ hq, fun q honly hqid => State.releaseBoots_pc heff honly hqid⟩

/-- Settles O44, a clause a lemma: the choice of two candidates, no candidate, the application that succeeds and the one that fails. -/
theorem bindingApplied : Obligations.Binding_applied := by
  unfold Obligations.Binding_applied
  exact ⟨fun _ _ _ hphase _ => exec_bindingSelect_two hphase, fun _ => exec_bindingSelect_none, fun _ _ _ _ => exec_bindingApply_succeeds,
    fun _ _ u => exec_bindingApply_failed u⟩

end Sys2Proof.Machine
end

section
/-! PROOFS. Hand-overs and flash updates (R72, R77 to R80): the owners' answers, the move's end, and what goes on after them. -/

namespace Sys2Proof.Machine

/-! ### The value that HANDOVER_ACK is written with (R81) -/

theorem fieldOf_eq_extract (v : Word) (lo n : Nat) : fieldOf v lo n = (v.extractLsb' lo n).toNat := by
  simp [fieldOf, bitsOf, Nat.shiftRight_eq_div_pow]

theorem fieldOf_congr {v w : Word} {lo n : Nat} (h : ∀ i, lo ≤ i → v.getLsbD i = w.getLsbD i) : fieldOf v lo n = fieldOf w lo n := by
  rw [fieldOf_eq_extract, fieldOf_eq_extract]
  congr 1
  ext i hi
  simp [h (lo + i)]

theorem fieldOf_and_not_one (v : Word) {lo : Nat} (hlo : 0 < lo) (n : Nat) : fieldOf (v &&& ~~~1#64) lo n = fieldOf v lo n :=
  fieldOf_congr fun i hi => by
    have h1 : i ≠ 0 := by omega
    rw [BitVec.getLsbD_and, BitVec.getLsbD_not, BitVec.getLsbD_one]
    cases hv : v.getLsbD i with
    | false => simp
    | true => simp [BitVec.lt_of_getLsbD hv, h1]

theorem fieldOf_or_one (v : Word) {lo : Nat} (hlo : 0 < lo) (n : Nat) : fieldOf (v ||| 1#64) lo n = fieldOf v lo n :=
  fieldOf_congr fun i hi => by simp [show i ≠ 0 by omega]

theorem flagOf_and_not_one (v : Word) : flagOf (v &&& ~~~1#64) 0 = false := by simp [flagOf, bitOf]

theorem flagOf_or_one (v : Word) : flagOf (v ||| 1#64) 0 = true := by simp [flagOf, bitOf]

/-! ### A gate request that waited (R364) -/

/-- What no gate request touches. -/
def State.ungated (s : State) : MemSys × Errors × Clasp := (s.mem, s.err, s.clasp)

theorem foldl_ungated {α : Type} {f : State → α → State} (l : List α) (s : State) (h : ∀ s a, (f s a).ungated = s.ungated) :
    (l.foldl f s).ungated = s.ungated := foldl_frame State.ungated f l s h

theorem State.gatedRequests_ungated (s : State) (u : UnitId) : (s.gatedRequests u).ungated = s.ungated := by
  unfold State.gatedRequests
  split
  · exact foldl_ungated _ _ fun s e => by split <;> rfl
  · exact foldl_ungated _ _ fun s m => rfl
  · exact foldl_ungated _ _ fun s r => rfl
  · exact foldl_ungated _ _ fun s e => by split <;> rfl
  · rfl

theorem State.notifyQuire_ungated (s : State) (q : Nat) : (s.notifyQuire q).ungated = s.ungated := by
  unfold State.notifyQuire
  split <;> rfl

theorem State.notifyHolder_ungated (s : State) (u : UnitId) : (s.notifyHolder u).ungated = s.ungated := by
  unfold State.notifyHolder
  split
  · exact s.notifyQuire_ungated _
  · rfl

/-- A gate request that is judged leaves memory, the Clasp and the errors alone, but for at most one record (R364, R401). -/
theorem State.judgeGate_ungated (s : State) : s.judgeGate.ungated = s.ungated ∨ ∃ r, s.judgeGate.ungated = (s.log r).ungated := by
  simp only [State.judgeGate]
  split
  · exact .inl rfl
  split
  · exact .inr ⟨_, rfl⟩
  split
  · exact .inr ⟨_, State.notifyHolder_ungated _ _⟩
  · left
    split
    · rfl
    · exact s.gatedRequests_ungated _

/-! ### The Clasp's requests go on (R77) -/

theorem State.breq_congr {s t : State} (h : t.ledger = s.ledger) (q : Nat) : t.breq q = s.breq q :=
  (congrArg (fun c : Clasp => Tab.get c.breq Breq.reset q) h :)

/-- With no request waiting only a gate request may follow. -/
theorem State.goOnServing_idle {s : State} (hqueue : s.clasp.queue = []) : s.goOnServing = s.judgeGate := by
  have hserve : State.serve (s.clasp.queue.length + 1) s = s := by
    rw [hqueue]
    show State.serve 1 s = s
    unfold State.serve
    cases s.clasp.work <;> simp [hqueue]
  rw [State.goOnServing, hserve]

/-- What stays when the requests go on with none waiting: the Clasp's ledger, memory, the flash, and what is sent. -/
structure State.Resumes (s t : State) : Prop where
  ledger : t.ledger = s.ledger
  mem : t.mem = s.mem
  flash : t.clasp.flash = s.clasp.flash
  sends : ∀ u y, s.sends u y → t.sends u y

section
variable {s t : State} (h : s.Resumes t)
include h

theorem State.Resumes.work : t.clasp.work = s.clasp.work := (congrArg Clasp.work h.ledger :)

theorem State.Resumes.eff : t.clasp.eff = s.clasp.eff := (congrArg Clasp.eff h.ledger :)

theorem State.Resumes.queue : t.clasp.queue = s.clasp.queue := (congrArg Clasp.queue h.ledger :)

theorem State.Resumes.gens : t.clasp.gens = s.clasp.gens := (congrArg Clasp.gens h.ledger :)

theorem State.Resumes.digests : t.clasp.digests = s.clasp.digests := (congrArg Clasp.digests h.ledger :)

theorem State.Resumes.breq (q : Nat) : t.breq q = s.breq q := State.breq_congr h.ledger q

end

theorem State.resumes_log (s : State) (r : ErrRec) : s.Resumes (s.log r) :=
  ⟨s.log_ledger r, s.log_mem r, s.log_clasp_flash r, fun _ _ => State.log_sends_mono r⟩

theorem State.Resumes.of_ungated {s t u : State} (h : s.Resumes t) (hu : u.ungated = t.ungated) : s.Resumes u := by
  obtain ⟨hmem, hrest⟩ := Prod.mk.inj hu
  obtain ⟨herr, hclasp⟩ := Prod.mk.inj hrest
  refine ⟨?_, hmem.trans h.mem, (congrArg Clasp.flash hclasp).trans h.flash, fun k y hs => ?_⟩
  · rw [State.ledger, hclasp]
    exact h.ledger
  · exact (State.sends_congr (congrArg Errors.low herr) k y).mpr (h.sends k y hs)

theorem State.goOnServing_resumes {s : State} (hqueue : s.clasp.queue = []) : s.Resumes s.goOnServing := by
  rw [State.goOnServing_idle hqueue]
  obtain h | ⟨r, h⟩ := s.judgeGate_ungated
  · exact State.Resumes.of_ungated ⟨rfl, rfl, rfl, fun _ _ hs => hs⟩ h
  · exact (s.resumes_log r).of_ungated h

/-! ### The request page (R81) -/

theorem State.setReq_pend (s : State) (q : Nat) (st : ReqSt) (step syn result o : Nat) :
    ((s.setReq q st step syn result).breq o).pend = (s.breq o).pend := by
  by_cases h : q = o
  · subst h
    rw [State.setReq, State.breq_setBreq_same]
  · rw [State.setReq, State.breq_setBreq_other _ _ h]

theorem State.setReq_breq_same (s : State) (q : Nat) (st : ReqSt) (step syn result : Nat) :
    (s.setReq q st step syn result).breq q = { s.breq q with st := st, step := step, syndrome := syn, result := result } :=
  s.breq_setBreq_same q _

theorem State.reserved_resumes (s : State) (who : Agent) (die block off : Nat) (v : Word) (own : Nat) :
    s.Resumes (s.reserved who die block off v own) := by
  unfold State.reserved
  split
  · exact ⟨rfl, rfl, rfl, fun _ _ hs => hs⟩
  · unfold State.logWrite
    exact s.resumes_log _

theorem State.reserved_harts (s : State) (who : Agent) (die block off : Nat) (v : Word) (own : Nat) :
    (s.reserved who die block off v own).harts = s.harts := by
  unfold State.reserved
  split
  · rfl
  · exact s.log_harts _

/-- A write to HANDOVER_ACK by an M-mode hart of the page's Quire is an answer; a reserved bit that it sets is logged first (R12, R81). -/
theorem writeBreq_answer {s : State} {h o : Nat} (v : Word) (hm : s.mHartOf (.hart h) o = true) :
    writeBreq s (.hart h) o 0x20 v
      = (s.reserved (.hart h) iodDie 0x000 (0x10000 + o * 0x100 + 0x20) v (breqMask 0x20)).handoverAnswer h o v := by
  simp [writeBreq, hm]

/-! ### An owner acknowledges (R77, R79) -/

theorem State.startMove_breq (s : State) (q : Nat) (d : Binding) (dg : List Byte) (o : Nat) :
    (s.startMove q d dg).breq o = (s.setReq q .busy 3 0 0).breq o := State.breq_congr (State.beginMove_ledger ..) o

theorem State.startMove_eff (s : State) (q : Nat) (d : Binding) (dg : List Byte) : (s.startMove q d dg).clasp.eff = s.clasp.eff :=
  (congrArg Clasp.eff (State.beginMove_ledger (s.setReq q .busy 3 0 0) ((s.setReq q .busy 3 0 0).bind.merge d)) :)

section
variable {s : State} {q o : Nat} {d : Binding} {dg : List Byte} {waiting forced : List Nat} {since : Nat}

theorem State.ownerDone_quiesce (hwork : s.clasp.work = some (.quiesce q d dg waiting forced since)) :
    s.ownerDone o false = if (waiting.filter (· != o)).isEmpty then (s.clearPend o).startMove q d dg
      else (s.clearPend o).setWork (some (.quiesce q d dg (waiting.filter (· != o)) forced since)) := by
  simp [State.ownerDone, hwork]

/-- An owner that has answered is off the list, and nothing is pending for it; with the last one the move starts (R77). -/
theorem State.ownerDone_acknowledged (hwork : s.clasp.work = some (.quiesce q d dg waiting forced since)) :
    (s.ownerDone o false).clasp.eff = s.clasp.eff
      ∧ (if (waiting.filter (· != o)).isEmpty then (s.ownerDone o false).clasp.work = some (.move q d dg) ∧ ((s.ownerDone o false).breq q).step = 3
         else (s.ownerDone o false).clasp.work = some (.quiesce q d dg (waiting.filter (· != o)) forced since))
      ∧ ((s.ownerDone o false).breq o).pend = false := by
  rw [State.ownerDone_quiesce hwork]
  have hpend : ((s.clearPend o).breq o).pend = false := by simp [State.clearPend]
  split
  · refine ⟨State.startMove_eff .., ⟨rfl, ?_⟩, ?_⟩
    · rw [State.startMove_breq, State.setReq_breq_same]
    · rw [State.startMove_breq, State.setReq_pend, hpend]
  · exact ⟨rfl, rfl, hpend⟩

end

/-! ### A hand-over aborted (R78) -/

/-- What taking back what is pending for the owners leaves: memory, the errors, the flash, and of the Clasp's ledger all but the request pages. -/
def State.unpended (s : State) : MemSys × Errors × Clasp := (s.mem, s.err, { s.clasp with breq := [] })

/-- Nothing is pending for the owners, and they are told so. -/
def State.clearOwners (s : State) (owners : List Nat) : State := owners.foldl (fun s o => (s.clearPend o).notifyQuire o) s

theorem State.abortHandover_eq (s : State) (q : Nat) (d : Binding) (o : Nat) (y : Syndrome) :
    s.abortHandover q d o y
      = (((s.logClaspFor o y).clearOwners (s.oldOwners (s.bind.merge d))).endReq q 2 y.code 2).setWork none := rfl

theorem State.clearOwners_unpended (s : State) (owners : List Nat) : (s.clearOwners owners).unpended = s.unpended :=
  foldl_frame State.unpended _ owners s fun s o => by
    unfold State.notifyQuire
    split <;> rfl

/-- What an aborted hand-over leaves and reports: nothing has moved, no work is left, and the request ends with the syndrome (R78). -/
structure State.AbortedBy (s t : State) (q : Nat) (y : Syndrome) : Prop where
  work : t.clasp.work = none
  eff : t.clasp.eff = s.clasp.eff
  mem : t.mem = s.mem
  breq : (t.breq q).st = .done ∧ (t.breq q).result = 2 ∧ (t.breq q).syndrome = y.code
  sent : ∃ u, t.sends u y

theorem State.abortHandover_aborted (s : State) (q : Nat) (d : Binding) (o : Nat) (y : Syndrome) : s.AbortedBy (s.abortHandover q d o y) q y ∧
    (s.abortHandover q d o y).clasp.queue = s.clasp.queue := by
  have hkept := (s.logClaspFor o y).clearOwners_unpended (s.oldOwners (s.bind.merge d))
  rw [State.abortHandover_eq]
  generalize (s.logClaspFor o y).clearOwners _ = t at hkept ⊢
  obtain ⟨hmem, hrest⟩ := Prod.mk.inj hkept
  obtain ⟨herr, hclasp⟩ := Prod.mk.inj hrest
  have hdone := t.setReq_breq_same q .done 2 y.code 2
  refine ⟨⟨rfl, ?_, ?_, ?_, ?_⟩, ?_⟩
  · exact (congrArg Clasp.eff hclasp :).trans (s.log_clasp_eff _)
  · exact hmem.trans (s.log_mem _)
  · exact ⟨congrArg Breq.st hdone, congrArg Breq.result hdone, congrArg Breq.syndrome hdone⟩
  · exact ⟨_, (State.sends_congr (congrArg Errors.low herr) _ y).mpr (s.log_sends rfl)⟩
  · exact (congrArg Clasp.queue hclasp :).trans (s.log_clasp_queue _)

theorem State.AbortedBy.resumed {s t u : State} {q : Nat} {y : Syndrome} (h : s.AbortedBy t q y) (hu : t.Resumes u) : s.AbortedBy u q y := by
  obtain ⟨k, hk⟩ := h.sent
  exact ⟨hu.work.trans h.work, hu.eff.trans h.eff, hu.mem.trans h.mem, hu.breq q ▸ h.breq, k, hu.sends k y hk⟩

/-- An owner that fails without FORCE aborts the hand-over, and the Clasp's requests go on (R78). -/
theorem State.ownerFails_aborts {s : State} {q o : Nat} {d : Binding} {dg : List Byte} {waiting forced : List Nat} {since : Nat}
    (hwork : s.clasp.work = some (.quiesce q d dg waiting forced since)) (ho : waiting.contains o = true) (hforce : s.mayForce d = false)
    (hqueue : s.clasp.queue = []) (y : Syndrome) : s.AbortedBy (s.ownerFails o y).goOnServing q y := by
  have hfails : s.ownerFails o y = s.abortHandover q d o y := by
    unfold State.ownerFails
    simp only [hwork, ho, hforce]
    rfl
  obtain ⟨haborted, hq⟩ := s.abortHandover_aborted q d o y
  rw [hfails]
  exact haborted.resumed (State.goOnServing_resumes (hq.trans hqueue))

/-! ### The owners' answers (R77 to R80) -/

theorem State.mayForce_congr {s t : State} (hbind : t.bind = s.bind) (hharts : t.harts = s.harts) (d : Binding) : t.mayForce d = s.mayForce d := by
  simp only [State.mayForce, State.oldOwners, State.leavesOf, State.claimSecure, State.hart, hbind, hharts]

theorem exec_handoverAnswer {s : State} {h o : Nat} (w : Word) (hready : s.readySide h = true) (hqid : (s.hart h).qid = o)
    (hm : s.mHartOf (.hart h) o = true) :
    ∃ u : State, s.Resumes u ∧ u.harts = s.harts
      ∧ s.access h (fun s => writeBreq s (.hart h) (s.hart h).qid 0x20 w) = u.handoverAnswer h o w := by
  refine ⟨_, s.reserved_resumes (.hart h) iodDie 0x000 (0x10000 + o * 0x100 + 0x20) w (breqMask 0x20), s.reserved_harts .., ?_⟩
  rw [s.access_of_readySide _ hready, hqid, writeBreq_answer w hm]

/-- An answer that counts: its SEQ is the pending one, and its hart's world fits what is pending (R78, R79). -/
def State.answerCounts (s : State) (h o : Nat) (w : Word) : Prop :=
  (s.breq o).pend = true ∧ fieldOf w 32 16 = (s.breq o).pendSeq.toNat ∧ ((s.breq o).pendSecure = false ∨ (s.hart h).secure = true)

theorem State.handoverAnswer_counts {s : State} {h o : Nat} {w : Word} (hcounts : s.answerCounts h o w) :
    s.handoverAnswer h o w = if flagOf w 0 then (s.ownerFails o Syn.handoverRefused).goOnServing else s.ownerDone o false := by
  obtain ⟨hpend, hseq, hworld⟩ := hcounts
  have hsecure : ((s.breq o).pendSecure && !(s.hart h).secure) = false := by
    rcases hworld with hworld | hworld <;> simp [hworld]
  simp [State.handoverAnswer, hpend, hseq, hsecure]

theorem State.answerCounts_congr {s u : State} {h o : Nat} {w : Word} (hu : s.Resumes u) (hharts : u.harts = s.harts)
    (hcounts : s.answerCounts h o w) : u.answerCounts h o w := by
  rw [State.answerCounts, hu.breq, State.hart, hharts]
  exact hcounts

section
variable {s : State} {h o q : Nat} {v : Word} {d : Binding} {dg : List Byte} {waiting forced : List Nat} {since : Nat}

theorem exec_handoverAck_counts (hwork : s.clasp.work = some (.quiesce q d dg waiting forced since)) (hready : s.readySide h = true)
    (hqid : (s.hart h).qid = o) (hm : s.mHartOf (.hart h) o = true) (hcounts : s.answerCounts h o v) :
    ∃ t, exec (.handoverAck h v) s = .next t ∧ t.clasp.eff = s.clasp.eff
      ∧ (if (waiting.filter (· != o)).isEmpty then t.clasp.work = some (.move q d dg) ∧ (t.breq q).step = 3
         else t.clasp.work = some (.quiesce q d dg (waiting.filter (· != o)) forced since)) ∧ (t.breq o).pend = false := by
  obtain ⟨u, hu, hharts, hstep⟩ := exec_handoverAnswer (v &&& ~~~1#64) hready hqid hm
  have hcountsU : u.answerCounts h o (v &&& ~~~1#64) := State.answerCounts_congr hu hharts (by
    rwa [State.answerCounts, fieldOf_and_not_one v (by decide)])
  rw [State.handoverAnswer_counts hcountsU, flagOf_and_not_one, if_neg (by decide)] at hstep
  have hworkU : u.clasp.work = _ := hu.work.trans hwork
  obtain ⟨heff, hnext, hpend⟩ := State.ownerDone_acknowledged (o := o) hworkU
  exact ⟨_, congrArg Host.Outcome.next hstep, heff.trans hu.eff, hnext, hpend⟩

theorem exec_handoverRefuse_counts (hwork : s.clasp.work = some (.quiesce q d dg waiting forced since)) (hready : s.readySide h = true)
    (hqid : (s.hart h).qid = o) (hm : s.mHartOf (.hart h) o = true) (hcounts : s.answerCounts h o v) (hforce : s.mayForce d = false)
    (ho : waiting.contains o = true) (hqueue : s.clasp.queue = []) :
    ∃ t, exec (.handoverRefuse h v) s = .next t ∧ s.AbortedBy t q Syn.handoverRefused := by
  obtain ⟨u, hu, hharts, hstep⟩ := exec_handoverAnswer (v ||| 1#64) hready hqid hm
  have hcountsU : u.answerCounts h o (v ||| 1#64) := State.answerCounts_congr hu hharts (by
    rwa [State.answerCounts, fieldOf_or_one v (by decide)])
  rw [State.handoverAnswer_counts hcountsU, flagOf_or_one, if_pos rfl] at hstep
  have hworkU : u.clasp.work = _ := hu.work.trans hwork
  have habort := State.ownerFails_aborts hworkU ho ((State.mayForce_congr hu.eff hharts d).trans hforce)
    (hu.queue.trans hqueue) Syn.handoverRefused
  exact ⟨_, congrArg Host.Outcome.next hstep, habort.work, habort.eff.trans hu.eff, habort.mem.trans hu.mem, habort.breq, habort.sent⟩

theorem exec_handoverTimeout_due (hwork : s.clasp.work = some (.quiesce q d dg waiting forced since)) (ho : waiting.contains o = true)
    (hqueue : s.clasp.queue = []) (hdue : since + 1000 * ((s.bind.quire o).map (·.handoverUs)).getD 0 ≤ s.time.now)
    (hblocks : s.quiesced (s.bind.merge d) o = false) (hforce : s.mayForce d = false) :
    ∃ t, exec (.handoverTimeout o) s = .next t ∧ s.AbortedBy t q Syn.handoverTimeout := by
  have hstep : handoverTimeout s o = (s.ownerFails o Syn.handoverTimeout).goOnServing := by
    have hpast : ¬ ((!waiting.contains o) = true ∨ s.time.now < since + 1000 * ((s.bind.quire o).map (·.handoverUs)).getD 0) := by
      simp [List.contains_iff_mem.mp ho, Nat.not_lt.mpr hdue]
    unfold handoverTimeout
    simp only [hwork, hblocks, if_neg hpast]
    rfl
  exact ⟨_, congrArg Host.Outcome.next hstep, State.ownerFails_aborts hwork ho hforce hqueue _⟩

end

/-! ### The end of the move (R77) -/

theorem Binding.without_none (b old : Binding) : b.without old [] [] = b := by simp [Binding.without]

/-- The delta's records in effect, its digest and generation kept (R77). -/
def State.takeEffect (s : State) (new d : Binding) (digest : List Byte) : State :=
  { s with clasp := { s.clasp with eff := new, digests := s.clasp.digests ++ [digest], gens := s.clasp.gens ++ [d.generation] } }

/-- What the resources become under a Binding that has taken effect (R77). -/
def State.followMove (s : State) (old new d : Binding) : State :=
  (old.newOwners new).foldl State.notifyQuire ((((s.moveCores (old.movingHarts new) []).moveWays old new).moveMemory old new d).moveRest old new d)

theorem State.followMove_ledger (s : State) (old new d : Binding) : (s.followMove old new d).ledger = s.ledger := by simp [State.followMove]

/-- A move phase without failed units (R77). -/
theorem State.finishMove_clean (s : State) (q : Nat) (d : Binding) (dg : List Byte) :
    s.finishMove q d dg [] = (((((s.rehomeWindows (s.bind.merge d)).takeEffect (s.bind.merge d) d dg).followMove s.bind (s.bind.merge d) d).endReq
      q 3 0 0).setWork none).needResign := by
  unfold State.finishMove
  simp only [List.filter_nil, List.flatMap_nil, Binding.without_none, List.foldl_nil, List.isEmpty_nil, if_true]
  rfl

/-- What the end of a move leaves: the delta in effect, its generation and digest kept, and its request done with no work left (R77). -/
structure State.MovedBy (s t : State) (q : Nat) (d : Binding) (dg : List Byte) : Prop where
  eff : t.clasp.eff = s.bind.merge d
  gens : t.clasp.gens = s.clasp.gens ++ [d.generation]
  digests : t.clasp.digests = s.clasp.digests ++ [dg]
  work : t.clasp.work = none
  breq : (t.breq q).st = .done ∧ (t.breq q).result = 0

theorem State.MovedBy.resumed {s t u : State} {q : Nat} {d : Binding} {dg : List Byte} (h : s.MovedBy t q d dg) (hu : t.Resumes u) :
    s.MovedBy u q d dg :=
  ⟨hu.eff.trans h.eff, hu.gens.trans h.gens, hu.digests.trans h.digests, hu.work.trans h.work, hu.breq q ▸ h.breq⟩

theorem State.finishMove_moved (s : State) (q : Nat) (d : Binding) (dg : List Byte) :
    s.MovedBy (s.finishMove q d dg []) q d dg ∧ (s.finishMove q d dg []).clasp.queue = s.clasp.queue := by
  have hhome := s.rehomeWindows_ledger (s.bind.merge d)
  have hfollow := State.followMove_ledger ((s.rehomeWindows (s.bind.merge d)).takeEffect (s.bind.merge d) d dg) s.bind (s.bind.merge d) d
  rw [State.finishMove_clean]
  generalize s.rehomeWindows (s.bind.merge d) = u at hhome hfollow ⊢
  generalize State.followMove _ _ _ _ = v at hfollow ⊢
  have hdone := v.setReq_breq_same q .done 3 0 0
  refine ⟨⟨?_, ?_, ?_, rfl, congrArg Breq.st hdone, congrArg Breq.result hdone⟩, ?_⟩
  · exact (congrArg Clasp.eff hfollow :)
  · exact (congrArg Clasp.gens hfollow :).trans (congrArg (fun c : Clasp => c.gens ++ [d.generation]) hhome :)
  · exact (congrArg Clasp.digests hfollow :).trans (congrArg (fun c : Clasp => c.digests ++ [dg]) hhome :)
  · exact (congrArg Clasp.queue hfollow :).trans (congrArg Clasp.queue hhome :)

theorem exec_movePhaseEnd_settled {s : State} {q : Nat} {d : Binding} {dg : List Byte} (hwork : s.clasp.work = some (.move q d dg))
    (hsettled : s.moveSettled (s.bind.merge d) = true) (hports : (s.movedPorts (s.bind.merge d)).isEmpty = true) (hqueue : s.clasp.queue = []) :
    ∃ t, exec (.movePhaseEnd []) s = .next t ∧ s.MovedBy t q d dg := by
  have hstep : movePhaseEnd s [] = (s.finishMove q d dg []).goOnServing := by
    unfold movePhaseEnd
    simp only [hwork, hsettled, hports]
    rfl
  obtain ⟨hmoved, hq⟩ := s.finishMove_moved q d dg
  generalize s.finishMove q d dg [] = u at hstep hmoved hq
  exact ⟨_, congrArg Host.Outcome.next hstep, hmoved.resumed (State.goOnServing_resumes (hq.trans hqueue))⟩

/-! ### The end of a flash update (R72) -/

/-- What the end of a flash update reports to its Quire. -/
structure State.StoreEnds (s t : State) (q step result : Nat) : Prop where
  flash : t.clasp.flash = s.clasp.flash
  work : t.clasp.work = none
  breq : (t.breq q).st = .done ∧ (t.breq q).step = step ∧ (t.breq q).result = result
  sends : ∀ u y, s.sends u y → t.sends u y

/-- A flash update's request ends without work left, and the Clasp's requests go on. -/
theorem State.endReq_storeEnds {s : State} (hqueue : s.clasp.queue = []) (hwork : s.clasp.work = none) (q step syn result : Nat) :
    s.StoreEnds (s.endReq q step syn result).goOnServing q step result := by
  have hu := State.goOnServing_resumes (s := s.endReq q step syn result) hqueue
  refine ⟨hu.flash, hu.work.trans hwork, ?_, hu.sends⟩
  rw [hu.breq, State.endReq, State.setReq_breq_same]
  exact ⟨rfl, rfl, rfl⟩

theorem State.programSlot_queue (s : State) (img : List Byte) (k : Nat) (recordOk : Bool) : (s.programSlot img k recordOk).clasp.queue = s.clasp.queue := rfl

theorem exec_flashProgramDone_good {s : State} {q k : Nat} {img : List Byte} (hwork : s.clasp.work = some (.flash (some q) img k))
    (hqueue : s.clasp.queue = []) :
    ∃ t, exec (.flashProgramDone true true) s = .next t ∧ (s.programSlot img k true).StoreEnds t q 5 0 := by
  have hstep : flashProgramDone s true true = (((s.programSlot img k true).setWork none).endReq q 5 0 0).goOnServing := by
    unfold flashProgramDone
    simp only [hwork]
    rfl
  have hq := (s.programSlot_queue img k true).trans hqueue
  generalize s.programSlot img k true = u at hstep hq ⊢
  have hends := State.endReq_storeEnds (s := u.setWork none) hq rfl q 5 0 0
  exact ⟨_, congrArg Host.Outcome.next hstep, hends.flash, hends.work, hends.breq, hends.sends⟩

theorem exec_flashProgramDone_bad {s : State} {q k : Nat} {img : List Byte} (recordOk : Bool) (hwork : s.clasp.work = some (.flash (some q) img k))
    (hqueue : s.clasp.queue = []) :
    ∃ t, exec (.flashProgramDone false recordOk) s = .next t ∧ (s.programSlot img k false).StoreEnds t q 4 1 ∧ t.carries Syn.storeFail = true := by
  have hstep : flashProgramDone s false recordOk
      = ((((s.programSlot img k false).setWork none).logClaspFor q Syn.storeFail).endReq q 4 Syn.storeFail.code 1).goOnServing := by
    unfold flashProgramDone
    simp only [hwork]
    rfl
  have hq := (s.programSlot_queue img k false).trans hqueue
  generalize s.programSlot img k false = u at hstep hq ⊢
  have hlog := (u.setWork none).resumes_log (Syn.storeFail.record claspNode 0x11 0 q)
  have hends := State.endReq_storeEnds (s := (u.setWork none).logClaspFor q Syn.storeFail) (hlog.queue.trans hq) hlog.work q 4 Syn.storeFail.code 1
  refine ⟨_, congrArg Host.Outcome.next hstep, ⟨hends.flash.trans hlog.flash, hends.work, hends.breq, fun k y hs => ?_⟩, ?_⟩
  · exact hends.sends k y (hlog.sends k y hs)
  · exact (hends.sends _ _ ((u.setWork none).log_sends rfl)).carries

/-- Settles O47, a clause a lemma: the owners' answers and time-out, the end of the move, the end of a flash update. -/
theorem handOvers : Obligations.Hand_overs := by
  unfold Obligations.Hand_overs
  refine ⟨fun s h o q v d dg waiting forced since hwork hready hqid hm hpend hseq hworld => ⟨?_, fun hforce ho hqueue => ?_⟩,
    fun s o q d dg waiting forced since hwork ho hqueue hdue hblocks hforce => ?_, fun s q d dg hwork hsettled hports hqueue => ?_,
    fun s q k img hwork hqueue => ⟨?_, fun recordOk => ?_⟩⟩
  · exact exec_handoverAck_counts hwork hready hqid hm ⟨hpend, hseq, hworld⟩
  · obtain ⟨t, hexec, ha⟩ := exec_handoverRefuse_counts hwork hready hqid hm ⟨hpend, hseq, hworld⟩ hforce ho hqueue
    obtain ⟨hst, hresult, hsyn⟩ := ha.breq
    exact ⟨t, hexec, ha.work, ha.eff, ha.mem, hst, hresult, hsyn, ha.sent.choose_spec.carries⟩
  · obtain ⟨t, hexec, ha⟩ := exec_handoverTimeout_due hwork ho hqueue hdue hblocks hforce
    obtain ⟨hst, hresult, hsyn⟩ := ha.breq
    exact ⟨t, hexec, ha.work, ha.eff, ha.mem, hst, hresult, hsyn, ha.sent.choose_spec.carries⟩
  · obtain ⟨t, hexec, ht⟩ := exec_movePhaseEnd_settled hwork hsettled hports hqueue
    exact ⟨t, hexec, ht.eff, ht.gens, ht.digests, ht.work, ht.breq⟩
  · obtain ⟨t, hexec, ht⟩ := exec_flashProgramDone_good hwork hqueue
    obtain ⟨hst, hstep, hresult⟩ := ht.breq
    exact ⟨t, hexec, ht.flash, ht.work, hst, hstep, hresult⟩
  · obtain ⟨t, hexec, ht, hsent⟩ := exec_flashProgramDone_bad recordOk hwork hqueue
    obtain ⟨hst, hstep, hresult⟩ := ht.breq
    exact ⟨t, hexec, ht.flash, ht.work, hst, hstep, hresult, hsent⟩

end Sys2Proof.Machine
end

section
/-! PROOFS. The encodings of the Xlz instructions (R84): the fields of a word, and decoder and encoder as each other's inverse. -/

namespace Sys2Proof.Machine

/-! ### The fields of a word (R84) -/

section
variable {imm rs1 funct rd op : Nat}

/-- The five fields of a 32-bit word within their widths. -/
structure XlzFields (imm rs1 funct rd op : Nat) : Prop where
  imm : imm < 2 ^ 12
  rs1 : rs1 < 2 ^ 5
  funct : funct < 2 ^ 3
  rd : rd < 2 ^ 5
  op : op < 2 ^ 7

variable (h : XlzFields imm rs1 funct rd op)
include h

theorem xlzWord_lt : xlzWord imm rs1 funct rd op < 2 ^ 32 := by
  obtain ⟨himm, hrs1, hfunct, hrd, hop⟩ := h
  unfold xlzWord
  omega

theorem bitsOf_xlzWord_imm : bitsOf (xlzWord imm rs1 funct rd op) 20 12 = imm := by
  obtain ⟨himm, hrs1, hfunct, hrd, hop⟩ := h
  unfold bitsOf xlzWord
  omega

theorem bitsOf_xlzWord_rs1 : bitsOf (xlzWord imm rs1 funct rd op) 15 5 = rs1 := by
  obtain ⟨himm, hrs1, hfunct, hrd, hop⟩ := h
  unfold bitsOf xlzWord
  omega

theorem bitsOf_xlzWord_funct : bitsOf (xlzWord imm rs1 funct rd op) 12 3 = funct := by
  obtain ⟨himm, hrs1, hfunct, hrd, hop⟩ := h
  unfold bitsOf xlzWord
  omega

theorem bitsOf_xlzWord_rd : bitsOf (xlzWord imm rs1 funct rd op) 7 5 = rd := by
  obtain ⟨himm, hrs1, hfunct, hrd, hop⟩ := h
  unfold bitsOf xlzWord
  omega

theorem bitsOf_xlzWord_op : bitsOf (xlzWord imm rs1 funct rd op) 0 7 = op := by
  obtain ⟨himm, hrs1, hfunct, hrd, hop⟩ := h
  unfold bitsOf xlzWord
  omega

end

/-- A 32-bit word is made of its five fields. -/
theorem xlzWord_bitsOf {n : Nat} (h : n < 2 ^ 32) : xlzWord (bitsOf n 20 12) (bitsOf n 15 5) (bitsOf n 12 3) (bitsOf n 7 5) (bitsOf n 0 7) = n := by
  unfold bitsOf xlzWord
  omega

theorem bitsOf_lt (n lo k : Nat) : bitsOf n lo k < 2 ^ k := Nat.mod_lt _ (by positivity)

/-- Bit 7 and bits 11:8, where lz.loop and lz.loopi have their level and count, are the rd field split in two. -/
theorem bitsOf_level (n : Nat) : bitsOf n 7 1 = bitsOf n 7 5 % 2 := by
  unfold bitsOf
  omega

theorem bitsOf_countLow (n : Nat) : bitsOf n 8 4 = bitsOf n 7 5 / 2 := by
  unfold bitsOf
  omega

/-- Bits 31:15 are zero where both fields in them are. -/
theorem bitsOf_upper (n : Nat) : bitsOf n 15 17 = bitsOf n 20 12 * 2 ^ 5 + bitsOf n 15 5 := by
  unfold bitsOf
  omega

/-! ### Decoder and encoder (R84) -/

/-- What the decoder finds in a word put together from its fields in custom-0. -/
theorem decodeXlz_custom0 {imm rs1 funct rd : Nat} (h : XlzFields imm rs1 funct rd 0x0B) :
    decodeXlz (BitVec.ofNat 32 (xlzWord imm rs1 funct rd 0x0B)) = decodeCustom0 (xlzWord imm rs1 funct rd 0x0B) := by
  rw [decodeXlz, BitVec.toNat_ofNat, Nat.mod_eq_of_lt (xlzWord_lt h)]
  exact if_pos (bitsOf_xlzWord_op h)

/-- What the decoder finds in a word put together from its fields in custom-1. -/
theorem decodeXlz_custom1 {imm rs1 funct rd : Nat} (h : XlzFields imm rs1 funct rd 0x2B) :
    decodeXlz (BitVec.ofNat 32 (xlzWord imm rs1 funct rd 0x2B)) = decodeCustom1 (xlzWord imm rs1 funct rd 0x2B) := by
  rw [decodeXlz, BitVec.toNat_ofNat, Nat.mod_eq_of_lt (xlzWord_lt h)]
  simp [bitsOf_xlzWord_op h]

/-- The decoder reads the encoder's word back. -/
theorem decodeXlz_encodeXlz {i : Xlz} (hwf : i.wf = true) : decodeXlz (encodeXlz i) = some i := by
  cases i with
  | loop level rs1 off =>
    obtain ⟨⟨hlevel, hrs1⟩, hoff⟩ : (level < 2 ∧ rs1 < 32) ∧ off < 4096 := by simpa [Xlz.wf] using hwf
    have h : XlzFields off rs1 0 level 0x0B := ⟨hoff, hrs1, by decide, by omega, by decide⟩
    refine (decodeXlz_custom0 h).trans ?_
    simp [decodeCustom0, bitsOf_level, bitsOf_countLow, bitsOf_xlzWord_imm h, bitsOf_xlzWord_rs1 h, bitsOf_xlzWord_funct h, bitsOf_xlzWord_rd h,
      Nat.div_eq_of_lt hlevel, Nat.mod_eq_of_lt hlevel]
  | loopi level count off =>
    obtain ⟨⟨hlevel, hcount⟩, hoff⟩ : (level < 2 ∧ count < 512) ∧ off < 4096 := by simpa [Xlz.wf] using hwf
    have h : XlzFields off (count / 16) 1 (count % 16 * 2 + level) 0x0B := ⟨hoff, by omega, by decide, by omega, by decide⟩
    refine (decodeXlz_custom0 h).trans ?_
    simp only [decodeCustom0, bitsOf_level, bitsOf_countLow, bitsOf_xlzWord_imm h, bitsOf_xlzWord_rs1 h, bitsOf_xlzWord_funct h,
      bitsOf_xlzWord_rd h, Option.some.injEq, Xlz.loopi.injEq, and_true]
    omega
  | specfence => rfl
  | lock rd rs1 =>
    obtain ⟨hrd, hrs1⟩ : rd < 32 ∧ rs1 < 32 := by simpa [Xlz.wf] using hwf
    have h : XlzFields 0 rs1 3 rd 0x0B := ⟨by decide, hrs1, by decide, hrd, by decide⟩
    refine (decodeXlz_custom0 h).trans ?_
    simp [decodeCustom0, bitsOf_xlzWord_imm h, bitsOf_xlzWord_rs1 h, bitsOf_xlzWord_funct h, bitsOf_xlzWord_rd h]
  | unlock rd rs1 =>
    obtain ⟨hrd, hrs1⟩ : rd < 32 ∧ rs1 < 32 := by simpa [Xlz.wf] using hwf
    have h : XlzFields 32 rs1 3 rd 0x0B := ⟨by decide, hrs1, by decide, hrd, by decide⟩
    refine (decodeXlz_custom0 h).trans ?_
    simp [decodeCustom0, bitsOf_xlzWord_imm h, bitsOf_xlzWord_rs1 h, bitsOf_xlzWord_funct h, bitsOf_xlzWord_rd h]
  | mbsend rd rs1 =>
    obtain ⟨hrd, hrs1⟩ : rd < 32 ∧ rs1 < 32 := by simpa [Xlz.wf] using hwf
    have h : XlzFields 0 rs1 0 rd 0x2B := ⟨by decide, hrs1, by decide, hrd, by decide⟩
    refine (decodeXlz_custom1 h).trans ?_
    simp [decodeCustom1, bitsOf_xlzWord_imm h, bitsOf_xlzWord_rs1 h, bitsOf_xlzWord_funct h, bitsOf_xlzWord_rd h]
  | mbrecv rd rs1 =>
    obtain ⟨hrd, hrs1⟩ : rd < 32 ∧ rs1 < 32 := by simpa [Xlz.wf] using hwf
    have h : XlzFields 0 rs1 1 rd 0x2B := ⟨by decide, hrs1, by decide, hrd, by decide⟩
    refine (decodeXlz_custom1 h).trans ?_
    simp [decodeCustom1, bitsOf_xlzWord_imm h, bitsOf_xlzWord_rs1 h, bitsOf_xlzWord_funct h, bitsOf_xlzWord_rd h]

/-- An instruction encodes a word if its fields are in their widths and its word is that word. -/
def Xlz.encodes (i : Xlz) (n : Nat) : Prop := i.wf = true ∧ encodeXlz i = BitVec.ofNat 32 n

/-- An instruction encodes the word whose five fields its own are. -/
theorem Xlz.encodes_of_fields {i : Xlz} {imm rs1 funct rd op n : Nat} (hn : n < 2 ^ 32) (hwf : i.wf = true)
    (henc : encodeXlz i = BitVec.ofNat 32 (xlzWord imm rs1 funct rd op)) (himm : bitsOf n 20 12 = imm) (hrs1 : bitsOf n 15 5 = rs1)
    (hfunct : bitsOf n 12 3 = funct) (hrd : bitsOf n 7 5 = rd) (hop : bitsOf n 0 7 = op) : i.encodes n := by
  subst himm hrs1 hfunct hrd hop
  exact ⟨hwf, henc.trans (congrArg _ (xlzWord_bitsOf hn))⟩

section
variable {n : Nat} (hn : n < 2 ^ 32)
include hn

/-- A word of custom-0 that decodes is the encoder's word of what it decodes to. -/
theorem encodes_of_decodeCustom0 {i : Xlz} (hop : bitsOf n 0 7 = 0x0B) (h : decodeCustom0 n = some i) : i.encodes n := by
  have hlevel := bitsOf_level n
  have hcount := bitsOf_countLow n
  have himm := bitsOf_lt n 20 12
  have hrs1 := bitsOf_lt n 15 5
  have hrd := bitsOf_lt n 7 5
  unfold decodeCustom0 at h
  split at h
  · next hfunct =>
    split at h <;> cases h
    exact Xlz.encodes_of_fields hn (by simp [Xlz.wf]; omega) rfl rfl rfl hfunct (by omega) hop
  · next hfunct =>
    cases h
    exact Xlz.encodes_of_fields hn (by simp [Xlz.wf]; omega) rfl rfl (by omega) hfunct (by omega) hop
  · next hfunct =>
    have hupper := bitsOf_upper n
    split at h <;> cases h
    exact Xlz.encodes_of_fields hn rfl rfl (by omega) (by omega) hfunct (by omega) hop
  · next hfunct =>
    split at h
    · next hzero =>
      cases h
      exact Xlz.encodes_of_fields hn (by simp [Xlz.wf]; omega) rfl hzero rfl hfunct rfl hop
    · split at h <;> cases h
      next hunlock => exact Xlz.encodes_of_fields hn (by simp [Xlz.wf]; omega) rfl hunlock rfl hfunct rfl hop
  · cases h

/-- A word of custom-1 that decodes is the encoder's word of what it decodes to. -/
theorem encodes_of_decodeCustom1 {i : Xlz} (hop : bitsOf n 0 7 = 0x2B) (h : decodeCustom1 n = some i) : i.encodes n := by
  have hrs1 := bitsOf_lt n 15 5
  have hrd := bitsOf_lt n 7 5
  unfold decodeCustom1 at h
  split at h
  · next hzero =>
    split at h <;> cases h
    · next hfunct => exact Xlz.encodes_of_fields hn (by simp [Xlz.wf]; omega) rfl hzero rfl hfunct rfl hop
    · next hfunct => exact Xlz.encodes_of_fields hn (by simp [Xlz.wf]; omega) rfl hzero rfl hfunct rfl hop
  · cases h

end

/-- A word that decodes is the encoder's word of what it decodes to. -/
theorem encodes_of_decodeXlz {w : BitVec 32} {i : Xlz} (h : decodeXlz w = some i) : i.encodes w.toNat := by
  simp only [decodeXlz] at h
  split at h
  · next hop => exact encodes_of_decodeCustom0 w.isLt hop h
  · split at h
    · next hop => exact encodes_of_decodeCustom1 w.isLt hop h
    · cases h

/-- Settles O57, an instruction of the table a case. -/
theorem xlzRoundTrip : Obligations.Xlz_round_trip := by
  unfold Obligations.Xlz_round_trip
  refine ⟨fun i hwf => decodeXlz_encodeXlz hwf, fun w i h => ?_⟩
  obtain ⟨hwf, hword⟩ := encodes_of_decodeXlz h
  exact ⟨hwf, by rw [hword, BitVec.ofNat_toNat, BitVec.setWidth_eq]⟩

/-- Settles O56: each word as it decodes. -/
theorem xlzWords : Obligations.Xlz_words := by
  unfold Obligations.Xlz_words
  decide

end Sys2Proof.Machine
end

section
/-! PROOFS. What an instruction of a hart leaves of the machine and of its own registers, said once: for the statements on retirement,
loops, worlds, deadlines, C-states, memory accesses and mailboxes. -/

namespace Sys2Proof.Machine

/-! ### Parts of the state -/

theorem State.changesOnly_refl (ps : List Piece) (s : State) : s.changesOnly ps s := fun p _ => by cases p <;> rfl

theorem State.changesOnly_trans {ps : List Piece} {s t u : State} (h : s.changesOnly ps t) (g : t.changesOnly ps u) : s.changesOnly ps u := by
  intro p hp
  have hst := h p hp
  have htu := g p hp
  cases p <;> exact htu.trans hst

theorem State.changesOnly_harts (s : State) (hs : Tab Hart) : s.changesOnly [.harts] { s with harts := hs } := by
  intro p hp
  cases p with
  | harts => simp at hp
  | _ => rfl

/-- `t` is `s` but for one hart. -/
structure State.InHart (s : State) (h : Nat) (t : State) : Prop where
  other : ∀ k, k ≠ h → t.hart k = s.hart k
  parts : s.changesOnly [.harts] t

theorem State.InHart.refl (s : State) (h : Nat) : s.InHart h s := ⟨fun _ _ => rfl, s.changesOnly_refl _⟩

theorem State.InHart.trans {s t u : State} {h : Nat} (f : s.InHart h t) (g : t.InHart h u) : s.InHart h u :=
  ⟨fun k hk => (g.other k hk).trans (f.other k hk), State.changesOnly_trans f.parts g.parts⟩

theorem State.setHart_inHart (s : State) (h : Nat) (x : Hart) : s.InHart h (s.setHart h x) :=
  ⟨fun _ hk => s.hart_setHart_other x hk.symm, s.changesOnly_harts _⟩

theorem State.modHart_inHart (s : State) (h : Nat) (f : Hart → Hart) : s.InHart h (s.modHart h f) := s.setHart_inHart h _

/-- At a ready hart an instruction has its effect. -/
theorem State.instr_of_ready {s : State} {h : Nat} (f : State → State) (hready : s.ready h = true) : s.instr h f = f s := by
  obtain ⟨hlive, hdue⟩ : s.hartLive h = true ∧ s.due h = none := by simpa [State.ready] using hready
  exact s.instr_ready h f hlive hdue

/-! ### What counting an event leaves of a hart (R404) -/

theorem Hart.count_frame {α : Type} (x : Hart) (g : Hart → α) (hg : ∀ y c o r, g { y with cnt := c, cntOvf := o, csr := r } = g y) (n k : Nat) :
    g (x.count n k) = g x := by
  obtain ⟨c, o, r, h⟩ := x.count_only n k
  rw [h, hg]

@[simp] theorem Hart.count_run (x : Hart) (n k : Nat) : (x.count n k).run = x.run := x.count_frame Hart.run (fun _ _ _ _ => rfl) n k
@[simp] theorem Hart.count_qid (x : Hart) (n k : Nat) : (x.count n k).qid = x.qid := x.count_frame Hart.qid (fun _ _ _ _ => rfl) n k
@[simp] theorem Hart.count_paired (x : Hart) (n k : Nat) : (x.count n k).paired = x.paired := x.count_frame Hart.paired (fun _ _ _ _ => rfl) n k
@[simp] theorem Hart.count_secure (x : Hart) (n k : Nat) : (x.count n k).secure = x.secure := x.count_frame Hart.secure (fun _ _ _ _ => rfl) n k
@[simp] theorem Hart.count_mode (x : Hart) (n k : Nat) : (x.count n k).mode = x.mode := x.count_frame Hart.mode (fun _ _ _ _ => rfl) n k
@[simp] theorem Hart.count_virt (x : Hart) (n k : Nat) : (x.count n k).virt = x.virt := x.count_frame Hart.virt (fun _ _ _ _ => rfl) n k
@[simp] theorem Hart.count_pc (x : Hart) (n k : Nat) : (x.count n k).pc = x.pc := x.count_frame Hart.pc (fun _ _ _ _ => rfl) n k
@[simp] theorem Hart.count_x (x : Hart) (n k : Nat) : (x.count n k).x = x.x := x.count_frame Hart.x (fun _ _ _ _ => rfl) n k
@[simp] theorem Hart.count_f (x : Hart) (n k : Nat) : (x.count n k).f = x.f := x.count_frame Hart.f (fun _ _ _ _ => rfl) n k
@[simp] theorem Hart.count_vec (x : Hart) (n k : Nat) : (x.count n k).vec = x.vec := x.count_frame Hart.vec (fun _ _ _ _ => rfl) n k
@[simp] theorem Hart.count_loop0 (x : Hart) (n k : Nat) : (x.count n k).loop0 = x.loop0 := x.count_frame Hart.loop0 (fun _ _ _ _ => rfl) n k
@[simp] theorem Hart.count_loop1 (x : Hart) (n k : Nat) : (x.count n k).loop1 = x.loop1 := x.count_frame Hart.loop1 (fun _ _ _ _ => rfl) n k
@[simp] theorem Hart.count_ras (x : Hart) (n k : Nat) : (x.count n k).ras = x.ras := x.count_frame Hart.ras (fun _ _ _ _ => rfl) n k
@[simp] theorem Hart.count_rasSpec (x : Hart) (n k : Nat) : (x.count n k).rasSpec = x.rasSpec := x.count_frame Hart.rasSpec (fun _ _ _ _ => rfl) n k
@[simp] theorem Hart.count_dlTime (x : Hart) (n k : Nat) : (x.count n k).dlTime = x.dlTime := x.count_frame Hart.dlTime (fun _ _ _ _ => rfl) n k
@[simp] theorem Hart.count_dlArmed (x : Hart) (n k : Nat) : (x.count n k).dlArmed = x.dlArmed := x.count_frame Hart.dlArmed (fun _ _ _ _ => rfl) n k
@[simp] theorem Hart.count_dlMissed (x : Hart) (n k : Nat) : (x.count n k).dlMissed = x.dlMissed := x.count_frame Hart.dlMissed (fun _ _ _ _ => rfl) n k
@[simp] theorem Hart.count_dlExcEn (x : Hart) (n k : Nat) : (x.count n k).dlExcEn = x.dlExcEn := x.count_frame Hart.dlExcEn (fun _ _ _ _ => rfl) n k
@[simp] theorem Hart.count_dlTake (x : Hart) (n k : Nat) : (x.count n k).dlTake = x.dlTake := x.count_frame Hart.dlTake (fun _ _ _ _ => rfl) n k
@[simp] theorem Hart.count_inbox (x : Hart) (n k : Nat) : (x.count n k).inbox = x.inbox := x.count_frame Hart.inbox (fun _ _ _ _ => rfl) n k
@[simp] theorem Hart.count_outbox (x : Hart) (n k : Nat) : (x.count n k).outbox = x.outbox := x.count_frame Hart.outbox (fun _ _ _ _ => rfl) n k
@[simp] theorem Hart.count_cstate (x : Hart) (n k : Nat) : (x.count n k).cstate = x.cstate := x.count_frame Hart.cstate (fun _ _ _ _ => rfl) n k
@[simp] theorem Hart.count_entering (x : Hart) (n k : Nat) : (x.count n k).entering = x.entering := x.count_frame Hart.entering (fun _ _ _ _ => rfl) n k
@[simp] theorem Hart.count_wakeHeld (x : Hart) (n k : Nat) : (x.count n k).wakeHeld = x.wakeHeld := x.count_frame Hart.wakeHeld (fun _ _ _ _ => rfl) n k
@[simp] theorem Hart.count_l1d (x : Hart) (n k : Nat) : (x.count n k).l1d = x.l1d := x.count_frame Hart.l1d (fun _ _ _ _ => rfl) n k
@[simp] theorem Hart.count_misses (x : Hart) (n k : Nat) : (x.count n k).misses = x.misses := x.count_frame Hart.misses (fun _ _ _ _ => rfl) n k
@[simp] theorem Hart.count_wbs (x : Hart) (n k : Nat) : (x.count n k).wbs = x.wbs := x.count_frame Hart.wbs (fun _ _ _ _ => rfl) n k

/-! ### Confirming what was fetched (R99) -/

theorem Hart.confirmTlb_only (x : Hart) (k : AccKind) (e : TlbEnt) : ∃ a b, x.confirmTlb k e = { x with itlb := a, dtlb := b } := by
  unfold Hart.confirmTlb
  dsimp only
  split <;> exact ⟨_, _, rfl⟩

theorem Hart.confirmPc_only (x : Hart) : ∃ a b, x.confirmPc = { x with itlb := a, dtlb := b } := by
  unfold Hart.confirmPc
  split
  · exact x.confirmTlb_only _ _
  · exact ⟨_, _, rfl⟩

theorem State.confirmFetch_inHart (s : State) (h : Nat) : s.InHart h (s.confirmFetch h) := by
  simp only [State.confirmFetch]
  split
  · exact s.setHart_inHart h _
  · exact .refl s h
  · exact .refl s h

theorem State.confirmFetch_hart (s : State) (h : Nat) :
    ∃ l a b, (s.confirmFetch h).hart h = { s.hart h with l1i := l, itlb := a, dtlb := b } := by
  simp only [State.confirmFetch]
  split
  · obtain ⟨a, b, hpc⟩ := (s.hart h).confirmPc_only
    rw [State.hart_setHart_same, hpc]
    exact ⟨_, _, _, rfl⟩
  · exact ⟨_, _, _, rfl⟩
  · exact ⟨_, _, _, rfl⟩

end Sys2Proof.Machine
end

section
/-! PROOFS. Instructions as they retire, illegal encodings, and resolved transfers (R82, R84, R87, R88, R93, R98). -/

namespace Sys2Proof.Machine

/-! ### An instruction that writes one register (R82, R88, R98) -/

/-- An instruction that only writes an integer register changes, besides it, the pc, the last pc, the loop unit and the counters. -/
theorem Hart.commit_write (x : Hart) {i : Retire} {n : Nat} {v : Word} (hbr : i.br = none) (hwrites : i.writes = [.x n v]) :
    ∃ c o r l0 l1 b p, x.commit i
      = { x.setX n v with lastPc := (x.setX n v).pc, cnt := c, cntOvf := o, csr := r, loop0 := l0, loop1 := l1, loopBuf := b, pc := p } := by
  obtain ⟨c, o, r, hcount⟩ := Hart.countRetire_only { x.setX n v with lastPc := (x.setX n v).pc } i.cls
  simp only [Hart.commit, hbr, hwrites, List.foldl_cons, List.foldl_nil, Hart.applyWrite, hcount, Hart.advance]
  exact Hart.goOn_only _ _

theorem Hart.setX_only (x : Hart) (n : Nat) (v : Word) : ∃ r, x.setX n v = { x with x := r } := by
  unfold Hart.setX
  split <;> exact ⟨_, rfl⟩

/-- Where nothing holds it back, a legal instruction without CSR access retires: what it fetched is confirmed, and its effects follow. -/
theorem retireInstr_plain {s : State} {h n : Nat} {v : Word} {i : Retire} (hlegal : xlzIllegal i.bits = false) (hxlz : decodeXlz i.bits = none)
    (hcsr : i.csr = none) (hwrites : i.writes = [.x n v]) : retireInstr s h i = (s.confirmFetch h).modHart h (fun x => x.commit i) := by
  simp [retireInstr, hlegal, hxlz, hcsr, hwrites, Hart.writesOff, State.retireWaits]

theorem exec_instructionRetire_plain {s : State} {h n : Nat} {v : Word} {i : Retire} (hready : s.ready h = true) (hlegal : xlzIllegal i.bits = false)
    (hxlz : decodeXlz i.bits = none) (hcsr : i.csr = none) (hbr : i.br = none) (hwrites : i.writes = [.x n v]) :
    ∃ t, exec (.instructionRetire h i .none) s = .next t ∧ (t.hart h).getX n = (if n = 0 then 0 else v)
      ∧ (∀ m, m ≠ n → (t.hart h).getX m = (s.hart h).getX m) ∧ (t.hart h).f = (s.hart h).f ∧ (t.hart h).vec = (s.hart h).vec
      ∧ (t.hart h).lastPc = (s.hart h).pc ∧ (t.hart h).mode = (s.hart h).mode ∧ s.InHart h t := by
  refine ⟨_, congrArg Host.Outcome.next ((State.instr_of_ready _ hready).trans (retireInstr_plain hlegal hxlz hcsr hwrites)), ?_⟩
  obtain ⟨l, a, b, hfetch⟩ := s.confirmFetch_hart h
  obtain ⟨r, hset⟩ := ((s.confirmFetch h).hart h).setX_only n v
  obtain ⟨c, o, q, l0, l1, d, p, hcommit⟩ := ((s.confirmFetch h).hart h).commit_write hbr hwrites
  have hin := (s.confirmFetch_inHart h).trans (State.modHart_inHart _ h (fun x => x.commit i))
  have hx : ∀ m, (((s.confirmFetch h).hart h).commit i).getX m = (((s.confirmFetch h).hart h).setX n v).getX m := fun m => by
    rw [hcommit]
    rfl
  have hold : ∀ m, ((s.confirmFetch h).hart h).getX m = (s.hart h).getX m := fun m => by
    rw [hfetch]
    rfl
  rw [State.hart_modHart_same]
  refine ⟨?_, fun m hm => ?_, ?_, ?_, ?_, ?_, hin⟩
  · rw [hx, Hart.getX_setX, if_pos rfl]
  · rw [hx, Hart.getX_setX, if_neg hm.symm, hold]
    split
    · next hm0 => rw [hm0, Hart.getX_zero]
    · rfl
  all_goals rw [hcommit, hset, hfetch]

/-! ### An encoding that is no instruction (R84) -/

/-- A CSR that a count of an event may write: a standard counter or event selector, and mip for its overflow (R407). -/
def countsInto (n : Nat) : Bool := decide (0x320 ≤ n ∧ n < 0x340) || n == 0x344 || decide (0xB00 ≤ n ∧ n < 0xB20)

theorem Hart.countStd_getCsr (x : Hart) {i n : Nat} (e k : Nat) (hi : i < 32) (hn : countsInto n = false) :
    (x.countStd e k i).getCsr n = x.getCsr n := by
  obtain ⟨hsel, hmip, hctr⟩ : 0x320 + i ≠ n ∧ 0x344 ≠ n ∧ 0xB00 + i ≠ n := by
    simp [countsInto] at hn
    omega
  unfold Hart.countStd Hart.getCsr
  dsimp only
  split
  · split
    · rw [Tab.get_set_other _ _ _ hctr]
    · split
      · rw [Tab.get_set_other _ _ _ hsel, Tab.get_set_other _ _ _ hctr]
      · rw [Tab.get_set_other _ _ _ hmip, Tab.get_set_other _ _ _ hsel, Tab.get_set_other _ _ _ hctr]
  · rfl

theorem Hart.addCnt_getCsr (fuel : Nat) (x : Hart) (e k n : Nat) : (Hart.addCnt fuel x e k).getCsr n = x.getCsr n := by
  obtain ⟨c, o, h⟩ := Hart.addCnt_only fuel x e k
  rw [h]
  rfl

/-- A count writes no other CSR. -/
theorem Hart.count_getCsr (x : Hart) (e k : Nat) {n : Nat} (hn : countsInto n = false) : (x.count e k).getCsr n = x.getCsr n := by
  have hstd : ∀ (l : List Nat) (y : Hart), (∀ i ∈ l, i < 32) → (l.foldl (fun x i => x.countStd e k i) y).getCsr n = y.getCsr n := by
    intro l
    induction l with
    | nil => exact fun _ _ => rfl
    | cons i l ih =>
      intro y hl
      rw [List.foldl_cons, ih _ fun j hj => hl j (.tail _ hj), Hart.countStd_getCsr _ _ _ (hl i (.head _)) hn]
  unfold Hart.count
  rw [hstd _ _ (by decide)]
  split
  · rfl
  · exact Hart.addCnt_getCsr 128 x e k n

theorem Hart.dropUnconfirmed_getCsr (x : Hart) {n : Nat} (hn : countsInto n = false) : x.dropUnconfirmed.getCsr n = x.getCsr n := by
  unfold Hart.dropUnconfirmed
  dsimp only
  split
  · rfl
  · exact Hart.count_getCsr _ 34 _ hn

theorem Hart.enterMode_getCsr (x : Hart) (to_ : Mode) (v : Bool) {n : Nat} (hn : countsInto n = false) : (x.enterMode to_ v).getCsr n = x.getCsr n := by
  unfold Hart.enterMode Hart.flushPoint
  dsimp only
  split
  · rfl
  · exact (Hart.count_getCsr _ 11 1 hn).trans (Hart.dropUnconfirmed_getCsr _ hn)

/-- An exception taken in M-mode saves the pc, its cause and its value (R116). -/
theorem Hart.trap_saves {x : Hart} {e : Exc} (hm : x.mode = .m) :
    (x.trap false e).getCsr 0x341 = x.pc ∧ (x.trap false e).getCsr 0x342 = word e.code ∧ (x.trap false e).getCsr 0x343 = e.tval := by
  have htarget : x.trapTarget false e.code e.noVs = (.m, false) := by simp [Hart.trapTarget, hm]
  unfold Hart.trap Hart.trapTo
  simp only [htarget, if_true]
  refine ⟨?_, ?_, ?_⟩ <;> rw [Hart.enterMode_getCsr _ _ _ (by decide)] <;> split <;> simp [Hart.getCsr, Hart.setCsr, Tab.get_set]

theorem State.raiseCode_inHart (s : State) (h code : Nat) (v : Word) : s.InHart h (s.raiseCode h code v) := by
  unfold State.raiseCode State.raise
  exact s.modHart_inHart h _

theorem exec_instructionRetire_illegal {s : State} {h : Nat} {i : Retire} (hready : s.ready h = true) (hlen : i.len = 4)
    (hillegal : xlzIllegal i.bits = true) (hm : (s.hart h).mode = .m) :
    ∃ t, exec (.instructionRetire h i .none) s = .next t ∧ (t.hart h).getCsr 0x341 = (s.hart h).pc ∧ (t.hart h).getCsr 0x342 = 2
      ∧ (t.hart h).getCsr 0x343 = i.bits.setWidth 64 ∧ (t.hart h).x = (s.hart h).x ∧ s.InHart h t := by
  have hbits : word (i.bits.toNat % 2 ^ (8 * i.len)) = i.bits.setWidth 64 := by
    rw [hlen, Nat.mod_eq_of_lt i.bits.isLt]
    exact BitVec.ofNat_toNat ..
  have hstep : retireInstr s h i = s.raiseCode h 2 (i.bits.setWidth 64) := by simp [retireInstr, hlen, hillegal, ← hbits]
  refine ⟨_, congrArg Host.Outcome.next ((State.instr_of_ready _ hready).trans hstep), ?_⟩
  obtain ⟨hpc, hcause, hval⟩ := Hart.trap_saves (x := s.hart h) (e := Exc.of 2 (i.bits.setWidth 64)) hm
  have hbody := (s.hart h).trap_sameBody false (Exc.of 2 (i.bits.setWidth 64))
  have hin := s.raiseCode_inHart h 2 (i.bits.setWidth 64)
  rw [State.raiseCode, State.raise] at hin ⊢
  rw [State.hart_modHart_same]
  obtain ⟨-, -, -, -, hx, -⟩ := hbody
  exact ⟨hpc, hcause, hval, hx, hin⟩

/-! ### Resolved transfers (R87, R88, R93, R98) -/

/-- What a resolved transfer leaves of its hart: the return stack, restored by a redirect, and the counters change. -/
theorem exec_branchResolve_live {s : State} {h : Nat} (b : Branch) (hlive : s.hartLive h = true) :
    ∃ t, exec (.branchResolve h b) s = .next t
      ∧ (t.hart h).rasSpec = (if (s.hart h).branchCost b = .redirect then (s.hart h).ras else rasAfter (s.hart h).rasSpec b (b.pc + word b.len))
      ∧ (t.hart h).ras = (s.hart h).ras ∧ (t.hart h).loop0 = (s.hart h).loop0 ∧ (t.hart h).loop1 = (s.hart h).loop1
      ∧ (t.hart h).x = (s.hart h).x ∧ s.InHart h t := by
  refine ⟨_, congrArg Host.Outcome.next (if_pos hlive), ?_⟩
  have hin := s.modHart_inHart h
  rw [State.hart_modHart_same]
  cases (s.hart h).branchCost b with
  | none | decode | redirect => simp [hin]

/-- Settles O10: an instruction that writes a register, an illegal encoding, a resolved transfer. -/
theorem instructionsRetire : Obligations.Instructions_retire := by
  unfold Obligations.Instructions_retire
  refine ⟨fun s h n v i hready _ hlegal hxlz hcsr hbr hwrites => ?_, fun s h i hready hlen hillegal hm => ?_, fun s h b hlive => ?_⟩
  · obtain ⟨t, hexec, hn, hx, hf, hvec, hlast, hmode, hin⟩ := exec_instructionRetire_plain hready hlegal hxlz hcsr hbr hwrites
    exact ⟨t, hexec, hn, hx, hf, hvec, hlast, hmode, hin.other, hin.parts⟩
  · obtain ⟨t, hexec, hpc, hcause, hval, hx, hin⟩ := exec_instructionRetire_illegal hready hlen hillegal hm
    exact ⟨t, hexec, hpc, hcause, hval, hx, hin.other, hin.parts⟩
  · obtain ⟨t, hexec, hspec, hras, hl0, hl1, hx, hin⟩ := exec_branchResolve_live b hlive
    exact ⟨t, hexec, hspec, hras, hl0, hl1, hx, hin.parts⟩

end Sys2Proof.Machine
end

section
/-! PROOFS. Loop setup (R90, R91, R94). -/

namespace Sys2Proof.Machine

/-! ### The loop unit and a level that is not due (R92) -/

theorem Hart.loopAct_loop1 (x : Hart) (next : Word) : (x.loopAct 0 next).1.loop1 = x.loop1 := by
  unfold Hart.loopAct
  dsimp only
  split <;> simp [Hart.setLoop]

theorem Hart.loopAct_loop0 (x : Hart) (next : Word) : (x.loopAct 1 next).1.loop0 = x.loop0 := by
  unfold Hart.loopAct
  dsimp only
  split <;> simp [Hart.setLoop]

/-- The loop unit's action on level 1 leaves level 0 due as it was. -/
theorem Hart.loopAct_loopDue (x : Hart) (next : Word) : (x.loopAct 1 next).1.loopDue 0 next = x.loopDue 0 next := by
  have hloop := x.loopAct_loop0 next
  obtain ⟨c, o, r, l0, l1, b, p, h⟩ := x.loopAct_only 1 next
  rw [h] at hloop ⊢
  simp only [Hart.loopDue, Hart.loop, if_true] at hloop ⊢
  rw [hloop]

/-- Going on to an address leaves a level as it is at which the loop unit does not act there. -/
theorem Hart.goOn_loop {x : Hart} {l : Nat} {next : Word} (hl : l < 2) (hdue : x.loopDue l next = false) : (x.goOn next).loop l = x.loop l := by
  unfold Hart.goOn
  obtain rfl | rfl : l = 0 ∨ l = 1 := by omega
  · simp only [Hart.loop, if_true]
    split
    · simp only [x.loopAct_loopDue, hdue, Bool.and_false]
      exact x.loopAct_loop0 next
    · simp [hdue]
  · simp only [Hart.loop, Nat.one_ne_zero, if_false]
    simp only [hdue]
    split
    · next h => cases h
    · split
      · exact x.loopAct_loop1 next
      · rfl

@[simp] theorem Hart.setLoop_loop (x : Hart) (l : Nat) (v : Loop) : (x.setLoop l v).loop l = v := by
  unfold Hart.setLoop Hart.loop
  split <;> rfl

/-- A level whose end is not the next instruction is not due. -/
theorem Hart.loopDue_of_stop_ne {x : Hart} {l : Nat} {next : Word} (h : (x.loop l).stop ≠ next) : x.loopDue l next = false := by
  simp [Hart.loopDue, h]

/-- A retiring instruction leaves a level as it is that does not end behind it. -/
theorem Hart.retire_loop {x : Hart} {l : Nat} (c : RetClass) (hl : l < 2) (hstop : (x.loop l).stop ≠ x.pc + 4) : (x.retire c).loop l = x.loop l := by
  obtain ⟨n, o, r, hcount⟩ := Hart.countRetire_only { x with lastPc := x.pc } c
  rw [Hart.retire, hcount]
  exact Hart.goOn_loop hl (Hart.loopDue_of_stop_ne hstop)

/-! ### Setup (R90, R91, R94) -/

/-- A setup that no reason of R94 forbids ends at most 2,048 parcels behind its next instruction, and not at that instruction. -/
theorem Hart.loopFault_none {x : Hart} {level endOff count : Nat} {range : Bool} (h : x.loopFault level endOff count range = none) :
    0 < endOff ∧ endOff ≤ 2048 := by
  by_contra hbad
  have hlen : endOff = 0 ∨ 2048 < endOff := by omega
  simp only [Hart.loopFault, hlen, if_true] at h
  split at h
  · cases h
  · split at h <;> cases h

/-- The end of a body of 1 to 2,048 parcels is not where the body begins. -/
theorem loopEnd_ne {e : Nat} (pc : Word) (hpos : 0 < e) (hmax : e ≤ 2048) : pc + 4 + word (2 * e) ≠ pc + 4 := by
  intro h
  have hzero : word (2 * e) = 0 := by simpa using h
  have hnat := congrArg BitVec.toNat hzero
  simp [word] at hnat
  omega

/-- The loop registers of a level after its setup (R90). -/
def Hart.loopOf (x : Hart) (count endOff : Nat) : Loop :=
  { active := true, virt := x.virt, prv := x.mode, len := endOff, count := count, stop := x.pc + 4 + word (2 * endOff) }

theorem Hart.loopSetup_loop {x : Hart} {l e count : Nat} (hl : l < 2) (hcount : 0 < count) (hpos : 0 < e) (hmax : e ≤ 2048) :
    (x.loopSetup l e count).loop l = x.loopOf count e := by
  have hset : x.loopSetup l e count = (x.setLoop l (x.loopOf count e)).retire .xlz := if_neg hcount.ne'
  have hpc : (x.setLoop l (x.loopOf count e)).pc = x.pc := by
    unfold Hart.setLoop
    split <;> rfl
  rw [hset, Hart.retire_loop .xlz hl, Hart.setLoop_loop]
  rw [Hart.setLoop_loop, hpc]
  exact loopEnd_ne x.pc hpos hmax

/-- A setup with count zero goes on at the end and leaves both levels (R91). -/
theorem Hart.loopSetup_zero (x : Hart) (l e : Nat) :
    (x.loopSetup l e 0).pc = x.pc + 4 + word (2 * e) ∧ (x.loopSetup l e 0).loop0 = x.loop0 ∧ (x.loopSetup l e 0).loop1 = x.loop1 := by
  obtain ⟨c, o, r, hcount⟩ := Hart.countRetire_only { x with lastPc := x.pc } .xlz
  simp [Hart.loopSetup, hcount]

section
variable {s : State} {h l e : Nat} (hready : s.ready h = true)
include hready

theorem loopSetup_allowed {count : Nat} {range : Bool} (hallowed : (s.hart h).loopFault l e count range = none) :
    loopSetup s h l e count range = s.modHart h (fun x => x.loopSetup l e count) := by
  rw [loopSetup, State.instr_of_ready _ hready, hallowed]

/-- A setup that no reason of R94 forbids makes its level active. -/
theorem loopSetup_active {count : Nat} {range : Bool} (hl : l < 2) (hcount : 0 < count) (hallowed : (s.hart h).loopFault l e count range = none) :
    s.changesOnly [.harts] (loopSetup s h l e count range) ∧ ((loopSetup s h l e count range).hart h).loop l = (s.hart h).loopOf count e := by
  obtain ⟨hpos, hmax⟩ := Hart.loopFault_none hallowed
  rw [loopSetup_allowed hready hallowed, State.hart_modHart_same]
  exact ⟨(s.modHart_inHart h _).parts, Hart.loopSetup_loop hl hcount hpos hmax⟩

/-- A setup with count zero skips the body (R91). -/
theorem loopSetup_skips {range : Bool} (hallowed : (s.hart h).loopFault l e 0 range = none) :
    ((loopSetup s h l e 0 range).hart h).pc = (s.hart h).pc + 4 + word (2 * e)
      ∧ ((loopSetup s h l e 0 range).hart h).loop0 = (s.hart h).loop0 ∧ ((loopSetup s h l e 0 range).hart h).loop1 = (s.hart h).loop1
      ∧ s.changesOnly [.harts] (loopSetup s h l e 0 range) := by
  obtain ⟨hpc, hl0, hl1⟩ := (s.hart h).loopSetup_zero l e
  rw [loopSetup_allowed hready hallowed, State.hart_modHart_same]
  exact ⟨hpc, hl0, hl1, (s.modHart_inHart h _).parts⟩

end

/-- Count zero is no count out of range: lz.loop has the same reasons as lz.loopi (R94). -/
theorem Hart.loopFault_zero (x : Hart) (l e : Nat) (range : Bool) : x.loopFault l e 0 range = x.loopFault l e 0 false := by
  simp [Hart.loopFault]

/-- Settles O11: both setup forms, by what the shared setup does. -/
theorem loopSetup_correct : Obligations.Loop_setup := by
  unfold Obligations.Loop_setup
  refine ⟨fun s h l r e hready hl hcount hallowed => ?_, fun s h l c e hready hl hcount hallowed => ?_, fun s h l e hready hallowed => ?_⟩
  · exact ⟨_, rfl, loopSetup_active hready hl hcount hallowed⟩
  · exact ⟨_, rfl, loopSetup_active hready hl hcount hallowed⟩
  · exact ⟨_, rfl, loopSetup_skips hready hallowed⟩

/-- Settles O12: both setup forms skip the body. -/
theorem zeroCount : Obligations.Zero_count := by
  unfold Obligations.Zero_count
  intro s h l e hready hallowed
  refine ⟨?_, fun rs1 hzero => ?_⟩
  · obtain ⟨hpc, hl0, hl1, -⟩ := loopSetup_skips hready hallowed
    exact ⟨_, rfl, hpc, hl0, hl1⟩
  · have hcount : ((s.hart h).getX rs1).toNat = 0 := by rw [hzero]; rfl
    have hexec : exec (.lzLoop h l rs1 e) s = .next (loopSetup s h l e 0 true) := by rw [← hcount]; rfl
    obtain ⟨hpc, hl0, hl1, -⟩ := loopSetup_skips hready (((s.hart h).loopFault_zero l e true).trans hallowed)
    exact ⟨_, hexec, hpc, hl0, hl1⟩

end Sys2Proof.Machine
end

section
/-! PROOFS. Worlds, deadline channels, C-states (R96, R110, R328, R329, R384, R385). -/

namespace Sys2Proof.Machine

/-! ### CSR writes with commands of their own (R85, R96, R110) -/

theorem Hart.retire_frame {α : Type} (x : Hart) (g : Hart → α) (c : RetClass)
    (hg : ∀ y a n o r l0 l1 b p, g { y with lastPc := a, cnt := n, cntOvf := o, csr := r, loop0 := l0, loop1 := l1, loopBuf := b, pc := p } = g y) :
    g (x.retire c) = g x := by
  obtain ⟨n, o, r, l0, l1, b, p, h⟩ := x.retire_only c
  rw [h, hg]

@[simp] theorem Hart.retire_x (x : Hart) (c : RetClass) : (x.retire c).x = x.x := x.retire_frame Hart.x c fun _ _ _ _ _ _ _ _ _ => rfl
@[simp] theorem Hart.retire_secure (x : Hart) (c : RetClass) : (x.retire c).secure = x.secure := x.retire_frame Hart.secure c fun _ _ _ _ _ _ _ _ _ => rfl
@[simp] theorem Hart.retire_dlTime (x : Hart) (c : RetClass) : (x.retire c).dlTime = x.dlTime := x.retire_frame Hart.dlTime c fun _ _ _ _ _ _ _ _ _ => rfl
@[simp] theorem Hart.retire_dlArmed (x : Hart) (c : RetClass) : (x.retire c).dlArmed = x.dlArmed :=
  x.retire_frame Hart.dlArmed c fun _ _ _ _ _ _ _ _ _ => rfl
@[simp] theorem Hart.retire_dlMissed (x : Hart) (c : RetClass) : (x.retire c).dlMissed = x.dlMissed :=
  x.retire_frame Hart.dlMissed c fun _ _ _ _ _ _ _ _ _ => rfl
@[simp] theorem Hart.retire_dlExcEn (x : Hart) (c : RetClass) : (x.retire c).dlExcEn = x.dlExcEn :=
  x.retire_frame Hart.dlExcEn c fun _ _ _ _ _ _ _ _ _ => rfl
@[simp] theorem Hart.retire_cidle (x : Hart) (c : RetClass) : (x.retire c).cidle = x.cidle := x.retire_frame Hart.cidle c fun _ _ _ _ _ _ _ _ _ => rfl
@[simp] theorem Hart.retire_cstate (x : Hart) (c : RetClass) : (x.retire c).cstate = x.cstate := x.retire_frame Hart.cstate c fun _ _ _ _ _ _ _ _ _ => rfl

/-- A custom CSR may be written in M-mode, and in every mode where its number names no mode (R85). -/
theorem Hart.csrFault_custom {x : Hart} {n : Nat} (hn : n ∈ customCsrs) (hwritable : csrReadOnly n = false)
    (hmode : x.mode = .m ∨ n / 0x100 % 4 = 0) : x.csrFault n true = none := by
  have hexists : csrExists n = true := by simp [csrExists, hn]
  rcases hmode with hmode | hmode <;> simp [Hart.csrFault, hexists, hwritable, hn, hmode]

/-- With V = 1 a custom CSR still stands for itself. -/
theorem Hart.csrView_custom (x : Hart) {n : Nat} (hn : n ∈ customCsrs) : x.csrView n = n := by
  have hsupervisor : ∀ k ∈ [0x100, 0x104, 0x105, 0x140, 0x141, 0x142, 0x143, 0x144, 0x14D, 0x150, 0x151, 0x15C, 0x180], k ∉ customCsrs := by
    decide
  have htop : n ≠ 0xDB0 := fun h => absurd (h ▸ hn) (by decide)
  unfold Hart.csrView
  rw [if_neg fun h => hsupervisor n (List.contains_iff_mem.mp h.2) hn, if_neg fun h => htop h.2]

/-- A custom CSR written by a command of its own, where neither its mode nor an older access holds it back. -/
theorem csrRow_custom {s : State} {h n : Nat} {v : Word} (hready : s.ready h = true) (hn : n ∈ customCsrs)
    (hwritable : csrReadOnly n = false) (hmode : (s.hart h).mode = .m ∨ n / 0x100 % 4 = 0) (hlock : n ≠ 0x7C8)
    (hquiet : n = 0x7C0 → (s.hart h).quiet = true) : csrRow s h n v = (s.customWrite h n v).modHart h (fun x => x.retire .csr) := by
  have hfault := Hart.csrFault_custom hn hwritable hmode
  have hwaits : s.csrWaits h n v = none := by
    by_cases hworld : n = 0x7C0
    · simp [State.csrWaits, hworld, hquiet hworld]
    · simp [State.csrWaits, hworld, hlock]
  have hwrite : s.csrWrite h n v = s.customWrite h n v := by
    rw [State.csrWrite, Hart.csrView_custom _ hn]
    exact if_pos (List.contains_iff_mem.mpr hn)
  rw [csrRow, State.instr_of_ready _ hready]
  simp only [hfault, hwaits, hwrite]

/-! ### The world of a hart (R110) -/

theorem Hart.flushPoint_secure (x : Hart) : x.flushPoint.secure = x.secure := by
  obtain ⟨-, -, -, hsecure, -⟩ := x.flushPoint_sameBody
  exact hsecure

/-- In a DUAL_WORLD Quire a write of SECURE alone sets the hart's world, and touches that hart only. -/
theorem State.writeWorld_dual {s : State} {h : Nat} {v : Word} (hdual : s.bind.dualWorld (s.hart h).qid = true) (hv : v.toNat < 2) :
    ((s.writeWorld h v).hart h).secure = flagOf v 0 ∧ s.InHart h (s.writeWorld h v) := by
  unfold State.writeWorld
  simp only [hdual, hv, if_true]
  split
  · next hsame => exact ⟨hsame.symm, .refl s h⟩
  · exact ⟨by rw [State.hart_modHart_same, Hart.flushPoint_secure], s.modHart_inHart h _⟩

/-- Elsewhere the write is denied and logged. -/
theorem State.writeWorld_single {s : State} {h : Nat} (v : Word) (hsingle : s.bind.dualWorld (s.hart h).qid = false) :
    s.writeWorld h v = s.log (Syn.worldWriteDenied.record (hartOrigin h) 0x01 h (s.hart h).qid) := by
  simp [State.writeWorld, hsingle]

theorem State.hart_congr {s t : State} (h : t.harts = s.harts) (k : Nat) : t.hart k = s.hart k := by rw [State.hart, State.hart, h]

section
variable {s : State} {h : Nat} (v : Word) (hready : s.ready h = true) (hm : (s.hart h).mode = .m)
include hready hm

theorem lzworldWrite_quiet (hquiet : (s.hart h).quiet = true) : csrRow s h 0x7C0 v = (s.writeWorld h v).modHart h (fun x => x.retire .csr) :=
  csrRow_custom hready (by decide) (by decide) (.inl hm) (by decide) fun _ => hquiet

theorem exec_lzworldWrite_dual (hquiet : (s.hart h).quiet = true) (hdual : s.bind.dualWorld (s.hart h).qid = true) (hv : v.toNat < 2) :
    ∃ t, exec (.lzworldWrite h v) s = .next t ∧ (t.hart h).secure = flagOf v 0 ∧ s.InHart h t := by
  obtain ⟨hsecure, hin⟩ := State.writeWorld_dual hdual hv
  refine ⟨_, congrArg Host.Outcome.next (lzworldWrite_quiet v hready hm hquiet), ?_, hin.trans (State.modHart_inHart _ h _)⟩
  rw [State.hart_modHart_same, Hart.retire_secure, hsecure]

theorem exec_lzworldWrite_single (hquiet : (s.hart h).quiet = true) (hsingle : s.bind.dualWorld (s.hart h).qid = false) :
    ∃ t, exec (.lzworldWrite h v) s = .next t ∧ (t.hart h).secure = (s.hart h).secure ∧ t.carries Syn.worldWriteDenied = true := by
  refine ⟨_, congrArg Host.Outcome.next (lzworldWrite_quiet v hready hm hquiet), ?_, ?_⟩
  · rw [State.hart_modHart_same, Hart.retire_secure, State.writeWorld_single v hsingle, State.hart_congr (s.log_harts _)]
  · rw [State.writeWorld_single v hsingle]
    exact s.log_carries _ _ rfl

/-- The write waits for the hart's older accesses. -/
theorem exec_lzworldWrite_waits (hbusy : (s.hart h).quiet = false) : exec (.lzworldWrite h v) s = .next s := by
  have hfault := Hart.csrFault_custom (x := s.hart h) (n := 0x7C0) (by decide) (by decide) (.inl hm)
  refine congrArg Host.Outcome.next ((State.instr_of_ready _ hready).trans ?_)
  simp [hfault, State.csrWaits, hbusy]

end

/-! ### Deadline channels (R96, R328, R329) -/

/-- The bit of a channel in the masks of a hart. -/
theorem getLsbD_channelBit {n : Nat} (k : Nat) (hn : n < 4) : (BitVec.ofNat 4 (2 ^ n)).getLsbD k = decide (n = k) := by
  rw [BitVec.getLsbD_ofNat, Nat.testBit_two_pow]
  by_cases hk : n = k
  · subst hk; simp [hn]
  · simp [hk]

theorem getLsbD_setChannel (m : BitVec 4) {n : Nat} (k : Nat) (hn : n < 4) :
    (m ||| BitVec.ofNat 4 (2 ^ n)).getLsbD k = (m.getLsbD k || decide (n = k)) := by
  rw [BitVec.getLsbD_or, getLsbD_channelBit k hn]

theorem getLsbD_clearChannel (m : BitVec 4) {n : Nat} (hn : n < 4) : (m &&& ~~~(BitVec.ofNat 4 (2 ^ n))).getLsbD n = false := by
  rw [BitVec.getLsbD_and, BitVec.getLsbD_not, getLsbD_channelBit n hn]
  simp

theorem exec_lzdlarmWrite_future {s : State} {h n : Nat} {v : Word} (hready : s.ready h = true) (hn : n < 4) (hfuture : s.hartTime h < v.toNat) :
    ∃ t, exec (.lzdlarmWrite h n v) s = .next t ∧ Tab.get (t.hart h).dlTime 0 n = v ∧ (t.hart h).dlArmed.getLsbD n = true
      ∧ (t.hart h).dlMissed.getLsbD n = false ∧ (∀ k, k ≠ n → (t.hart h).dlArmed.getLsbD k = (s.hart h).dlArmed.getLsbD k) := by
  have hcsr : ∀ k < 4, 0x8C0 + k ∈ customCsrs ∧ csrReadOnly (0x8C0 + k) = false ∧ (0x8C0 + k) / 0x100 % 4 = 0 := by decide
  obtain ⟨hmem, hwritable, hlevel⟩ := hcsr n hn
  have hrow := csrRow_custom (v := v) hready hmem hwritable (.inr hlevel) (by omega) (by omega)
  have hwrite : s.customWrite h (0x8C0 + n) v = s.armChannel h n v := by
    obtain rfl | rfl | rfl | rfl : n = 0 ∨ n = 1 ∨ n = 2 ∨ n = 3 := by omega
    all_goals rfl
  have hstep : exec (.lzdlarmWrite h n v) s = .next ((s.armChannel h n v).modHart h (fun x => x.retire .csr)) := by
    rw [← hwrite, ← hrow]
    exact congrArg Host.Outcome.next (if_pos hn)
  have harm : s.armChannel h n v = s.modHart h (fun x => ({ x with
      dlTime := Tab.set x.dlTime n v, dlArmed := x.dlArmed ||| BitVec.ofNat 4 (2 ^ n),
      dlMissed := x.dlMissed &&& ~~~(BitVec.ofNat 4 (2 ^ n)) } : Hart).count 50 1) := if_neg (Nat.not_le.mpr hfuture)
  refine ⟨_, hstep, ?_⟩
  rw [State.hart_modHart_same, harm, State.hart_modHart_same]
  simp only [Hart.retire_dlTime, Hart.retire_dlArmed, Hart.retire_dlMissed, Hart.count_dlTime, Hart.count_dlArmed, Hart.count_dlMissed]
  refine ⟨Tab.get_set_same .., ?_, getLsbD_clearChannel _ hn, fun k hk => ?_⟩
  · simp only [getLsbD_setChannel _ _ hn, decide_true, Bool.or_true]
  · simp only [getLsbD_setChannel _ _ hn, hk.symm, decide_false, Bool.or_false]

@[simp] theorem State.noteSlack_harts (s : State) (h n : Nat) : (s.noteSlack h n).harts = s.harts := rfl

@[simp] theorem State.logCsrReserved_harts (s : State) (h n : Nat) (v : Word) : (s.logCsrReserved h n v).harts = s.harts := s.log_harts _

/-- A write of lzdlctl changes its hart's channels; besides, reserved bits are logged and the slack of finished channels is noted. -/
theorem State.writeDlctl_hart (s : State) (h : Nat) (v : Word) :
    ((s.writeDlctl h v).hart h).dlArmed = (s.hart h).dlArmed &&& ~~~(BitVec.ofNat 4 (fieldOf v 0 4))
      ∧ ((s.writeDlctl h v).hart h).dlMissed = (s.hart h).dlMissed &&& ~~~(BitVec.ofNat 4 (fieldOf v 0 4))
      ∧ ((s.writeDlctl h v).hart h).dlExcEn = BitVec.ofNat 4 (fieldOf v 8 4) := by
  have hslack : ∀ (l : List Nat) (u : State), u.harts = s.harts → (l.foldl (fun s n => s.noteSlack h n) u).hart h = s.hart h := fun l u hu =>
    State.hart_congr ((foldl_frame State.harts (fun s n => s.noteSlack h n) l u fun _ _ => rfl).trans hu) h
  have hlog : (if fieldOf v 4 4 = 0 ∧ v.toNat < 2 ^ 12 then s else s.logCsrReserved h 0x8C8 v).harts = s.harts := by
    split
    · rfl
    · exact s.logCsrReserved_harts ..
  unfold State.writeDlctl
  simp only [State.hart_modHart_same, hslack _ _ hlog]
  split
  · exact ⟨rfl, rfl, rfl⟩
  · simp

theorem exec_lzdlctlWrite_ready {s : State} {h : Nat} (v : Word) (hready : s.ready h = true) :
    ∃ t, exec (.lzdlctlWrite h v) s = .next t
      ∧ (t.hart h).dlArmed = (s.hart h).dlArmed &&& ~~~(BitVec.ofNat 4 (fieldOf v 0 4))
      ∧ (t.hart h).dlMissed = (s.hart h).dlMissed &&& ~~~(BitVec.ofNat 4 (fieldOf v 0 4))
      ∧ (t.hart h).dlExcEn = BitVec.ofNat 4 (fieldOf v 8 4) := by
  have hrow := csrRow_custom (v := v) hready (n := 0x8C8) (by decide) (by decide) (.inr (by decide)) (by decide)
    fun hworld => absurd hworld (by decide)
  refine ⟨_, congrArg Host.Outcome.next hrow, ?_⟩
  rw [State.hart_modHart_same, Hart.retire_dlArmed, Hart.retire_dlMissed, Hart.retire_dlExcEn]
  exact s.writeDlctl_hart h v

@[simp] theorem State.pacedMsi_harts (s : State) (src hart file id : Nat) (b : Bool) : (s.pacedMsi src hart file id b).harts = s.harts := by
  unfold State.pacedMsi
  dsimp only
  (repeat' split) <;> rfl

@[simp] theorem State.pacedMsi_low (s : State) (src hart file id : Nat) (b : Bool) : (s.pacedMsi src hart file id b).err.low = s.err.low := by
  unfold State.pacedMsi
  dsimp only
  (repeat' split) <;> rfl

/-- A deadline miss of a Quire is a record and a count; the harts stay (R328). -/
@[simp] theorem State.deadlineMissOf_harts (s : State) (q : Nat) (r : ErrRec) : (s.deadlineMissOf q r).harts = s.harts := by
  unfold State.deadlineMissOf
  dsimp only
  split
  · split
    · rw [State.pacedMsi_harts]
      exact s.log_harts r
    · exact s.log_harts r
  · exact s.log_harts r

@[simp] theorem State.deadlineMissOf_low (s : State) (q : Nat) (r : ErrRec) : (s.deadlineMissOf q r).err.low = (s.log r).err.low := by
  unfold State.deadlineMissOf
  dsimp only
  split
  · split
    · rw [State.pacedMsi_low]
      rfl
    · rfl
  · rfl

theorem Hart.noteWake_frame {α : Type} (x : Hart) (g : Hart → α) (hg : ∀ y b, g { y with wakeHeld := b } = g y) : g x.noteWake = g x := by
  unfold Hart.noteWake
  split
  · exact hg _ _
  · rfl

/-- What a miss of a channel leaves in its hart (R96). -/
structure Hart.MissedOn (x y : Hart) (n : Nat) (take : Bool) : Prop where
  missed : y.dlMissed.getLsbD n = true
  armed : y.dlArmed.getLsbD n = false
  take : take = true → y.dlTake.getLsbD n = true

/-- A miss: MISSED set, ARMED cleared, the record on its way, and exception 24 due where it is enabled (R96, R328 to R330). -/
theorem State.channelMiss_missed (s : State) {h n : Nat} (hn : n < 4) :
    (s.hart h).MissedOn ((s.channelMiss h n).hart h) n ((s.hart h).dlExcEn.getLsbD n && s.excOnMiss h)
      ∧ (s.channelMiss h n).carries Syn.dlMiss = true := by
  unfold State.channelMiss State.channelMissAs
  refine ⟨?_, ?_⟩
  · rw [State.hart_congr (State.deadlineMissOf_harts ..), State.hart_modHart_same]
    refine ⟨?_, ?_, fun htake => ?_⟩
    · simp only [Hart.count_dlMissed, getLsbD_setChannel _ _ hn, decide_true, Bool.or_true]
    · simp only [Hart.count_dlArmed, getLsbD_clearChannel _ hn]
    · simp only [Hart.count_dlTake, htake, if_true, getLsbD_setChannel _ _ hn, decide_true, Bool.or_true]
  · rw [State.carries_iff, State.deadlineMissOf_low, ← State.carries_iff]
    exact State.log_carries _ _ _ rfl

theorem exec_deadlineMiss_due {s : State} {h n : Nat} (hn : n < 4) (harmed : (s.hart h).dlArmed.getLsbD n = true)
    (hdue : (Tab.get (s.hart h).dlTime 0 n).toNat ≤ s.hartTime h) (hrun : (s.hart h).run ≠ .fenced) :
    ∃ t, exec (.deadlineMiss h n) s = .next t ∧ (s.hart h).MissedOn (t.hart h) n ((s.hart h).dlExcEn.getLsbD n && s.excOnMiss h)
      ∧ t.carries Syn.dlMiss = true := by
  obtain ⟨⟨hmissed, hclear, htake⟩, hlogged⟩ := s.channelMiss_missed (h := h) hn
  refine ⟨_, congrArg Host.Outcome.next (if_pos ⟨hn, harmed, hdue, hrun⟩), ?_, hlogged⟩
  rw [State.hart_modHart_same]
  refine ⟨?_, ?_, ?_⟩
  · rwa [Hart.noteWake_frame _ Hart.dlMissed fun _ _ => rfl]
  · rwa [Hart.noteWake_frame _ Hart.dlArmed fun _ _ => rfl]
  · rwa [Hart.noteWake_frame _ Hart.dlTake fun _ _ => rfl]

/-! ### C-states (R384, R385) -/

/-- WFI in M-mode starts the entry into the C-state that CIDLE.DEPTH names. -/
theorem exec_wfi_enters {s : State} {h : Nat} (hready : s.ready h = true) (hm : (s.hart h).mode = .m) :
    ∃ t, exec (.wfi h) s = .next t ∧ (t.hart h).entering = some (depthState (s.hart h).cidle) ∧ (t.hart h).cstate = .c0
      ∧ (t.hart h).x = (s.hart h).x := by
  have hawake : (s.hart h).cstate = .c0 := by
    simp only [State.ready, State.hartLive, Bool.and_eq_true, decide_eq_true_eq] at hready
    obtain ⟨⟨⟨⟨⟨-, hc0⟩, -⟩, -⟩, -⟩, -⟩ := hready
    exact hc0
  have hfree : (s.hart h).wfiFault = none := if_pos hm
  refine ⟨_, congrArg Host.Outcome.next (State.instr_of_ready _ hready), ?_⟩
  simp only [hfree, State.hart_modHart_same]
  simp [hawake]

/-- With no write-back buffer newly in use a hart's new state is all that changes. -/
theorem State.putHart_of_wbs {s : State} {h : Nat} {x : Hart} (hwbs : x.wbs = (s.hart h).wbs) : s.putHart h x = s.setHart h x := by
  have hnew : (x.wbs.take 8).filter (fun w => !((s.hart h).wbs.take 8).any (fun o => o.tag == w.tag)) = [] := by
    rw [List.filter_eq_nil_iff, hwbs]
    intro w hw hnew
    simp only [Bool.not_eq_true', List.any_eq_false] at hnew
    exact hnew w hw (by simp)
  unfold State.putHart
  simp only [hnew, List.foldl_nil]

/-- The interrupts of a hart hang on its CSRs, its interrupt files and its world (R83, R362). -/
theorem State.mip_setHart {s : State} {h : Nat} {x : Hart} (hcsr : x.csr = (s.hart h).csr) (heip : x.eip = (s.hart h).eip)
    (heie : x.eie = (s.hart h).eie) (hsecure : x.secure = (s.hart h).secure) : (s.setHart h x).mip h = s.mip h := by
  simp only [State.mip, State.hgeip, State.seesId, Hart.topEi, Hart.eiOn, Hart.getCsr, State.hart_setHart_same, hcsr, heip, heie, hsecure]
  rfl

/-- The entry into C1 completes, and no wake is due (R384). -/
theorem exec_cStateEntryComplete_c1 {s : State} {h : Nat} (henter : (s.hart h).entering = some .c1) (hwake : s.wakeDue h = false) :
    ∃ t, exec (.cStateEntryComplete h) s = .next t ∧ (t.hart h).cstate = .c1 ∧ (t.hart h).entering = none ∧ (t.hart h).l1d = (s.hart h).l1d
      ∧ (t.hart h).x = (s.hart h).x := by
  obtain ⟨x, hx⟩ : ∃ x : Hart, x = { s.hart h with entering := none, cstate := .c1, cSince := s.time.now } := ⟨_, rfl⟩
  have hput : s.putHart h x = s.setHart h x := State.putHart_of_wbs (by rw [hx])
  have hstill : (s.setHart h x).wakeDue h = false := by
    rw [State.wakeDue, State.mip_setHart (by rw [hx]) (by rw [hx]) (by rw [hx]) (by rw [hx]), State.hart_setHart_same, hx]
    exact hwake
  have hstep : cStateEntryComplete s h = s.setHart h x := by
    unfold cStateEntryComplete
    simp only [henter, ← hx, hput, hstill]
    rfl
  refine ⟨_, congrArg Host.Outcome.next hstep, ?_⟩
  rw [State.hart_setHart_same, hx]
  exact ⟨rfl, rfl, rfl, rfl⟩

/-- A change of a cluster's level counts in its harts and leaves them otherwise (R404). -/
theorem State.putCluster_hart {α : Type} (g : Hart → α) (hg : ∀ y : Hart, g (y.count 61 1) = g y) (s : State) (c : Nat) (x : Cluster) (k : Nat) :
    g ((s.putCluster c x).hart k) = g (s.hart k) := by
  unfold State.putCluster
  dsimp only
  split
  · rfl
  · refine (foldl_frame (fun s : State => g (s.hart k)) _ _ _ fun u j => ?_).trans rfl
    split
    · by_cases hj : j = k
      · subst hj
        rw [State.hart_modHart_same, hg]
      · rw [State.hart_modHart_other _ _ hj]
    · rfl

theorem State.dropP0_hart {α : Type} (g : Hart → α) (hg : ∀ y : Hart, g (y.count 61 1) = g y) (s : State) (k : Nat) :
    g (s.dropP0.hart k) = g (s.hart k) := by
  unfold State.dropP0
  refine foldl_frame (fun s : State => g (s.hart k)) _ _ _ fun u e => ?_
  split
  · rfl
  · exact State.putCluster_hart g hg u ..

/-- A core that wakes is in C0, holds no wake, and keeps its registers (R385). -/
theorem State.wakeCore_hart (s : State) (h : Nat) :
    ((s.wakeCore h).hart h).cstate = .c0 ∧ ((s.wakeCore h).hart h).wakeHeld = false ∧ ((s.wakeCore h).hart h).x = (s.hart h).x := by
  unfold State.wakeCore
  rw [State.dropP0_hart Hart.cstate (by simp), State.dropP0_hart Hart.wakeHeld (by simp), State.dropP0_hart Hart.x (by simp),
    State.hart_modHart_same]
  dsimp only
  split <;> simp

/-- A held wake brings a sleeping core back to C0 (R385). -/
theorem exec_coreWake_held {s : State} {h : Nat} (hheld : (s.hart h).wakeHeld = true) (hentered : (s.hart h).entering = none)
    (hsleeps : (s.hart h).cstate ≠ .c0) (hpk : s.pwr.pk = 0) (hstays : s.pwr.pkEntering = none) :
    ∃ t, exec (.coreWake h .mailbox) s = .next t ∧ (t.hart h).cstate = .c0 ∧ (t.hart h).wakeHeld = false ∧ (t.hart h).x = (s.hart h).x := by
  have hstep : coreWake s h .mailbox = s.wakeCore h := by simp [coreWake, hheld, hentered, hsleeps, hpk, hstays]
  exact ⟨_, congrArg Host.Outcome.next hstep, s.wakeCore_hart h⟩

/-- Settles O15: worlds, deadline channels, C-states. -/
theorem worldsDeadlinesSleep : Obligations.Worlds_deadlines_sleep := by
  unfold Obligations.Worlds_deadlines_sleep
  refine ⟨⟨fun s h v hready hm hquiet hdual hv => ?_, fun s h v => exec_lzworldWrite_single v, fun s h v => exec_lzworldWrite_waits v⟩,
    ⟨fun s h n v => exec_lzdlarmWrite_future, fun s h v => exec_lzdlctlWrite_ready v, fun s h n hn harmed hdue hrun => ?_⟩,
    fun s h => exec_wfi_enters, fun s h => exec_cStateEntryComplete_c1, fun s h => exec_coreWake_held⟩
  · obtain ⟨t, hexec, hsecure, hin⟩ := exec_lzworldWrite_dual v hready hm hquiet hdual hv
    exact ⟨t, hexec, hsecure, hin.other, hin.parts⟩
  · obtain ⟨t, hexec, ⟨hmissed, hclear, htake⟩, hlogged⟩ := exec_deadlineMiss_due hn harmed hdue hrun
    exact ⟨t, hexec, hmissed, hclear, hlogged, fun hexc hpolicy => htake (by rw [hexc, hpolicy]; rfl)⟩

end Sys2Proof.Machine
end

section
/-! PROOFS. Lookups, requests and stores of a core's data caches (R142, R159, R173, R175), for the statements on accesses and mailboxes. -/

namespace Sys2Proof.Machine

/-! ### Lines held (R142, R144, R175) -/

theorem findLine_some {t : Tab CLine} {l k : Nat} {c : CLine} (h : findLine t l = some (k, c)) : c.line = l ∧ c.st.valid = true := by
  have := List.find?_some h
  simpa using this

theorem Mesi.rank_le_max_left (a b : Mesi) : a.rank ≤ (a.max b).rank := by
  unfold Mesi.max
  split <;> omega

/-- A holder's state of a line is at least that of its L1D copy. -/
theorem Hart.rank_le_lineSt {x : Hart} {l k : Nat} {c : CLine} (h : findLine x.l1d l = some (k, c)) : c.st.rank ≤ (x.lineSt l).rank := by
  unfold Hart.lineSt
  simp only [h, Option.map_some, Option.getD_some]
  exact ((Mesi.rank_le_max_left _ _).trans (Mesi.rank_le_max_left _ _)).trans (Mesi.rank_le_max_left _ _)

/-- A core that holds a valid copy of a line in its L1D holds the line. -/
theorem Hart.lineSt_ne_i {x : Hart} {l k : Nat} {c : CLine} (h : findLine x.l1d l = some (k, c)) : x.lineSt l ≠ .i := by
  obtain ⟨-, hvalid⟩ := findLine_some h
  have hrank := Hart.rank_le_lineSt h
  intro hi
  rw [hi] at hrank
  revert hvalid hrank
  cases c.st <;> decide

/-- A core whose L1D copy of a line is in M or E owns the line. -/
theorem Hart.lineSt_owned {x : Hart} {l k : Nat} {c : CLine} (h : findLine x.l1d l = some (k, c)) (hown : c.st = .m ∨ c.st = .e) :
    x.lineSt l = .m ∨ x.lineSt l = .e := by
  have hrank := Hart.rank_le_lineSt h
  rcases hown with hown | hown <;> rw [hown] at hrank <;> revert hrank <;> cases x.lineSt l <;> decide

theorem Hart.lineCopy_l1d {x : Hart} {l k : Nat} {c : CLine} (h : findLine x.l1d l = some (k, c)) : x.lineCopy l = some c := by
  simp [Hart.lineCopy, h]

/-- A change of the copies of a line that keeps them valid copies of it changes the copy that is found. -/
theorem findLine_mapLine {t : Tab CLine} {l k : Nat} {c : CLine} {f : CLine → CLine} (hf : ∀ c, (f c).line = c.line ∧ (f c).st.valid = true)
    (h : findLine t l = some (k, c)) : findLine (mapLine t l f) l = some (k, f c) := by
  have hsame : (fun e : Nat × CLine => (fun e => e.2.line == l && e.2.st.valid) (if e.2.line == l && e.2.st.valid then (e.1, f e.2) else e))
      = fun e => e.2.line == l && e.2.st.valid := by
    funext e
    obtain ⟨hline, hvalid⟩ := hf e.2
    split <;> simp_all
  obtain ⟨hline, hvalid⟩ := findLine_some h
  unfold findLine mapLine at *
  rw [List.find?_map, Function.comp_def, hsame, h]
  simp [hline, hvalid]

/-- The line is found where the L1D's set for the address holds it: nothing is moved. -/
theorem Hart.recall_held {x : Hart} {l k va : Nat} {c : CLine} (b : Binding) (core now : Nat) (spec : Bool) (h : findLine x.l1d l = some (k, c))
    (hset : k / 8 = l1dSet va) : x.recall b core now va l spec = x := by
  simp [Hart.recall, h, hset]

theorem State.recallLine_held {s : State} {h l k : Nat} {va : Word} {c : CLine} (spec : Bool) (hfind : findLine (s.hart h).l1d l = some (k, c))
    (hset : k / 8 = l1dSet va.toNat) : s.recallLine h va l spec = s.setHart h (s.hart h) := by
  rw [State.recallLine, Hart.recall_held _ _ _ _ hfind hset]
  exact State.putHart_of_wbs rfl

/-- Counting a lookup counts events only. -/
theorem Hart.noteData_frame {α : Type} (x : Hart) (g : Hart → α) (hg : ∀ (y : Hart) n, g (y.count n 1) = g y) (l : Nat) : g (x.noteData l) = g x := by
  unfold Hart.noteData
  dsimp only
  (repeat' split) <;> simp only [hg]

@[simp] theorem Hart.noteData_x (x : Hart) (l : Nat) : (x.noteData l).x = x.x := x.noteData_frame Hart.x (by simp) l
@[simp] theorem Hart.noteData_l1d (x : Hart) (l : Nat) : (x.noteData l).l1d = x.l1d := x.noteData_frame Hart.l1d (by simp) l
@[simp] theorem Hart.noteData_wbs (x : Hart) (l : Nat) : (x.noteData l).wbs = x.wbs := x.noteData_frame Hart.wbs (by simp) l
@[simp] theorem Hart.noteData_misses (x : Hart) (l : Nat) : (x.noteData l).misses = x.misses := x.noteData_frame Hart.misses (by simp) l
@[simp] theorem Hart.noteData_paired (x : Hart) (l : Nat) : (x.noteData l).paired = x.paired := x.noteData_frame Hart.paired (by simp) l

theorem Hart.count_lineSt (x : Hart) (n k l : Nat) : (x.count n k).lineSt l = x.lineSt l :=
  x.count_frame (fun y => y.lineSt l) (fun _ _ _ _ => rfl) n k

@[simp] theorem Hart.noteData_lineSt (x : Hart) (l m : Nat) : (x.noteData l).lineSt m = x.lineSt m :=
  x.noteData_frame (fun y => y.lineSt m) (fun y n => y.count_lineSt n 1 m) l

/-! ### Requests (R159, R173, R175) -/

/-- What a request leaves: it is on its way, with a miss register that serves its accesses, and no register of the hart changes. -/
structure State.Requested (s : State) (h : Nat) (opc : Opc) (st : MissSt) (dst l : Nat) (ws : List Waiter) (t : State) : Prop where
  sent : t.inFlight opc dst l
  miss : ∃ m ∈ (t.hart h).misses, m.line = l ∧ m.st = st ∧ m.waiters = ws
  x : (t.hart h).x = (s.hart h).x
  parts : s.changesOnly [.harts, .net, .fabric] t

theorem State.changesOnly_harts_net_fabric (s : State) (hs : Tab Hart) (n : Net) (f : Fabric) :
    s.changesOnly [.harts, .net, .fabric] { s with harts := hs, net := n, fabric := f } := by
  intro p hp
  cases p with
  | harts | net | fabric => simp at hp
  | _ => rfl

theorem State.countStream_only (s : State) (n : Option Nat) : ∃ f, s.countStream n = { s with fabric := f } := by
  cases n <;> exact ⟨_, rfl⟩

theorem State.countDemoted_only (s : State) (n : Option Nat) : ∃ f, s.countDemoted n = { s with fabric := f } := by
  cases n <;> exact ⟨_, rfl⟩

/-- A hart with one more miss register, and a message sent: what every request comes to. -/
theorem State.requested_of {s : State} {h : Nat} {opc : Opc} {st : MissSt} {dst l : Nat} {ws : List Waiter} {y : Hart} {msg : CohMsg}
    (stream demoted : Option Nat) (hmiss : ∃ m, y.misses = (s.hart h).misses ++ [m] ∧ m.line = l ∧ m.st = st ∧ m.waiters = ws)
    (hx : y.x = (s.hart h).x) (hmsg : msg.opc = opc ∧ msg.dst = dst ∧ msg.addr = l) :
    s.Requested h opc st dst l ws ((((s.setHart h y).countStream stream).countDemoted demoted).sendCoh msg) := by
  obtain ⟨m, hmisses, hm⟩ := hmiss
  obtain ⟨f, hf⟩ := (s.setHart h y).countStream_only stream
  obtain ⟨g, hg⟩ := ((s.setHart h y).countStream stream).countDemoted_only demoted
  rw [hg, hf]
  have hhart : (State.sendCoh { s.setHart h y with fabric := g } msg).hart h = y := s.hart_setHart_same h y
  refine ⟨⟨msg, ?_, hmsg⟩, ⟨m, ?_, hm⟩, ?_, s.changesOnly_harts_net_fabric _ _ _⟩
  · rw [State.sendCoh_coh]
    exact List.mem_append_right _ (List.mem_singleton_self _)
  · rw [hhart, hmisses]
    exact List.mem_append_right _ (List.mem_singleton_self _)
  · rw [hhart, hx]

/-- A count made under a condition changes only counters. -/
theorem Hart.countIf_frame {α : Type} (x : Hart) (g : Hart → α) (hg : ∀ (y : Hart) n, g (y.count n 1) = g y) (c : Bool) (n : Nat) :
    g (if c then x.count n 1 else x) = g x := by
  cases c
  · rfl
  · exact hg x n

theorem State.request_requested (s : State) (h : Nat) (opc : Opc) (st : MissSt) (dst l misc : Nat) (spec fetch : Bool) (data : Line)
    (ws : List Waiter) : s.Requested h opc st dst l ws (s.request h opc st dst l misc spec fetch data ws) := by
  unfold State.request
  apply State.requested_of
  case hmiss => exact ⟨_, Hart.countIf_frame _ Hart.misses (by simp) _ _, rfl, rfl, rfl⟩
  case hx => exact Hart.countIf_frame _ Hart.x (by simp) _ _
  case hmsg => exact ⟨rfl, rfl, rfl⟩

/-- Nothing keeps a request for a line from leaving, whichever of the requests that may travel on a stream it is. -/
theorem State.missWaits_unhindered {s : State} {h l : Nat} {opc : Opc} (hfree : s.unhindered h l) (hstream : onStream opc false = true) :
    s.missWaits h l opc false false = false := by
  obtain ⟨hmisses, hwbs, -, hheld⟩ := hfree
  have hheld' : s.streamHeld h opc (s.homeNode l) false = false := by
    have hrds : onStream .rds false = true := rfl
    simp only [State.streamHeld, hrds] at hheld
    simp only [State.streamHeld, hstream]
    exact hheld
  simp [State.missWaits, Hart.ncBusy, Hart.missOf, Hart.missRoom, Hart.lineMisses, hmisses, hwbs, hheld']

theorem State.missFor_unhindered {s : State} {h l : Nat} {opc : Opc} (st : MissSt) (w : Waiter) (hfree : s.unhindered h l)
    (hstream : onStream opc false = true) :
    s.missFor h l opc st false false w = s.request h opc st (s.homeNode l) l 0 false false 0 [w] := by
  have hmiss : (s.hart h).missOf l = none := by simp [Hart.missOf, hfree.1]
  simp [State.missFor, State.missWaits_unhindered hfree hstream, hmiss]

theorem State.follow_congr {s t : State} (h : t.slices = s.slices) (fuel n : Nat) : t.follow fuel n = s.follow fuel n := by
  induction fuel generalizing n with
  | zero => rfl
  | succ f ih =>
    have hslice : t.slice n = s.slice n := by rw [State.slice, State.slice, h]
    simp only [State.follow, hslice, ih]

/-- The home of a line does not hang on the harts. -/
theorem State.homeNode_setHart (s : State) (h : Nat) (x : Hart) (l : Nat) : (s.setHart h x).homeNode l = s.homeNode l :=
  congrArg sliceNode (State.follow_congr rfl 48 _)

/-- Counting a lookup keeps nothing back. -/
theorem State.unhindered_noteData {s : State} {h l : Nat} (m : Nat) (hfree : s.unhindered h l) :
    (s.modHart h (fun x => x.noteData m)).unhindered h l := by
  obtain ⟨hmisses, hwbs, hpaired, hheld⟩ := hfree
  have hstream : ∀ n, (s.modHart h (fun x => x.noteData m)).freeStream h n = s.freeStream h n := fun n => by
    simp only [State.freeStream, State.hart_modHart_same, Hart.noteData_misses]
    rfl
  refine ⟨?_, ?_, ?_, ?_⟩
  · simpa using hmisses
  · simpa using hwbs
  · simpa using hpaired
  · have hnode : (s.modHart h (fun x => x.noteData m)).homeNode l = s.homeNode l := s.homeNode_setHart h _ l
    rw [hnode]
    simp only [State.streamHeld, hstream] at hheld ⊢
    exact hheld

end Sys2Proof.Machine
end

section
/-! PROOFS. Loads and stores of ordinary memory (R98, R101, R142, R175, R187): a hit in the L1D, and a miss that asks the line's home. -/

namespace Sys2Proof.Machine

theorem State.changesOnly.mono {ps qs : List Piece} {s t : State} (h : s.changesOnly ps t) (hsub : ps ⊆ qs) : s.changesOnly qs t :=
  fun p hp => h p (fun hmem => hp (hsub hmem))

/-! ### An access that meets no upset (R165) -/

theorem State.locateWith_none (s : State) (h : Nat) (k : AccKind) (va : Word) (n : Nat) (spec : Bool) :
    s.locateWith h k va n spec .none = s.locate h k va n spec := by
  have hnone : s.tlbUpset h k va .none = (s, false) := ite_self _
  simp [State.locateWith, hnone]

theorem State.cacheUpset_none (s : State) (h l : Nat) (fetch : Bool) : s.cacheUpset h l fetch .none = (s, true) := rfl

theorem State.watched_of_none {s : State} {h : Nat} {k : TrigKind} {va : Word} {n : Nat} {data : Option Nat} (f : State → State)
    (htrig : s.trigFor h k va.toNat n data = none) : s.watched h k va n data f = f s := by
  simp [State.watched, htrig]

theorem poisonAt_of_zero {p : Poison} (a n : Nat) (hp : p = 0) : poisonAt p a n = false := by
  simp [poisonAt, hp]

/-- A lookup that finds its line in the L1D counts events at its hart, and moves no copy. -/
theorem State.lookup_held {s : State} {h l k : Nat} {va : Word} {c : CLine} (spec : Bool) (hfind : findLine (s.hart h).l1d l = some (k, c))
    (hset : k / 8 = l1dSet va.toNat) :
    s.InHart h ((s.modHart h (fun x => x.noteData l)).recallLine h va l spec)
      ∧ ((s.modHart h (fun x => x.noteData l)).recallLine h va l spec).hart h = (s.hart h).noteData l := by
  have hfind' : findLine ((s.modHart h (fun x => x.noteData l)).hart h).l1d l = some (k, c) := by simpa using hfind
  rw [State.recallLine_held spec hfind' hset]
  exact ⟨(s.modHart_inHart h _).trans (State.setHart_inHart _ h _), by simp⟩

/-! ### Loads -/

theorem Hart.getX_setX_other {j k : Nat} (x : Hart) (v : Word) (hk : k ≠ j) : (x.setX j v).getX k = x.getX k := by
  rw [Hart.getX_setX]
  by_cases h0 : k = 0
  · simp [Hart.getX, h0]
  · simp [h0, hk.symm]

/-- A retiring load that no trigger watches reaches the caches with the place it is translated to. -/
theorem State.exec_load_cached {s u : State} {h pa : Nat} {o : LoadOp} (hready : s.ready h = true) (hsize : o.size ≤ 3) (hspec : o.spec = false)
    (hfetch : o.fetch = false) (hline : inLine o.va (2 ^ o.size) = true) (htrig : s.trigFor h .load o.va.toNat (2 ^ o.size) none = none)
    (hmisses : (s.hart h).misses = []) (hlocate : s.locate h .load o.va (2 ^ o.size) false = .inr (u, pa, .ordinary)) :
    exec (.load h o .none) s = .next (u.cachedLoad h o pa .none) := by
  have haccess : loadAccess s h o .none = u.cachedLoad h o pa .none := by
    simp [loadAccess, loadKind, hspec, hfetch, hsize, hline, hmisses, State.locateWith_none, hlocate]
  change execLoad h o .none s = _
  simp [execLoad, hspec, hfetch, State.instr_of_ready _ hready, State.watched_of_none _ htrig, haccess]

/-- A load whose line the L1D holds writes its register. -/
theorem State.cachedLoad_hit {u : State} {h k pa : Nat} {o : LoadOp} {c : CLine} (hspec : o.spec = false) (hfetch : o.fetch = false)
    (hbusy : (u.hart h).ncBusy (pa / 64) = false) (hfind : findLine (u.hart h).l1d (pa / 64) = some (k, c))
    (hset : k / 8 = l1dSet o.va.toNat) (hpoison : c.poison = 0) :
    u.InHart h (u.cachedLoad h o pa .none) ∧ (u.cachedLoad h o pa .none).hart h
      = (((u.hart h).noteData (pa / 64)).confirm (pa / 64)).setX o.rd (extendTo64 o.size (copyGet c pa (2 ^ o.size)) o.signed) := by
  obtain ⟨hin, hhart⟩ := State.lookup_held false hfind hset
  have hcopy : ((u.hart h).noteData (pa / 64)).lineCopy (pa / 64) = some c := Hart.lineCopy_l1d (by simpa using hfind)
  simp only [State.cachedLoad, State.cacheUpset_none, hbusy, Hart.lineSt_ne_i hfind, hspec, hfetch, State.perform, hhart, hcopy,
    poisonAt_of_zero _ _ hpoison, Bool.not_true, Bool.or_self, Bool.false_eq_true, if_false]
  exact ⟨hin.trans (State.setHart_inHart _ h _), State.hart_setHart_same _ h _⟩

/-- What a request leaves is the same whether or not the hart counted its lookup before. -/
theorem State.Requested.of_noteData {u t : State} {h : Nat} {opc : Opc} {st : MissSt} {dst l m : Nat} {ws : List Waiter}
    (hreq : (u.modHart h (fun x => x.noteData m)).Requested h opc st dst l ws t) : u.Requested h opc st dst l ws t := by
  obtain ⟨hsent, hmiss, hx, hparts⟩ := hreq
  exact ⟨hsent, hmiss, by simpa using hx, State.changesOnly_trans ((u.modHart_inHart h _).parts.mono (by simp)) hparts⟩

/-- A core that misses, and that nothing keeps back, asks the line's home once it has counted the lookup. -/
theorem State.missFor_requested {u : State} {h l : Nat} {opc : Opc} (st : MissSt) (w : Waiter) (hfree : u.unhindered h l)
    (hstream : onStream opc false = true) :
    u.Requested h opc st (u.homeNode l) l [w] ((u.modHart h (fun x => x.noteData l)).missFor h l opc st false false w) := by
  have hnode : (u.modHart h (fun x => x.noteData l)).homeNode l = u.homeNode l := u.homeNode_setHart h _ l
  rw [State.missFor_unhindered st w (State.unhindered_noteData l hfree) hstream, hnode]
  exact State.Requested.of_noteData (State.request_requested ..)

/-- A load whose line the core does not hold asks the line's home for it. -/
theorem State.cachedLoad_miss {u : State} {h pa : Nat} {o : LoadOp} (hspec : o.spec = false) (hfetch : o.fetch = false)
    (hi : (u.hart h).lineSt (pa / 64) = .i) (hfree : u.unhindered h (pa / 64)) :
    u.Requested h .rds .isD (u.homeNode (pa / 64)) (pa / 64) [.load o pa] (u.cachedLoad h o pa .none) := by
  have hbusy : (u.hart h).ncBusy (pa / 64) = false := by simp [Hart.ncBusy, hfree.1]
  have hmiss : u.cachedLoad h o pa .none
      = (u.modHart h (fun x => x.noteData (pa / 64))).missFor h (pa / 64) .rds .isD false false (.load o pa) := by
    simp [State.cachedLoad, State.cacheUpset_none, hbusy, hi, hspec, hfetch]
  rw [hmiss]
  exact State.missFor_requested .isD (.load o pa) hfree rfl

/-! ### Stores -/

/-- A retiring store of a hart outside a pair that no trigger watches reaches the caches with the place it is translated to. -/
theorem State.exec_retiringStore_owning {s u : State} {h pa size : Nat} {va data : Word} (hready : s.ready h = true) (hsize : size ≤ 3)
    (hline : inLine va (2 ^ size) = true)
    (htrig : s.trigFor h .store va.toNat (2 ^ size) (some (data.toNat % 2 ^ (8 * 2 ^ size))) = none)
    (hlocate : s.locate h .store va (2 ^ size) false = .inr (u, pa, .ordinary)) (hpaired : (u.hart h).paired = false) :
    exec (.retiringStore h ⟨va, .none⟩ size data) s = .next (u.ownAccess h va (pa / 64) (.store va pa size data)) := by
  have haccess : storeAccess s h va size data .none = u.ownAccess h va (pa / 64) (.store va pa size data) := by
    simp [storeAccess, hsize, hline, State.locateWith_none, hlocate, hpaired, State.ownWith, State.cacheUpset_none]
  change execRetiringStore h ⟨va, .none⟩ size data s = _
  simp [execRetiringStore, State.instr_of_ready _ hready, State.watched_of_none _ htrig, haccess]

/-- Nothing keeps an access back from a line that its core owns and that no NC request is about. -/
theorem State.ownWaits_owned {u : State} {h l k : Nat} {c : CLine} (hbusy : (u.hart h).ncBusy l = false)
    (hfind : findLine (u.hart h).l1d l = some (k, c)) (hown : c.st = .m ∨ c.st = .e) : u.ownWaits h l = false := by
  rcases Hart.lineSt_owned hfind hown with hst | hst <;> simp [State.ownWaits, hst, hbusy]

/-- An access to a line that the L1D holds in M or E is performed. -/
theorem State.ownAccess_owned {u : State} {h l k : Nat} {va : Word} {w : Waiter} {c : CLine} (hbusy : (u.hart h).ncBusy l = false)
    (hfind : findLine (u.hart h).l1d l = some (k, c)) (hown : c.st = .m ∨ c.st = .e) :
    u.ownAccess h va l w = ((u.modHart h (fun x => x.noteData l)).recallLine h va l false).perform h w := by
  rcases Hart.lineSt_owned hfind hown with hst | hst <;> simp [State.ownAccess, State.ownWaits_owned hbusy hfind hown, hst]

/-- What a write that changes a held copy by `f` leaves of it. -/
def writtenCopy (f : CLine → CLine) (c : CLine) : CLine := { f c with st := .m, unconf := false }

/-- A core outside a pair that writes to a line its L1D holds changes its copy there, and nothing else. -/
theorem State.putHart_writeHeld {s : State} {h k l : Nat} {c : CLine} {f : CLine → CLine} (b : Binding) (core now : Nat)
    (hpaired : (s.hart h).paired = false) (hfind : findLine (s.hart h).l1d l = some (k, c)) (hline : ∀ d, (f d).line = d.line) :
    ∃ t, s.putHart h ((s.hart h).writeHeld b core now l f) = t ∧ s.InHart h t ∧ (∃ ls, t.hart h = { s.hart h with l1d := ls })
      ∧ findLine (t.hart h).l1d l = some (k, writtenCopy f c) := by
  have hwrite : (s.hart h).writeHeld b core now l f = { s.hart h with l1d := mapLine (s.hart h).l1d l (writtenCopy f) } := by
    unfold Hart.writeHeld
    exact if_pos (by simp [hpaired])
  rw [hwrite]
  refine ⟨_, State.putHart_of_wbs rfl, State.setHart_inHart .., ⟨_, State.hart_setHart_same ..⟩, ?_⟩
  rw [State.hart_setHart_same]
  exact findLine_mapLine (fun d => ⟨hline d, rfl⟩) hfind

/-- A store performed on a line that the L1D holds changes its copy there, and nothing outside the hart. -/
theorem State.ownAccess_store {u : State} {h k pa size : Nat} {va data : Word} {c : CLine} (hpaired : (u.hart h).paired = false)
    (hbusy : (u.hart h).ncBusy (pa / 64) = false) (hfind : findLine (u.hart h).l1d (pa / 64) = some (k, c)) (hset : k / 8 = l1dSet va.toNat)
    (hown : c.st = .m ∨ c.st = .e) :
    ∃ t, u.ownAccess h va (pa / 64) (.store va pa size data) = t ∧ u.InHart h t ∧ (t.hart h).x = (u.hart h).x
      ∧ ∃ d, findLine (t.hart h).l1d (pa / 64) = some (k, d) ∧ d.st = .m ∧ d.data = lineSet c.data (pa % 64) (2 ^ size) data.toNat := by
  obtain ⟨hin, hhart⟩ := State.lookup_held false hfind hset
  rw [State.ownAccess_owned hbusy hfind hown]
  generalize (u.modHart h (fun x => x.noteData (pa / 64))).recallLine h va (pa / 64) false = r at hin hhart
  obtain ⟨t, hput, hwrite, ⟨ls, hls⟩, hcopy⟩ := State.putHart_writeHeld (s := r) (h := h)
    (f := fun c => { c with data := lineSet c.data (pa % 64) (2 ^ size) data.toNat, poison := poisonAfter c.poison pa (2 ^ size) })
    r.bind (hartCore h) r.time.now (by simpa [hhart] using hpaired) (by simpa [hhart] using hfind) (fun _ => rfl)
  exact ⟨t, hput, hin.trans hwrite, by rw [hls, hhart, Hart.noteData_x], _, hcopy, rfl, rfl⟩

/-- A store to a line that its core does not own asks the line's home: for the line, or for ownership of the copy that it holds. -/
theorem State.ownAccess_miss {u : State} {h l : Nat} {va : Word} (w : Waiter) (hst : (u.hart h).lineSt l = .i ∨ (u.hart h).lineSt l = .s)
    (hfree : u.unhindered h l) :
    u.Requested h (if (u.hart h).lineSt l = .s then .upg else .rdu) (if (u.hart h).lineSt l = .s then .smA else .imD) (u.homeNode l) l [w]
      (u.ownAccess h va l w) := by
  rcases hst with hst | hst
  · have hfor : u.ownAccess h va l w = (u.modHart h (fun x => x.noteData l)).missFor h l .rdu .imD false false w := by
      simp [State.ownAccess, State.ownWaits, hst, State.missWaits_unhindered (opc := .rdu) hfree rfl]
    simpa [hst, hfor] using State.missFor_requested (opc := .rdu) .imD w hfree rfl
  · have hfor : u.ownAccess h va l w = (u.modHart h (fun x => x.noteData l)).missFor h l .upg .smA false false w := by
      simp [State.ownAccess, State.ownWaits, hst, State.missWaits_unhindered (opc := .upg) hfree rfl]
    simpa [hst, hfor] using State.missFor_requested (opc := .upg) .smA w hfree rfl

/-! ### O18 -/

/-- Settles O18: an access that no trigger and no upset concerns is performed on the copy that the L1D holds, or asks the line's home. -/
theorem loadsAndStores : Obligations.Loads_and_stores := by
  unfold Obligations.Loads_and_stores
  refine ⟨⟨?loadHit, ?loadMiss, ?noSpec⟩, ?storeHit, ?storeMiss⟩
  case loadHit =>
    intro s u h k pa o c hready hsize hspec hfetch hline htrig hmisses hlocate hbusy hfind hset hpoison
    obtain ⟨hin, hhart⟩ := State.cachedLoad_hit hspec hfetch hbusy hfind hset hpoison
    refine ⟨_, State.exec_load_cached hready hsize hspec hfetch hline htrig hmisses hlocate, hin.parts, hin.other, ?_, fun n hn => ?_⟩
    · rw [hhart, Hart.getX_setX, if_pos rfl]
    · rw [hhart, Hart.getX_setX_other _ _ hn]
      simp [Hart.getX, Hart.confirm]
  case loadMiss =>
    intro s u h pa o hready hsize hspec hfetch hline htrig hmisses hlocate hi hfree
    obtain ⟨hsent, hmiss, hx, hparts⟩ := State.cachedLoad_miss hspec hfetch hi hfree
    exact ⟨_, State.exec_load_cached hready hsize hspec hfetch hline htrig hmisses hlocate, hsent, hparts, hmiss, hx⟩
  case noSpec =>
    intro s h o hlive hspec hfetch hnospec
    change execLoad h o .none s = _
    simp [execLoad, loadAccess, hspec, hfetch, hlive, hnospec]
  case storeHit =>
    intro s u h k pa size va data c hready hsize hline htrig hlocate hpaired hbusy hfind hset hown
    obtain ⟨t, rfl, hin, hx, hcopy⟩ := State.ownAccess_store (size := size) (data := data) hpaired hbusy hfind hset hown
    exact ⟨_, State.exec_retiringStore_owning hready hsize hline htrig hlocate hpaired, hin.parts, hx, hcopy⟩
  case storeMiss =>
    intro s u h pa size va data hready hsize hline htrig hlocate hst hfree
    obtain ⟨hsent, -, hx, hparts⟩ := State.ownAccess_miss (va := va) (.store va pa size data) hst hfree
    exact ⟨_, State.exec_retiringStore_owning hready hsize hline htrig hlocate hfree.2.2.1, hparts, hx, hsent⟩

end Sys2Proof.Machine
end

section
/-! PROOFS. Mailboxes (R105 to R109, R215): what an outbox sends, what answers do to it, and what enters and leaves an inbox. -/

namespace Sys2Proof.Machine

/-! ### What instructions leave of a hart's mailboxes and copies -/

@[simp] theorem Hart.retire_qid (x : Hart) (c : RetClass) : (x.retire c).qid = x.qid := x.retire_frame Hart.qid c fun _ _ _ _ _ _ _ _ _ => rfl
@[simp] theorem Hart.retire_inbox (x : Hart) (c : RetClass) : (x.retire c).inbox = x.inbox :=
  x.retire_frame Hart.inbox c fun _ _ _ _ _ _ _ _ _ => rfl
@[simp] theorem Hart.retire_outbox (x : Hart) (c : RetClass) : (x.retire c).outbox = x.outbox :=
  x.retire_frame Hart.outbox c fun _ _ _ _ _ _ _ _ _ => rfl
@[simp] theorem Hart.retire_l1d (x : Hart) (c : RetClass) : (x.retire c).l1d = x.l1d := x.retire_frame Hart.l1d c fun _ _ _ _ _ _ _ _ _ => rfl

theorem Hart.setX_frame {α : Type} (x : Hart) (g : Hart → α) (n : Nat) (v : Word) (hg : ∀ r, g { x with x := r } = g x) :
    g (x.setX n v) = g x := by
  obtain ⟨r, hset⟩ := x.setX_only n v
  rw [hset, hg]

@[simp] theorem Hart.setX_inbox (x : Hart) (n : Nat) (v : Word) : (x.setX n v).inbox = x.inbox := x.setX_frame Hart.inbox n v fun _ => rfl
@[simp] theorem Hart.setX_outbox (x : Hart) (n : Nat) (v : Word) : (x.setX n v).outbox = x.outbox := x.setX_frame Hart.outbox n v fun _ => rfl
@[simp] theorem Hart.setX_l1d (x : Hart) (n : Nat) (v : Word) : (x.setX n v).l1d = x.l1d := x.setX_frame Hart.l1d n v fun _ => rfl

/-- A register reads the same in two harts with the same registers. -/
theorem Hart.getX_congr {x y : Hart} (hx : y.x = x.x) (n : Nat) : y.getX n = x.getX n := by
  rw [Hart.getX, Hart.getX, hx]

/-- What rd holds after the instruction that wrote it has retired. -/
theorem Hart.getX_retire_setX (x : Hart) (c : RetClass) (rd : Nat) (v : Word) : ((x.setX rd v).retire c).getX rd = if rd = 0 then 0 else v := by
  rw [Hart.getX_congr (Hart.retire_x _ c), Hart.getX_setX, if_pos rfl]

/-! ### The outbox (R106, R108) -/

/-- Only a ready entry leaves an outbox. -/
theorem State.nextU_eq_none {s : State} {h : Nat} (hready : ∀ e ∈ (s.hart h).outbox, e.st ≠ .ready) : s.nextU h = none := by
  refine List.find?_eq_none.mpr (fun p hp => ?_)
  have := hready p.2 (List.of_mem_zip hp).2
  simp [this]

/-- A ready Class U message alone in its outbox is the next to leave. -/
theorem State.nextU_single {s : State} {h : Nat} {e : OutboxEnt} (hout : (s.hart h).outbox = [e]) (hready : e.st = .ready) (hu : s.goesU e = true) :
    s.nextU h = some (0, e) := by
  simp [State.nextU, hout, hready, hu]

theorem State.pump_idle {s : State} {h : Nat} (fuel : Nat) (hready : ∀ e ∈ (s.hart h).outbox, e.st ≠ .ready) : s.pump fuel h = s := by
  cases fuel with
  | zero => rfl
  | succ n => rw [State.pump, State.nextU_eq_none hready]

/-- An entry whose message has just left in Class U for the first time (R108). -/
def OutboxEnt.sentFirst (e : OutboxEnt) (now : Nat) : OutboxEnt := { e with st := .sent, firstSent := some now, stamp := now }

/-- The state once the oldest entry's Class U message has left: `pump` after one message (R108). -/
def State.sentU (s : State) (h : Nat) (e : OutboxEnt) : State :=
  let t := (s.modHart h (fun x => { x with outbox := x.outbox.set 0 (e.sentFirst s.time.now) })).noteStats h 1 48 none
  { t with net := { t.net with mail := t.net.mail ++ [s.mailMsg h e] } }

theorem State.sentU_hart (s : State) (h : Nat) (e : OutboxEnt) :
    (s.sentU h e).hart h = { s.hart h with outbox := (s.hart h).outbox.set 0 (e.sentFirst s.time.now) } :=
  s.hart_setHart_same h { s.hart h with outbox := (s.hart h).outbox.set 0 (e.sentFirst s.time.now) }

/-- A ready Class U message alone in its outbox leaves at once, and its entry stays for the answer. -/
theorem State.pump_single {s : State} {h : Nat} {e : OutboxEnt} (fuel : Nat) (hout : (s.hart h).outbox = [e]) (hready : e.st = .ready)
    (hstream : e.stream = 0xFFFF) : s.pump (fuel + 1) h = s.sentU h e := by
  have hnext := State.nextU_single hout hready (show s.goesU e = true by simp [State.goesU, hstream])
  have hpump : s.pump (fuel + 1) h = (s.sentU h e).pump fuel h := by
    rw [State.pump, hnext]
    dsimp only
    rw [if_pos hstream]
    rfl
  rw [hpump]
  refine State.pump_idle fuel (fun o ho => ?_)
  rw [State.sentU_hart, hout] at ho
  obtain rfl : o = e.sentFirst s.time.now := by simpa using ho
  exact OutSt.noConfusion

/-! ### lz.mbsend (R106) -/

/-- The status of an lz.mbsend hangs on the harts' Quires and worlds, on the sender's outbox and on the streams. -/
theorem State.sendStatus_congr {u w : State} {h : Nat} (hin : u.InHart h w) (hqid : (w.hart h).qid = (u.hart h).qid)
    (hsecure : (w.hart h).secure = (u.hart h).secure) (hout : (w.hart h).outbox = (u.hart h).outbox) (buf : List Byte) :
    w.sendStatus h buf = u.sendStatus h buf := by
  have hfuse : w.fuse = u.fuse := hin.parts .fuse (by simp)
  have hstream : ∀ n, w.stream n = u.stream n := fun n => by
    have hfabric : w.fabric = u.fabric := hin.parts .fabric (by simp)
    rw [State.stream, State.stream, hfabric]
  have hdest : ∀ d, (w.hart d).qid = (u.hart d).qid ∧ (w.hart d).secure = (u.hart d).secure := fun d => by
    by_cases hd : d = h
    · rw [hd]
      exact ⟨hqid, hsecure⟩
    · rw [hin.other d hd]
      exact ⟨rfl, rfl⟩
  have hsource : ∀ n, w.isSource h n = u.isSource h n := fun n => by simp only [State.isSource, hstream, hsecure]
  have hmay : ∀ d, w.mayReceive h d = u.mayReceive h d := fun d => by simp only [State.mayReceive, hfuse, hdest]
  rw [State.sendStatus, State.sendStatus, hsource, hmay, hout]

/-- A Class U message put into an empty outbox leaves at once, and waits in the outbox for its answer. -/
theorem State.pump_appended {s : State} {h : Nat} {e : OutboxEnt} (fuel : Nat) (hout : (s.hart h).outbox = []) (hready : e.st = .ready)
    (hstream : e.stream = 0xFFFF) :
    ∃ t, (s.modHart h (fun x => { x with outbox := x.outbox ++ [e] })).pump (fuel + 1) h = t ∧ (t.hart h).x = (s.hart h).x
      ∧ (t.hart h).outbox.length = 1 ∧ s.mailMsg h e ∈ t.net.mail := by
  have hput : ((s.modHart h (fun x => { x with outbox := x.outbox ++ [e] })).hart h).outbox = [e] := by simp [hout]
  refine ⟨_, State.pump_single fuel hput hready hstream, ?_, ?_, List.mem_append_right _ (List.mem_singleton_self _)⟩
  · rw [State.sentU_hart, State.hart_modHart_same]
  · rw [State.sentU_hart, hput]
    rfl

/-- With status SENT and an empty outbox a Class U message leaves at once, and waits in the outbox for its answer. -/
theorem State.mbSend_sent {s : State} {h : Nat} {buf : List Byte} (rd : Nat) (hstatus : s.sendStatus h buf = 0)
    (hstream : numAt buf 2 2 = 0xFFFF) (hout : (s.hart h).outbox = []) :
    ∃ t, s.mbSend h rd buf = t ∧ (t.hart h).getX rd = 0 ∧ (t.hart h).outbox.length = 1
      ∧ ∃ m ∈ t.net.mail, m.srcHart = h ∧ m.dstNode = hartNode (numAt buf 0 2)
        ∧ m.payload = BitVec.ofNat 384 (ofLE (bytesAt buf 16 48)) := by
  have hkept : ∀ e : OutboxEnt, e.stream = 0xFFFF → ∀ t : State, t.sendLost e = false := fun e he t => by simp [State.sendLost, he]
  unfold State.mbSend
  dsimp only
  rw [if_pos hstatus, hkept _ hstream, if_neg Bool.false_ne_true, hstatus]
  obtain ⟨t, hpump, hx, hlen, hmail⟩ := State.pump_appended
    (s := (s.modHart h (fun x => (x.setX rd (word 0)).retire .xlz)).modHart h (fun x => x.count 46 1))
    (e := outboxOf ((s.modHart h (fun x => (x.setX rd (word 0)).retire .xlz)).hart h) s.time.cycle buf) (h := h) 3 (by simp [hout]) rfl hstream
  refine ⟨t, hpump, ?_, hlen, _, hmail, rfl, ?_, rfl⟩
  · rw [Hart.getX_congr hx, State.hart_modHart_same, Hart.getX_congr (Hart.count_x _ 46 1), State.hart_modHart_same, Hart.getX_retire_setX]
    exact ite_self _
  · simp [State.mailMsg, State.mailDest, outboxOf, hstream]

/-- With another status rd holds it, and nothing is sent. -/
theorem State.mbSend_refused {s : State} {h : Nat} {buf : List Byte} (rd : Nat) (hstatus : s.sendStatus h buf ≠ 0) :
    ((s.mbSend h rd buf).hart h).getX rd = (if rd = 0 then 0 else word (s.sendStatus h buf))
      ∧ ((s.mbSend h rd buf).hart h).outbox = (s.hart h).outbox ∧ s.changesOnly [.harts] (s.mbSend h rd buf) := by
  have hin := s.modHart_inHart h (fun x => (x.setX rd (word (s.sendStatus h buf))).retire .xlz)
  unfold State.mbSend
  dsimp only
  rw [if_neg hstatus]
  split
  · refine ⟨?_, ?_, (hin.trans (State.modHart_inHart _ h _)).parts⟩
    · rw [State.hart_modHart_same, Hart.getX_congr (Hart.count_x _ 48 1), State.hart_modHart_same, Hart.getX_retire_setX]
    · simp
  · refine ⟨?_, ?_, hin.parts⟩
    · rw [State.hart_modHart_same, Hart.getX_retire_setX]
    · simp

/-- The state in which an lz.mbsend that read its buffer from the L1D makes its message. -/
def State.atSend (u : State) (h l : Nat) : State :=
  ((u.setHart h (u.hart h)).spend h).modHart h (fun x => { x.confirm l with nc64 := none })

theorem State.atSend_inHart (u : State) (h l : Nat) : u.InHart h (u.atSend h l) :=
  ((u.setHart_inHart h _).trans (State.modHart_inHart _ h _)).trans (State.modHart_inHart _ h _)

theorem State.atSend_hart (u : State) (h l : Nat) :
    (u.atSend h l).hart h = { ({ u.hart h with pairGo := none } : Hart).confirm l with nc64 := none } := by
  simp [State.atSend, State.spend]

/-- lz.mbsend of a hart outside a pair whose buffer the L1D holds reads it there: only its own hart has changed when the message is made. -/
theorem State.mbsendAccess_held {s u : State} {h rd rs1 pa k : Nat} {va : Word} {c : CLine} (hva : (s.hart h).getX rs1 = va)
    (hbuffer : s.bufferAt h .load va = .inr (u, pa, .ordinary)) (hpaired : (u.hart h).paired = false)
    (hbusy : (u.hart h).ncBusy (pa / 64) = false) (hfind : findLine (u.hart h).l1d (pa / 64) = some (k, c))
    (hset : k / 8 = l1dSet va.toNat) (hpoison : c.poison = 0) :
    ∃ w, mbsendAccess s h rd rs1 = w.mbSend h rd (lineBytes c.data) ∧ u.InHart h w ∧ (w.hart h).outbox = (u.hart h).outbox
      ∧ w.sendStatus h (lineBytes c.data) = u.sendStatus h (lineBytes c.data) := by
  have hreleased : (u.setHart h (u.hart h)).isReleased h .mbsend va pa 6 none = true :=
    State.isReleased_alone _ _ _ _ _ _ _ (by simpa using hpaired)
  have haccess : mbsendAccess s h rd rs1 = (u.atSend h (pa / 64)).mbSend h rd (lineBytes c.data) := by
    simp [mbsendAccess, hva, hbuffer, hbusy, Hart.lineSt_ne_i hfind, State.recallLine_held false hfind hset, Hart.lineCopy_l1d hfind,
      State.sendFrom, hpoison, State.released, hreleased, State.atSend]
  have hin := u.atSend_inHart h (pa / 64)
  refine ⟨_, haccess, hin, ?_, State.sendStatus_congr hin ?_ ?_ ?_ _⟩ <;> rw [State.atSend_hart] <;> rfl

theorem State.exec_lzMbsend {s : State} {h rd rs1 : Nat} {va : Word} (hready : s.ready h = true) (hva : (s.hart h).getX rs1 = va)
    (htrig : s.trigFor h .load va.toNat 64 none = none) : exec (.lzMbsend h rd rs1) s = .next (mbsendAccess s h rd rs1) := by
  change execLzMbsend h rd rs1 s = _
  rw [execLzMbsend, State.instr_of_ready _ hready, hva, State.watched_of_none _ htrig]

/-! ### G messages and answers (R108, R215) -/

/-- A ready message of an ACTIVE stream leaves in the stream's slot. -/
theorem gMessageSend_active {s : State} {n h : Nat} {e : OutboxEnt} (hactive : (s.stream n).st = .active) (hslot : s.inSlot n = true)
    (hstamp : e.stamp < s.time.cycle) (hnode : isClusterNode (s.stream n).desc.srcNode = true)
    (hsource : hartAt (s.stream n).desc.srcNode (s.stream n).desc.srcCore = h) (hout : (s.hart h).outbox = [e]) (hstream : e.stream = n)
    (hready : e.st = .ready) :
    ((gMessageSend s n).hart h).outbox = [] ∧ (gMessageSend s n).net.mail = s.net.mail ++ [s.mailMsg h e] := by
  have hfirst : [e].findIdx? (fun e => e.stream == n && decide (e.st = .ready) && decide (e.stamp < s.time.cycle)) = some 0 := by
    simp [hstream, hready, hstamp]
  simp only [gMessageSend, hnode, hactive, hsource, hslot, hout, hfirst, Bool.not_true, Bool.false_eq_true, if_false, if_true,
    List.getElem?_cons_zero]
  refine ⟨?_, rfl⟩
  have hhart := s.hart_modHart_same h (fun x => { x with outbox := x.outbox.eraseIdx 0 }.count 63 1)
  exact (congrArg Hart.outbox hhart).trans (by simp [hout])

/-- The only entry of an outbox taken out. -/
theorem State.dropOut_outbox {s : State} {h : Nat} {e : OutboxEnt} (hout : (s.hart h).outbox = [e]) : ((s.dropOut h 0).hart h).outbox = [] := by
  simp [State.dropOut, hout]

/-- The only message of an outbox discarded: it is counted and recorded, and nothing is left to send. -/
theorem State.discard_only {s : State} {h : Nat} {e : OutboxEnt} (fuel dest : Nat) (hout : (s.hart h).outbox = [e]) :
    ∃ t, ((s.dropOut h 0).undelivered h dest).pump fuel h = t ∧ (t.hart h).outbox = []
      ∧ (t.hart h).undelivered = satAdd 0xFFFF (s.hart h).undelivered 1 ∧ t.carries Syn.mbUndelivered = true := by
  have hhart : ((s.dropOut h 0).undelivered h dest).hart h
      = { (s.dropOut h 0).hart h with undelivered := satAdd 0xFFFF ((s.dropOut h 0).hart h).undelivered 1 } := by
    rw [State.undelivered, State.hart_congr (State.log_harts _ _), State.hart_modHart_same]
  have hnone : (((s.dropOut h 0).undelivered h dest).hart h).outbox = [] := by rw [hhart, State.dropOut_outbox hout]
  refine ⟨_, State.pump_idle fuel (by simp [hnone]), hnone, ?_, State.log_carries _ _ _ rfl⟩
  rw [hhart]
  simp [State.dropOut]

/-- An answer taken off the network: the first thing that its arrival does. -/
def State.takeAns (s : State) (m : MailAns) : State := { s with net := { s.net with ans := s.net.ans.erase m } }

theorem State.exec_mailboxAnswer {s : State} {m : MailAns} (hreach : s.reach m.srcNode m.dstNode 1 none = true) :
    exec (.mailboxAnswer ⟨m, .none⟩) s = .next (mailboxAnswer s m) := by
  change execMailboxAnswer ⟨m, .none⟩ s = _
  simp [execMailboxAnswer, hreach, State.flitFate]

/-- What an answer does to the sent entry that it is about. -/
theorem mailboxAnswer_sent {s : State} {m : MailAns} {h i : Nat} {e : OutboxEnt} (hhart : hartAt m.dstNode m.dstCore = h)
    (hto : s.outTo h m.destHart = some (i, e)) (hsent : e.st = .sent) :
    mailboxAnswer s m = match m.answer with
      | .accept => ((s.takeAns m).dropOut h i).pump 4 h
      | .final => (((s.takeAns m).dropOut h i).undelivered h m.destHart).pump 4 h
      | .refuse =>
        if s.outExpired e then (((s.takeAns m).dropOut h i).undelivered h m.destHart).pump 4 h
        else (s.takeAns m).modHart h (fun x => { x with outbox := x.outbox.set i { e with st := .refused, stamp := s.time.frame } }) := by
  have hto' : (s.takeAns m).outTo h m.destHart = some (i, e) := hto
  unfold mailboxAnswer
  rw [hhart]
  change (match (s.takeAns m).outTo h m.destHart with | none => _ | some (i, e) => _) = _
  rw [hto']
  dsimp only
  rw [if_neg (not_not_intro hsent)]
  cases m.answer <;> rfl

theorem State.changesOnly_harts_net (s : State) (hs : Tab Hart) (n : Net) : s.changesOnly [.harts, .net] { s with harts := hs, net := n } := by
  intro p hp
  cases p with
  | harts | net => simp at hp
  | _ => rfl

/-! ### The inbox (R107, R109) -/

theorem State.noteStats_hart (s : State) (i c b k : Nat) (l : Option Nat) : (s.noteStats i c b l).hart k = s.hart k := rfl

/-- A Class U message taken into an inbox is its newest entry; the network's answers stay. -/
theorem State.inboxPut_classU (s : State) (h : Nat) {m : MailMsg} (hstream : m.stream = 0xFFFF) :
    (∃ e, ((s.inboxPut h m).hart h).inbox = (s.hart h).inbox ++ [e] ∧ e.payload = m.payload ∧ e.srcHart = m.srcHart ∧ e.g = false
        ∧ e.secure = m.secure)
      ∧ (s.inboxPut h m).net.ans = s.net.ans := by
  have hg : ∀ a o, (inboxEnt m a o).g = false := fun a o => by simp [inboxEnt, hstream]
  have hnew : (m.stream != 0xFFFF) = false := by simp [hstream]
  unfold State.inboxPut
  simp only [hnew, hg, Bool.false_and, Bool.and_false, Bool.false_eq_true, if_false]
  refine ⟨⟨inboxEnt m (BitVec.ofNat 32 (s.hartTime h)) false, ?_, rfl, rfl, hg _ _, rfl⟩, rfl⟩
  rw [State.noteStats_hart, State.hart_modHart_same, Hart.countIf_frame _ Hart.inbox (by simp),
    Hart.noteWake_frame _ Hart.inbox (fun _ _ => rfl)]
  simp

theorem State.exec_mailboxMessage {s : State} {m : MailMsg} (hreach : s.reach m.srcNode m.dstNode 1 none = true) (hstream : m.stream = 0xFFFF) :
    exec (.mailboxMessage m .none) s = .next (mailboxMessage s m) := by
  change execMailboxMessage m .none s = _
  simp [execMailboxMessage, mailFlits, State.mailCls, mailStream, hstream, hreach, State.flitFate]

/-- A message taken off the network: the first thing that its arrival does. -/
def State.takeMail (s : State) (m : MailMsg) : State := { s with net := { s.net with mail := s.net.mail.erase m } }

/-- A Class U message that reaches a core in service is accepted where the inbox has room beside the streams' entries, and refused otherwise. -/
theorem mailboxMessage_classU {s : State} {m : MailMsg} {h : Nat} (hhart : hartAt m.dstNode m.dstCore = h) (hcluster : slAt m.dstNode = none)
    (hnode : isClusterNode m.dstNode = true) (hstream : m.stream = 0xFFFF) (hunit : s.isFenced (UnitId.of 0x02 (hartCluster h)) = false)
    (hcore : s.isFenced (coreUnit h) = false) (hrun : (s.hart h).run ≠ .fenced) :
    mailboxMessage s m =
      if ((s.hart h).inbox.filter (fun e => !e.g)).length + s.reservedAt m.dstNode m.dstCore < 16 then
        ((s.takeMail m).inboxPut h m).answerMail m h .accept
      else (s.takeMail m).answerMail m h .refuse := by
  have hunit' : (s.takeMail m).isFenced (UnitId.of 0x02 (hartCluster h)) = false := hunit
  have hcore' : (s.takeMail m).isFenced (coreUnit h) = false := hcore
  have hrun' : ((s.takeMail m).hart h).run ≠ .fenced := hrun
  simp only [State.takeMail] at hunit' hcore' hrun' ⊢
  simp only [mailboxMessage, hcluster, hnode, Bool.not_true, hhart, hunit', Bool.or_self, Bool.false_eq_true, if_false, hcore', hrun',
    decide_false, hstream, ne_eq, not_true_eq_false]
  rfl

/-- lz.mbrecv with an empty inbox returns 0, and changes only its hart. -/
theorem State.exec_lzMbrecv_empty {s : State} {h : Nat} (rd rs1 : Nat) (hready : s.ready h = true) (hinbox : (s.hart h).inbox = []) :
    exec (.lzMbrecv h rd rs1) s = .next (s.modHart h (fun x => (x.setX rd 0).retire .xlz)) := by
  change execLzMbrecv h rd rs1 s = _
  rw [execLzMbrecv, State.instr_of_ready _ hready, hinbox]

theorem State.exec_lzMbrecv {s : State} {h rd rs1 : Nat} {va : Word} {e : InboxEnt} {rest : List InboxEnt} (hready : s.ready h = true)
    (hinbox : (s.hart h).inbox = e :: rest) (hva : (s.hart h).getX rs1 = va)
    (htrig : s.trigFor h .store va.toNat 64 (some (lineOf e.bytes).toNat) = none) :
    exec (.lzMbrecv h rd rs1) s = .next (mbrecvAccess s h rd va e) := by
  change execLzMbrecv h rd rs1 s = _
  rw [execLzMbrecv, State.instr_of_ready _ hready, hinbox]
  dsimp only
  rw [hva, State.watched_of_none _ htrig]

/-- The oldest entry taken: rd is 1, the inbox is shorter by it, and the copies stay. -/
theorem State.tookEntry_hart (s : State) (h rd : Nat) :
    ((s.tookEntry h rd).hart h).getX rd = (if rd = 0 then 0 else 1) ∧ ((s.tookEntry h rd).hart h).inbox = (s.hart h).inbox.drop 1
      ∧ ((s.tookEntry h rd).hart h).l1d = (s.hart h).l1d := by
  rw [State.tookEntry, State.hart_modHart_same]
  refine ⟨?_, by simp, by simp⟩
  rw [Hart.getX_congr (Hart.count_x _ 47 1), Hart.getX_retire_setX]

/-- A line found in the L1D after the release of a request: only the hart has changed, and there only its release is used up. -/
theorem State.spend_recallLine_held {u : State} {h l k : Nat} {va : Word} {c : CLine} (hfind : findLine (u.hart h).l1d l = some (k, c))
    (hset : k / 8 = l1dSet va.toNat) :
    u.InHart h ((u.spend h).recallLine h va l false)
      ∧ ((u.spend h).recallLine h va l false).hart h = { u.hart h with pairGo := none } := by
  have hspent : (u.spend h).hart h = { u.hart h with pairGo := none } := u.hart_modHart_same h _
  have hfind' : findLine ((u.spend h).hart h).l1d l = some (k, c) := by rw [hspent, hfind]
  rw [State.recallLine_held false hfind' hset]
  exact ⟨(u.modHart_inHart h _).trans (State.setHart_inHart _ h _), (State.hart_setHart_same _ h _).trans hspent⟩

/-- lz.mbrecv of a hart outside a pair stores the entry in the copy that its L1D owns, and takes the entry. -/
theorem State.mbrecvAccess_owned {s u : State} {h pa k : Nat} {va : Word} {c : CLine} {e : InboxEnt} (rd : Nat)
    (hbuffer : s.bufferAt h .store va = .inr (u, pa, .ordinary)) (hpaired : (u.hart h).paired = false)
    (hbusy : (u.hart h).ncBusy (pa / 64) = false) (hfind : findLine (u.hart h).l1d (pa / 64) = some (k, c))
    (hset : k / 8 = l1dSet va.toNat) (hown : c.st = .m ∨ c.st = .e) :
    ∃ r, mbrecvAccess s h rd va e = r.tookEntry h rd ∧ u.InHart h r ∧ (r.hart h).inbox = (u.hart h).inbox
      ∧ ∃ d, findLine (r.hart h).l1d (pa / 64) = some (k, d) ∧ d.st = .m ∧ d.data = lineOf e.bytes := by
  obtain ⟨hin, hhart⟩ := State.spend_recallLine_held hfind hset
  have hreleased : u.isReleased h .store va pa 6 (some (lineOf e.bytes).toNat) = true := State.isReleased_alone _ _ _ _ _ _ _ hpaired
  have haccess : mbrecvAccess s h rd va e = State.tookEntry
      (let t := (u.spend h).recallLine h va (pa / 64) false
       t.putHart h ((t.hart h).writeHeld t.bind (hartCore h) t.time.now (pa / 64) (fun c => { c with data := lineOf e.bytes, poison := 0 }))) h rd := by
    simp [mbrecvAccess, hbuffer, Hart.lineSt_owned hfind hown, State.released, State.ownWaits_owned hbusy hfind hown, hreleased]
  generalize (u.spend h).recallLine h va (pa / 64) false = w at hin hhart haccess
  obtain ⟨r, hput, hwrite, ⟨ls, hls⟩, hcopy⟩ := State.putHart_writeHeld (s := w) (h := h)
    (f := fun c => { c with data := lineOf e.bytes, poison := 0 }) w.bind (hartCore h) w.time.now
    (by rw [hhart, hpaired]) (by rw [hhart, hfind]) (fun _ => rfl)
  exact ⟨r, haccess.trans (by rw [← hput]), hin.trans hwrite, by rw [hls, hhart], _, hcopy, rfl, rfl⟩

/-! ### O24 -/

/-- Settles O24: a buffer that the L1D holds is read and written there; an outbox of one message and an inbox are followed through each command. -/
theorem mailboxes : Obligations.Mailboxes := by
  unfold Obligations.Mailboxes
  refine ⟨⟨?send, ?gSend, ?answer, ?resend, ?timeout⟩, ?message, ?recvEmpty, ?recv⟩
  case send =>
    intro s u h rd rs1 pa k va c hready hva htrig hbuffer hpaired hbusy hfind hset hpoison
    obtain ⟨w, haccess, hin, hout, hstatus⟩ :=
      State.mbsendAccess_held (rd := rd) hva hbuffer hpaired hbusy hfind hset hpoison
    have hexec := haccess ▸ State.exec_lzMbsend (rd := rd) hready hva htrig
    refine ⟨fun hsent hstream hempty => ?_, fun hrefused => ?_⟩
    · obtain ⟨t, ht, hrd, hlen, hmail⟩ := State.mbSend_sent rd (hstatus.trans hsent) hstream (hout.trans hempty)
      exact ⟨t, ht ▸ hexec, hrd, hlen, hmail⟩
    · obtain ⟨hrd, hkept, hparts⟩ := State.mbSend_refused rd (fun hzero => hrefused (hstatus.symm.trans hzero))
      exact ⟨_, hexec, hstatus ▸ hrd, hkept.trans hout, State.changesOnly_trans hin.parts hparts⟩
  case gSend =>
    intro s n e hactive hslot hstamp hnode hout hstream hready
    exact ⟨_, rfl, gMessageSend_active hactive hslot hstamp hnode rfl hout hstream hready⟩
  case answer =>
    intro s m e hreach hout hsent hto
    have hout' : ((s.takeAns m).hart (hartAt m.dstNode m.dstCore)).outbox = [e] := hout
    have hanswer := mailboxAnswer_sent rfl hto hsent
    refine ⟨_, State.exec_mailboxAnswer hreach, fun haccept => ?_, fun hfinal => ?_, fun hrefuse hfresh => ?_⟩
    · have hdrop := State.dropOut_outbox hout'
      rw [hanswer, haccept]
      dsimp only
      rw [State.pump_idle 4 (by simp [hdrop])]
      exact ⟨hdrop, s.changesOnly_harts_net _ _⟩
    · rw [hanswer, hfinal]
      obtain ⟨t, rfl, hempty, -, hcarries⟩ := State.discard_only 4 m.destHart hout'
      exact ⟨hempty, hcarries⟩
    · rw [hanswer, hrefuse]
      simp [hfresh, hout']
  case resend =>
    intro s h dest i e hto hst hfresh hstamp
    refine ⟨_, rfl, ?_⟩
    simp only [mailboxResend, hto, hst, hfresh, hstamp, and_self, if_true]
    rfl
  case timeout =>
    intro s h dest e hout hto hst hexpired
    obtain ⟨t, ht, hdiscarded⟩ := State.discard_only 4 dest hout
    refine ⟨t, ?_, hdiscarded⟩
    change execMailboxUTimeout h dest s = _
    simp [execMailboxUTimeout, mailboxUTimeout, hto, hst, hexpired, ht]
  case message =>
    intro s m hreach hcluster hnode hstream hunit hcore hrun
    refine ⟨_, State.exec_mailboxMessage hreach hstream, ?_⟩
    rw [mailboxMessage_classU rfl hcluster hnode hstream hunit hcore hrun]
    split
    · obtain ⟨hentry, hans⟩ := (s.takeMail m).inboxPut_classU (hartAt m.dstNode m.dstCore) hstream
      exact ⟨hentry, congrArg (· ++ [_]) hans⟩
    · exact ⟨rfl, rfl⟩
  case recvEmpty =>
    intro s h rd rs1 hready hinbox
    refine ⟨_, State.exec_lzMbrecv_empty rd rs1 hready hinbox, ?_, (s.modHart_inHart h _).parts⟩
    rw [State.hart_modHart_same, Hart.getX_retire_setX]
    exact ite_self _
  case recv =>
    intro s u h rd rs1 pa k va c e rest hready hinbox hva htrig hbuffer hpaired hbusy hfind hset hown
    obtain ⟨r, haccess, hin, hkept, hcopy⟩ := State.mbrecvAccess_owned (e := e) rd hbuffer hpaired hbusy hfind hset hown
    obtain ⟨hrd, htaken, hl1d⟩ := r.tookEntry_hart h rd
    refine ⟨_, haccess ▸ State.exec_lzMbrecv hready hinbox hva htrig, hrd, htaken.trans (by rw [hkept]), ?_, ?_⟩
    · exact (hin.trans (r.modHart_inHart h _)).parts
    · rw [hl1d]
      exact hcopy

end Sys2Proof.Machine
end

section
/-! PROOFS. The locked TLB entries and the page walk (R121, R126, R132 to R136): UNLOCK, QUERY and LOCK of lztlblock, and a walk that asks
for a line, fills the TLBs or faults. -/

namespace Sys2Proof.Machine

/-! ### The status of lztlblock (R132) -/

theorem fieldOf_lockStatus (x : Hart) (v : Word) {n : Nat} (hn : n < 8) : fieldOf (x.setLockStatus v n).lztlblock 0 3 = n := by
  have hkept : (~~~word 0x3F).extractLsb' 0 3 = 0#3 := by decide
  have hvirt : (word 0x40).extractLsb' 0 3 = 0#3 := by decide
  have hstatus : ((word n).extractLsb' 0 3).toNat = n := by
    rw [← fieldOf_eq_extract, fieldOf, bitsOf, word, BitVec.toNat_ofNat]
    omega
  rw [fieldOf_eq_extract, Hart.setLockStatus, lockWord, BitVec.extractLsb'_or, BitVec.extractLsb'_or, BitVec.extractLsb'_and,
    BitVec.extractLsb'_and, hkept, hvirt]
  simpa using hstatus

/-- The status that tells whether a slot holds an entry. -/
@[simp] theorem fieldOf_lockFound (x : Hart) (v : Word) (found : Bool) :
    fieldOf (x.setLockStatus v (if found then 0 else 1)).lztlblock 0 3 = if found then 0 else 1 :=
  fieldOf_lockStatus x v (by split <;> decide)

@[simp] theorem Hart.setLockStatus_locked (x : Hart) (v : Word) (n : Nat) : (x.setLockStatus v n).locked = x.locked := rfl

@[simp] theorem Hart.retire_locked (x : Hart) (c : RetClass) : (x.retire c).locked = x.locked :=
  x.retire_frame Hart.locked c fun _ _ _ _ _ _ _ _ _ => rfl
@[simp] theorem Hart.retire_lztlblock (x : Hart) (c : RetClass) : (x.retire c).lztlblock = x.lztlblock :=
  x.retire_frame Hart.lztlblock c fun _ _ _ _ _ _ _ _ _ => rfl

/-! ### UNLOCK and QUERY (R133) -/

theorem Tab.find_del_same {α : Type} (t : Tab α) (k : Nat) : Tab.find (Tab.del t k) k = none := by
  induction t with
  | nil => rfl
  | cons e rest ih =>
    obtain ⟨j, v⟩ := e
    by_cases hj : j = k
    · simpa [Tab.del, hj] using ih
    · simpa [Tab.del, Tab.find, hj] using ih

/-- A reserved bit written to lztlblock is logged, and leaves the harts (R12). -/
@[simp] theorem lockReserved_hart (s : State) (h : Nat) (v : Word) (k : Nat) : (lockReserved s h v).hart k = s.hart k := by
  unfold lockReserved
  split
  · exact State.hart_congr (s.logCsrReserved_harts ..) k
  · rfl

/-- An M-mode hart's operation on the locked entries has its effect, and retires. -/
theorem lockCsr_of_ready {s : State} {h : Nat} (f : State → State) (hready : s.ready h = true) (hm : (s.hart h).mode = .m) :
    lockCsr s h f = (f s).modHart h (fun x => x.retire .csr) := by
  rw [lockCsr, State.instr_of_ready _ hready, if_pos hm]

section
variable {s : State} {h : Nat} (v : Word) (hready : s.ready h = true) (hm : (s.hart h).mode = .m)
include hready hm

theorem exec_tlbUnlock_ready : ∃ t, exec (.tlbUnlock h v) s = .next t ∧ Tab.find (t.hart h).locked (fieldOf v 7 5) = none
    ∧ fieldOf (t.hart h).lztlblock 0 3 = (if (Tab.find (s.hart h).locked (fieldOf v 7 5)).isSome then 0 else 1) := by
  refine ⟨_, congrArg Host.Outcome.next (lockCsr_of_ready _ hready hm), ?_, ?_⟩
  · simp [tlbUnlock, Tab.find_del_same]
  · simp [tlbUnlock]

theorem exec_tlbQuery_ready : ∃ t, exec (.tlbQuery h v) s = .next t ∧ (t.hart h).locked = (s.hart h).locked
    ∧ fieldOf (t.hart h).lztlblock 0 3 = (if (Tab.find (s.hart h).locked (fieldOf v 7 5)).isSome then 0 else 1) := by
  refine ⟨_, congrArg Host.Outcome.next (lockCsr_of_ready _ hready hm), ?_, ?_⟩
  · simp [tlbQuery]
  · simp [tlbQuery]

end

/-! ### LOCK (R132) -/

@[simp] theorem Hart.afterWalk_locked (x : Hart) (reads : List (Nat × Nat)) : (x.afterWalk reads).locked = x.locked :=
  foldl_frame Hart.locked _ reads x fun _ _ => by split <;> rfl

/-- A LOCK of a canonical address whose stages translate walks as a retiring load of S-mode. -/
theorem State.lockWalk_walks {s : State} {h : Nat} {v : Word} (hv : flagOf v 6 = false)
    (hlevels : (s.hart h).levelsOf 0x180 ≠ 0) (hva : canonical ((s.hart h).levelsOf 0x180) (v &&& ~~~(word 0xFFF)).toNat = true) :
    s.lockWalk h v = .inr (s.walkFull h (v &&& ~~~(word 0xFFF)) .load false .s false false) := by
  rw [State.lockWalk, hv]
  exact (if_neg fun ⟨_, hbad⟩ => Bool.noConfusion (hva.symm.trans hbad)).trans (if_neg (by simpa using hlevels))

/-- A page found, while no entry is locked: it is placed in the slot with status 0. -/
theorem tlbLock_placed {s : State} {h : Nat} {v : Word} {e : TlbEnt} {reads : List (Nat × Nat)}
    (hwalk : s.lockWalk h v = .inr (.entry e reads)) (hnone : (s.hart h).locked = []) :
    Tab.find ((tlbLock s h v).hart h).locked (fieldOf v 7 5) = some { e with unconf := false }
      ∧ fieldOf ((tlbLock s h v).hart h).lztlblock 0 3 = 0 := by
  have hstatus := fieldOf_lockStatus ((s.hart h).afterWalk reads) v (n := 0) (by decide)
  simpa [tlbLock, hwalk, hnone] using hstatus

/-- With every PTE that its walk writes owned, a LOCK has no line to wait for. -/
theorem State.lockWaits_none {s : State} {h : Nat} {v : Word} {e : TlbEnt} {reads : List (Nat × Nat)}
    (hwalk : s.lockWalk h v = .inr (.entry e reads)) (howned : (s.hart h).notOwned reads = none) : s.lockWaits h v = none := by
  simp [State.lockWaits, hwalk, howned]

theorem exec_tlbLock_placed {s : State} {h : Nat} {v : Word} {e : TlbEnt} {reads : List (Nat × Nat)} (hready : s.ready h = true)
    (hm : (s.hart h).mode = .m) (hreserved : flagOf v 5 = false) (hwalk : s.lockWalk h v = .inr (.entry e reads))
    (howned : (s.hart h).notOwned reads = none) (hnone : (s.hart h).locked = []) :
    ∃ t, exec (.tlbLock h v) s = .next t ∧ Tab.find (t.hart h).locked (fieldOf v 7 5) = some { e with unconf := false }
      ∧ fieldOf (t.hart h).lztlblock 0 3 = 0 := by
  have hexec : exec (.tlbLock h v) s = .next ((tlbLock s h v).modHart h (fun x => x.retire .csr)) := by
    change execTlbLock h v s = _
    simp [execTlbLock, State.lockWaits_none hwalk howned, lockCsr_of_ready _ hready hm, lockReserved, hreserved]
  refine ⟨_, hexec, ?_⟩
  simpa using tlbLock_placed hwalk hnone

/-! ### The page walk (R121, R126, R136) -/

/-- A hart without locked entries fills the TLBs with a walk's result (R127, R134). -/
theorem State.walkFill_unlocked {s : State} {h : Nat} {wk : Walk} (k : AccKind) (v : Bool) (e : TlbEnt) (hspec : wk.spec = false)
    (hnone : (s.hart h).locked = []) : s.walkFill h wk k v e = s.modHart h (fun x => x.fillTlbs k e) := by
  have hhit : (s.hart h).lockedHit v k wk.va.toNat = none := by
    unfold Hart.lockedHit
    split
    · simp [hnone]
    · rfl
  simp [State.walkFill, hspec, hhit]

theorem exec_pageWalk_live {s : State} {h : Nat} (hlive : s.hartLive h = true) : exec (.pageWalk h) s = .next (pageWalk s h) :=
  congrArg Host.Outcome.next (if_pos hlive)

/-! What the walk that a load waits for comes to: a line asked for, an entry filled, or its fault. -/

section
variable {s : State} {h : Nat} {w : Walk} (hwalk : (s.hart h).walk = some w) (hexec : w.exec = false) (hstore : w.store = false)
include hwalk hexec hstore

theorem pageWalk_need {l : Nat}
    (hneed : s.walkFull h w.va .load ((s.hart h).effMode .load).2 ((s.hart h).effMode .load).1 w.spec true = .need l) :
    pageWalk s h = s.walkMiss h l false w.spec := by
  simp [pageWalk, hwalk, hexec, hstore, hneed]

variable (hspec : w.spec = false)
include hspec

theorem pageWalk_fills {e : TlbEnt} {reads : List (Nat × Nat)} (hnone : (s.hart h).locked = []) (howned : (s.hart h).notOwned reads = none)
    (hleaf : s.walkFull h w.va .load ((s.hart h).effMode .load).2 ((s.hart h).effMode .load).1 false true = .entry e reads) :
    pageWalk s h = ((s.modHart h (fun x => { x with walk := none })).modHart h (fun x => x.afterWalk reads)).modHart h
      (fun x => x.fillTlbs .load e) := by
  have hkept : (((s.modHart h (fun x => { x with walk := none })).modHart h (fun x => x.afterWalk reads)).hart h).locked = [] := by
    simpa using hnone
  simp [pageWalk, hwalk, hexec, hstore, hspec, hleaf, howned, State.walkFill_unlocked _ _ _ hspec hkept]

theorem pageWalk_faults {e : Exc} (hhint : w.hint = false) (hcbo : w.cbo = false)
    (hfault : s.walkFull h w.va .load ((s.hart h).effMode .load).2 ((s.hart h).effMode .load).1 false true = .exc e) :
    pageWalk s h = (s.modHart h (fun x => { x with walk := none })).raise h e := by
  simp [pageWalk, State.walkFault, hwalk, hexec, hstore, hspec, hhint, hcbo, hfault]

end

/-- Settles O16: the operations on the locked entries, then the page walk by what it comes to. -/
theorem translation : Obligations.Translation := by
  unfold Obligations.Translation
  refine ⟨⟨fun _ _ v => exec_tlbUnlock_ready v, fun _ _ v => exec_tlbQuery_ready v, ?lock⟩, ?need, ?leaf, ?fault⟩
  case lock =>
    intro s h v e reads hready hm hreserved hvirt hlevels hva hleaf howned hnone
    exact exec_tlbLock_placed hready hm hreserved ((State.lockWalk_walks hvirt hlevels hva).trans (congrArg Sum.inr hleaf)) howned hnone
  case need =>
    intro s h l w hlive hwalk hexec hstore hneed
    rw [exec_pageWalk_live hlive, pageWalk_need hwalk hexec hstore hneed]
  case leaf =>
    intro s h w e reads hlive hwalk hexec hstore hspec hnone howned hleaf
    refine ⟨_, (exec_pageWalk_live hlive).trans (congrArg Host.Outcome.next
      (pageWalk_fills hwalk hexec hstore hspec hnone howned hleaf)), ?_⟩
    have hin := ((s.modHart_inHart h (fun x => { x with walk := none })).trans (State.modHart_inHart _ h (fun x => x.afterWalk reads))).trans
      (State.modHart_inHart _ h (fun x => x.fillTlbs .load e))
    exact ⟨hin.parts, hin.other, by simp⟩
  case fault =>
    intro s h w e hlive hwalk hexec hstore hspec hhint hcbo hfault
    rw [exec_pageWalk_live hlive, pageWalk_faults hwalk hexec hstore hspec hhint hcbo hfault]

end Sys2Proof.Machine
end

section
/-! PROOFS. Cache control (R150, R153, R154, R158): the whole-cache operations and L2_WAYCFG of a core, and a Quire's page in an L3 slice. -/

namespace Sys2Proof.Machine

/-! ### A hart put back with its write-back buffers (R175) -/

theorem State.foldl_sendCoh_only {α : Type} (f : State → α → CohMsg) (l : List α) (s : State) :
    ∃ n, l.foldl (fun s a => s.sendCoh (f s a)) s = { s with net := n } := by
  induction l generalizing s with
  | nil => exact ⟨s.net, rfl⟩
  | cons a l ih =>
    obtain ⟨n, hn⟩ := ih (s.sendCoh (f s a))
    exact ⟨n, hn⟩

/-- A hart's new state, and messages sent, are all that `putHart` changes. -/
theorem State.putHart_only (s : State) (h : Nat) (x : Hart) : ∃ n, s.putHart h x = { s.setHart h x with net := n } :=
  State.foldl_sendCoh_only _ _ _

@[simp] theorem State.hart_putHart_same (s : State) (h : Nat) (x : Hart) : (s.putHart h x).hart h = x := by
  obtain ⟨n, hn⟩ := s.putHart_only h x
  rw [hn]
  exact s.hart_setHart_same h x

theorem State.putHart_parts (s : State) (h : Nat) (x : Hart) : s.changesOnly [.harts, .net] (s.putHart h x) := by
  obtain ⟨n, hn⟩ := s.putHart_only h x
  rw [hn]
  exact s.changesOnly_harts_net _ _

/-! ### Lines that leave a core (R145, R147, R153) -/

/-- The L1D and the victim cache hold nothing. -/
structure Hart.NoL1 (x : Hart) : Prop where
  l1d : x.l1d = []
  vc : x.vc = []

@[simp] theorem Hart.count_l2 (x : Hart) (n k : Nat) : (x.count n k).l2 = x.l2 := x.count_frame Hart.l2 (fun _ _ _ _ => rfl) n k
@[simp] theorem Hart.count_vc (x : Hart) (n k : Nat) : (x.count n k).vc = x.vc := x.count_frame Hart.vc (fun _ _ _ _ => rfl) n k

@[simp] theorem Hart.evictOut_l2 (x : Hart) (core now : Nat) (c : CLine) : (x.evictOut core now c).l2 = x.l2 := by
  unfold Hart.evictOut
  dsimp only
  (repeat' split) <;> simp [Hart.dropGuesses]

/-- A line that leaves a core brings nothing into its L1D or its victim cache. -/
theorem Hart.NoL1.evictOut {x : Hart} (hx : x.NoL1) (core now : Nat) (c : CLine) : (x.evictOut core now c).NoL1 := by
  obtain ⟨hl1d, hvc⟩ := hx
  unfold Hart.evictOut
  dsimp only
  (repeat' split) <;> constructor <;> simp [Hart.dropGuesses, hl1d, hvc]

theorem Hart.NoL1.writeDown {x : Hart} (hx : x.NoL1) (core now : Nat) (c : CLine) : (x.writeDown core now c).NoL1 := by
  unfold Hart.writeDown
  split
  · split
    · exact ⟨hx.l1d, hx.vc⟩
    · exact hx
  · exact hx.evictOut core now c

theorem Hart.flushL1_noL1 (x : Hart) (core now : Nat) : (x.flushL1 core now).NoL1 :=
  List.foldlRecOn _ _ ⟨rfl, rfl⟩ fun _ hy c _ => hy.writeDown core now c

theorem Hart.NoL1.flushL2Where {x : Hart} (hx : x.NoL1) (core now : Nat) (keepWay : Bool) (p : Nat → CLine → Bool) :
    (x.flushL2Where core now keepWay p).NoL1 :=
  List.foldlRecOn _ _ ⟨hx.l1d, hx.vc⟩ fun _ hy e _ => hy.evictOut core now e.2

/-- What a flush that keeps locked ways leaves in the L2: what it does not concern, and locked ways without data (R152, R153). -/
theorem Hart.mem_flushL2Where {x : Hart} {core now : Nat} {p : Nat → CLine → Bool} {e : Nat × CLine}
    (he : e ∈ (x.flushL2Where core now true p).l2) : p e.1 e.2 = false ∨ (e.2.locked = true ∧ e.2.st = .i) := by
  have hleft : (x.flushL2Where core now true p).l2
      = (x.l2.map (fun e => if p e.1 e.2 && e.2.locked && true then (e.1, { e.2 with st := .i, unconf := false }) else e)).filter
        (fun e => !(p e.1 e.2 && !(e.2.locked && true))) :=
    foldl_frame Hart.l2 _ _ _ fun _ _ => Hart.evictOut_l2 ..
  rw [hleft, List.mem_filter, List.mem_map] at he
  obtain ⟨⟨o, -, rfl⟩, hkept⟩ := he
  split at hkept
  · next hlocked =>
    obtain ⟨-, hlock⟩ : p o.1 o.2 = true ∧ o.2.locked = true := by simpa using hlocked
    rw [if_pos hlocked]
    exact .inr ⟨hlock, rfl⟩
  · next hother =>
    rw [if_neg hother]
    refine .inl (Bool.eq_false_iff.mpr fun hp => hother ?_)
    simpa [hp] using hkept

/-! ### CACHE_CTL and L2_WAYCFG (R150, R153) -/

/-- An operation written to CACHE_CTL without reserved bits runs on an idle core (R153). -/
theorem writeCacheCtl_runs {s : State} {h core : Nat} {v : Word} (hquire : s.mHartOf (.hart h) (s.hart core).qid = true)
    (hidle : (s.hart core).cacheOp = 0) (hown : v &&& ~~~(word 0x8000000000000007) = 0) (hop : fieldOf v 0 3 ≠ 0 ∧ fieldOf v 0 3 ≤ 4) :
    writeCacheCtl s (.hart h) core v
      = s.putHart core { (s.hart core).cacheRun (hartCore core) s.time.now (fieldOf v 0 3) with cacheOp := fieldOf v 0 3 } := by
  have hop' : ¬(fieldOf v 0 3 = 0 ∨ 4 < fieldOf v 0 3) := by omega
  simp [writeCacheCtl, hquire, hidle, State.reserved_own _ _ _ _ hown, hop']

/-- A command that writes CACHE_CTL, as a ready hart of the core's Quire gives it. -/
theorem State.cacheCtl_command {s : State} {h core : Nat} {v : Word} (hcore : core < hartCount) (hready : s.readySide h = true)
    (hquire : s.mHartOf (.hart h) (s.hart core).qid = true) (hidle : (s.hart core).cacheOp = 0)
    (hown : v &&& ~~~(word 0x8000000000000007) = 0) (hop : fieldOf v 0 3 ≠ 0 ∧ fieldOf v 0 3 ≤ 4) :
    ∃ t, (.next (if core < hartCount then s.access h (fun s => writeCacheCtl s (.hart h) core v) else s) : Result) = .next t
      ∧ t.hart core = { (s.hart core).cacheRun (hartCore core) s.time.now (fieldOf v 0 3) with cacheOp := fieldOf v 0 3 }
      ∧ s.changesOnly [.harts, .net] t := by
  refine ⟨_, rfl, ?_⟩
  rw [if_pos hcore, State.access_of_readySide _ hready, writeCacheCtl_runs hquire hidle hown hop]
  exact ⟨s.hart_putHart_same core _, s.putHart_parts core _⟩

/-- L2_WAYCFG takes a permitted value without reserved bits (R150). -/
theorem exec_l2WaycfgWrite_allowed {s : State} {h core : Nat} {v : Word} (hcore : core < hartCount) (hready : s.readySide h = true)
    (hallowed : s.waycfgAllowed (.hart h) core = true) (hv : v.toNat < 16) :
    ∃ t, exec (.l2WaycfgWrite h core v) s = .next t ∧ (t.hart core).l2Secure = BitVec.ofNat 4 v.toNat ∧ s.changesOnly [.harts, .net] t := by
  have hown : v &&& ~~~(word 0xF) = 0 := by
    refine BitVec.eq_of_getLsbD_eq fun i hi => ?_
    rw [BitVec.getLsbD_and]
    by_cases hlow : i < 4
    · have hfield : (~~~(word 0xF)).getLsbD i = false := by interval_cases i <;> decide
      simp [hfield]
    · have hhigh : v.getLsbD i = false := Nat.testBit_lt_two_pow (hv.trans_le (Nat.pow_le_pow_right (n := 2) (by decide) (not_lt.mp hlow)))
      simp [hhigh]
  have hfield : fieldOf v 0 4 = v.toNat := by
    simp [fieldOf, bitsOf, Nat.mod_eq_of_lt hv]
  obtain ⟨x, hx, hwrite⟩ : ∃ x : Hart, x.l2Secure = BitVec.ofNat 4 v.toNat ∧ writeWaycfg s (.hart h) core v = s.putHart core x :=
    ⟨_, congrArg (BitVec.ofNat 4) hfield, by simp only [writeWaycfg, hallowed, State.reserved_own _ _ _ _ hown]; rfl⟩
  refine ⟨s.putHart core x, ?_, ?_, s.putHart_parts core x⟩
  · change execL2WaycfgWrite h core v s = _
    rw [execL2WaycfgWrite, if_pos hcore, State.access_of_readySide _ hready, hwrite]
  · rw [State.hart_putHart_same, hx]

/-! ### A Quire's page in a slice (R154, R158) -/

theorem State.slice_congr {s t : State} (h : t.slices = s.slices) (n : Nat) : t.slice n = s.slice n := by rw [State.slice, State.slice, h]

@[simp] theorem State.reserved_slice (s : State) (who : Agent) (die block off : Nat) (v : Word) (own n : Nat) :
    (s.reserved who die block off v own).slice n = s.slice n := by
  unfold State.reserved
  split
  · rfl
  · exact State.slice_congr (s.log_slices _) n

@[simp] theorem State.lockRejected_slice (s : State) (who : Agent) (n q reg : Nat) (v : Word) (k : Nat) :
    (s.lockRejected who n q reg v).slice k = s.slice k := State.slice_congr (s.log_slices _) k

@[simp] theorem State.queueWrite_slice (s : State) (l : Nat) (d : Line) (p : Poison) (n : Nat) : (s.queueWrite l d p).slice n = s.slice n := by
  unfold State.queueWrite
  split <;> rfl

@[simp] theorem Slice.quire_set (t : Slice) (ls : Tab L3Line) (q : Nat) (m : L3Q) :
    ({ t with lines := ls, q := Tab.set t.q q m } : Slice).quire q = m := Tab.get_set_same ..

theorem State.setL3q_slice (s : State) (n q : Nat) (m : L3Q) : (s.setL3q n q m).slice n = { s.slice n with q := Tab.set (s.slice n).q q m } :=
  s.slice_modSlice_same n _

theorem bitOf_eq_getLsbD {w : Nat} (v : BitVec w) (i : Nat) : bitOf v.toNat i = v.getLsbD i := by
  rw [BitVec.getLsbD, Nat.testBit_eq_decide_div_mod_eq, bitOf, beq_eq_decide]

theorem State.lockWays_quire (s : State) (n q : Nat) (v : Word) :
    (((s.lockWays n q v).slice n).quire q).lockedWays = BitVec.ofNat 16 (fieldOf v 0 16) &&& ((s.slice n).quire q).lockMask := by
  simp [State.lockWays, State.setL3q_slice]

/-- A flush of ways leaves the slice's pages as they were, and no valid line in those ways (R152, R158). -/
theorem State.flushWays_slice (s : State) (n locked : Nat) (ways : BitVec 16) :
    ((s.flushWays n ways.toNat locked).slice n).q = (s.slice n).q
      ∧ ∀ e ∈ ((s.flushWays n ways.toNat locked).slice n).lines, ways.getLsbD (e.1 % 16) = true → e.2.valid = false := by
  have hslice : ∀ (l : List (Nat × L3Line)) (t : State),
      (l.foldl (fun s e => s.queueWrite e.2.line e.2.data e.2.poison) t).slice n = t.slice n :=
    fun l t => foldl_frame (State.slice · n) _ l t fun _ _ => State.queueWrite_slice ..
  unfold State.flushWays
  rw [State.slice_modSlice_same, hslice]
  refine ⟨rfl, fun e he hway => ?_⟩
  obtain ⟨hmem, hkept⟩ := List.mem_filter.mp he
  obtain ⟨o, -, rfl⟩ := List.mem_map.mp hmem
  split at hkept
  · next hlocked => rw [if_pos hlocked]
  · next hother =>
    rw [if_neg hother, ← bitOf_eq_getLsbD] at hway
    exact absurd hkept (by simpa [hway] using hother)

section
variable {s : State} {h n q : Nat} (hn : n < 48) (hq : q < 256) (hready : s.readySide h = true) (hquire : s.mHartOf (.hart h) q = true)
  (hrecord : s.bind.hasSlice n q = true) (hidle : ((s.slice n).quire q).busy = false)

include hn hq hready in
/-- A command that writes a register of a Quire's page, as a ready hart gives it. -/
theorem State.l3q_command (reg : Nat) (v : Word) :
    (if n < 48 ∧ q < 256 then s.access h (fun s => writeL3q s (.hart h) n q reg v) else s) = writeL3q s (.hart h) n q reg v := by
  rw [if_pos ⟨hn, hq⟩, State.access_of_readySide _ hready]

include hquire hrecord hidle

/-- L3Q_CTL written without reserved bits reseeds, flushes, or both (R158). -/
theorem writeL3q_ctl {v : Word} (hown : v &&& ~~~(word 3) = 0) : writeL3q s (.hart h) n q 0x18 v
    = (let m := if flagOf v 0 then { (s.slice n).quire q with lfsr := some (s.bind.sliceSeed n q) } else (s.slice n).quire q
       if flagOf v 1 then (s.setL3q n q { m with busy := true }).flushWays n (m.wayMask ||| m.govMask).toNat m.lockedWays.toNat
       else s.setL3q n q m) := by
  simp only [writeL3q, hquire, hrecord, hidle, if_true, Bool.not_true, Bool.false_eq_true, if_false, State.reserved_own _ _ _ _ hown]

include hn hq hready

theorem exec_l3qLockWrite_idle (v : Word) : ∃ t, exec (.l3qLockWrite h n q v) s = .next t
    ∧ ((t.slice n).quire q).lockedWays = BitVec.ofNat 16 (fieldOf v 0 16) &&& ((s.slice n).quire q).lockMask := by
  refine ⟨_, congrArg Host.Outcome.next (State.l3q_command hn hq hready 0x08 v), ?_⟩
  simp only [writeL3q, hquire, hrecord, hidle, Bool.not_true, Bool.false_eq_true, if_false, State.lockWays_quire]
  split <;> simp

theorem exec_l3qFillWrite_idle (v : Word) : ∃ t, exec (.l3qFillWrite h n q v) s = .next t
    ∧ ((t.slice n).quire q).fillWays
      = BitVec.ofNat 16 (fieldOf v 0 16) &&& ((s.slice n).quire q).lockMask &&& ~~~((s.slice n).quire q).lockedWays := by
  refine ⟨_, congrArg Host.Outcome.next (State.l3q_command hn hq hready 0x10 v), ?_⟩
  simp [writeL3q, hquire, hrecord, hidle, State.setL3q_slice]

theorem exec_l3qFlush_idle : ∃ t, exec (.l3qFlush h n q) s = .next t ∧ ((t.slice n).quire q).busy = true
    ∧ ∀ e ∈ (t.slice n).lines,
        (((s.slice n).quire q).wayMask ||| ((s.slice n).quire q).govMask).getLsbD (e.1 % 16) = true → e.2.valid = false := by
  refine ⟨_, congrArg Host.Outcome.next (State.l3q_command hn hq hready 0x18 2), ?_⟩
  obtain ⟨hpages, hlines⟩ := (s.setL3q n q { (s.slice n).quire q with busy := true }).flushWays_slice n
    ((s.slice n).quire q).lockedWays.toNat (((s.slice n).quire q).wayMask ||| ((s.slice n).quire q).govMask)
  rw [writeL3q_ctl hquire hrecord hidle (by decide)]
  refine ⟨?_, hlines⟩
  rw [State.setL3q_slice] at hpages
  exact congrArg L3Q.busy ((congrArg (Tab.get · L3Q.reset q) hpages).trans (Tab.get_set_same ..))

theorem exec_l3qReseed_idle : ∃ t, exec (.l3qReseed h n q) s = .next t ∧ ((t.slice n).quire q).lfsr = some (s.bind.sliceSeed n q)
    ∧ (t.slice n).lines = (s.slice n).lines := by
  refine ⟨_, congrArg Host.Outcome.next (State.l3q_command hn hq hready 0x18 1), ?_⟩
  have hslice := s.setL3q_slice n q { (s.slice n).quire q with lfsr := some (s.bind.sliceSeed n q) }
  rw [writeL3q_ctl hquire hrecord hidle (by decide)]
  have hlines := congrArg Slice.lines hslice
  exact ⟨congrArg L3Q.lfsr ((congrArg (Slice.quire · q) hslice).trans (Slice.quire_set ..)), hlines⟩

end

theorem State.changesOnly_slices (s : State) (t : Tab Slice) : s.changesOnly [.slices] { s with slices := t } := by
  intro p hp
  cases p with
  | slices => simp at hp
  | _ => rfl

theorem exec_l3qFlushDone_busy {s : State} {n q : Nat} (hn : n < 48) (hbusy : ((s.slice n).quire q).busy = true) :
    ∃ t, exec (.l3qFlushDone n q) s = .next t ∧ ((t.slice n).quire q).busy = false ∧ s.changesOnly [.slices] t := by
  refine ⟨_, congrArg Host.Outcome.next (if_pos ⟨hn, hbusy⟩), ?_, s.changesOnly_slices _⟩
  rw [State.setL3q_slice, Slice.quire_set]

/-! ### O26 -/

/-- Settles O26: each whole-cache operation by what it leaves in the core's caches, each write of a Quire's page by what it leaves there. -/
theorem cacheControl : Obligations.Cache_control := by
  unfold Obligations.Cache_control
  refine ⟨⟨?wholeCache, fun s core hcore => congrArg Host.Outcome.next (if_pos hcore), ?waycfg⟩, ?page, ?flushDone⟩
  case wholeCache =>
    intro s h core hcore hready hquire hidle
    have hflushed := (s.hart core).flushL1_noL1 (hartCore core) s.time.now
    have hruns := fun v : Word => State.cacheCtl_command (v := v) hcore hready hquire hidle
    refine ⟨?flushL1d, ?flushL2, ?flushAll, ?unlockAll⟩
    case flushL1d =>
      obtain ⟨t, ht, hhart, hparts⟩ := hruns 1 (by decide) (by decide)
      refine ⟨t, ht, ?_⟩
      rw [hhart]
      exact ⟨rfl, hflushed.l1d, hflushed.vc, hparts⟩
    case flushL2 =>
      obtain ⟨t, ht, hhart, hparts⟩ := hruns 2 (by decide) (by decide)
      refine ⟨t, ht, ?_⟩
      rw [hhart]
      refine ⟨rfl, (hflushed.flushL2Where ..).l1d, fun e he => ?_, hparts⟩
      rcases Hart.mem_flushL2Where he with hkept | ⟨hlocked, -⟩
      · simpa using hkept
      · exact hlocked
    case flushAll =>
      obtain ⟨t, ht, hhart, hparts⟩ := hruns 3 (by decide) (by decide)
      refine ⟨t, ht, ?_⟩
      rw [hhart]
      refine ⟨rfl, (hflushed.flushL2Where ..).l1d, fun e he => ?_, hparts⟩
      rcases Hart.mem_flushL2Where he with hkept | ⟨-, hinvalid⟩
      · exact Bool.noConfusion hkept
      · exact hinvalid
    case unlockAll =>
      obtain ⟨t, ht, hhart, hparts⟩ := hruns 4 (by decide) (by decide)
      refine ⟨t, ht, ?_⟩
      rw [hhart]
      refine ⟨rfl, fun e he => ?_, rfl, hparts⟩
      obtain ⟨o, -, rfl⟩ := List.mem_map.mp he
      rfl
  case waycfg =>
    intro s h core v hcore hready hallowed hv
    exact exec_l2WaycfgWrite_allowed hcore hready hallowed hv
  case page =>
    intro s h n q v hn hq hready hquire hrecord hidle
    exact ⟨exec_l3qLockWrite_idle hn hq hready hquire hrecord hidle v, exec_l3qFillWrite_idle hn hq hready hquire hrecord hidle v,
      exec_l3qFlush_idle hn hq hready hquire hrecord hidle, exec_l3qReseed_idle hn hq hready hquire hrecord hidle⟩
  case flushDone =>
    intro s n q hn hbusy
    exact exec_l3qFlushDone_busy hn hbusy

end Sys2Proof.Machine
end

section
/-! PROOFS. Cache-block operations (R160): what cbo.clean, cbo.flush, cbo.inval and cbo.zero leave of a block in the cores, in the L3 and
on its way to memory. -/

namespace Sys2Proof.Machine

/-! ### Copies of a line in one core (R152, R167, R175) -/

theorem findLine_filter_none (t : Tab CLine) (l : Nat) : findLine (t.filter (fun e => !(e.2.line == l && e.2.st.valid))) l = none :=
  List.find?_eq_none.mpr fun _ he => Bool.eq_false_iff.mp ((Bool.not_eq_true' _).mp (List.mem_filter.mp he).2)

@[simp] theorem findLine_dropLine (t : Tab CLine) (l : Nat) : findLine (dropLine t l) l = none := findLine_filter_none t l
@[simp] theorem findLine_dropL2 (t : Tab CLine) (l : Nat) : findLine (dropL2 t l) l = none := findLine_filter_none _ l

/-- A core whose copies of a line have left holds none. -/
@[simp] theorem Hart.dropCopies_lineSt (x : Hart) (l : Nat) : (x.dropCopies l).lineSt l = .i := by
  simp [Hart.lineSt, Hart.dropCopies, Mesi.max]

/-- A core that no write-back of a line keeps gives the line up to an invalidating snoop. -/
theorem Hart.answer_drops {x : Hart} {l : Nat} (hwbs : x.wbs.find? (fun w => w.line == l) = none) :
    ((x.answer true l).2.2.2).lineSt l = .i := by
  unfold Hart.answer
  rw [hwbs]
  cases hst : x.lineSt l with
  | i => exact hst
  | s => exact x.dropCopies_lineSt l
  | e => exact x.dropCopies_lineSt l
  | m => exact x.dropCopies_lineSt l

theorem Mesi.max_ne_m {a b : Mesi} (ha : a ≠ .m) (hb : b ≠ .m) : a.max b ≠ .m := by
  unfold Mesi.max
  split <;> assumption

/-- Once every copy of a line in a cache is changed to a state other than M, the cache does not hold it in M. -/
theorem findLine_mapLine_ne_m {f : CLine → CLine} (hf : ∀ c, (f c).st ≠ .m) (t : Tab CLine) (l : Nat) :
    ((findLine (mapLine t l f) l).map (·.2.st)).getD .i ≠ .m := by
  cases hfind : findLine (mapLine t l f) l with
  | none => exact Mesi.noConfusion
  | some e =>
    obtain ⟨o, -, ho⟩ := List.mem_map.mp (List.mem_of_find?_eq_some hfind)
    obtain ⟨hline, hvalid⟩ := findLine_some hfind
    split at ho
    · rw [← ho]
      exact hf o.2
    · next hother => simp [ho, hline, hvalid] at hother

/-- A core whose copies of a line have been made clean does not hold it in M. -/
theorem Hart.cleanCopies_lineSt (x : Hart) (l : Nat) (v : Line × Poison) : (x.cleanCopies l v).lineSt l ≠ .m := by
  unfold Hart.cleanCopies
  split
  · have hclean := findLine_mapLine_ne_m (f := fun c => { c with st := .e, data := v.1, poison := v.2 }) fun _ => Mesi.noConfusion
    refine Mesi.max_ne_m (Mesi.max_ne_m (Mesi.max_ne_m (hclean x.l1d l) (hclean x.vc l)) (hclean x.l2 l)) ?_
    split <;> exact Mesi.noConfusion
  · assumption

/-! ### Copies of a line in every core (R160) -/

theorem Tab.mem_of_find {α : Type} {t : Tab α} {k : Nat} {v : α} (h : Tab.find t k = some v) : (k, v) ∈ t := by
  induction t with
  | nil => exact absurd h nofun
  | cons e rest ih =>
    obtain ⟨j, w⟩ := e
    rw [Tab.find] at h
    split at h
    · next hj =>
      obtain rfl : w = v := Option.some.inj h
      exact hj ▸ .head _
    · exact .tail _ (ih h)

/-- A change of every hart that leaves a reset hart as it is changes each hart. -/
theorem State.hart_mapHarts (s : State) {f : Hart → Hart} (hf : f Hart.reset = Hart.reset) (k : Nat) :
    ({ s with harts := s.harts.map (fun e => (e.1, f e.2)) } : State).hart k = f (s.hart k) :=
  Tab.get_mapAll s.harts Hart.reset Hart.reset (fun _ => f) k hf

/-- Where an operation on a block need not wait, no core writes the block's line back (R175). -/
theorem State.wbs_of_not_blockBusy {s : State} {h l : Nat} (hidle : s.blockBusy h l = false) (k : Nat) :
    (s.hart k).wbs.find? (fun w => w.line == l) = none := by
  rw [State.blockBusy] at hidle
  simp only [Bool.or_eq_false_iff, List.any_eq_false] at hidle
  obtain ⟨⟨-, hharts⟩, -⟩ := hidle
  cases hfind : Tab.find s.harts k with
  | none => simp [State.hart, Tab.get, hfind, Hart.reset]
  | some x =>
    have hx : s.hart k = x := by simp [State.hart, Tab.get, hfind]
    obtain ⟨hwbs, -⟩ := Bool.or_eq_false_iff.mp (Bool.eq_false_iff.mpr (hharts _ (Tab.mem_of_find hfind)))
    rw [hx, List.find?_eq_none]
    exact List.any_eq_false.mp hwbs

theorem State.changesOnly_harts_slices (s : State) (hs : Tab Hart) (t : Tab Slice) :
    s.changesOnly [.harts, .slices] { s with harts := hs, slices := t } := by
  intro p hp
  cases p with
  | harts | slices => simp at hp
  | _ => rfl

theorem State.changesOnly_mem (s : State) (m : MemSys) : s.changesOnly [.mem] { s with mem := m } := by
  intro p hp
  cases p with
  | mem => simp at hp
  | _ => rfl

theorem State.queueWrite_of_not_retired {s : State} {l : Nat} (d : Line) (p : Poison) (hok : s.retired (64 * l) = false) :
    s.queueWrite l d p = { s with mem := { s.mem with wpq := s.mem.wpq ++ [{ line := l, data := d, poison := p }] } } := by
  simp [State.queueWrite, hok]

theorem State.homeOf_congr {s t : State} (hslices : t.slices = s.slices) (hclasp : t.clasp = s.clasp) (a : Nat) : t.homeOf a = s.homeOf a := by
  rw [State.homeOf, State.homeOf, State.bind, State.bind, hclasp, State.follow_congr hslices]

/-- A line taken out of a slice is not found there (R152). -/
theorem Slice.dropL3_find (t : Slice) (l : Nat) : l3Find (t.dropL3 l) l = none := by
  refine List.find?_eq_none.mpr fun e he => ?_
  obtain ⟨o, -, rfl⟩ := List.mem_map.mp he
  split
  · simp
  · next hother => simp [hother]

/-- A block dropped leaves no copy in a core that writes none back, and none in the L3 (R160). -/
theorem State.dropBlock_drops {s : State} {l : Nat} (hwbs : ∀ k, (s.hart k).wbs.find? (fun w => w.line == l) = none) :
    (∀ k, ((s.dropBlock l).hart k).lineSt l = .i) ∧ l3Find ((s.dropBlock l).slice (s.homeOf (64 * l))) l = none
      ∧ s.changesOnly [.harts, .slices] (s.dropBlock l) := by
  refine ⟨fun k => ?_, ?_, s.changesOnly_harts_slices _ _⟩
  · have hhart : (s.dropBlock l).hart k = ((s.hart k).answer true l).2.2.2 :=
      s.hart_mapHarts (f := fun x => (x.answer true l).2.2.2) rfl k
    rw [hhart]
    exact Hart.answer_drops (hwbs k)
  · have hhome := State.homeOf_congr (s := s) (t := { s with harts := s.harts.map (fun e => (e.1, (e.2.answer true l).2.2.2)) }) rfl rfl (64 * l)
    rw [State.dropBlock, hhome, State.slice_modSlice_same]
    exact Slice.dropL3_find _ l

/-- A dirty block cleaned is queued for memory, and no core holds it in M (R160, R263). -/
theorem State.cleanBlock_cleans {s : State} {l : Nat} {v : Line × Poison} (hdirty : s.dirtyBlock l = some v)
    (hok : s.retired (64 * l) = false) :
    (s.cleanBlock l).mem.wpq = s.mem.wpq ++ [{ line := l, data := v.1, poison := v.2 }] ∧ (∀ k, ((s.cleanBlock l).hart k).lineSt l ≠ .m)
      ∧ s.changesOnly [.harts, .slices, .mem] (s.cleanBlock l) := by
  simp only [State.cleanBlock, hdirty, State.queueWrite_of_not_retired _ _ hok]
  refine ⟨rfl, fun k => ?_, State.changesOnly_trans (s.changesOnly_mem _ |>.mono (qs := [.harts, .slices, .mem]) (by simp))
    (State.changesOnly_harts_slices _ _ _ |>.mono (by simp))⟩
  have hhart := s.hart_mapHarts (f := fun x => x.cleanCopies l v) rfl k
  exact fun hm => Hart.cleanCopies_lineSt (s.hart k) l v (hhart ▸ hm)

/-- A dirty block flushed is queued for memory and dropped (R160). -/
theorem State.flushBlock_of_dirty {s : State} {l : Nat} {v : Line × Poison} (hdirty : s.dirtyBlock l = some v) :
    s.flushBlock l = (s.queueWrite l v.1 v.2).dropBlock l := by
  simp [State.flushBlock, hdirty]

/-! ### The hart that gives the operation (R113, R126, R160) -/

theorem Hart.noteLookup_frame {α : Type} (x : Hart) (g : Hart → α) (hcount : ∀ (y : Hart) n, g (y.count n 1) = g y)
    (htlb : ∀ (y : Hart) a b, g { y with itlb := a, dtlb := b } = g y) (k : AccKind) (va : Word) (spec : Bool) :
    g (x.noteLookup k va spec) = g x := by
  unfold Hart.noteLookup
  dsimp only
  split
  · next e _ =>
    split
    · rfl
    · obtain ⟨a, b, hconfirm⟩ := x.confirmTlb_only k e
      rw [hconfirm, htlb]
  · exact hcount x _
  · exact hcount x _
  · rw [hcount, hcount]

/-- What translating an access leaves of its hart. -/
theorem State.noteXlate_frame {α : Type} (s : State) (h : Nat) (g : Hart → α) (hcount : ∀ (y : Hart) n, g (y.count n 1) = g y)
    (htlb : ∀ (y : Hart) a b, g { y with itlb := a, dtlb := b } = g y) (k : AccKind) (va : Word) (spec : Bool) :
    g ((s.noteXlate h k va spec).hart h) = g (s.hart h) := by
  rw [State.noteXlate, State.hart_modHart_same]
  split
  · rfl
  · exact Hart.noteLookup_frame _ g hcount htlb k va spec

theorem State.locateBlock_located {s u : State} {h l : Nat} {va : Word} {p : AccPlace} (hlocate : s.locateBlock h va = .inr (u, l, p)) :
    u = s.noteXlate h .load va false := by
  unfold State.locateBlock at hlocate
  dsimp only at hlocate
  split at hlocate
  · exact absurd hlocate nofun
  · exact absurd hlocate nofun
  · split at hlocate <;> cases hlocate <;> rfl

theorem State.locateBlock_mode {s u : State} {h l : Nat} {va : Word} {p : AccPlace} (hlocate : s.locateBlock h va = .inr (u, l, p)) :
    (u.hart h).mode = (s.hart h).mode := by
  rw [State.locateBlock_located hlocate]
  exact s.noteXlate_frame h Hart.mode (by simp) (fun _ _ _ => rfl) ..

theorem Hart.cboDenied_m {x : Hart} (hm : x.mode = .m) (on : Word → Bool) : x.cboDenied on = none := if_pos hm

/-- In M-mode cbo.inval never acts as a flush. -/
theorem Hart.invalFlushes_m {x : Hart} (hm : x.mode = .m) : x.invalFlushes = false := by
  simp [Hart.invalFlushes, hm]

theorem State.spend_hart_wbs (s : State) (h k : Nat) : ((s.spend h).hart k).wbs = (s.hart k).wbs := by
  by_cases hk : k = h
  · rw [hk, State.spend, State.hart_modHart_same]
  · exact congrArg Hart.wbs ((s.modHart_inHart h _).other k hk)

theorem State.spend_only (s : State) (h : Nat) (ps : List Piece) : s.changesOnly (.harts :: ps) (s.spend h) :=
  (s.modHart_inHart h _).parts.mono (by simp)

section
variable {s u : State} {h l : Nat} {va : Word} {v : Line × Poison} (hready : s.ready h = true) (hm : (s.hart h).mode = .m)
  (hlocate : s.locateBlock h va = .inr (u, l, .ordinary)) (hidle : u.blockBusy h l = false) (hpaired : (u.hart h).paired = false)
include hready hm hlocate hidle hpaired

/-- An operation of an M-mode hart on a block that nothing else concerns has its effect at once. -/
theorem State.cbo_acts {k : CboKind} (hports : u.portHolders l (decide (k = .clean)) = []) :
    s.instr h (fun s => cboOp s h va k) = k.act (u.hart h) (u.spend h) l := by
  rw [State.instr_of_ready _ hready]
  simp [cboOp, Hart.cboDenied_m hm, hlocate, hidle, State.isReleased_alone _ _ _ _ _ _ _ hpaired, hports]

theorem exec_cboClean_dirty (hports : u.portHolders l true = []) (hdirty : (u.spend h).dirtyBlock l = some v)
    (hok : u.retired (64 * l) = false) :
    ∃ t, exec (.cboClean h va) s = .next t ∧ t.mem.wpq = u.mem.wpq ++ [{ line := l, data := v.1, poison := v.2 }]
      ∧ (∀ k, (t.hart k).lineSt l ≠ .m) ∧ u.changesOnly [.harts, .slices, .mem] t := by
  obtain ⟨hqueued, hclean, hparts⟩ := State.cleanBlock_cleans hdirty hok
  exact ⟨_, congrArg Host.Outcome.next (State.cbo_acts (k := .clean) hready hm hlocate hidle hpaired hports), hqueued, hclean,
    State.changesOnly_trans (u.spend_only h _) hparts⟩

theorem exec_cboFlush_dirty (hports : u.portHolders l false = []) (hdirty : (u.spend h).dirtyBlock l = some v)
    (hok : u.retired (64 * l) = false) :
    ∃ t, exec (.cboFlush h va) s = .next t ∧ t.mem.wpq = u.mem.wpq ++ [{ line := l, data := v.1, poison := v.2 }]
      ∧ (∀ k, (t.hart k).lineSt l = .i) ∧ l3Find (t.slice (u.homeOf (64 * l))) l = none ∧ u.changesOnly [.harts, .slices, .mem] t := by
  have hact : CboKind.act .flush (u.hart h) (u.spend h) l = ((u.spend h).queueWrite l v.1 v.2).dropBlock l := State.flushBlock_of_dirty hdirty
  have hqueue := State.queueWrite_of_not_retired (s := u.spend h) v.1 v.2 hok
  refine ⟨_, congrArg Host.Outcome.next (State.cbo_acts (k := .flush) hready hm hlocate hidle hpaired hports), ?_⟩
  rw [hact, hqueue]
  obtain ⟨hcores, hl3, hparts⟩ := State.dropBlock_drops (l := l)
    (s := { u.spend h with mem := { (u.spend h).mem with wpq := (u.spend h).mem.wpq ++ [{ line := l, data := v.1, poison := v.2 }] } })
    fun k => (u.spend_hart_wbs h k).symm ▸ State.wbs_of_not_blockBusy hidle k
  exact ⟨rfl, hcores, hl3, State.changesOnly_trans (u.spend_only h _) (State.changesOnly_trans
    ((State.changesOnly_mem _ _).mono (by simp)) (hparts.mono (by simp)))⟩

theorem exec_cboInval_drops (hports : u.portHolders l false = []) :
    ∃ t, exec (.cboInval h va) s = .next t ∧ (∀ k, (t.hart k).lineSt l = .i) ∧ u.changesOnly [.harts, .slices] t := by
  have hact : CboKind.act .inval (u.hart h) (u.spend h) l = (u.spend h).dropBlock l := by
    simp [CboKind.act, Hart.invalFlushes_m ((State.locateBlock_mode hlocate).trans hm)]
  obtain ⟨hcores, -, hparts⟩ := State.dropBlock_drops (s := u.spend h) (l := l)
    fun k => (u.spend_hart_wbs h k).symm ▸ State.wbs_of_not_blockBusy hidle k
  exact ⟨_, congrArg Host.Outcome.next ((State.cbo_acts (k := .inval) hready hm hlocate hidle hpaired hports).trans hact), hcores,
    State.changesOnly_trans (u.spend_only h _) hparts⟩

end

/-! ### cbo.zero (R160, R175) -/

/-- A line that its core owns is filled with zeros in the L1D. -/
theorem State.ownAccess_zero {u : State} {h k pa : Nat} {va : Word} {c : CLine} (hpaired : (u.hart h).paired = false)
    (hbusy : (u.hart h).ncBusy (pa / 64) = false) (hfind : findLine (u.hart h).l1d (pa / 64) = some (k, c)) (hset : k / 8 = l1dSet va.toNat)
    (hown : c.st = .m ∨ c.st = .e) :
    ∃ t, u.ownAccess h va (pa / 64) (.zero va pa) = t ∧ u.InHart h t
      ∧ ∃ d, findLine (t.hart h).l1d (pa / 64) = some (k, d) ∧ d.st = .m ∧ d.data = 0 ∧ d.poison = 0 := by
  obtain ⟨hin, hhart⟩ := State.lookup_held false hfind hset
  rw [State.ownAccess_owned hbusy hfind hown]
  generalize (u.modHart h (fun x => x.noteData (pa / 64))).recallLine h va (pa / 64) false = r at hin hhart
  obtain ⟨t, hput, hwrite, -, hcopy⟩ := State.putHart_writeHeld (s := r) (h := h) (f := fun c => { c with data := 0, poison := 0 })
    r.bind (hartCore h) r.time.now (by simpa [hhart] using hpaired) (by simpa [hhart] using hfind) (fun _ => rfl)
  exact ⟨t, hput, hin.trans hwrite, _, hcopy, rfl, rfl, rfl⟩

theorem exec_cboZero_owned {s u : State} {h k pa : Nat} {va : Word} {c : CLine} (hready : s.ready h = true) (hm : (s.hart h).mode = .m)
    (htrig : s.trigFor h .store (word (va.toNat / 64 * 64)).toNat 64 none = none)
    (hlocate : s.locate h .store (word (va.toNat / 64 * 64)) 64 false = .inr (u, pa, .ordinary)) (hpaired : (u.hart h).paired = false)
    (hbusy : (u.hart h).ncBusy (pa / 64) = false) (hfind : findLine (u.hart h).l1d (pa / 64) = some (k, c))
    (hset : k / 8 = l1dSet (word (va.toNat / 64 * 64)).toNat) (hown : c.st = .m ∨ c.st = .e) :
    ∃ t, exec (.cboZero h va) s = .next t ∧ u.changesOnly [.harts] t
      ∧ ∃ d, findLine (t.hart h).l1d (pa / 64) = some (k, d) ∧ d.st = .m ∧ d.data = 0 ∧ d.poison = 0 := by
  have hspent : (u.spend h).hart h = { u.hart h with pairGo := none } := u.hart_modHart_same h _
  obtain ⟨t, hzero, hin, hcopy⟩ := State.ownAccess_zero (u := u.spend h) (va := word (va.toNat / 64 * 64)) (by rw [hspent, hpaired])
    (by rw [hspent]; exact hbusy) (by rw [hspent, hfind]) hset hown
  refine ⟨t, ?_, (State.InHart.trans (u.modHart_inHart h _) hin).parts, hcopy⟩
  change execCboZero h va s = _
  rw [execCboZero, State.instr_of_ready _ hready, State.watched_of_none _ htrig]
  simp [cboZero, Hart.cboDenied_m hm, hlocate, State.released, State.ownWaits_owned hbusy hfind hown,
    State.isReleased_alone _ _ _ _ _ _ _ hpaired, hzero]

end Sys2Proof.Machine
end

section
/-! PROOFS. Prefetches (R98, R101, R160): what a prefetch leaves of its hart, and the line that it asks for. -/

namespace Sys2Proof.Machine

/-! ### What a prefetch leaves of its hart (R98) -/

/-- What shows that an instruction has faulted or written a register: the pc, the mode, the registers and mcause. -/
def Hart.front (x : Hart) : Word × Mode × Tab Word × Word := (x.pc, x.mode, x.x, x.getCsr 0x342)

theorem Hart.count_front (x : Hart) (n k : Nat) : (x.count n k).front = x.front := by
  have hcsr : (x.count n k).getCsr 0x342 = x.getCsr 0x342 := x.count_getCsr n k (by decide)
  simp [Hart.front, hcsr]

/-- A request counts events of its hart, and takes a miss register and a tag. -/
theorem State.request_frame {α : Type} (s : State) (h : Nat) (g : Hart → α) (hcount : ∀ (y : Hart) n, g (y.count n 1) = g y)
    (hmiss : ∀ (y : Hart) ms t, g { y with misses := ms, nextTag := t } = g y) (opc : Opc) (st : MissSt) (dst l misc : Nat)
    (spec fetch : Bool) (data : Line) (ws : List Waiter) : g ((s.request h opc st dst l misc spec fetch data ws).hart h) = g (s.hart h) := by
  have hsent : ∀ (y : Hart) (stream demoted : Option Nat) (msg : CohMsg),
      ((((s.setHart h y).countStream stream).countDemoted demoted).sendCoh msg).hart h = y := by
    intro y stream demoted msg
    obtain ⟨a, ha⟩ := (s.setHart h y).countStream_only stream
    obtain ⟨b, hb⟩ := ((s.setHart h y).countStream stream).countDemoted_only demoted
    rw [hb, ha]
    exact s.hart_setHart_same h y
  unfold State.request
  exact (congrArg g (hsent ..)).trans ((Hart.countIf_frame _ g hcount _ _).trans (hmiss ..))

theorem State.prefetchLine_front (s : State) (h l : Nat) (va : Word) (spec fetch : Bool) :
    ((s.prefetchLine h l va spec fetch).hart h).front = (s.hart h).front := by
  unfold State.prefetchLine
  dsimp only
  split
  · split
    · rfl
    · rw [State.hart_setHart_same]
      rfl
  · split
    · rfl
    · rw [State.request_frame _ h Hart.front (fun y n => y.count_front n 1) fun _ _ _ => rfl]
      split
      · rw [State.hart_modHart_same, Hart.count_front]
      · rfl

theorem zicbopPrefetch_front (s : State) (h : Nat) (k : PrefetchKind) (va : Word) :
    ((zicbopPrefetch s h k va).hart h).front = (s.hart h).front := by
  have hxlate := fun a : AccKind => s.noteXlate_frame h Hart.front (fun y n => y.count_front n 1) (fun _ _ _ => rfl) a va false
  unfold zicbopPrefetch
  dsimp only
  split
  · rw [State.hart_modHart_same]
    exact hxlate _
  · exact hxlate _
  · split
    · split
      · rw [State.prefetchLine_front]
        exact hxlate _
      · exact hxlate _
    · exact hxlate _
    · exact hxlate _

theorem exec_zicbopPrefetch_faultless {s : State} {h : Nat} (k : PrefetchKind) (va : Word) (hready : s.ready h = true) :
    ∃ t, exec (.zicbopPrefetch h k va) s = .next t ∧ (t.hart h).pc = (s.hart h).pc ∧ (t.hart h).mode = (s.hart h).mode
      ∧ (t.hart h).x = (s.hart h).x ∧ (t.hart h).getCsr 0x342 = (s.hart h).getCsr 0x342 := by
  obtain ⟨hpc, hmode, hx, hcause⟩ : _ ∧ _ ∧ _ ∧ _ := by simpa [Hart.front] using zicbopPrefetch_front s h k va
  exact ⟨_, congrArg Host.Outcome.next (State.instr_of_ready _ hready), hpc, hmode, hx, hcause⟩

/-! ### The line that a prefetch asks for (R101, R160, R175) -/

theorem placeOf_ordinary : placeOf true 0 = .ordinary := rfl

/-- Where an access goes out untranslated, its lookup leaves the hart as it was. -/
theorem State.noteXlate_untranslated {s : State} {h : Nat} {k : AccKind} (va : Word) (spec : Bool) (hbare : (s.hart h).untranslated k = true) :
    s.noteXlate h k va spec = s.setHart h (s.hart h) := by
  simp [State.noteXlate, State.modHart, hbare]

/-- A hart put back as it was is as free to ask for a line. -/
theorem State.unhindered_setHart_self {s : State} {h l : Nat} (hfree : s.unhindered h l) : (s.setHart h (s.hart h)).unhindered h l := by
  have hhart : (s.setHart h (s.hart h)).hart h = s.hart h := s.hart_setHart_same h _
  have hstream : ∀ n, (s.setHart h (s.hart h)).freeStream h n = s.freeStream h n := fun n => by
    simp only [State.freeStream, hhart]
    rfl
  unfold State.unhindered at hfree ⊢
  rw [State.homeNode_setHart, hhart]
  simp only [State.streamHeld, hstream] at hfree ⊢
  exact hfree

/-- A prefetch of a line that the core neither holds nor waits for asks the line's home. -/
theorem State.prefetchLine_asks {s : State} {h l : Nat} (va : Word) (hi : (s.hart h).lineSt l = .i) (hfree : s.unhindered h l) :
    s.prefetchLine h l va false false = s.request h .rds .isD (s.homeNode l) l 0 false false 0 [.prefetch false va] := by
  have hmiss : (s.hart h).missOf l = none := by simp [Hart.missOf, hfree.1]
  simp [State.prefetchLine, hi, hmiss, State.missWaits_unhindered (opc := .rds) hfree rfl]

theorem exec_zicbopPrefetch_asks {s : State} {h pa pb : Nat} {va : Word} (hready : s.ready h = true)
    (hbare : (s.hart h).untranslated .load = true) (htrans : s.translate h .load va = .ok pa pb)
    (hphys : s.physCheck h .load (pa / 64 * 64) 64 = .ok true) (hpb : pb = 0) (hi : (s.hart h).lineSt (pa / 64) = .i)
    (hfree : s.unhindered h (pa / 64)) :
    ∃ t, exec (.zicbopPrefetch h .r va) s = .next t ∧ t.inFlight .rds (s.homeNode (pa / 64)) (pa / 64) := by
  have hprefetch : zicbopPrefetch s h .r va = (s.setHart h (s.hart h)).prefetchLine h (pa / 64) va false false := by
    simp [zicbopPrefetch, State.noteXlate_untranslated va false hbare, htrans, hphys, hpb, placeOf_ordinary]
  refine ⟨_, congrArg Host.Outcome.next ((State.instr_of_ready _ hready).trans hprefetch), ?_⟩
  rw [State.prefetchLine_asks va (by simpa using hi) (State.unhindered_setHart_self hfree), State.homeNode_setHart]
  exact (State.request_requested ..).sent

/-- A request's message is on its way with the mark of a speculative one. -/
theorem State.request_message (s : State) (h : Nat) (opc : Opc) (st : MissSt) (dst l misc : Nat) (spec fetch : Bool) (data : Line)
    (ws : List Waiter) :
    ∃ m ∈ (s.request h opc st dst l misc spec fetch data ws).net.coh, m.opc = opc ∧ m.spec = spec ∧ m.addr = l := by
  unfold State.request
  dsimp only
  rw [State.sendCoh_coh]
  exact ⟨_, List.mem_append_right _ (List.mem_singleton_self _), rfl, rfl, rfl⟩

/-- A core with no miss and no write-back outstanding sends a speculative prefetch at once: it takes no stream (R204). -/
theorem State.prefetchLine_speculates {s : State} {h l : Nat} (va : Word) (hi : (s.hart h).lineSt l = .i) (hmisses : (s.hart h).misses = [])
    (hwbs : (s.hart h).wbs = []) :
    s.prefetchLine h l va true false
      = (s.modHart h (fun x => x.count 41 1)).request h .rds .isD ((s.modHart h (fun x => x.count 41 1)).homeNode l) l 0 true false 0
        [.prefetch false va] := by
  have hheld : s.streamHeld h .rds (s.homeNode l) true = false := by
    unfold State.streamHeld
    split <;> rfl
  have hwaits : s.missWaits h l .rds true false = false := by
    simp [State.missWaits, Hart.ncBusy, Hart.missOf, Hart.missRoom, Hart.lineMisses, hmisses, hwbs, hheld]
  simp [State.prefetchLine, hi, Hart.missOf, hmisses, hwaits]

theorem exec_hardwarePrefetch_asks {s : State} {h pa pb : Nat} {trigger va : Word} (hlive : s.hartLive h = true)
    (hon : (s.hart h).lzspec.getLsbD 2 = false) (hdeg : (s.hart h).prefetchDeg ≠ 0) (hpage : va.toNat / 4096 = trigger.toNat / 4096)
    (htrans : s.translate h .load trigger = .ok pa pb) (hphys : s.physCheck h .load (pa / 4096 * 4096) 4096 = .ok true) (hpb : pb = 0)
    (hi : (s.hart h).lineSt ((pa / 4096 * 4096 + va.toNat % 4096) / 64) = .i) (hmisses : (s.hart h).misses = []) (hwbs : (s.hart h).wbs = []) :
    ∃ t, exec (.hardwarePrefetch h trigger va) s = .next t ∧ (t.hart h).x = (s.hart h).x
      ∧ ∃ m ∈ t.net.coh, m.opc = .rds ∧ m.spec = true ∧ m.addr = (pa / 4096 * 4096 + va.toNat % 4096) / 64 := by
  have hprefetch : hardwarePrefetch s h trigger va = s.prefetchLine h ((pa / 4096 * 4096 + va.toNat % 4096) / 64) va true false := by
    have hmade : ((s.hart h).lzspec.getLsbD 2 || (s.hart h).prefetchDeg == 0 || va.toNat / 4096 != trigger.toNat / 4096) = false := by
      rw [hon]
      simp [hdeg, hpage]
    unfold hardwarePrefetch
    simp only [hmade, htrans, hphys, hpb, placeOf_ordinary, Bool.false_eq_true, if_false, if_true]
  refine ⟨_, congrArg Host.Outcome.next ((if_pos hlive).trans hprefetch), ?_, ?_⟩
  · exact congrArg (·.2.2.1) (s.prefetchLine_front h _ va true false)
  · rw [State.prefetchLine_speculates va hi hmisses hwbs]
    exact State.request_message ..

/-- With PF_OFF no hardware prefetch is made (R103). -/
theorem exec_hardwarePrefetch_off {s : State} {h : Nat} (trigger va : Word) (hlive : s.hartLive h = true)
    (hoff : (s.hart h).lzspec.getLsbD 2 = true) : exec (.hardwarePrefetch h trigger va) s = .next s := by
  change execHardwarePrefetch h trigger va s = _
  simp [execHardwarePrefetch, hardwarePrefetch, hlive, hoff]

end Sys2Proof.Machine
end

section
/-! PROOFS. lz.lock and lz.unlock (R111, R151, R152) of a line that the L2 holds, and the statement on cache instructions. -/

namespace Sys2Proof.Machine

/-! ### A line of the L2 (R145, R167) -/

theorem Mesi.rank_le_max_right (a b : Mesi) : b.rank ≤ (a.max b).rank := by
  unfold Mesi.max
  split <;> omega

/-- A core that holds a valid copy of a line in its L2 holds the line. -/
theorem Hart.lineSt_ne_i_of_l2 {x : Hart} {l k : Nat} {c : CLine} (h : findLine x.l2 l = some (k, c)) : x.lineSt l ≠ .i := by
  obtain ⟨-, hvalid⟩ := findLine_some h
  have hrank : c.st.rank ≤ (x.lineSt l).rank := by
    unfold Hart.lineSt
    simp only [h, Option.map_some, Option.getD_some]
    exact (Mesi.rank_le_max_right _ _).trans (Mesi.rank_le_max_left _ _)
  intro hi
  rw [hi] at hrank
  revert hvalid hrank
  cases c.st <;> decide

/-- Where no way is locked, none of a set is. -/
theorem lockedWay_none {t : Tab CLine} (hnone : ∀ e ∈ t, e.2.locked = false) (k : Nat) : ((Tab.find t k).map (·.locked)).getD false = false := by
  cases hfind : Tab.find t k with
  | none => rfl
  | some c => exact hnone _ (Tab.mem_of_find hfind)

/-! ### The way locked and unlocked (R111, R151, R152) -/

/-- lz.lock of a line that the L2 holds, with no way locked yet and every group in the line's world, locks the line's way. -/
theorem Hart.lockLine_held {x : Hart} {b : Binding} {l k : Nat} {c : CLine} (core now rd : Nat) (hfind : findLine x.l2 l = some (k, c))
    (hnone : ∀ e ∈ x.l2, e.2.locked = false) (hgroups : ∀ i, i < 4 → x.l2Secure.getLsbD i = b.lineSecure (64 * l)) :
    x.lockLine b core now rd l = ({ x with l2 := Tab.set x.l2 k { c with locked := true, unconf := false } }).setX rd 0 := by
  have hfree : ((x.l2.find? (fun e => e.2.line == l && (e.2.st.valid || e.2.locked))).map (·.2.locked)).getD false = false := by
    cases hway : x.l2.find? (fun e => e.2.line == l && (e.2.st.valid || e.2.locked)) with
    | none => rfl
    | some e => exact hnone e (List.mem_of_find?_eq_some hway)
  have hmine : (List.range 16).filter (fun w => x.l2Secure.getLsbD (w / 4) == b.lineSecure (64 * l)) = List.range 16 :=
    List.filter_eq_self.mpr fun w hw => by
      have hgroup := hgroups (w / 4) (by have := List.mem_range.mp hw; omega)
      simp only [hgroup, beq_self_eq_true]
  unfold Hart.lockLine
  simp only [hfree, lockedWay_none hnone, hmine, hfind, Bool.and_false, Bool.false_eq_true, if_false, List.filter_false, List.length_nil,
    List.length_range]
  rfl

/-- lz.unlock of a locked way with data unlocks it. -/
theorem Hart.unlockLine_locked {x : Hart} {l k : Nat} {c : CLine} (rd : Nat)
    (hfind : x.l2.find? (fun e => e.2.line == l && e.2.locked) = some (k, c)) (hvalid : c.st.valid = true) :
    x.unlockLine rd l = ({ x with l2 := Tab.set x.l2 k { c with locked := false } }).setX rd 0 := by
  simp [Hart.unlockLine, hfind, hvalid]

@[simp] theorem Hart.retire_l2 (x : Hart) (c : RetClass) : (x.retire c).l2 = x.l2 := x.retire_frame Hart.l2 c fun _ _ _ _ _ _ _ _ _ => rfl
@[simp] theorem Hart.retire_wbs (x : Hart) (c : RetClass) : (x.retire c).wbs = x.wbs := x.retire_frame Hart.wbs c fun _ _ _ _ _ _ _ _ _ => rfl
@[simp] theorem Hart.setX_l2 (x : Hart) (n : Nat) (v : Word) : (x.setX n v).l2 = x.l2 := x.setX_frame Hart.l2 n v fun _ => rfl
@[simp] theorem Hart.setX_wbs (x : Hart) (n : Nat) (v : Word) : (x.setX n v).wbs = x.wbs := x.setX_frame Hart.wbs n v fun _ => rfl
@[simp] theorem Hart.setX_pc (x : Hart) (n : Nat) (v : Word) : (x.setX n v).pc = x.pc := x.setX_frame Hart.pc n v fun _ => rfl

@[simp] theorem Hart.retire_lastPc (x : Hart) (c : RetClass) : (x.retire c).lastPc = x.pc := by
  obtain ⟨n, o, r, l0, l1, b, p, h⟩ := x.retire_only c
  rw [h]

/-! ### lz.lock and lz.unlock -/

/-- An lz.lock or lz.unlock of ordinary memory has its effect at the place it is translated to. -/
theorem State.instr_lockOp {s u : State} {h pa rd rs1 : Nat} (f : State → Word → Nat → State) (hready : s.ready h = true)
    (hlocate : s.locate h .load ((s.hart h).getX rs1) 1 false = .inr (u, pa, .ordinary)) :
    s.instr h (fun s => lockOp s h rd rs1 f) = f u ((s.hart h).getX rs1) pa := by
  rw [State.instr_of_ready _ hready]
  simp [lockOp, hlocate]

theorem exec_lzLock_held {s u : State} {h k pa rd rs1 : Nat} {c : CLine} (hready : s.ready h = true)
    (hlocate : s.locate h .load ((s.hart h).getX rs1) 1 false = .inr (u, pa, .ordinary)) (hpaired : (u.hart h).paired = false)
    (hfind : findLine (u.hart h).l2 (pa / 64) = some (k, c)) (hnone : ∀ e ∈ (u.hart h).l2, e.2.locked = false)
    (hgroups : ∀ i, i < 4 → (u.hart h).l2Secure.getLsbD i = u.bind.lineSecure (64 * (pa / 64))) :
    ∃ t, exec (.lzLock h rd rs1) s = .next t ∧ (t.hart h).getX rd = 0
      ∧ Tab.find (t.hart h).l2 k = some { c with locked := true, unconf := false } ∧ (t.hart h).lastPc = (u.hart h).pc := by
  have hspent : (u.spend h).hart h = { u.hart h with pairGo := none } := u.hart_modHart_same h _
  have hlock := Hart.lockLine_held (x := (u.spend h).hart h) (b := u.bind) (l := pa / 64) (hartCore h) u.time.now rd (by rw [hspent, hfind])
    (by rw [hspent]; exact hnone) (by rw [hspent]; exact hgroups)
  have hgo : u.lockGo h rd ((s.hart h).getX rs1) pa
      = (u.spend h).putHart h ((((u.spend h).hart h).lockLine u.bind (hartCore h) u.time.now rd (pa / 64)).retire .xlz) := by
    simp only [State.lockGo, Hart.lineSt_ne_i_of_l2 hfind, decide_false, Bool.false_and, State.released,
      State.isReleased_alone _ _ _ _ _ _ _ hpaired, Bool.not_true, Bool.or_self, Bool.false_eq_true, if_false]
    rfl
  refine ⟨_, congrArg Host.Outcome.next ((State.instr_lockOp _ hready hlocate).trans hgo), ?_⟩
  rw [hlock, State.hart_putHart_same, Hart.getX_retire_setX, Hart.retire_l2, Hart.retire_lastPc, Hart.setX_l2, Hart.setX_pc, hspent]
  exact ⟨ite_self _, Tab.find_set_same .., rfl⟩

theorem exec_lzUnlock_locked {s u : State} {h k pa rd rs1 : Nat} {c : CLine} (hready : s.ready h = true)
    (hlocate : s.locate h .load ((s.hart h).getX rs1) 1 false = .inr (u, pa, .ordinary)) (hpaired : (u.hart h).paired = false)
    (hfind : (u.hart h).l2.find? (fun e => e.2.line == pa / 64 && e.2.locked) = some (k, c)) (hvalid : c.st.valid = true) :
    ∃ t, exec (.lzUnlock h rd rs1) s = .next t ∧ (t.hart h).getX rd = 0 ∧ Tab.find (t.hart h).l2 k = some { c with locked := false }
      ∧ u.changesOnly [.harts] t := by
  have hspent : (u.spend h).hart h = { u.hart h with pairGo := none } := u.hart_modHart_same h _
  have hunlock := Hart.unlockLine_locked (x := (u.spend h).hart h) rd (by rw [hspent, hfind]) hvalid
  have hgo : u.released h .unlock ((s.hart h).getX rs1) pa 0 none false
        (fun t => t.modHart h (fun x => (x.unlockLine rd (pa / 64)).retire .xlz))
      = (u.spend h).modHart h (fun x => (x.unlockLine rd (pa / 64)).retire .xlz) := by
    simp [State.released, State.isReleased_alone _ _ _ _ _ _ _ hpaired]
  refine ⟨_, congrArg Host.Outcome.next ((State.instr_lockOp _ hready hlocate).trans hgo), ?_⟩
  rw [State.hart_modHart_same, hunlock, Hart.getX_retire_setX, Hart.retire_l2, Hart.setX_l2]
  exact ⟨ite_self _, Tab.find_set_same .., (State.InHart.trans (u.modHart_inHart h _) (State.modHart_inHart _ h _)).parts⟩

/-! ### O20 -/

/-- Settles O20: each operation on a block by what it does to the copies, each prefetch by the line it asks for, each lock by its way. -/
theorem cacheInstructions : Obligations.Cache_instructions := by
  unfold Obligations.Cache_instructions
  refine ⟨⟨?block, ?zero⟩, ⟨?faultless, ?asks, ?hardware, ?off⟩, ?lock, ?unlock⟩
  case block =>
    intro s u h l va v hready hm hlocate hidle hpaired hclean hall hdirty hok
    exact ⟨exec_cboClean_dirty hready hm hlocate hidle hpaired hclean hdirty hok,
      exec_cboFlush_dirty hready hm hlocate hidle hpaired hall hdirty hok, exec_cboInval_drops hready hm hlocate hidle hpaired hall⟩
  case zero =>
    intro s u h k pa va c hready hm htrig hlocate hpaired hbusy hfind hset hown
    exact exec_cboZero_owned hready hm htrig hlocate hpaired hbusy hfind hset hown
  case faultless =>
    intro s h k va hready
    exact exec_zicbopPrefetch_faultless k va hready
  case asks =>
    intro s h pa pb va hready hbare htrans hphys hpb hi hfree
    exact exec_zicbopPrefetch_asks hready hbare htrans hphys hpb hi hfree
  case hardware =>
    intro s h pa pb trigger va hlive hon hdeg hpage htrans hphys hpb hi hmisses hwbs
    exact exec_hardwarePrefetch_asks hlive hon hdeg hpage htrans hphys hpb hi hmisses hwbs
  case off =>
    intro s h trigger va hlive hoff
    exact exec_hardwarePrefetch_off trigger va hlive hoff
  case lock =>
    intro s u h k pa rd rs1 c hready hlocate hpaired hfind hnone hgroups
    exact exec_lzLock_held hready hlocate hpaired hfind hnone hgroups
  case unlock =>
    intro s u h k pa rd rs1 c hready hlocate hpaired hfind hvalid
    exact exec_lzUnlock_locked hready hlocate hpaired hfind hvalid

end Sys2Proof.Machine
end

section
/-! PROOFS. Headers of messages (R171, R172): a header is its fields side by side, which are read back from it one by one. -/

namespace Sys2Proof.Machine

/-! ### Fields side by side -/

/-- The number whose fields have these widths and values, the lowest field first. -/
def packFields : List (Nat × Nat) → Nat
  | [] => 0
  | (w, v) :: rest => v + 2 ^ w * packFields rest

/-- The fields of these widths of a number, the lowest first. -/
def splitFields : List Nat → Nat → List Nat
  | [], _ => []
  | w :: ws, n => n % 2 ^ w :: splitFields ws (n / 2 ^ w)

theorem splitFields_packFields (fs : List (Nat × Nat)) (hfit : ∀ f ∈ fs, f.2 < 2 ^ f.1) :
    splitFields (fs.map Prod.fst) (packFields fs) = fs.map Prod.snd := by
  induction fs with
  | nil => rfl
  | cons f rest ih =>
    obtain ⟨w, v⟩ := f
    obtain ⟨hv, hrest⟩ := List.forall_mem_cons.mp hfit
    simp only [List.map_cons, splitFields, packFields, Nat.add_mul_mod_self_left, Nat.mod_eq_of_lt hv,
      Nat.add_mul_div_left v _ (Nat.two_pow_pos w), Nat.div_eq_of_lt hv, Nat.zero_add, ih hrest]

theorem packFields_splitFields (ws : List Nat) (n : Nat) (hn : n < 2 ^ ws.sum) : packFields (ws.zip (splitFields ws n)) = n := by
  induction ws generalizing n with
  | nil => simp only [List.sum_nil, Nat.pow_zero, Nat.lt_one_iff] at hn; exact hn.symm
  | cons w ws ih =>
    have hhigh : n / 2 ^ w < 2 ^ ws.sum := Nat.div_lt_of_lt_mul (by rwa [List.sum_cons, Nat.pow_add] at hn)
    simp only [splitFields, List.zip_cons_cons, packFields, ih _ hhigh, Nat.mod_add_div]

/-! ### The fields of a header (R172) -/

/-- The widths of the fields of a header, the lowest first: MISC, bits 14:12, STATUS, POISON, STATE, EXCEPT, the world, SPEC, QID, the line, TAG, CORE, the two nodes, OPC. -/
def headerWidths : List Nat := [12, 3, 4, 4, 2, 1, 1, 1, 8, 46, 12, 3, 13, 13, 5]

/-- What the fields of a message's header hold, the lowest first. -/
def headerValues (m : CohMsg) : List Nat :=
  [m.misc, 0, m.status, m.poison.toNat, m.state, m.except.toNat, m.secure.toNat, m.spec.toNat, m.qid, m.addr, m.tag, m.core, m.src, m.dst, opcCode m.opc]

theorem headerOf_eq_packFields (m : CohMsg) : headerOf m = packFields (headerWidths.zip (headerValues m)) := by
  have hbit : ∀ (b : Bool) (i : Nat), bitAt b i = b.toNat * 2 ^ i := by
    rintro (_ | _) i <;> simp [bitAt]
  simp only [headerOf, hbit, headerWidths, headerValues, List.zip_cons_cons, List.zip_nil_left, packFields]
  ring

theorem splitFields_headerWidths (n : Nat) :
    splitFields headerWidths n = [bitsOf n 0 12, bitsOf n 12 3, bitsOf n 15 4, bitsOf n 19 4, bitsOf n 23 2, bitsOf n 25 1, bitsOf n 26 1,
      bitsOf n 27 1, bitsOf n 28 8, bitsOf n 36 46, bitsOf n 82 12, bitsOf n 94 3, bitsOf n 97 13, bitsOf n 110 13, bitsOf n 123 5] := by
  simp only [splitFields, headerWidths, bitsOf, Nat.div_div_eq_div_mul, ← Nat.pow_add, Nat.reduceAdd, Nat.pow_zero, Nat.div_one]

theorem bitOf_eq_bitsOf (n i : Nat) : bitOf n i = (bitsOf n i 1 == 1) := rfl

/-! ### Codes (R171) -/

theorem opcOfCode_opcCode (o : Opc) : opcOfCode (opcCode o) = some o := by
  cases o <;> rfl

theorem opcCode_lt (o : Opc) : opcCode o < 2 ^ 5 := by
  cases o <;> decide

theorem opcCode_of_opcOfCode {n : Nat} {o : Opc} (h : opcOfCode n = some o) : opcCode o = n := by
  unfold opcOfCode at h
  split at h <;> cases h <;> rfl

/-! ### Headers and messages -/

theorem headerFits_iff (m : CohMsg) : headerFits m = true ↔ m.dst < 2 ^ 13 ∧ m.src < 2 ^ 13 ∧ m.core < 8 ∧ m.tag < 2 ^ 12 ∧ m.addr < 2 ^ 46
    ∧ m.qid < 256 ∧ m.state < 4 ∧ m.status < 16 ∧ m.misc < 2 ^ 12 := by
  simp only [headerFits, Bool.and_eq_true, decide_eq_true_eq, and_assoc]

theorem splitFields_headerOf {m : CohMsg} (hfit : headerFits m = true) : splitFields headerWidths (headerOf m) = headerValues m := by
  obtain ⟨hdst, hsrc, hcore, htag, haddr, hqid, hstate, hstatus, hmisc⟩ := (headerFits_iff m).mp hfit
  have hvalues : ∀ f ∈ headerWidths.zip (headerValues m), f.2 < 2 ^ f.1 := by
    simp only [headerWidths, headerValues, List.zip_cons_cons, List.zip_nil_left, List.forall_mem_cons, List.not_mem_nil, false_implies,
      implies_true, and_true]
    exact ⟨hmisc, by decide, hstatus, m.poison.isLt, hstate, Bool.toNat_lt _, Bool.toNat_lt _, Bool.toNat_lt _, hqid, haddr, htag, hcore, hsrc,
      hdst, opcCode_lt _⟩
  rw [headerOf_eq_packFields]
  exact splitFields_packFields _ hvalues

theorem messageOf_headerOf {m : CohMsg} (hfit : headerFits m = true) (hdata : m.hasData = false → m.data = 0) :
    messageOf (headerOf m) m.cls m.stream m.issue (if m.hasData then some m.data else none) = some m := by
  have hfields := splitFields_headerOf hfit
  rw [splitFields_headerWidths, headerValues] at hfields
  simp only [List.cons.injEq, and_true] at hfields
  obtain ⟨hmisc, -, hstatus, hpoison, hstate, hexcept, hsecure, hspec, hqid, haddr, htag, hcore, hsrc, hdst, hopc⟩ := hfields
  have hbool : ∀ b : Bool, (b.toNat == 1) = b := by decide
  have hline : (if m.hasData then some m.data else none : Option Line).getD 0 = m.data := by
    split
    · rfl
    · next hnone => exact (hdata (Bool.eq_false_of_not_eq_true hnone)).symm
  have hflit : (if m.hasData then some m.data else none : Option Line).isSome = m.hasData := by
    cases m.hasData <;> rfl
  simp only [messageOf, bitOf_eq_bitsOf, hopc, opcOfCode_opcCode, Option.map_some, hdst, hsrc, hcore, htag, haddr, hqid, hspec, hsecure, hexcept,
    hstate, hpoison, hstatus, hmisc, hbool, hline, hflit, BitVec.ofNat_toNat, BitVec.setWidth_eq]

theorem messageOf_eq_some {n cls : Nat} {stream : Option Nat} {issue : BitVec 32} {data : Option Line} {m : CohMsg} (hzero : bitsOf n 12 3 = 0)
    (hm : messageOf n cls stream issue data = some m) : headerFits m = true ∧ headerValues m = splitFields headerWidths n := by
  obtain ⟨o, ho, rfl⟩ := Option.map_eq_some_iff.mp hm
  have hflag : ∀ i, (bitOf n i).toNat = bitsOf n i 1 := by
    intro i
    rw [bitOf_eq_bitsOf]
    have := bitsOf_lt n i 1
    interval_cases bitsOf n i 1 <;> rfl
  refine ⟨(headerFits_iff _).mpr ⟨bitsOf_lt .., bitsOf_lt .., bitsOf_lt .., bitsOf_lt .., bitsOf_lt .., bitsOf_lt .., bitsOf_lt .., bitsOf_lt .., bitsOf_lt ..⟩, ?_⟩
  simp only [headerValues, splitFields_headerWidths, hzero, hflag, opcCode_of_opcOfCode ho, BitVec.toNat_ofNat, Nat.mod_eq_of_lt (bitsOf_lt n 19 4)]

theorem headerOf_messageOf {n cls : Nat} {stream : Option Nat} {issue : BitVec 32} {data : Option Line} {m : CohMsg} (hn : n < 2 ^ 128)
    (hzero : bitsOf n 12 3 = 0) (hm : messageOf n cls stream issue data = some m) : headerOf m = n := by
  rw [headerOf_eq_packFields, (messageOf_eq_some hzero hm).2]
  exact packFields_splitFields headerWidths n hn

theorem opcOfCode_reserved {n : Nat} (h : n ∈ [0x00, 0x0A, 0x0B, 0x0C, 0x0D, 0x0E, 0x0F, 0x13, 0x14, 0x15, 0x16, 0x17, 0x1F]) : opcOfCode n = none := by
  simp only [List.mem_cons, List.not_mem_nil, or_false] at h
  rcases h with rfl | rfl | rfl | rfl | rfl | rfl | rfl | rfl | rfl | rfl | rfl | rfl | rfl <;> rfl

/-! ### O58 -/

/-- Settles O58: the fields are read back one by one, a header is put together from its fields, and no message has a reserved OPC. -/
theorem headerRoundTrip : Obligations.Header_round_trip := by
  unfold Obligations.Header_round_trip
  refine ⟨fun m hfit hdata => messageOf_headerOf hfit hdata, ?_, ?_⟩
  · intro n cls stream issue data m hn hzero hm
    exact ⟨(messageOf_eq_some hzero hm).1, headerOf_messageOf hn hzero hm⟩
  · intro n cls stream issue data hreserved
    rw [messageOf, opcOfCode_reserved hreserved, Option.map_none]

end Sys2Proof.Machine
end

section
/-! PROOFS. Lines that leave a holder, and snoops (R170, R175 to R178, R182): what a WbD and an Evc do at their home, how a cluster
answers a snoop, and the snoops that wait for a hold window or a reservation. -/

namespace Sys2Proof.Machine

/-! ### A cluster's answer to a snoop (R170, R175) -/

/-- What a cluster's answer is gathered from: the state, and the best answer so far with its data, tag and core. -/
abbrev SnoopAcc := State × Opc × Option (Line × Poison) × Nat × Nat

/-- One core's part in its cluster's answer to a snoop. -/
def snoopCore (inv : Bool) (base l : Nat) (acc : SnoopAcc) (c : Nat) : SnoopAcc :=
  let x := acc.1.hart (base + c)
  let a := x.answer inv l
  let s := if decide (x.lineSt l ≠ .i) then acc.1.setHart (base + c) (a.2.2.2.count 38 1) else acc.1.setHart (base + c) a.2.2.2
  if betterAnswer acc.2.1 a.1 then (s, a.1, a.2.1, a.2.2.1, c) else (s, acc.2.1, acc.2.2.1, acc.2.2.2.1, acc.2.2.2.2)

/-- The cores that a snoop reaches in its cluster: those but the excepted one and the fenced ones (R170, R346). -/
def State.snoopedCores (s : State) (m : CohMsg) : List Nat :=
  (List.range 8).filter (fun c => !(m.except && c == m.core) && decide ((s.hart (hartAt m.dst 0 + c)).run ≠ .fenced))

/-- A cluster's answer is sent once its cores have had their parts in it. -/
theorem State.answerSnoop_sends (s : State) (m : CohMsg) :
    ∃ r : CohMsg, s.answerSnoop m
        = ((s.snoopedCores m).foldl (snoopCore (decide (m.opc ≠ .snps)) (hartAt m.dst 0) m.addr) (s, .rspi, none, 0, m.core)).1.sendCoh r
      ∧ r.dst = m.src ∧ r.src = m.dst ∧ r.tag = m.tag ∧ r.addr = m.addr :=
  ⟨_, rfl, rfl, rfl, rfl, rfl⟩

/-- The answer to a snoop is on its way: from its cluster to the snoop's home, under the snoop's tag. -/
def State.snoopAnswered (t : State) (m : CohMsg) : Prop := ∃ r ∈ t.net.coh, r.dst = m.src ∧ r.src = m.dst ∧ r.tag = m.tag ∧ r.addr = m.addr

theorem State.answerSnoop_answered (s : State) (m : CohMsg) : (s.answerSnoop m).snoopAnswered m := by
  obtain ⟨r, hsends, hfields⟩ := s.answerSnoop_sends m
  rw [hsends]
  exact ⟨r, by simp, hfields⟩

theorem Hart.count_lineSt_ite (x : Hart) (p : Prop) [Decidable p] (n k l : Nat) : (if p then x.count n k else x).lineSt l = x.lineSt l := by
  split
  · exact x.count_lineSt n k l
  · rfl

/-- A core's part in an answer changes that core only: it gives up or shares the line, and may count an event. -/
theorem snoopCore_sets (inv : Bool) (base l : Nat) (acc : SnoopAcc) (c : Nat) :
    ∃ x : Hart, (snoopCore inv base l acc c).1 = acc.1.setHart (base + c) x
      ∧ ∀ k, x.lineSt k = ((acc.1.hart (base + c)).answer inv l).2.2.2.lineSt k := by
  refine ⟨if (acc.1.hart (base + c)).lineSt l ≠ .i then ((acc.1.hart (base + c)).answer inv l).2.2.2.count 38 1
    else ((acc.1.hart (base + c)).answer inv l).2.2.2, ?_, fun k => Hart.count_lineSt_ite ..⟩
  simp only [snoopCore, decide_eq_true_eq]
  (repeat' split) <;> rfl

theorem snoopCores_only (inv : Bool) (base l : Nat) (cores : List Nat) (acc : SnoopAcc) :
    acc.1.changesOnly [.harts] (cores.foldl (snoopCore inv base l) acc).1 := by
  induction cores generalizing acc with
  | nil => exact State.changesOnly_refl _ _
  | cons c cores ih =>
    obtain ⟨x, hset, -⟩ := snoopCore_sets inv base l acc c
    refine State.changesOnly_trans ?_ (ih _)
    rw [hset]
    exact (acc.1.setHart_inHart _ x).parts

theorem snoopCores_other (inv : Bool) (base l : Nat) (cores : List Nat) (acc : SnoopAcc) {c : Nat} (hc : c ∉ cores) :
    (cores.foldl (snoopCore inv base l) acc).1.hart (base + c) = acc.1.hart (base + c) := by
  induction cores generalizing acc with
  | nil => rfl
  | cons d cores ih =>
    obtain ⟨hne, hrest⟩ := not_or.mp (List.mem_cons.not.mp hc)
    obtain ⟨x, hset, -⟩ := snoopCore_sets inv base l acc d
    rw [List.foldl_cons, ih _ hrest, hset]
    exact acc.1.hart_setHart_other x (by omega)

/-- Each core that a snoop reaches gives up or shares the line. -/
theorem snoopCores_lineSt (inv : Bool) (base l : Nat) (cores : List Nat) (acc : SnoopAcc) (hnodup : cores.Nodup) {c : Nat} (hc : c ∈ cores) (k : Nat) :
    ((cores.foldl (snoopCore inv base l) acc).1.hart (base + c)).lineSt k = ((acc.1.hart (base + c)).answer inv l).2.2.2.lineSt k := by
  induction cores generalizing acc with
  | nil => exact absurd hc List.not_mem_nil
  | cons d cores ih =>
    obtain ⟨hd, hrest⟩ := List.nodup_cons.mp hnodup
    obtain ⟨x, hset, hx⟩ := snoopCore_sets inv base l acc d
    rw [List.foldl_cons]
    rcases List.mem_cons.mp hc with rfl | hmem
    · rw [snoopCores_other _ _ _ _ _ hd, hset, State.hart_setHart_same, hx]
    · have hne : d ≠ c := fun h => hd (h ▸ hmem)
      rw [ih _ hrest hmem, hset, acc.1.hart_setHart_other x (by omega)]

theorem State.sendCoh_only (s : State) (m : CohMsg) : s.changesOnly [.net] (s.sendCoh m) := s.changesOnly_net _

theorem State.takeCoh_only (s : State) (m : CohMsg) : s.changesOnly [.net] (s.takeCoh m) := s.changesOnly_net _

theorem State.answerSnoop_only (s : State) (m : CohMsg) : s.changesOnly [.harts, .net] (s.answerSnoop m) := by
  obtain ⟨r, hsends, -⟩ := s.answerSnoop_sends m
  rw [hsends]
  have hcores := snoopCores_only (decide (m.opc ≠ .snps)) (hartAt m.dst 0) m.addr (s.snoopedCores m) (s, .rspi, none, 0, m.core)
  exact State.changesOnly_trans (hcores.mono (by simp)) ((State.sendCoh_only _ r).mono (by simp))

/-- An invalidating snoop leaves no copy of its line in a core that it reaches and that writes none back (R170, R175). -/
theorem State.answerSnoop_drops {s : State} {m : CohMsg} {c : Nat} (hinv : m.opc ≠ .snps) (hc : c ∈ s.snoopedCores m)
    (hwbs : (s.hart (hartAt m.dst 0 + c)).wbs = []) : ((s.answerSnoop m).hart (hartAt m.dst 0 + c)).lineSt m.addr = .i := by
  obtain ⟨r, hsends, -⟩ := s.answerSnoop_sends m
  have hhart : (s.answerSnoop m).hart (hartAt m.dst 0 + c)
      = ((s.snoopedCores m).foldl (snoopCore (decide (m.opc ≠ .snps)) (hartAt m.dst 0) m.addr) (s, .rspi, none, 0, m.core)).1.hart
          (hartAt m.dst 0 + c) := by
    rw [hsends]
    rfl
  have hnodup : (s.snoopedCores m).Nodup := List.nodup_range.filter _
  rw [hhart, snoopCores_lineSt _ _ _ _ _ hnodup hc, decide_eq_true hinv]
  exact Hart.answer_drops (by simp [hwbs])

/-! ### A snoop that arrives (R177, R178) -/

/-- A snoop whose way works, and whose filter entry is good, arrives at its cluster. -/
theorem exec_snoop {p : (CohMsg → Upset → Instr) × Opc}
    (hp : p ∈ ([(Instr.snps, Opc.snps), (.snpi, .snpi), (.snpbi, .snpbi)] : List ((CohMsg → Upset → Instr) × Opc)))
    {s : State} {m : CohMsg} (hcomes : s.comes m = true) : exec (p.1 m .none) s = .next (snoopArrives s { m with opc := p.2 }) := by
  have hstep : exec (p.1 m .none) s = .next (s.arrive { m with opc := p.2 } .none (snoopFiltered .none)) := by
    simp only [List.mem_cons, List.not_mem_nil, or_false] at hp
    rcases hp with rfl | rfl | rfl <;> rfl
  have hfilter : ∀ r : CohMsg, s.logFilter .none r = s := fun r => ite_self _
  rw [hstep, s.arrive_whole { m with opc := p.2 } _ hcomes, snoopFiltered, hfilter]

/-- A snoop that no core of its cluster keeps waiting is answered. -/
theorem snoopArrives_free {s : State} {m : CohMsg} (hcluster : isClusterNode m.dst = true)
    (hfree : ∀ c, c < 8 → (s.hart (hartAt m.dst 0 + c)).snoopHeld m.addr s.time.cycle = false) :
    snoopArrives s m = (s.takeCoh m).answerSnoop m := by
  have hnone : (List.range 8).find? (fun c => !(m.except && c == m.core)
      && ((s.takeCoh m).hart (hartAt m.dst 0 + c)).snoopHeld m.addr (s.takeCoh m).time.cycle) = none := by
    refine List.find?_eq_none.mpr fun c hc => ?_
    have hcore : ((s.takeCoh m).hart (hartAt m.dst 0 + c)).snoopHeld m.addr (s.takeCoh m).time.cycle = false := hfree c (List.mem_range.mp hc)
    rw [hcore, Bool.and_false]
    exact Bool.false_ne_true
  simp only [snoopArrives, hcluster, hnone, if_true]

/-- Such a snoop leaves its answer on its way, and an invalidating one no copy of its line in a core that it reaches. -/
theorem snoopArrives_answers {s : State} {m : CohMsg} (hcluster : isClusterNode m.dst = true)
    (hfree : ∀ c, c < 8 → (s.hart (hartAt m.dst 0 + c)).snoopHeld m.addr s.time.cycle = false) :
    (snoopArrives s m).snoopAnswered m ∧ s.changesOnly [.harts, .net] (snoopArrives s m)
      ∧ (m.opc ≠ .snps → m.except = false → ∀ c, c < 8 → (s.hart (hartAt m.dst 0 + c)).run ≠ .fenced →
        (s.hart (hartAt m.dst 0 + c)).wbs = [] → ((snoopArrives s m).hart (hartAt m.dst 0 + c)).lineSt m.addr = .i) := by
  rw [snoopArrives_free hcluster hfree]
  refine ⟨State.answerSnoop_answered _ m, ?_, fun hinv hall c hc hrun hwbs => ?_⟩
  · exact State.changesOnly_trans ((s.takeCoh_only m).mono (by simp)) (State.answerSnoop_only _ m)
  · have hreached : c ∈ (s.takeCoh m).snoopedCores m :=
      List.mem_filter.mpr ⟨List.mem_range.mpr hc, by rw [hall]; exact decide_eq_true hrun⟩
    exact State.answerSnoop_drops hinv hreached hwbs

/-- A snoop whose line the cluster's first core keeps waits there. -/
theorem snoopArrives_held {s : State} {m : CohMsg} (hcluster : isClusterNode m.dst = true) (hall : m.except = false)
    (hheld : (s.hart (hartAt m.dst 0)).snoopHeld m.addr s.time.cycle = true) :
    snoopArrives s m = ((s.takeCoh m).modHart (hartAt m.dst 0) (fun x => { x with snoopWait := x.snoopWait ++ [m] })).noteHeld m
      ((s.hart (hartAt m.dst 0)).holdLeft m.addr s.time.cycle) := by
  have hcore : ((s.takeCoh m).hart (hartAt m.dst 0)).snoopHeld m.addr (s.takeCoh m).time.cycle = true := hheld
  have hfirst : (List.range 8).find? (fun c => !(m.except && c == m.core)
      && ((s.takeCoh m).hart (hartAt m.dst 0 + c)).snoopHeld m.addr (s.takeCoh m).time.cycle) = some 0 :=
    List.find?_cons_of_pos (by simpa [hall] using hcore)
  simp only [snoopArrives, hcluster, hfirst, if_true]
  rfl

/-- Counting a snoop's wait at its home touches no hart and no message. -/
theorem State.noteHeld_frame (s : State) (m : CohMsg) (k : Nat) : (s.noteHeld m k).harts = s.harts ∧ (s.noteHeld m k).net = s.net := by
  unfold State.noteHeld
  split <;> exact ⟨rfl, rfl⟩

theorem snoopArrives_waits {s : State} {m : CohMsg} (hcluster : isClusterNode m.dst = true) (hall : m.except = false)
    (hheld : (s.hart (hartAt m.dst 0)).snoopHeld m.addr s.time.cycle = true) :
    ((snoopArrives s m).hart (hartAt m.dst 0)).snoopWait = (s.hart (hartAt m.dst 0)).snoopWait ++ [m]
      ∧ (snoopArrives s m).net.coh = s.net.coh.erase m := by
  rw [snoopArrives_held hcluster hall hheld]
  obtain ⟨hharts, hnet⟩ := State.noteHeld_frame ((s.takeCoh m).modHart (hartAt m.dst 0) (fun x => { x with snoopWait := x.snoopWait ++ [m] })) m
    ((s.hart (hartAt m.dst 0)).holdLeft m.addr s.time.cycle)
  rw [State.hart_congr hharts, State.hart_modHart_same, hnet]
  exact ⟨rfl, s.takeCoh_coh m⟩

/-! ### Snoops that wait (R177, R178) -/

/-- A waiting snoop that nothing keeps any longer is answered. -/
theorem State.releaseSnoops_answered {s : State} {h : Nat} {m : CohMsg} (hwait : (s.hart h).snoopWait = [m])
    (hfree : (s.hart h).snoopHeld m.addr s.time.cycle = false) : (s.releaseSnoops h).snoopAnswered m := by
  have hrelease : s.releaseSnoops h = (s.setHart h { s.hart h with snoopWait := [] }).answerSnoop m := by
    simp [State.releaseSnoops, hwait, hfree]
  rw [hrelease]
  exact State.answerSnoop_answered _ m

/-- Where no snoop waits none is released. -/
theorem State.releaseSnoops_none {s : State} {h : Nat} (hwait : (s.hart h).snoopWait = []) : s.releaseSnoops h = s.setHart h (s.hart h) := by
  have hsame : ({ s.hart h with snoopWait := [] } : Hart) = s.hart h := by rw [← hwait]
  simp [State.releaseSnoops, hwait, hsame]

/-- A line without a reservation or a window is kept from no snoop. -/
theorem Hart.snoopHeld_unheld {x : Hart} (l cycle : Nat) (hholds : x.holds = []) (hreserve : x.reserve = none ∨ x.deferTo = none) :
    x.snoopHeld l cycle = false := by
  rcases hreserve with hnone | hnone <;> simp [Hart.snoopHeld, hholds, hnone]

/-- The end of a core's only hold window answers the snoop that waits for it (R177). -/
theorem exec_holdWindowEnd_answers {s : State} {h l fin : Nat} {m : CohMsg} (hholds : (s.hart h).holds = [{ line := l, fin := fin }])
    (hover : fin ≤ s.time.cycle) (hreserve : (s.hart h).reserve = none) (hwait : (s.hart h).snoopWait = [m]) :
    ∃ t, exec (.holdWindowEnd h l) s = .next t ∧ t.snoopAnswered m := by
  have hstep : holdWindowEnd s h l = (s.setHart h { s.hart h with holds := [] }).releaseSnoops h := by
    simp [holdWindowEnd, hholds, hover]
  refine ⟨_, congrArg Host.Outcome.next hstep, State.releaseSnoops_answered ?_ ?_⟩
  · rwa [State.hart_setHart_same]
  · rw [State.hart_setHart_same]
    exact Hart.snoopHeld_unheld _ _ rfl (.inl hreserve)

/-- When the cycles of an LR are over, the snoop that it has deferred is answered (R178). -/
theorem exec_lrSnoopDeferExpiry_answers {s : State} {h n : Nat} {m : CohMsg} (hdefer : (s.hart h).deferTo = some n) (hover : n ≤ s.time.cycle)
    (hwait : (s.hart h).snoopWait = [m]) (hholds : (s.hart h).holds = []) :
    ∃ t, exec (.lrSnoopDeferExpiry h) s = .next t ∧ t.snoopAnswered m := by
  have hstep : lrSnoopDeferExpiry s h = (s.modHart h (fun x => { x with deferTo := none })).releaseSnoops h := by
    simp [lrSnoopDeferExpiry, hdefer, hover]
  refine ⟨_, congrArg Host.Outcome.next hstep, State.releaseSnoops_answered ?_ ?_⟩
  · rwa [State.hart_modHart_same]
  · rw [State.hart_modHart_same]
    exact Hart.snoopHeld_unheld _ _ hholds (.inr rfl)

/-! ### Lines that leave a holder (R182) -/

/-- The home's Cmp to a message is on its way, and besides it only streams count. -/
theorem State.sendAnswer_cmp (s : State) (n : Nat) (m : CohMsg) (state status : Nat) (d : Option (Line × Poison)) :
    (s.sendAnswer m (answerMsg n m .cmp state status d)).answered .cmp m
      ∧ (s.sendAnswer m (answerMsg n m .cmp state status d)).slices = s.slices
      ∧ s.changesOnly [.net, .fabric] (s.sendAnswer m (answerMsg n m .cmp state status d)) := by
  unfold State.sendAnswer
  dsimp only
  generalize (if (answerMsg n m .cmp state status d).cls = 2 then s.returnStream m.stream else none) = stream
  generalize (if (isClusterNode m.src && (answerMsg n m .cmp state status d).cls == 1) = true then
    s.returnStream (s.demotedStream (hartAt m.src m.core) m.opc (answerMsg n m .cmp state status d).src m.spec) else none) = demoted
  obtain ⟨f, hf⟩ := s.countStream_only stream
  obtain ⟨g, hg⟩ := (s.countStream stream).countDemoted_only demoted
  rw [hg, hf]
  refine ⟨⟨{ answerMsg n m .cmp state status d with stream := stream }, ?_, rfl, rfl, rfl, rfl, rfl⟩, rfl, ?_⟩
  · rw [State.sendCoh_coh]
    exact List.mem_append_right _ (List.mem_singleton_self _)
  · intro p hp
    cases p with
    | net | fabric => simp at hp
    | _ => rfl

theorem State.modSlice_only (s : State) (n : Nat) (f : Slice → Slice) : s.changesOnly [.slices] (s.modSlice n f) := s.changesOnly_slices _

/-- The home of a line does not hang on the messages in flight. -/
theorem State.homeOf_takeCoh (s : State) (m : CohMsg) (a : Nat) : (s.takeCoh m).homeOf a = s.homeOf a := State.homeOf_congr rfl rfl a

/-- What a WbD or Evc leaves of its line's directory entry: its sender's ownership, or its place among the sharers where it is the last of its cluster, ends. -/
def Slice.senderLeaves (m : CohMsg) (t : Slice) : Slice :=
  match t.dirFind m.addr with
  | none => t
  | some (k, e) =>
    match e.owner with
    | some o => if o == (m.src, m.core) then { t with dir := Tab.del t.dir k } else t
    | none => if m.status % 2 == 1 then t.setDir k (e.dropSharer m.src) else t

@[simp] theorem Slice.setDir_lines (t : Slice) (k : Nat) (e : DirEnt) : (t.setDir k e).lines = t.lines := by
  unfold Slice.setDir
  split <;> rfl

@[simp] theorem Slice.senderLeaves_lines (m : CohMsg) (t : Slice) : (t.senderLeaves m).lines = t.lines := by
  unfold Slice.senderLeaves
  split
  · rfl
  · split
    · split <;> rfl
    · rw [apply_ite Slice.lines, Slice.setDir_lines, ite_self]

/-- The entry that the sender owns is freed. -/
theorem Slice.senderLeaves_owner {m : CohMsg} {t : Slice} {k : Nat} {e : DirEnt} (hfind : t.dirFind m.addr = some (k, e))
    (howner : e.owner = some (m.src, m.core)) : t.senderLeaves m = { t with dir := Tab.del t.dir k } := by
  simp [Slice.senderLeaves, hfind, howner]

/-- The home's write of a line that the L3 holds, outside PERSIST windows and retired pages, is a write of that copy (R182, R263). -/
theorem State.homeWrite_hit {s : State} {n q l k : Nat} {e : L3Line} (alloc : Bool) (d : Line) (p : Poison) (hok : s.retired (64 * l) = false)
    (hback : s.bind.persists (64 * l) = false) (hfind : l3Find (s.slice n) l = some (k, e)) :
    s.homeWrite n q l alloc d p
      = s.modSlice n (fun t => { t with lines := Tab.set t.lines k { e with data := d, poison := p, dirty := true } }) := by
  simp only [State.homeWrite, hok, hback, Bool.false_eq_true, if_false, hfind]
  rfl

section
variable {s : State} {m : CohMsg} {n : Nat} (hdst : sliceAt m.dst = some n) (hhome : s.homeOf (64 * m.addr) = n)
  (hrspx : (s.slice n).rspx = []) (hactive : (s.slice n).active = []) (hcoh : s.net.coh = [])
include hdst hhome hrspx hactive hcoh

/-- A WbD or Evc at a home that no transaction and no RspX concerns has its data written, its sender's entry seen to, and a Cmp sent. -/
theorem leavingArrives_plain :
    leavingArrives s m = ((if m.hasData then (s.takeCoh m).homeWrite n m.qid m.addr true m.data m.poison else s.takeCoh m).modSlice n
      (Slice.senderLeaves m)).sendAnswer m (answerMsg n m .cmp 0 stOk none) := by
  have hslice : (s.takeCoh m).slice n = s.slice n := rfl
  simp only [leavingArrives, hcoh, List.any_nil, Bool.false_eq_true, if_false, hdst, State.homeOf_takeCoh, hhome, hslice, hrspx, hactive,
    List.find?_nil, Option.bind_none]
  cases m.hasData <;> rfl

/-- What the arrival leaves, by what the write of its data leaves. -/
theorem leavingArrives_leaves {w : State} (hwrite : (if m.hasData then (s.takeCoh m).homeWrite n m.qid m.addr true m.data m.poison else s.takeCoh m) = w)
    (honly : (s.takeCoh m).changesOnly [.slices] w) :
    (leavingArrives s m).answered .cmp m ∧ (leavingArrives s m).slice n = (w.slice n).senderLeaves m
      ∧ s.changesOnly [.slices, .net, .fabric] (leavingArrives s m) := by
  obtain ⟨hanswered, hslices, hparts⟩ := (w.modSlice n (Slice.senderLeaves m)).sendAnswer_cmp n m 0 stOk none
  rw [leavingArrives_plain hdst hhome hrspx hactive hcoh, hwrite]
  refine ⟨hanswered, ?_, ?_⟩
  · rw [State.slice, hslices]
    exact w.slice_modSlice_same n _
  · have htaken := (s.takeCoh_only m).mono (qs := [.slices, .net, .fabric]) (by simp)
    have hentry := (w.modSlice_only n (Slice.senderLeaves m)).mono (qs := [.slices, .net, .fabric]) (by simp)
    exact State.changesOnly_trans (State.changesOnly_trans htaken (honly.mono (by simp)))
      (State.changesOnly_trans hentry (hparts.mono (by simp)))

/-- A WbD brings the L3's copy up to date. -/
theorem leavingArrives_writes {k : Nat} {e : L3Line} (hdata : m.hasData = true) (hback : s.bind.persists (64 * m.addr) = false)
    (hok : s.retired (64 * m.addr) = false) (hfind : l3Find (s.slice n) m.addr = some (k, e)) :
    (leavingArrives s m).answered .cmp m ∧ s.changesOnly [.slices, .net, .fabric] (leavingArrives s m)
      ∧ Tab.find ((leavingArrives s m).slice n).lines k = some { e with data := m.data, poison := m.poison, dirty := true } := by
  have hwrite := State.homeWrite_hit (s := s.takeCoh m) (q := m.qid) true m.data m.poison hok hback hfind
  obtain ⟨hanswered, hslice, hparts⟩ := leavingArrives_leaves hdst hhome hrspx hactive hcoh ((if_pos hdata).trans hwrite)
    (State.modSlice_only _ n _)
  refine ⟨hanswered, hparts, ?_⟩
  rw [hslice, Slice.senderLeaves_lines, State.slice_modSlice_same]
  exact Tab.find_set_same ..

/-- An Evc frees its sender's entry. -/
theorem leavingArrives_frees {k : Nat} {e : DirEnt} (hdata : m.hasData = false) (hfind : (s.slice n).dirFind m.addr = some (k, e))
    (howner : e.owner = some (m.src, m.core)) :
    (leavingArrives s m).answered .cmp m ∧ ((leavingArrives s m).slice n).dir = Tab.del (s.slice n).dir k
      ∧ ((leavingArrives s m).slice n).lines = (s.slice n).lines ∧ s.changesOnly [.slices, .net, .fabric] (leavingArrives s m) := by
  obtain ⟨hanswered, hslice, hparts⟩ := leavingArrives_leaves hdst hhome hrspx hactive hcoh (if_neg (Bool.eq_false_iff.mp hdata))
    (State.changesOnly_refl _ _)
  have hentry : ((s.takeCoh m).slice n).senderLeaves m = { s.slice n with dir := Tab.del (s.slice n).dir k } :=
    Slice.senderLeaves_owner hfind howner
  have hleft := hslice.trans hentry
  exact ⟨hanswered, by rw [hleft], by rw [hleft], hparts⟩

end

/-! ### O22 -/

/-- Settles O22: a line that leaves its holder is seen to at its home; a snoop is answered, or waits until its hold window ends. -/
theorem holdersAndSnoops : Obligations.Holders_and_snoops := by
  unfold Obligations.Holders_and_snoops
  refine ⟨⟨?wbd, ?evc⟩, ?snoop, ?windowEnd⟩
  case wbd =>
    intro s m n k e hcomes hdst hhome hrspx hactive hcoh hback hok hfind
    exact ⟨_, congrArg Host.Outcome.next (s.arrive_whole { m with opc := .wbd, hasData := true } _ hcomes),
      leavingArrives_writes (m := { m with opc := .wbd, hasData := true }) hdst hhome hrspx hactive hcoh rfl hback hok hfind⟩
  case evc =>
    intro s m n k e hcomes hdst hhome hrspx hactive hcoh hfind howner
    exact ⟨_, congrArg Host.Outcome.next (s.arrive_whole { m with opc := .evc, hasData := false } _ hcomes),
      leavingArrives_frees (m := { m with opc := .evc, hasData := false }) hdst hhome hrspx hactive hcoh rfl hfind howner⟩
  case snoop =>
    intro p hp s m hcomes hcluster
    exact ⟨fun hfree => ⟨_, exec_snoop hp hcomes, snoopArrives_answers (m := { m with opc := p.2 }) hcluster hfree⟩,
      fun hall hheld => ⟨_, exec_snoop hp hcomes, snoopArrives_waits (m := { m with opc := p.2 }) hcluster hall hheld⟩⟩
  case windowEnd =>
    intro s h l fin m hholds hover hreserve hwait
    exact exec_holdWindowEnd_answers hholds hover hreserve hwait

end Sys2Proof.Machine
end

section
/-! PROOFS. Atomics and reservations (R172, R178, R185): near and far AMOs, and LR and SC on lines that the core owns. -/

namespace Sys2Proof.Machine

/-! ### A held line written, and a register with it (R175) -/

/-- A core outside a pair that writes to a line its L1D holds changes its copies there. -/
theorem Hart.writeHeld_alone {x : Hart} (b : Binding) (core now l : Nat) (f : CLine → CLine) (hpaired : x.paired = false) :
    x.writeHeld b core now l f = { x with l1d := mapLine x.l1d l (writtenCopy f) } := by
  unfold Hart.writeHeld
  exact if_pos (by simp [hpaired])

/-- What an atomic leaves of the hart that performs it: a value in its register, and the new value in the copy that the L1D holds. -/
structure Hart.Swapped (y : Hart) (k pa size rd : Nat) (c : CLine) (new : Nat) (v : Word) : Prop where
  reg : y.getX rd = if rd = 0 then 0 else v
  copy : ∃ d, findLine y.l1d (pa / 64) = some (k, d) ∧ d.st = .m ∧ d.data = lineSet c.data (pa % 64) (2 ^ size) new

section
variable {x : Hart} {k pa : Nat} {c : CLine} (b : Binding) (core now size rd new : Nat) (v : Word) (hpaired : x.paired = false)
include hpaired

theorem Hart.storeTo_swapped (hfind : findLine x.l1d (pa / 64) = some (k, c)) :
    ((x.storeTo b core now pa (2 ^ size) new).setX rd v).Swapped k pa size rd c new v := by
  rw [Hart.storeTo, Hart.writeHeld_alone _ _ _ _ _ hpaired]
  refine ⟨?_, ?_⟩
  · rw [Hart.getX_setX, if_pos rfl]
  · rw [Hart.setX_l1d]
    exact ⟨_, findLine_mapLine (fun _ => ⟨rfl, rfl⟩) hfind, rfl, rfl⟩

/-- An atomic takes no write-back buffer, and leaves the waiting snoops as they were. -/
theorem Hart.storeTo_keeps : ((x.storeTo b core now pa (2 ^ size) new).setX rd v).wbs = x.wbs
    ∧ ((x.storeTo b core now pa (2 ^ size) new).setX rd v).snoopWait = x.snoopWait := by
  rw [Hart.storeTo, Hart.writeHeld_alone _ _ _ _ _ hpaired]
  exact ⟨Hart.setX_wbs .., Hart.setX_frame _ Hart.snoopWait rd v fun _ => rfl⟩

end

@[simp] theorem Hart.noteData_snoopWait (x : Hart) (l : Nat) : (x.noteData l).snoopWait = x.snoopWait :=
  x.noteData_frame Hart.snoopWait (fun y n => y.count_frame Hart.snoopWait (fun _ _ _ _ => rfl) n 1) l

theorem State.putHart_inHart {s : State} {h : Nat} {x : Hart} (hwbs : x.wbs = (s.hart h).wbs) : s.InHart h (s.putHart h x) := by
  rw [State.putHart_of_wbs hwbs]
  exact s.setHart_inHart h x

theorem State.hart_spend (u : State) (h : Nat) : (u.spend h).hart h = { u.hart h with pairGo := none } := u.hart_modHart_same h _

/-! ### Near AMOs (R172, R185) -/

/-- The value that an AMO leaves in a copy. -/
def amoNewValue (o : AmoOp) (pa : Nat) (c : CLine) : Nat :=
  amoResult o.op (2 ^ o.size) (copyGet c pa (2 ^ o.size)) (o.data.toNat % 2 ^ (8 * 2 ^ o.size)) (o.cmp.toNat % 2 ^ (8 * 2 ^ o.size))

/-- An AMO of ordinary memory that no trigger watches goes on, near or far, with the place it is translated to. -/
theorem State.exec_amo_ordinary {s u : State} {h pa : Nat} {o : AmoOp} {b : Bool} (hready : s.ready h = true) (hsize : o.size = 2 ∨ o.size = 3)
    (haligned : o.va.toNat % 2 ^ o.size = 0) (hload : s.trigFor h .load o.va.toNat (2 ^ o.size) none = none)
    (hstore : s.trigFor h .store o.va.toNat (2 ^ o.size) none = none)
    (hlocate : s.locate h .store o.va (2 ^ o.size) false = .inr (u, pa, .ordinary)) (hphys : s.physCheck h .load pa (2 ^ o.size) = .ok b)
    (hpaired : (u.hart h).paired = false) (hgo : (u.amoGo h o pa .ordinary).1 = false) :
    exec (.amo h ⟨o, .none⟩) s = .next ((u.amoGo h o pa .ordinary).2 (u.spend h)) := by
  have hsized : amoSized o = true := by rcases hsize with hsize | hsize <;> simp [amoSized, hsize]
  have haccess : amoAccess s h o .none = (u.amoGo h o pa .ordinary).2 (u.spend h) := by
    simp [amoAccess, hsized, haligned, State.locateWith_none, hlocate, hphys, State.cacheUpset_none, State.released, hgo,
      State.isReleased_alone _ _ _ _ _ _ _ hpaired]
  change execAmo h ⟨o, .none⟩ s = _
  simp only [execAmo, State.instr_of_ready _ hready, State.watched_of_none _ hload, State.watched_of_none _ hstore, haccess]

/-- An AMO performed on a line that the L1D holds. -/
theorem State.perform_amo {s : State} {h k pa : Nat} {o : AmoOp} {c : CLine} (hsize : o.size = 2 ∨ o.size = 3)
    (hfind : findLine (s.hart h).l1d (pa / 64) = some (k, c)) (hpoison : c.poison = 0) :
    s.perform h (.amo o pa) = s.putHart h (((s.hart h).storeTo s.bind (hartCore h) s.time.now pa (2 ^ o.size) (amoNewValue o pa c)).setX o.rd
      (extendTo64 o.size (copyGet c pa (2 ^ o.size)) true)) := by
  have hnarrow : o.size ≠ 4 := by omega
  simp only [State.perform, Hart.lineCopy_l1d hfind, poisonAt_of_zero _ _ hpoison, Hart.setAmo, hnarrow, Bool.false_eq_true, if_false]
  rfl

/-- An AMO on a line that the L1D owns returns the old value and leaves its result in the copy. -/
theorem State.ownAccess_amo {u : State} {h k pa : Nat} {o : AmoOp} {c : CLine} (hsize : o.size = 2 ∨ o.size = 3)
    (hpaired : (u.hart h).paired = false) (hbusy : (u.hart h).ncBusy (pa / 64) = false)
    (hfind : findLine (u.hart h).l1d (pa / 64) = some (k, c)) (hset : k / 8 = l1dSet o.va.toNat) (hown : c.st = .m ∨ c.st = .e)
    (hpoison : c.poison = 0) :
    u.InHart h (u.ownAccess h o.va (pa / 64) (.amo o pa))
      ∧ ((u.ownAccess h o.va (pa / 64) (.amo o pa)).hart h).Swapped k pa o.size o.rd c (amoNewValue o pa c)
        (extendTo64 o.size (copyGet c pa (2 ^ o.size)) true) := by
  obtain ⟨hin, hhart⟩ := State.lookup_held false hfind hset
  rw [State.ownAccess_owned hbusy hfind hown]
  generalize (u.modHart h (fun x => x.noteData (pa / 64))).recallLine h o.va (pa / 64) false = r at hin hhart
  have hheld : findLine (r.hart h).l1d (pa / 64) = some (k, c) := by rw [hhart, Hart.noteData_l1d, hfind]
  have halone : (r.hart h).paired = false := by rw [hhart, Hart.noteData_paired, hpaired]
  obtain ⟨hwbs, -⟩ := Hart.storeTo_keeps (pa := pa) r.bind (hartCore h) r.time.now o.size o.rd (amoNewValue o pa c)
    (extendTo64 o.size (copyGet c pa (2 ^ o.size)) true) halone
  rw [State.perform_amo hsize hheld hpoison, State.hart_putHart_same]
  exact ⟨hin.trans (State.putHart_inHart hwbs), Hart.storeTo_swapped _ _ _ _ _ _ _ halone hheld⟩

theorem exec_amo_near {s u : State} {h k pa : Nat} {o : AmoOp} {c : CLine} {b : Bool} (hready : s.ready h = true) (hsize : o.size = 2 ∨ o.size = 3)
    (haligned : o.va.toNat % 2 ^ o.size = 0) (hload : s.trigFor h .load o.va.toNat (2 ^ o.size) none = none)
    (hstore : s.trigFor h .store o.va.toNat (2 ^ o.size) none = none)
    (hlocate : s.locate h .store o.va (2 ^ o.size) false = .inr (u, pa, .ordinary)) (hphys : s.physCheck h .load pa (2 ^ o.size) = .ok b)
    (hpaired : (u.hart h).paired = false) (hbusy : (u.hart h).ncBusy (pa / 64) = false) (hnear : u.farAmo o pa = false)
    (hfind : findLine (u.hart h).l1d (pa / 64) = some (k, c)) (hset : k / 8 = l1dSet o.va.toNat) (hown : c.st = .m ∨ c.st = .e)
    (hpoison : c.poison = 0) :
    ∃ t, exec (.amo h ⟨o, .none⟩) s = .next t ∧ u.InHart h t
      ∧ (t.hart h).Swapped k pa o.size o.rd c (amoNewValue o pa c) (extendTo64 o.size (copyGet c pa (2 ^ o.size)) true) := by
  have hgo : u.amoGo h o pa .ordinary = (false, fun s => s.ownAccess h o.va (pa / 64) (.amo o pa)) := by
    simp [State.amoGo, hnear, State.ownWaits_owned hbusy hfind hown]
  have hspent := u.hart_spend h
  obtain ⟨hin, hswap⟩ := State.ownAccess_amo (u := u.spend h) hsize (by rw [hspent]; exact hpaired) (by rw [hspent]; exact hbusy)
    (by rw [hspent]; exact hfind) hset hown hpoison
  refine ⟨_, State.exec_amo_ordinary hready hsize haligned hload hstore hlocate hphys hpaired (by rw [hgo]), ?_⟩
  rw [hgo]
  exact ⟨(u.modHart_inHart h _).trans hin, hswap⟩

/-! ### Far AMOs (R185) -/

/-- Nothing keeps a far AMO of a hart without outstanding requests from leaving. -/
theorem State.farWaits_unhindered {u : State} {h l : Nat} (hfree : u.unhindered h l) : u.farWaits h l = false := by
  obtain ⟨hmisses, hwbs, -, -⟩ := hfree
  have hheld : u.streamHeld h .amof (u.homeNode l) false = false := by
    unfold State.streamHeld
    split <;> rfl
  simp [State.farWaits, State.ncWaits, Hart.ncBusy, Hart.missOf, hmisses, hwbs, hheld]

theorem exec_amo_far {s u : State} {h pa : Nat} {o : AmoOp} {b : Bool} (hready : s.ready h = true) (hsize : o.size = 2 ∨ o.size = 3)
    (haligned : o.va.toNat % 2 ^ o.size = 0) (hload : s.trigFor h .load o.va.toNat (2 ^ o.size) none = none)
    (hstore : s.trigFor h .store o.va.toNat (2 ^ o.size) none = none)
    (hlocate : s.locate h .store o.va (2 ^ o.size) false = .inr (u, pa, .ordinary)) (hphys : s.physCheck h .load pa (2 ^ o.size) = .ok b)
    (hfar : u.farAmo o pa = true) (hfree : u.unhindered h (pa / 64)) :
    ∃ t, exec (.amo h ⟨o, .none⟩) s = .next t ∧ t.inFlight .amof (u.homeNode (pa / 64)) (pa / 64) ∧ (t.hart h).x = (u.hart h).x
      ∧ (t.hart h).l1d = (u.hart h).l1d := by
  have hgo : u.amoGo h o pa .ordinary = (false, fun s => s.farSend h o pa) := by
    simp [State.amoGo, hfar, State.farWaits_unhindered hfree]
  have hspent := u.hart_spend h
  have hnode : (u.spend h).homeNode (pa / 64) = u.homeNode (pa / 64) := u.homeNode_setHart h _ _
  obtain ⟨-, -, hpaired, -⟩ := hfree
  refine ⟨_, State.exec_amo_ordinary hready hsize haligned hload hstore hlocate hphys hpaired (by rw [hgo]), ?_⟩
  rw [hgo]
  have hsent := State.request_requested (u.spend h) h .amof .nc ((u.spend h).homeNode (pa / 64)) (pa / 64) (amoMisc o pa) false false
    (amoData o) [.amo o pa]
  refine ⟨hnode ▸ hsent.sent, hsent.x.trans (by rw [hspent]), ?_⟩
  exact (State.request_frame _ h Hart.l1d (fun y n => y.count_l1d n 1) (fun _ _ _ => rfl) ..).trans (by rw [hspent])

/-! ### LR (R178, R185) -/

/-- An LR of ordinary memory that no trigger watches reaches the caches with the place it is translated to. -/
theorem State.exec_lr_ordinary {s u : State} {h pa rd size : Nat} {va : Word} (hready : s.ready h = true) (hsize : size = 2 ∨ size = 3)
    (haligned : va.toNat % 2 ^ size = 0) (htrig : s.trigFor h .load va.toNat (2 ^ size) none = none)
    (hlocate : s.locate h .load va (2 ^ size) false = .inr (u, pa, .ordinary)) :
    exec (.lr h rd ⟨va, .none⟩ size) s = .next (u.ownAccess h va (pa / 64) (.lr rd va pa size)) := by
  have hsized : ¬ (size ≠ 2 ∧ size ≠ 3) := by omega
  have haccess : lrAccess s h rd va size .none = u.ownAccess h va (pa / 64) (.lr rd va pa size) := by
    simp [lrAccess, hsized, haligned, State.locateWith_none, hlocate, State.ownWith, State.cacheUpset_none]
  change execLr h rd ⟨va, .none⟩ size s = _
  simp only [execLr, State.instr_of_ready _ hready, State.watched_of_none _ htrig, haccess]

/-- An LR performed on a line that the L1D holds. -/
theorem State.perform_lr {s : State} {h k pa : Nat} {c : CLine} (rd : Nat) (va : Word) (size : Nat)
    (hfind : findLine (s.hart h).l1d (pa / 64) = some (k, c)) (hpoison : c.poison = 0) :
    s.perform h (.lr rd va pa size)
      = s.setHart h { ((s.hart h).confirm (pa / 64)).setX rd (extendTo64 size (copyGet c pa (2 ^ size)) true) with
          reserve := some (pa / 64), deferTo := some (s.time.cycle + 64) } := by
  simp only [State.perform, Hart.lineCopy_l1d hfind, poisonAt_of_zero _ _ hpoison, Bool.false_eq_true, if_false]

/-- An LR on a line that the L1D owns returns its value, reserves it and defers snoops for 64 cycles. -/
theorem State.ownAccess_lr {u : State} {h k pa rd size : Nat} {va : Word} {c : CLine} (hbusy : (u.hart h).ncBusy (pa / 64) = false)
    (hfind : findLine (u.hart h).l1d (pa / 64) = some (k, c)) (hset : k / 8 = l1dSet va.toNat) (hown : c.st = .m ∨ c.st = .e)
    (hpoison : c.poison = 0) :
    u.InHart h (u.ownAccess h va (pa / 64) (.lr rd va pa size))
      ∧ ((u.ownAccess h va (pa / 64) (.lr rd va pa size)).hart h).reserve = some (pa / 64)
      ∧ ((u.ownAccess h va (pa / 64) (.lr rd va pa size)).hart h).deferTo = some (u.time.cycle + 64)
      ∧ ((u.ownAccess h va (pa / 64) (.lr rd va pa size)).hart h).getX rd
        = if rd = 0 then 0 else extendTo64 size (copyGet c pa (2 ^ size)) true := by
  obtain ⟨hin, hhart⟩ := State.lookup_held false hfind hset
  rw [State.ownAccess_owned hbusy hfind hown]
  generalize (u.modHart h (fun x => x.noteData (pa / 64))).recallLine h va (pa / 64) false = r at hin hhart
  have hheld : findLine (r.hart h).l1d (pa / 64) = some (k, c) := by rw [hhart, Hart.noteData_l1d, hfind]
  have htime : r.time = u.time := hin.parts .time (by simp)
  rw [State.perform_lr rd va size hheld hpoison, State.hart_setHart_same, htime]
  refine ⟨hin.trans (r.setHart_inHart h _), rfl, rfl, ?_⟩
  exact (Hart.getX_setX ((r.hart h).confirm (pa / 64)) rd rd _).trans (by rw [if_pos rfl])

/-! ### SC (R178, R185) -/

/-- An SC of ordinary memory by a hart outside a pair that no trigger watches reaches the caches with the place it is translated to. -/
theorem State.exec_sc_ordinary {s u : State} {h pa rd size : Nat} {va data : Word} (hready : s.ready h = true) (hsize : size = 2 ∨ size = 3)
    (haligned : va.toNat % 2 ^ size = 0)
    (htrig : s.trigFor h .store va.toNat (2 ^ size) (some (data.toNat % 2 ^ (8 * 2 ^ size))) = none)
    (hlocate : s.locate h .store va (2 ^ size) false = .inr (u, pa, .ordinary)) (hpaired : (u.hart h).paired = false) :
    exec (.sc h rd ⟨va, .none⟩ size data) s = .next (u.scGo h rd va pa size data) := by
  have hsized : ¬ (size ≠ 2 ∧ size ≠ 3) := by omega
  have haccess : scAccess s h rd va size data .none = u.scGo h rd va pa size data := by
    simp [scAccess, hsized, haligned, State.locateWith_none, hlocate, State.cacheUpset_none, State.isReleased_alone _ _ _ _ _ _ _ hpaired]
  change execSc h rd ⟨va, .none⟩ size data s = _
  simp only [execSc, State.instr_of_ready _ hready, State.watched_of_none _ htrig, haccess]

/-- Where no snoop waits, the end of a reservation changes nothing else. -/
theorem State.endReserve_quiet {s : State} {h : Nat} (hwait : (s.hart h).snoopWait = []) :
    s.InHart h (s.endReserve h) ∧ (s.endReserve h).hart h = { s.hart h with reserve := none, deferTo := none } := by
  have hends : (s.modHart h (fun x => { x with reserve := none, deferTo := none })).hart h = { s.hart h with reserve := none, deferTo := none } :=
    s.hart_modHart_same h _
  rw [State.endReserve, State.releaseSnoops_none (by rw [hends]; exact hwait), State.hart_setHart_same, hends]
  exact ⟨(s.modHart_inHart h _).trans (State.setHart_inHart _ h _), rfl⟩

/-- An SC on a line that the L1D owns and the reservation covers stores its data and returns 0. -/
theorem State.scGo_owned {u : State} {h k pa rd size : Nat} {va data : Word} {c : CLine} (hpaired : (u.hart h).paired = false)
    (hfind : findLine (u.hart h).l1d (pa / 64) = some (k, c)) (hset : k / 8 = l1dSet va.toNat) (hown : c.st = .m ∨ c.st = .e)
    (hpoison : c.poison = 0) (hreserve : (u.hart h).reserve = some (pa / 64)) (hwait : (u.hart h).snoopWait = []) :
    u.InHart h (u.scGo h rd va pa size data) ∧ ∃ y : Hart, y.Swapped k pa size rd c data.toNat 0
      ∧ (u.scGo h rd va pa size data).hart h = { y with reserve := none, deferTo := none } := by
  have hspent := u.hart_spend h
  have hgo : u.scGo h rd va pa size data = ((u.spend h).modHart h (fun x => x.noteData (pa / 64))).scPerform h rd va pa size data := by
    rcases Hart.lineSt_owned hfind hown with hst | hst <;> simp [State.scGo, hreserve, hst]
  obtain ⟨hin, hhart⟩ := State.lookup_held (s := u.spend h) (va := va) false (by rw [hspent]; exact hfind) hset
  rw [hgo, State.scPerform]
  generalize ((u.spend h).modHart h (fun x => x.noteData (pa / 64))).recallLine h va (pa / 64) false = r at hin hhart
  have hheld : findLine (r.hart h).l1d (pa / 64) = some (k, c) := by rw [hhart, Hart.noteData_l1d, hspent]; exact hfind
  have halone : (r.hart h).paired = false := by rw [hhart, Hart.noteData_paired, hspent]; exact hpaired
  obtain ⟨hwbs, hsame⟩ := Hart.storeTo_keeps (pa := pa) r.bind (hartCore h) r.time.now size rd data.toNat 0 halone
  have hgood : (((r.hart h).lineCopy (pa / 64)).map (fun c => poisonAt c.poison pa (2 ^ size))).getD false = false := by
    simp [Hart.lineCopy_l1d hheld, poisonAt_of_zero _ _ hpoison]
  simp only [hgood, Bool.false_eq_true, if_false]
  obtain ⟨hend, hends⟩ := State.endReserve_quiet (h := h) (s := r.putHart h (((r.hart h).storeTo r.bind (hartCore h) r.time.now pa (2 ^ size)
    data.toNat).setX rd 0)) (by rw [State.hart_putHart_same, hsame, hhart, Hart.noteData_snoopWait, hspent]; exact hwait)
  rw [hends, State.hart_putHart_same]
  exact ⟨(u.modHart_inHart h _).trans (hin.trans ((State.putHart_inHart hwbs).trans hend)), _,
    Hart.storeTo_swapped _ _ _ _ _ _ _ halone hheld, rfl⟩

/-- An SC without a reservation of its line returns 1 and stores nothing. -/
theorem State.scGo_unreserved {u : State} {h pa rd size : Nat} {va data : Word} (hreserve : (u.hart h).reserve ≠ some (pa / 64))
    (hwait : (u.hart h).snoopWait = []) :
    u.InHart h (u.scGo h rd va pa size data)
      ∧ (u.scGo h rd va pa size data).hart h = { ({ u.hart h with pairGo := none } : Hart).setX rd 1 with reserve := none, deferTo := none } := by
  have hfails : ((u.spend h).modHart h (fun x => x.setX rd 1)).hart h = ({ u.hart h with pairGo := none } : Hart).setX rd 1 := by
    rw [State.hart_modHart_same, u.hart_spend h]
  obtain ⟨hend, hends⟩ := State.endReserve_quiet (s := (u.spend h).modHart h (fun x => x.setX rd 1)) (h := h)
    (by rw [hfails, Hart.setX_frame _ Hart.snoopWait rd 1 fun _ => rfl]; exact hwait)
  rw [hfails] at hends
  rw [State.scGo, if_pos hreserve]
  exact ⟨(u.modHart_inHart h _).trans ((State.modHart_inHart _ h _).trans hend), hends⟩

/-! ### O19 -/

/-- Settles O19: AMOs near and far, then LR, SC with and without its reservation, and the end of an LR's cycles. -/
theorem atomicsAndReservations : Obligations.Atomics_and_reservations := by
  unfold Obligations.Atomics_and_reservations
  refine ⟨⟨?near, ?far⟩, ?lr, ?scReserved, ?scUnreserved, ?expiry⟩
  case near =>
    intro s u h k pa o c b hready hsize haligned hload hstore hlocate hphys hpaired hbusy hnear hfind hset hown hpoison
    obtain ⟨t, hexec, hin, hswap⟩ := exec_amo_near hready hsize haligned hload hstore hlocate hphys hpaired hbusy hnear hfind hset hown hpoison
    exact ⟨t, hexec, hin.parts, hswap.reg, hswap.copy⟩
  case far =>
    intro s u h pa o b hready hsize haligned hload hstore hlocate hphys hfar hfree
    exact exec_amo_far hready hsize haligned hload hstore hlocate hphys hfar hfree
  case lr =>
    intro s u h k pa rd size va c hready hsize haligned htrig hlocate hbusy hfind hset hown hpoison
    obtain ⟨hin, hresult⟩ := State.ownAccess_lr hbusy hfind hset hown hpoison
    exact ⟨_, State.exec_lr_ordinary hready hsize haligned htrig hlocate, hin.parts, hresult⟩
  case scReserved =>
    intro s u h k pa rd size va data c hready hsize haligned htrig hlocate hpaired hfind hset hown hpoison hreserve hwait
    obtain ⟨hin, y, ⟨hreg, d, hd, -, hdata⟩, hhart⟩ := State.scGo_owned hpaired hfind hset hown hpoison hreserve hwait
    refine ⟨_, State.exec_sc_ordinary hready hsize haligned htrig hlocate hpaired, hin.parts, ?_⟩
    rw [hhart]
    exact ⟨rfl, hreg.trans (ite_self _), d, hd, hdata⟩
  case scUnreserved =>
    intro s u h pa rd size va data hready hsize haligned htrig hlocate hpaired hreserve hwait
    obtain ⟨hin, hhart⟩ := State.scGo_unreserved hreserve hwait
    refine ⟨_, State.exec_sc_ordinary hready hsize haligned htrig hlocate hpaired, hin.parts, ?_⟩
    rw [hhart]
    refine ⟨rfl, ?_, Hart.setX_l1d ..⟩
    exact (Hart.getX_setX _ rd rd 1).trans (by rw [if_pos rfl])
  case expiry =>
    intro s h n m hdefer hover hwait hholds
    exact exec_lrSnoopDeferExpiry_answers hdefer hover hwait hholds

end Sys2Proof.Machine
end

section
/-! PROOFS. Partner dies (R241 to R243): a port in reset, the certificate that a link-up waits for, and the site UP, lost and tried again. -/

namespace Sys2Proof.Machine

/-! ### What leaves the partner ports as they are -/

/-- What is known of a partner die stands in `links`. -/
theorem State.partner_congr {s t : State} (h : t.links = s.links) (i : Nat) : t.partner i = s.partner i := by rw [State.partner, State.partner, h]

@[simp] theorem State.log_partner (s : State) (r : ErrRec) (i : Nat) : (s.log r).partner i = s.partner i := State.partner_congr (s.log_links r) i
@[simp] theorem State.needResign_partner (s : State) (i : Nat) : s.needResign.partner i = s.partner i := State.partner_congr s.needResign_links i
@[simp] theorem State.setXl_partner (s : State) (x : Nat) (v : Xl) (i : Nat) : (s.setXl x v).partner i = s.partner i := rfl
@[simp] theorem State.setPartner_xl (s : State) (i : Nat) (v : Partner) (x : Nat) : (s.setPartner i v).xl x = s.xl x := rfl

@[simp] theorem State.demote_links (s : State) (n : Nat) : (s.demote n).links = s.links := by
  simp only [State.demote]
  split <;> simp

@[simp] theorem State.demoteWhere_links (s : State) (p : GStream → Bool) : (s.demoteWhere p).links = s.links :=
  foldl_frame State.links _ _ s State.demote_links

@[simp] theorem State.failRequestsTo_links (s : State) (node status : Nat) : (s.failRequestsTo node status).links = s.links :=
  foldl_frame State.links _ _ _ fun _ _ => rfl

@[simp] theorem State.failRequestsToDie_links (s : State) (die status : Nat) : (s.failRequestsToDie die status).links = s.links :=
  foldl_frame State.links _ _ s fun s n => s.failRequestsTo_links n status

@[simp] theorem State.notifyQuire_links (s : State) (q : Nat) : (s.notifyQuire q).links = s.links := by
  unfold State.notifyQuire
  split <;> rfl

@[simp] theorem State.partnerAct_links (s : State) (kind n : Nat) : (s.partnerAct kind n).links = s.links := by
  unfold State.partnerAct
  split
  · rfl
  · dsimp only
    split <;> split <;> simp [State.alert]

/-- Streams that go on over a partner die change the fabric only. -/
theorem State.restorePartner_frame {α : Type} (g : State → α) (hg : ∀ (s : State) n v, g (s.setStream n v) = g s) (s : State) (i : Nat) :
    g (s.restorePartner i) = g s := by
  refine foldl_frame g _ _ s fun s e => ?_
  split
  · exact hg s _ _
  · rfl

/-! ### Link-up refused (R241) -/

/-- A site refused for a reason: it is rejected, its port in reset, and the refusal on its way to the collectors (R241). -/
structure State.Refused (s : State) (i reason : Nat) : Prop where
  st : (s.partner i).st = .rejected
  reason : (s.partner i).reason = reason
  port : s.xl (80 + i) = Xl.reset
  logged : s.carries Syn.partnerRejected = true

theorem State.partnerReject_refused (s : State) (i reason : Nat) : (s.partnerReject i reason).Refused i reason := by
  constructor
  · simp [State.partnerReject]
  · simp [State.partnerReject]
  · simp [State.partnerReject, State.partnerDown]
  · exact State.log_carries _ _ _ rfl

/-- No certificate within 10 ms of the link-up (R241). -/
theorem exec_partnerCertTimeout_due {s : State} {i : Nat} (hsite : i < 2) (hawaits : (s.partner i).st = .cert)
    (hdue : (s.partner i).since + 10000000 ≤ s.time.now) : exec (.partnerCertTimeout i) s = .next (s.partnerReject i 2) :=
  congrArg Host.Outcome.next (if_pos ⟨hsite, hawaits, hdue⟩)

/-! ### The certificate (R241, R242) -/

/-- The checks of a certificate: format, signatures, and its digest on the allowlist of the site (R241). -/
def State.certAllowed (s : State) (i : Nat) (c : List Byte) : Prop :=
  certFormat c = true ∧ certSigned c = true ∧ sha384 (c.take (numAt c 8 4)) ∈ s.bind.siteList i

/-- The reason that the first failed check gives (R241). -/
def certReason (c : List Byte) : Nat := if certFormat c = false then 3 else if certSigned c = false then 4 else 5

section
variable {s : State} {i : Nat} {c : List Byte} (hsite : i < 2) (hlist : s.bind.siteList i ≠ []) (hawaits : (s.partner i).st = .cert)
include hsite hlist hawaits

theorem partnerCertificate_refused (hbad : ¬ s.certAllowed i c) : partnerCertificate s i c = s.partnerReject i (certReason c) := by
  have hin : ¬ 2 ≤ i := by omega
  simp only [partnerCertificate, certReason, hin, hlist, hawaits, List.isEmpty_iff, if_false, ne_eq, not_true_eq_false]
  cases hformat : certFormat c with
  | false => simp
  | true =>
    cases hsigned : certSigned c with
    | false => simp
    | true =>
      have hunlisted : sha384 (c.take (numAt c 8 4)) ∉ s.bind.siteList i := fun hmem => hbad ⟨hformat, hsigned, hmem⟩
      simp [hunlisted]

theorem partnerCertificate_trains (hgood : s.certAllowed i c) :
    ((partnerCertificate s i c).partner i).st = .training ∧ ((partnerCertificate s i c).xl (80 + i)).st = .training := by
  obtain ⟨hformat, hsigned, hlisted⟩ := hgood
  have hin : ¬ 2 ≤ i := by omega
  simp [partnerCertificate, hin, hlist, hawaits, hformat, hsigned, hlisted]

/-- A certificate in time: a port trains only behind all three checks; else the site is refused for the first that fails (R241). -/
theorem exec_partnerCertificate_awaited :
    ∃ t, exec (.partnerCertificate i c) s = .next t
      ∧ (if certFormat c = true ∧ certSigned c = true ∧ sha384 (c.take (numAt c 8 4)) ∈ s.bind.siteList i then
          (t.partner i).st = .training ∧ (t.xl (80 + i)).st = .training
        else (t.partner i).st = .rejected ∧ t.xl (80 + i) = Xl.reset ∧ (t.partner i).reason = certReason c) := by
  refine ⟨partnerCertificate s i c, rfl, ?_⟩
  split
  next hgood => exact partnerCertificate_trains hsite hlist hawaits hgood
  next hbad =>
    rw [partnerCertificate_refused hsite hlist hawaits hbad]
    have hrefused := s.partnerReject_refused i (certReason c)
    exact ⟨hrefused.st, hrefused.port, hrefused.reason⟩

end

/-! ### A site UP (R241, R243) -/

/-- The die names itself as its certificate does: the site is UP, and the Colophon is to list it (R241). -/
theorem exec_partnerTrained_named {s : State} {i : Nat} {v : Word} (hsite : i < 2) (htraining : (s.partner i).st = .training)
    (hport : (s.xl (80 + i)).st = .up) (hkind : fieldOf v 8 2 = 3) (hdie : fieldOf v 0 5 = 28 + i)
    (hwidth : fieldOf v 16 4 = (s.partner i).meshW) (hheight : fieldOf v 20 4 = (s.partner i).meshH) :
    ∃ t, exec (.partnerTrained i v) s = .next t ∧ (t.partner i).st = .up ∧ t.clasp.resign = true := by
  have hin : ¬ 2 ≤ i := by omega
  refine ⟨partnerTrained s i v, rfl, ?_⟩
  simp only [partnerTrained, hin, htraining, hport, hkind, hdie, hwidth, hheight, ne_eq, not_true_eq_false, or_self, if_false, beq_self_eq_true,
    Bool.and_self, if_true]
  split
  · rw [State.restorePartner_frame (fun t => t.partner i) (fun _ _ _ => rfl),
      State.restorePartner_frame (fun t => t.clasp.resign) (fun _ _ _ => rfl)]
    exact ⟨by simp, rfl⟩
  · exact ⟨by simp, rfl⟩

/-- What follows the loss of a die leaves every port as the loss has put it (R243). -/
theorem exec_partnerLost_up {s : State} {i : Nat} (hsite : i < 2) (hup : (s.partner i).st = .up) :
    ∃ t, exec (.partnerLost i) s = .next t ∧ (t.partner i).st = .lost ∧ t.xl (80 + i) = Xl.reset := by
  have hin : ¬ (2 ≤ i ∨ (s.partner i).st ≠ .up) := by simp [hup, hsite]
  refine ⟨partnerLost s i, rfl, ?_⟩
  simp only [partnerLost, if_neg hin]
  generalize hlost : State.partnerDown _ i = lost
  have hport : (lost.partner i).st = .lost ∧ lost.xl (80 + i) = Xl.reset := by
    rw [← hlost]
    simp [State.partnerDown]
  rw [State.partner_congr (t := State.partnerAct ..) (s := lost) (by simp), State.xl_congr (t := State.partnerAct ..) (s := lost) (by simp)]
  exact hport

/-- A site with allowlist records and no bar begins a link-up (R241, R243). -/
theorem State.partnerLinkUp_begins {s : State} {i : Nat} (hfree : (s.partner i).blocked = false) (hlist : s.bind.siteList i ≠ []) :
    ((s.partnerLinkUp i).partner i).st = .cert ∧ ((s.partnerLinkUp i).partner i).retries = (s.partner i).retries := by
  simp [State.partnerLinkUp, hfree, hlist]

/-- A lost die is tried again after 1 ms, as often as it may be (R243). -/
theorem exec_partnerRetry_lost {s : State} {i : Nat} (hsite : i < 2) (hlost : (s.partner i).st = .lost) (hleft : 0 < (s.partner i).retries)
    (hdue : (s.partner i).since + 1000000 ≤ s.time.now) (hfree : (s.partner i).blocked = false) (hlist : s.bind.siteList i ≠ []) :
    ∃ t, exec (.partnerRetry i) s = .next t ∧ (t.partner i).st = .cert ∧ (t.partner i).retries = (s.partner i).retries - 1 := by
  have hstep : partnerRetry s i = (s.setPartner i { s.partner i with retries := (s.partner i).retries - 1 }).partnerLinkUp i :=
    if_pos ⟨hsite, .inl hlost, hleft, hdue⟩
  have hspent := s.partner_setPartner_same i { s.partner i with retries := (s.partner i).retries - 1 }
  obtain ⟨hst, hretries⟩ := State.partnerLinkUp_begins (s := s.setPartner i { s.partner i with retries := (s.partner i).retries - 1 })
    (by rw [hspent]; exact hfree) hlist
  exact ⟨_, congrArg Host.Outcome.next hstep, hst, by rw [hretries, hspent]⟩

/-! ### O6 -/

/-- Settles O6, a clause a lemma: the certificate checked, none in time, the site UP, lost, and tried again. -/
theorem partnerDies : Obligations.Partner_dies := by
  unfold Obligations.Partner_dies
  refine ⟨?certificate, ?timeout, ?trained, ?lost, ?retry⟩
  case certificate =>
    intro s i c hsite hlist hawaits
    exact exec_partnerCertificate_awaited hsite hlist hawaits
  case timeout =>
    intro s i hsite hawaits hdue
    have hrefused := s.partnerReject_refused i 2
    exact ⟨_, exec_partnerCertTimeout_due hsite hawaits hdue, hrefused.st, hrefused.reason, hrefused.port, hrefused.logged⟩
  case trained =>
    intro s i v hsite htraining hport hkind hdie hwidth hheight
    exact exec_partnerTrained_named hsite htraining hport hkind hdie hwidth hheight
  case lost =>
    intro s i hsite hup
    exact exec_partnerLost_up hsite hup
  case retry =>
    intro s i hsite hlost hleft hdue hfree hlist
    exact exec_partnerRetry_lost hsite hlost hleft hdue hfree hlist

end Sys2Proof.Machine
end

section
/-! PROOFS. The test port (R244, R245): the instruction that a die selects, and what its data register captures. -/

namespace Sys2Proof.Machine

theorem State.changesOnly_pins (s : State) (p : Pins) : s.changesOnly [.pins] { s with pins := p } := by
  intro q hq
  cases q with
  | pins => simp at hq
  | _ => rfl

/-! ### The instruction that a die selects (R245) -/

@[simp] theorem State.selectTap_tap (s : State) (d c : Nat) : Tab.get (s.selectTap d c).pins.tap 1 d = c := Tab.get_set_same _ _ _ _

section
variable {s : State} {d : Nat} (hchain : s.inChain d = true)
include hchain

/-- An instruction that the die implements is selected while its condition holds. -/
theorem State.tapInstr_selects {iodOnly cond : Bool} (code : Nat) (hhas : iodOnly = true → d = iodDie) (hcond : cond = true) :
    s.tapInstr d code iodOnly cond = s.selectTap d code := by
  have hown : ¬ (iodOnly && d != iodDie) = true := by simpa using hhas
  rw [State.tapInstr, if_neg (by simp [hchain]), if_neg hown, if_pos hcond]

/-- An instruction of the I/O die alone selects BYPASS in any other die. -/
theorem State.tapInstr_bypasses (code : Nat) (cond : Bool) (hother : d ≠ iodDie) : s.tapInstr d code true cond = s.tapBypass d := by
  rw [State.tapInstr, if_neg (by simp [hchain]), if_pos (by simp [hother])]

theorem State.tapIs_selectTap (code : Nat) : (s.selectTap d code).tapIs d code = true := by
  have hstays : (s.selectTap d code).inChain d = true := hchain
  simp [State.tapIs, hstays]

/-! ### What the data registers capture (R244, R245) -/

theorem exec_idcode_inChain : exec (.idcode d) s = .next ((s.selectTap d 0x01).capture (idcodeOf d)) := by
  refine congrArg Host.Outcome.next ?_
  rw [State.tapInstr_selects hchain 0x01 (by simp) rfl]
  exact if_pos (State.tapIs_selectTap hchain 0x01)

theorem exec_bypass_unlisted {c : Nat} (hun : [0x00, 0x01, 0x02, 0x03, 0x04, 0x08, 0x10, 0x11, 0x20, 0x21, 0x30].contains c = false) :
    exec (.bypass d c) s = .next (s.tapBypass d) :=
  congrArg Host.Outcome.next (if_pos (by rw [hchain, hun]; rfl))

/-- The wrapper of a die under test is captured, and is the data register. -/
theorem State.captureWrap_selected (code : Nat) :
    Tab.get ((s.selectTap d code).captureWrap d code).pins.tap 1 d = code ∧ ((s.selectTap d code).captureWrap d code).pins.dr = s.draw.1
      ∧ Tab.get ((s.selectTap d code).captureWrap d code).pins.wrap 0 d = s.draw.1 := by
  rw [State.captureWrap, if_pos (State.tapIs_selectTap hchain code)]
  exact ⟨s.selectTap_tap d code, rfl, Tab.get_set_same _ _ _ _⟩

/-- IJTAG_ACCESS opens the instrument network of the die (R244). -/
theorem exec_ijtagAccess_session (hsession : s.testSession = true) :
    ∃ t, exec (.ijtagAccess d) s = .next t ∧ Tab.get t.pins.tap 1 d = 0x30 ∧ d ∈ t.pins.sib ∧ s.changesOnly [.pins] t := by
  refine ⟨_, rfl, ?_⟩
  rw [State.tapInstr_selects hchain 0x30 (by simp) hsession, State.tapIs_selectTap hchain, Bool.true_and]
  split
  next => exact ⟨s.selectTap_tap d 0x30, by simp, s.changesOnly_pins _⟩
  next hopen => exact ⟨s.selectTap_tap d 0x30, by simpa using hopen, s.changesOnly_pins _⟩

end

section
variable {s : State} (hchain : s.inChain iodDie = true)
include hchain

theorem exec_chainStatus_inChain : exec (.chainStatus iodDie) s = .next ((s.selectTap iodDie 0x08).capture s.chainStatus) := by
  refine congrArg Host.Outcome.next ?_
  rw [State.tapInstr_selects hchain 0x08 (fun _ => rfl) rfl]
  exact if_pos (State.tapIs_selectTap hchain 0x08)

theorem exec_dtmcs_inChain : ∃ t, exec (.dtmcs iodDie) s = .next t ∧ Tab.get t.pins.tap 1 iodDie = 0x10 := by
  refine ⟨_, rfl, ?_⟩
  rw [State.tapInstr_selects hchain 0x10 (fun _ => rfl) rfl, if_pos (State.tapIs_selectTap hchain 0x10)]
  exact s.selectTap_tap iodDie 0x10

/-- A debugger's request reaches the debug module over DMI (R375). -/
theorem exec_dmi_inChain (op : DmiOp) (hclocked : s.clocked = true) : exec (.dmi iodDie op) s = .next ((s.selectTap iodDie 0x11).dmiOp op) := by
  have hruns : (s.selectTap iodDie 0x11).clocked = true := hclocked
  refine congrArg Host.Outcome.next ?_
  rw [State.tapInstr_selects hchain 0x11 (fun _ => rfl) rfl]
  exact if_pos (by rw [State.tapIs_selectTap hchain, hruns]; rfl)

end

end Sys2Proof.Machine
end

section
/-! PROOFS. The debug module (R83, R112, R375): harts that halt, and abstract commands. -/

namespace Sys2Proof.Machine

/-! ### A hart enters debug mode (R375) -/

@[simp] theorem Hart.dropUnconfirmed_pc (x : Hart) : x.dropUnconfirmed.pc = x.pc := by
  unfold Hart.dropUnconfirmed
  dsimp only
  split <;> simp

@[simp] theorem Hart.enterMode_pc (x : Hart) (to_ : Mode) (v : Bool) : (x.enterMode to_ v).pc = x.pc := by
  unfold Hart.enterMode Hart.flushPoint
  dsimp only
  split <;> simp

/-- A hart told to halt: a running one enters debug mode, any other stays as it is. -/
def Hart.halt (cause : Nat) (x : Hart) : Hart := if x.run = .running then x.enterDebug cause else x

theorem Hart.enterDebug_run (x : Hart) (cause : Nat) : (x.enterDebug cause).run = .halted := (Hart.enterMode_sameBody _ .m false).1

theorem Hart.enterDebug_pc (x : Hart) (cause : Nat) : (x.enterDebug cause).pc = x.pc := Hart.enterMode_pc _ .m false

theorem Hart.halt_halted {x : Hart} (cause : Nat) (h : x.run = .halted) : x.halt cause = x := if_neg (by simp [h])

theorem Hart.halt_halt (x : Hart) (cause : Nat) : (x.halt cause).halt cause = x.halt cause := by
  by_cases hrun : x.run = .running
  · have hstop : x.halt cause = x.enterDebug cause := if_pos hrun
    rw [hstop, Hart.halt_halted cause (x.enterDebug_run cause)]
  · have hstay : x.halt cause = x := if_neg hrun
    rw [hstay, hstay]

/-! ### Its cell and its halt group (R83, R112) -/

theorem State.foldl_halt_hart (cause : Nat) (l : List Nat) (s : State) (h : Nat) :
    (l.foldl (fun s k => s.modHart k (Hart.halt cause)) s).hart h = if h ∈ l then (s.hart h).halt cause else s.hart h := by
  induction l generalizing s with
  | nil => simp
  | cons k l ih =>
    rw [List.foldl_cons, ih]
    by_cases hk : k = h
    · subst hk
      simp [Hart.halt_halt]
    · simp [State.hart_modHart_other _ _ hk, Ne.symm hk]

theorem State.haltOne_hart (s : State) (k cause h : Nat) :
    (s.haltOne k cause).hart h = if h ∈ s.cellHarts k then (s.hart h).halt cause else s.hart h :=
  State.foldl_halt_hart cause (s.cellHarts k) s h

theorem State.haltOne_halted {s : State} {h : Nat} (k cause : Nat) (hhalted : (s.hart h).run = .halted) : (s.haltOne k cause).hart h = s.hart h := by
  rw [State.haltOne_hart, Hart.halt_halted cause hhalted, ite_self]

@[simp] theorem State.swdSync_harts (s : State) : s.swdSync.harts = s.harts := by
  unfold State.swdSync
  dsimp only
  split <;> rfl

@[simp] theorem State.swdSync_hart (s : State) (h : Nat) : s.swdSync.hart h = s.hart h := State.hart_congr s.swdSync_harts h

/-- A running hart that halts is in debug mode at once; the halt of its group leaves it there. -/
theorem State.haltHart_hart {s : State} {h : Nat} (cause : Nat) (hrun : (s.hart h).run = .running) :
    (s.haltHart h cause).hart h = (s.hart h).enterDebug cause := by
  have hone : (s.swdSync.haltOne h cause).hart h = (s.hart h).enterDebug cause := by
    rw [State.haltOne_hart, if_pos (State.mem_cellHarts _ h), State.swdSync_hart]
    exact if_pos hrun
  have hgroup : ∀ l : List Nat, (l.foldl (fun s k => s.haltOne k 6) (s.swdSync.haltOne h cause)).hart h = (s.hart h).enterDebug cause := fun l =>
    List.foldlRecOn (motive := fun t : State => t.hart h = (s.hart h).enterDebug cause) l _ hone fun t ht k _ => by
      rw [State.haltOne_halted k 6 (by rw [ht, Hart.enterDebug_run]), ht]
  rw [State.haltHart, State.swdSync_hart]
  exact hgroup _

/-! ### A debugger's requests (R375) -/

theorem State.dmiOp_haltreq {s : State} {h : Nat} (hinv : s.invApplies h = true) (hrun : (s.hart h).run = .running) :
    s.dmiOp (.haltreq h) = s.haltHart h 3 := if_pos (by simp [hinv, hrun])

theorem State.abstractCmd_denied {s : State} {h : Nat} (f : State → State) (hinv : s.invApplies h = false) : s.abstractCmd h f = s.setCmderr 3 :=
  if_pos (by simp [hinv])

theorem State.abstractCmd_halted {s : State} {h : Nat} (f : State → State) (hinv : s.invApplies h = true) (hhalted : (s.hart h).run = .halted) :
    s.abstractCmd h f = f (s.setCmderr 0) := by
  rw [State.abstractCmd, if_neg (by simp [hinv]), if_neg (by simp [hhalted])]

section
variable {s : State} {h : Nat} (hchain : s.inChain iodDie = true) (hclocked : s.clocked = true)
include hchain hclocked

theorem exec_dmi_haltreq (hinv : s.invApplies h = true) (hrun : (s.hart h).run = .running) :
    ∃ t, exec (.dmi iodDie (.haltreq h)) s = .next t ∧ (t.hart h).run = .halted ∧ (t.hart h).pc = (s.hart h).pc := by
  refine ⟨_, exec_dmi_inChain hchain _ hclocked, ?_⟩
  have hhart : ((s.selectTap iodDie 0x11).haltHart h 3).hart h = (s.hart h).enterDebug 3 := State.haltHart_hart 3 hrun
  rw [State.dmiOp_haltreq (s := s.selectTap iodDie 0x11) hinv hrun, hhart]
  exact ⟨Hart.enterDebug_run _ 3, Hart.enterDebug_pc _ 3⟩

theorem exec_dmi_readReg {rd : Nat} (hinv : s.invApplies h = true) (hhalted : (s.hart h).run = .halted) (hrd : rd < 32) :
    ∃ t, exec (.dmi iodDie (.readReg h rd)) s = .next t ∧ t.dbg.data = (s.hart h).getX rd ∧ t.dbg.cmderr = 0 ∧ t.harts = s.harts := by
  refine ⟨_, exec_dmi_inChain hchain _ hclocked, ?_⟩
  rw [State.dmiOp, State.abstractCmd_halted (s := s.selectTap iodDie 0x11) _ hinv hhalted, Nat.mod_eq_of_lt hrd]
  exact ⟨rfl, rfl, rfl⟩

theorem exec_dmi_writeReg_denied (rd : Nat) (v : Word) (hinv : s.invApplies h = false) :
    ∃ t, exec (.dmi iodDie (.writeReg h rd v)) s = .next t ∧ t.dbg.cmderr = 3 ∧ t.harts = s.harts := by
  refine ⟨_, exec_dmi_inChain hchain _ hclocked, ?_⟩
  rw [State.dmiOp, State.abstractCmd_denied (s := s.selectTap iodDie 0x11) _ hinv]
  exact ⟨rfl, rfl⟩

end

/-! ### O7 -/

/-- Settles O7: the instructions of the test port, each selected or bypassed, then the debug module behind DMI. -/
theorem testPort : Obligations.Test_port := by
  unfold Obligations.Test_port
  refine ⟨⟨?pins, ?captured, ?idcode, ?wrapper, ?ijtag, ?unimplemented, ?unlisted⟩, ?haltreq, ?readReg, ?denied⟩
  case pins =>
    intro s hchain hreset
    have hheld : (!s.pins.resetN) = true := by rw [hreset]; rfl
    have hselects : ∀ code, s.tapInstr iodDie code true (!s.pins.resetN) = s.selectTap iodDie code := fun code =>
      State.tapInstr_selects hchain code (fun _ => rfl) hheld
    exact ⟨congrArg Host.Outcome.next (hselects 0x00), congrArg Host.Outcome.next (hselects 0x03), congrArg Host.Outcome.next (hselects 0x04)⟩
  case captured =>
    intro s hchain
    exact ⟨congrArg Host.Outcome.next (State.tapInstr_selects hchain 0x02 (fun _ => rfl) rfl), exec_chainStatus_inChain hchain,
      exec_dtmcs_inChain hchain⟩
  case idcode =>
    intro s d hchain
    exact exec_idcode_inChain hchain
  case wrapper =>
    intro s d hchain hok
    have hselects : ∀ code, (s.tapInstr d code false (s.wrapOk d)).captureWrap d code = (s.selectTap d code).captureWrap d code := fun code => by
      rw [State.tapInstr_selects hchain code (by simp) hok]
    obtain ⟨htap, hdr, hwrap⟩ := State.captureWrap_selected hchain 0x20
    obtain ⟨hintap, hindr, -⟩ := State.captureWrap_selected hchain 0x21
    exact ⟨⟨_, congrArg Host.Outcome.next (hselects 0x20), htap, hdr, hwrap⟩, _, congrArg Host.Outcome.next (hselects 0x21), hintap, hindr⟩
  case ijtag =>
    intro s d hchain hsession
    exact exec_ijtagAccess_session hchain hsession
  case unimplemented =>
    intro s d hchain hother
    exact congrArg Host.Outcome.next (State.tapInstr_bypasses hchain 0x00 _ hother)
  case unlisted =>
    intro s d c hchain hun
    exact exec_bypass_unlisted hchain hun
  case haltreq =>
    intro s h hchain hclocked hinv hrun _
    exact exec_dmi_haltreq hchain hclocked hinv hrun
  case readReg =>
    intro s h rd hchain hclocked hinv hhalted hrd
    exact exec_dmi_readReg hchain hclocked hinv hhalted hrd
  case denied =>
    intro s h rd v hchain hclocked hinv
    exact exec_dmi_writeReg_denied hchain hclocked rd v hinv

end Sys2Proof.Machine
end

section
/-! PROOFS. XL_STAT (R231, R232): where the registers of the crossings stand, and who may access them. -/

namespace Sys2Proof.Machine

/-! ### Control space (R27, R30) -/

theorem decodeControl_controlAddr {die block off : Nat} (hdie : die < 2 ^ 5) (hblock : block < 2 ^ 12) (hoff : off < 2 ^ 20) :
    decodeControl (controlAddr die block off) = some (die, block, off) := by
  unfold decodeControl controlAddr controlBase bitsOf
  rw [if_pos (by omega)]
  simp only [Option.some.injEq, Prod.mk.injEq]
  omega

/-- A write that no register takes is a control-space fault of the hart that gives it (R27). -/
theorem exec_registerWrite_untaken {s : State} {h a size : Nat} {v : Word} (hready : s.readySide h = true)
    (huntaken : s.ctlStore (.hart h) a size v = .inl s) : exec (.registerWrite (.hart h) (.addr a size) v) s = .next (s.ctlFault h true a) := by
  have hwrite : registerWrite s (.hart h) (.addr a size) v = s.ctlFault h true a := by
    simp only [registerWrite, State.asAgent_of_readySide _ hready, huntaken, State.refuse]
  exact congrArg Host.Outcome.next hwrite

/-- A read that the register's rule forbids is a control-space fault of the hart that gives it (R27). -/
theorem State.readReg_refused {s : State} {h : Nat} (rd a : Nat) (ok : State → Bool) (value : State → Word) (effect : State → State)
    (hready : s.readySide h = true) (hrefused : ok s = false) : s.readReg h rd a ok value effect = s.ctlFault h false a := by
  rw [State.readReg, State.access_of_readySide _ hready, if_neg (by simp [hrefused])]

/-! ### The registers of the crossings (R231) -/

/-- XL_STAT of a crossing stands at the start of a block of a die; while the die has no power nothing stands there. -/
structure XlPlace (x die block : Nat) : Prop where
  die_lt : die < 2 ^ 5
  block_lt : block < 2 ^ 12
  addr : xlAddr x = controlAddr die block 0
  reg : ∀ s : State, s.regOf die block 0 = if s.diePowered die then some (.xl x) else none

theorem xlPlace_vport {x : Nat} (hx : x < 48) : XlPlace x (x / 4) (0x40 + x % 4) where
  die_lt := by omega
  block_lt := by omega
  addr := by simp [xlAddr, crossing, hx]
  reg s := by
    have hdie : dieKind (x / 4) = some .cd := if_pos (by omega)
    have hlisted : blockListed (x / 4) (0x40 + x % 4) = true := by
      have hport : 0x40 + x % 4 ≤ 0x43 := by omega
      simp [blockListed, hdie, hport]
    have hnumber : x / 4 * 4 + (0x40 + x % 4 - 0x40) = x := by omega
    have hreg : regOfCd (x / 4) (0x40 + x % 4) 0 = .xl x := by
      unfold regOfCd
      rw [if_neg (by omega), if_neg (by omega), if_pos (by omega), if_pos rfl, hnumber]
    have hplain : 0x40 + x % 4 ≠ 0xFFF ∧ 0x40 + x % 4 ≠ 0xFFE := by omega
    cases hpower : s.diePowered (x / 4) <;> simp [State.regOf, hdie, hlisted, hreg, hplain, hpower]

theorem xlPlace_ucie {x : Nat} (hlow : 64 ≤ x) (hhigh : x < 80) : XlPlace x (16 + (x - 64) / 4) (0x40 + (x - 64) % 4) where
  die_lt := by omega
  block_lt := by omega
  addr := by
    have hno : ¬ x < 48 := by omega
    simp [xlAddr, crossing, hno, hlow, hhigh]
  reg s := by
    have hdie : dieKind (16 + (x - 64) / 4) = some .bd := by
      unfold dieKind
      rw [if_neg (by omega), if_pos (by omega)]
    have hlisted : blockListed (16 + (x - 64) / 4) (0x40 + (x - 64) % 4) = true := by
      have hmodule : 0x40 + (x - 64) % 4 ≤ 0x43 := by omega
      simp [blockListed, hdie, hmodule]
    have hnumber : 64 + 4 * (16 + (x - 64) / 4 - 16) + (0x40 + (x - 64) % 4 - 0x40) = x := by omega
    have hreg : regOfBd (16 + (x - 64) / 4) (0x40 + (x - 64) % 4) 0 = .xl x := by
      unfold regOfBd
      dsimp only
      rw [if_neg (by omega), if_neg (by omega), if_neg (by omega), if_pos (by omega), if_pos rfl, hnumber]
    have hplain : 0x40 + (x - 64) % 4 ≠ 0xFFF ∧ 0x40 + (x - 64) % 4 ≠ 0xFFE := by omega
    cases hpower : s.diePowered (16 + (x - 64) / 4) <;> simp [State.regOf, hdie, hlisted, hreg, hplain, hpower]

theorem exists_xlPlace {x : Nat} (hx : x < 48 ∨ 64 ≤ x ∧ x < 80) : ∃ die block, XlPlace x die block := by
  rcases hx with hport | ⟨hlow, hhigh⟩
  · exact ⟨_, _, xlPlace_vport hport⟩
  · exact ⟨_, _, xlPlace_ucie hlow hhigh⟩

/-! ### Accesses (R232) -/

/-- XL_STAT takes no write. -/
theorem State.ctlStore_xlAddr {x : Nat} (hx : x < 48 ∨ 64 ≤ x ∧ x < 80) (s : State) (who : Agent) (size : Nat) (v : Word) :
    s.ctlStore who (xlAddr x) size v = .inl s := by
  obtain ⟨die, block, hplace⟩ := exists_xlPlace hx
  simp only [State.ctlStore, hplace.addr, decodeControl_controlAddr hplace.die_lt hplace.block_lt (by decide : 0 < 2 ^ 20), hplace.reg]
  by_cases htaken : regShape (controlAddr die block 0) size = true ∧ s.diePowered die = true
  · simp [htaken, State.regMay, State.regDenied]
  · have hnone : (if regShape (controlAddr die block 0) size then if s.diePowered die then some (Reg.xl x) else none else none) = none := by
      simp_all
    rw [hnone]

/-- In M-mode a read gives the register and clears its count; in any other mode it faults. -/
theorem exec_xlStatRead {s : State} {h x : Nat} (rd : Nat) (hx : x < 48 ∨ 64 ≤ x ∧ x < 80) (hready : s.readySide h = true) :
    exec (.xlStatRead h x rd) s = .next (if (s.hart h).mode = .m
      then (s.setXl x { s.xl x with ceCount := 0 }).modHart h (fun y => y.setX rd (s.xl x).stat) else s.ctlFault h false (xlAddr x)) := by
  refine congrArg Host.Outcome.next ((if_pos hx).trans ?_)
  by_cases hm : (s.hart h).mode = .m
  · rw [if_pos hm, State.readReg_of_readySide rd (xlAddr x) _ _ _ hready (decide_eq_true hm)]
  · rw [if_neg hm, State.readReg_refused rd (xlAddr x) _ _ _ hready (decide_eq_false hm)]

/-! ### O53 -/

/-- Settles O53: a read by the mode, and a write at XL_STAT's place, which faults in every mode. -/
theorem xlStatAccess : Obligations.Xl_stat_access := by
  unfold Obligations.Xl_stat_access
  intro s h x hx hready
  exact ⟨fun rd => exec_xlStatRead rd hx hready, fun size v => exec_registerWrite_untaken hready (s.ctlStore_xlAddr hx (.hart h) size v)⟩

end Sys2Proof.Machine
end

section
/-! PROOFS. The memory controllers (R248, R261, R262): what a controller's registers, its retired pages and its failed units leave of
memory, and memory training. -/

namespace Sys2Proof.Machine

/-! ### The registers of a controller (R262) -/

/-- A write to a controller's registers changes the tables of controllers only. -/
theorem State.setCtl_eq (s : State) (k : Nat) (c : Ctl) :
    ∃ hbm ddr, s.setCtl k c = { s with mem := { s.mem with hbm := hbm, ddr := ddr } } := by
  unfold State.setCtl
  split <;> exact ⟨_, _, rfl⟩

theorem State.setCtl_only (s : State) (k : Nat) (c : Ctl) : s.changesOnly [.mem] (s.setCtl k c) := by
  obtain ⟨hbm, ddr, hset⟩ := s.setCtl_eq k c
  rw [hset]
  exact s.changesOnly_mem _

@[simp] theorem State.ctl_setCtl_same (s : State) (k : Nat) (c : Ctl) : (s.setCtl k c).ctl k = c := by
  unfold State.ctl State.setCtl
  split <;> exact Tab.get_set_same ..

/-! ### What units that fail leave of memory -/

/-- What is stored in memory, and over how many channels DDR interleaves. -/
def State.stored (s : State) : List Host.Cell × Nat := (s.mem.bytes, s.mem.ddrN)

@[simp] theorem State.setCtl_stored (s : State) (k : Nat) (c : Ctl) : (s.setCtl k c).stored = s.stored := by
  obtain ⟨hbm, ddr, hset⟩ := s.setCtl_eq k c
  rw [hset]
  rfl

@[simp] theorem State.log_stored (s : State) (r : ErrRec) : (s.log r).stored = s.stored := by simp [State.stored]

theorem State.dropPc_mem (s : State) (pc : Nat) : (s.dropPc pc).mem
    = { (s.setCtl (pc / 32) ((s.ctl (pc / 32)).unitFailed 32)).mem with failedPc := s.mem.failedPc ++ [pc] } := by
  obtain ⟨hbm, ddr, hset⟩ := s.setCtl_eq (pc / 32) ((s.ctl (pc / 32)).unitFailed 32)
  simp [State.dropPc, hset]

theorem State.dropCh_mem (s : State) (ch : Nat) : (s.dropCh ch).mem
    = { (s.setCtl (16 + ch) ((s.ctl (16 + ch)).unitFailed 1)).mem with failedCh := s.mem.failedCh ++ [ch] } := by
  obtain ⟨hbm, ddr, hset⟩ := s.setCtl_eq (16 + ch) ((s.ctl (16 + ch)).unitFailed 1)
  simp [State.dropCh, hset]

@[simp] theorem State.dropPc_stored (s : State) (pc : Nat) : (s.dropPc pc).stored = s.stored := by
  simp only [State.stored, State.dropPc_mem]
  exact s.setCtl_stored _ _

@[simp] theorem State.dropCh_stored (s : State) (ch : Nat) : (s.dropCh ch).stored = s.stored := by
  simp only [State.stored, State.dropCh_mem]
  exact s.setCtl_stored _ _

@[simp] theorem State.failPc_stored (s : State) (pc : Nat) : (s.failPc pc).stored = s.stored := by
  unfold State.failPc
  split
  · rfl
  · simp

@[simp] theorem State.failCh_stored (s : State) (ch : Nat) : (s.failCh ch).stored = s.stored := by
  unfold State.failCh
  split
  · rfl
  · simp

/-! ### Training (R248) -/

/-- Training as step 6 stores nothing, and DDR interleaves over the chosen set: none of its records, failed units and links changes either. -/
theorem memoryTraining_stored {s : State} (r : MemTrainResult) (hphase : s.boot.phase = .ready 6) :
    (memoryTraining s r).stored = (s.mem.bytes, (chooseSet r.dimms).length) := by
  rw [memoryTraining, if_neg (not_not.mpr hphase)]
  refine Eq.trans (foldl_frame State.stored _ _ _ fun _ _ => rfl) ?_
  refine Eq.trans (foldl_frame State.stored State.failCh _ _ State.failCh_stored) ?_
  refine Eq.trans (foldl_frame State.stored State.failPc _ _ State.failPc_stored) ?_
  refine Eq.trans (foldl_frame State.stored State.dropCh _ _ State.dropCh_stored) ?_
  refine Eq.trans (foldl_frame State.stored State.dropPc _ _ State.dropPc_stored) ?_
  exact foldl_frame State.stored _ _ _ fun s _ => s.log_stored _

/-- Settles O29: the phase and the pins are set last, and no step of training stores a byte. -/
theorem memoryTrainingStep : Obligations.Memory_training := by
  unfold Obligations.Memory_training
  intro s r hphase
  have hstored := memoryTraining_stored r hphase
  refine ⟨memoryTraining s r, rfl, ?phase, ?trained, ?released, congrArg Prod.snd hstored, congrArg Prod.fst hstored⟩
  all_goals rw [memoryTraining, if_neg (not_not.mpr hphase)]

end Sys2Proof.Machine
end

section
/-! PROOFS. Memory service (R254, R257, R258, R261 to R263): reads, queued writes, scrubs, refreshes, the lists in flash and failed units.
Each clause of O30 is a lemma. All hold but that on a queued write, which holds of a memory in canonical form (log 4) and fails of others. -/

namespace Sys2Proof.Machine

/-! ### Lines as bytes (R172) -/

theorem toLE_length (n v : Nat) : (toLE n v).length = n := by
  induction n generalizing v with
  | zero => rfl
  | succ n ih => rw [toLE, List.length_cons, ih]

theorem ofLE_toLE (n v : Nat) : ofLE (toLE n v) = v % 256 ^ n := by
  induction n generalizing v with
  | zero => rw [toLE, ofLE, Nat.pow_zero, Nat.mod_one]
  | succ n ih =>
    have hbyte : (BitVec.ofNat 8 v).toNat = v % 256 := BitVec.toNat_ofNat v 8
    rw [toLE, ofLE, ih, hbyte, Nat.pow_succ', Nat.mod_mul]

theorem ofLE_toLE_toNat {n : Nat} (v : BitVec (8 * n)) : ofLE (toLE n v.toNat) = v.toNat := by
  have hlt : v.toNat < 256 ^ n := by
    rw [show 256 = 2 ^ 8 from rfl, ← Nat.pow_mul]
    exact v.isLt
  rw [ofLE_toLE, Nat.mod_eq_of_lt hlt]

theorem lineBytes_length (v : Line) : (lineBytes v).length = 64 := toLE_length 64 _

theorem lineOf_lineBytes (v : Line) : lineOf (lineBytes v) = v := by
  have hnumber : ofLE (lineBytes v) = v.toNat := ofLE_toLE_toNat (n := 64) v
  rw [lineOf, List.take_of_length_le (lineBytes_length v).le, hnumber]
  exact BitVec.ofNat_toNat 512 v

/-! ### A line written to memory (R254, R263) -/

theorem Memory.readN_writeN {d : Nat → Byte} {m : List Host.Cell} (h : Memory.wf d m = true) (a : Nat) (bs : List Byte) :
    Memory.readN d (Memory.writeN d m a bs) a bs.length = bs :=
  List.ext_getElem (by simp [Memory.readN]) fun i hi hbs => by simpa [Memory.readN] using Memory.read_writeN h a i bs hbs

theorem MemSys.read_write {m : MemSys} (h : m.wf = true) (a : Nat) (bs : List Byte) : (m.write a bs).read a bs.length = bs :=
  Memory.readN_writeN h a bs

theorem MemSys.lineData_write {m : MemSys} (h : m.wf = true) (l : Nat) (v : Line) : (m.write (64 * l) (lineBytes v)).lineData l = v := by
  have hread := MemSys.read_write h (64 * l) (lineBytes v)
  rw [lineBytes_length] at hread
  rw [MemSys.lineData, hread, lineOf_lineBytes]

@[simp] theorem MemSys.setPoison_lineData (m : MemSys) (l k : Nat) (p : Poison) : (m.setPoison l p).lineData k = m.lineData k := rfl

@[simp] theorem MemSys.setPoison_byte (m : MemSys) (l a : Nat) (p : Poison) : (m.setPoison l p).byte a = m.byte a := rfl

theorem MemSys.granule_setPoison (m : MemSys) (l : Nat) (p : Poison) {i : Nat} (hi : i < 4) :
    (m.setPoison l p).granule (4 * l + i) = p.getLsbD i := by
  have hrange : List.range 4 = [0, 1, 2, 3] := rfl
  simp only [MemSys.granule, MemSys.setPoison, hrange, List.foldl_cons, List.foldl_nil, Tab.get_set, Nat.add_left_cancel_iff]
  obtain rfl | rfl | rfl | rfl : i = 0 ∨ i = 1 ∨ i = 2 ∨ i = 3 := by omega
  all_goals rfl

theorem poison_of_bits (p : Poison) : BitVec.ofNat 4 (maskOf ((List.range 4).filter fun i => p.getLsbD i)) = p := by
  revert p
  decide

/-- The POISON bits of a line read back as they were set. -/
theorem MemSys.linePoison_setPoison (m : MemSys) (l : Nat) (p : Poison) : (m.setPoison l p).linePoison l = p := by
  have hbits : (List.range 4).filter (fun i => (m.setPoison l p).granule (4 * l + i)) = (List.range 4).filter fun i => p.getLsbD i :=
    List.filter_congr fun i hi => m.granule_setPoison l p (List.mem_range.mp hi)
  rw [MemSys.linePoison, hbits, poison_of_bits]

section
variable {m : MemSys} (hwf : m.wf = true) (w : MemWrite)
include hwf

/-- In canonical memory a queued write that is performed reads back. -/
theorem MemSys.perform_lineData : (m.perform w).lineData w.line = w.data := by
  rw [MemSys.perform, MemSys.writeLine, MemSys.setPoison_lineData, MemSys.lineData_write hwf]

/-- In canonical memory a queued write that is performed leaves every byte of other lines. -/
theorem MemSys.perform_byte_other {a : Nat} (ha : a / 64 ≠ w.line) : (m.perform w).byte a = m.byte a := by
  rw [MemSys.perform, MemSys.writeLine, MemSys.setPoison_byte, m.byte_write_other hwf]
  rw [lineBytes_length]
  omega

end

/-- A performed write poisons its line as a whole, if it is poisoned at all (R254). -/
theorem MemSys.perform_linePoison (m : MemSys) (w : MemWrite) : (m.perform w).linePoison w.line = if w.poison = 0 then 0 else 0xF#4 :=
  MemSys.linePoison_setPoison (m.write _ _) w.line _

/-- The oldest queued write of a line, once no Class G request waits for its bank, is performed. -/
theorem memoryWrite_oldest {s : State} {l : Nat} {w : MemWrite} (hfree : s.gWaits (s.lineBank l).1 (s.lineBank l).2 = false)
    (hfind : s.mem.wpq.find? (fun w => w.line == l) = some w) :
    memoryWrite s l = { s with mem := { s.mem.perform w with wpq := s.mem.wpq.erase w } } := by
  simp [memoryWrite, hfree, hfind]

/-- In canonical memory MEMORY_WRITE puts the data of the oldest queued write into memory and leaves every other byte (R258, R263). -/
theorem exec_memoryWrite_oldest {s : State} {l : Nat} {w : MemWrite} (hwf : s.mem.wf = true)
    (hfree : s.gWaits (s.lineBank l).1 (s.lineBank l).2 = false) (hfind : s.mem.wpq.find? (fun w => w.line == l) = some w) :
    ∃ t, exec (.memoryWrite l) s = .next t ∧ t.mem.lineData l = w.data ∧ t.mem.linePoison l = (if w.poison = 0 then 0 else 0xF#4)
      ∧ t.mem.wpq = s.mem.wpq.erase w ∧ (∀ a, a / 64 ≠ l → t.mem.byte a = s.mem.byte a) ∧ s.changesOnly [.mem] t := by
  have hline : w.line = l := by simpa using List.find?_some hfind
  have hdata := MemSys.perform_lineData hwf w
  have hpoison := s.mem.perform_linePoison w
  have hother := fun a (ha : a / 64 ≠ w.line) => MemSys.perform_byte_other hwf w ha
  generalize hperform : s.mem.perform w = m at hdata hpoison hother
  subst hline
  have hstep := memoryWrite_oldest hfree hfind
  rw [hperform] at hstep
  exact ⟨_, congrArg Host.Outcome.next hstep, hdata, hpoison, rfl, hother, s.changesOnly_mem _⟩

/-! ### A read that a home waits for (R257, R258) -/

/-- An answer is sent to the requester; besides it only streams count. -/
theorem State.sendAnswer_eq (s : State) (req m : CohMsg) :
    ∃ f stream, s.sendAnswer req m = ({ s with fabric := f } : State).sendCoh { m with stream := stream } := by
  unfold State.sendAnswer
  dsimp only
  generalize (if m.cls = 2 then s.returnStream req.stream else none) = stream
  generalize (if isClusterNode req.src && m.cls == 1 then
    s.returnStream (s.demotedStream (hartAt req.src req.core) req.opc m.src req.spec) else none) = demoted
  obtain ⟨f, hf⟩ := s.countStream_only stream
  obtain ⟨g, hg⟩ := (s.countStream stream).countDemoted_only demoted
  exact ⟨g, stream, by rw [hg, hf]⟩

/-- With good check bits memory gives what its controller holds for the line. -/
theorem State.memServe_ok (s : State) (l : Nat) : s.memServe l .ok = (s, s.memValue l) := ite_self _

theorem State.memValue_unqueued {s : State} {l : Nat} (hqueue : s.mem.wpq = []) (hok : s.retired (64 * l) = false) :
    s.memValue l = (s.mem.lineData l, s.mem.linePoison l) := by
  simp [State.memValue, hqueue, hok]

/-- A transaction that holds the line's data, and that nothing keeps, is granted (R180). -/
theorem State.advance_grants {s : State} {n l : Nat} {x : Txn} {d : Line × Poison} (f : Nat) (htxn : (s.slice n).txn l = some x)
    (hgranted : x.granted = false) (hsnoops : x.snoops = []) (hevicts : x.waitEvict = none) (hmem : x.waitMem = false) (hevict : x.evict = false)
    (hdata : s.grantData n x = some d) : State.advance (f + 1) s n l = s.grantWith n x d := by
  simp [State.advance, htxn, hgranted, hsnoops, hevicts, hmem, hevict, hdata]

/-- A RdNC of a line without an entry is answered with the data, and its transaction closes (R180). -/
theorem State.grantWith_rdnc {s : State} {n : Nat} {x : Txn} (d : Line × Poison) (hopc : x.req.opc = .rdnc)
    (hnone : (s.slice n).dirFind x.req.addr = none) :
    s.grantWith n x d = (s.modSlice n fun t => t.closeTxn x.req.addr).sendAnswer x.req (answerMsg n x.req .dat 0 stOk (some d)) := by
  simp [State.grantWith, hopc, hnone]

theorem State.kickReads_idle {s : State} {n : Nat} (hidle : (s.slice n).active = []) : s.kickReads n = s := by
  simp [State.kickReads, hidle]

/-- The only read that a home waits for keeps no other back (R258). -/
theorem State.gWaits_alone {s : State} {r : MemRead} (hreads : s.mem.reads = [r]) (k bank : Nat) :
    (s.gWaits k bank && !s.readIsG r) = false := by
  simp only [State.gWaits, hreads, List.any_cons, List.any_nil]
  cases s.readIsG r <;> simp

/-- A transaction whose line has been read from memory. -/
def Txn.served (x : Txn) (d : Line × Poison) : Txn := { x with waitMem := false, data := some d }

/-- The state once the only read that a home waits for has given a transaction its line. -/
def State.readServed (s : State) (n : Nat) (x : Txn) (d : Line × Poison) : State :=
  { s with mem := { s.mem with reads := [] } }.modSlice n fun t => t.setTxn (x.served d)

section
variable {s : State} {n : Nat} {x : Txn} (hactive : (s.slice n).active = [x])
include hactive

theorem State.readServed_slice (d : Line × Poison) : (s.readServed n x d).slice n = { s.slice n with active := [x.served d] } := by
  have hset : (s.slice n).setTxn (x.served d) = { s.slice n with active := [x.served d] } := by
    simp [Slice.setTxn, hactive, Txn.served]
  exact (State.slice_modSlice_same _ n _).trans hset

/-- A read whose line is not allocated in the L3 gives its transaction the line, and the transaction goes on (R154, R257). -/
theorem memoryRead_serves (hreads : s.mem.reads = [{ line := x.req.addr, slice := n }]) (hmem : x.waitMem = true)
    (hfills : fillsL3 x.req.opc = false) :
    memoryRead s x.req.addr .ok = (State.advance 4 (s.readServed n x (s.memValue x.req.addr)) n x.req.addr).kickReads n := by
  have hmine := fun k bank => State.gWaits_alone hreads k bank
  have htxn : (s.slice n).txn x.req.addr = some x := by simp [Slice.txn, hactive]
  unfold memoryRead
  simp only [hreads, List.find?_cons, beq_self_eq_true, hmine, Bool.false_eq_true, if_false, List.erase_cons_head, State.memServe_ok]
  split
  · next hnone => cases htxn.symm.trans hnone
  · next y hy =>
    obtain rfl : x = y := Option.some.inj (htxn.symm.trans hy)
    simp only [hmem, hfills, Bool.not_true, Bool.false_and, Bool.false_eq_true, if_false]
    rfl

end

/-- Where a slice's only transaction is a RdNC of a line without an entry, and it holds the line's good data, it is answered and closes (R180). -/
theorem State.advance_rdnc {s : State} {n : Nat} {x : Txn} {d : Line × Poison} (f : Nat) (hactive : (s.slice n).active = [x])
    (hopc : x.req.opc = .rdnc) (hevict : x.evict = false) (hgranted : x.granted = false) (hmem : x.waitMem = false) (hevicts : x.waitEvict = none)
    (hsnoops : x.snoops = []) (hdata : x.data = some d) (hnone : (s.slice n).dirFind x.req.addr = none)
    (hok : s.retired (64 * x.req.addr) = false) :
    ∃ t, State.advance (f + 1) s n x.req.addr = t ∧ t.mem = s.mem ∧ (t.slice n).active = []
      ∧ ∃ r ∈ t.net.coh, r.opc = .dat ∧ r.dst = x.req.src ∧ r.core = x.req.core ∧ r.tag = x.req.tag ∧ r.state = 0
        ∧ r.data = d.1 ∧ r.poison = d.2 := by
  have htxn : (s.slice n).txn x.req.addr = some x := by simp [Slice.txn, hactive]
  have hgood : s.grantData n x = some d := by simp [State.grantData, hdata, hok]
  obtain ⟨fabric, stream, hanswer⟩ := State.sendAnswer_eq (s.modSlice n fun t => t.closeTxn x.req.addr) x.req
    (answerMsg n x.req .dat 0 stOk (some d))
  have hclosed : ((s.slice n).closeTxn x.req.addr).active = [] := by simp [Slice.closeTxn, hactive]
  refine ⟨_, State.advance_grants f htxn hgranted hsnoops hevicts hmem hevict hgood, ?_⟩
  rw [State.grantWith_rdnc d hopc hnone, hanswer]
  refine ⟨rfl, ?_, { answerMsg n x.req .dat 0 stOk (some d) with stream := stream }, ?_, rfl, rfl, rfl, rfl, rfl, rfl, rfl⟩
  · exact (congrArg Slice.active (s.slice_modSlice_same n fun t => t.closeTxn x.req.addr)).trans hclosed
  · rw [State.sendCoh_coh]
    exact List.mem_append_right _ (List.mem_singleton_self _)

/-- MEMORY_READ answers the only transaction of a slice, a RdNC that waits for memory, with the line's data (R257). -/
theorem exec_memoryRead_rdnc {s : State} {n : Nat} {x : Txn} (hreads : s.mem.reads = [{ line := x.req.addr, slice := n }])
    (hactive : (s.slice n).active = [x]) (hopc : x.req.opc = .rdnc) (hevict : x.evict = false) (hgranted : x.granted = false)
    (hmem : x.waitMem = true) (hevicts : x.waitEvict = none) (hsnoops : x.snoops = []) (hnone : (s.slice n).dirFind x.req.addr = none)
    (hok : s.retired (64 * x.req.addr) = false) (hqueue : s.mem.wpq = []) :
    ∃ t, exec (.memoryRead x.req.addr .ok) s = .next t ∧ t.mem = { s.mem with reads := [] } ∧ (t.slice n).active = []
      ∧ ∃ r ∈ t.net.coh, r.opc = .dat ∧ r.dst = x.req.src ∧ r.core = x.req.core ∧ r.tag = x.req.tag ∧ r.state = 0
        ∧ r.data = s.mem.lineData x.req.addr ∧ r.poison = s.mem.linePoison x.req.addr := by
  have hserves := memoryRead_serves hactive hreads hmem (by rw [hopc]; rfl)
  rw [State.memValue_unqueued hqueue hok] at hserves
  generalize hline : (s.mem.lineData x.req.addr, s.mem.linePoison x.req.addr) = d at hserves
  have hslice := State.readServed_slice hactive d
  obtain ⟨t, hgrant, hfields⟩ := State.advance_rdnc (s := s.readServed n x d) (x := x.served d) (d := d) 3 (by rw [hslice]) hopc hevict
    hgranted rfl hevicts hsnoops rfl (by rw [hslice]; exact hnone) hok
  obtain ⟨hstored, hclosed, hanswer⟩ := hfields
  have hgrant' : State.advance 4 (s.readServed n x d) n x.req.addr = t := hgrant
  rw [hgrant', State.kickReads_idle hclosed] at hserves
  subst hline
  exact ⟨t, congrArg Host.Outcome.next hserves, hstored, hclosed, hanswer⟩

/-! ### Scrub and refresh (R254, R258) -/

/-- What a scrub does about the error that it finds: nothing on a retired page (R261). -/
def State.scrubFinds (s : State) (a : Nat) (e : Ecc) : State :=
  if s.retired a then s
  else match e with
    | .corrected => s.memCorrected a
    | .uncorrectable => s.memUncorrected a
    | .ok | .macFail => s

/-- One more line scrubbed: once every trained line is, a new pass begins. -/
def Ctl.lineScrubbed (c : Ctl) : Ctl :=
  if c.capacityMib * 16384 ≤ c.scrubbed + 1 then { c with scrubbed := 0, ce := [] } else { c with scrubbed := c.scrubbed + 1 }

@[simp] theorem Ctl.lineScrubbed_retired (c : Ctl) : c.lineScrubbed.retired = c.retired := by
  unfold Ctl.lineScrubbed
  split <;> rfl

/-- The first page of a controller to be retired stands alone in its list, and is to go to flash (R261). -/
theorem State.retirePage_first {s : State} {a : Nat} (threshold : Bool) (hctl : s.controllerOf a < 32)
    (hempty : (s.ctl (s.controllerOf a)).retired = []) :
    ((s.retirePage a threshold).ctl (s.controllerOf a)).retired = [(a / 4096, threshold)]
      ∧ ∃ hbm ddr, (s.retirePage a threshold).mem = { s.mem with hbm := hbm, ddr := ddr, retireDirty := true } := by
  obtain ⟨hbm, ddr, hset⟩ := s.setCtl_eq (s.controllerOf a) { s.ctl (s.controllerOf a) with retired := [(a / 4096, threshold)] }
  have hlisted := s.ctl_setCtl_same (s.controllerOf a) { s.ctl (s.controllerOf a) with retired := [(a / 4096, threshold)] }
  rw [hset] at hlisted
  have hmem : (s.retirePage a threshold).mem = { s.mem with hbm := hbm, ddr := ddr, retireDirty := true } := by
    unfold State.retirePage
    dsimp only
    rw [if_neg (by simp [hempty, hctl]), if_pos (by simp [hempty]), hempty, List.nil_append, State.log_mem, hset]
  refine ⟨?_, hbm, ddr, hmem⟩
  simp only [State.ctl, State.hbm, State.ddr, hmem] at hlisted ⊢
  exact congrArg Ctl.retired hlisted

/-- An uncorrectable error outside CXL memory poisons its line and retires its page (R254, R261). -/
theorem State.memUncorrected_retires {s : State} {a : Nat} (hctl : s.controllerOf a < 32) (hrange : rangeOf a ≠ .cxl)
    (hempty : (s.ctl (s.controllerOf a)).retired = []) :
    ((s.memUncorrected a).ctl (s.controllerOf a)).retired = [(a / 4096, false)] ∧ (s.memUncorrected a).mem.linePoison (a / 64) = 0xF#4
      ∧ (s.memUncorrected a).mem.retireDirty = true := by
  have hretires : ∃ u : State, u.mem = s.mem.setPoison (a / 64) 0xF#4 ∧ s.memUncorrected a = u.retirePage a false :=
    ⟨_, State.log_mem _ _, if_neg hrange⟩
  obtain ⟨u, hmem, hretires⟩ := hretires
  have hplace : u.controllerOf a = s.controllerOf a := by
    simp only [State.controllerOf, hmem]
    rfl
  have hctlOf : ∀ k, u.ctl k = s.ctl k := fun k => by
    simp only [State.ctl, State.hbm, State.ddr, hmem]
    rfl
  obtain ⟨hlist, hbm, ddr, hafter⟩ := State.retirePage_first (s := u) (a := a) false (by rwa [hplace]) (by rwa [hplace, hctlOf])
  rw [hretires, hafter, ← hplace]
  refine ⟨hlist, ?_, rfl⟩
  rw [hmem]
  exact s.mem.linePoison_setPoison (a / 64) 0xF#4

section
variable {s : State} {l : Nat} (hpopulated : s.populated (64 * l) = true) (hctl : s.controllerOf (64 * l) < 32)
include hpopulated hctl

theorem scrub_populated (e : Ecc) : scrub s l e = (s.scrubFinds (64 * l) e).setCtl (s.controllerOf (64 * l))
    ((s.scrubFinds (64 * l) e).ctl (s.controllerOf (64 * l))).lineScrubbed := by
  unfold scrub Ctl.lineScrubbed
  dsimp only
  rw [if_neg (by simp [hpopulated, hctl]), apply_ite (State.setCtl _ _)]
  rfl

/-- A scrub that finds no error changes no byte (R254). -/
theorem exec_scrub_ok : ∃ t, exec (.scrub l .ok) s = .next t ∧ t.mem.bytes = s.mem.bytes ∧ t.mem.poison = s.mem.poison
    ∧ s.changesOnly [.mem] t := by
  have hfinds : s.scrubFinds (64 * l) .ok = s := ite_self _
  refine ⟨_, congrArg Host.Outcome.next (scrub_populated hpopulated hctl .ok), ?_⟩
  rw [hfinds]
  obtain ⟨hbm, ddr, hset⟩ := s.setCtl_eq (s.controllerOf (64 * l)) (s.ctl (s.controllerOf (64 * l))).lineScrubbed
  exact ⟨by rw [hset], by rw [hset], s.setCtl_only _ _⟩

/-- A scrub that finds an uncorrectable error poisons the line and retires its page, the first of its controller (R254, R261). -/
theorem exec_scrub_uncorrectable (hgood : s.retired (64 * l) = false) (hrange : rangeOf (64 * l) ≠ .cxl)
    (hempty : (s.ctl (s.controllerOf (64 * l))).retired = []) :
    ∃ t, exec (.scrub l .uncorrectable) s = .next t ∧ (t.ctl (s.controllerOf (64 * l))).retired = [(64 * l / 4096, false)]
      ∧ t.mem.linePoison l = 0xF#4 ∧ t.mem.retireDirty = true := by
  have hfinds : s.scrubFinds (64 * l) .uncorrectable = s.memUncorrected (64 * l) := by simp [State.scrubFinds, hgood]
  obtain ⟨hretired, hpoison, hdirty⟩ := State.memUncorrected_retires hctl hrange hempty
  rw [Nat.mul_div_cancel_left l (by decide)] at hpoison
  refine ⟨_, congrArg Host.Outcome.next (scrub_populated hpopulated hctl .uncorrectable), ?_⟩
  rw [hfinds]
  obtain ⟨hbm, ddr, hset⟩ := (s.memUncorrected (64 * l)).setCtl_eq (s.controllerOf (64 * l))
    ((s.memUncorrected (64 * l)).ctl (s.controllerOf (64 * l))).lineScrubbed
  refine ⟨?_, by rw [hset]; exact hpoison, by rw [hset]; exact hdirty⟩
  rw [State.ctl_setCtl_same, Ctl.lineScrubbed_retired, hretired]

end

/-- A refresh of a controller that is up takes the bank, where no Class G request waits for it (R258). -/
theorem exec_refresh_free {s : State} {k bank : Nat} (hup : (s.ctl k).st = .up) (hk : k < 32) (hfree : s.gWaits k bank = false) :
    ∃ t, exec (.refresh k bank) s = .next t ∧ (t.ctl k).refreshing = [bank] ∧ s.changesOnly [.mem] t := by
  have htakes : refresh s k bank = s.setCtl k { s.ctl k with refreshing := [bank] } := if_neg (by simp [hup, hk, hfree])
  refine ⟨_, congrArg Host.Outcome.next htakes, ?_, s.setCtl_only _ _⟩
  rw [State.ctl_setCtl_same]

/-! ### Lists in flash (R261) -/

/-- Lists that have changed go to flash (R261). -/
theorem exec_retiredListSave_dirty {s : State} (hdirty : s.mem.retireDirty = true) : exec .retiredListSave s = .next { s with
    mem := { s.mem with retireDirty := false },
    clasp := { s.clasp with flash := writeArea s.clasp.flash retireArea s.retireImage } } :=
  congrArg Host.Outcome.next (if_pos hdirty)

/-! ### Units that fail (R262, R268) -/

/-- A pseudo-channel that fails is out of service and logged; nothing stored changes. -/
theorem exec_memoryUnitFail_pc {s : State} {n : Nat} (hn : n < 256) (hworks : s.mem.failedPc.contains n = false) :
    ∃ t, exec (.memoryUnitFail (UnitId.of 0x06 n)) s = .next t ∧ n ∈ t.mem.failedPc ∧ t.carries Syn.hbmPcFailed = true
      ∧ t.mem.bytes = s.mem.bytes := by
  have hfails : s.failPc n = (s.dropPc n).log (Syn.hbmPcFailed.record (hbmNode (n / 32)) 0x06 n 0) := by
    rw [State.failPc, if_neg]
    simpa [hn] using hworks
  have hbytes : (s.failPc n).mem.bytes = s.mem.bytes := congrArg Prod.fst (s.failPc_stored n)
  refine ⟨s.failPc n, rfl, ?_, ?_, hbytes⟩
  · rw [hfails, State.log_mem, State.dropPc_mem]
    exact List.mem_append_right _ (List.mem_singleton_self n)
  · rw [hfails]
    exact State.log_carries _ _ _ rfl

/-- A DDR channel that fails is out of service and logged. -/
theorem exec_memoryUnitFail_ch {s : State} {n : Nat} (hn : n < 16) (hworks : s.mem.failedCh.contains n = false) :
    ∃ t, exec (.memoryUnitFail (UnitId.of 0x08 n)) s = .next t ∧ n ∈ t.mem.failedCh ∧ t.carries Syn.ddrChannelFailed = true := by
  have hfails : s.failCh n = (s.dropCh n).log (Syn.ddrChannelFailed.record (ddrNode n) 0x08 n 0) := by
    rw [State.failCh, if_neg]
    simpa [hn] using hworks
  refine ⟨s.failCh n, rfl, ?_, ?_⟩
  · rw [hfails, State.log_mem, State.dropCh_mem]
    exact List.mem_append_right _ (List.mem_singleton_self n)
  · rw [hfails]
    exact State.log_carries _ _ _ rfl

theorem State.partnerAct_mem (s : State) (kind n : Nat) : (s.partnerAct kind n).mem = s.mem := by
  have hnotify : ∀ q, (s.notifyQuire q).mem = s.mem := fun q => congrArg Prod.fst (s.notifyQuire_ungated q)
  unfold State.partnerAct
  split
  · rfl
  · dsimp only
    split <;> split <;> simp [State.alert, hnotify]

/-- A CXL device that is lost leaves its range lost. -/
theorem exec_memoryUnitFail_cxl {s : State} {n : Nat} (hn : n < 8) (hhere : (s.cxl n).lost = false) (hplaced : (s.cxl n).decoders ≠ []) :
    ∃ t, exec (.memoryUnitFail (UnitId.of 0x0C n)) s = .next t ∧ (t.cxl n).lost = true := by
  have hmem : (s.loseCxl n).mem = { s.mem with cxl := Tab.set s.mem.cxl n { s.cxl n with lost := true } } := by
    rw [State.loseCxl, if_neg (by simp [hn, hhere, hplaced])]
    exact (foldl_frame State.mem _ _ _ fun s _ => s.partnerAct_mem 1 _).trans (State.log_mem _ _)
  refine ⟨s.loseCxl n, rfl, ?_⟩
  rw [State.cxl, hmem, Tab.get_set_same]

/-! ### O30 -/

/-- A memory whose list of bytes is out of order: byte 0, listed behind byte 64, holds 1. A write of zeros to line 0 is queued. -/
def disorderedMemory : State :=
  { State.reset with mem := { MemSys.reset with bytes := [(64, 1), (0, 1)], wpq := [{ line := 0, data := 0, poison := 0 }] } }

/-- Refutes O30: its clause on a queued write also speaks of memories that are not in canonical form (log 4).
There the write of a byte to what it reads as unlisted does not find the byte's own entry behind a higher address, and line 0 is not zero
after zeros are written to it. With the canonical form the clause holds (`exec_memoryWrite_oldest`), and the other clauses hold as they are. -/
theorem not_memoryService : ¬ Obligations.Memory_service := by
  unfold Obligations.Memory_service
  rintro ⟨⟨-, hwrite⟩, -⟩
  obtain ⟨t, hexec, hzero, -⟩ := hwrite disorderedMemory 0 { line := 0, data := 0, poison := 0 } rfl rfl
  cases hexec
  have hkept : (memoryWrite disorderedMemory 0).mem.lineData 0 ≠ 0 := by decide +kernel
  exact hkept hzero

end Sys2Proof.Machine
end

section
/-! PROOFS. Queues (R273, R274, R286): a doorbell's effect on an enabled queue, and the commands of a virtual instance. -/

namespace Sys2Proof.Machine

/-! ### The Queue Engine's tables -/

theorem State.changesOnly_qe (s : State) (e : Qe) : s.changesOnly [.qe] { s with qe := e } := by
  intro p hp
  cases p with
  | qe => simp at hp
  | _ => rfl

@[simp] theorem State.queue_setVi (s : State) (n : Nat) (v : Vi) (q : Nat) : (s.setVi n v).queue q = s.queue q := rfl
@[simp] theorem State.vi_setQueue (s : State) (q : Nat) (c : QCtx) (n : Nat) : (s.setQueue q c).vi n = s.vi n := rfl

/-- A queue whose context is in the front end's cache needs no load (R272). -/
theorem State.loadCtx_cached {s : State} {q : Nat} (hcached : s.qe.cached.contains q = true) : s.loadCtx q = s := if_pos hcached

@[simp] theorem State.logQe_qe (s : State) (y : Syndrome) (q : Nat) (v a : Option Nat) : (s.logQe y q v a).qe = s.qe := s.log_qe _

@[simp] theorem State.queue_logQe (s : State) (y : Syndrome) (q : Nat) (v a : Option Nat) (k : Nat) : (s.logQe y q v a).queue k = s.queue k :=
  congrArg (fun e : Qe => Tab.get e.ctx QCtx.reset k) (s.logQe_qe y q v a)

theorem State.logQe_carries (s : State) (y : Syndrome) (q : Nat) (v a : Option Nat) : (s.logQe y q v a).carries y = true := by
  refine s.log_carries _ y ?_
  cases v <;> cases a <;> rfl

@[simp] theorem State.queue_queueError (s : State) (q err : Nat) : (s.queueError q err).queue q = { s.queue q with st := .error, error := err } :=
  s.queue_setQueue_same _ _

/-! ### Doorbells (R273, R274) -/

section
variable {s : State} {h q : Nat} (hq : q < queueCount) (hready : s.readySide h = true) (hhart : s.doorbellHart h q = true)
  (hcached : s.qe.cached.contains q = true)
include hq hready hhart hcached

/-- A hart that may access the doorbell of an enabled queue delivers the new index to it (R273, R274). -/
theorem exec_doorbellWrite_delivers {v : Word} (hst : (s.queue q).st = .enabled) (hvi : s.viResetting (s.queue q).vi = false)
    (hv : fieldOf v 32 32 = 0) : exec (.doorbellWrite (.hart h) q 0 8 v) s
      = .next (if (s.queue q).ty = 1 then s.sqDoorbell q (v.setWidth 32) else s.cqDoorbell q (v.setWidth 32)) := by
  have hstore : s.doorbellStore q 0 8 v = s.doorbell q (v.setWidth 32) := by simp [State.doorbellStore, hv]
  have hdelivered : s.doorbell q (v.setWidth 32)
      = if (s.queue q).ty = 1 then s.sqDoorbell q (v.setWidth 32) else s.cqDoorbell q (v.setWidth 32) := by
    simp [State.doorbell, State.loadCtx_cached hcached, hst, hvi]
  refine congrArg Host.Outcome.next ((if_pos ⟨hq, by decide⟩).trans ?_)
  rw [State.asAgent_of_readySide _ hready]
  exact (if_pos hhart).trans (hstore.trans hdelivered)

/-- Both indices read back at once, PROD_IDX in the low half (R273). -/
theorem exec_doorbellRead_indices (rd : Nat) : ∃ t, exec (.doorbellRead h q 0 8 rd) s = .next t ∧ s.changesOnly [.harts] t
    ∧ (t.hart h).getX rd = (if rd = 0 then 0 else word ((s.queue q).cons.toNat * 2 ^ 32 + (s.queue q).prod.toNat)) := by
  refine ⟨s.modHart h (fun x => x.setX rd (s.doorbellRead q 0 8)), ?_, s.changesOnly_harts _, ?_⟩
  · refine congrArg Host.Outcome.next ((if_pos ⟨hq, by decide⟩).trans ?_)
    rw [State.readReg_of_readySide _ _ _ _ _ hready hhart, State.loadCtx_cached hcached]
  · simp [Hart.getX_setX, State.doorbellRead]

end

theorem State.sqDoorbell_inRange {s : State} {q : Nat} {v : BitVec 32} (hroom : (v - (s.queue q).cons).toNat ≤ 2 ^ (s.queue q).log2)
    (hfetched : ((s.queue q).fetch - (s.queue q).cons).toNat ≤ (v - (s.queue q).cons).toNat) :
    s.sqDoorbell q v = s.setQueue q { s.queue q with prod := v } := if_neg (by omega)

theorem State.sqDoorbell_tooMany {s : State} {q : Nat} {v : BitVec 32} (hmore : 2 ^ (s.queue q).log2 < (v - (s.queue q).cons).toNat) :
    s.sqDoorbell q v = (s.queueError q 1).logQe Syn.qeDbRange q (some v.toNat) none := if_pos (.inl hmore)

theorem State.cqDoorbell_quiet {s : State} {q : Nat} {v : BitVec 32} (hheld : ((s.queue q).prod - v).toNat ≤ 2 ^ (s.queue q).log2)
    (hirq : (s.queue q).irqEn = false) : s.cqDoorbell q v = s.setQueue q { s.queue q with cons := v, armed := true } :=
  (if_neg (Nat.not_lt.mpr hheld)).trans (if_neg (by simp [hirq]))

/-! ### Commands of a virtual instance (R285, R286) -/

theorem fieldOf_withOp_op (v : Word) {op : Nat} (hop : op < 4) : fieldOf (withOp v op) 32 2 = op := by
  have hcleared : (~~~word 0x300000000).extractLsb' 32 2 = 0#2 := by decide
  have hset : ∀ n < 4, ((word (n * 2 ^ 32)).extractLsb' 32 2).toNat = n := by decide
  rw [fieldOf_eq_extract, withOp, BitVec.extractLsb'_or, BitVec.extractLsb'_and, hcleared, BitVec.and_zero, BitVec.zero_or, hset op hop]

theorem fieldOf_withOp_queue {v : Word} {op : Nat} (hv : v.toNat < queueCount) (hop : op < 4) : fieldOf (withOp v op) 0 21 = v.toNat := by
  have hkept : (~~~word 0x300000000).extractLsb' 0 21 = BitVec.allOnes 21 := by decide
  have hnone : ∀ n < 4, (word (n * 2 ^ 32)).extractLsb' 0 21 = 0#21 := by decide
  rw [fieldOf_eq_extract, withOp, BitVec.extractLsb'_or, BitVec.extractLsb'_and, hkept, BitVec.and_allOnes, hnone op hop, BitVec.or_zero]
  exact (BitVec.extractLsb'_toNat ..).trans (Nat.mod_eq_of_lt hv)

/-- A queue's number sets no bit that a mask without the low 21 bits lets through. -/
theorem and_eq_zero_of_lt_queueCount {v w : Word} (hv : v.toNat < queueCount) (hw : ∀ i < 21, w.getLsbD i = false) : v &&& w = 0 := by
  refine BitVec.eq_of_getLsbD_eq fun i _ => ?_
  rw [BitVec.getLsbD_and, BitVec.ofNat_eq_ofNat, BitVec.getLsbD_zero]
  rcases Nat.lt_or_ge i 21 with hi | hi
  · rw [hw i hi, Bool.and_false]
  · have hbit : v.getLsbD i = false := Nat.testBit_lt_two_pow (Nat.lt_of_lt_of_le hv (Nat.pow_le_pow_right Nat.two_pos hi))
    rw [hbit, Bool.false_and]

/-- A queue's number with an OP is no reserved write of VI_QCMD (R12). -/
theorem withOp_own {v : Word} {op : Nat} (hv : v.toNat < queueCount) (hop : op < 4) : withOp v op &&& ~~~(word 0xFCFF0003001FFFFF) = 0 := by
  have hset : ∀ n < 4, word (n * 2 ^ 32) &&& ~~~(word 0xFCFF0003001FFFFF) = 0 := by decide
  have hkept : ∀ i < 21, (~~~word 0x300000000 &&& ~~~word 0xFCFF0003001FFFFF).getLsbD i = false := by decide
  rw [withOp, BitVec.and_or_distrib_right, hset op hop, BitVec.and_assoc, and_eq_zero_of_lt_queueCount hv hkept]
  rfl

section
variable {s : State} {h vi : Nat} {v : Word} (hvi : vi < viCount) (hready : s.readySide h = true)
  (hallowed : s.viAllowed (.hart h) vi = true) (hidle : (s.vi vi).cmdBusy = false) (hreset : s.viResetting vi = false)
  (hq : v.toNat < queueCount) (hcached : s.qe.cached.contains v.toNat = true)
  (howner : s.bind.queueOwner 1 v.toNat = s.viQid vi) (hworld : s.bind.queueSecure 1 v.toNat = s.viSecure vi)
include hready hallowed hidle hreset hq hcached howner hworld

/-- VI_QCMD written by a hart of the VI's Quire for a queue of its Quire and world carries out the command (R285, R286). -/
theorem access_writeQcmd {op : Nat} (hop : 0 < op) (hop' : op < 4) : s.access h (fun s => writeQcmd s (.hart h) vi (withOp v op))
    = if op = 1 then s.viEnable vi v.toNat else if op = 2 then s.viDisable vi v.toNat else s.viRead vi v.toNat := by
  rw [State.access_of_readySide _ hready]
  simp only [writeQcmd, hallowed, hidle, hreset, State.reserved_own _ _ _ _ (withOp_own hq hop'), fieldOf_withOp_op v hop',
    fieldOf_withOp_queue hq hop', State.loadCtx_cached hcached, howner, hworld, Nat.ne_of_gt hop]
  obtain rfl | rfl | rfl : op = 1 ∨ op = 2 ∨ op = 3 := by omega
  all_goals simp

include hvi

/-- ENABLE of a disabled queue with legal staged fields enables it (R271, R286). -/
theorem exec_enable_legal (hlive : (s.queue v.toNat).live = false) (hlegal : s.badConfig vi v.toNat = false) :
    ∃ t, exec (.enable h vi v) s = .next t ∧ t.queue v.toNat = s.enabledCtx vi v.toNat ∧ (t.vi vi).result = 0 ∧ (t.vi vi).qst = .enabled
      ∧ s.changesOnly [.qe] t := by
  have henables : s.viEnable vi v.toNat = (s.setQueue v.toNat (s.enabledCtx vi v.toNat)).viResult vi v.toNat 0 := by
    simp [State.viEnable, hlive, hlegal]
  refine ⟨_, congrArg Host.Outcome.next (if_pos hvi), ?_⟩
  rw [access_writeQcmd hready hallowed hidle hreset hq hcached howner hworld (by decide) (by decide), if_pos rfl, henables]
  exact ⟨by simp [State.viResult], by simp [State.viResult], by simp [State.viResult, State.enabledCtx], s.changesOnly_qe _⟩

/-- DISABLE of an SQ of the VI with nothing in flight disables it at once (R286). -/
theorem exec_disable_idle (hlive : (s.queue v.toNat).live = true) (hown : (s.queue v.toNat).vi = vi) (hsq : (s.queue v.toNat).ty = 1)
    (hbusy : s.queueBusy v.toNat = false) : ∃ t, exec (.disable h vi v) s = .next t
      ∧ t.queue v.toNat = { s.queue v.toNat with st := .disabled } ∧ (t.vi vi).result = 0 ∧ s.changesOnly [.qe] t := by
  have hdisables : s.viDisable vi v.toNat = (s.setQueue v.toNat { s.queue v.toNat with st := .disabled }).viResult vi v.toNat 0 := by
    simp [State.viDisable, hlive, hown, hsq, hbusy]
  refine ⟨_, congrArg Host.Outcome.next (if_pos hvi), ?_⟩
  rw [access_writeQcmd hready hallowed hidle hreset hq hcached howner hworld (by decide) (by decide), if_neg (by decide), if_pos rfl, hdisables]
  exact ⟨by simp [State.viResult], by simp [State.viResult], s.changesOnly_qe _⟩

/-- READ stages the queue's context and changes no queue (R286). -/
theorem exec_read_stages : ∃ t, exec (.read h vi v) s = .next t ∧ (t.vi vi).qbase = word (s.queue v.toNat).ringBase ∧ (t.vi vi).result = 0
    ∧ t.queue v.toNat = s.queue v.toNat ∧ s.changesOnly [.qe] t := by
  refine ⟨_, congrArg Host.Outcome.next (if_pos hvi), ?_⟩
  rw [access_writeQcmd hready hallowed hidle hreset hq hcached howner hworld (by decide) (by decide), if_neg (by decide), if_neg (by decide)]
  exact ⟨by simp [State.viRead, State.viResult], by simp [State.viRead, State.viResult], rfl, s.changesOnly_qe _⟩

end

/-- The DISABLE that waited for a queue ends with its last descriptor and reports SUCCESS (R286). -/
theorem exec_queueDisableDone_awaited {s : State} {q : Nat} (hwaits : (s.queue q).disabling = true) (hbusy : s.queueBusy q = false)
    (hcmd : (s.vi (s.queue q).vi).cmdBusy = true) (hnamed : (s.vi (s.queue q).vi).queue = q) : ∃ t, exec (.queueDisableDone q) s = .next t
      ∧ (t.queue q).st = .disabled ∧ (t.queue q).disabling = false ∧ (t.vi (s.queue q).vi).result = 0 := by
  have hends : queueDisableDone s q
      = (s.setQueue q { s.queue q with st := .disabled, disabling := false }).viResult (s.queue q).vi q 0 := by
    simp [queueDisableDone, hwaits, hbusy, hcmd, hnamed]
  exact ⟨_, congrArg Host.Outcome.next hends, by simp [State.viResult]⟩

/-! ### O33 -/

/-- Settles O33: doorbells, then the commands of a VI and the end of a DISABLE that waited. -/
theorem queues : Obligations.Queues := by
  unfold Obligations.Queues
  refine ⟨⟨fun s h q v hq hready hhart hcached hst hvi hv => ?_,
      fun _ _ _ rd hq hready hhart hcached => exec_doorbellRead_indices hq hready hhart hcached rd⟩,
    fun s h vi v hvi hready hallowed hidle hreset hq hcached howner hworld => ?_, fun _ _ => exec_queueDisableDone_awaited⟩
  · have hexec := exec_doorbellWrite_delivers hq hready hhart hcached hst hvi hv
    refine ⟨fun hsq hroom hfetched => ?_, fun hcq hheld hirq => ?_, fun hsq hmore => ?_⟩
    · rw [hexec, if_pos hsq, State.sqDoorbell_inRange hroom hfetched]
    · rw [hexec, if_neg (by simp [hcq]), State.cqDoorbell_quiet hheld hirq]
    · rw [if_pos hsq, State.sqDoorbell_tooMany hmore] at hexec
      exact ⟨_, hexec, by simp, by simp, by simp, State.logQe_carries ..⟩
  · exact ⟨exec_enable_legal hvi hready hallowed hidle hreset hq hcached howner hworld,
      exec_disable_idle hvi hready hallowed hidle hreset hq hcached howner hworld,
      exec_read_stages hvi hready hallowed hidle hreset hq hcached howner hworld⟩

end Sys2Proof.Machine
end

section
/-! PROOFS. Descriptors (R270, R277, R279, R280): fetching, starting and completing, and what reads and writes of lines do not look at. -/

namespace Sys2Proof.Machine

/-! ### What the value of a line does not rest on (R187, R220) -/

/-- A state with another Queue Engine, counter of free values and request statistics: no line's value and no wait for a line rests on them. -/
def State.withAside (s : State) (e : Qe) (k : Nat) (p : Tab Stats) : State := { s with qe := e, free := k, net := { s.net with stats := p } }

section
variable (s : State) (e : Qe) (k : Nat) (p : Tab Stats)

@[simp] theorem State.retired_withAside (a : Nat) : (s.withAside e k p).retired a = s.retired a := rfl

@[simp] theorem State.heldAt_withAside (fuel n : Nat) : (s.withAside e k p).heldAt fuel n = s.heldAt fuel n := by
  induction fuel generalizing n with
  | zero => rfl
  | succ fuel ih =>
    simp only [State.heldAt, ih]
    rfl

theorem State.lineHeld_withAside (l : Nat) : (s.withAside e k p).lineHeld l = s.lineHeld l := by
  simp only [State.lineHeld, State.heldAt_withAside]
  rfl

theorem State.portHolders_withAside (l : Nat) (c : Bool) : (s.withAside e k p).portHolders l c = s.portHolders l c := rfl

theorem State.linesFree_withAside (rs : List (Bool × Nat × Nat)) : (s.withAside e k p).linesFree rs = s.linesFree rs := by
  simp only [State.linesFree, State.lineHeld_withAside, State.portHolders_withAside]

theorem State.lineValue_withAside (l : Nat) : (s.withAside e k p).lineValue l = s.lineValue l := rfl
theorem State.coherentRead_withAside (a n : Nat) : (s.withAside e k p).coherentRead a n = s.coherentRead a n := rfl
theorem State.coherentPoison_withAside (a n : Nat) : (s.withAside e k p).coherentPoison a n = s.coherentPoison a n := rfl

theorem State.queueWrite_withAside (l : Nat) (d : Line) (x : Poison) :
    (s.withAside e k p).queueWrite l d x = (s.queueWrite l d x).withAside e k p := by
  unfold State.queueWrite
  rw [State.retired_withAside]
  split <;> rfl

theorem State.patchLine_withAside (l : Nat) (d : Line) (x : Poison) :
    (s.withAside e k p).patchLine l d x = (s.patchLine l d x).withAside e k p := by
  unfold State.patchLine
  dsimp only
  rw [apply_ite (fun t : State => t.withAside e k p), ← State.queueWrite_withAside]
  rfl

theorem State.coherentWriteLine_withAside (l : Nat) (d : Line) (x : Poison) :
    (s.withAside e k p).coherentWriteLine l d x = (s.coherentWriteLine l d x).withAside e k p := by
  unfold State.coherentWriteLine
  dsimp only
  rw [← State.patchLine_withAside, apply_ite (fun t : State => t.withAside e k p)]
  rfl

theorem State.coherentWrite_withAside (fuel a : Nat) (bs : List Byte) :
    State.coherentWrite fuel (s.withAside e k p) a bs = (State.coherentWrite fuel s a bs).withAside e k p := by
  induction fuel generalizing s a bs with
  | zero => rfl
  | succ fuel ih =>
    unfold State.coherentWrite
    split
    · rfl
    · dsimp only
      rw [State.coherentWriteLine_withAside, ih, State.lineValue_withAside]

theorem State.writeBytes_withAside (a : Nat) (bs : List Byte) : (s.withAside e k p).writeBytes a bs = (s.writeBytes a bs).withAside e k p :=
  s.coherentWrite_withAside e k p _ a bs

theorem State.queue_withAside (u : State) (q : Nat) : (s.withAside u.qe k p).queue q = u.queue q := rfl

theorem State.withAside_only : s.changesOnly [.qe, .net, .free] (s.withAside e k p) := by
  intro q hq
  cases q with
  | qe | net | free => simp at hq
  | _ => rfl

end

/-- An engine's traffic is set aside in this sense. -/
theorem State.noteEngine_aside (s : State) (node : Nat) : ∃ k p, s.noteEngine node = s.withAside s.qe k p := s.noteEngine_frame node

/-! ### Descriptors in flight (R279) -/

@[simp] theorem State.lane_setQueue (s : State) (q : Nat) (c : QCtx) (n : Nat) : (s.setQueue q c).lane n = s.lane n := rfl
@[simp] theorem State.queue_setLane (s : State) (n : Nat) (l : Lane) (q : Nat) : (s.setLane n l).queue q = s.queue q := rfl
@[simp] theorem State.flight_setQueue (s : State) (q : Nat) (c : QCtx) (d : DescRef) : (s.setQueue q c).flight d = s.flight d := rfl

theorem State.modFlight_only (s : State) (d : DescRef) (g : Flight → Flight) : s.changesOnly [.qe] (s.modFlight d g) := s.changesOnly_qe _

/-- A descriptor that is changed but keeps its queue and index reads back changed. -/
theorem State.flight_modFlight {s : State} {d : DescRef} {f : Flight} (g : Flight → Flight) (hf : s.flight d = some f)
    (hg : ∀ x, (g x).sq = x.sq ∧ (g x).idx = x.idx) : (s.modFlight d g).flight d = some (g f) := by
  have hnamed : (f.sq == d.sq && f.idx == d.idx) = true := List.find?_some (p := fun x : Flight => x.sq == d.sq && x.idx == d.idx) hf
  have hkeys : (fun x : Flight => x.sq == d.sq && x.idx == d.idx) ∘ (fun x => if x.sq == d.sq && x.idx == d.idx then g x else x)
      = fun x => x.sq == d.sq && x.idx == d.idx := by
    funext x
    simp only [Function.comp]
    split <;> simp [hg]
  rw [State.flight, State.modFlight, State.lane_setLane_same, List.find?_map, hkeys]
  exact (congrArg (Option.map _) hf).trans (congrArg some (if_pos hnamed))

/-- A finished descriptor is done with what its completion will carry. -/
theorem State.finish_ends {s : State} {d : DescRef} {f : Flight} (hf : s.flight d = some f) (status len result : Nat) :
    (s.finish d status len result).ends d f status len result :=
  State.flight_modFlight _ hf fun _ => ⟨rfl, rfl⟩

theorem State.finish_only (s : State) (d : DescRef) (status len result : Nat) : s.changesOnly [.qe] (s.finish d status len result) :=
  s.modFlight_only d _

/-- A descriptor that has retired is no longer in flight. -/
theorem State.flight_retireFlight (s : State) (d : DescRef) : (s.retireFlight d).flight d = none := by
  rw [State.retireFlight, State.flight_setQueue, State.flight, State.lane_setLane_same]
  refine List.find?_eq_none.mpr fun f hf => ?_
  simpa [imp_iff_not_or] using (List.mem_filter.mp hf).2

theorem State.cons_retireFlight (s : State) (d : DescRef) : ((s.retireFlight d).queue d.sq).cons = (s.queue d.sq).cons + 1 := by
  simp [State.retireFlight]

theorem State.queue_retireFlight_other (s : State) {d : DescRef} {q : Nat} (h : q ≠ d.sq) : (s.retireFlight d).queue q = s.queue q :=
  State.queue_setQueue_other _ _ h.symm

@[simp] theorem State.retireFlight_mem (s : State) (d : DescRef) : (s.retireFlight d).mem = s.mem := rfl

theorem State.retireFlight_only (s : State) (d : DescRef) : s.changesOnly [.qe] (s.retireFlight d) := s.changesOnly_qe _

/-! ### Fetching (R279) -/

/-- The descriptor that the next ring entry of an SQ holds, as it enters a lane. -/
def State.fetched (s : State) (q : Nat) : Flight :=
  { sq := q, idx := (s.queue q).fetch.toNat, vi := (s.queue q).vi, raw := lineOf (s.coherentRead ((s.queue q).entry (s.queue q).fetch) 64),
    poisoned := false, st := .fetched, status := 0, length := 0, result := 0, reissued := false, since := s.time.now }

/-- An SQ is the last one that a lane has served. -/
def State.served (s : State) (lane q : Nat) : State := s.setLane lane { s.lane lane with lastSq := some q }

section
variable {s : State} {lane q : Nat} (hflights : (s.lane lane).flights = [])
  (hentry : s.entryOk (s.queue q) ((s.queue q).entry (s.queue q).fetch) true = true)
  (hpoison : s.coherentPoison ((s.queue q).entry (s.queue q).fetch) 64 = false)
  (hfree : s.linesFree [(false, (s.queue q).entry (s.queue q).fetch, 64)] = true)
include hflights hentry hpoison hfree

/-- An empty lane reads the next descriptor of an SQ, and the SQ's fetch point advances. -/
theorem State.fetchFrom_good : ∃ k p, s.fetchFrom lane q = ((s.withAside s.qe k p).setLane lane
    { s.lane lane with flights := [s.fetched q] }).setQueue q { s.queue q with fetch := (s.queue q).fetch + 1 } := by
  obtain ⟨k, p, hnoted⟩ := s.noteEngine_aside (laneNodeOf lane)
  refine ⟨k, p, ?_⟩
  unfold State.fetchFrom
  dsimp only
  rw [hentry, if_neg (by decide), State.whenFree_free _ _ _ hfree, hnoted, State.coherentPoison_withAside, hpoison, if_neg (by decide)]
  have hlane : ((s.withAside s.qe k p).lane lane).flights = [] := hflights
  rw [hlane]
  rfl

/-- A lane with room fetches the next descriptor of the SQ whose turn it is. -/
theorem exec_descriptorFetch_turn (hlane : lane < 9) (hrun : s.halting = false) (hturn : s.nextSq lane = some q)
    (hcached : s.qe.cached.contains q = true) (hst : (s.queue q).st = .enabled) : ∃ t, exec (.descriptorFetch lane) s = .next t
      ∧ (t.queue q).fetch = (s.queue q).fetch + 1 ∧ s.changesOnly [.qe, .net, .free] t
      ∧ ∃ f, (t.lane lane).flights = [f] ∧ f.sq = q ∧ f.idx = (s.queue q).fetch.toNat ∧ f.st = .fetched
        ∧ f.raw = lineOf (s.coherentRead ((s.queue q).entry (s.queue q).fetch) 64) := by
  have hroom : ¬ (8 < lane ∨ 32 ≤ (s.lane lane).flights.length ∨ s.halting = true) := by simp [hflights, hrun]; omega
  have hfetches : descriptorFetch s lane = (s.served lane q).fetchFrom lane q := by
    have hload : (s.served lane q).loadCtx q = s.served lane q := State.loadCtx_cached hcached
    unfold descriptorFetch
    rw [if_neg hroom, hturn]
    exact (congrArg (fun t : State => if (t.queue q).st = .enabled then t.fetchFrom lane q else t) hload).trans (if_pos hst)
  have hempty : ((s.served lane q).lane lane).flights = [] := by rw [State.served, State.lane_setLane_same]; exact hflights
  obtain ⟨k, p, hgood⟩ := State.fetchFrom_good (s := s.served lane q) hempty hentry hpoison
    ((s.linesFree_withAside (s.served lane q).qe s.free s.net.stats _).trans hfree)
  refine ⟨_, congrArg Host.Outcome.next (hfetches.trans hgood), ?_, s.withAside_only _ k p, (s.served lane q).fetched q, ?_, rfl, rfl, rfl, rfl⟩
  · rw [State.queue_setQueue_same]
    rfl
  · rw [State.lane_setQueue, State.lane_setLane_same]

end

/-! ### Starting (R277, R279) -/

/-- A descriptor that has started, its operation not yet acted. -/
def Flight.startedAt (f : Flight) (now : Nat) : Flight := { f with st := .started, since := now }

section
variable {s : State} {d : DescRef} {f : Flight} (hf : s.flight d = some f) (hst : f.st = .fetched)
  (horder : s.inOrder f = true) (hrun : s.halting = false) (hlane : d.lane < 8) (hworks : (s.lane d.lane).fenced = false)
  (hfence : f.fence = false)
include hf hst horder hrun hlane hworks hfence

/-- A fetched descriptor without FENCE whose turn it is on a working lane is judged. -/
theorem descriptorStart_judges : descriptorStart s d = s.judge d f := by
  simp [descriptorStart, hf, hst, horder, hrun, Nat.ne_of_lt hlane, hworks, hfence]

/-- A descriptor judged to end is done. -/
theorem exec_descriptorStart_ends {status : Nat} (hjudge : s.judge d f = s.finish d status 0 0) :
    ∃ t, exec (.descriptorStart d) s = .next t ∧ t.ends d f status 0 0 ∧ s.changesOnly [.qe] t :=
  ⟨_, congrArg Host.Outcome.next ((descriptorStart_judges hf hst horder hrun hlane hworks hfence).trans hjudge),
    State.finish_ends hf status 0 0, s.finish_only d status 0 0⟩

/-- A descriptor judged to start has started. -/
theorem exec_descriptorStart_starts (hjudge : s.judge d f = s.modFlight d (·.startedAt s.time.now)) :
    ∃ t, exec (.descriptorStart d) s = .next t ∧ t.flight d = some (f.startedAt s.time.now) ∧ s.changesOnly [.qe] t :=
  ⟨_, congrArg Host.Outcome.next ((descriptorStart_judges hf hst horder hrun hlane hworks hfence).trans hjudge),
    State.flight_modFlight _ hf fun _ => ⟨rfl, rfl⟩, s.modFlight_only d _⟩

end

theorem State.judge_poisoned (s : State) (d : DescRef) {f : Flight} (hpoison : f.poisoned = true) : s.judge d f = s.finish d 4 0 0 :=
  if_pos hpoison

theorem State.judge_malformed (s : State) (d : DescRef) {f : Flight} (hclean : f.poisoned = false)
    (hbad : opOf (s.viFunction f.vi) f.op = false ∨ f.wellFormed = false) : s.judge d f = s.finish d 6 0 0 :=
  (if_neg (by simp [hclean])).trans (if_pos (by simpa using hbad))

/-- What NOP and COPY have in common: they name neither a Check unit nor a key handle, and state no limits for ARGS. -/
theorem State.judge_plain {s : State} {d : DescRef} {f : Flight} (hop : f.op = 0 ∨ f.op = 1) (hclean : f.poisoned = false)
    (hfn : opOf (s.viFunction f.vi) f.op = true) (hwell : f.wellFormed = true) (hdrop : f.dropLate = false)
    (hlen : f.op = 0 ∧ f.len = 0 ∨ f.op = 1 ∧ 0 < f.len ∧ s.lengthOk d.lane f = true) (hranges : s.rangesOk d.lane f = (s, true)) :
    s.judge d f = s.modFlight d (·.startedAt s.time.now) := by
  have hstarts : s.startChecked d f = s.modFlight d (·.startedAt s.time.now) := by
    rcases hop with hop | hop <;> simp [State.startChecked, Flight.startedAt, hop, hranges]
  have hlimits : s.unitDenied f = false ∧ s.keyDenied f = false ∧ s.argsOk d.lane f = true ∧ s.handlesOk f = true := by
    rcases hop with hop | hop <;>
      simp [State.unitDenied, State.keyDenied, State.argsOk, State.handlesOk, Flight.usesKey, Flight.usesNew, Flight.keyAlg, hop]
  obtain ⟨hunit, hkey, hargs, hhandles⟩ := hlimits
  rw [← hstarts]
  rcases hlen with ⟨hop, hlen⟩ | ⟨hop, hlen, hlimit⟩
  · rw [hop] at hfn
    simp [State.judge, hclean, hfn, hwell, hdrop, hunit, hkey, hargs, hhandles, Flight.actsEmpty, hop, hlen]
  · have hunused : s.unusedZero d.lane f = true := by simp [State.unusedZero, Flight.srcLen, State.dstLen, hop]
    rw [hop] at hfn
    simp [State.judge, hclean, hfn, hwell, hdrop, hunit, hkey, hargs, hhandles, hop, Nat.ne_of_gt hlen, hlimit, hunused]

/-- A NOP of LENGTH 0 that meets every rule starts. -/
theorem State.judge_nop {s : State} {d : DescRef} {f : Flight} (hclean : f.poisoned = false) (hop : f.op = 0) (hwell : f.wellFormed = true)
    (hlen : f.len = 0) (hdrop : f.dropLate = false) : s.judge d f = s.modFlight d (·.startedAt s.time.now) := by
  have hranges : s.rangesOk d.lane f = (s, true) := by simp [State.rangesOk, Flight.srcLen, State.dstLen, hop]
  exact State.judge_plain (.inl hop) hclean (by simp [opOf, hop]) hwell hdrop (.inl ⟨hop, hlen⟩) hranges

/-- A COPY on a Copy VI that meets every rule starts. -/
theorem State.judge_copy {s : State} {d : DescRef} {f : Flight} (hclean : f.poisoned = false) (hop : f.op = 1)
    (hfn : s.viFunction f.vi = 0) (hwell : f.wellFormed = true) (hlen : 0 < f.len) (hdrop : f.dropLate = false)
    (hlimit : s.lengthOk d.lane f = true) (hranges : s.rangesOk d.lane f = (s, true)) :
    s.judge d f = s.modFlight d (·.startedAt s.time.now) :=
  State.judge_plain (.inr hop) hclean (by simp [opOf, hop, hfn]) hwell hdrop (.inr ⟨hop, hlen, hlimit⟩) hranges

/-! ### Completing (R270, R279, R280) -/

/-- The oldest descriptor of an SQ, once done on a working lane, gets its completion. -/
theorem descriptorComplete_completes {s : State} {d : DescRef} {f : Flight} (hf : s.flight d = some f) (hst : f.st = .done)
    (hworks : (s.lane d.lane).fenced = false) (hold : (s.queue d.sq).cons.toNat = f.idx) : descriptorComplete s d = s.complete d f := by
  simp [descriptorComplete, hf, hst, hworks, hold]

/-- A SILENT descriptor that succeeded in time writes no entry. -/
theorem State.complete_silent {s : State} {d : DescRef} {f : Flight} (hsilent : f.silent = true) (hok : f.status = 0)
    (hdeadline : f.deadline = 0) : s.complete d f = s.retireFlight d := by
  simp [State.complete, hsilent, hok, hdeadline]

section
variable {s : State} {d : DescRef} {f : Flight} {c : Nat} (hdeadline : f.deadline = 0)
  (hirq : (s.queue c).irqEn = false) (hentry : s.entryOk (s.queue c) ((s.queue c).entry (s.queue c).prod) false = true)
  (hgood : s.retired ((s.queue c).entry (s.queue c).prod) = false)
include hdeadline hirq hentry hgood

/-- The state once the completion entry of a descriptor without a deadline stands in a CQ without MSIs. -/
theorem State.postEntry_good : ∃ k p, s.postEntry d f c = ((s.writeBytes ((s.queue c).entry (s.queue c).prod)
    (completionBytes d.lane f (1 - (s.queue c).prod.toNat / 2 ^ (s.queue c).log2 % 2) false s.now)).withAside s.qe k p).setQueue c
      { s.queue c with prod := (s.queue c).prod + 1 } := by
  obtain ⟨k, p, hnoted⟩ := s.noteEngine_aside (laneNodeOf d.lane)
  refine ⟨k, p, ?_⟩
  have hplaced : (!s.entryOk (s.queue c) ((s.queue c).entry (s.queue c).prod) false || s.retired ((s.queue c).entry (s.queue c).prod)) = false := by
    simp [hentry, hgood]
  have hintime : (f.deadline != 0 && decide (f.deadline < s.now) && f.status != 9) = false := by simp [hdeadline]
  have hquiet : ((s.queue c).irqEn && (s.queue c).armed) = false := by simp [hirq]
  unfold State.postEntry
  dsimp only
  rw [hplaced, hintime, hquiet, hnoted, State.writeBytes_withAside, if_neg Bool.false_ne_true, if_neg Bool.false_ne_true,
    if_neg Bool.false_ne_true, State.queue_withAside]

/-- A completion that is no silent success goes into its CQ, where that has room, and the descriptor retires. -/
theorem exec_descriptorComplete_posts (hf : s.flight d = some f) (hst : f.st = .done) (hworks : (s.lane d.lane).fenced = false)
    (hold : (s.queue d.sq).cons.toNat = f.idx) (hloud : f.silent = false) (hcq : (s.queue d.sq).cq = c) (hother : c ≠ d.sq)
    (hon : (s.queue c).st = .enabled) (hroom : (s.queue c).held < 2 ^ (s.queue c).log2) (hcached : s.qe.cached.contains c = true)
    (hfree : s.linesFree [(true, (s.queue c).entry (s.queue c).prod, 64)] = true) : ∃ t, exec (.descriptorComplete d) s = .next t
      ∧ (t.queue d.sq).cons = (s.queue d.sq).cons + 1 ∧ (t.queue c).prod = (s.queue c).prod + 1 ∧ t.flight d = none
      ∧ t.mem = (s.writeBytes ((s.queue c).entry (s.queue c).prod)
          (completionBytes d.lane f (1 - (s.queue c).prod.toNat / 2 ^ (s.queue c).log2 % 2) false s.now)).mem := by
  have hposts : s.complete d f = (s.postEntry d f c).retireFlight d := by
    simp [State.complete, hloud, hcq, State.loadCtx_cached hcached, hon, Nat.not_le.mpr hroom, State.whenFree_free _ _ _ hfree]
  obtain ⟨k, p, hposted⟩ := State.postEntry_good (d := d) hdeadline hirq hentry hgood
  refine ⟨_, congrArg Host.Outcome.next ((descriptorComplete_completes hf hst hworks hold).trans hposts), ?_, ?_,
    State.flight_retireFlight _ d, ?_⟩
  · rw [State.cons_retireFlight, hposted, State.queue_setQueue_other _ _ hother]
    rfl
  · rw [State.queue_retireFlight_other _ hother, hposted, State.queue_setQueue_same]
  · rw [hposted, State.retireFlight_mem, State.setQueue_mem]
    rfl

end

/-! ### O34 -/

/-- Settles O34: a descriptor is fetched, judged as it starts, and completed. -/
theorem descriptors : Obligations.Descriptors := by
  unfold Obligations.Descriptors
  refine ⟨⟨fun s lane q hlane hflights hrun hturn hcached hst hentry hpoison hfree =>
      exec_descriptorFetch_turn hflights hentry hpoison hfree hlane hrun hturn hcached hst,
    fun s d f hf hst horder hrun hlane hworks hfence => ?_⟩, ?_,
    fun s d f c hf hst hworks hold hloud hdeadline hcq hother hon hirq hroom hentry hgood hcached hfree =>
      exec_descriptorComplete_posts hdeadline hirq hentry hgood hf hst hworks hold hloud hcq hother hon hroom hcached hfree⟩
  · have hends := fun {status} => exec_descriptorStart_ends (status := status) hf hst horder hrun hlane hworks hfence
    have hstarts := exec_descriptorStart_starts hf hst horder hrun hlane hworks hfence
    exact ⟨fun hpoison => hends (s.judge_poisoned d hpoison), fun hclean hbad => hends (s.judge_malformed d hclean hbad),
      fun hclean hop hwell hlen hdrop => hstarts (State.judge_nop hclean hop hwell hlen hdrop),
      fun hclean hop hfn hwell hlen hdrop hlimit hranges => hstarts (State.judge_copy hclean hop hfn hwell hlen hdrop hlimit hranges)⟩
  · intro s d f hf hst hworks hold hsilent hok hdeadline
    exact ⟨_, congrArg Host.Outcome.next ((descriptorComplete_completes hf hst hworks hold).trans (State.complete_silent hsilent hok hdeadline)),
      s.cons_retireFlight d, s.flight_retireFlight d, rfl, s.retireFlight_only d⟩

end Sys2Proof.Machine
end

section
/-! PROOFS. The link layer of the System Links (R299, R301, R302, R315, R320): flits received, replay, and links that come up and go down. -/

namespace Sys2Proof.Machine

/-! ### Ports that other parts of the state do not touch -/

theorem State.changesOnly_sl (s : State) (x : SysLink) : s.changesOnly [.sl] { s with sl := x } := by
  intro p hp
  cases p with
  | sl => simp at hp
  | _ => rfl

/-- Ports are read from the System Links' part of the state alone. -/
theorem State.slPort_congr {s t : State} (h : t.sl = s.sl) (p : Nat) : t.slPort p = s.slPort p := by
  rw [State.slPort, State.slPort, h]

@[simp] theorem State.slPort_log (s : State) (r : ErrRec) (p : Nat) : (s.log r).slPort p = s.slPort p := State.slPort_congr (s.log_sl r) p

@[simp] theorem State.slPort_logSl (s : State) (y : Syndrome) (q p : Nat) : (s.logSl y q).slPort p = s.slPort p := s.slPort_log _ p

theorem State.demote_sl (s : State) (n : Nat) : (s.demote n).sl = s.sl := by
  simp only [State.demote]
  split <;> simp

@[simp] theorem State.slPort_slDemote (s : State) (q p : Nat) : (s.slDemote q).slPort p = s.slPort p :=
  State.slPort_congr (foldl_frame State.sl _ _ s State.demote_sl) p

/-! ### Records of a port (R315, R340) -/

theorem State.logSl_sends (s : State) (y : Syndrome) (p : Nat) : (s.logSl y p).sends (originUnit (s.slRecord y p)) y := s.log_sends rfl

theorem State.demote_sends_mono {s : State} {u : UnitId} {y : Syndrome} (n : Nat) (h : s.sends u y) : (s.demote n).sends u y := by
  simp only [State.demote]
  split
  · exact State.log_sends_mono _ h
  · exact h

theorem State.slDemote_sends_mono {s : State} {u : UnitId} {y : Syndrome} (p : Nat) (h : s.sends u y) : (s.slDemote p).sends u y :=
  List.foldlRecOn (motive := fun t : State => t.sends u y) _ _ h fun _ ht n _ => State.demote_sends_mono n ht

/-! ### A link that goes down or retrains (R301, R315) -/

/-- A port whose link is lost. -/
def SlPort.dropped (t : SlPort) (retrain : Bool) : SlPort :=
  { t with link := if retrain then .training else .down, aliveRx := none, nakPending := false, nakSeen := false, resends := 0 }

@[simp] theorem State.slPort_slDrop (s : State) (p : Nat) (retrain : Bool) : (s.slDrop p retrain).slPort p = (s.slPort p).dropped retrain := by
  simp [State.slDrop, SlPort.dropped]

theorem State.slDrop_sends_mono {s : State} {u : UnitId} {y : Syndrome} (p : Nat) (retrain : Bool) (h : s.sends u y) :
    (s.slDrop p retrain).sends u y :=
  State.slDemote_sends_mono p (State.log_sends_mono _ ((State.sends_congr rfl u y).mpr h))

theorem State.slDrop_carries (s : State) (p : Nat) (retrain : Bool) : (s.slDrop p retrain).carries Syn.slLinkDown = true :=
  (State.slDemote_sends_mono p (State.logSl_sends _ _ _)).carries

theorem exec_slLinkDown_up {s : State} {p : Nat} (retrain : Bool) (hup : (s.slPort p).link = .up) : ∃ t, exec (.slLinkDown p retrain) s = .next t
    ∧ (t.slPort p).link = (if retrain then .training else .down) ∧ t.carries Syn.slLinkDown = true :=
  ⟨s.slDrop p retrain, congrArg Host.Outcome.next (if_pos hup), by simp [SlPort.dropped], s.slDrop_carries p retrain⟩

/-! ### Replay (R301) -/

/-- A port that has sent its replay buffer again after a NAK. -/
def SlPort.resent (t : SlPort) : SlPort :=
  { t with nakSeen := false, resends := t.resends + 1, replays := satAdd 0xFFFF t.replays t.replay.length }

theorem exec_replay_nak {s : State} {p : Nat} (hup : (s.slPort p).link = .up) (hnak : (s.slPort p).nakSeen = true)
    (hwaits : (s.slPort p).replay ≠ []) : ∃ t, exec (.replay p) s = .next t
      ∧ (t.slPort p).replay = (s.slPort p).replay ∧ (t.slPort p).nakSeen = false
      ∧ (t.slPort p).replays = min 0xFFFF ((s.slPort p).replays + (s.slPort p).replay.length)
      ∧ (if 7 ≤ (s.slPort p).resends then (t.slPort p).link = .training ∧ t.carries Syn.slLinkDown = true
         else (t.slPort p).link = .up ∧ (t.slPort p).resends = (s.slPort p).resends + 1) := by
  have hstep : replay s p = if 7 ≤ (s.slPort p).resends then (s.setSlPort p (s.slPort p).resent).slDrop p true
      else s.setSlPort p (s.slPort p).resent := by
    simp [replay, SlPort.resent, hup, hnak, hwaits]
  refine ⟨_, congrArg Host.Outcome.next hstep, ?_⟩
  split
  · simp [SlPort.dropped, SlPort.resent, satAdd, State.slDrop_carries]
  · simp [SlPort.resent, satAdd, hup]

/-! ### Flits sent (R299, R301) -/

/-- What sending flits leaves of a port: the last flit received, the messages received, and the peer. -/
def SlPort.received (t : SlPort) : Nat × List SlMsg × PeerSt := (t.rxSeq, t.inq, t.peer)

theorem SlPort.flit_received (t : SlPort) (c : CheckCfg) (m : SlMsg) : (t.flit c m).received = t.received := by
  unfold SlPort.flit
  split <;> rfl

theorem SlPort.refill_received (fuel : Nat) (t : SlPort) (c : CheckCfg) : (SlPort.refill fuel t c).received = t.received := by
  induction fuel generalizing t with
  | zero => rfl
  | succ fuel ih =>
    unfold SlPort.refill
    split
    · rfl
    · split
      · rfl
      · exact (ih _).trans (SlPort.flit_received _ c _)

theorem SlPort.acked_received (t : SlPort) (ack : Nat) : (t.acked ack).received = t.received := by
  unfold SlPort.acked
  split <;> rfl

/-- A port with an empty replay buffer sends a message in a flit of its own. -/
theorem SlPort.flit_first {t : SlPort} (c : CheckCfg) (m : SlMsg) (hempty : t.replay = []) :
    ∃ f, (t.flit c m).replay = [f] ∧ f.seq = (t.txSeq + 1) % 1024 ∧ f.msgs = [m] := by
  simp [SlPort.flit, hempty, slChecked]

theorem SlPort.flit_link (t : SlPort) (c : CheckCfg) (m : SlMsg) :
    (t.flit c m).link = t.link ∧ (t.flit c m).width = t.width ∧ (t.flit c m).fullRate = t.fullRate := by
  unfold SlPort.flit
  split <;> exact ⟨rfl, rfl, rfl⟩

/-- HEARTBEAT and LINK_INIT enter their port at once, whether or not the peer sleeps (R314). -/
theorem State.slSend_always {s : State} (p : Nat) {m : SlMsg} (halways : slAlways m = true) :
    s.slSend p m = s.setSlPort p ((s.slPort p).flit (s.checkCfg (8 + p)) m) := by
  simp [State.slSend, halways]

/-! ### A link that comes up (R298, R302) -/

/-- A port whose link has come up from being down. -/
def SlPort.fresh (t : SlPort) (rate : LinkRate) (now : Nat) : SlPort :=
  { t with link := .up, width := rate.width, fullRate := rate.full, aliveRx := none, rip := false, txSeq := 0, rxSeq := 0, aliveTx := 0,
           replay := [], lastHb := now }

/-- The state once a link has come up and LINK_INIT is in its replay buffer. -/
def State.linkedUp (s : State) (p : Nat) (rate : LinkRate) : State :=
  (s.setSlPort p ((s.slPort p).fresh rate s.time.now)).slSend p (s.linkInitMsg p)

theorem State.slPort_linkedUp (s : State) (p : Nat) (rate : LinkRate) :
    (s.linkedUp p rate).slPort p = ((s.slPort p).fresh rate s.time.now).flit (s.checkCfg (8 + p)) (s.linkInitMsg p) := by
  rw [State.linkedUp, State.slSend_always p rfl, State.slPort_setSlPort_same, State.slPort_setSlPort_same]
  rfl

theorem slLinkUp_down {s : State} {p : Nat} {rate : LinkRate} (hreleased : (s.slPort p).released = true)
    (hdown : (s.slPort p).link = .down) (hwidth : rate.width < 4) : slLinkUp s p rate.width rate.full =
      if rate.width = 0 ∧ rate.full = true then s.linkedUp p rate else (s.linkedUp p rate).slDemote p := by
  have hinit : (s.setSlPort p ((s.slPort p).fresh rate s.time.now)).linkInitMsg p = s.linkInitMsg p := by
    simp [State.linkInitMsg, State.slNew, SlPort.fresh, State.bind]
  rw [State.linkedUp, ← hinit]
  simp [slLinkUp, hreleased, hdown, hwidth, SlPort.fresh]

theorem exec_slLinkUp_down {s : State} {p : Nat} {rate : LinkRate} (hreleased : (s.slPort p).released = true)
    (hdown : (s.slPort p).link = .down) (hwidth : rate.width < 4) : ∃ t, exec (.slLinkUp p rate) s = .next t
      ∧ (t.slPort p).link = .up ∧ (t.slPort p).width = rate.width ∧ (t.slPort p).fullRate = rate.full
      ∧ ∃ f, (t.slPort p).replay = [f] ∧ f.seq = 1 ∧ f.msgs = [s.linkInitMsg p] := by
  have hport : (slLinkUp s p rate.width rate.full).slPort p = (s.linkedUp p rate).slPort p := by
    rw [slLinkUp_down hreleased hdown hwidth]
    split
    · rfl
    · exact State.slPort_slDemote _ p p
  obtain ⟨hlink, hw, hrate⟩ := ((s.slPort p).fresh rate s.time.now).flit_link (s.checkCfg (8 + p)) (s.linkInitMsg p)
  refine ⟨slLinkUp s p rate.width rate.full, rfl, ?_⟩
  rw [hport, State.slPort_linkedUp]
  exact ⟨hlink, hw, hrate, SlPort.flit_first _ _ rfl⟩

/-! ### Flits received (R299, R301, R314, R320) -/

/-- How a port judges the alive value of an accepted flit (R320). -/
def State.aliveVerdict (s : State) (p : Nat) (f : SlFlit) : Alive :=
  if s.bind.aliveBits p = 0 then .ok else judgeAlive (s.bind.aliveBits p) (s.slPort p).aliveRx (f.alive % 2 ^ s.bind.aliveBits p)

/-- A port that has accepted a flit: what the flit acknowledges is dropped, and messages that waited for room enter flits. -/
def SlPort.accepted (t : SlPort) (c : CheckCfg) (bits : Nat) (f : SlFlit) : SlPort :=
  SlPort.refill 256 ({ t with rxSeq := f.seq, aliveRx := if bits = 0 then none else some (f.alive % 2 ^ bits),
                              nakSeen := t.nakSeen || f.nak }.acked f.ack) c

theorem SlPort.accepted_received (t : SlPort) (c : CheckCfg) (bits : Nat) (f : SlFlit) :
    (t.accepted c bits f).rxSeq = f.seq ∧ (t.accepted c bits f).inq = t.inq ∧ (t.accepted c bits f).peer = t.peer := by
  have h : (t.accepted c bits f).received = (f.seq, t.inq, t.peer) := (SlPort.refill_received _ _ _).trans (SlPort.acked_received _ _)
  simpa [SlPort.received] using h

/-- The state once a port has accepted a flit and taken its messages. -/
def State.flitTaken (s : State) (p : Nat) (f : SlFlit) : State :=
  (s.setSlPort p ((s.slPort p).accepted (s.checkCfg (8 + p)) (s.bind.aliveBits p) f)).slAccept p f

/-- A port that takes messages at once adds them to what it has received, from an ISOLATED peer only HEARTBEATs and LINK_INITs (R311). -/
theorem State.slAccept_known {s : State} {p : Nat} {f : SlFlit} (hawake : s.wakeHold = false) (hknown : ∀ m ∈ f.msgs, 1 ≤ m.kind ∧ m.kind ≤ 9) :
    s.slAccept p f = s.setSlPort p { s.slPort p with
      inq := (s.slPort p).inq ++ (if (s.slPort p).peer = .isolated then f.msgs.filter slAlways else f.msgs) } := by
  have hall : f.msgs.filter (fun m => 1 ≤ m.kind && m.kind ≤ 9) = f.msgs := List.filter_eq_self.mpr fun m hm => by simpa using hknown m hm
  simp [State.slAccept, hall, hawake]

section
variable {s : State} {p : Nat} {f : SlFlit} (hreleased : (s.slPort p).released = true) (hup : (s.slPort p).link = .up)
  (hworks : s.isGated (UnitId.of 0x0D p) = false)
include hreleased hup hworks

/-- A flit that fails its check or is out of order leaves a NAK to be sent, and nothing else. -/
theorem linkFlit_naked (hbad : slFlitOk (s.checkCfg (8 + p)) f = false ∨ f.seq ≠ ((s.slPort p).rxSeq + 1) % 1024) :
    linkFlit s p f = s.setSlPort p { s.slPort p with nakPending := true } := by
  have hnak : (!slFlitOk (s.checkCfg (8 + p)) f || f.seq != ((s.slPort p).rxSeq + 1) % 1024) = true := by simpa using hbad
  simp only [linkFlit, hreleased, hup, hworks, hnak]
  rfl

variable (hok : slFlitOk (s.checkCfg (8 + p)) f = true) (hseq : f.seq = ((s.slPort p).rxSeq + 1) % 1024) (hawake : s.wakeHold = false)
include hok hseq hawake

/-- A good flit in order is acknowledged and its messages are taken; an alive value that is not as expected makes the link retrain. -/
theorem linkFlit_accepted : linkFlit s p f = if s.aliveVerdict p f = .ok then s.flitTaken p f
    else ((s.flitTaken p f).logSl Syn.slAliveFault p).slDrop p true := by
  have hgood : (!slFlitOk (s.checkCfg (8 + p)) f || f.seq != ((s.slPort p).rxSeq + 1) % 1024) = false := by simp [hok, hseq]
  simp [linkFlit, hreleased, hup, hworks, hgood, hawake, State.flitTaken, SlPort.accepted, State.aliveVerdict]

/-- Without an alive counter every good flit in order delivers its messages. -/
theorem exec_linkFlit_delivers (hbits : s.bind.aliveBits p = 0) (hknown : ∀ m ∈ f.msgs, 1 ≤ m.kind ∧ m.kind ≤ 9) :
    ∃ t, exec (.linkFlit p f) s = .next t ∧ s.changesOnly [.sl] t ∧ (t.slPort p).rxSeq = f.seq
      ∧ (t.slPort p).inq = (s.slPort p).inq ++ (if (s.slPort p).peer = .isolated then f.msgs.filter slAlways else f.msgs) := by
  have hverdict : s.aliveVerdict p f = .ok := if_pos hbits
  have hstep := linkFlit_accepted hreleased hup hworks hok hseq hawake
  rw [if_pos hverdict, State.flitTaken, State.slAccept_known (s := s.setSlPort p _) hawake hknown, State.slPort_setSlPort_same] at hstep
  obtain ⟨hrx, hinq, hpeer⟩ := (s.slPort p).accepted_received (s.checkCfg (8 + p)) (s.bind.aliveBits p) f
  refine ⟨_, congrArg Host.Outcome.next hstep, s.changesOnly_sl _, ?_, ?_⟩
  · rw [State.slPort_setSlPort_same]
    exact hrx
  · rw [State.slPort_setSlPort_same, hinq, hpeer]

/-- An alive value equal to the last one makes the link retrain. -/
theorem exec_linkFlit_repeat (hbits : s.bind.aliveBits p ≠ 0) (hlast : (s.slPort p).aliveRx = some (f.alive % 2 ^ s.bind.aliveBits p)) :
    ∃ t, exec (.linkFlit p f) s = .next t ∧ (t.slPort p).link = .training ∧ t.carries Syn.slAliveFault = true := by
  have hrepeat : s.aliveVerdict p f = .repeated := by simp [State.aliveVerdict, hbits, hlast, judgeAlive]
  have hstep := linkFlit_accepted hreleased hup hworks hok hseq hawake
  rw [if_neg (by simp [hrepeat])] at hstep
  exact ⟨_, congrArg Host.Outcome.next hstep, by simp [SlPort.dropped], (State.slDrop_sends_mono p true (State.logSl_sends _ _ _)).carries⟩

end

/-! ### O41 -/

/-- Settles O41: what becomes of a flit, a NAK, a link that goes down and one that comes up. -/
theorem linkLayer : Obligations.Link_layer := by
  unfold Obligations.Link_layer
  refine ⟨fun s p f hreleased hup hworks => ⟨fun hbad => congrArg Host.Outcome.next (linkFlit_naked hreleased hup hworks hbad),
      fun hok hseq hawake => ⟨exec_linkFlit_delivers hreleased hup hworks hok hseq hawake,
        exec_linkFlit_repeat hreleased hup hworks hok hseq hawake⟩⟩,
    fun s p hup hnak hwaits => exec_replay_nak hup hnak hwaits,
    fun s p retrain hup => exec_slLinkDown_up retrain hup,
    fun s p rate hreleased hdown hwidth => exec_slLinkUp_down hreleased hdown hwidth⟩

end Sys2Proof.Machine
end

section
/-! PROOFS. Messages of the System Links (R303, R305, R306): a READ_REQ of this package to itself is answered to itself, and its bytes are
written to memory. -/

namespace Sys2Proof.Machine

/-! ### READ_REQ (R305) -/

/-- A READ_REQ for this package, whose lines are free, is taken from an open port and answered. -/
theorem exec_readReq_open {s : State} {p : Nat} {m : SlMsg} (hkind : m.kind = 4) (hopen : s.slOpen p = true)
    (hdst : m.dstPkg = s.bind.packageId) (hfree : s.linesFree (s.remoteRange m false (numAt m.body 2 2)) = true) :
    exec (.readReq p m) s = .next (slReadIn (s.slTake p m) p m) := by
  obtain ⟨kind, hops, secure, poison, srcPkg, dstPkg, tag, stream, status, body⟩ := m
  subst hkind
  refine congrArg Host.Outcome.next ((s.whenFree_free _ _ hfree).trans ?_)
  rw [State.slHandle, hopen]
  exact if_pos hdst

/-! ### A package that reads its own window -/

/-- A readable, writable EXPORT window of Quire 1. -/
def exportedWindow : MemWin :=
  { qid := 1, index := 0, flags := 0x207, keySlot := 0, shareId := 0, base := hbmBase, size := 0x1000000, homeSlices := 0 }

/-- The Binding of package 1, whose route table holds a route to package 1 too, and whose VI 0 is a System Link messaging VI. -/
def selfRoutedBinding : Binding :=
  { Binding.empty with
    windows := [exportedWindow]
    queues := [{ kind := 2, qid := 1, secure := false, function := 3, first := 0, count := 1 }]
    sysLink := some { packageId := 1, portMask := 1, routes := [{ dest := 1, port := 0, altPort := 0xFF }], partners := [] } }

/-- An SL_READ of 8 bytes to DST 0x400 behind the start of the window, which waits for its answer. -/
def waitingSlRead : Flight :=
  { sq := 5, idx := 0, vi := 0, raw := lineSet (lineSet 0 0 1 0x31) 24 8 (hbmBase + 0x400), poisoned := false, st := .waiting, status := 0,
    length := 8, result := 0, reissued := false, since := 0 }

/-- Package 1 with that SL_READ in lane 5, its request under tag 9, and port 0 UP. -/
def selfReadingPackage : State :=
  { State.reset with
    clasp := { Clasp.reset with eff := selfRoutedBinding }
    qe := { State.reset.qe with lanes := [(5, { Lane.reset with flights := [waitingSlRead] })] }
    sl := { State.reset.sl with
      ports := [(0, { SlPort.reset with released := true, link := .up, peer := .up, peerPkg := 2 })]
      reqs := [{ tag := 9, port := 0, desc := { lane := 5, sq := 5, idx := 0 }, off := 0, len := 8 }] } }

/-- The READ_REQ from package 1 to package 1 under tag 9, for the first 8 bytes of the window. -/
def selfReadReq : SlMsg :=
  { kind := 4, hops := 14, secure := false, poison := false, srcPkg := 1, dstPkg := 1, tag := 9, stream := 0, status := 0,
    body := [1, 0] ++ toLE 2 8 ++ toLE 4 0 ++ toLE 8 0 }

/-! ### O43 -/

/-- Refutes O43: its clause on READ_REQ says that memory stays as it was, also for one whose source is this package itself. Such a READ_REQ
is accepted where the route table holds a route to this package (R305), its READ_DATA is delivered locally (R303), and the bytes are written
at DST of the SL_READ that waits under its tag (R306). -/
theorem not_linkMessages : ¬ Obligations.Link_messages := by
  unfold Obligations.Link_messages
  rintro ⟨-, hremote, -⟩
  have hopen : selfReadingPackage.slOpen 0 = true := by decide
  have hwindow : selfReadingPackage.remoteWindow selfReadReq false (numAt selfReadReq.body 2 2) = some exportedWindow := by decide +kernel
  have hmemory : (rangeOf (exportedWindow.base + numAt selfReadReq.body 8 8)).isMemory = true := by decide +kernel
  have hfree : selfReadingPackage.linesFree (selfReadingPackage.remoteRange selfReadReq false (numAt selfReadReq.body 2 2)) = true := by
    decide +kernel
  obtain ⟨-, -, hread⟩ := hremote selfReadingPackage 0 selfReadReq hopen rfl
  obtain ⟨t, hexec, hmem, -⟩ := hread exportedWindow hwindow hmemory hfree
  rw [exec_readReq_open rfl hopen rfl hfree] at hexec
  obtain rfl := Host.Outcome.next.inj hexec
  have hwritten : (slReadIn (selfReadingPackage.slTake 0 selfReadReq) 0 selfReadReq).mem.wpq ≠ [] := by decide +kernel
  have hempty : selfReadingPackage.mem.wpq = [] := rfl
  rw [hmem] at hwritten
  exact hwritten hempty

end Sys2Proof.Machine
end

section
/-! PROOFS. What the canonical form of memory rests on (log 4), its listed cells and the rule for unlisted addresses, stays as it is in all
but a few commands: one lemma for each function that a command calls, in the order of the model's files. -/

namespace Sys2Proof.Machine

/-- What the canonical form of a memory rests on: its listed cells, and what an unlisted address reads as. -/
def MemSys.cells (m : MemSys) : List Host.Cell × List Era := (m.bytes, m.eras)

/-- The cells of a state's memory. -/
def State.cells (s : State) : List Host.Cell × List Era := s.mem.cells

/-- Cells in canonical form (log 4). -/
@[irreducible] def Canonical (c : List Host.Cell × List Era) : Prop := Memory.wf (eraByte c.2) c.1 = true

@[simp] theorem State.cells_mk (pending free fuse pins boot time harts clusters slices net fabric links mem qe io sl chk err clasp dbg pwr ff gov) :
    State.cells ⟨pending, free, fuse, pins, boot, time, harts, clusters, slices, net, fabric, links, mem, qe, io, sl, chk, err, clasp, dbg,
      pwr, ff, gov⟩ = mem.cells := by simp [State.cells]

@[simp] theorem MemSys.cells_fold (s : State) : s.mem.cells = s.cells := by simp [State.cells]

@[simp] theorem MemSys.cells_update (m : MemSys) (poison wpq reads hbm ddr failedPc failedCh ddrN dimmGib keys seals cxl retireDirty) :
    MemSys.cells ⟨m.bytes, poison, m.eras, wpq, reads, hbm, ddr, failedPc, failedCh, ddrN, dimmGib, keys, seals, cxl, retireDirty⟩ = m.cells := by
  simp [MemSys.cells]

@[simp] theorem MemSys.setPoison_cells (m : MemSys) (l : Nat) (p : Poison) : (m.setPoison l p).cells = m.cells := rfl
@[simp] theorem MemSys.afterReset_cells (m : MemSys) : m.afterReset.cells = m.cells := rfl

@[simp] theorem State.cells_ite (c : Prop) [Decidable c] (s t : State) : (if c then s else t).cells = if c then s.cells else t.cells :=
  apply_ite State.cells c s t

@[simp] theorem fst_ite_cells {α : Type} (c : Prop) [Decidable c] (r t : State × α) :
    (if c then r else t).1.cells = if c then r.1.cells else t.1.cells := apply_ite (fun r : State × α => r.1.cells) c r t

@[simp] theorem snd_ite_cells {α : Type} (c : Prop) [Decidable c] (r t : α × State) :
    (if c then r else t).2.cells = if c then r.2.cells else t.2.cells := apply_ite (fun r : α × State => r.2.cells) c r t

@[simp] theorem foldl_cells {α : Type} (f : State → α → State) (l : List α) (s : State) (h : ∀ s a, (f s a).cells = s.cells) :
    (l.foldl f s).cells = s.cells := foldl_frame State.cells f l s h

/-! ### Machine/Ops.lean -/

@[simp] theorem State.setHart_cells (s : State) (h : Nat) (x : Hart) : (s.setHart h x).cells = s.cells := by simp [State.setHart]
@[simp] theorem State.modHart_cells (s : State) (h : Nat) (f : Hart → Hart) : (s.modHart h f).cells = s.cells := by simp [State.modHart]
@[simp] theorem State.setCluster_cells (s : State) (c : Nat) (x : Cluster) : (s.setCluster c x).cells = s.cells := by simp [State.setCluster]
@[simp] theorem State.setSlice_cells (s : State) (n : Nat) (x : Slice) : (s.setSlice n x).cells = s.cells := by simp [State.setSlice]
@[simp] theorem State.modSlice_cells (s : State) (n : Nat) (f : Slice → Slice) : (s.modSlice n f).cells = s.cells := by simp [State.modSlice]
@[simp] theorem State.setXl_cells (s : State) (x : Nat) (v : Xl) : (s.setXl x v).cells = s.cells := by simp [State.setXl]
@[simp] theorem State.setPartner_cells (s : State) (i : Nat) (v : Partner) : (s.setPartner i v).cells = s.cells := by simp [State.setPartner]
@[simp] theorem State.setStream_cells (s : State) (n : Nat) (v : Stream) : (s.setStream n v).cells = s.cells := by simp [State.setStream]
@[simp] theorem State.setQueue_cells (s : State) (q : Nat) (v : QCtx) : (s.setQueue q v).cells = s.cells := by simp [State.setQueue]
@[simp] theorem State.setLane_cells (s : State) (n : Nat) (v : Lane) : (s.setLane n v).cells = s.cells := by simp [State.setLane]
@[simp] theorem State.setVi_cells (s : State) (n : Nat) (v : Vi) : (s.setVi n v).cells = s.cells := by simp [State.setVi]
@[simp] theorem State.setGroup_cells (s : State) (g : Nat) (v : PortGroup) : (s.setGroup g v).cells = s.cells := by simp [State.setGroup]
@[simp] theorem State.setTsn_cells (s : State) (c : Nat) (v : Tsn) : (s.setTsn c v).cells = s.cells := by simp [State.setTsn]
@[simp] theorem State.setSlPort_cells (s : State) (p : Nat) (v : SlPort) : (s.setSlPort p v).cells = s.cells := by simp [State.setSlPort]
@[simp] theorem State.setBreq_cells (s : State) (q : Nat) (v : Breq) : (s.setBreq q v).cells = s.cells := by simp [State.setBreq]
@[simp] theorem State.setGovQ_cells (s : State) (q : Nat) (v : GovQ) : (s.setGovQ q v).cells = s.cells := by simp [State.setGovQ]
@[simp] theorem State.draw_cells (s : State) : s.draw.2.cells = s.cells := by simp [State.draw]
@[simp] theorem State.drawBytes_cells (s : State) (n : Nat) : (s.drawBytes n).2.cells = s.cells := by simp [State.drawBytes]

@[simp] theorem State.sendMsi_cells (s : State) (hart file id : Nat) (secure : Bool) :
    (s.sendMsi hart file id secure).cells = s.cells := by simp [State.sendMsi]

@[simp] theorem State.noteStats_cells (s : State) (i cls bytes : Nat) (lat : Option Nat) :
    (s.noteStats i cls bytes lat).cells = s.cells := by simp [State.noteStats]

@[simp] theorem State.noteAt_cells (s : State) (node core cls bytes : Nat) (lat : Option Nat) :
    (s.noteAt node core cls bytes lat).cells = s.cells := by simp [State.noteAt]

@[simp] theorem State.sendCoh_cells (s : State) (m : CohMsg) : (s.sendCoh m).cells = s.cells := by simp [State.sendCoh]
@[simp] theorem State.takeCoh_cells (s : State) (m : CohMsg) : (s.takeCoh m).cells = s.cells := by simp [State.takeCoh]

@[simp] theorem State.pacedMsi_cells (s : State) (src hart file id : Nat) (secure : Bool) :
    (s.pacedMsi src hart file id secure).cells = s.cells := by simp [State.pacedMsi]

@[simp] theorem State.needResign_cells (s : State) : s.needResign.cells = s.cells := by simp [State.needResign]
@[simp] theorem State.fenceOne_cells (s : State) (u : UnitId) (syn : Nat) : (s.fenceOne u syn).cells = s.cells := by simp [State.fenceOne]
@[simp] theorem State.addFence_cells (s : State) (u : UnitId) (syn : Nat) : (s.addFence u syn).cells = s.cells := by simp [State.addFence]

@[simp] theorem State.raiseFatal_cells (s : State) (r : ErrRec) : (s.raiseFatal r).cells = s.cells := by
  unfold State.raiseFatal
  split <;> simp

@[simp] theorem State.log_cells (s : State) (r : ErrRec) : (s.log r).cells = s.cells := by simp [State.log]

@[simp] theorem State.countFlit_cells (s : State) (x : Nat) (inward : Bool) (lane : Nat) (corrected : Bool) :
    (s.countFlit x inward lane corrected).cells = s.cells := by simp [State.countFlit]

@[simp] theorem State.deadlineMissOf_cells (s : State) (q : Nat) (r : ErrRec) : (s.deadlineMissOf q r).cells = s.cells := by
  simp only [State.deadlineMissOf]
  (repeat' split) <;> simp

/-! ### Machine/MemMap.lean -/

@[simp] theorem State.setCtl_cells (s : State) (k : Nat) (c : Ctl) : (s.setCtl k c).cells = s.cells := by simp [State.setCtl]

/-! ### Machine/Errors.lean -/

@[simp] theorem State.setEcRegs_cells (s : State) (v : EcView) (r : EcRegs) : (s.setEcRegs v r).cells = s.cells := by
  unfold State.setEcRegs
  split <;> simp

@[simp] theorem State.viewEvent_cells (s : State) (r : ErrRec) : (s.viewEvent r).cells = s.cells := by simp [State.viewEvent]

@[simp] theorem State.storeRecord_cells (s : State) (r : ErrRec) : (s.storeRecord r).cells = s.cells := by
  unfold State.storeRecord
  (repeat' split) <;> simp

@[simp] theorem State.coalesceInto_cells (s : State) (i : Nat) (old new : ErrRec) :
    (s.coalesceInto i old new).cells = s.cells := by simp [State.coalesceInto]

@[simp] theorem State.chipReceive_cells (s : State) (r : ErrRec) : (s.chipReceive r).cells = s.cells := by
  simp only [State.chipReceive]
  (repeat' split) <;> simp

@[simp] theorem recordForward_cells (s : State) (u : UnitId) : (recordForward s u).cells = s.cells := by
  simp only [recordForward]
  (repeat' split) <;> simp

@[simp] theorem msiPacing_cells (s : State) (hart file id : Nat) : (msiPacing s hart file id).cells = s.cells := by simp [msiPacing]

@[simp] theorem State.ecClear_cells (s : State) (v : EcView) : (s.ecClear v).cells = s.cells := by
  simp only [State.ecClear]
  (repeat' split) <;> simp

@[simp] theorem State.ecClearAll_cells (s : State) (v : EcView) : (s.ecClearAll v).cells = s.cells := by
  unfold State.ecClearAll
  split <;> simp

/-! ### Machine/Crc.lean -/

@[simp] theorem State.setOpenUnit_cells (s : State) (u : Nat) (v : OpenUnit) : (s.setOpenUnit u v).cells = s.cells := by simp [State.setOpenUnit]

/-! ### Machine/Route.lean -/

@[simp] theorem State.flitFate_cells (s : State) (qid : Nat) (addr : Option Nat) (hasData : Bool) (u : Upset) :
    (s.flitFate qid addr hasData u).1.cells = s.cells := by
  unfold State.flitFate
  (repeat' split) <;> simp

@[simp] theorem State.arrive_cells (s : State) (m : CohMsg) (u : Upset) (f : State → CohMsg → State) (hf : ∀ s a, (f s a).cells = s.cells) :
    (s.arrive m u f).cells = s.cells := by
  simp only [State.arrive]
  split
  · rfl
  · split <;> simp [hf]

/-! ### Machine/DebugOps.lean -/

@[simp] theorem State.setSwd_cells (s : State) (w : Swd) : (s.setSwd w).cells = s.cells := by simp [State.setSwd]
@[simp] theorem State.swdSync_cells (s : State) : s.swdSync.cells = s.cells := by simp [State.swdSync]
@[simp] theorem State.swdRestart_cells (s : State) : s.swdRestart.cells = s.cells := by simp [State.swdRestart]

/-! ### Machine/HartOps.lean -/

@[simp] theorem State.raise_cells (s : State) (h : Nat) (e : Exc) : (s.raise h e).cells = s.cells := by simp [State.raise]

@[simp] theorem State.raiseCode_cells (s : State) (h code : Nat) (tval : Word) :
    (s.raiseCode h code tval).cells = s.cells := by simp [State.raiseCode]

@[simp] theorem State.raiseIllegal_cells (s : State) (h code bits free : Nat) :
    (s.raiseIllegal h code bits free).cells = s.cells := by simp [State.raiseIllegal]

@[simp] theorem State.haltOne_cells (s : State) (h cause : Nat) : (s.haltOne h cause).cells = s.cells := by simp [State.haltOne]
@[simp] theorem State.haltHart_cells (s : State) (h cause : Nat) : (s.haltHart h cause).cells = s.cells := by simp [State.haltHart]
@[simp] theorem State.resumeHart_cells (s : State) (h : Nat) : (s.resumeHart h).cells = s.cells := by simp [State.resumeHart]
@[simp] theorem State.fire_cells (s : State) (h i : Nat) (a : Word) : (s.fire h i a).cells = s.cells := by simp [State.fire]

@[simp] theorem State.instr_cells (s : State) (h : Nat) (f : State → State) (hf : ∀ s, (f s).cells = s.cells) : (s.instr h f).cells = s.cells := by
  unfold State.instr
  split
  · split <;> simp [hf]
  · rfl

@[simp] theorem State.watched_cells (s : State) (h : Nat) (k : TrigKind) (va : Word) (n : Nat) (data : Option Nat) (f : State → State)
    (hf : ∀ s, (f s).cells = s.cells) :
    (s.watched h k va n data f).cells = s.cells := by
  unfold State.watched
  split <;> simp [hf]

@[simp] theorem State.logWorldDenied_cells (s : State) (h a : Nat) : (s.logWorldDenied h a).cells = s.cells := by simp [State.logWorldDenied]

/-! ### Machine/Cache.lean -/

@[simp] theorem State.queueWrite_cells (s : State) (l : Nat) (d : Line) (p : Poison) :
    (s.queueWrite l d p).cells = s.cells := by simp [State.queueWrite]

@[simp] theorem State.fillL3_cells (s : State) (n q l : Nat) (dirty : Bool) (d : Line) (p : Poison) : (s.fillL3 n q l dirty d p).cells = s.cells := by
  simp only [State.fillL3]
  (repeat' split) <;> simp

@[simp] theorem State.homeWrite_cells (s : State) (n q l : Nat) (alloc : Bool) (d : Line) (p : Poison) :
    (s.homeWrite n q l alloc d p).cells = s.cells := by
  simp only [State.homeWrite]
  (repeat' split) <;> simp

@[simp] theorem State.patchLine_cells (s : State) (l : Nat) (d : Line) (p : Poison) : (s.patchLine l d p).cells = s.cells := by simp [State.patchLine]

@[simp] theorem State.coherentWriteLine_cells (s : State) (l : Nat) (d : Line) (p : Poison) :
    (s.coherentWriteLine l d p).cells = s.cells := by simp [State.coherentWriteLine]

@[simp] theorem State.coherentWrite_cells (fuel : Nat) (s : State) (a : Nat) (bs : List Byte) :
    (State.coherentWrite fuel s a bs).cells = s.cells := by
  induction fuel generalizing s a bs with
  | zero => rfl
  | succ n ih => unfold State.coherentWrite; split <;> simp [ih]

@[simp] theorem State.writeBytes_cells (s : State) (a : Nat) (bs : List Byte) : (s.writeBytes a bs).cells = s.cells := by simp [State.writeBytes]

/-! ### Machine/Xlate.lean -/

@[simp] theorem State.startWalk_cells (s : State) (h : Nat) (va : Word) (k : AccKind) (spec : Bool) :
    (s.startWalk h va k spec).cells = s.cells := by simp [State.startWalk]

@[simp] theorem State.walkFault_cells (s : State) (h : Nat) (wk : Walk) (e : Exc) : (s.walkFault h wk e).cells = s.cells := by simp [State.walkFault]
@[simp] theorem State.logPtePoison_cells (s : State) (h a : Nat) : (s.logPtePoison h a).cells = s.cells := by simp [State.logPtePoison]

@[simp] theorem fenceOp_cells (s : State) (h : Nat) (k : FenceKind) (sel : Hart → TlbEnt → Bool) : (fenceOp s h k sel).cells = s.cells :=
  State.instr_cells _ _ _ fun s => by split <;> simp

/-! ### Machine/Coherence.lean -/

@[simp] theorem State.putHart_cells (s : State) (h : Nat) (x : Hart) : (s.putHart h x).cells = s.cells := by simp [State.putHart]

@[simp] theorem State.countStream_cells (s : State) (n : Option Nat) : (s.countStream n).cells = s.cells := by
  unfold State.countStream
  split <;> simp

@[simp] theorem State.countDemoted_cells (s : State) (n : Option Nat) : (s.countDemoted n).cells = s.cells := by
  unfold State.countDemoted
  split <;> simp

@[simp] theorem State.request_cells (s : State) (h : Nat) (opc : Opc) (st : MissSt) (dst l misc : Nat) (spec fetch : Bool) (data : Line)
    (ws : List Waiter) :
    (s.request h opc st dst l misc spec fetch data ws).cells = s.cells := by simp [State.request]

@[simp] theorem State.access_cells (s : State) (h : Nat) (f : State → State) (hf : ∀ s, (f s).cells = s.cells) :
    (s.access h f).cells = s.cells := by simp [State.access, hf]

@[simp] theorem State.consumePoison_cells (s : State) (h a : Nat) (k : AccKind) (va : Word) :
    (s.consumePoison h a k va).cells = s.cells := by simp [State.consumePoison]

@[simp] theorem State.perform_cells (s : State) (h : Nat) (w : Waiter) : (s.perform h w).cells = s.cells := by
  simp only [State.perform]
  (repeat' split) <;> simp

@[simp] theorem State.performAll_cells (s : State) (h l : Nat) (ws : List Waiter) : (s.performAll h l ws).cells = s.cells := by
  induction ws generalizing s with
  | nil => rfl
  | cons w rest ih => unfold State.performAll; (repeat' split) <;> simp [ih]

@[simp] theorem State.answerSnoop_cells (s : State) (m : CohMsg) : (s.answerSnoop m).cells = s.cells := by
  simp only [State.answerSnoop, State.sendCoh_cells]
  refine foldl_frame (fun r : State × _ => r.1.cells) _ _ _ fun r c => ?_
  simp

@[simp] theorem State.noteHeld_cells (s : State) (m : CohMsg) (k : Nat) : (s.noteHeld m k).cells = s.cells := by
  unfold State.noteHeld
  split <;> simp

@[simp] theorem snoopArrives_cells (s : State) (m : CohMsg) : (snoopArrives s m).cells = s.cells := by
  simp only [snoopArrives]
  (repeat' split) <;> simp

@[simp] theorem State.logFilter_cells (s : State) (u : Upset) (m : CohMsg) : (s.logFilter u m).cells = s.cells := by
  unfold State.logFilter
  (repeat' split) <;> simp

@[simp] theorem snoopFiltered_cells (u : Upset) (s : State) (m : CohMsg) : (snoopFiltered u s m).cells = s.cells := by simp [snoopFiltered]
@[simp] theorem State.releaseSnoops_cells (s : State) (h : Nat) : (s.releaseSnoops h).cells = s.cells := by simp [State.releaseSnoops]
@[simp] theorem holdWindowEnd_cells (s : State) (h l : Nat) : (holdWindowEnd s h l).cells = s.cells := by simp [holdWindowEnd]

@[simp] theorem lrSnoopDeferExpiry_cells (s : State) (h : Nat) : (lrSnoopDeferExpiry s h).cells = s.cells := by
  unfold lrSnoopDeferExpiry
  split <;> simp

@[simp] theorem State.logUnexpected_cells (s : State) (m : CohMsg) : (s.logUnexpected m).cells = s.cells := by simp [State.logUnexpected]

@[simp] theorem State.sendSnoops_cells (s : State) (n l : Nat) (opc : Opc) (targets : List (Nat × Nat)) (req : CohMsg) :
    (s.sendSnoops n l opc targets req).2.cells = s.cells :=
  foldl_frame (fun r : _ × State => r.2.cells) _ _ _ fun r d => by simp

@[simp] theorem State.sendAnswer_cells (s : State) (req m : CohMsg) : (s.sendAnswer req m).cells = s.cells := by simp [State.sendAnswer]

@[simp] theorem State.grantWith_cells (s : State) (n : Nat) (x : Txn) (d : Line × Poison) : (s.grantWith n x d).cells = s.cells := by
  simp only [State.grantWith]
  (repeat' split) <;> simp

@[simp] theorem State.advance_cells (fuel : Nat) (s : State) (n l : Nat) : (State.advance fuel s n l).cells = s.cells := by
  induction fuel generalizing s l with
  | zero => rfl
  | succ n ih => unfold State.advance; (repeat' split) <;> simp [ih]

@[simp] theorem State.kickReads_cells (s : State) (n : Nat) : (s.kickReads n).cells = s.cells := by simp [State.kickReads]

@[simp] theorem homeRequest_cells (s : State) (m : CohMsg) : (homeRequest s m).cells = s.cells := by
  simp only [homeRequest]
  (repeat' split) <;> simp

@[simp] theorem State.begin_cells (s : State) (n : Nat) (w : Waiting) (ent : Option DirEnt) (plan : Option (Opc × List (Nat × Nat)))
    (way : Option Nat) :
    (s.begin n w ent plan way).cells = s.cells := by
  unfold State.begin
  split <;> simp

@[simp] theorem State.recall_cells (s : State) (n l : Nat) (opc : Opc) (qid : Nat) (secure : Bool) (targets : List (Nat × Nat)) (wants : Option Nat) :
    (s.recall n l opc qid secure targets wants).cells = s.cells := by simp [State.recall]

@[simp] theorem State.recallPorts_cells (s : State) (l : Nat) (clean : Bool) (ds : List (Nat × Nat)) :
    (s.recallPorts l clean ds).cells = s.cells := by
  simp only [State.recallPorts]
  (repeat' split) <;> simp

@[simp] theorem State.beginEvicting_cells (s : State) (n : Nat) (w : Waiting) (k : Nat) (v : DirEnt) :
    (s.beginEvicting n w k v).cells = s.cells := by simp [State.beginEvicting]

@[simp] theorem transactionStart_cells (s : State) (n l : Nat) : (transactionStart s n l).cells = s.cells := by
  simp only [transactionStart]
  (repeat' split) <;> simp

@[simp] theorem State.recoverDir_cells (s : State) (n l : Nat) : (s.recoverDir n l).cells = s.cells := by
  unfold State.recoverDir
  split <;> simp

@[simp] theorem State.homeUpset_cells (s : State) (n l : Nat) (u : Upset) : (s.homeUpset n l u).1.cells = s.cells := by
  unfold State.homeUpset
  (repeat' split) <;> simp

@[simp] theorem State.takeResponse_cells (s : State) (n : Nat) (x : Txn) (o : SnoopOut) (kind : Opc) (have_ : Bool) (d : Option (Line × Poison)) :
    (s.takeResponse n x o kind have_ d).cells = s.cells := by
  unfold State.takeResponse
  split <;> simp

@[simp] theorem responseArrives_cells (s : State) (m : CohMsg) : (responseArrives s m).cells = s.cells := by
  simp only [responseArrives]
  (repeat' split) <;> simp

@[simp] theorem leavingArrives_cells (s : State) (m : CohMsg) : (leavingArrives s m).cells = s.cells := by
  simp only [leavingArrives]
  (repeat' split) <;> simp

@[simp] theorem cmpackArrives_cells (s : State) (m : CohMsg) : (cmpackArrives s m).cells = s.cells := by
  unfold cmpackArrives
  split <;> simp

@[simp] theorem State.sendAck_cells (s : State) (m : CohMsg) : (s.sendAck m).cells = s.cells := by simp [State.sendAck]

@[simp] theorem State.failWalk_cells (s : State) (h : Nat) : (s.failWalk h).cells = s.cells := by
  unfold State.failWalk
  split <;> simp

@[simp] theorem State.failWaiters_cells (s : State) (h : Nat) (ws : List Waiter) : (s.failWaiters h ws).cells = s.cells := by
  unfold State.failWaiters
  split <;> simp

@[simp] theorem State.useOnce_cells (s : State) (h : Nat) (m : CohMsg) (ms : Miss) : (s.useOnce h m ms).cells = s.cells := by
  unfold State.useOnce
  (repeat' split) <;> simp

@[simp] theorem State.startHold_cells (s : State) (h l : Nat) : (s.startHold h l).cells = s.cells := by simp [State.startHold]
@[simp] theorem State.returnGrant_cells (s : State) (m : CohMsg) : (s.returnGrant m).cells = s.cells := by simp [State.returnGrant]

@[simp] theorem datTaken_cells (s : State) (m : CohMsg) : (datTaken s m).cells = s.cells := by
  simp only [datTaken]
  (repeat' split) <;> simp

@[simp] theorem datArrives_cells (s : State) (m : CohMsg) : (datArrives s m).cells = s.cells := by simp [datArrives]

@[simp] theorem cmpArrives_cells (s : State) (m : CohMsg) : (cmpArrives s m).cells = s.cells := by
  unfold cmpArrives
  extract_lets t u _ h x v own
  have hu : u.cells = s.cells := (t.noteAt_cells ..).trans (s.takeCoh_cells m)
  have hv : v.cells = s.cells := (u.modHart_cells ..).trans hu
  clear_value v u
  split
  · simpa using hu
  · split
    · simpa using hu
    · split
      · simpa using hu
      · split
        · split <;> simpa using hu
        · extract_lets idx held owned acked noted holding
          have hacked : acked.cells = s.cells := by simp [acked, owned, held, hv]
          have hholding : holding.cells = s.cells := by simp [holding, noted, hacked]
          simp [hv, hholding]

@[simp] theorem State.dropOwner_cells (s : State) (n : Nat) (node : Nat) (core : Option Nat) :
    (s.dropOwner n node core).cells = s.cells := by simp [State.dropOwner]

@[simp] theorem State.dropSnoops_cells (s : State) (n node : Nat) (core : Option Nat) : (s.dropSnoops n node core).cells = s.cells := by
  refine foldl_cells _ _ _ fun s p => ?_
  split
  · rfl
  · split <;> simp

@[simp] theorem State.loseHolder_cells (s : State) (node : Nat) (core : Option Nat) :
    (s.loseHolder node core).cells = s.cells := by simp [State.loseHolder]

@[simp] theorem snoopTimeout_cells (s : State) (n l node core : Nat) : (snoopTimeout s n l node core).cells = s.cells := by
  unfold snoopTimeout
  (repeat' split) <;> simp

@[simp] theorem ackTimeout_cells (s : State) (n l : Nat) : (ackTimeout s n l).cells = s.cells := by
  unfold ackTimeout
  split <;> simp

/-! ### Machine/Walk.lean -/

@[simp] theorem State.missFor_cells (s : State) (h l : Nat) (opc : Opc) (st : MissSt) (spec fetch : Bool) (w : Waiter) :
    (s.missFor h l opc st spec fetch w).cells = s.cells := by simp [State.missFor]

@[simp] theorem State.walkMiss_cells (s : State) (h l : Nat) (own spec : Bool) : (s.walkMiss h l own spec).cells = s.cells := by simp [State.walkMiss]

@[simp] theorem State.walkFill_cells (s : State) (h : Nat) (wk : Walk) (k : AccKind) (v : Bool) (e : TlbEnt) :
    (s.walkFill h wk k v e).cells = s.cells := by
  simp only [State.walkFill]
  (repeat' split) <;> simp

@[simp] theorem pageWalk_cells (s : State) (h : Nat) : (pageWalk s h).cells = s.cells := by
  simp only [pageWalk]
  (repeat' split) <;> simp

theorem State.lockWaits_cells {s t : State} {h : Nat} {v : Word} (e : s.lockWaits h v = some t) : t.cells = s.cells := by
  unfold State.lockWaits at e
  split at e
  · cases e
    simp
  · obtain ⟨l, -, rfl⟩ := Option.map_eq_some_iff.mp e
    simp
  · cases e

@[simp] theorem tlbLock_cells (s : State) (h : Nat) (v : Word) : (tlbLock s h v).cells = s.cells := by
  unfold tlbLock
  split <;> simp

@[simp] theorem tlbUnlock_cells (s : State) (h : Nat) (v : Word) : (tlbUnlock s h v).cells = s.cells := by simp [tlbUnlock]
@[simp] theorem tlbQuery_cells (s : State) (h : Nat) (v : Word) : (tlbQuery s h v).cells = s.cells := by simp [tlbQuery]

@[simp] theorem lockCsr_cells (s : State) (h : Nat) (f : State → State) (hf : ∀ s, (f s).cells = s.cells) : (lockCsr s h f).cells = s.cells := by
  simp [lockCsr, hf]

@[simp] theorem State.logCsrReserved_cells (s : State) (h num : Nat) (v : Word) :
    (s.logCsrReserved h num v).cells = s.cells := by simp [State.logCsrReserved]

@[simp] theorem lockReserved_cells (s : State) (h : Nat) (v : Word) : (lockReserved s h v).cells = s.cells := by simp [lockReserved]

/-! ### Machine/Csr.lean -/

@[simp] theorem State.indirectWrite_cells (s : State) (h file sel : Nat) (v : Word) : (s.indirectWrite h file sel v).cells = s.cells := by
  unfold State.indirectWrite
  (repeat' split) <;> simp

@[simp] theorem State.writeWorld_cells (s : State) (h : Nat) (v : Word) : (s.writeWorld h v).cells = s.cells := by simp [State.writeWorld]
@[simp] theorem State.channelMissAs_cells (s : State) (h n flags : Nat) : (s.channelMissAs h n flags).cells = s.cells := by simp [State.channelMissAs]
@[simp] theorem State.channelMiss_cells (s : State) (h n : Nat) : (s.channelMiss h n).cells = s.cells := by simp [State.channelMiss]
@[simp] theorem State.armChannel_cells (s : State) (h n : Nat) (v : Word) : (s.armChannel h n v).cells = s.cells := by simp [State.armChannel]
@[simp] theorem State.noteSlack_cells (s : State) (h n : Nat) : (s.noteSlack h n).cells = s.cells := by simp [State.noteSlack]
@[simp] theorem State.writeDlctl_cells (s : State) (h : Nat) (v : Word) : (s.writeDlctl h v).cells = s.cells := by simp [State.writeDlctl]

@[simp] theorem State.writeLoopEnd_cells (s : State) (h level : Nat) (v : Word) :
    (s.writeLoopEnd h level v).cells = s.cells := by simp [State.writeLoopEnd]

@[simp] theorem writeTlbLock_cells (s : State) (h : Nat) (v : Word) : (writeTlbLock s h v).cells = s.cells := by
  unfold writeTlbLock
  split <;> simp

@[simp] theorem State.customWrite_cells (s : State) (h n : Nat) (v : Word) : (s.customWrite h n v).cells = s.cells := by
  unfold State.customWrite
  split <;> simp

@[simp] theorem State.claimTop_cells (s : State) (h n : Nat) : (s.claimTop h n).cells = s.cells := by
  unfold State.claimTop
  split <;> simp

@[simp] theorem State.csrWrite_cells (s : State) (h n0 : Nat) (v : Word) : (s.csrWrite h n0 v).cells = s.cells := by
  simp only [State.csrWrite]
  (repeat' split) <;> simp

@[simp] theorem State.csrValue_cells (s : State) (h n : Nat) : (s.csrValue h n).2.cells = s.cells := by simp [State.csrValue]

theorem State.csrWaits_cells {s t : State} {h n : Nat} {v : Word} (e : s.csrWaits h n v = some t) : t.cells = s.cells := by
  simp only [State.csrWaits] at e
  split at e
  · cases e
  · split at e
    · cases e
      rfl
    · split at e
      · exact State.lockWaits_cells e
      · cases e

theorem State.csrInstr_cells {s t : State} {h : Nat} {c : CsrOp} (e : s.csrInstr h c = .inr t) : t.cells = s.cells := by
  cases c <;> simp only [State.csrInstr] at e <;> split at e <;> cases e <;> simp

/-! ### Machine/Levels.lean -/

@[simp] theorem State.putCluster_cells (s : State) (c : Nat) (x : Cluster) : (s.putCluster c x).cells = s.cells := by simp [State.putCluster]
@[simp] theorem State.deriveLevels_cells (s : State) (boost : Bool) : (s.deriveLevels boost).cells = s.cells := by simp [State.deriveLevels]
@[simp] theorem State.dropP0_cells (s : State) : s.dropP0.cells = s.cells := by simp [State.dropP0]

/-! ### Machine/HartExec.lean -/

@[simp] theorem branchResolve_cells (s : State) (h : Nat) (b : Branch) : (branchResolve s h b).cells = s.cells := by simp [branchResolve]

@[simp] theorem State.confirmFetch_cells (s : State) (h : Nat) : (s.confirmFetch h).cells = s.cells := by
  simp only [State.confirmFetch]
  (repeat' split) <;> simp

theorem State.retireWaits_cells {s t : State} {h : Nat} {i : Retire} (e : s.retireWaits h i = some t) : t.cells = s.cells := by
  obtain ⟨w, -, hw⟩ := Option.bind_eq_some_iff.mp e
  exact State.csrWaits_cells hw

@[simp] theorem retireInstr_cells (s : State) (h : Nat) (i : Retire) : (retireInstr s h i).cells = s.cells := by
  simp only [retireInstr]
  split
  · simp
  · split
    · rfl
    · split
      · simp
      · split
        next t e => exact State.retireWaits_cells e
        next =>
          split
          · simp
          next t e =>
            split at e
            · simp [State.csrInstr_cells e]
            · cases e
              simp

@[simp] theorem retireUpset_cells (s : State) (h : Nat) (i : Retire) (u : Upset) : (retireUpset s h i u).cells = s.cells := by
  unfold retireUpset
  split <;> simp

@[simp] theorem loopSetup_cells (s : State) (h level endOff count : Nat) (range : Bool) : (loopSetup s h level endOff count range).cells = s.cells :=
  State.instr_cells _ _ _ fun s => by split <;> simp

@[simp] theorem csrRow_cells (s : State) (h n : Nat) (v : Word) : (csrRow s h n v).cells = s.cells := by
  refine State.instr_cells _ _ _ fun s => ?_
  split
  · simp
  · split
    next t e => exact State.csrWaits_cells e
    next => simp

@[simp] theorem deadlineMiss_cells (s : State) (h n : Nat) : (deadlineMiss s h n).cells = s.cells := by simp [deadlineMiss]
@[simp] theorem State.wakeCore_cells (s : State) (h : Nat) : (s.wakeCore h).cells = s.cells := by simp [State.wakeCore]

@[simp] theorem cStateEntryComplete_cells (s : State) (h : Nat) : (cStateEntryComplete s h).cells = s.cells := by
  simp only [cStateEntryComplete]
  (repeat' split) <;> simp

@[simp] theorem coreWake_cells (s : State) (h : Nat) (src : WakeSrc) : (coreWake s h src).cells = s.cells := by simp [coreWake]

/-! ### Machine/Mailbox.lean -/

@[simp] theorem State.slSend_cells (s : State) (p : Nat) (m : SlMsg) : (s.slSend p m).cells = s.cells := by simp [State.slSend]

@[simp] theorem State.pump_cells (fuel : Nat) (s : State) (h : Nat) : (State.pump fuel s h).cells = s.cells := by
  induction fuel generalizing s with
  | zero => rfl
  | succ n ih =>
    unfold State.pump
    split
    · rfl
    · simp [ih]

@[simp] theorem gMessageSend_cells (s : State) (n : Nat) : (gMessageSend s n).cells = s.cells := by
  simp only [gMessageSend]
  (repeat' split) <;> simp

@[simp] theorem State.undelivered_cells (s : State) (h dest : Nat) : (s.undelivered h dest).cells = s.cells := by simp [State.undelivered]
@[simp] theorem State.dropOut_cells (s : State) (h i : Nat) : (s.dropOut h i).cells = s.cells := by simp [State.dropOut]

@[simp] theorem mailboxAnswer_cells (s : State) (m : MailAns) : (mailboxAnswer s m).cells = s.cells := by
  simp only [mailboxAnswer]
  (repeat' split) <;> simp

@[simp] theorem mailboxResend_cells (s : State) (h dest : Nat) : (mailboxResend s h dest).cells = s.cells := by
  unfold mailboxResend
  split <;> simp

@[simp] theorem mailboxUTimeout_cells (s : State) (h dest : Nat) : (mailboxUTimeout s h dest).cells = s.cells := by
  unfold mailboxUTimeout
  split <;> simp

@[simp] theorem State.gLate_cells (s : State) (h : Nat) (e : InboxEnt) : (s.gLate h e).cells = s.cells := by simp [State.gLate]
@[simp] theorem State.inboxPut_cells (s : State) (h : Nat) (m : MailMsg) : (s.inboxPut h m).cells = s.cells := by simp [State.inboxPut]

@[simp] theorem State.answerMail_cells (s : State) (m : MailMsg) (dest : Nat) (a : Answer) :
    (s.answerMail m dest a).cells = s.cells := by simp [State.answerMail]

@[simp] theorem mailboxMessage_cells (s : State) (m : MailMsg) : (mailboxMessage s m).cells = s.cells := by
  unfold mailboxMessage
  split <;> simp

@[simp] theorem mailFlits_cells (s : State) (m : MailMsg) (u : Upset) : (mailFlits s m u).cells = s.cells := by simp [mailFlits]
@[simp] theorem State.mbSend_cells (s : State) (h rd : Nat) (buf : List Byte) : (s.mbSend h rd buf).cells = s.cells := by simp [State.mbSend]
@[simp] theorem State.pairFail_cells (s : State) (h : Nat) (y : Syndrome) : (s.pairFail h y).cells = s.cells := by simp [State.pairFail]

@[simp] theorem pairRequest_cells (s : State) (h : Nat) (odd : Bool) (r : PairCopy) : (pairRequest s h odd r).cells = s.cells := by
  simp only [pairRequest]
  (repeat' split) <;> simp

@[simp] theorem State.spend_cells (s : State) (h : Nat) : (s.spend h).cells = s.cells := by simp [State.spend]

@[simp] theorem State.released_cells (s : State) (h : Nat) (kind : PairKind) (va : Word) (pa size : Nat) (data : Option Nat) (busy : Bool)
    (f : State → State) (hf : ∀ s, (f s).cells = s.cells) :
    (s.released h kind va pa size data busy f).cells = s.cells := by
  unfold State.released
  split <;> simp [hf]

@[simp] theorem pairTimeout_cells (s : State) (h : Nat) : (pairTimeout s h).cells = s.cells := by simp [pairTimeout]

/-! ### Machine/Ctl.lean -/

@[simp] theorem State.logWrite_cells (s : State) (y : Syndrome) (who : Agent) (die block off : Nat) (v : Word) :
    (s.logWrite y who die block off v).cells = s.cells := by simp [State.logWrite]

@[simp] theorem State.whileActive_cells (s : State) (who : Agent) (die block off : Nat) (v : Word) :
    (s.whileActive who die block off v).cells = s.cells := by simp [State.whileActive]

@[simp] theorem State.reserved_cells (s : State) (who : Agent) (die block off : Nat) (v : Word) (own : Nat) :
    (s.reserved who die block off v own).cells = s.cells := by simp [State.reserved]

@[simp] theorem State.noteWorld_cells (s : State) (h a : Nat) : (s.noteWorld h a).cells = s.cells := by simp [State.noteWorld]

@[simp] theorem State.ctlFault_cells (s : State) (h : Nat) (write : Bool) (a : Nat) :
    (s.ctlFault h write a).cells = s.cells := by simp [State.ctlFault]

@[simp] theorem State.logUnmapped_cells (s : State) (node a q : Nat) : (s.logUnmapped node a q).cells = s.cells := by simp [State.logUnmapped]

@[simp] theorem State.refuse_cells (s : State) (who : Agent) (write : Bool) (a : Nat) : (s.refuse who write a).cells = s.cells := by
  unfold State.refuse
  split <;> simp

@[simp] theorem State.asAgent_cells (s : State) (who : Agent) (f : State → State) (hf : ∀ s, (f s).cells = s.cells) :
    (s.asAgent who f).cells = s.cells := by
  unfold State.asAgent
  split <;> simp [hf]

@[simp] theorem State.readReg_cells (s : State) (h rd a : Nat) (ok : State → Bool) (value : State → Word) (effect : State → State)
    (heffect : ∀ s, (effect s).cells = s.cells) :
    (s.readReg h rd a ok value effect).cells = s.cells :=
  State.access_cells _ _ _ fun s => by simp [heffect]

@[simp] theorem State.notifyQuire_cells (s : State) (q : Nat) : (s.notifyQuire q).cells = s.cells := by
  unfold State.notifyQuire
  split <;> simp

@[simp] theorem State.alert_cells (s : State) (i : Nat) : (s.alert i).cells = s.cells := by simp [State.alert]

@[simp] theorem State.partnerAct_cells (s : State) (kind n : Nat) : (s.partnerAct kind n).cells = s.cells := by
  unfold State.partnerAct
  split <;> simp

@[simp] theorem State.demote_cells (s : State) (n : Nat) : (s.demote n).cells = s.cells := by simp [State.demote]
@[simp] theorem State.demoteWhere_cells (s : State) (p : GStream → Bool) : (s.demoteWhere p).cells = s.cells := by simp [State.demoteWhere]

/-! ### Machine/Check.lean -/

@[simp] theorem State.logCheck_cells (s : State) (y : Syndrome) (u q : Nat) (sq : Option Nat) :
    (s.logCheck y u q sq).cells = s.cells := by simp [State.logCheck]

@[simp] theorem State.logOcu_cells (s : State) (y : Syndrome) (who : Agent) (u reg : Nat) (v : Word) :
    (s.logOcu y who u reg v).cells = s.cells := by simp [State.logOcu]

@[simp] theorem writeOcu_cells (s : State) (who : Agent) (u reg : Nat) (v : Word) : (writeOcu s who u reg v).cells = s.cells := by
  unfold writeOcu
  (repeat' split) <;> simp

@[simp] theorem writeCommit_cells (s : State) (who : Agent) (u : Nat) (v : Word) : (writeCommit s who u v).cells = s.cells := by simp [writeCommit]

/-! ### Machine/QeOps.lean -/

@[simp] theorem State.whenFree_cells (s : State) (rs : List (Bool × Nat × Nat)) (go : State → State) (hgo : ∀ s, (go s).cells = s.cells) :
    (s.whenFree rs go).cells = s.cells := by
  simp only [State.whenFree]
  split
  · rfl
  · split <;> simp [hgo]

@[simp] theorem State.noteEngine_cells (s : State) (node : Nat) : (s.noteEngine node).cells = s.cells := by
  unfold State.noteEngine
  split <;> simp

@[simp] theorem State.noteReads_cells (fuel : Nat) (s : State) (node a n : Nat) : (State.noteReads fuel s node a n).cells = s.cells := by
  induction fuel generalizing s a n with
  | zero => rfl
  | succ k ih => simp [State.noteReads, ih]

@[simp] theorem State.busRead_cells (s : State) (node a n : Nat) : (s.busRead node a n).2.2.cells = s.cells := by
  unfold State.busRead
  split <;> simp

@[simp] theorem State.putPiece_cells (s : State) (node a : Nat) (bs : List Byte) (poison : Poison) :
    (s.putPiece node a bs poison).1.cells = s.cells := by simp [State.putPiece]

@[simp] theorem State.putBytes_cells (fuel : Nat) (s : State) (node a : Nat) (bs : List Byte) (poison : Bool) (n : Nat) :
    (State.putBytes fuel s node a bs poison n).1.cells = s.cells := by
  induction fuel generalizing s a bs n with
  | zero => rfl
  | succ k ih => simp [State.putBytes, ih]

@[simp] theorem State.put_cells (s : State) (node a : Nat) (bs : List Byte) (poison : Bool) :
    (s.put node a bs poison).1.cells = s.cells := by simp [State.put]

@[simp] theorem State.logQe_cells (s : State) (y : Syndrome) (q : Nat) (v : Option Nat) (a : Option Nat) :
    (s.logQe y q v a).cells = s.cells := by simp [State.logQe]

@[simp] theorem State.queueError_cells (s : State) (q err : Nat) : (s.queueError q err).cells = s.cells := by simp [State.queueError]
@[simp] theorem State.loadCtx_cells (s : State) (q : Nat) : (s.loadCtx q).cells = s.cells := by simp [State.loadCtx]
@[simp] theorem State.cqMsi_cells (s : State) (q : Nat) : (s.cqMsi q).cells = s.cells := by simp [State.cqMsi]
@[simp] theorem State.sqDoorbell_cells (s : State) (q : Nat) (v : BitVec 32) : (s.sqDoorbell q v).cells = s.cells := by simp [State.sqDoorbell]
@[simp] theorem State.cqDoorbell_cells (s : State) (q : Nat) (v : BitVec 32) : (s.cqDoorbell q v).cells = s.cells := by simp [State.cqDoorbell]
@[simp] theorem State.doorbell_cells (s : State) (q : Nat) (v : BitVec 32) : (s.doorbell q v).cells = s.cells := by simp [State.doorbell]

@[simp] theorem State.doorbellStore_cells (s : State) (q off size : Nat) (v : Word) :
    (s.doorbellStore q off size v).cells = s.cells := by simp [State.doorbellStore]

@[simp] theorem State.modFlight_cells (s : State) (d : DescRef) (g : Flight → Flight) : (s.modFlight d g).cells = s.cells := by simp [State.modFlight]

@[simp] theorem State.finish_cells (s : State) (d : DescRef) (status len : Nat) (result : Nat) :
    (s.finish d status len result).cells = s.cells := by simp [State.finish]

@[simp] theorem State.laneRange_cells (s : State) (lane : Nat) (f : Flight) (k : AccKind) (a n : Nat) :
    (s.laneRange lane f k a n).1.cells = s.cells := by
  unfold State.laneRange
  split <;> simp

@[simp] theorem State.qeMiss_cells (s : State) (y : Syndrome) (lane : Nat) (f : Flight) :
    (s.qeMiss y lane f).cells = s.cells := by simp [State.qeMiss]

@[simp] theorem State.retireFlight_cells (s : State) (d : DescRef) : (s.retireFlight d).cells = s.cells := by simp [State.retireFlight]
@[simp] theorem State.cqDropped_cells (s : State) (cq q : Nat) : (s.cqDropped cq q).cells = s.cells := by simp [State.cqDropped]

@[simp] theorem State.postEntry_cells (s : State) (d : DescRef) (f : Flight) (cq : Nat) :
    (s.postEntry d f cq).cells = s.cells := by simp [State.postEntry]

@[simp] theorem State.complete_cells (s : State) (d : DescRef) (f : Flight) : (s.complete d f).cells = s.cells := by simp [State.complete]

@[simp] theorem descriptorComplete_cells (s : State) (d : DescRef) : (descriptorComplete s d).cells = s.cells := by
  unfold descriptorComplete
  split <;> simp

@[simp] theorem State.squash_cells (s : State) (p : Flight → Bool) : (s.squash p).cells = s.cells := by simp [State.squash]

/-! ### Machine/SysLink.lean -/

@[simp] theorem State.logSl_cells (s : State) (y : Syndrome) (p : Nat) : (s.logSl y p).cells = s.cells := by simp [State.logSl]
@[simp] theorem State.slServe_cells (s : State) (p : Nat) : (s.slServe p).cells = s.cells := by simp [State.slServe]
@[simp] theorem State.slAnswered_cells (s : State) (r : SlReq) (reason : Nat) : (s.slAnswered r reason).cells = s.cells := by simp [State.slAnswered]
@[simp] theorem State.slPeerGone_cells (s : State) (p : Nat) : (s.slPeerGone p).cells = s.cells := by simp [State.slPeerGone]
@[simp] theorem State.slDemote_cells (s : State) (p : Nat) : (s.slDemote p).cells = s.cells := by simp [State.slDemote]
@[simp] theorem State.logNoRoute_cells (s : State) (dest : Nat) : (s.logNoRoute dest).cells = s.cells := by simp [State.logNoRoute]

theorem State.slSendTo_cells (s : State) (m : SlMsg) : Sum.elim (fun t => t.cells = s.cells) (fun r => r.1.cells = s.cells) (s.slSendTo m) := by
  unfold State.slSendTo
  split <;> simp

@[simp] theorem State.slDataIn_cells (s : State) (r : SlReq) (m : SlMsg) : (s.slDataIn r m).cells = s.cells := by
  unfold State.slDataIn
  split <;> simp

@[simp] theorem State.slAnswerIn_cells (s : State) (m : SlMsg) : (s.slAnswerIn m).cells = s.cells := by
  unfold State.slAnswerIn
  split <;> simp

@[simp] theorem State.slAnswer_cells (s : State) (m : SlMsg) (status : Nat) (poison : Bool) (body : List Byte) :
    (s.slAnswer m status poison body).cells = s.cells := by
  simp only [State.slAnswer]
  split
  · simp
  · have hsent := s.slSendTo_cells { s.slNew (m.kind + 1) m.srcPkg m.tag m.secure body with status := status, poison := poison }
    split <;> simp_all

@[simp] theorem State.slForward_cells (s : State) (p : Nat) (m : SlMsg) : (s.slForward p m).cells = s.cells := by
  simp only [State.slForward]
  split
  · split <;> simp
  · have hsent := s.slSendTo_cells { m with hops := m.hops - 1 }
    split <;> simp_all

@[simp] theorem State.slTake_cells (s : State) (p : Nat) (m : SlMsg) : (s.slTake p m).cells = s.cells := by simp [State.slTake]

@[simp] theorem State.slHandle_cells (s : State) (p : Nat) (m : SlMsg) (f : State → State) (hf : ∀ s, (f s).cells = s.cells) :
    (s.slHandle p m f).cells = s.cells := by
  unfold State.slHandle
  (repeat' split) <;> simp [hf]

@[simp] theorem State.slDrop_cells (s : State) (p : Nat) (retrain : Bool) : (s.slDrop p retrain).cells = s.cells := by simp [State.slDrop]
@[simp] theorem State.slAccept_cells (s : State) (p : Nat) (f : SlFlit) : (s.slAccept p f).cells = s.cells := by simp [State.slAccept]
@[simp] theorem linkFlit_cells (s : State) (p : Nat) (f : SlFlit) : (linkFlit s p f).cells = s.cells := by simp [linkFlit]
@[simp] theorem replay_cells (s : State) (p : Nat) : (replay s p).cells = s.cells := by simp [replay]
@[simp] theorem slLinkUp_cells (s : State) (p width : Nat) (fullRate : Bool) : (slLinkUp s p width fullRate).cells = s.cells := by simp [slLinkUp]

@[simp] theorem linkInit_cells (s : State) (p : Nat) (m : SlMsg) : (linkInit s p m).cells = s.cells := by
  simp only [linkInit]
  (repeat' split) <;> simp

@[simp] theorem State.slLeave_cells (s : State) (p : Nat) (st : PeerSt) : (s.slLeave p st).cells = s.cells := by simp [State.slLeave]
@[simp] theorem rip_cells (s : State) (p : Nat) : (rip s p).cells = s.cells := by simp [rip]
@[simp] theorem peerHeartbeatTimeout_cells (s : State) (p : Nat) : (peerHeartbeatTimeout s p).cells = s.cells := by simp [peerHeartbeatTimeout]
@[simp] theorem peerResetTimeout_cells (s : State) (p : Nat) : (peerResetTimeout s p).cells = s.cells := by simp [peerResetTimeout]
@[simp] theorem heartbeatSend_cells (s : State) (p : Nat) : (heartbeatSend s p).cells = s.cells := by simp [heartbeatSend]
@[simp] theorem State.slFlushWaiting_cells (s : State) (p : Nat) : (s.slFlushWaiting p).cells = s.cells := by simp [State.slFlushWaiting]
@[simp] theorem heartbeat_cells (s : State) (p : Nat) (m : SlMsg) (t4 : Nat) : (heartbeat s p m t4).cells = s.cells := by simp [heartbeat]
@[simp] theorem gMsg_cells (s : State) (p : Nat) (m : SlMsg) : (gMsg s p m).cells = s.cells := by simp [gMsg]

@[simp] theorem State.remoteDenied_cells (s : State) (p : Nat) (m : SlMsg) (write : Bool) (len : Nat) :
    (s.remoteDenied p m write len).cells = s.cells := by
  simp only [State.remoteDenied]
  (repeat' split) <;> simp

@[simp] theorem slWriteIn_cells (s : State) (p : Nat) (m : SlMsg) : (slWriteIn s p m).cells = s.cells := by
  simp only [slWriteIn]
  (repeat' split) <;> simp

@[simp] theorem slReadIn_cells (s : State) (p : Nat) (m : SlMsg) : (slReadIn s p m).cells = s.cells := by
  simp only [slReadIn]
  (repeat' split) <;> simp

@[simp] theorem State.slSegment_cells (s : State) (m : SlMsg) (r : SlRecv) : (s.slSegment m r).cells = s.cells := by
  simp only [State.slSegment]
  (repeat' split) <;> simp

@[simp] theorem slSendIn_cells (s : State) (m : SlMsg) : (slSendIn s m).cells = s.cells := by
  simp only [slSendIn]
  (repeat' split) <;> simp

@[simp] theorem State.slLocal_cells (s : State) (p : Nat) (m : SlMsg) : (s.slLocal p m).cells = s.cells := by
  unfold State.slLocal
  split <;> simp

@[simp] theorem writeSlCtl_cells (s : State) (who : Agent) (p : Nat) (v : Word) : (writeSlCtl s who p v).cells = s.cells := by simp [writeSlCtl]
@[simp] theorem State.slWakeDeliver_cells (s : State) : s.slWakeDeliver.cells = s.cells := by simp [State.slWakeDeliver]

/-! ### Machine/Queue.lean -/

@[simp] theorem writeDoorbell_cells (s : State) (who : Agent) (q off size : Nat) (v : Word) : (writeDoorbell s who q off size v).cells = s.cells := by
  unfold writeDoorbell
  split <;> simp

@[simp] theorem State.ringFault_cells (s : State) (lane q a : Nat) : (s.ringFault lane q a).cells = s.cells := by simp [State.ringFault]
@[simp] theorem State.fetchFrom_cells (s : State) (lane q : Nat) : (s.fetchFrom lane q).cells = s.cells := by simp [State.fetchFrom]

@[simp] theorem descriptorFetch_cells (s : State) (lane : Nat) : (descriptorFetch s lane).cells = s.cells := by
  unfold descriptorFetch
  (repeat' split) <;> simp

@[simp] theorem State.rangesOk_cells (s : State) (lane : Nat) (f : Flight) : (s.rangesOk lane f).1.cells = s.cells := by
  simp only [State.rangesOk]
  (repeat' split) <;> simp

@[simp] theorem State.startChecked_cells (s : State) (d : DescRef) (f : Flight) : (s.startChecked d f).cells = s.cells := by simp [State.startChecked]
@[simp] theorem State.judge_cells (s : State) (d : DescRef) (f : Flight) : (s.judge d f).cells = s.cells := by simp [State.judge]

@[simp] theorem descriptorStart_cells (s : State) (d : DescRef) : (descriptorStart s d).cells = s.cells := by
  unfold descriptorStart
  split <;> simp

@[simp] theorem State.refuseOp_cells (s : State) (d : DescRef) (f : Flight) : (s.refuseOp d f).cells = s.cells := by
  simp only [State.refuseOp]
  (repeat' split) <;> simp

@[simp] theorem State.actOn_cells (s : State) (d : DescRef) (f : Flight) (go : State → Flight → State) (hgo : ∀ s a, (go s a).cells = s.cells) :
    (s.actOn d f go).cells = s.cells := by
  simp [State.actOn, hgo]

@[simp] theorem State.runOp_cells (s : State) (d : DescRef) (op : Nat) (go : State → Flight → State) (hgo : ∀ s a, (go s a).cells = s.cells) :
    (s.runOp d op go).cells = s.cells := by
  unfold State.runOp
  split
  · rfl
  · split
    · rfl
    · exact State.whenFree_cells _ _ _ fun s => by simp [hgo]

@[simp] theorem State.copyFrom_cells (fuel : Nat) (s : State) (node src dst n done : Nat) (poison : Bool) :
    (State.copyFrom fuel s node src dst n done poison).1.cells = s.cells := by
  induction fuel generalizing s src dst n done poison with
  | zero => rfl
  | succ k ih => simp [State.copyFrom, ih]

@[simp] theorem State.logVerdict_cells (s : State) (u q sq verdict gap : Nat) : (s.logVerdict u q sq verdict gap).cells = s.cells := by
  unfold State.logVerdict
  split <;> simp

@[simp] theorem State.tsnSend_cells (s : State) (d : DescRef) (f : Flight) : (s.tsnSend d f).cells = s.cells := by simp [State.tsnSend]

@[simp] theorem State.slBegin_cells (s : State) (d : DescRef) (dest : Nat) (f : Flight) (go : State → Option Nat → State)
    (hgo : ∀ s a, (go s a).cells = s.cells) :
    (s.slBegin d dest f go).cells = s.cells := by
  unfold State.slBegin
  (repeat' split) <;> simp [hgo]

@[simp] theorem State.slNote_cells (s : State) (p : Option Nat) (d : DescRef) (off len : Nat) :
    (s.slNote p d off len).1.cells = s.cells := by simp [State.slNote]

@[simp] theorem State.slEmit_cells (s : State) (p : Option Nat) (m : SlMsg) : (s.slEmit p m).cells = s.cells := by
  unfold State.slEmit
  split <;> simp

@[simp] theorem State.slIssue_cells (s : State) (p : Option Nat) (d : DescRef) (off len : Nat) (m : SlMsg) :
    (s.slIssue p d off len m).cells = s.cells := by simp [State.slIssue]

@[simp] theorem State.setKey_cells (s : State) (q h : Nat) (k : KeyHandle) : (s.setKey q h k).cells = s.cells := by simp [State.setKey]

@[simp] theorem State.newKey_cells (s : State) (f : Flight) (alg : Nat) (key : List Byte) :
    (s.newKey f alg key).cells = s.cells := by simp [State.newKey]

@[simp] theorem State.deliver_cells (s : State) (d : DescRef) (f : Flight) (bs : List Byte) (poison : Bool) (result : Nat) :
    (s.deliver d f bs poison result).cells = s.cells := by simp [State.deliver]

@[simp] theorem State.failLane_cells (s : State) (lane : Nat) : (s.failLane lane).cells = s.cells := by simp [State.failLane]

@[simp] theorem State.putFlight_cells (s : State) (failed lane : Nat) (f g : Flight) :
    (s.putFlight failed lane f g).cells = s.cells := by simp [State.putFlight]

@[simp] theorem State.rehome_cells (s : State) (failed : Nat) (f : Flight) : (s.rehome failed f).cells = s.cells := by
  unfold State.rehome
  (repeat' split) <;> simp

@[simp] theorem laneDrained_cells (s : State) (lane : Nat) : (laneDrained s lane).cells = s.cells := by simp [laneDrained]

@[simp] theorem checkUnitFault_cells (s : State) (u : Nat) : (checkUnitFault s u).cells = s.cells := by
  simp only [checkUnitFault]
  (repeat' split) <;> simp

@[simp] theorem State.viResult_cells (s : State) (v q result : Nat) : (s.viResult v q result).cells = s.cells := by simp [State.viResult]
@[simp] theorem State.viEnable_cells (s : State) (v q : Nat) : (s.viEnable v q).cells = s.cells := by simp [State.viEnable]
@[simp] theorem State.viDisable_cells (s : State) (v q : Nat) : (s.viDisable v q).cells = s.cells := by simp [State.viDisable]
@[simp] theorem State.viRead_cells (s : State) (v q : Nat) : (s.viRead v q).cells = s.cells := by simp [State.viRead]

@[simp] theorem writeQcmd_cells (s : State) (who : Agent) (vi : Nat) (v : Word) : (writeQcmd s who vi v).cells = s.cells := by
  simp only [writeQcmd]
  (repeat' split) <;> simp

@[simp] theorem queueDisableDone_cells (s : State) (q : Nat) : (queueDisableDone s q).cells = s.cells := by simp [queueDisableDone]

@[simp] theorem writeViReset_cells (s : State) (who : Agent) (vi : Nat) (v : Word) : (writeViReset s who vi v).cells = s.cells := by
  unfold writeViReset
  (repeat' split) <;> simp

@[simp] theorem viDrainExpired_cells (s : State) (vi : Nat) : (viDrainExpired s vi).cells = s.cells := by simp [viDrainExpired]
@[simp] theorem State.viResetEnd_cells (s : State) (vi : Nat) : (s.viResetEnd vi).cells = s.cells := by simp [State.viResetEnd]
@[simp] theorem viResetDone_cells (s : State) (vi : Nat) : (viResetDone s vi).cells = s.cells := by simp [viResetDone]

@[simp] theorem writeViStage_cells (s : State) (who : Agent) (v reg : Nat) (x : Word) :
    (writeViStage s who v reg x).cells = s.cells := by simp [writeViStage]

/-! ### Machine/Ports.lean -/

@[simp] theorem State.logPcie_cells (s : State) (y : Syndrome) (group r q : Nat) : (s.logPcie y group r q).cells = s.cells := by simp [State.logPcie]

@[simp] theorem writePcfgAddr_cells (s : State) (who : Agent) (q : Nat) (v : Word) :
    (writePcfgAddr s who q v).cells = s.cells := by simp [writePcfgAddr]

@[simp] theorem State.pcfgNote_cells (s : State) (q : Nat) : (s.pcfgNote q).cells = s.cells := by simp [State.pcfgNote]

@[simp] theorem State.cfgWrite_cells (s : State) (q group bdf off : Nat) (v : BitVec 32) :
    (s.cfgWrite q group bdf off v).cells = s.cells := by simp [State.cfgWrite]

@[simp] theorem writePcfgData_cells (s : State) (who : Agent) (q : Nat) (v : Word) :
    (writePcfgData s who q v).cells = s.cells := by simp [writePcfgData]

@[simp] theorem hotPlugArrival_cells (s : State) (group bdf : Nat) : (hotPlugArrival s group bdf).cells = s.cells := by simp [hotPlugArrival]

@[simp] theorem State.failRequestsTo_cells (s : State) (node status : Nat) :
    (s.failRequestsTo node status).cells = s.cells := by simp [State.failRequestsTo]

@[simp] theorem pcieLinkDown_cells (s : State) (group port : Nat) : (pcieLinkDown s group port).cells = s.cells := by simp [pcieLinkDown]
@[simp] theorem State.dmaRefused_cells (s : State) (group addr : Nat) : (s.dmaRefused group addr).cells = s.cells := by simp [State.dmaRefused]

@[simp] theorem State.dmaDoorbell_cells (s : State) (group bdf addr : Nat) (data : List Byte) :
    (s.dmaDoorbell group bdf addr data).cells = s.cells := by simp [State.dmaDoorbell]

@[simp] theorem dmaRequest_cells (s : State) (group bdf : Nat) (write : Bool) (addr len : Nat) (data : List Byte) :
    (dmaRequest s group bdf write addr len data).cells = s.cells := by
  simp only [dmaRequest]
  (repeat' split) <;> simp

@[simp] theorem deviceMsi_cells (s : State) (group bdf : Nat) (m : MsiMsg) : (deviceMsi s group bdf m).cells = s.cells := by simp [deviceMsi]

@[simp] theorem State.reservedTsn_cells (s : State) (who : Agent) (c off : Nat) (v : Word) (own : Nat) :
    (s.reservedTsn who c off v own).cells = s.cells := by simp [State.reservedTsn]

@[simp] theorem tsnLinkDown_cells (s : State) (port : Nat) : (tsnLinkDown s port).cells = s.cells := by simp [tsnLinkDown]
@[simp] theorem writeTsn_cells (s : State) (who : Agent) (c off : Nat) (v : Word) : (writeTsn s who c off v).cells = s.cells := by simp [writeTsn]

@[simp] theorem State.tsnDeliver_cells (s : State) (d : DescRef) (f : Flight) (frame : List Byte) :
    (s.tsnDeliver d f frame).cells = s.cells := by simp [State.tsnDeliver]

@[simp] theorem tsnFrameReceived_cells (s : State) (port filter : Nat) (frame : List Byte) :
    (tsnFrameReceived s port filter frame).cells = s.cells := by
  simp only [tsnFrameReceived]
  (repeat' split) <;> simp

@[simp] theorem tsnStreamLost_cells (s : State) (port filter : Nat) : (tsnStreamLost s port filter).cells = s.cells := by simp [tsnStreamLost]
@[simp] theorem State.tsnGatesChanged_cells (s : State) (port : Nat) : (s.tsnGatesChanged port).cells = s.cells := by simp [State.tsnGatesChanged]
@[simp] theorem gclIntervalEnd_cells (s : State) (port : Nat) : (gclIntervalEnd s port).cells = s.cells := by simp [gclIntervalEnd]

@[simp] theorem launchTimeReached_cells (s : State) (d : DescRef) : (launchTimeReached s d).cells = s.cells := by
  unfold launchTimeReached
  split <;> simp

/-! ### Machine/Fences.lean -/

@[simp] theorem State.resetCore_cells (s : State) (h : Nat) : (s.resetCore h).cells = s.cells := by simp [State.resetCore]
@[simp] theorem State.completeFence_cells (s : State) (u : UnitId) : (s.completeFence u).cells = s.cells := by simp [State.completeFence]
@[simp] theorem State.liftFence_cells (s : State) (u : UnitId) : (s.liftFence u).cells = s.cells := by simp [State.liftFence]
@[simp] theorem State.writeBackNow_cells (s : State) (h : Nat) (w : Wb) : (s.writeBackNow h w).cells = s.cells := by simp [State.writeBackNow]

@[simp] theorem State.flushDirty_cells (s : State) (h : Nat) (readable : Bool) : (s.flushDirty h readable).cells = s.cells :=
  foldl_cells _ _ _ fun s l => by split <;> simp

@[simp] theorem State.stopCore_cells (s : State) (h : Nat) (readable : Bool) : (s.stopCore h readable).cells = s.cells := by simp [State.stopCore]
@[simp] theorem State.logCoreLost_cells (s : State) (h : Nat) : (s.logCoreLost h).cells = s.cells := by simp [State.logCoreLost]
@[simp] theorem coreFence_cells (s : State) (h0 : Nat) (readable : Bool) : (coreFence s h0 readable).cells = s.cells := by simp [coreFence]

@[simp] theorem cdRegionFence_cells (s : State) (cd : Nat) (reachable : Bool) :
    (cdRegionFence s cd reachable).cells = s.cells := by simp [cdRegionFence]

@[simp] theorem State.poisonDirty_cells (s : State) (n : Nat) : (s.poisonDirty n).cells = s.cells := by simp [State.poisonDirty]
@[simp] theorem State.askPorts_cells (s : State) (n : Nat) (p : Nat → Bool) : (s.askPorts n p).cells = s.cells := by simp [State.askPorts]
@[simp] theorem State.moveSlice_cells (s : State) (n : Nat) (home : Option Nat) : (s.moveSlice n home).cells = s.cells := by simp [State.moveSlice]

@[simp] theorem bdRegionFence_cells (s : State) (bd : Nat) (readable : Bool) :
    (bdRegionFence s bd readable).cells = s.cells := by simp [bdRegionFence]

@[simp] theorem l3SliceFence_cells (s : State) (n : Nat) (readable : Bool) : (l3SliceFence s n readable).cells = s.cells := by
  unfold l3SliceFence
  (repeat' split) <;> simp

@[simp] theorem State.recallFrom_cells (s : State) (h : Nat) (p : Nat → Bool) : (s.recallFrom h p).cells = s.cells := by
  simp only [State.recallFrom, State.setHart_cells]
  refine (foldl_cells _ _ _ fun s l => ?_).trans (foldl_cells _ _ _ fun s w => by simp)
  split <;> simp

@[simp] theorem State.recallSet_cells (s : State) (p : Nat → Bool) : (s.recallSet p).cells = s.cells := by simp [State.recallSet]
@[simp] theorem State.resume_cells (s : State) (ms : List CohMsg) : (s.resume ms).cells = s.cells := by simp [State.resume]
@[simp] theorem dirRebuild_cells (s : State) (n : Nat) : (dirRebuild s n).cells = s.cells := by simp [dirRebuild]
@[simp] theorem State.returnSlice_cells (s : State) (n : Nat) : (s.returnSlice n).cells = s.cells := by simp [State.returnSlice]

@[simp] theorem fenceEscalated_cells (s : State) (u : UnitId) : (fenceEscalated s u).cells = s.cells := by
  unfold fenceEscalated
  (repeat' split) <;> simp

@[simp] theorem State.fenceForReset_cells (s : State) (u : UnitId) : (s.fenceForReset u).cells = s.cells := by simp [State.fenceForReset]
@[simp] theorem State.dropCopies_cells (s : State) (u : UnitId) : (s.dropCopies u).cells = s.cells := by simp [State.dropCopies]
@[simp] theorem State.partnerDown_cells (s : State) (site : Nat) : (s.partnerDown site).cells = s.cells := by simp [State.partnerDown]

@[simp] theorem State.partnerReject_cells (s : State) (site reason : Nat) :
    (s.partnerReject site reason).cells = s.cells := by simp [State.partnerReject]

@[simp] theorem State.failRequestsToDie_cells (s : State) (die status : Nat) :
    (s.failRequestsToDie die status).cells = s.cells := by simp [State.failRequestsToDie]

@[simp] theorem partnerLost_cells (s : State) (site : Nat) : (partnerLost s site).cells = s.cells := by simp [partnerLost]

@[simp] theorem State.partnerPortReset_cells (s : State) (site : Nat) : (s.partnerPortReset site).cells = s.cells := by
  unfold State.partnerPortReset
  split <;> simp

@[simp] theorem State.resetXl_cells (s : State) (x : Nat) : (s.resetXl x).cells = s.cells := by simp [State.resetXl]

@[simp] theorem writeEcReset_cells (s : State) (h : Nat) (view : EcView) (v : Word) : (writeEcReset s h view v).cells = s.cells := by
  unfold writeEcReset
  (repeat' split) <;> simp

@[simp] theorem State.notifyHolder_cells (s : State) (u : UnitId) : (s.notifyHolder u).cells = s.cells := by
  unfold State.notifyHolder
  split <;> simp

@[simp] theorem blockLost_cells (s : State) (u : UnitId) : (blockLost s u).cells = s.cells := by simp [blockLost]
@[simp] theorem State.wipe_cells (s : State) (u : UnitId) : (s.wipe u).cells = s.cells := by simp [State.wipe]
@[simp] theorem secureWipe_cells (s : State) (u : UnitId) (zeros : Bool) : (secureWipe s u zeros).cells = s.cells := by simp [secureWipe]

/-! ### Machine/Counters.lean -/

@[simp] theorem State.cntValue_cells (s : State) (core n : Nat) : (s.cntValue core n).2.cells = s.cells := by simp [State.cntValue]
@[simp] theorem State.cntStamped_cells (s : State) (core : Nat) : (s.cntStamped core).cells = s.cells := by simp [State.cntStamped]
@[simp] theorem cntRead_cells (s : State) (h core n rd : Nat) : (cntRead s h core n rd).cells = s.cells := by simp [cntRead]
@[simp] theorem counterWrap_cells (s : State) (h n : Nat) : (counterWrap s h n).cells = s.cells := by simp [counterWrap]

@[simp] theorem writeCnt_cells (s : State) (who : Agent) (core off : Nat) (v : Word) : (writeCnt s who core off v).cells = s.cells := by
  unfold writeCnt
  (repeat' split) <;> simp

/-! ### Machine/EcCtl.lean -/

@[simp] theorem State.ecReserved_cells (s : State) (h : Nat) (view : EcView) (reg : Nat) (v : Word) (own : Nat) :
    (s.ecReserved h view reg v own).cells = s.cells := by simp [State.ecReserved]

@[simp] theorem writeEcSel_cells (s : State) (h : Nat) (view : EcView) (v : Word) : (writeEcSel s h view v).cells = s.cells := by simp [writeEcSel]
@[simp] theorem writeEcCtl_cells (s : State) (h : Nat) (view : EcView) (v : Word) : (writeEcCtl s h view v).cells = s.cells := by simp [writeEcCtl]

@[simp] theorem writeEcIrq_cells (s : State) (h : Nat) (view : EcView) (v : Word) : (writeEcIrq s h view v).cells = s.cells := by
  unfold writeEcIrq
  (repeat' split) <;> simp

@[simp] theorem State.ecStatRead_cells (s : State) (view : EcView) : (s.ecStatRead view).cells = s.cells := by simp [State.ecStatRead]

@[simp] theorem writeEc_cells (s : State) (h : Nat) (view : EcView) (reg : Nat) (v : Word) :
    (writeEc s h view reg v).cells = s.cells := by simp [writeEc]

@[simp] theorem State.imsicStore_cells (s : State) (h addr size : Nat) (v : Word) (tval : Word) :
    (s.imsicStore h addr size v tval).cells = s.cells := by
  unfold State.imsicStore
  split <;> simp

@[simp] theorem msiArrives_cells (s : State) (m : MsiMsg) : (msiArrives s m).cells = s.cells := by simp [msiArrives]

/-! ### Machine/Fabric.lean -/

@[simp] theorem State.dateRemaps_cells (s : State) (xs : List Nat) (b : Nat) : (s.dateRemaps xs b).cells = s.cells := by simp [State.dateRemaps]
@[simp] theorem replan_cells (s : State) (changed : List Nat) : (replan s changed).cells = s.cells := by simp [replan]
@[simp] theorem State.moveRemaps_cells (s : State) (old b : Nat) : (s.moveRemaps old b).cells = s.cells := by simp [State.moveRemaps]

@[simp] theorem sourceHold_cells (s : State) : (sourceHold s).cells = s.cells := by
  unfold sourceHold
  split <;> simp

@[simp] theorem State.dropStreamMessages_cells (s : State) (ns : List Nat) :
    (s.dropStreamMessages ns).cells = s.cells := by simp [State.dropStreamMessages]

@[simp] theorem State.activate_cells (s : State) (n bound : Nat) : (s.activate n bound).cells = s.cells := by simp [State.activate]
@[simp] theorem State.demotePartners_cells (s : State) : s.demotePartners.cells = s.cells := by simp [State.demotePartners]

@[simp] theorem slotTableSwitch_cells (s : State) : (slotTableSwitch s).cells = s.cells := by
  unfold slotTableSwitch
  split <;> simp

@[simp] theorem State.restorePartner_cells (s : State) (site : Nat) : (s.restorePartner site).cells = s.cells :=
  foldl_cells _ _ _ fun s e => by split <;> simp

@[simp] theorem State.clearGOff_cells (s : State) : s.clearGOff.cells = s.cells := by simp [State.clearGOff]
@[simp] theorem State.applyTables_cells (s : State) (b : Binding) : (s.applyTables b).cells = s.cells := by simp [State.applyTables]
@[simp] theorem State.admitHeld_cells (s : State) (g : GStream) : (s.admitHeld g).cells = s.cells := by simp [State.admitHeld]
@[simp] theorem State.planDelta_cells (s : State) (b : Binding) : (s.planDelta b).cells = s.cells := by simp [State.planDelta]
@[simp] theorem writeStatCtl_cells (s : State) (who : Agent) (i : Nat) (v : Word) : (writeStatCtl s who i v).cells = s.cells := by simp [writeStatCtl]
@[simp] theorem writeFmShare_cells (s : State) (who : Agent) (v : Word) : (writeFmShare s who v).cells = s.cells := by simp [writeFmShare]
@[simp] theorem writeFm_cells (s : State) (who : Agent) (off : Nat) (v : Word) : (writeFm s who off v).cells = s.cells := by simp [writeFm]

/-! ### Machine/Flash.lean -/

@[simp] theorem State.ffLog_cells (s : State) (kind detail body : Nat) : (s.ffLog kind detail body).cells = s.cells := by simp [State.ffLog]

/-! ### Machine/Links.lean -/

@[simp] theorem State.markBad_cells (s : State) (x : Nat) (inward : Bool) (lanes : List Nat) :
    (s.markBad x inward lanes).cells = s.cells := by simp [State.markBad]

@[simp] theorem State.copyMap_cells (s : State) (x : Nat) : (s.copyMap x).cells = s.cells := by simp [State.copyMap]
@[simp] theorem repairMapSave_cells (s : State) : (repairMapSave s).cells = s.cells := by simp [repairMapSave]

@[simp] theorem State.loadRepairMap_cells (s : State) : s.loadRepairMap.cells = s.cells := by
  unfold State.loadRepairMap
  split <;> simp

@[simp] theorem State.failCrossing_cells (s : State) (x : Nat) : (s.failCrossing x).cells = s.cells := by
  unfold State.failCrossing
  split <;> simp

@[simp] theorem State.logSpares_cells (s : State) (x : Nat) (inward : Bool) (lanes : List Nat) :
    (s.logSpares x inward lanes).cells = s.cells := by simp [State.logSpares]

@[simp] theorem State.logWidth_cells (s : State) (x : Nat) (inward : Bool) (old new : Width) (sel : Nat) :
    (s.logWidth x inward old new sel).cells = s.cells := by simp [State.logWidth]

@[simp] theorem State.logRepairs_cells (s : State) (x : Nat) (inward : Bool) : (s.logRepairs x inward).cells = s.cells := by
  simp only [State.logRepairs]
  (repeat' split) <;> simp

@[simp] theorem State.trainFailed_cells (s : State) (x : Nat) : (s.trainFailed x).cells = s.cells := by simp [State.trainFailed]
@[simp] theorem State.endTraining_cells (s : State) : s.endTraining.cells = s.cells := by simp [State.endTraining]

@[simp] theorem State.trainCrossing_cells (s : State) (x : Nat) (r : TrainResult) : (s.trainCrossing x r).cells = s.cells := by
  simp only [State.trainCrossing]
  (repeat' split) <;> simp

@[simp] theorem crossingTraining_cells (s : State) (x : Nat) (r : TrainResult) :
    (crossingTraining s x r).cells = s.cells := by simp [crossingTraining]

@[simp] theorem crossingMark_cells (s : State) : (crossingMark s).cells = s.cells := by
  unfold crossingMark
  split
  · exact foldl_cells _ _ _ fun s x => rfl
  · rfl

@[simp] theorem State.markDeviates_cells (s : State) (x : Nat) (d : Int) : (s.markDeviates x d).cells = s.cells := by simp [State.markDeviates]

@[simp] theorem markArrival_cells (s : State) (x : Nat) (inward : Bool) (slot : Nat) : (markArrival s x inward slot).cells = s.cells := by
  unfold markArrival
  split <;> simp

@[simp] theorem markerReport_cells (s : State) (x : Nat) (inward : Bool) (crc : BitVec 32) : (markerReport s x inward crc).cells = s.cells := by
  unfold markerReport
  split <;> simp

@[simp] theorem laneFailing_cells (s : State) (x : Nat) (inward : Bool) (lane : Nat) : (laneFailing s x inward lane).cells = s.cells := by
  simp only [laneFailing]
  (repeat' split) <;> simp

@[simp] theorem State.applyRemap_cells (s : State) (x : Nat) (r : Remap) : (s.applyRemap x r).cells = s.cells := by simp [State.applyRemap]
@[simp] theorem crossingRemap_cells (s : State) (x : Nat) : (crossingRemap s x).cells = s.cells := by simp [crossingRemap]
@[simp] theorem State.partnerLinkUp_cells (s : State) (site : Nat) : (s.partnerLinkUp site).cells = s.cells := by simp [State.partnerLinkUp]

@[simp] theorem partnerCertificate_cells (s : State) (site : Nat) (c : List Byte) :
    (partnerCertificate s site c).cells = s.cells := by simp [partnerCertificate]

@[simp] theorem State.partnerTrainFail_cells (s : State) (x : Nat) : (s.partnerTrainFail x).cells = s.cells := by simp [State.partnerTrainFail]
@[simp] theorem partnerTrained_cells (s : State) (site : Nat) (info : Word) : (partnerTrained s site info).cells = s.cells := by simp [partnerTrained]
@[simp] theorem partnerRetry_cells (s : State) (site : Nat) : (partnerRetry s site).cells = s.cells := by simp [partnerRetry]

/-! ### Machine/MemCtl.lean -/

@[simp] theorem State.retirePage_cells (s : State) (a : Nat) (threshold : Bool) :
    (s.retirePage a threshold).cells = s.cells := by simp [State.retirePage]

@[simp] theorem State.memCorrected_cells (s : State) (a : Nat) : (s.memCorrected a).cells = s.cells := by simp [State.memCorrected]
@[simp] theorem State.memUncorrected_cells (s : State) (a : Nat) : (s.memUncorrected a).cells = s.cells := by simp [State.memUncorrected]

@[simp] theorem State.memServe_cells (s : State) (l : Nat) (e : Ecc) : (s.memServe l e).1.cells = s.cells := by
  simp only [State.memServe]
  (repeat' split) <;> simp

@[simp] theorem memoryRead_cells (s : State) (l : Nat) (e : Ecc) : (memoryRead s l e).cells = s.cells := by
  simp only [memoryRead]
  (repeat' split) <;> simp

@[simp] theorem scrub_cells (s : State) (l : Nat) (e : Ecc) : (scrub s l e).cells = s.cells := by
  unfold scrub
  split <;> simp

@[simp] theorem refresh_cells (s : State) (k bank : Nat) : (refresh s k bank).cells = s.cells := by simp [refresh]
@[simp] theorem State.dropPc_cells (s : State) (pc : Nat) : (s.dropPc pc).cells = s.cells := by simp [State.dropPc]
@[simp] theorem State.failPc_cells (s : State) (pc : Nat) : (s.failPc pc).cells = s.cells := by simp [State.failPc]
@[simp] theorem State.dropCh_cells (s : State) (ch : Nat) : (s.dropCh ch).cells = s.cells := by simp [State.dropCh]
@[simp] theorem State.failCh_cells (s : State) (ch : Nat) : (s.failCh ch).cells = s.cells := by simp [State.failCh]
@[simp] theorem State.loseCxl_cells (s : State) (g : Nat) : (s.loseCxl g).cells = s.cells := by simp [State.loseCxl]
@[simp] theorem memoryTraining_cells (s : State) (r : MemTrainResult) : (memoryTraining s r).cells = s.cells := by simp [memoryTraining]
@[simp] theorem retiredListSave_cells (s : State) : (retiredListSave s).cells = s.cells := by simp [retiredListSave]

@[simp] theorem State.loadRetired_cells (s : State) : s.loadRetired.cells = s.cells := by
  unfold State.loadRetired
  split <;> simp

@[simp] theorem writeMc_cells (s : State) (who : Agent) (die block k off : Nat) (v : Word) :
    (writeMc s who die block k off v).cells = s.cells := by simp [writeMc]

/-! ### Machine/Time.lean -/

@[simp] theorem frameBoundary_cells (s : State) : (frameBoundary s).cells = s.cells := by simp [frameBoundary]
@[simp] theorem writePtStep_cells (s : State) (who : Agent) (v : Word) : (writePtStep s who v).cells = s.cells := by simp [writePtStep]
@[simp] theorem writePtSlew_cells (s : State) (who : Agent) (v : Word) : (writePtSlew s who v).cells = s.cells := by simp [writePtSlew]
@[simp] theorem writePtStat_cells (s : State) (who : Agent) (v : Word) : (writePtStat s who v).cells = s.cells := by simp [writePtStat]
@[simp] theorem State.correctDie_cells (s : State) (d : Nat) : (s.correctDie d).cells = s.cells := by simp [State.correctDie]
@[simp] theorem timeBroadcast_cells (s : State) : (timeBroadcast s).cells = s.cells := by simp [timeBroadcast]

/-! ### Machine/Startup.lean -/

@[simp] theorem State.resetDomains_cells (s : State) : s.resetDomains.cells = s.cells := by simp [State.resetDomains]
@[simp] theorem State.stopHarts_cells (s : State) : s.stopHarts.cells = s.cells := by simp [State.stopHarts]

@[simp] theorem State.copyFatal_cells (s : State) : s.copyFatal.cells = s.cells := by
  unfold State.copyFatal
  split <;> simp

@[simp] theorem State.startWarm_cells (s : State) (cause : ResetCause) : (s.startWarm cause).cells = s.cells := by simp [State.startWarm]

@[simp] theorem State.resetFalls_cells (s : State) : s.resetFalls.cells = s.cells := by
  simp only [State.resetFalls]
  (repeat' split) <;> simp

@[simp] theorem warmReset_cells (s : State) (cause : ResetCause) : (warmReset s cause).cells = s.cells := by
  unfold warmReset
  (repeat' split) <;> simp

@[simp] theorem stbyPwrgoodRise_cells (s : State) : (stbyPwrgoodRise s).cells = s.cells := by simp [stbyPwrgoodRise]

@[simp] theorem resetNRise_cells (s : State) (straps : BitVec 16) : (resetNRise s straps).cells = s.cells := by
  unfold resetNRise
  split <;> simp

@[simp] theorem pllLocked_cells (s : State) : (pllLocked s).cells = s.cells := by simp [pllLocked]

@[simp] theorem State.fatalSlot_cells (s : State) : s.fatalSlot.cells = s.cells := by
  unfold State.fatalSlot
  split <;> simp

@[simp] theorem claspBoot_cells (s : State) : (claspBoot s).cells = s.cells := by simp [claspBoot]
@[simp] theorem refclkRestored_cells (s : State) : (refclkRestored s).cells = s.cells := by simp [refclkRestored]

/-! ### Machine/Persist.lean -/

@[simp] theorem State.pkWoken_cells (s : State) (src : PkSrc) : (s.pkWoken src).cells = s.cells := by simp [State.pkWoken]
@[simp] theorem State.writeBackL3_cells (s : State) : s.writeBackL3.cells = s.cells := by simp [State.writeBackL3]

/-! ### Machine/BindVerify.lean -/

@[simp] theorem State.logClasp_cells (s : State) (y : Syndrome) : (s.logClasp y).cells = s.cells := by simp [State.logClasp]
@[simp] theorem State.logClaspFor_cells (s : State) (q : Nat) (y : Syndrome) : (s.logClaspFor q y).cells = s.cells := by simp [State.logClaspFor]

/-! ### Machine/CacheCtl.lean -/

@[simp] theorem writeCacheCtl_cells (s : State) (who : Agent) (core : Nat) (v : Word) :
    (writeCacheCtl s who core v).cells = s.cells := by simp [writeCacheCtl]

@[simp] theorem writeWaycfg_cells (s : State) (who : Agent) (core : Nat) (v : Word) :
    (writeWaycfg s who core v).cells = s.cells := by simp [writeWaycfg]

@[simp] theorem State.lockRejected_cells (s : State) (who : Agent) (n q reg : Nat) (v : Word) :
    (s.lockRejected who n q reg v).cells = s.cells := by simp [State.lockRejected]

@[simp] theorem State.setL3q_cells (s : State) (n q : Nat) (m : L3Q) : (s.setL3q n q m).cells = s.cells := by simp [State.setL3q]
@[simp] theorem State.flushWays_cells (s : State) (n ways locked : Nat) : (s.flushWays n ways locked).cells = s.cells := by simp [State.flushWays]
@[simp] theorem State.lockWays_cells (s : State) (n q : Nat) (v : Word) : (s.lockWays n q v).cells = s.cells := by simp [State.lockWays]

@[simp] theorem writeL3q_cells (s : State) (who : Agent) (n q reg : Nat) (v : Word) : (writeL3q s who n q reg v).cells = s.cells := by
  unfold writeL3q
  (repeat' split) <;> simp

/-! ### Machine/Binding.lean -/

@[simp] theorem State.noBinding_cells (s : State) : s.noBinding.cells = s.cells := by simp [State.noBinding]

@[simp] theorem State.chooseFrom_cells (s : State) (slots : List Nat) : (s.chooseFrom slots).cells = s.cells := by
  induction slots generalizing s with
  | nil => exact State.noBinding_cells s
  | cons k rest ih =>
    obtain h | ⟨y, h⟩ | ⟨r, h⟩ := s.chooseFrom_cons k rest <;> simp [h, ih]

@[simp] theorem bindingSelect_cells (s : State) : (bindingSelect s).cells = s.cells := by simp [bindingSelect]
@[simp] theorem State.loadKey_cells (s : State) (w : MemWin) : (s.loadKey w).cells = s.cells := by simp [State.loadKey]
@[simp] theorem State.resetOpenUnit_cells (s : State) (u : Nat) : (s.resetOpenUnit u).cells = s.cells := by simp [State.resetOpenUnit]
@[simp] theorem State.releaseHart_cells (s : State) (h : Nat) : (s.releaseHart h).cells = s.cells := by simp [State.releaseHart]
@[simp] theorem State.applyFailed_cells (s : State) : s.applyFailed.cells = s.cells := by simp [State.applyFailed]
@[simp] theorem State.applyRest_cells (s : State) (b : Binding) : (s.applyRest b).cells = s.cells := by simp [State.applyRest]

/-! ### Machine/Handover.lean -/

@[simp] theorem State.squashQueues_cells (s : State) (gone : List Claim) : (s.squashQueues gone).cells = s.cells := by simp [State.squashQueues]
@[simp] theorem State.beginMove_cells (s : State) (new : Binding) : (s.beginMove new).cells = s.cells := by simp [State.beginMove]
@[simp] theorem State.evacuate_cells (s : State) (p : Nat → Bool) : (s.evacuate p).cells = s.cells := by simp [State.evacuate]
@[simp] theorem State.rehomeWindows_cells (s : State) (new : Binding) : (s.rehomeWindows new).cells = s.cells := by simp [State.rehomeWindows]
@[simp] theorem State.moveWays_cells (s : State) (old new : Binding) : (s.moveWays old new).cells = s.cells := by simp [State.moveWays]
@[simp] theorem State.recallMoved_cells (s : State) (es : List (Nat × DirEnt)) : (s.recallMoved es).cells = s.cells := by simp [State.recallMoved]

@[simp] theorem State.moveCores_cells (s : State) (harts : List Nat) (failed : List Nat) :
    (s.moveCores harts failed).cells = s.cells := by simp [State.moveCores]

@[simp] theorem State.moveQueues_cells (s : State) (gone : List Claim) : (s.moveQueues gone).cells = s.cells := by simp [State.moveQueues]
@[simp] theorem State.dropHandles_cells (s : State) : s.dropHandles.cells = s.cells := by simp [State.dropHandles]
@[simp] theorem State.moveIdentities_cells (s : State) (gone : List Claim) : (s.moveIdentities gone).cells = s.cells := by simp [State.moveIdentities]
@[simp] theorem State.moveFunctions_cells (s : State) (gone : List Claim) : (s.moveFunctions gone).cells = s.cells := by simp [State.moveFunctions]

/-! ### Machine/Colophon.lean -/

@[simp] theorem State.signColophon_cells (s : State) (nonce : BitVec 256) : (s.signColophon nonce).2.cells = s.cells := by simp [State.signColophon]
@[simp] theorem colophonResign_cells (s : State) : (colophonResign s).cells = s.cells := by simp [colophonResign]

/-! ### Machine/Gate.lean -/

@[simp] theorem State.gateResult_cells (s : State) (r : Nat) : (s.gateResult r).cells = s.cells := by simp [State.gateResult]
@[simp] theorem State.logPwrDenied_cells (s : State) (u : UnitId) (q : Nat) : (s.logPwrDenied u q).cells = s.cells := by simp [State.logPwrDenied]

@[simp] theorem State.gatedRequests_cells (s : State) (u : UnitId) : (s.gatedRequests u).cells = s.cells := by
  unfold State.gatedRequests
  split <;> simp

@[simp] theorem State.judgeGate_cells (s : State) : s.judgeGate.cells = s.cells := by simp [State.judgeGate]
@[simp] theorem writePwrReq_cells (s : State) (who : Agent) (v : Word) : (writePwrReq s who v).cells = s.cells := by simp [writePwrReq]

/-! ### Machine/Requests.lean -/

@[simp] theorem State.readImage_cells (s : State) (q addr len : Nat) : (s.readImage q addr len).2.cells = s.cells := by simp [State.readImage]

@[simp] theorem State.setReq_cells (s : State) (q : Nat) (st : ReqSt) (step syn result : Nat) :
    (s.setReq q st step syn result).cells = s.cells := by simp [State.setReq]

@[simp] theorem State.endReq_cells (s : State) (q step syn result : Nat) : (s.endReq q step syn result).cells = s.cells := by simp [State.endReq]
@[simp] theorem State.setWork_cells (s : State) (w : Option Work) : (s.setWork w).cells = s.cells := by simp [State.setWork]

@[simp] theorem State.pendOwner_cells (s : State) (new : Binding) (seq : BitVec 16) (q : Nat) :
    (s.pendOwner new seq q).cells = s.cells := by simp [State.pendOwner]

@[simp] theorem State.startMove_cells (s : State) (q : Nat) (d : Binding) (digest : List Byte) :
    (s.startMove q d digest).cells = s.cells := by simp [State.startMove]

@[simp] theorem State.startHandover_cells (s : State) (q : Nat) (d : Binding) (digest : List Byte) :
    (s.startHandover q d digest).cells = s.cells := by simp [State.startHandover]

@[simp] theorem State.clearPend_cells (s : State) (q : Nat) : (s.clearPend q).cells = s.cells := by simp [State.clearPend]

@[simp] theorem State.abortHandover_cells (s : State) (q : Nat) (d : Binding) (o : Nat) (y : Syndrome) :
    (s.abortHandover q d o y).cells = s.cells := by simp [State.abortHandover]

@[simp] theorem State.forceOwner_cells (s : State) (new : Binding) (o : Nat) (y : Syndrome) :
    (s.forceOwner new o y).cells = s.cells := by simp [State.forceOwner]

@[simp] theorem State.ownerDone_cells (s : State) (o : Nat) (forced : Bool) : (s.ownerDone o forced).cells = s.cells := by
  unfold State.ownerDone
  split <;> simp

@[simp] theorem State.ownerFails_cells (s : State) (o : Nat) (y : Syndrome) : (s.ownerFails o y).cells = s.cells := by
  unfold State.ownerFails
  split <;> simp

@[simp] theorem State.moveRest_cells (s : State) (old new d : Binding) : (s.moveRest old new d).cells = s.cells := by simp [State.moveRest]

@[simp] theorem State.startStore_cells (s : State) (q : Option Nat) (img : List Byte) :
    (s.startStore q img).cells = s.cells := by simp [State.startStore]

@[simp] theorem State.programSlot_cells (s : State) (img : List Byte) (t : Nat) (recordOk : Bool) :
    (s.programSlot img t recordOk).cells = s.cells := by simp [State.programSlot]

@[simp] theorem State.runBreq_cells (s : State) (q addr op arg len : Nat) : (s.runBreq q addr op arg len).cells = s.cells := by
  simp only [State.runBreq]
  (repeat' split) <;> simp

@[simp] theorem State.runCol_cells (s : State) (q : Nat) (nonce : BitVec 256) (dest : Nat) : (s.runCol q nonce dest).cells = s.cells := by
  unfold State.runCol
  split <;> simp

@[simp] theorem State.runRequest_cells (s : State) (r : Request) : (s.runRequest r).cells = s.cells := by
  unfold State.runRequest
  split <;> simp

@[simp] theorem State.serve_cells (fuel : Nat) (s : State) : (State.serve fuel s).cells = s.cells := by
  induction fuel generalizing s with
  | zero => rfl
  | succ n ih => unfold State.serve; split <;> simp [ih]

@[simp] theorem State.goOnServing_cells (s : State) : s.goOnServing.cells = s.cells := by simp [State.goOnServing]
@[simp] theorem State.breqCtl_cells (s : State) (who : Agent) (q : Nat) (v : Word) : (s.breqCtl who q v).cells = s.cells := by simp [State.breqCtl]
@[simp] theorem State.colCtl_cells (s : State) (who : Agent) (q : Nat) (v : Word) : (s.colCtl who q v).cells = s.cells := by simp [State.colCtl]

@[simp] theorem State.handoverAnswer_cells (s : State) (h q : Nat) (v : Word) :
    (s.handoverAnswer h q v).cells = s.cells := by simp [State.handoverAnswer]

@[simp] theorem writeBreq_cells (s : State) (who : Agent) (q reg : Nat) (v : Word) : (writeBreq s who q reg v).cells = s.cells := by
  unfold writeBreq
  split <;> simp

@[simp] theorem State.submit_cells (s : State) (h op : Nat) (v : Word) : (s.submit h op v).cells = s.cells := by simp [State.submit]

@[simp] theorem handoverTimeout_cells (s : State) (o : Nat) : (handoverTimeout s o).cells = s.cells := by
  unfold handoverTimeout
  split <;> simp

@[simp] theorem flashProgramDone_cells (s : State) (imageOk recordOk : Bool) : (flashProgramDone s imageOk recordOk).cells = s.cells := by
  unfold flashProgramDone
  (repeat' split) <;> simp

/-! ### Machine/Debug.lean -/

@[simp] theorem State.swdRefuse_cells (s : State) (who : Agent) (write : Bool) : (s.swdRefuse who write).cells = s.cells := by
  unfold State.swdRefuse
  split <;> simp

@[simp] theorem swdFirst_cells (s0 : State) : (swdFirst s0).cells = s0.cells := by simp [swdFirst]
@[simp] theorem swdReset_cells (s0 : State) : (swdReset s0).cells = s0.cells := by simp [swdReset]
@[simp] theorem writeSwd_cells (s : State) (who : Agent) (v : Word) : (writeSwd s who v).cells = s.cells := by simp [writeSwd]
@[simp] theorem State.releaseHalted_cells (s : State) : s.releaseHalted.cells = s.cells := by simp [State.releaseHalted]

@[simp] theorem State.openSession_cells (s : State) (bits : BitVec 4) (durationS : Nat) :
    (s.openSession bits durationS).cells = s.cells := by simp [State.openSession]

@[simp] theorem State.closeSession_cells (s : State) : s.closeSession.cells = s.cells := by simp [State.closeSession]
@[simp] theorem State.setCmderr_cells (s : State) (e : Nat) : (s.setCmderr e).cells = s.cells := by simp [State.setCmderr]

@[simp] theorem State.abstractCmd_cells (s : State) (h : Nat) (f : State → State) (hf : ∀ s, (f s).cells = s.cells) :
    (s.abstractCmd h f).cells = s.cells := by
  unfold State.abstractCmd
  (repeat' split) <;> simp [hf]

@[simp] theorem State.debugCsrWrite_cells (s : State) (h n : Nat) (v : Word) :
    (s.debugCsrWrite h n v).cells = s.cells := by simp [State.debugCsrWrite]

@[simp] theorem State.dmiOp_cells (s : State) (op : DmiOp) : (s.dmiOp op).cells = s.cells := by cases op <;> simp [State.dmiOp]
@[simp] theorem State.selectTap_cells (s : State) (die code : Nat) : (s.selectTap die code).cells = s.cells := by simp [State.selectTap]
@[simp] theorem State.tapBypass_cells (s : State) (die : Nat) : (s.tapBypass die).cells = s.cells := by simp [State.tapBypass]

@[simp] theorem State.tapInstr_cells (s : State) (die code : Nat) (iodOnly cond : Bool) :
    (s.tapInstr die code iodOnly cond).cells = s.cells := by simp [State.tapInstr]

@[simp] theorem State.capture_cells (s : State) (v : Nat) : (s.capture v).cells = s.cells := by simp [State.capture]
@[simp] theorem State.captureWrap_cells (s : State) (die code : Nat) : (s.captureWrap die code).cells = s.cells := by simp [State.captureWrap]

/-! ### Machine/Governor.lean -/

@[simp] theorem State.epochSlack_cells (s : State) : s.epochSlack.2.cells = s.cells := by
  unfold State.epochSlack
  split <;> simp

@[simp] theorem State.govLog_cells (s : State) (kind reason qid old new target : Nat) (slack : Word) :
    (s.govLog kind reason qid old new target slack).cells = s.cells := by simp [State.govLog]

@[simp] theorem State.govLogAt_cells (s : State) (kind reason qid old new target : Nat) :
    (s.govLogAt kind reason qid old new target).cells = s.cells := by simp [State.govLogAt]

@[simp] theorem writeGovSel_cells (s : State) (who : Agent) (v : Word) : (writeGovSel s who v).cells = s.cells := by
  unfold writeGovSel
  split <;> simp

@[simp] theorem State.epochQuire_cells (s : State) (r : GovRec) : (s.epochQuire r).cells = s.cells := by
  simp only [State.epochQuire]
  (repeat' split) <;> simp

@[simp] theorem State.throttleOne_cells (s : State) (reason c : Nat) : (s.throttleOne reason c).cells = s.cells := by simp [State.throttleOne]
@[simp] theorem State.limitUnmet_cells (s : State) : s.limitUnmet.cells = s.cells := by simp [State.limitUnmet]

@[simp] theorem State.epochLimits_cells (s : State) (t : Telemetry) : (s.epochLimits t).cells = s.cells := by
  unfold State.epochLimits
  split <;> simp

@[simp] theorem State.epochShare_cells (s : State) (g : GovPkg) (n : Nat) : (s.epochShare g n).cells = s.cells := by simp [State.epochShare]

@[simp] theorem State.epochLend_cells (s : State) (g : GovPkg) (n q : Nat) (m : BitVec 16) :
    (s.epochLend g n q m).cells = s.cells := by simp [State.epochLend]

@[simp] theorem State.epochPrefetch_cells (s : State) (h n : Nat) : (s.epochPrefetch h n).cells = s.cells := by simp [State.epochPrefetch]
@[simp] theorem State.epochRefresh_cells (s : State) (g : GovPkg) (n : Nat) : (s.epochRefresh g n).cells = s.cells := by simp [State.epochRefresh]

@[simp] theorem State.epochAdjust_cells (s : State) (t : Telemetry) : (s.epochAdjust t).cells = s.cells := by
  unfold State.epochAdjust
  (repeat' split) <;> simp

@[simp] theorem governorEpoch_cells (s : State) (t : Telemetry) : (governorEpoch s t).cells = s.cells := by simp [governorEpoch]

@[simp] theorem frequencySwitch_cells (s : State) (c : Nat) : (frequencySwitch s c).cells = s.cells := by
  simp only [frequencySwitch]
  (repeat' split) <;> simp

@[simp] theorem currentLimiterTrip_cells (s : State) : (currentLimiterTrip s).cells = s.cells := by simp [currentLimiterTrip]
@[simp] theorem writeCidle_cells (s : State) (who : Agent) (core : Nat) (v : Word) : (writeCidle s who core v).cells = s.cells := by simp [writeCidle]

/-! ### Machine/Package.lean -/

@[simp] theorem writePkCtl_cells (s : State) (who : Agent) (v : Word) : (writePkCtl s who v).cells = s.cells := by simp [writePkCtl]
@[simp] theorem State.pkEntered_cells (s : State) (k : Nat) : (s.pkEntered k).cells = s.cells := by simp [State.pkEntered]
@[simp] theorem pk1Entry_cells (s : State) : (pk1Entry s).cells = s.cells := by simp [pk1Entry]
@[simp] theorem State.sleepMisses_cells (s : State) : s.sleepMisses.cells = s.cells := by simp [State.sleepMisses]
@[simp] theorem pkEntry_cells (s : State) : (pkEntry s).cells = s.cells := by simp [pkEntry]
@[simp] theorem State.loseCds_cells (s : State) : s.loseCds.cells = s.cells := by simp [State.loseCds]
@[simp] theorem State.startExit_cells (s : State) (src : PkSrc) : (s.startExit src).cells = s.cells := by simp [State.startExit]

@[simp] theorem State.wakeBy_cells (s : State) (src : PkSrc) : (s.wakeBy src).cells = s.cells := by
  unfold State.wakeBy
  split <;> simp

@[simp] theorem State.restorePk3_cells (s : State) : s.restorePk3.cells = s.cells := by simp [State.restorePk3]

/-! ### Machine/Firefly.lean -/

@[simp] theorem State.ruleLog_cells (s : State) (n : Nat) : (s.ruleLog n).cells = s.cells := by simp [State.ruleLog]
@[simp] theorem State.ruleGpio_cells (s : State) (w : Word) : (s.ruleGpio w).cells = s.cells := by simp [State.ruleGpio]

@[simp] theorem State.ruleActs_cells (s : State) (rs : List (Nat × Word)) : (s.ruleActs rs).cells = s.cells := by
  simp only [State.ruleActs, State.cells_ite, State.wakeBy_cells, ite_self]
  rw [foldl_cells _ _ _ fun s e => State.ruleGpio_cells ..]
  simp only [State.cells_ite, State.alert_cells, ite_self]
  split <;> simp

@[simp] theorem State.ruleRecovery_cells (s : State) : s.ruleRecovery.cells = s.cells := by
  unfold State.ruleRecovery
  split <;> simp

@[simp] theorem ffRuleEvaluation_cells (s : State) (i : FfInputs) : (ffRuleEvaluation s i).cells = s.cells := by simp [ffRuleEvaluation]
@[simp] theorem writeFfData_cells (s : State) (who : Agent) (v : Word) : (writeFfData s who v).cells = s.cells := by simp [writeFfData]
@[simp] theorem writeFf_cells (s : State) (who : Agent) (off : Nat) (v : Word) : (writeFf s who off v).cells = s.cells := by simp [writeFf]
@[simp] theorem State.ffDataAfter_cells (s : State) : s.ffDataAfter.cells = s.cells := by simp [State.ffDataAfter]
@[simp] theorem ffLockstep_cells (s : State) : (ffLockstep s).cells = s.cells := by simp [ffLockstep]
@[simp] theorem State.railFaultOf_cells (s : State) (u : UnitId) : (s.railFaultOf u).cells = s.cells := by simp [State.railFaultOf]

/-! ### Machine/Smbus.lean -/

@[simp] theorem State.answer_cells (s : State) (data : List Byte) : (s.answer data).cells = s.cells := by simp [State.answer]
@[simp] theorem State.answerRefused_cells (s : State) (y : Syndrome) : (s.answerRefused y).cells = s.cells := by simp [State.answerRefused]
@[simp] theorem smbStatus_cells (s : State) : (smbStatus s).cells = s.cells := by simp [smbStatus]
@[simp] theorem smbColophon_cells (s : State) (nonce : BitVec 256) : (smbColophon s nonce).cells = s.cells := by simp [smbColophon]
@[simp] theorem State.setOwner_cells (s : State) (i : Nat) (o : Owner) : (s.setOwner i o).cells = s.cells := by simp [State.setOwner]
@[simp] theorem ownerEnrol_cells (s : State) (mldsaPk ecdsaPk : List Byte) : (ownerEnrol s mldsaPk ecdsaPk).cells = s.cells := by simp [ownerEnrol]

@[simp] theorem ownerUpdate_cells (s : State) (slot state : Nat) (hashes : List Byte) (counter : Nat) (sig : SigBlock) :
    (ownerUpdate s slot state hashes counter sig).cells = s.cells := by
  unfold ownerUpdate
  (repeat' split) <;> simp

@[simp] theorem loadBinding_cells (s : State) (img : List Byte) : (loadBinding s img).cells = s.cells := by
  unfold loadBinding
  (repeat' split) <;> simp

@[simp] theorem debugChallenge_cells (s : State) : (debugChallenge s).cells = s.cells := by simp [debugChallenge]

@[simp] theorem debugOpen_cells (s : State) (bits durationS : Nat) (sig : SigBlock) :
    (debugOpen s bits durationS sig).cells = s.cells := by simp [debugOpen]

@[simp] theorem repairClear_cells (s : State) (x : Nat) : (repairClear s x).cells = s.cells := by simp [repairClear]

/-! ### Machine/Regs.lean -/

@[simp] theorem State.regDenied_cells (s : State) (who : Agent) (r : Reg) : (s.regDenied who r).cells = s.cells := by
  unfold State.regDenied
  split <;> simp

@[simp] theorem State.regAfter_cells (s : State) (r : Reg) : (s.regAfter r).cells = s.cells := by
  unfold State.regAfter
  (repeat' split) <;> simp

@[simp] theorem State.regStore_cells (s : State) (who : Agent) (die block off : Nat) (r : Reg) (v : Word) :
    (s.regStore who die block off r v).cells = s.cells := by
  unfold State.regStore
  (repeat' split) <;> simp

theorem State.ctlLoad_cells (s : State) (h a size : Nat) :
    Sum.elim (fun t => t.cells = s.cells) (fun r => r.2.cells = s.cells) (s.ctlLoad h a size) := by
  unfold State.ctlLoad
  (repeat' split) <;> simp

theorem State.ctlStore_cells (s : State) (who : Agent) (a size : Nat) (v : Word) :
    Sum.elim (fun t => t.cells = s.cells) (fun r => r.cells = s.cells) (s.ctlStore who a size v) := by
  unfold State.ctlStore
  (repeat' split) <;> simp

@[simp] theorem registerWrite_cells (s : State) (who : Agent) (tgt : RegTarget) (v : Word) : (registerWrite s who tgt v).cells = s.cells := by
  unfold registerWrite
  split
  next a size =>
    refine State.asAgent_cells _ _ _ fun s => ?_
    have hctl := s.ctlStore_cells who a size v
    split <;> simp_all
  next => split <;> simp

/-! ### Machine/Access.lean -/

@[simp] theorem State.noteXlate_cells (s : State) (h : Nat) (k : AccKind) (va : Word) (spec : Bool) :
    (s.noteXlate h k va spec).cells = s.cells := by simp [State.noteXlate]

@[simp] theorem State.accFault_cells (s : State) (h : Nat) (k : AccKind) (va : Word) (spec : Bool) :
    (s.accFault h k va spec).cells = s.cells := by simp [State.accFault]

theorem State.locate_cells (s : State) (h : Nat) (k : AccKind) (va : Word) (n : Nat) (spec : Bool) :
    Sum.elim (fun t => t.cells = s.cells) (fun r => r.1.cells = s.cells) (s.locate h k va n spec) := by
  unfold State.locate
  (repeat' split) <;> simp

@[simp] theorem State.misaligned_cells (s : State) (h : Nat) (k : AccKind) (va : Word) : (s.misaligned h k va).cells = s.cells := by
  have hat := s.locate_cells h k va 1 false
  unfold State.misaligned
  split <;> simp_all

@[simp] theorem State.tlbUpset_cells (s : State) (h : Nat) (k : AccKind) (va : Word) (u : Upset) : (s.tlbUpset h k va u).1.cells = s.cells := by
  simp only [State.tlbUpset]
  (repeat' split) <;> simp

theorem State.locateWith_cells (s : State) (h : Nat) (k : AccKind) (va : Word) (n : Nat) (spec : Bool) (u : Upset) :
    Sum.elim (fun t => t.cells = s.cells) (fun r => r.1.cells = s.cells) (s.locateWith h k va n spec u) := by
  have hat := (s.tlbUpset h k va u).1.locate_cells h k va n spec
  simp only [State.locateWith]
  split
  · simp
  · simpa using hat

@[simp] theorem State.cacheUpset_cells (s : State) (h l : Nat) (fetch : Bool) (u : Upset) : (s.cacheUpset h l fetch u).1.cells = s.cells := by
  simp only [State.cacheUpset]
  (repeat' split) <;> simp

@[simp] theorem State.recallLine_cells (s : State) (h : Nat) (va : Word) (l : Nat) (spec : Bool) :
    (s.recallLine h va l spec).cells = s.cells := by simp [State.recallLine]

@[simp] theorem State.ownAccess_cells (s : State) (h : Nat) (va : Word) (l : Nat) (w : Waiter) : (s.ownAccess h va l w).cells = s.cells := by
  simp only [State.ownAccess]
  (repeat' split) <;> simp

@[simp] theorem State.ownWith_cells (s : State) (h : Nat) (va : Word) (l : Nat) (u : Upset) (w : Waiter) :
    (s.ownWith h va l u w).cells = s.cells := by simp [State.ownWith]

@[simp] theorem State.ncLoad_cells (s : State) (h : Nat) (o : LoadOp) (pa : Nat) : (s.ncLoad h o pa).cells = s.cells := by simp [State.ncLoad]
@[simp] theorem State.loaded_cells (s : State) (h : Nat) (o : LoadOp) (v : Word) : (s.loaded h o v).cells = s.cells := by simp [State.loaded]

@[simp] theorem State.ioLoad_cells (s : State) (h : Nat) (o : LoadOp) (pa : Nat) : (s.ioLoad h o pa).cells = s.cells := by
  have hctl := (s.modHart h (fun x => x.count 37 1)).ctlLoad_cells h pa (2 ^ o.size)
  simp only [State.ioLoad]
  (repeat' split) <;> simp_all

@[simp] theorem State.cachedLoad_cells (s : State) (h : Nat) (o : LoadOp) (pa : Nat) (u : Upset) :
    (s.cachedLoad h o pa u).cells = s.cells := by simp [State.cachedLoad]

@[simp] theorem loadAccess_cells (s : State) (h : Nat) (o : LoadOp) (u : Upset) : (loadAccess s h o u).cells = s.cells := by
  have hat := s.locateWith_cells h (loadKind o) o.va (2 ^ o.size) o.spec u
  simp only [loadAccess]
  (repeat' split) <;> simp_all

@[simp] theorem State.ncStore_cells (fuel : Nat) (s : State) (h : Nat) (st : MissSt) (node : Nat) (va : Word) (pa : Nat) (bs : List Byte) :
    (State.ncStore fuel s h st node va pa bs).cells = s.cells := by
  induction fuel generalizing s pa bs with
  | zero => rfl
  | succ n ih => unfold State.ncStore; split <;> simp [ih]

@[simp] theorem State.ioStore_cells (s : State) (h : Nat) (va : Word) (pa size : Nat) (v : Word) : (s.ioStore h va pa size v).cells = s.cells := by
  have hctl := (s.modHart h (fun x => x.count 37 1)).ctlStore_cells (.hart h) pa (2 ^ size) v
  simp only [State.ioStore]
  (repeat' split) <;> simp_all

@[simp] theorem State.ncPut_cells (s : State) (h : Nat) (va : Word) (pa : Nat) (bs : List Byte) :
    (s.ncPut h va pa bs).cells = s.cells := by simp [State.ncPut]

@[simp] theorem storeAccess_cells (s : State) (h : Nat) (va : Word) (size : Nat) (data : Word) (u : Upset) :
    (storeAccess s h va size data u).cells = s.cells := by
  have hat := s.locateWith_cells h .store va (2 ^ size) false u
  simp only [storeAccess]
  (repeat' split) <;> simp_all

@[simp] theorem State.farSend_cells (s : State) (h : Nat) (o : AmoOp) (pa : Nat) : (s.farSend h o pa).cells = s.cells := by simp [State.farSend]

@[simp] theorem State.amoAt_cells (s : State) (h : Nat) (o : AmoOp) (pa : Nat) (st : MissSt) : (s.amoAt h o pa st).cells = s.cells := by
  unfold State.amoAt
  split <;> simp

theorem State.amoGo_cells (s : State) (h : Nat) (o : AmoOp) (pa : Nat) (p : AccPlace) (t : State) : ((s.amoGo h o pa p).2 t).cells = t.cells := by
  unfold State.amoGo
  split
  · simp
  · simp
  · split <;> simp

@[simp] theorem amoAccess_cells (s : State) (h : Nat) (o : AmoOp) (u : Upset) : (amoAccess s h o u).cells = s.cells := by
  have hat := s.locateWith_cells h .store o.va (2 ^ o.size) false u
  have hgo (p : AccPlace) (pa size : Nat) (data : Option Nat) (r : State) :
      (r.released h .amo o.va pa size data (r.amoGo h o pa p).1 (r.amoGo h o pa p).2).cells = r.cells :=
    State.released_cells _ _ _ _ _ _ _ _ _ fun t => State.amoGo_cells ..
  simp only [amoAccess]
  split
  · rfl
  · split
    · simp
    · split
      next t e => simpa [e] using hat
      next t pa p e =>
        have ht : t.cells = s.cells := by simpa [e] using hat
        split <;> simp [hgo, ht]

@[simp] theorem lrAccess_cells (s : State) (h rd : Nat) (va : Word) (size : Nat) (u : Upset) : (lrAccess s h rd va size u).cells = s.cells := by
  have hat := s.locateWith_cells h .load va (2 ^ size) false u
  simp only [lrAccess]
  (repeat' split) <;> simp_all

@[simp] theorem State.endReserve_cells (s : State) (h : Nat) : (s.endReserve h).cells = s.cells := by simp [State.endReserve]

@[simp] theorem State.scPerform_cells (s : State) (h rd : Nat) (va : Word) (pa size : Nat) (data : Word) :
    (s.scPerform h rd va pa size data).cells = s.cells := by simp [State.scPerform]

@[simp] theorem State.scGo_cells (s : State) (h rd : Nat) (va : Word) (pa size : Nat) (data : Word) :
    (s.scGo h rd va pa size data).cells = s.cells := by
  simp only [State.scGo]
  (repeat' split) <;> simp

@[simp] theorem scAccess_cells (s : State) (h rd : Nat) (va : Word) (size : Nat) (data : Word) (u : Upset) :
    (scAccess s h rd va size data u).cells = s.cells := by
  have hat := s.locateWith_cells h .store va (2 ^ size) false u
  simp only [scAccess]
  (repeat' split) <;> simp_all

theorem State.locateBlock_cells (s : State) (h : Nat) (va : Word) :
    Sum.elim (fun t => t.cells = s.cells) (fun r => r.1.cells = s.cells) (s.locateBlock h va) := by
  simp only [State.locateBlock]
  (repeat' split) <;> simp

@[simp] theorem State.cleanBlock_cells (s : State) (l : Nat) : (s.cleanBlock l).cells = s.cells := by
  unfold State.cleanBlock
  split <;> simp

@[simp] theorem State.dropBlock_cells (s : State) (l : Nat) : (s.dropBlock l).cells = s.cells := by simp [State.dropBlock]

@[simp] theorem State.flushBlock_cells (s : State) (l : Nat) : (s.flushBlock l).cells = s.cells := by
  unfold State.flushBlock
  split <;> simp

@[simp] theorem CboKind.act_cells (k : CboKind) (x : Hart) (s : State) (l : Nat) : (CboKind.act k x s l).cells = s.cells := by
  unfold CboKind.act
  split <;> simp

@[simp] theorem cboOp_cells (s : State) (h : Nat) (va : Word) (k : CboKind) : (cboOp s h va k).cells = s.cells := by
  have hat := s.locateBlock_cells h va
  simp only [cboOp]
  (repeat' split) <;> simp_all

@[simp] theorem cboZero_cells (s : State) (h : Nat) (va : Word) : (cboZero s h va).cells = s.cells := by
  have hat := s.locate_cells h .store (word (va.toNat / 64 * 64)) 64 false
  simp only [cboZero]
  (repeat' split) <;> simp_all

@[simp] theorem State.prefetchLine_cells (s : State) (h l : Nat) (va : Word) (spec fetch : Bool) :
    (s.prefetchLine h l va spec fetch).cells = s.cells := by simp [State.prefetchLine]

@[simp] theorem zicbopPrefetch_cells (s : State) (h : Nat) (kind : PrefetchKind) (va : Word) : (zicbopPrefetch s h kind va).cells = s.cells := by
  simp only [zicbopPrefetch]
  (repeat' split) <;> simp

@[simp] theorem hardwarePrefetch_cells (s : State) (h : Nat) (trigger va : Word) : (hardwarePrefetch s h trigger va).cells = s.cells := by
  simp only [hardwarePrefetch]
  (repeat' split) <;> simp

@[simp] theorem lockOp_cells (s : State) (h rd rs1 : Nat) (f : State → Word → Nat → State) (hf : ∀ s a b, (f s a b).cells = s.cells) :
    (lockOp s h rd rs1 f).cells = s.cells := by
  have hat := s.locate_cells h .load ((s.hart h).getX rs1) 1 false
  simp only [lockOp]
  split <;> simp_all

@[simp] theorem State.lockGo_cells (s : State) (h rd : Nat) (va : Word) (pa : Nat) : (s.lockGo h rd va pa).cells = s.cells := by simp [State.lockGo]
@[simp] theorem State.portRequest_cells (s : State) (m : CohMsg) (g : Nat) : (s.portRequest m g).cells = s.cells := by simp [State.portRequest]

@[simp] theorem ncRequest_cells (s : State) (m : CohMsg) : (ncRequest s m).cells = s.cells := by
  unfold ncRequest
  (repeat' split) <;> simp

@[simp] theorem State.logTimeout_cells (s : State) (origin dst tag line qid : Nat) :
    (s.logTimeout origin dst tag line qid).cells = s.cells := by simp [State.logTimeout]

@[simp] theorem State.missExpired_cells (s : State) (h : Nat) (m : Miss) : (s.missExpired h m).cells = s.cells := by simp [State.missExpired]
@[simp] theorem State.wbExpired_cells (s : State) (h : Nat) (w : Wb) : (s.wbExpired h w).cells = s.cells := by simp [State.wbExpired]

@[simp] theorem hartTimeout_cells (s : State) (h tag : Nat) : (hartTimeout s h tag).cells = s.cells := by
  simp only [hartTimeout]
  (repeat' split) <;> simp

@[simp] theorem State.retryOnce_cells (s : State) (node tag : Nat) : (s.retryOnce node tag).cells = s.cells := by
  unfold State.retryOnce
  split <;> simp

@[simp] theorem State.laneTimeout_cells (s : State) (lane i : Nat) : (s.laneTimeout lane i).cells = s.cells := by
  unfold State.laneTimeout
  split <;> simp

@[simp] theorem nodeTimeout_cells (s : State) (node tag : Nat) : (nodeTimeout s node tag).cells = s.cells := by
  unfold nodeTimeout
  (repeat' split) <;> simp

/-! ### Machine/Flush.lean -/

@[simp] theorem State.abortQuiesce_cells (s : State) : s.abortQuiesce.cells = s.cells := by
  unfold State.abortQuiesce
  split <;> simp

@[simp] theorem persistentFlush_cells (s : State) (byRule : Bool) : (persistentFlush s byRule).cells = s.cells := by simp [persistentFlush]

@[simp] theorem pwrfailRecovery_cells (s : State) : (pwrfailRecovery s).cells = s.cells := by
  simp only [pwrfailRecovery]
  (repeat' split) <;> simp

/-! ### Machine/Pair.lean -/

theorem State.bufferAt_cells (s : State) (h : Nat) (k : AccKind) (va : Word) :
    Sum.elim (fun t => t.cells = s.cells) (fun r => r.1.cells = s.cells) (s.bufferAt h k va) := by
  have hat := s.locate_cells h k va 64 false
  simp only [State.bufferAt]
  (repeat' split) <;> simp_all

@[simp] theorem State.sendFrom_cells (s : State) (h rd : Nat) (va : Word) (pa : Nat) (d : Line × Poison) :
    (s.sendFrom h rd va pa d).cells = s.cells := by simp [State.sendFrom]

@[simp] theorem mbsendAccess_cells (s : State) (h rd rs1 : Nat) : (mbsendAccess s h rd rs1).cells = s.cells := by
  have hat := s.bufferAt_cells h .load ((s.hart h).getX rs1)
  simp only [mbsendAccess]
  (repeat' split) <;> simp_all

@[simp] theorem State.tookEntry_cells (s : State) (h rd : Nat) : (s.tookEntry h rd).cells = s.cells := by simp [State.tookEntry]

@[simp] theorem mbrecvAccess_cells (s : State) (h rd : Nat) (va : Word) (e : InboxEnt) : (mbrecvAccess s h rd va e).cells = s.cells := by
  have hat := s.bufferAt_cells h .store va
  simp only [mbrecvAccess]
  (repeat' split) <;> simp_all

theorem State.pairStore_cells {s t : State} {h : Nat} {r : PairCopy} (e : s.pairStore h r = some t) : t.cells = s.cells := by
  simp only [State.pairStore] at e
  split at e <;> split at e <;> cases e <;> simp

@[simp] theorem pairRelease_cells (s : State) (h : Nat) : (pairRelease s h).cells = s.cells := by
  simp only [pairRelease]
  split
  · rfl
  next r _ _ =>
    split
    · cases e : (s.modHart h (fun x => { x with pairReady := none }.count 53 1)).pairStore h r with
      | none => rfl
      | some t => simpa using State.pairStore_cells e
    · simp

end Sys2Proof.Machine
end

section
/-! PROOFS. The commands that change what memory holds keep its canonical form (log 4): queued writes, resets and losses of power, records of
persistence, and memory that moves between Quires. -/

namespace Sys2Proof.Machine

/-! ### Memory operations -/

theorem canonical_iff (m : MemSys) : Canonical m.cells ↔ m.wf = true := by
  unfold Canonical
  rfl

@[simp] theorem MemSys.perform_canonical {m : MemSys} (w : MemWrite) (h : Canonical m.cells) : Canonical (m.perform w).cells :=
  (canonical_iff _).mpr (m.writeLine_wf w.line w.data w.poison ((canonical_iff m).mp h))

@[simp] theorem MemSys.drain_canonical {m : MemSys} (h : Canonical m.cells) : Canonical m.drain.cells := by
  have hfold : Canonical (m.wpq.foldl MemSys.perform m).cells :=
    List.foldlRecOn (motive := fun m => Canonical m.cells) m.wpq MemSys.perform h fun _ hm w _ => MemSys.perform_canonical w hm
  simpa [MemSys.drain] using hfold

@[simp] theorem MemSys.lose_canonical {m : MemSys} (draw : Nat) (kept : List (Nat × Nat)) (h : Canonical m.cells) :
    Canonical (m.lose draw kept).cells :=
  (canonical_iff _).mpr (m.lose_wf draw kept ((canonical_iff m).mp h))

@[simp] theorem MemSys.zeroRange_canonical {m : MemSys} (base size : Nat) (h : Canonical m.cells) : Canonical (m.zeroRange base size).cells :=
  (canonical_iff _).mpr (m.zeroRange_wf base size ((canonical_iff m).mp h))

@[simp] theorem MemSys.poisonStack_canonical {m : MemSys} (stack : Nat) (h : Canonical m.cells) : Canonical (m.poisonStack stack).cells :=
  (canonical_iff _).mpr (m.poisonStack_wf stack ((canonical_iff m).mp h))

@[simp] theorem MemSys.writeRecord_canonical {m : MemSys} (a : Nat) (bs : List Byte) (h : Canonical m.cells) :
    Canonical (m.writeRecord a bs).cells := 
  (canonical_iff _).mpr (MemSys.setPoison_wf _ _ _ (m.write_wf a bs ((canonical_iff m).mp h)))

/-! ### States -/

@[simp] theorem canonical_ite (c : Prop) [Decidable c] (x y : List Host.Cell × List Era) :
    Canonical (if c then x else y) ↔ if c then Canonical x else Canonical y := by split <;> rfl

/-- What every step of a fold keeps canonical, the fold keeps canonical. -/
theorem foldl_canonical {α : Type} (f : State → α → State) (hf : ∀ s a, Canonical s.cells → Canonical (f s a).cells) (l : List α) {s : State}
    (h : Canonical s.cells) : Canonical (l.foldl f s).cells :=
  List.foldlRecOn (motive := fun s => Canonical s.cells) l f h fun s hs a _ => hf s a hs

variable {s : State}

/-! ### Fences -/

@[simp] theorem State.resetUnit_canonical (u : UnitId) (h : Canonical s.cells) : Canonical (s.resetUnit u).cells := by
  have hstacks (l : List Nat) {t : State} (ht : Canonical t.cells) :
      Canonical (l.foldl (fun t i => ({ t with mem := t.mem.poisonStack i } : State)) t).cells :=
    foldl_canonical _ (fun t i ht => by simp [ht]) l ht
  unfold State.resetUnit
  split <;> simp [hstacks, h]

@[simp] theorem ecResetDone_canonical (u : UnitId) (ok : Bool) (h : Canonical s.cells) : Canonical (ecResetDone s u ok).cells := by
  unfold ecResetDone
  (repeat' split) <;> simp [h]

/-! ### Memory controllers -/

@[simp] theorem memoryWrite_canonical (l : Nat) (h : Canonical s.cells) : Canonical (memoryWrite s l).cells := by
  unfold memoryWrite
  (repeat' split) <;> simp [h]

/-! ### Domains in reset -/

@[simp] theorem State.loseMemory_canonical (cxlOnly : Bool) (h : Canonical s.cells) : Canonical (s.loseMemory cxlOnly).cells := by
  simp [State.loseMemory, h]

@[simp] theorem State.holdDomains_canonical (phase : Phase) (h : Canonical s.cells) : Canonical (s.holdDomains phase).cells := by
  simp [State.holdDomains, h]

@[simp] theorem warmResetDrained_canonical (h : Canonical s.cells) : Canonical (warmResetDrained s).cells := by simp [warmResetDrained, h]
@[simp] theorem stbyPwrgoodFall_canonical (h : Canonical s.cells) : Canonical (stbyPwrgoodFall s).cells := by simp [stbyPwrgoodFall, h]
@[simp] theorem pwrgoodFall_canonical (h : Canonical s.cells) : Canonical (pwrgoodFall s).cells := by simp [pwrgoodFall, h]
@[simp] theorem State.refclkGone_canonical (h : Canonical s.cells) : Canonical s.refclkGone.cells := by simp [State.refclkGone, h]

@[simp] theorem nocPllLockLost_canonical (die : Nat) (h : Canonical s.cells) : Canonical (nocPllLockLost s die).cells := by
  simp [nocPllLockLost, h]

@[simp] theorem pwrfailNFall_canonical (h : Canonical s.cells) : Canonical (pwrfailNFall s).cells := by
  simp only [pwrfailNFall]
  (repeat' split) <;> simp [h]

@[simp] theorem pflushDone_canonical (h : Canonical s.cells) : Canonical (pflushDone s).cells := by simp [pflushDone, h]

/-! ### Persistence -/

@[simp] theorem State.putRecord_canonical (a : Nat) (bs : List Byte) (h : Canonical s.cells) : Canonical (s.putRecord a bs).cells := by
  simp [State.putRecord, h]

@[simp] theorem State.armWindow_canonical (w : MemWin) (h : Canonical s.cells) : Canonical (s.armWindow w).cells := by simp [State.armWindow, h]
@[simp] theorem State.armLost_canonical (w : MemWin) (h : Canonical s.cells) : Canonical (s.armLost w).cells := by simp [State.armLost, h]

@[simp] theorem State.armAll_canonical (lost : Bool) (h : Canonical s.cells) : Canonical (s.armAll lost).cells :=
  foldl_canonical _ (fun s w hs => by simp [hs]) _ h

@[simp] theorem State.commitWindow_canonical (w : MemWin) (h : Canonical s.cells) : Canonical (s.commitWindow w).cells := by
  simp [State.commitWindow, h]

@[simp] theorem State.commitFlush_canonical (failed : List (Nat × Nat)) (h : Canonical s.cells) : Canonical (s.commitFlush failed).cells :=
  foldl_canonical _ (fun _ w hs => State.commitWindow_canonical w hs) _ h

@[simp] theorem State.sleepFlush_canonical (k : Nat) (failed : List (Nat × Nat)) (h : Canonical s.cells) :
    Canonical (s.sleepFlush k failed).cells := by simp [State.sleepFlush, h]

@[simp] theorem flushDrained_canonical (failed : List (Nat × Nat)) (h : Canonical s.cells) : Canonical (flushDrained s failed).cells := by
  unfold flushDrained
  (repeat' split) <;> simp [h]

/-! ### Package states -/

@[simp] theorem State.losePk3_canonical (h : Canonical s.cells) : Canonical s.losePk3.cells := by simp [State.losePk3, h]

@[simp] theorem pkEntryComplete_canonical (h : Canonical s.cells) : Canonical (pkEntryComplete s).cells := by
  simp only [pkEntryComplete]
  (repeat' split) <;> simp [h]

@[simp] theorem pkExitComplete_canonical (h : Canonical s.cells) : Canonical (pkExitComplete s).cells := by
  unfold pkExitComplete
  split <;> simp [h]

/-! ### Bindings -/

@[simp] theorem State.reseal_canonical (w : MemWin) (h : Canonical s.cells) : Canonical (s.reseal w).cells := by simp [State.reseal, h]
@[simp] theorem State.rekey_canonical (w : MemWin) (h : Canonical s.cells) : Canonical (s.rekey w).cells := by simp [State.rekey, h]

@[simp] theorem State.applyCore_canonical (b : Binding) (h : Canonical s.cells) : Canonical (s.applyCore b).cells := by
  have hwindows (l : List MemWin) {t : State} (ht : Canonical t.cells) :
      Canonical (l.foldl (fun s w => (s.reseal w).loadKey w) t).cells := foldl_canonical _ (fun s w hs => by simp [hs]) l ht
  simp [State.applyCore, hwindows, h]

@[simp] theorem bindingApply_canonical (failed : Option UnitId) (h : Canonical s.cells) : Canonical (bindingApply s failed).cells := by
  simp only [bindingApply]
  (repeat' split) <;> simp [h]

@[simp] theorem State.zeroMemory_canonical (lo hi : Nat) (h : Canonical s.cells) : Canonical (s.zeroMemory lo hi).cells := by
  simp [State.zeroMemory, h]

@[simp] theorem State.moveMemory_canonical (old new d : Binding) (h : Canonical s.cells) : Canonical (s.moveMemory old new d).cells := by
  unfold State.moveMemory
  refine foldl_canonical State.armWindow (fun _ w hs => State.armWindow_canonical w hs) _ ?_
  rw [foldl_cells State.loadKey _ _ State.loadKey_cells]
  refine foldl_canonical _ (fun _ r hs => State.zeroMemory_canonical r.1 r.2 hs) _ ?_
  exact foldl_canonical State.rekey (fun _ w hs => State.rekey_canonical w hs) _ h

@[simp] theorem State.finishMove_canonical (q : Nat) (d : Binding) (digest : List Byte) (failed : List UnitId) (h : Canonical s.cells) :
    Canonical (s.finishMove q d digest failed).cells := by simp [State.finishMove, h]

@[simp] theorem movePhaseEnd_canonical (failed : List UnitId) (h : Canonical s.cells) : Canonical (movePhaseEnd s failed).cells := by
  unfold movePhaseEnd
  split <;> simp [h]

/-! ### Commands -/

/-- The next state of an outcome has a canonical memory if a state has. -/
structure FormKept (s : State) (o : Result) : Prop where
  form : ∀ t, o = .next t → Canonical s.cells → Canonical t.cells

@[simp] theorem formKept_next (s t : State) : FormKept s (.next t) ↔ (Canonical s.cells → Canonical t.cells) :=
  ⟨fun h => h.form t rfl, fun h => ⟨fun _ e => by cases e; exact h⟩⟩

theorem FormKept.next {s t : State} (h : Canonical s.cells → Canonical t.cells) : FormKept s (.next t) := (formKept_next s t).mpr h

theorem FormKept.of_cells {s t : State} (h : t.cells = s.cells) : FormKept s (.next t) := .next fun hs => h ▸ hs

theorem execTlbLock_formKept (h : Nat) (v : Word) (s : State) : FormKept s (execTlbLock h v s) := by
  unfold execTlbLock
  split
  next t e =>
    split at e
    · exact .of_cells (State.lockWaits_cells e)
    · cases e
  next => exact .of_cells (by simp)

/-- Every command keeps the canonical form, each by the lemma about its meaning. -/
theorem exec_formKept (c : Instr) (s : State) : FormKept s (exec c s) := by
  cases c
  case tlbLock h v => exact execTlbLock_formKept h v s
  case xret | wfi | lzMbrecv => exact .of_cells (State.instr_cells _ _ _ fun s => by split <;> simp)
  case amo => exact .of_cells (State.instr_cells _ _ _ fun s => State.watched_cells _ _ _ _ _ _ _ fun s => by simp)
  case lzUnlock => exact .of_cells (State.instr_cells _ _ _ fun s => lockOp_cells _ _ _ _ _ fun s va pa => by simp)
  case ptStatRead => exact .of_cells (State.readReg_cells _ _ _ _ _ _ _ fun _ => rfl)
  case slWrite | slRead | slSend => exact .of_cells (State.runOp_cells _ _ _ _ fun s f => State.slBegin_cells _ _ _ _ _ fun s p => by simp)
  case gcmOpen => exact .of_cells (State.runOp_cells _ _ _ _ fun s f => by dsimp only; split <;> simp)
  case interruptTaken | completionTimeout | debugSessionExpiry | debugChallengeExpiry => exact .of_cells (by split <;> simp)
  case ecResetDone | memoryWrite | flushDrained | bindingApply | movePhaseEnd | pkEntryComplete | pkExitComplete => exact .next fun h => by simp [h]
  case warmResetDrained | stbyPwrgoodFall | pwrgoodFall | refclkLost | nocPllLockLost | thermalTrip | pwrfailNFall | pflushDone =>
    exact .next fun h => by simp [h]
  all_goals exact .of_cells (by simp)

/-- Settles O32: a cycle leaves memory as it is, and every command keeps its canonical form. -/
theorem memoryForm : Obligations.Memory_form := by
  unfold Obligations.Memory_form
  intro s t hwf hstep
  rw [← canonical_iff, MemSys.cells_fold] at hwf ⊢
  unfold step at hstep
  split at hstep
  · cases hstep
    simpa using hwf
  · exact (exec_formKept _ _).form t hstep (by simpa using hwf)

end Sys2Proof.Machine
end

section
/-! PROOFS. OCU_COMMIT (R323): which shadow configurations a commit rejects, and what it does to the unit. -/

namespace Sys2Proof.Machine

/-! ### Open units -/

@[simp] theorem State.openUnit_setOpenUnit (s : State) (u : Nat) (t : OpenUnit) : (s.setOpenUnit u t).openUnit u = t := Tab.get_set_same _ _ _ _

theorem State.openUnit_congr {s t : State} (h : t.chk = s.chk) (u : Nat) : t.openUnit u = s.openUnit u := by
  rw [State.openUnit, State.openUnit, h]

@[simp] theorem State.openUnit_log (s : State) (r : ErrRec) (u : Nat) : (s.log r).openUnit u = s.openUnit u := State.openUnit_congr (s.log_chk r) u

theorem flagOf_eq_getLsbD (v : Word) (i : Nat) : flagOf v i = v.getLsbD i := by
  rw [BitVec.getLsbD, Nat.testBit_eq_decide_div_mod_eq]
  rfl

/-- The flag of a bit that a write sets. -/
theorem flagOf_or_top (v : Word) : flagOf (v ||| word (2 ^ 63)) 63 = true := by
  have htop : (word (2 ^ 63)).getLsbD 63 = true := by decide
  rw [flagOf_eq_getLsbD, BitVec.getLsbD_or, htop, Bool.or_true]

/-- A configuration cannot be committed for one of the reasons of R323. -/
theorem CheckCfg.ok_eq_false_iff (c : CheckCfg) : c.ok = false ↔ c.width < 8 ∨ 64 < c.width ∨ c.alive = 3 ∨ c.poly.getLsbD 0 = false
    ∨ 2 ^ c.width ≤ c.poly.toNat ∨ 2 ^ c.width ≤ c.init.toNat ∨ 2 ^ c.width ≤ c.xorout.toNat := by
  simp only [CheckCfg.ok, flagOf_eq_getLsbD, Bool.and_eq_false_iff, decide_eq_false_iff_not, bne_eq_false_iff_eq, Nat.not_le, Nat.not_lt]
  tauto

/-! ### OCU_COMMIT (R323) -/

/-- The record of a rejected commit. -/
def State.commitRejected (s : State) (u q : Nat) : State :=
  (s.setOpenUnit u { s.openUnit u with rejected := true }).logCheck Syn.checkCfgRejected u q none

/-- The commit of an idle unit, once its access is allowed: reserved bits are logged, and the shadow is judged. -/
theorem writeCommit_idle {s : State} {who : Agent} {u : Nat} {v : Word} (hallowed : s.ocuAllowed who u = true) (hgo : flagOf v 63 = true)
    (hidle : (s.openUnit u).busy = none) : ∃ r : State, r.openUnit u = s.openUnit u ∧
      writeCommit s who u v = if (s.openUnit u).shadow.ok
        then r.setOpenUnit u { s.openUnit u with active := (s.openUnit u).shadow, rejected := false } else r.commitRejected u (r.agentQid who) := by
  obtain ⟨r, hr, hunit⟩ : ∃ r, r = (if (v &&& ~~~(word 0x8000000000000001)) = 0 then s else s.logOcu Syn.reservedWrite who u 0x20 v)
      ∧ r.openUnit u = s.openUnit u := by
    refine ⟨_, rfl, ?_⟩
    split
    · rfl
    · exact s.openUnit_log _ u
  refine ⟨r, hunit, ?_⟩
  simp only [writeCommit, hallowed, ← hr, hgo, hidle, State.commitRejected, hunit, Bool.not_true, Bool.false_eq_true, if_false, Option.isSome_none]

/-- Settles O36: a commit of an idle unit is judged by `CheckCfg.ok`. -/
theorem commitRule : Obligations.Commit_rule := by
  unfold Obligations.Commit_rule
  intro s h u v hlo hhi hready hallowed hidle
  obtain ⟨r, hr, hcommit⟩ := writeCommit_idle (v := v ||| word (2 ^ 63)) hallowed (flagOf_or_top v) hidle
  refine ⟨writeCommit s (.hart h) u (v ||| word (2 ^ 63)), ?_, ?_⟩
  · simp only [exec, execOcuCommit, hlo, hhi, and_self, if_true, State.access_of_readySide _ hready]
  rw [hcommit]
  simp only [← CheckCfg.ok_eq_false_iff]
  cases hok : (s.openUnit u).shadow.ok
  · have hlog : (r.commitRejected u (r.agentQid (.hart h))).carries Syn.checkCfgRejected = true := State.log_carries _ _ _ rfl
    simp only [hlog, Bool.false_eq_true, if_false]
    simp [State.commitRejected, State.logCheck, hr]
  · simp

end Sys2Proof.Machine
end

section
/-! PROOFS. Error Collectors (R331, R340, R343, R345): records on their way up, paced events, and the registers of the views. -/

namespace Sys2Proof.Machine

/-! ### Parts of the state -/

theorem State.changesOnly_err (s : State) (e : Errors) : s.changesOnly [.err] { s with err := e } := by
  intro p hp
  cases p with
  | err => simp at hp
  | _ => rfl

theorem State.changesOnly_err_net (s : State) (e : Errors) (n : Net) : s.changesOnly [.err, .net] { s with err := e, net := n } := by
  intro p hp
  cases p with
  | err | net => simp at hp
  | _ => rfl

/-! ### Events of the views (R331, R345) -/

/-- What a paced event leaves of the collectors' slots. -/
structure State.Notified (s t : State) : Prop where
  slots : t.err.slots = s.err.slots
  seq : t.err.seq = s.err.seq
  parts : s.changesOnly [.err, .net] t

theorem State.Notified.refl (s : State) : s.Notified s := ⟨rfl, rfl, s.changesOnly_refl _⟩

theorem State.Notified.trans {s t u : State} (f : s.Notified t) (g : t.Notified u) : s.Notified u :=
  ⟨g.slots.trans f.slots, g.seq.trans f.seq, State.changesOnly_trans f.parts g.parts⟩

theorem State.pacedMsi_notified (s : State) (src hart file id : Nat) (secure : Bool) : s.Notified (s.pacedMsi src hart file id secure) := by
  unfold State.pacedMsi
  extract_lets same old rest due
  split
  · exact ⟨rfl, rfl, s.changesOnly_err_net _ _⟩
  · exact ⟨rfl, rfl, s.changesOnly_err_net _ _⟩

theorem State.viewEvent_notified (s : State) (r : ErrRec) : s.Notified (s.viewEvent r) := by
  have hfire (g : EcRegs) (t : State) :
      t.Notified (if g.irqEnable then t.pacedMsi 0 g.irqHart g.irqFile g.irqId g.irqSecure else t) := by
    split
    · exact t.pacedMsi_notified ..
    · exact .refl t
  unfold State.viewEvent
  refine List.foldlRecOn (motive := fun t => s.Notified t) _ _ (hfire _ s) fun t ht e _ => ?_
  split
  · exact ht.trans (hfire _ t)
  · exact ht

theorem Tab.freeKey_nil {α : Type} {n : Nat} (hn : 0 < n) : Tab.freeKey ([] : Tab α) n = some 0 := by
  obtain ⟨k, rfl⟩ := Nat.exists_eq_add_one.mpr hn
  simp [Tab.freeKey, List.range_succ_eq_map]

/-- A record that finds the chip collector empty takes slot 0 (R343). -/
theorem State.chipReceive_empty {s : State} {r : ErrRec} (hkind : r.syndrome ≠ Syn.poisonConsumed.code) (hempty : s.err.slots = []) :
    s.chipReceive r = ({ s with err := { s.err with slots := [(0, { r with seq := s.err.seq })], seq := s.err.seq + 1 } } : State).viewEvent
      { r with seq := s.err.seq } := by
  have hblame : s.blamePoison r = r := if_neg fun h => hkind h.1
  have hfree : Tab.freeKey ([] : Tab ErrRec) 1024 = some 0 := Tab.freeKey_nil (by omega)
  have hstore : s.storeRecord r = ({ s with err := { s.err with slots := Tab.set s.err.slots 0 { r with seq := s.err.seq }, seq := s.err.seq + 1 } }
      : State).viewEvent { r with seq := s.err.seq } := by
    unfold State.storeRecord
    dsimp only
    simp only [hempty, hfree]
  simp only [State.chipReceive, hblame, hempty, List.find?_nil, ite_self, hstore, Tab.set]

/-! ### RECORD_FORWARD (R340, R343) -/

section
variable {s : State} {u : UnitId} {r : ErrRec} {rest : List ErrRec} (hwaits : (s.err.lowCol u).upward = r :: rest)
  (hopen : s.pathFenced u = false)
include hwaits hopen

/-- A waiting record passes to the collector of the unit above (R340). -/
theorem exec_recordForward_up {p : UnitId} (habove : container u = some p) (hother : p ≠ u) : ∃ t, exec (.recordForward u) s = .next t
    ∧ (t.err.lowCol u).upward = rest ∧ (t.err.lowCol p).upward = (s.err.lowCol p).upward ++ [r] ∧ s.changesOnly [.err] t := by
  have hunit : ({ s.err.lowCol u with upward := rest } : LowCol).unit = u := Errors.lowCol_unit ..
  have habove' : ((s.err.setLow { s.err.lowCol u with upward := rest }).lowCol p) = s.err.lowCol p :=
    Errors.lowCol_setLow_other _ (by rwa [hunit])
  have hreceiver : ((s.err.lowCol p).receive r).unit = p := (LowCol.receive_unit ..).trans (Errors.lowCol_unit ..)
  refine ⟨{ s with err := (s.err.setLow { s.err.lowCol u with upward := rest }).setLow ((s.err.lowCol p).receive r) }, ?_, ?_, ?_,
    s.changesOnly_err _⟩
  · simp only [exec, execRecordForward, recordForward, hwaits, hopen, habove, habove', Bool.false_eq_true, if_false]
  · rw [Errors.lowCol_setLow_other _ (by rw [hreceiver]; exact hother.symm), Errors.lowCol_setLow_same _ hunit]
  · rw [Errors.lowCol_setLow_same _ hreceiver, LowCol.receive_upward]

/-- A record that waits at a die takes the lowest slot of the empty chip collector (R340, R343). -/
theorem exec_recordForward_chip (htop : container u = none) (hkind : r.syndrome ≠ Syn.poisonConsumed.code) (hempty : s.err.slots = []) :
    ∃ t, exec (.recordForward u) s = .next t ∧ t.err.slots = [(0, { r with seq := s.err.seq })] ∧ t.err.seq = s.err.seq + 1
      ∧ s.changesOnly [.err, .net] t := by
  have hevent := State.viewEvent_notified ({ s with err := { s.err.setLow { s.err.lowCol u with upward := rest } with
    slots := [(0, { r with seq := s.err.seq })], seq := s.err.seq + 1 } } : State) { r with seq := s.err.seq }
  refine ⟨_, ?_, hevent.slots, hevent.seq, State.changesOnly_trans (s.changesOnly_err_net _ _) hevent.parts⟩
  simp only [exec, execRecordForward, recordForward, hwaits, hopen, htop, Bool.false_eq_true, if_false]
  rw [State.chipReceive_empty hkind]
  · rfl
  · exact hempty

end

/-! ### MSI_PACING (R331) -/

/-- A held event whose 10 µs have passed is sent. -/
theorem exec_msiPacing_held {s : State} {p : Pace} {n : Nat} (hpaces : s.err.paces = [p]) (hheld : p.held = true) (hlast : p.last = some n)
    (hdue : n + 10000 ≤ s.time.now) : ∃ t, exec (.msiPacing p.hart p.file p.id) s = .next t
      ∧ t.err.paces = [{ p with last := some s.time.now, held := false }]
      ∧ t.net.msi = s.net.msi ++ [{ hart := p.hart, file := p.file, id := p.id, secure := p.secure }] :=
  ⟨_, rfl, by simp [msiPacing, hpaces, hheld, hlast, hdue, State.sendMsi]⟩

/-! ### The registers of a view (R345) -/

theorem State.ecReserved_own {s : State} {h : Nat} {w : EcView} {reg own : Nat} {v : Word} (hown : v &&& ~~~(word own) = 0) :
    s.ecReserved h w reg v own = s := State.reserved_own _ _ _ _ hown

@[simp] theorem State.ecRegs_setEcRegs (s : State) (w : EcView) (g : EcRegs) : (s.setEcRegs w g).ecRegs w = g := by
  cases w with
  | owner => rfl
  | quire q => exact Tab.get_set_same _ _ _ _
  | low u => exact congrArg LowCol.regs (Errors.lowCol_setLow_same s.err (c := { s.err.lowCol u with regs := g }) (Errors.lowCol_unit s.err u))

@[simp] theorem State.setEcRegs_slots (s : State) (w : EcView) (g : EcRegs) : (s.setEcRegs w g).err.slots = s.err.slots := by
  cases w <;> rfl

theorem State.setEcRegs_only (s : State) (w : EcView) (g : EcRegs) : s.changesOnly [.err] (s.setEcRegs w g) := by
  cases w <;> exact s.changesOnly_err _

@[simp] theorem State.ecRegs_modHart (s : State) (h : Nat) (f : Hart → Hart) (w : EcView) : (s.modHart h f).ecRegs w = s.ecRegs w := by
  cases w <;> rfl

section
variable {s : State} {h : Nat} (hready : s.readySide h = true)
include hready

/-- NEXT moves INDEX to the next record that the view shows. -/
theorem exec_ecSelNext {w : EcView} (hallowed : s.ecAllowed h w = true) : ∃ t, exec (.ecSelNext h w) s = .next t
    ∧ t.ecRegs w = s.ecNext w ∧ t.err.slots = s.err.slots ∧ s.changesOnly [.err] t := by
  refine ⟨s.setEcRegs w (s.ecNext w), ?_, by simp, by simp, s.setEcRegs_only _ _⟩
  have hnext : flagOf (word (2 ^ 62)) 62 = true := by decide
  simp only [exec, execEcSelNext, State.access_of_readySide _ hready, writeEcSel, hallowed, Bool.not_true, Bool.false_eq_true, if_false,
    State.ecReserved_own (by decide : word (2 ^ 62) &&& ~~~(word 0xC0000000000003FF) = 0), hnext, if_true]

/-- A write of EC_CTL by an allowed hart that sets CLEAR alone. -/
theorem exec_clear_allowed {w : EcView} (hallowed : s.ecAllowed h w = true) : exec (.clear h w) s = .next (s.ecClear w) := by
  have hclear : flagOf (word (2 ^ 63)) 63 = true ∧ flagOf (word (2 ^ 63)) 62 = false := by decide
  simp only [exec, execClear, State.access_of_readySide _ hready, writeEcCtl, hallowed, Bool.not_true, Bool.false_eq_true, if_false,
    State.ecReserved_own (by decide : word (2 ^ 63) &&& ~~~(word 0xC000000000000000) = 0), hclear, if_true]

/-- A write of EC_CTL by an allowed hart that sets CLEAR_ALL alone. -/
theorem exec_clearAll_allowed {w : EcView} (hallowed : s.ecAllowed h w = true) : exec (.clearAll h w) s = .next (s.ecClearAll w) := by
  have hclear : flagOf (word (2 ^ 62)) 63 = false ∧ flagOf (word (2 ^ 62)) 62 = true := by decide
  simp only [exec, execClearAll, State.access_of_readySide _ hready, writeEcCtl, hallowed, Bool.not_true, Bool.false_eq_true, if_false,
    State.ecReserved_own (by decide : word (2 ^ 62) &&& ~~~(word 0xC000000000000000) = 0), hclear, if_true]

/-- EC_STAT reads its fields and clears LOST and DL_MISSES (R10). -/
theorem exec_ecStatRead_allowed {w : EcView} (rd : Nat) (hallowed : s.ecAllowed h w = true) : ∃ t, exec (.ecStatRead h w rd) s = .next t
    ∧ (t.hart h).getX rd = (if rd = 0 then 0 else s.ecStat w) ∧ (t.ecRegs w).lost = 0 ∧ (t.ecRegs w).dlMisses = 0 := by
  refine ⟨(s.ecStatRead w).modHart h (fun x => x.setX rd (s.ecStat w)), ?_, ?_, ?_, ?_⟩
  · simp only [exec, execEcStatRead]
    rw [State.readReg_of_readySide (h := h) rd _ (fun s => s.ecAllowed h w) (fun s => s.ecStat w) (fun s => s.ecStatRead w) hready hallowed]
  · simp [Hart.getX_setX]
  · simp [State.ecStatRead]
  · simp [State.ecStatRead]

/-- EC_IRQ of the owner view holds the target that was written, in the world of the hart that wrote it (R432). -/
theorem exec_ecIrqWrite_owner {v : Word} (hallowed : s.ecAllowed h .owner = true) (hown : v &&& ~~~(word 0x8000FFFF0F0007FF) = 0)
    (hok : s.ecIrqOk .owner v = true) : exec (.ecIrqWrite h .owner v) s = .next { s with err := { s.err with
      owner := { s.err.owner with irqEnable := flagOf v 63, irqHart := fieldOf v 32 16, irqFile := fieldOf v 24 4, irqId := fieldOf v 0 11,
                                  irqSecure := (s.hart h).secure } } } := by
  simp [exec, execEcIrqWrite, State.access_of_readySide _ hready, writeEcIrq, hallowed, State.ecReserved_own hown, hok, State.setEcRegs,
    State.ecRegs]

/-! ### Stores to interrupt files (R28, R362) -/

/-- A store of an identity that the hart's Quire may signal sends an MSI in the hart's world. -/
theorem exec_imsicWrite_signals {a th file : Nat} {v : Word} (hmode : s.inM h = true) (hplace : decodeImsic a = some (th, file))
    (hfiles : s.hasFiles th = true) (haligned : a % 0x1000 = 0) (hlo : 1 ≤ v.toNat % 2 ^ 32) (hhi : v.toNat % 2 ^ 32 ≤ 2047)
    (hmay : s.maySignal (s.hart h).qid th file (v.toNat % 2 ^ 32) = true) :
    exec (.imsicWrite h a 4 v) s = .next (s.sendMsi th file (v.toNat % 2 ^ 32) (s.hart h).secure) := by
  have hid : ¬(v.toNat % 2 ^ 32 = 0 ∨ 2047 < v.toNat % 2 ^ 32) := by omega
  simp only [exec, execImsicWrite, State.access_of_readySide _ hready, hmode, if_true, State.imsicStore, hplace, hfiles, haligned]
  simp only [Bool.not_true, Bool.false_or, bne_self_eq_false, Bool.false_eq_true, if_false, hid, hmay, if_true]

end

/-! ### MSIs that arrive (R28, R362) -/

/-- A Normal MSI at a Secure identity, discarded and logged. -/
def State.msiRefused (s : State) (m : MsiMsg) : State :=
  ({ s with net := { s.net with msi := s.net.msi.erase m } } : State).log
    ((Syn.msiWorldDenied.record (hartOrigin m.hart) 0x01 m.hart (s.hart m.hart).qid).withSecure true)

/-- An MSI taken, with its pending bit set. -/
def State.msiPending (s : State) (m : MsiMsg) : State :=
  ({ s with net := { s.net with msi := s.net.msi.erase m } } : State).modHart m.hart
    (fun x => if x.eip.contains (eiKey m.file m.id) then x else { x with eip := x.eip ++ [eiKey m.file m.id] })

/-- An MSI for a running core sets its pending bit; a Normal one at a Secure identity is discarded and logged. -/
theorem exec_msi_arrives {s : State} {m : MsiMsg} (htravels : m ∈ s.net.msi) (hhart : s.fuse.hartOk m.hart = true)
    (hrun : (s.hart m.hart).run ≠ .fenced) (hfile : m.file ≤ 8) (hlo : 1 ≤ m.id) (hhi : m.id ≤ 2047) :
    ∃ t, exec (.msi m) s = .next t ∧ t.net.msi = s.net.msi.erase m
      ∧ (if s.bind.idSecure m.hart m.file m.id = true ∧ m.secure = false then t.harts = s.harts ∧ t.carries Syn.msiWorldDenied = true
        else eiKey m.file m.id ∈ (t.hart m.hart).eip ∧ s.changesOnly [.harts, .net] t) := by
  have hat : s.net.msi.contains m = true := List.contains_iff_mem.mpr htravels
  refine ⟨msiArrives s m, rfl, ?_⟩
  have hgood : ¬((!s.fuse.hartOk m.hart || decide ((s.hart m.hart).run = .fenced) || decide (8 < m.file) || m.id == 0
      || decide (2047 < m.id)) = true) := by
    simp [hhart, hrun, hfile, hhi, Nat.one_le_iff_ne_zero.mp hlo]
  have harrives : msiArrives s m = if s.bind.idSecure m.hart m.file m.id && !m.secure then s.msiRefused m else s.msiPending m := by
    simp only [msiArrives, hat, Bool.not_true, Bool.false_eq_true, if_false]
    exact if_neg hgood
  rw [harrives]
  by_cases hdenied : s.bind.idSecure m.hart m.file m.id = true ∧ m.secure = false
  · rw [if_pos hdenied, if_pos (by simpa using hdenied)]
    exact ⟨by simp [State.msiRefused], by simp [State.msiRefused], State.log_carries _ _ _ rfl⟩
  · rw [if_neg hdenied, if_neg (by simpa using hdenied), State.msiPending, State.hart_modHart_same]
    refine ⟨rfl, ?_, s.changesOnly_harts_net _ _⟩
    split
    · exact List.contains_iff_mem.mp ‹_›
    · simp

/-- Settles O28. -/
theorem recordsAndInterrupts : Obligations.Records_and_interrupts := by
  unfold Obligations.Records_and_interrupts
  refine ⟨⟨fun _ _ _ _ _ hw ho ha hp => exec_recordForward_up hw ho ha hp, fun _ _ _ _ hw ho ht hk he => exec_recordForward_chip hw ho ht hk he,
    fun _ _ _ hp hh hl hd => exec_msiPacing_held hp hh hl hd⟩, ⟨fun _ _ _ hr ha => exec_ecSelNext hr ha, ?_, ?_,
    fun _ _ rd _ hr ha => exec_ecStatRead_allowed hr rd ha,
    fun s _ _ hr ha hv ho => ⟨_, exec_ecIrqWrite_owner hr ha hv ho, s.changesOnly_err _, rfl⟩⟩,
    fun _ _ _ _ _ _ hr hm hp hf ha hlo hhi hs => exec_imsicWrite_signals hr hm hp hf ha hlo hhi hs,
    fun _ _ ht hh hr hf hlo hhi => exec_msi_arrives ht hh hr hf hlo hhi⟩
  · intro s h r hready hallowed hshown
    refine ⟨_, exec_clear_allowed hready hallowed, ?_⟩
    rw [State.ecClear, show (s.ecRegs .owner).index = s.err.owner.index from rfl, hshown]
    exact ⟨rfl, s.changesOnly_err _⟩
  · intro s h q hready hallowed
    refine ⟨_, exec_clearAll_allowed hready hallowed, fun e => ?_, s.changesOnly_err _⟩
    simp [State.ecClearAll]

end Sys2Proof.Machine
end

section
/-! PROOFS. Package states (R329, R386 to R390): requests, entry with its flush and what it loses, wake sources, and exit. -/

namespace Sys2Proof.Machine

/-! ### What the rows of an entry and an exit leave of the package's power state and of the pins -/

/-- The package's power state with the pins that a package state looks at. -/
def State.power (s : State) : Power × Pins := (s.pwr, s.pins)

theorem State.power_congr {s t : State} (hpwr : t.pwr = s.pwr) (hpins : t.pins = s.pins) : t.power = s.power := by
  rw [State.power, State.power, hpwr, hpins]

theorem State.pwr_of_power {t : State} {p : Power × Pins} (h : t.power = p) : t.pwr = p.1 := congrArg Prod.fst h
theorem State.pins_of_power {t : State} {p : Power × Pins} (h : t.power = p) : t.pins = p.2 := congrArg Prod.snd h

@[simp] theorem State.log_power (s : State) (r : ErrRec) : (s.log r).power = s.power := State.power_congr (s.log_pwr r) (s.log_pins r)

@[simp] theorem State.ffLog_power (s : State) (kind detail body : Nat) : (s.ffLog kind detail body).power = s.power := by
  simp only [State.ffLog, State.power]
@[simp] theorem State.loseCds_power (s : State) : s.loseCds.power = s.power := by
  unfold State.loseCds
  extract_lets n lose
  rfl

@[simp] theorem State.swdSync_power (s : State) : s.swdSync.power = s.power := by
  unfold State.swdSync
  extract_lets w
  split <;> rfl

@[simp] theorem State.swdRestart_power (s : State) : s.swdRestart.power = s.power := by
  unfold State.swdRestart
  extract_lets w
  split <;> rfl

@[simp] theorem State.queueWrite_power (s : State) (l : Nat) (d : Line) (p : Poison) : (s.queueWrite l d p).power = s.power := by
  unfold State.queueWrite
  split <;> rfl

@[simp] theorem State.writeBackL3_power (s : State) : s.writeBackL3.power = s.power :=
  foldl_frame State.power _ _ s fun r _ => foldl_frame State.power _ _ r fun _ _ => State.queueWrite_power ..

@[simp] theorem State.commitFlush_power (s : State) (failed : List (Nat × Nat)) : (s.commitFlush failed).power = s.power :=
  foldl_frame State.power State.commitWindow _ s fun _ _ => rfl

@[simp] theorem State.sleepFlush_power (s : State) (k : Nat) (failed : List (Nat × Nat)) : (s.sleepFlush k failed).power = s.power := by
  refine (State.commitFlush_power _ failed).trans ?_
  change (if 3 ≤ k then s.writeBackL3 else s).power = s.power
  split
  · exact s.writeBackL3_power
  · rfl

@[simp] theorem State.losePk3_power (s : State) : s.losePk3.power = s.power := s.writeBackL3_power

@[simp] theorem State.pkEntered_power (s : State) (k : Nat) : (s.pkEntered k).power = s.power := by
  rw [State.pkEntered, State.ffLog_power, State.log_power]

@[simp] theorem State.pkWoken_power (s : State) (src : PkSrc) : (s.pkWoken src).power = s.power := by
  rw [State.pkWoken, State.ffLog_power, State.log_power]

@[simp] theorem State.pacedMsi_power (s : State) (src hart file id : Nat) (b : Bool) : (s.pacedMsi src hart file id b).power = s.power := by
  unfold State.pacedMsi
  dsimp only
  (repeat' split) <;> rfl

@[simp] theorem State.deadlineMissOf_power (s : State) (q : Nat) (r : ErrRec) : (s.deadlineMissOf q r).power = s.power := by
  unfold State.deadlineMissOf
  dsimp only
  split
  · split
    · exact (State.pacedMsi_power ..).trans (s.log_power r)
    · exact s.log_power r
  · exact s.log_power r

@[simp] theorem State.channelMissAs_power (s : State) (h n flags : Nat) : (s.channelMissAs h n flags).power = s.power :=
  State.deadlineMissOf_power ..

@[simp] theorem State.sleepMisses_power (s : State) : s.sleepMisses.power = s.power :=
  foldl_frame State.power _ _ s fun r _ => foldl_frame State.power _ _ r fun t _ => t.channelMissAs_power ..

@[simp] theorem State.armWindow_power (s : State) (w : MemWin) : (s.armWindow w).power = s.power := by
  unfold State.armWindow
  extract_lets a old ok seq t
  split
  · exact t.log_power _
  · rfl

@[simp] theorem State.armLost_power (s : State) (w : MemWin) : (s.armLost w).power = s.power := State.log_power ..

@[simp] theorem State.armAll_power (s : State) (lost : Bool) : (s.armAll lost).power = s.power := by
  refine foldl_frame State.power _ _ s fun r w => ?_
  split
  · exact r.armLost_power w
  · exact r.armWindow_power w

@[simp] theorem State.putCluster_power (s : State) (c : Nat) (x : Cluster) : (s.putCluster c x).power = s.power := by
  unfold State.putCluster
  extract_lets old t
  split
  · rfl
  · refine foldl_frame State.power _ _ t fun r h => ?_
    split <;> rfl

@[simp] theorem State.deriveLevels_power (s : State) (boost : Bool) : (s.deriveLevels boost).power = s.power :=
  foldl_frame State.power _ _ s fun r _ => r.putCluster_power ..

@[simp] theorem State.slWakeDeliver_power (s : State) : s.slWakeDeliver.power = s.power := by
  refine foldl_frame State.power _ _ s fun r p => ?_
  dsimp only
  split <;> rfl

@[simp] theorem State.demote_power (s : State) (n : Nat) : (s.demote n).power = s.power := by
  unfold State.demote
  extract_lets t
  split
  · exact State.log_power ..
  · rfl

@[simp] theorem State.demoteWhere_power (s : State) (p : GStream → Bool) : (s.demoteWhere p).power = s.power :=
  foldl_frame State.power _ _ s fun r _ => r.demote_power _

@[simp] theorem State.demotePartners_power (s : State) : s.demotePartners.power = s.power := by
  refine foldl_frame State.power _ _ s fun r i => ?_
  split
  · rfl
  · exact r.demoteWhere_power _

@[simp] theorem State.applyTables_power (s : State) (b : Binding) : (s.applyTables b).power = s.power := by
  unfold State.applyTables
  extract_lets s0 r mk n fab s1 s2
  have hplaced : s2.power = s.power := foldl_frame State.power _ r.bounds s1 fun _ _ => rfl
  rw [State.demotePartners_power, foldl_frame State.power _ _ s2 fun t n => t.demote_power n, hplaced]

@[simp] theorem State.restorePk3_power (s : State) : s.restorePk3.power = s.power := by
  unfold State.restorePk3
  extract_lets s0 s1
  have hslices : s0.power = s.power := foldl_frame State.power _ _ s fun _ _ => rfl
  rw [foldl_frame State.power (fun s i => s.resetOpenUnit (16 + i)) _ s1 fun _ _ => rfl]
  exact (s0.applyTables_power _).trans hslices

/-! ### PK_CTL (R387) -/

/-- GO, set by the row's write, does not reach the fields below it. -/
theorem fieldOf_or_top {v : Word} {lo n : Nat} (hn : lo + n ≤ 63) : fieldOf (v ||| word (2 ^ 63)) lo n = fieldOf v lo n := by
  rw [fieldOf_eq_extract, fieldOf_eq_extract]
  congr 1
  ext i hi
  have htop : (word (2 ^ 63)).getLsbD (lo + i) = false := by
    rw [word, BitVec.getLsbD_ofNat, Nat.testBit_two_pow_of_ne (by omega), Bool.and_false]
  rw [BitVec.getElem_extractLsb', BitVec.getElem_extractLsb', BitVec.getLsbD_or, htop, Bool.or_false]

theorem exec_pkCtlGo {s : State} {h : Nat} {v : Word} (hready : s.readySide h = true) (howner : s.ownerHart (.hart h) = true)
    (hidle : s.pwr.pkPending = false) (hlo : 2 ≤ fieldOf v 56 3) (hhi : fieldOf v 56 3 ≤ 4) :
    exec (.pkCtlGo h v) s = .next { s with pwr := { s.pwr with pkTarget := fieldOf v 56 3, pkWakeTime := fieldOf v 0 56, pkPending := true } } := by
  simp only [exec, execPkCtlGo, State.access_of_readySide _ hready, writePkCtl, howner, hidle, Bool.not_true, Bool.false_eq_true, if_false,
    fieldOf_or_top (show 56 + 3 ≤ 63 by decide), fieldOf_or_top (show 0 + 56 ≤ 63 by decide), flagOf_or_top, hlo, hhi, decide_true, Bool.and_self,
    if_true]

/-! ### Entry (R329, R387) -/

theorem exec_pk1Entry {s : State} (hphase : s.boot.phase = .running) (hflush : s.boot.flush = .none) (hpk : s.pwr.pk = 0)
    (hentering : s.pwr.pkEntering = none) (hc3 : s.allInC3 = true) (hidle : s.fabricIdle = true) :
    exec .pk1Entry s = .next (({ s with pwr := { s.pwr with pk := 1 } } : State).pkEntered 1) :=
  congrArg Host.Outcome.next (if_pos ⟨hphase, hflush, hpk, by rw [hentering]; rfl, hc3, hidle⟩)

@[simp] theorem State.ffLog_carries (s : State) (kind detail body : Nat) (y : Syndrome) : (s.ffLog kind detail body).carries y = s.carries y := by
  simp only [State.ffLog, State.carries]

theorem State.ffLog_logSeq (s : State) (kind detail body : Nat) : (s.ffLog kind detail body).ff.logSeq = s.ff.logSeq + 1 := by
  simp only [State.ffLog]

theorem State.pkEntered_carries (s : State) (k : Nat) : (s.pkEntered k).carries Syn.pkEntered = true := by
  rw [State.pkEntered, State.ffLog_carries]
  exact s.log_carries _ _ rfl

theorem State.pkWoken_carries (s : State) (src : PkSrc) : (s.pkWoken src).carries Syn.pkWoken = true := by
  rw [State.pkWoken, State.ffLog_carries]
  exact s.log_carries _ _ rfl

theorem State.pkEntered_logSeq (s : State) (k : Nat) : (s.pkEntered k).ff.logSeq = s.ff.logSeq + 1 := by
  rw [State.pkEntered, State.ffLog_logSeq, State.log_ff]

/-- What every step keeps and one of them brings about holds after them all. -/
theorem foldl_reaches {σ α : Type} {P : σ → Prop} {f : σ → α → σ} {l : List α} {a : α} (ha : a ∈ l) (hkeeps : ∀ r b, P r → P (f r b))
    (hreaches : ∀ r, P (f r a)) (r : σ) : P (l.foldl f r) := by
  obtain ⟨l₁, l₂, rfl⟩ := List.append_of_mem ha
  rw [List.foldl_append, List.foldl_cons]
  exact List.foldlRecOn (motive := P) _ _ (hreaches _) fun r hr b _ => hkeeps r b hr

/-- A channel of a hart that is not armed. -/
def State.disarmed (s : State) (h n : Nat) : Prop := (s.hart h).dlArmed.getLsbD n = false

/-- A channel's miss at the entry into a package state, as the hart that may sleep notes it. -/
def State.sleepMiss (s : State) (h n : Nat) : State := (s.channelMissAs h n 2).modHart h Hart.noteWake

theorem State.sleepMiss_dlArmed (s : State) (h n : Nat) :
    ((s.sleepMiss h n).hart h).dlArmed = (s.hart h).dlArmed &&& ~~~BitVec.ofNat 4 (2 ^ n) := by
  rw [State.sleepMiss, State.hart_modHart_same, Hart.noteWake_frame _ Hart.dlArmed fun _ _ => rfl, State.channelMissAs,
    State.hart_congr (State.deadlineMissOf_harts ..), State.hart_modHart_same, Hart.count_dlArmed]

theorem State.sleepMiss_other (s : State) {h k : Nat} (n : Nat) (hk : h ≠ k) : (s.sleepMiss h n).hart k = s.hart k := by
  rw [State.sleepMiss, State.hart_modHart_other _ _ hk, State.channelMissAs, State.hart_congr (State.deadlineMissOf_harts ..),
    State.hart_modHart_other _ _ hk]

theorem State.sleepMiss_disarms (s : State) (h : Nat) {n : Nat} (hn : n < 4) : (s.sleepMiss h n).disarmed h n := by
  rw [State.disarmed, State.sleepMiss_dlArmed, getLsbD_clearChannel _ hn]

theorem State.disarmed.sleepMiss {s : State} {k i : Nat} (hd : s.disarmed k i) (h n : Nat) : (s.sleepMiss h n).disarmed k i := by
  by_cases hk : h = k
  · subst hk
    rw [State.disarmed, State.sleepMiss_dlArmed, BitVec.getLsbD_and, hd, Bool.false_and]
  · rwa [State.disarmed, s.sleepMiss_other n hk]

/-- Every channel is disarmed when the package begins to sleep (R329). -/
theorem State.sleepMisses_disarm (s : State) (h : Nat) : (s.sleepMisses.hart h).dlArmed = 0 := by
  have hkeeps (k i : Nat) (r : State) (e : Nat × Hart) (hr : r.disarmed k i) :
      ((maskBits 4 e.2.dlArmed.toNat).foldl (fun s n => s.sleepMiss e.1 n) r).disarmed k i :=
    List.foldlRecOn (motive := fun t : State => t.disarmed k i) _ _ hr fun _ ht n _ => ht.sleepMiss e.1 n
  refine BitVec.eq_of_getLsbD_eq fun i hi => ?_
  rw [BitVec.ofNat_eq_ofNat, BitVec.getLsbD_zero]
  change s.sleepMisses.disarmed h i
  by_cases hd : s.disarmed h i
  · exact List.foldlRecOn (motive := fun t : State => t.disarmed h i) _ _ hd fun r hr e _ => hkeeps h i r e hr
  · have hbit : i ∈ maskBits 4 (s.hart h).dlArmed.toNat := by
      rw [maskBits, List.mem_filter, bitOf_eq_getLsbD]
      exact ⟨List.mem_range.mpr hi, Bool.not_eq_false _ ▸ hd⟩
    have hlisted : (h, s.hart h) ∈ s.harts := by
      rw [State.disarmed, State.hart, Tab.get] at hd
      rw [State.hart, Tab.get]
      cases hf : Tab.find s.harts h with
      | none => simp [hf, Hart.reset] at hd
      | some x => exact Tab.mem_of_find hf
    exact foldl_reaches (P := fun t : State => t.disarmed h i) hlisted (hkeeps h i)
      (foldl_reaches (P := fun t : State => t.disarmed h i) hbit
        (fun (t : State) n (ht : t.disarmed h i) => ht.sleepMiss h n) fun t => t.sleepMiss_disarms h hi) s

theorem State.sleepMisses_pwr (s : State) : s.sleepMisses.pwr = s.pwr := State.pwr_of_power s.sleepMisses_power
theorem State.swdSync_pwr (s : State) : s.swdSync.pwr = s.pwr := State.pwr_of_power s.swdSync_power

theorem exec_pkEntry {s : State} (hphase : s.boot.phase = .running) (hflush : s.boot.flush = .none) (hpending : s.pwr.pkPending = true)
    (hpk : s.pwr.pk < 2) (hentering : s.pwr.pkEntering = none) (hexiting : s.pwr.pkExiting = none) (hc3 : s.allInC3 = true)
    (hidle : s.fabricIdle = true) (hclasp : s.claspIdle = true) :
    ∃ t, exec .pkEntry s = .next t
      ∧ t.pwr = { s.pwr with pkPending := false, pkEntering := some s.pwr.pkTarget, pkDrained := false } ∧ ∀ h, (t.hart h).dlArmed = 0 := by
  refine ⟨_, congrArg Host.Outcome.next
    (if_pos ⟨hphase, hflush, hpending, hpk, by rw [hentering]; rfl, by rw [hexiting]; rfl, hc3, hidle, hclasp⟩), ?_, fun h => ?_⟩
  · rw [State.sleepMisses_pwr, State.swdSync_pwr]
  · exact State.sleepMisses_disarm _ h

/-! ### The end of an entry (R267, R386, R388) -/

/-- What an entry into PKk does before the package is in PKk: the rows of the flush and the losses of the state. -/
def State.intoSleep (s : State) (k : Nat) : State :=
  let s := if s.pwr.pkDrained then s else s.sleepFlush k []
  let s := (if 3 ≤ k then s.losePk3 else s).loseCds
  if k = 4 then { s with io := { s.io with groups := s.io.groups.mapAll (fun _ g => { g with linkUp := [] }) } } else s

theorem State.intoSleep_power (s : State) (k : Nat) : (s.intoSleep k).power = s.power := by
  unfold State.intoSleep
  extract_lets s1 s2
  have h1 : s1.power = s.power := by
    unfold s1
    split
    · rfl
    · exact s.sleepFlush_power k []
  have h2 : s2.power = s1.power := by
    rw [show s2 = (if 3 ≤ k then s1.losePk3 else s1).loseCds from rfl, State.loseCds_power]
    split
    · exact s1.losePk3_power
    · rfl
  rw [← h1, ← h2]
  split <;> rfl

/-- The package in PKk, as the watchdog and the logs see it. -/
def State.asleep (s : State) (k : Nat) : State :=
  (State.swdSync { s with pwr := { s.pwr with pk := k, pkEntering := none, pkDrained := false, pkWakeHeld := none } }).pkEntered k

theorem State.asleep_power (s : State) (k : Nat) :
    (s.asleep k).power = ({ s.pwr with pk := k, pkEntering := none, pkDrained := false, pkWakeHeld := none }, s.pins) := by
  rw [State.asleep, State.pkEntered_power, State.swdSync_power, State.power]

theorem pkEntryComplete_entering {s : State} {k : Nat} (hk : s.pwr.pkEntering = some k) (hpin : s.pins.resetN = true) :
    pkEntryComplete s = match s.pwr.pkWakeHeld with
      | some src => ((s.intoSleep k).asleep k).startExit src
      | none => (s.intoSleep k).asleep k := by
  have hpwr : (s.intoSleep k).pwr = s.pwr := State.pwr_of_power (s.intoSleep_power k)
  have hpins : ((s.intoSleep k).asleep k).pins = s.pins :=
    (State.pins_of_power (State.asleep_power _ k)).trans (State.pins_of_power (s.intoSleep_power k))
  have hunfold : pkEntryComplete s = if !((s.intoSleep k).asleep k).pins.resetN then ((s.intoSleep k).asleep k).startWarm .pin
      else match (s.intoSleep k).pwr.pkWakeHeld with
        | some src => ((s.intoSleep k).asleep k).startExit src
        | none => (s.intoSleep k).asleep k := by
    rw [pkEntryComplete, hk]
    rfl
  rw [hunfold, hpins, hpin, hpwr]
  rfl

theorem State.startExit_shallow {s : State} (src : PkSrc) (hpk : s.pwr.pk ≠ 4) :
    s.startExit src = { s with pwr := { s.pwr with pkExiting := some src } } := if_neg hpk

theorem exec_pkEntryComplete_unheld {s : State} {k : Nat} (hk : s.pwr.pkEntering = some k) (hpin : s.pins.resetN = true)
    (hheld : s.pwr.pkWakeHeld = none) :
    ∃ t, exec .pkEntryComplete s = .next t ∧ t.pwr = { s.pwr with pk := k, pkEntering := none, pkDrained := false }
      ∧ t.carries Syn.pkEntered = true := by
  have hpwr : (s.intoSleep k).pwr = s.pwr := State.pwr_of_power (s.intoSleep_power k)
  refine ⟨(s.intoSleep k).asleep k, congrArg Host.Outcome.next ?_, ?_, State.pkEntered_carries _ k⟩
  · rw [pkEntryComplete_entering hk hpin, hheld]
  · rw [show ((s.intoSleep k).asleep k).pwr = _ from State.pwr_of_power (State.asleep_power _ k), hpwr, ← hheld]

theorem exec_pkEntryComplete_held {s : State} {k : Nat} {src : PkSrc} (hk : s.pwr.pkEntering = some k) (hpin : s.pins.resetN = true)
    (hheld : s.pwr.pkWakeHeld = some src) (hshallow : k ≠ 4) :
    ∃ t, exec .pkEntryComplete s = .next t
      ∧ t.pwr = { s.pwr with pk := k, pkEntering := none, pkDrained := false, pkWakeHeld := none, pkExiting := some src } := by
  have hpwr : ((s.intoSleep k).asleep k).pwr = { s.pwr with pk := k, pkEntering := none, pkDrained := false, pkWakeHeld := none } := by
    rw [show ((s.intoSleep k).asleep k).pwr = _ from State.pwr_of_power (State.asleep_power _ k),
      show (s.intoSleep k).pwr = s.pwr from State.pwr_of_power (s.intoSleep_power k)]
  refine ⟨((s.intoSleep k).asleep k).startExit src, congrArg Host.Outcome.next ?_, ?_⟩
  · rw [pkEntryComplete_entering hk hpin, hheld]
  · rw [State.startExit_shallow src (by rw [hpwr]; exact hshallow), hpwr]

/-! ### FLUSH_DRAINED in an entry (R267) -/

theorem MemSys.writeRecord_wpq (m : MemSys) (a : Nat) (bs : List Byte) : (m.writeRecord a bs).wpq = m.wpq := by
  simp only [MemSys.writeRecord, MemSys.write, MemSys.setPoison]

theorem State.commitFlush_wpq (s : State) (failed : List (Nat × Nat)) : (s.commitFlush failed).mem.wpq = s.mem.wpq :=
  foldl_frame (fun s : State => s.mem.wpq) State.commitWindow _ s fun r w => MemSys.writeRecord_wpq r.mem w.recordPage _

theorem State.commitFlush_boot (s : State) (failed : List (Nat × Nat)) : (s.commitFlush failed).boot = s.boot :=
  foldl_frame State.boot State.commitWindow _ s fun _ _ => rfl

theorem State.writeBackL3_boot (s : State) : s.writeBackL3.boot = s.boot := by
  refine foldl_frame State.boot _ _ s fun r _ => foldl_frame State.boot _ _ r fun t l => ?_
  unfold State.queueWrite
  split <;> rfl

theorem State.sleepFlush_wpq (s : State) (k : Nat) (failed : List (Nat × Nat)) : (s.sleepFlush k failed).mem.wpq = [] := by
  rw [State.sleepFlush, State.commitFlush_wpq, MemSys.drain]

theorem State.sleepFlush_boot (s : State) (k : Nat) (failed : List (Nat × Nat)) : (s.sleepFlush k failed).boot = s.boot := by
  rw [State.sleepFlush, State.commitFlush_boot]
  split
  · exact s.writeBackL3_boot
  · rfl

theorem exec_flushDrained_entering {s : State} {k : Nat} (failed : List (Nat × Nat)) (hflush : s.boot.flush ≠ .stopping)
    (hk : s.pwr.pkEntering = some k) (hdrained : s.pwr.pkDrained = false) :
    ∃ t, exec (.flushDrained failed) s = .next t ∧ t.pwr = { s.pwr with pkDrained := true } ∧ t.mem.wpq = [] ∧ t.boot = s.boot := by
  have hpwr : (s.sleepFlush k failed).pwr = s.pwr := State.pwr_of_power (s.sleepFlush_power k failed)
  have hrow : flushDrained s failed
      = { s.sleepFlush k failed with pwr := { (s.sleepFlush k failed).pwr with pkDrained := true } } := by
    simp only [flushDrained, if_neg hflush, hk, hdrained, Bool.false_eq_true, if_false]
  refine ⟨_, congrArg Host.Outcome.next hrow, ?_, s.sleepFlush_wpq k failed, s.sleepFlush_boot k failed⟩
  rw [hpwr]

/-! ### Wake (R388 to R390) -/

/-- A wake source of the state starts the exit. -/
theorem State.wakeBy_asleep {s : State} {src : PkSrc} (hwakes : pkWakes src s.pwr.pk = true) (hentering : s.pwr.pkEntering = none)
    (hexiting : s.pwr.pkExiting = none) (hphase : s.boot.phase = .running) (hpk : s.pwr.pk < 4) :
    s.wakeBy src = { s with pwr := { s.pwr with pkExiting := some src } } := by
  rw [State.wakeBy, hentering]
  simp only [hwakes, hexiting, hphase, Option.isNone_none, decide_true, Bool.and_self, if_true]
  exact State.startExit_shallow src (by omega)

/-- A wake source that comes during the entry is held. -/
theorem State.wakeBy_entering {s : State} {src : PkSrc} {k : Nat} (hk : s.pwr.pkEntering = some k) (hwakes : pkWakes src k = true)
    (hheld : s.pwr.pkWakeHeld = none) : s.wakeBy src = { s with pwr := { s.pwr with pkWakeHeld := some src } } := by
  rw [State.wakeBy, hk]
  simp only [hwakes, hheld, Option.isNone_none, Bool.and_self, if_true]

theorem exec_pkWake_seen {s : State} {src : PkSrc} (hseen : s.wakeSeen src = true) : exec (.pkWake src) s = .next (s.wakeBy src) :=
  congrArg Host.Outcome.next (if_pos hseen)

theorem exec_wakeTimeReached_due {s : State} (hdue : s.wakeTimeDue = true) : exec .wakeTimeReached s = .next (s.wakeBy .wakeTime) :=
  congrArg Host.Outcome.next (if_pos hdue)

theorem pkWakes_wakeTime {k : Nat} (hlo : 1 ≤ k) (hhi : k < 4) : pkWakes .wakeTime k = true := by
  simp only [pkWakes, hlo, show k ≤ 4 by omega, decide_true, Bool.and_self]

/-! ### Exit (R265, R314, R376, R386) -/

/-- What a wake from PKk sets up before it is logged. -/
def State.outOfSleep (s : State) (k : Nat) : State :=
  let s := if k = 3 then s.restorePk3 else s
  if k = 1 then s else ((s.deriveLevels false).armAll false).slWakeDeliver.swdRestart

theorem State.outOfSleep_power (s : State) (k : Nat) : (s.outOfSleep k).power = s.power := by
  unfold State.outOfSleep
  extract_lets s1
  have h1 : s1.power = s.power := by
    unfold s1
    split
    · exact s.restorePk3_power
    · rfl
  rw [← h1]
  split
  · rfl
  · rw [State.swdRestart_power, State.slWakeDeliver_power, State.armAll_power, State.deriveLevels_power]

theorem exec_pkExitComplete {s : State} {src : PkSrc} (hexiting : s.pwr.pkExiting = some src) (hlo : 1 ≤ s.pwr.pk) (hhi : s.pwr.pk < 4) :
    ∃ t, exec .pkExitComplete s = .next t ∧ t.pwr = { s.pwr with pk := 0, pkExiting := none } ∧ t.carries Syn.pkWoken = true := by
  have hrow : pkExitComplete s
      = ((State.outOfSleep { s with pwr := { s.pwr with pk := 0, pkExiting := none } } s.pwr.pk).pkWoken src) := by
    rw [pkExitComplete, hexiting]
    exact if_neg (by omega)
  refine ⟨_, congrArg Host.Outcome.next hrow, ?_, State.pkWoken_carries _ src⟩
  exact State.pwr_of_power ((State.pkWoken_power _ src).trans (State.outOfSleep_power _ _))

/-! ### The statement -/

/-- Settles O49: each row of the package states in turn; what the entry and the exit do besides leaves the power state as it is. -/
theorem packageStates : Obligations.Package_states := by
  unfold Obligations.Package_states
  refine ⟨fun s h v hready howner hidle hlo hhi => exec_pkCtlGo hready howner hidle hlo hhi, ?_,
    fun s hphase hflush hpending hpk hentering hexiting hc3 hidle hclasp =>
      exec_pkEntry hphase hflush hpending hpk hentering hexiting hc3 hidle hclasp,
    fun s k hk hpin => ⟨exec_pkEntryComplete_unheld hk hpin, fun src hheld hshallow => exec_pkEntryComplete_held hk hpin hheld hshallow⟩,
    fun s k failed hflush hk hdrained => exec_flushDrained_entering failed hflush hk hdrained, ?_, ?_,
    fun s src hexiting hlo hhi => exec_pkExitComplete hexiting hlo hhi⟩
  · intro s hphase hflush hpk hentering hc3 hidle
    refine ⟨_, exec_pk1Entry hphase hflush hpk hentering hc3 hidle, ?_, State.pkEntered_carries _ 1, State.pkEntered_logSeq _ 1⟩
    exact State.pwr_of_power (State.pkEntered_power _ 1)
  · intro s src hseen
    rw [exec_pkWake_seen hseen]
    exact ⟨fun hwakes hentering hexiting hphase hpk => by rw [State.wakeBy_asleep hwakes hentering hexiting hphase hpk],
      fun k hk hwakes hheld => by rw [State.wakeBy_entering hk hwakes hheld]⟩
  · intro s hdue hlo hhi hentering hexiting hphase
    rw [exec_wakeTimeReached_due hdue, State.wakeBy_asleep (pkWakes_wakeTime hlo hhi) hentering hexiting hphase hhi]

end Sys2Proof.Machine
end

section
/-! PROOFS. The recovery interface (R367, R373): its answers, owner slots, and a Binding loaded over it. -/

namespace Sys2Proof.Machine

theorem State.changesOnly_clasp (s : State) (c : Clasp) : s.changesOnly [.clasp] { s with clasp := c } := by
  intro p hp
  cases p with
  | clasp => simp at hp
  | _ => rfl

/-! ### Answers -/

@[simp] theorem State.answer_smbAnswer (s : State) (data : List Byte) : (s.answer data).clasp.smbAnswer = 0 :: data := rfl
@[simp] theorem State.answer_owner (s : State) (data : List Byte) (i : Nat) : (s.answer data).owner i = s.owner i := rfl
@[simp] theorem State.answer_updCounter (s : State) (data : List Byte) : (s.answer data).clasp.updCounter = s.clasp.updCounter := rfl
@[simp] theorem State.answer_challenge (s : State) (data : List Byte) : (s.answer data).clasp.challenge = s.clasp.challenge := rfl
@[simp] theorem State.answer_session (s : State) (data : List Byte) : (s.answer data).clasp.session = s.clasp.session := rfl
@[simp] theorem State.answer_carries (s : State) (data : List Byte) (y : Syndrome) : (s.answer data).carries y = s.carries y := rfl

/-- A refusal answers error code 1; the owner slots, their counter, a Binding's programming and a debug session stay as they are. -/
theorem State.answerRefused_clasp (s : State) (y : Syndrome) :
    (s.answerRefused y).clasp.smbAnswer = [1] ∧ (s.answerRefused y).clasp.owners = s.clasp.owners
      ∧ (s.answerRefused y).clasp.updCounter = s.clasp.updCounter ∧ (s.answerRefused y).clasp.work = s.clasp.work
      ∧ (s.answerRefused y).clasp.challenge = s.clasp.challenge ∧ (s.answerRefused y).clasp.session = s.clasp.session :=
  ⟨State.log_clasp_smbAnswer .., State.log_clasp_owners .., State.log_clasp_updCounter .., State.log_clasp_work ..,
    State.log_clasp_challenge .., State.log_clasp_session ..⟩

theorem exec_status {s : State} (hup : s.smbusUp = true) :
    ∃ t, exec .status s = .next t ∧ t.clasp.smbAnswer.take 5 = 0 :: toLE 4 s.colFlags ∧ s.changesOnly [.clasp] t := by
  refine ⟨_, congrArg Host.Outcome.next (if_pos hup), ?_, s.changesOnly_clasp _⟩
  rw [State.answer_smbAnswer, List.take_succ_cons, List.take_left' (toLE_length 4 _)]

theorem exec_colophon {s : State} (n : BitVec 256) (hup : s.smbusUp = true) :
    ∃ t, exec (.colophon n) s = .next t ∧ t.clasp.smbAnswer = 0 :: (s.colBody n ++ sigBytes (aliasSign (s.colBody n) s.free))
      ∧ t.free = s.free + 1 ∧ t.clasp.epoch = s.clasp.epoch :=
  ⟨_, congrArg Host.Outcome.next (if_pos hup), rfl, rfl, rfl⟩

theorem exec_debugChallenge {s : State} (hup : s.smbusUp = true) :
    ∃ t, exec .debugChallenge s = .next t
      ∧ t.clasp.challenge = some (BitVec.ofNat 256 (Config.freeValue s.free), s.time.now + 60000000000) ∧ t.free = s.free + 1 := by
  refine ⟨_, congrArg Host.Outcome.next (if_neg (by rw [hup]; decide)), rfl, rfl⟩

theorem exec_debugChallengeExpiry_due {s : State} {c : BitVec 256} {fin : Nat} (hchallenge : s.clasp.challenge = some (c, fin))
    (hdue : fin ≤ s.time.now) : exec .debugChallengeExpiry s = .next { s with clasp := { s.clasp with challenge := none } } := by
  simp only [exec, execDebugChallengeExpiry, hchallenge, if_pos hdue]

/-! ### Owner slots (R367, R373) -/

@[simp] theorem State.owner_setOwner_same (s : State) (i : Nat) (o : Owner) : (s.setOwner i o).owner i = o := by
  rw [State.owner, State.setOwner, State.needResign, State.log_clasp_owners, Tab.get_set_same]

theorem State.owner_setOwner_other (s : State) {i k : Nat} (o : Owner) (hk : i ≠ k) : (s.setOwner i o).owner k = s.owner k := by
  rw [State.owner, State.setOwner, State.needResign, State.log_clasp_owners, Tab.get_set_other _ _ _ hk, State.owner]

theorem State.setOwner_updCounter (s : State) (i : Nat) (o : Owner) : (s.setOwner i o).clasp.updCounter = s.clasp.updCounter := by
  rw [State.setOwner, State.needResign, State.log_clasp_updCounter]

theorem State.setOwner_carries (s : State) (i : Nat) (o : Owner) : (s.setOwner i o).carries Syn.ownerKeyChanged = true :=
  State.log_carries _ _ _ rfl

theorem exec_ownerEnrol_empty {s : State} {a b : List Byte} (hup : s.smbusUp = true) (hempty : ∀ i < 4, (s.owner i).st = .empty)
    (ha : a.length = 2592) (hb : b.length = 97) :
    exec (.ownerEnrol a b) s = .next ((s.setOwner 0 { st := .active, hashes := sha384 a ++ sha384 b }).answer []) := by
  have hslots : (List.range 4).all (fun i => decide ((s.owner i).st = .empty)) = true := by
    simpa only [List.all_eq_true, List.mem_range, decide_eq_true_eq] using hempty
  simp only [exec, execOwnerEnrol, ownerEnrol, hup, hslots, ha, hb, Bool.not_true, Bool.false_eq_true, if_false, beq_self_eq_true, Bool.and_self,
    if_true]

/-- An owner's update to ACTIVE with the next counter, of a slot that advances, stands and falls with the signatures. -/
theorem ownerUpdate_next {s : State} {i c : Nat} {hs : List Byte} {g : SigBlock} (hup : s.smbusUp = true) (hi : i < 4) (hlen : hs.length = 96)
    (hc : c = s.clasp.updCounter + 1) (hadv : s.slotAdvances i .active = true) :
    ownerUpdate s i 1 hs c g = if s.ownerSigned (toLE 1 i ++ toLE 1 1 ++ hs ++ toLE 8 c) g = true then
        (State.setOwner { s with clasp := { s.clasp with updCounter := c } } i { st := .active, hashes := hs }).answer []
      else s.answerRefused Syn.ownerKeyFail := by
  unfold ownerUpdate ownerOfCode
  simp only [hup, hi, hlen, ← hc, hadv, Bool.not_true, Bool.false_eq_true, if_false, decide_true, beq_self_eq_true, Bool.true_and, Bool.and_true]

theorem exec_ownerUpdate_next {s : State} {i c : Nat} {hs : List Byte} {g : SigBlock} (hup : s.smbusUp = true) (hi : i < 4)
    (hlen : hs.length = 96) (hc : c = s.clasp.updCounter + 1) (hadv : s.slotAdvances i .active = true) :
    ∃ t, exec (.ownerUpdate i 1 hs c g) s = .next t
      ∧ (if s.ownerSigned (toLE 1 i ++ toLE 1 1 ++ hs ++ toLE 8 c) g = true then
          t.owner i = { st := .active, hashes := hs } ∧ t.clasp.updCounter = c ∧ t.clasp.smbAnswer = [0]
        else t.clasp.owners = s.clasp.owners ∧ t.clasp.updCounter = s.clasp.updCounter ∧ t.clasp.smbAnswer = [1]) := by
  refine ⟨_, congrArg Host.Outcome.next (ownerUpdate_next hup hi hlen hc hadv), ?_⟩
  split
  · refine ⟨?_, ?_, rfl⟩
    · rw [State.answer_owner, State.owner_setOwner_same]
    · rw [State.answer_updCounter, State.setOwner_updCounter]
  · obtain ⟨hanswer, howners, hcounter, -⟩ := s.answerRefused_clasp Syn.ownerKeyFail
    exact ⟨howners, hcounter, hanswer⟩

/-! ### LOAD_BINDING (R72, R373) -/

theorem exec_loadBinding_noBinding {s : State} (img : List Byte) (hup : s.smbusUp = true) (hphase : s.boot.phase = .noBinding)
    (hwork : s.clasp.work = none) :
    ∃ t, exec (.loadBinding img) s = .next t
      ∧ (if (s.storeFault img).isNone then (∃ k, t.clasp.work = some (.flash none img k)) ∧ t.clasp.smbAnswer = [0]
        else t.clasp.work = none ∧ t.clasp.smbAnswer = [1]) := by
  refine ⟨loadBinding s img, rfl, ?_⟩
  have hfree : ¬(s.boot.phase ≠ .noBinding ∨ s.clasp.work.isSome = true) := by simp [hphase, hwork]
  simp only [loadBinding, hup, Bool.not_true, Bool.false_eq_true, if_false, if_neg hfree]
  cases hfault : s.storeFault img with
  | none => exact ⟨⟨s.targetSlot, rfl⟩, rfl⟩
  | some y =>
    obtain ⟨hanswer, -, -, hkept, -⟩ := (s.logClasp y).answerRefused_clasp Syn.ownerKeyFail
    refine ⟨?_, hanswer⟩
    rw [hkept, State.logClasp, State.log_clasp_work, hwork]

/-- Settles O8: each command of the recovery interface by its row, the owner slots through `setOwner`. -/
theorem ownerInterface : Obligations.Owner_interface := by
  unfold Obligations.Owner_interface
  refine ⟨⟨fun s hup => exec_status hup, fun s n hup => exec_colophon n hup, fun s hup => exec_debugChallenge hup,
    fun s c fin hchallenge hdue => exec_debugChallengeExpiry_due hchallenge hdue⟩, ?_, ?_, ?_⟩
  · intro s a b hup hempty ha hb
    refine ⟨_, exec_ownerEnrol_empty hup hempty ha hb, ?_, fun i hi => ?_, rfl, ?_⟩
    · rw [State.answer_owner, State.owner_setOwner_same]
    · rw [State.answer_owner, State.owner_setOwner_other _ _ (Ne.symm hi)]
    · rw [State.answer_carries, State.setOwner_carries]
  · exact fun s i c hs g hup hi hlen hc hadv => exec_ownerUpdate_next hup hi hlen hc hadv
  · exact fun s img hup hphase hwork => exec_loadBinding_noBinding img hup hphase hwork

end Sys2Proof.Machine
end

section
/-! PROOFS. Debug sessions, the Colophon signed again, and the Secure watchdog (R372 to R374, R376). -/

namespace Sys2Proof.Machine

/-! ### The watchdog's count -/

/-- What a watchdog is set to: whether it runs, its target, its period and its stage. -/
def Swd.setting (w : Swd) : Bool × Nat × Nat × Nat × Nat := (w.enable, w.hart, w.id, w.periodMs, w.stage)

theorem State.swdSync_only (s : State) :
    ∃ w, w.setting = s.clasp.swd.setting ∧ s.swdSync = s.setSwd w := by
  unfold State.swdSync
  extract_lets w
  split
  · exact ⟨w, rfl, rfl⟩
  · refine ⟨_, ?_, rfl⟩
    rfl

theorem State.swdRestart_only (s : State) :
    ∃ w, w.setting = s.clasp.swd.setting ∧ s.swdRestart = s.setSwd w := by
  unfold State.swdRestart
  extract_lets w
  split
  · exact ⟨w, rfl, rfl⟩
  · refine ⟨_, ?_, rfl⟩
    rfl

/-- Bringing the count up to now leaves of the state what the watchdog's count has no part in. -/
theorem State.swdSync_frame {β : Type} (g : State → β) (hg : ∀ s w, g (State.setSwd s w) = g s) (s : State) : g s.swdSync = g s := by
  obtain ⟨w, -, h⟩ := s.swdSync_only
  rw [h, hg]

theorem State.swdRestart_frame {β : Type} (g : State → β) (hg : ∀ s w, g (State.setSwd s w) = g s) (s : State) : g s.swdRestart = g s := by
  obtain ⟨w, -, h⟩ := s.swdRestart_only
  rw [h, hg]

@[simp] theorem State.swdSync_setting (s : State) : s.swdSync.clasp.swd.setting = s.clasp.swd.setting := by
  obtain ⟨w, hw, h⟩ := s.swdSync_only
  rw [h]
  exact hw

@[simp] theorem State.swdRestart_setting (s : State) : s.swdRestart.clasp.swd.setting = s.clasp.swd.setting := by
  obtain ⟨w, hw, h⟩ := s.swdRestart_only
  rw [h]
  exact hw

/-- A running watchdog counts from zero. -/
theorem State.swdRestart_counted {s : State} (hrun : s.clasp.swd.enable = true) : s.swdRestart.clasp.swd.counted = 0 := by
  simp [State.swdRestart, hrun, State.setSwd]

/-- The count does not depend on when it was brought up to now. -/
theorem State.swdSync_swdCounted (s : State) : s.swdSync.swdCounted = s.swdCounted := by
  unfold State.swdSync
  extract_lets w
  split
  · rfl
  · cases hpaused : s.swdPaused <;> simp [State.swdCounted, State.setSwd]

theorem Swd.setting_inj {w v : Swd} (h : w.setting = v.setting) :
    w.enable = v.enable ∧ w.hart = v.hart ∧ w.id = v.id ∧ w.periodMs = v.periodMs ∧ w.stage = v.stage := by
  simpa only [Swd.setting, Prod.mk.injEq] using h

theorem State.swdSync_swdDue (s : State) : s.swdSync.swdDue = s.swdDue := by
  obtain ⟨henable, -, -, hperiod, -⟩ := Swd.setting_inj s.swdSync_setting
  rw [State.swdDue, State.swdDue, henable, hperiod, s.swdSync_swdCounted]

/-! ### Sessions (R373, R374) -/

/-- Harts that go on out of debug mode leave of the state what neither the harts nor the watchdog's count have a part in. -/
theorem State.releaseHalted_frame {β : Type} (g : State → β) (hhart : ∀ s h f, g (State.modHart s h f) = g s)
    (hswd : ∀ s w, g (State.setSwd s w) = g s) (s : State) : g s.releaseHalted = g s := by
  rw [State.releaseHalted, State.swdSync_frame g hswd, foldl_frame g _ _ s fun r h => hhart r h _]

theorem State.releaseHalted_session (s : State) : s.releaseHalted.clasp.session = s.clasp.session :=
  s.releaseHalted_frame (fun s => s.clasp.session) (fun _ _ _ => rfl) (fun _ _ => rfl)

theorem State.releaseHalted_challenge (s : State) : s.releaseHalted.clasp.challenge = s.clasp.challenge :=
  s.releaseHalted_frame (fun s => s.clasp.challenge) (fun _ _ _ => rfl) (fun _ _ => rfl)

theorem State.releaseHalted_carries (s : State) (y : Syndrome) : s.releaseHalted.carries y = s.carries y :=
  s.releaseHalted_frame (fun s => s.carries y) (fun _ _ _ => rfl) (fun _ _ => rfl)

theorem State.swdSync_ceiling (s : State) : s.swdSync.debugCeiling = s.debugCeiling :=
  s.swdSync_frame State.debugCeiling fun _ _ => rfl

theorem State.swdSync_time (s : State) : s.swdSync.time = s.time := s.swdSync_frame State.time fun _ _ => rfl

theorem State.swdSync_challenge (s : State) : s.swdSync.clasp.challenge = s.clasp.challenge :=
  s.swdSync_frame (fun s => s.clasp.challenge) fun _ _ => rfl

theorem State.openSession_session (s : State) (bits : BitVec 4) (d : Nat) :
    (s.openSession bits d).clasp.session = some { bits := bits &&& s.debugCeiling, fin := s.time.now + d * 1000000000 } := by
  rw [State.openSession, State.needResign, State.releaseHalted_session, State.log_clasp_session, s.swdSync_ceiling, s.swdSync_time]

theorem State.openSession_challenge (s : State) (bits : BitVec 4) (d : Nat) :
    (s.openSession bits d).clasp.challenge = s.clasp.challenge := by
  rw [State.openSession, State.needResign, State.releaseHalted_challenge, State.log_clasp_challenge]
  exact s.swdSync_challenge

/-- A session that ends leaves its record, and the Colophon to be signed again. -/
theorem State.closeSession_open {s : State} (hopen : s.clasp.session.isSome = true) :
    s.closeSession.clasp.session = none ∧ s.closeSession.clasp.resign = true ∧ s.closeSession.carries Syn.debugClosed = true := by
  simp only [State.closeSession, hopen, if_true]
  refine ⟨?_, rfl, ?_⟩
  · rw [State.needResign, State.releaseHalted_session, State.logClasp, State.log_clasp_session]
  · change State.carries (State.releaseHalted _) Syn.debugClosed = true
    rw [State.releaseHalted_carries]
    exact State.log_carries _ _ _ rfl

theorem exec_debugOpen_challenged {s : State} {bits d fin : Nat} {c : BitVec 256} {g : SigBlock} (hup : s.smbusUp = true)
    (hchallenge : s.clasp.challenge = some (c, fin)) (hvalid : s.time.now < fin) :
    exec (.debugOpen bits d g) s = .next (if s.ownerSigned (s.debugFields bits d c) g = true
      then (State.openSession { s with clasp := { s.clasp with challenge := none } } (BitVec.ofNat 4 bits) d).answer []
      else State.answerRefused { s with clasp := { s.clasp with challenge := none } } Syn.debugAuthFail) := by
  simp only [exec, execDebugOpen, debugOpen, hup, Bool.not_true, Bool.false_eq_true, if_false, hchallenge, hvalid, decide_true, Bool.true_and]

theorem exec_debugOpen_session {s : State} {bits d fin : Nat} {c : BitVec 256} {g : SigBlock} (hup : s.smbusUp = true)
    (hchallenge : s.clasp.challenge = some (c, fin)) (hvalid : s.time.now < fin) :
    ∃ t, exec (.debugOpen bits d g) s = .next t ∧ t.clasp.challenge = none
      ∧ t.clasp.session = (if s.ownerSigned (s.debugFields bits d c) g = true then
          some { bits := BitVec.ofNat 4 bits &&& s.debugCeiling, fin := s.time.now + d * 1000000000 }
        else s.clasp.session) := by
  refine ⟨_, exec_debugOpen_challenged hup hchallenge hvalid, ?_⟩
  split
  · rw [State.answer_challenge, State.answer_session, State.openSession_challenge, State.openSession_session]
    exact ⟨rfl, rfl⟩
  · obtain ⟨-, -, -, -, hused, hkept⟩ :=
      State.answerRefused_clasp { s with clasp := { s.clasp with challenge := none } } Syn.debugAuthFail
    exact ⟨hused, hkept⟩

theorem exec_debugClose_open {s : State} (hup : s.smbusUp = true) (hopen : s.clasp.session.isSome = true) :
    ∃ t, exec .debugClose s = .next t ∧ t.clasp.session = none ∧ t.clasp.resign = true ∧ t.carries Syn.debugClosed = true :=
  ⟨_, congrArg Host.Outcome.next (if_pos hup), State.closeSession_open hopen⟩

theorem exec_debugSessionExpiry_due {s : State} {c : Session} (hsession : s.clasp.session = some c) (hdue : c.fin ≤ s.time.now) :
    ∃ t, exec .debugSessionExpiry s = .next t ∧ t.clasp.session = none ∧ t.clasp.resign = true ∧ t.carries Syn.debugClosed = true := by
  refine ⟨s.closeSession, ?_, State.closeSession_open (by rw [hsession]; rfl)⟩
  simp only [exec, execDebugSessionExpiry, hsession, if_pos hdue]

theorem State.changesOnly_clasp_free (s : State) (c : Clasp) (n : Nat) : s.changesOnly [.clasp, .free] { s with clasp := c, free := n } := by
  intro p hp
  cases p with
  | clasp | free => simp at hp
  | _ => rfl

theorem exec_colophonResign_due {s : State} (hresign : s.clasp.resign = true) (hup : s.boot.claspUp = true) :
    ∃ t, exec .colophonResign s = .next t ∧ t.clasp.epoch = (s.clasp.epoch + 1) % 2 ^ 32 ∧ t.clasp.resign = false
      ∧ s.changesOnly [.clasp, .free] t :=
  ⟨_, congrArg Host.Outcome.next (if_pos (by rw [hresign, hup]; rfl)), rfl, rfl, s.changesOnly_clasp_free _ _⟩

/-! ### SWD_CTL (R376) -/

@[simp] theorem State.logWrite_swd (s : State) (y : Syndrome) (who : Agent) (die block off : Nat) (v : Word) :
    (s.logWrite y who die block off v).clasp.swd = s.clasp.swd := State.log_clasp_swd ..

@[simp] theorem State.reserved_swd (s : State) (who : Agent) (die block off : Nat) (v : Word) (own : Nat) :
    (s.reserved who die block off v own).clasp.swd = s.clasp.swd := by
  unfold State.reserved
  split
  · rfl
  · exact s.logWrite_swd ..

/-- A watchdog is started: its stage is 0 and it counts from zero, with the period written. -/
theorem writeSwd_starts {s : State} {h : Nat} {v : Word} (hhart : s.swdHart (.hart h) = true) (hoff : s.clasp.swd.enable = false)
    (hgo : flagOf v 63 = true) (hlo : 0 < fieldOf v 0 17) (hhi : fieldOf v 0 17 ≤ 60000) :
    ∃ t w, writeSwd s (.hart h) v = (State.setSwd t w).swdRestart ∧ w.enable = true ∧ w.stage = 0 ∧ w.periodMs = fieldOf v 0 17 := by
  have hne : fieldOf v 0 17 ≠ 0 := by omega
  simp only [writeSwd, hhart, State.reserved_swd, hoff, hgo, if_pos hhi, hne, Bool.not_true, Bool.not_false, Bool.false_and, Bool.false_eq_true,
    if_false, ne_eq, not_false_eq_true, decide_true, Bool.and_self, Bool.false_or, if_true]
  exact ⟨_, _, rfl, rfl, rfl, rfl⟩

theorem exec_swdEnable {s : State} {h : Nat} {v : Word} (hready : s.readySide h = true) (hhart : s.swdHart (.hart h) = true)
    (hoff : s.clasp.swd.enable = false) (hlo : 0 < fieldOf (v ||| word (2 ^ 63)) 0 17) (hhi : fieldOf (v ||| word (2 ^ 63)) 0 17 ≤ 60000) :
    ∃ t, exec (.swdEnable h v) s = .next t ∧ t.clasp.swd.enable = true ∧ t.clasp.swd.stage = 0 ∧ t.clasp.swd.counted = 0
      ∧ t.clasp.swd.periodMs = fieldOf (v ||| word (2 ^ 63)) 0 17 := by
  obtain ⟨u, w, hwrite, henable, hstage, hperiod⟩ := writeSwd_starts hhart hoff (flagOf_or_top v) hlo hhi
  obtain ⟨henable', -, -, hperiod', hstage'⟩ := Swd.setting_inj (u.setSwd w).swdRestart_setting
  refine ⟨(u.setSwd w).swdRestart, ?_, henable'.trans henable, hstage'.trans hstage, State.swdRestart_counted henable, hperiod'.trans hperiod⟩
  rw [← hwrite]
  exact congrArg Host.Outcome.next (State.access_of_readySide _ hready)

/-- Neither expiry changes whether the watchdog runs or its period. -/
theorem swdFirst_runs (s : State) : (swdFirst s).clasp.swd.enable = s.clasp.swd.enable
    ∧ (swdFirst s).clasp.swd.periodMs = s.clasp.swd.periodMs := by
  obtain ⟨henable, -, -, hperiod, -⟩ := Swd.setting_inj s.swdSync_setting
  unfold swdFirst
  extract_lets t w u
  split
  · obtain ⟨henable', -, -, hperiod', -⟩ := Swd.setting_inj (t.setSwd { w with stage := 1 }).swdRestart_setting
    have hlog : ((u.logClaspFor (u.hart w.hart).qid Syn.swdFirst).sendMsi w.hart 0 w.id true).clasp.swd = u.clasp.swd :=
      State.log_clasp_swd ..
    rw [hlog]
    exact ⟨henable'.trans henable, hperiod'.trans hperiod⟩
  · exact ⟨rfl, rfl⟩

theorem swdReset_runs (s : State) : (swdReset s).clasp.swd.enable = s.clasp.swd.enable
    ∧ (swdReset s).clasp.swd.periodMs = s.clasp.swd.periodMs := by
  obtain ⟨henable, -, -, hperiod, -⟩ := Swd.setting_inj s.swdSync_setting
  obtain ⟨henable', -, -, hperiod', -⟩ := Swd.setting_inj s.swdSync.swdRestart_setting
  unfold swdReset
  extract_lets t
  split
  · rw [State.logClaspFor, State.log_clasp_swd]
    exact ⟨henable'.trans henable, hperiod'.trans hperiod⟩
  · exact ⟨rfl, rfl⟩

/-- A kick of a running watchdog: an expiry that is due takes effect first, then its stage is 0 and it counts from zero. -/
theorem writeSwd_kicks {s : State} {h : Nat} {v : Word} (hhart : s.swdHart (.hart h) = true) (hrun : s.clasp.swd.enable = true)
    (hkick : flagOf v 62 = true) :
    ∃ t, writeSwd s (.hart h) v = (State.setSwd t { t.clasp.swd with stage := 0 }).swdRestart ∧ t.clasp.swd.enable = true
      ∧ t.clasp.swd.periodMs = s.clasp.swd.periodMs := by
  have hexpiries (u : State) (hue : u.clasp.swd.enable = true) (hup : u.clasp.swd.periodMs = s.clasp.swd.periodMs) :
      (swdReset (swdFirst u)).clasp.swd.enable = true
      ∧ (swdReset (swdFirst u)).clasp.swd.periodMs = s.clasp.swd.periodMs := by
    obtain ⟨he, hp⟩ := swdReset_runs (swdFirst u)
    obtain ⟨he', hp'⟩ := swdFirst_runs u
    exact ⟨by rw [he, he', hue], by rw [hp, hp', hup]⟩
  simp only [writeSwd, hhart, State.reserved_swd, hrun, hkick, Bool.not_true, Bool.false_eq_true, if_false, Bool.and_false, Bool.false_and,
    Bool.or_false, if_true]
  exact ⟨_, rfl, hexpiries _ rfl rfl⟩

theorem exec_kick {s : State} {h : Nat} (hready : s.readySide h = true) (hhart : s.swdHart (.hart h) = true)
    (hrun : s.clasp.swd.enable = true) :
    ∃ t, exec (.kick h) s = .next t ∧ t.clasp.swd.stage = 0 ∧ t.clasp.swd.counted = 0 ∧ t.clasp.swd.enable = true
      ∧ t.clasp.swd.periodMs = s.clasp.swd.periodMs := by
  have hbit : flagOf ((s.swdRead &&& word 0x0000FFFFFFE1FFFF) ||| word (2 ^ 62)) 62 = true := by
    have hset : (word (2 ^ 62)).getLsbD 62 = true := by decide
    rw [flagOf_eq_getLsbD, BitVec.getLsbD_or, hset, Bool.or_true]
  obtain ⟨u, hwrite, henable, hperiod⟩ := writeSwd_kicks hhart hrun hbit
  obtain ⟨henable', -, -, hperiod', hstage'⟩ := Swd.setting_inj (u.setSwd { u.clasp.swd with stage := 0 }).swdRestart_setting
  refine ⟨(u.setSwd { u.clasp.swd with stage := 0 }).swdRestart, ?_, hstage', State.swdRestart_counted henable, henable'.trans henable,
    hperiod'.trans hperiod⟩
  rw [← hwrite]
  exact congrArg Host.Outcome.next (State.access_of_readySide _ hready)

/-! ### The watchdog's expiries (R376) -/

theorem exec_swdFirst_due {s : State} (hdue : s.swdDue = true) (hstage : s.clasp.swd.stage = 0) :
    ∃ t, exec .swdFirst s = .next t ∧ t.clasp.swd.stage = 1
      ∧ t.net.msi = s.net.msi ++ [{ hart := s.clasp.swd.hart, file := 0, id := s.clasp.swd.id, secure := true }]
      ∧ t.carries Syn.swdFirst = true := by
  obtain ⟨-, hhart, hid, -, hstage'⟩ := Swd.setting_inj s.swdSync_setting
  have hnow : (s.swdSync.swdDue && s.swdSync.clasp.swd.stage == 0) = true := by
    rw [s.swdSync_swdDue, hdue, hstage', hstage]
    rfl
  refine ⟨_, congrArg Host.Outcome.next (if_pos hnow), ?_, ?_, ?_⟩
  · obtain ⟨-, -, -, -, hone⟩ := Swd.setting_inj (s.swdSync.setSwd { s.swdSync.clasp.swd with stage := 1 }).swdRestart_setting
    rw [State.sendMsi_clasp, State.logClaspFor, State.log_clasp_swd, hone]
    rfl
  · have hnet : ∀ t : State, t.swdSync.net = t.net := State.swdSync_frame State.net fun _ _ => rfl
    rw [State.sendMsi, State.logClaspFor, State.log_net, State.swdRestart_frame State.net fun _ _ => rfl, hhart, hid]
    exact congrArg (· ++ _) (congrArg Net.msi (hnet s))
  · exact State.log_carries _ _ _ rfl

theorem State.raiseFatal_isSome (s : State) (r : ErrRec) : (s.raiseFatal r).boot.fatal.isSome = true := by
  unfold State.raiseFatal
  split
  · next h => rw [h]; rfl
  · rfl

/-- A fatal record of the kind that R356 resets for is kept as the fatal one. -/
theorem State.log_fatal {s : State} {r : ErrRec} (hsev : r.severity = 3) (hresets : fatalResets r.syndrome = true) :
    (s.log r).boot.fatal.isSome = true := by
  unfold State.log
  extract_lets u r' v s1 s2
  rw [if_pos ⟨hsev, hresets⟩]
  exact State.raiseFatal_isSome ..

theorem exec_swdReset_due {s : State} (hdue : s.swdDue = true) (hstage : s.clasp.swd.stage = 1) :
    ∃ t, exec .swdReset s = .next t ∧ t.boot.fatal.isSome = true ∧ t.carries Syn.swdReset = true := by
  obtain ⟨-, -, -, -, hstage'⟩ := Swd.setting_inj s.swdSync_setting
  have hnow : (s.swdSync.swdDue && s.swdSync.clasp.swd.stage == 1) = true := by
    rw [s.swdSync_swdDue, hdue, hstage', hstage]
    rfl
  exact ⟨_, congrArg Host.Outcome.next (if_pos hnow), State.log_fatal rfl (show fatalResets Syn.swdReset.code = true by decide),
    State.log_carries _ _ _ rfl⟩

/-- Settles O9: sessions through `openSession` and `closeSession`, the watchdog through its setting, which the count does not touch. -/
theorem sessionsAndWatchdog : Obligations.Sessions_and_watchdog := by
  unfold Obligations.Sessions_and_watchdog
  exact ⟨⟨fun s bits d fin c g hup hchallenge hvalid => exec_debugOpen_session hup hchallenge hvalid,
      fun s hup hopen => exec_debugClose_open hup hopen,
      fun s c hsession hdue => exec_debugSessionExpiry_due hsession hdue,
      fun s hresign hup => exec_colophonResign_due hresign hup⟩,
    fun s h v hready hhart hoff hlo hhi => exec_swdEnable hready hhart hoff hlo hhi,
    fun s h hready hhart hrun => exec_kick hready hhart hrun,
    fun s hdue hstage => exec_swdFirst_due hdue hstage,
    fun s hdue hstage => exec_swdReset_due hdue hstage⟩

end Sys2Proof.Machine
end

section
/-! PROOFS. Crypto operations (R368, R369): an operation that may act, the bytes it reads and puts, and the key handles. -/

namespace Sys2Proof.Machine

/-! ### States that differ in the Queue Engine, free values and statistics only -/

/-- A state that may differ from another in what no line's value rests on. -/
def State.besides (s t : State) : Prop := ∃ e k p, t = s.withAside e k p

theorem State.besides_refl (s : State) : s.besides s := ⟨s.qe, s.free, s.net.stats, rfl⟩

theorem State.besides_withAside (s : State) (e : Qe) (k : Nat) (p : Tab Stats) : s.besides (s.withAside e k p) := ⟨e, k, p, rfl⟩

theorem State.besides.trans {s t u : State} (h : s.besides t) (g : t.besides u) : s.besides u := by
  obtain ⟨e, k, p, rfl⟩ := h
  obtain ⟨e', k', p', rfl⟩ := g
  exact ⟨e', k', p', rfl⟩

theorem State.besides.symm {s t : State} (h : s.besides t) : t.besides s := by
  obtain ⟨e, k, p, rfl⟩ := h
  exact ⟨s.qe, s.free, s.net.stats, rfl⟩

theorem State.besides.mem {s t : State} (h : s.besides t) : t.mem = s.mem := by
  obtain ⟨e, k, p, rfl⟩ := h
  rfl

theorem State.besides.harts {s t : State} (h : s.besides t) : t.harts = s.harts := by
  obtain ⟨e, k, p, rfl⟩ := h
  rfl

theorem State.besides.noteEngine {s t : State} (h : s.besides t) (node : Nat) : (s.noteEngine node).besides (t.noteEngine node) := by
  obtain ⟨k, p, hs⟩ := s.noteEngine_aside node
  obtain ⟨k', p', ht⟩ := t.noteEngine_aside node
  rw [hs, ht]
  exact (s.besides_withAside ..).symm.trans (h.trans (t.besides_withAside ..))

/-- A piece is written alike in two such states, and with the same answer. -/
theorem State.besides.putPiece {s t : State} (h : s.besides t) (node a : Nat) (bs : List Byte) (x : Poison) :
    (s.putPiece node a bs x).1.besides (t.putPiece node a bs x).1 ∧ (t.putPiece node a bs x).2 = (s.putPiece node a bs x).2 := by
  obtain ⟨e, k, p, hnoted⟩ := h.noteEngine node
  unfold State.putPiece
  rw [hnoted]
  generalize s.noteEngine node = u
  dsimp only
  split
  · refine ⟨?_, rfl⟩
    obtain ⟨p₁, h₁⟩ := State.noteAt_frame _ (mmioNode a) 0 (engineCls node) 64 none
    obtain ⟨p₂, h₂⟩ := State.noteAt_frame _ (mmioNode a) 0 (engineCls node) 64 none
    rw [h₁, h₂]
    exact ⟨e, k, p₂, rfl⟩
  · rw [State.retired_withAside, State.writeBytes_withAside]
    split
    · exact ⟨⟨e, k, p, rfl⟩, rfl⟩
    · split
      · exact ⟨⟨e, k, p, State.coherentWriteLine_withAside ..⟩, rfl⟩
      · exact ⟨⟨e, k, p, rfl⟩, rfl⟩

theorem State.besides.putBytes {s t : State} (h : s.besides t) (fuel node a : Nat) (bs : List Byte) (poison : Bool) (n : Nat) :
    (s.putBytes fuel node a bs poison n).1.besides (t.putBytes fuel node a bs poison n).1
      ∧ (t.putBytes fuel node a bs poison n).2 = (s.putBytes fuel node a bs poison n).2 := by
  induction fuel generalizing s t a bs n with
  | zero => exact ⟨h, rfl⟩
  | succ fuel ih =>
    unfold State.putBytes
    split
    · exact ⟨h, rfl⟩
    · extract_lets part r r'
      obtain ⟨hnext, hanswer⟩ := h.putPiece node a part (if poison then touched a part.length else 0)
      rw [show r'.2 = r.2 from hanswer]
      split
      · exact ih hnext ..
      · exact ⟨h, rfl⟩

theorem State.besides.put {s t : State} (h : s.besides t) (node a : Nat) (bs : List Byte) (poison : Bool) :
    (s.put node a bs poison).1.besides (t.put node a bs poison).1 ∧ (t.put node a bs poison).2 = (s.put node a bs poison).2 :=
  h.putBytes ..

/-! ### What a write leaves of the Queue Engine -/

/-- A write that commutes with another Queue Engine leaves the one it finds. -/
theorem State.writeBytes_qe (s : State) (a : Nat) (bs : List Byte) : (s.writeBytes a bs).qe = s.qe := by
  have hown := congrArg State.qe (s.writeBytes_withAside s.qe s.free s.net.stats a bs)
  exact hown

theorem State.coherentWriteLine_qe (s : State) (l : Nat) (d : Line) (x : Poison) : (s.coherentWriteLine l d x).qe = s.qe := by
  have hown := congrArg State.qe (s.coherentWriteLine_withAside s.qe s.free s.net.stats l d x)
  exact hown

theorem State.noteEngine_qe (s : State) (node : Nat) : (s.noteEngine node).qe = s.qe := by
  obtain ⟨k, p, h⟩ := s.noteEngine_aside node
  rw [h]
  rfl

theorem State.putPiece_qe (s : State) (node a : Nat) (bs : List Byte) (x : Poison) : (s.putPiece node a bs x).1.qe = s.qe := by
  unfold State.putPiece
  dsimp only
  split
  · exact s.noteEngine_qe node
  · split
    · exact s.noteEngine_qe node
    · split
      · exact (State.coherentWriteLine_qe ..).trans ((State.writeBytes_qe ..).trans (s.noteEngine_qe node))
      · exact (State.writeBytes_qe ..).trans (s.noteEngine_qe node)

theorem State.putBytes_qe (fuel : Nat) (s : State) (node a : Nat) (bs : List Byte) (poison : Bool) (n : Nat) :
    (s.putBytes fuel node a bs poison n).1.qe = s.qe := by
  induction fuel generalizing s a bs n with
  | zero => rfl
  | succ fuel ih =>
    unfold State.putBytes
    split
    · rfl
    · extract_lets part r
      split
      · exact (ih ..).trans (State.putPiece_qe ..)
      · rfl

theorem State.put_qe (s : State) (node a : Nat) (bs : List Byte) (poison : Bool) : (s.put node a bs poison).1.qe = s.qe := State.putBytes_qe ..

theorem State.flight_congr {s t : State} (h : t.qe = s.qe) (d : DescRef) : t.flight d = s.flight d := by
  rw [State.flight, State.flight, State.lane, State.lane, h]

theorem State.keyAt_congr {s t : State} (h : t.qe = s.qe) (q k : Nat) : t.keyAt q k = s.keyAt q k := by
  rw [State.keyAt, State.keyAt, h]

/-! ### An operation that may act (R189, R278, R281) -/

/-- The open Check units that a descriptor held are free (R322). -/
def State.freeUnits (s : State) (d : DescRef) : State :=
  { s with chk := { s.chk with units := s.chk.units.map (fun e => (e.1, if e.2.busy = some d then { e.2 with busy := none } else e.2)) } }

theorem State.actOn_reachable {s : State} {d : DescRef} {f : Flight} (go : State → Flight → State)
    (hgate : s.isGated (laneUnit d.lane) = false) (hreach : s.reachable d.lane f) : s.actOn d f go = go s f := by
  obtain ⟨hranges, -, hports⟩ := hreach
  have hopen : (s.opRanges d.lane f).any (fun x => s.deadRange x.2.1 x.2.2) = false := by
    simpa only [List.all_eq_true, List.any_eq_false, Bool.not_eq_true', Bool.not_eq_true] using hports
  unfold State.actOn
  dsimp only
  rw [hgate, hopen, hranges]
  simp

/-- An operation that may act runs on the state it finds. -/
theorem State.runOp_acts {s : State} {d : DescRef} {op : Nat} {f : Flight} (go : State → Flight → State) (hact : s.mayAct d op f) :
    s.runOp d op go = (go s f).freeUnits d := by
  obtain ⟨hf, hst, hop, hworks, hgate, hreach⟩ := hact
  unfold State.runOp
  rw [hf]
  dsimp only
  rw [if_neg (by simp [hst, hop, hworks]), State.whenFree_free _ _ _ hreach.2.1, State.actOn_reachable go hgate hreach]
  rfl

theorem State.mayAct.flight {s : State} {d : DescRef} {op : Nat} {f : Flight} (hact : s.mayAct d op f) : s.flight d = some f := hact.1

/-! ### What an operation reads and puts -/

/-- A good source reads as the bytes that every agent sees. -/
theorem State.busRead_good {s : State} {f : Flight} (node : Nat) (hgood : s.sourceGood f) :
    ∃ k p, s.busRead node f.src f.len = (s.coherentRead f.src f.len, false, s.withAside s.qe k p) := by
  obtain ⟨hmemory, hclean⟩ := hgood
  obtain ⟨t, hread, k, p, ht⟩ := s.busRead_memory node f.src f.len hmemory
  change t = s.withAside s.qe k p at ht
  exact ⟨k, p, by rw [hread, ht, State.coherentRead_withAside, State.coherentPoison_withAside, hclean]⟩

/-- The parts of a good read. -/
theorem State.afterRead_good {s : State} {d : DescRef} {f : Flight} (hgood : s.sourceGood f) :
    s.busRead (laneNodeOf d.lane) f.src f.len = (s.coherentRead f.src f.len, false, s.afterRead d f) ∧ s.besides (s.afterRead d f)
      ∧ (s.afterRead d f).qe = s.qe := by
  obtain ⟨k, p, hread⟩ := State.busRead_good (laneNodeOf d.lane) hgood
  unfold State.afterRead
  rw [hread]
  exact ⟨rfl, s.besides_withAside .., rfl⟩

theorem State.ends_freeUnits {t : State} {d : DescRef} {f : Flight} {status len result : Nat} (h : t.ends d f status len result) :
    (t.freeUnits d).ends d f status len result := h

/-- Bytes delivered from a state that agrees with `s` but for the Queue Engine, free values and statistics are put from `s`. -/
theorem State.deliver_puts {s u : State} {d : DescRef} {f : Flight} (hsame : s.besides u) (hf : u.flight d = some f) (bs : List Byte)
    (result : Nat) : s.puts ((u.deliver d f bs false result).freeUnits d) d f bs result := by
  obtain ⟨hput, hanswer⟩ := hsame.put (laneNodeOf d.lane) f.dst bs false
  have hdone : (u.deliver d f bs false result).ends d f (if (u.put (laneNodeOf d.lane) f.dst bs false).2.2 then 0 else 8)
      (u.put (laneNodeOf d.lane) f.dst bs false).2.1 result := by
    have hstatus : doneStatus (u.put (laneNodeOf d.lane) f.dst bs false).2.2 false
        = if (u.put (laneNodeOf d.lane) f.dst bs false).2.2 then 0 else 8 := by
      cases (u.put (laneNodeOf d.lane) f.dst bs false).2.2 <;> rfl
    rw [← hstatus]
    exact State.finish_ends ((State.flight_congr (u.put_qe ..) d).trans hf) ..
  rw [hanswer] at hdone
  exact ⟨hput.mem, hput.harts, hdone⟩

/-- A key handle outlives the delivery of its operation. -/
theorem State.deliver_keyAt (u : State) (d : DescRef) (f : Flight) (bs : List Byte) (result q k : Nat) :
    ((u.deliver d f bs false result).freeUnits d).keyAt q k = u.keyAt q k :=
  State.keyAt_congr (s := u) (t := (u.put (laneNodeOf d.lane) f.dst bs false).1) (u.put_qe ..) q k

/-- A draw leaves the descriptors in flight. -/
theorem State.flight_draw (s : State) (d : DescRef) : s.draw.2.flight d = s.flight d := rfl

/-! ### Operations on data (R369) -/

/-- What GCM_OPEN makes of its source: the plaintext, or nothing where the tag is not that of the data. -/
def State.opened (s : State) (f : Flight) : Option (List Byte) :=
  gcmOpen (s.keyBytes f) f.iv (((s.coherentRead f.src f.len).take (f.len - 16)).take (f.arg 20 4))
    (((s.coherentRead f.src f.len).take (f.len - 16)).drop (f.arg 20 4)) ((s.coherentRead f.src f.len).drop (f.len - 16))

section
variable {s : State} {d : DescRef} {f : Flight} (hgood : s.sourceGood f)
include hgood

theorem exec_hash (hact : s.mayAct d 0x40 f) :
    ∃ t, exec (.hash d) s = .next t ∧ s.puts t d f (digest (f.arg 0 1) (s.coherentRead f.src f.len)) 0 := by
  obtain ⟨hread, hsame, hqe⟩ := State.afterRead_good (d := d) hgood
  refine ⟨_, congrArg Host.Outcome.next (State.runOp_acts _ hact), ?_⟩
  dsimp only
  rw [hread]
  exact State.deliver_puts hsame ((State.flight_congr hqe d).trans hact.flight) _ 0

theorem exec_gcmSeal (hact : s.mayAct d 0x41 f) : ∃ t, exec (.gcmSeal d) s = .next t
    ∧ s.puts t d f ((s.coherentRead f.src f.len).take (f.arg 20 4)
          ++ (gcmSeal (s.keyBytes f) f.iv ((s.coherentRead f.src f.len).take (f.arg 20 4)) ((s.coherentRead f.src f.len).drop (f.arg 20 4))).1)
        (ofLE (gcmSeal (s.keyBytes f) f.iv ((s.coherentRead f.src f.len).take (f.arg 20 4))
          ((s.coherentRead f.src f.len).drop (f.arg 20 4))).2) := by
  obtain ⟨hread, hsame, hqe⟩ := State.afterRead_good (d := d) hgood
  refine ⟨_, congrArg Host.Outcome.next (State.runOp_acts _ hact), ?_⟩
  dsimp only
  rw [hread]
  exact State.deliver_puts hsame ((State.flight_congr hqe d).trans hact.flight) _ _

theorem exec_gcmOpen (hact : s.mayAct d 0x42 f) : ∃ t, exec (.gcmOpen d) s = .next t
    ∧ (∀ pt, s.opened f = some pt → s.puts t d f (((s.coherentRead f.src f.len).take (f.len - 16)).take (f.arg 20 4) ++ pt) 0)
    ∧ (s.opened f = none → t.mem = s.mem ∧ t.ends d f 5 0 0) := by
  obtain ⟨hread, hsame, hqe⟩ := State.afterRead_good (d := d) hgood
  have hflight : (s.afterRead d f).flight d = some f := (State.flight_congr hqe d).trans hact.flight
  refine ⟨_, congrArg Host.Outcome.next (State.runOp_acts _ hact), fun pt hpt => ?_, fun hbad => ?_⟩
  · dsimp only
    rw [hread]
    dsimp only
    rw [← State.opened, hpt]
    exact State.deliver_puts hsame hflight _ 0
  · dsimp only
    rw [hread]
    dsimp only
    rw [← State.opened, hbad]
    exact ⟨hsame.mem, State.ends_freeUnits (State.finish_ends hflight 5 0 0)⟩

theorem exec_cmac (hact : s.mayAct d 0x43 f) : ∃ t, exec (.cmac d) s = .next t ∧ t.mem = s.mem
    ∧ t.ends d f 0 f.len (ofLE (aesCmac (s.keyBytes f) (s.coherentRead f.src f.len))) := by
  obtain ⟨hread, hsame, hqe⟩ := State.afterRead_good (d := d) hgood
  refine ⟨_, congrArg Host.Outcome.next (State.runOp_acts _ hact), ?_⟩
  dsimp only
  rw [hread]
  exact ⟨hsame.mem, State.ends_freeUnits (State.finish_ends ((State.flight_congr hqe d).trans hact.flight) 0 _ _)⟩

theorem exec_sign (hact : s.mayAct d 0x44 f) : ∃ t, exec (.sign d) s = .next t
    ∧ (s.afterRead d f).draw.2.puts t d f (padTo (signatureSize (f.arg 0 1)) (if f.arg 0 1 = 0 then
          Config.mldsaSign (s.keyBytes f) (s.coherentRead f.src f.len) (s.afterRead d f).free
        else Config.ecdsaSign (s.keyBytes f) (s.coherentRead f.src f.len) (s.afterRead d f).free)) 0 := by
  obtain ⟨hread, -, hqe⟩ := State.afterRead_good (d := d) hgood
  refine ⟨_, congrArg Host.Outcome.next (State.runOp_acts _ hact), ?_⟩
  dsimp only
  rw [hread]
  have hflight : (s.afterRead d f).draw.2.flight d = some f := (State.flight_draw _ d).trans ((State.flight_congr hqe d).trans hact.flight)
  exact State.deliver_puts (State.besides_refl _) hflight _ 0

theorem exec_verify (hact : s.mayAct d 0x45 f) (halg : f.arg 0 1 = 0) : ∃ t, exec (.verify d) s = .next t ∧ t.mem = s.mem
    ∧ t.ends d f (if Config.mldsaVerify (((s.coherentRead f.src f.len).drop 48).take (publicSize 1)) ((s.coherentRead f.src f.len).take 48)
        ((s.coherentRead f.src f.len).drop (48 + publicSize 1)) then 0 else 5) f.len 0 := by
  obtain ⟨hread, hsame, hqe⟩ := State.afterRead_good (d := d) hgood
  refine ⟨_, congrArg Host.Outcome.next (State.runOp_acts _ hact), ?_⟩
  dsimp only
  rw [hread, halg, if_pos rfl]
  exact ⟨hsame.mem, State.ends_freeUnits (State.finish_ends ((State.flight_congr hqe d).trans hact.flight) _ _ 0)⟩

end

/-! ### Key handles and randomness (R368, R369) -/

theorem State.newKey_keyAt (s : State) (f : Flight) (alg : Nat) (key : List Byte) :
    (s.newKey f alg key).keyAt (s.viQid f.vi) f.new = some { alg := alg, secure := s.viSecure f.vi, key := key } := by
  rw [State.keyAt, State.newKey, State.setKey, Tab.find_set_same]

theorem State.newKey_flight (s : State) (f : Flight) (alg : Nat) (key : List Byte) (d : DescRef) :
    (s.newKey f alg key).flight d = s.flight d := rfl

theorem State.besides.bind {s t : State} (h : s.besides t) : t.bind = s.bind := by
  obtain ⟨e, k, p, rfl⟩ := h
  rfl

theorem State.besides.viQid {s t : State} (h : s.besides t) (v : Nat) : t.viQid v = s.viQid v := by
  rw [State.viQid, State.viQid, h.bind]

theorem State.besides.viSecure {s t : State} (h : s.besides t) (v : Nat) : t.viSecure v = s.viSecure v := by
  rw [State.viSecure, State.viSecure, h.bind]

/-- A key put into NEW from such a state carries the world of the VI that `s` has. -/
theorem State.besides.newKey_keyAt {s t : State} (h : s.besides t) (f : Flight) (alg : Nat) (key : List Byte) :
    (t.newKey f alg key).keyAt (s.viQid f.vi) f.new = some { alg := alg, secure := s.viSecure f.vi, key := key } := by
  rw [← h.viQid, ← h.viSecure, State.newKey_keyAt]

theorem exec_random {s : State} {d : DescRef} {f : Flight} (hact : s.mayAct d 0x48 f) : ∃ t, exec (.random d) s = .next t
    ∧ (s.drawBytes f.len).2.puts t d f (s.drawBytes f.len).1 0 :=
  ⟨_, congrArg Host.Outcome.next (State.runOp_acts _ hact),
    State.deliver_puts (State.besides_refl (s.drawBytes f.len).2) ((s.flight_draw d).trans hact.flight) _ 0⟩

theorem exec_keyGen {s : State} {d : DescRef} {f : Flight} (hact : s.mayAct d 0x49 f) : ∃ t, exec (.keyGen d) s = .next t
    ∧ t.keyAt (s.viQid f.vi) f.new = some { alg := f.arg 0 1, secure := s.viSecure f.vi, key := Config.keyGen (f.arg 0 1) s.free } :=
  ⟨_, congrArg Host.Outcome.next (State.runOp_acts _ hact), (State.deliver_keyAt ..).trans (State.newKey_keyAt s.draw.2 ..)⟩

theorem exec_keyErase {s : State} {d : DescRef} {f : Flight} (hact : s.mayAct d 0x4B f) : ∃ t, exec (.keyErase d) s = .next t
    ∧ t.ends d f 0 0 0 ∧ t.keyAt (s.viQid f.vi) f.key = none :=
  ⟨_, congrArg Host.Outcome.next (State.runOp_acts _ hact), State.ends_freeUnits (State.finish_ends hact.flight 0 0 0), Tab.find_del_same ..⟩

section
variable {s : State} {d : DescRef} {f : Flight} (hgood : s.sourceGood f)
include hgood

theorem exec_kemEncap (hact : s.mayAct d 0x46 f) : ∃ t, exec (.kemEncap d) s = .next t
    ∧ t.keyAt (s.viQid f.vi) f.new
      = some { alg := 0, secure := s.viSecure f.vi, key := (Config.kemEncap (s.coherentRead f.src f.len) (s.afterRead d f).free).2 } := by
  obtain ⟨hread, hsame, -⟩ := State.afterRead_good (d := d) hgood
  have hdrawn : s.besides (s.afterRead d f).draw.2 := hsame.trans (State.besides_withAside ..)
  refine ⟨_, congrArg Host.Outcome.next (State.runOp_acts _ hact), ?_⟩
  dsimp only
  rw [hread]
  exact (State.deliver_keyAt ..).trans (hdrawn.newKey_keyAt f 0 _)

/-- An operation that reads its source and leaves a key in NEW ends with both. -/
theorem State.finish_newKey {key : List Byte} (hf : s.flight d = some f) :
    State.ends ((((s.afterRead d f).newKey f 0 key).finish d 0 f.len 0).freeUnits d) d f 0 f.len 0
      ∧ ((((s.afterRead d f).newKey f 0 key).finish d 0 f.len 0).freeUnits d).keyAt (s.viQid f.vi) f.new
        = some { alg := 0, secure := s.viSecure f.vi, key := key } := by
  obtain ⟨-, hsame, hqe⟩ := State.afterRead_good (d := d) hgood
  have hflight : ((s.afterRead d f).newKey f 0 key).flight d = some f :=
    (State.newKey_flight ..).trans ((State.flight_congr hqe d).trans hf)
  exact ⟨State.ends_freeUnits (State.finish_ends hflight 0 f.len 0), hsame.newKey_keyAt f 0 key⟩

theorem exec_kemDecap (hact : s.mayAct d 0x47 f) : ∃ t, exec (.kemDecap d) s = .next t ∧ t.ends d f 0 f.len 0
    ∧ t.keyAt (s.viQid f.vi) f.new
      = some { alg := 0, secure := s.viSecure f.vi, key := Config.kemDecap (s.keyBytes f) (s.coherentRead f.src f.len) } := by
  obtain ⟨hread, -, -⟩ := State.afterRead_good (d := d) hgood
  refine ⟨_, congrArg Host.Outcome.next (State.runOp_acts _ hact), ?_⟩
  dsimp only
  rw [hread]
  exact State.finish_newKey hgood hact.flight

theorem exec_keyDerive (hact : s.mayAct d 0x4A f) : ∃ t, exec (.keyDerive d) s = .next t ∧ t.ends d f 0 f.len 0
    ∧ t.keyAt (s.viQid f.vi) f.new
      = some { alg := 0, secure := s.viSecure f.vi, key := hkdf (s.rootKey (s.viQid f.vi)) [] (s.coherentRead f.src f.len) 32 } := by
  obtain ⟨hread, -, -⟩ := State.afterRead_good (d := d) hgood
  refine ⟨_, congrArg Host.Outcome.next (State.runOp_acts _ hact), ?_⟩
  dsimp only
  rw [hread]
  exact State.finish_newKey hgood hact.flight

end

/-- Settles O37: every operation reads its source as memory stands, and delivers from a state that differs from the one it found in the
Queue Engine, free values and statistics only. -/
theorem cryptoOperations : Obligations.Crypto_operations := by
  unfold Obligations.Crypto_operations
  refine ⟨⟨fun s d f hact hgood => exec_hash hgood hact, fun s d f hact hgood => exec_gcmSeal hgood hact, fun s d f hact hgood => ?_,
      fun s d f hact hgood => exec_cmac hgood hact, fun s d f hact hgood => exec_sign hgood hact,
      fun s d f hact hgood halg => exec_verify hgood hact halg⟩,
    fun s d f hact hgood => exec_kemEncap hgood hact, fun s d f hact hgood => exec_kemDecap hgood hact, fun s d f hact => exec_random hact,
    fun s d f hact => exec_keyGen hact, fun s d f hact hgood => exec_keyDerive hgood hact, fun s d f hact => exec_keyErase hact⟩
  obtain ⟨t, hnext, hopened, hbad⟩ := exec_gcmOpen hgood hact
  refine ⟨t, hnext, ?_⟩
  split
  · next pt hpt => exact hopened pt hpt
  · next hnone => exact hbad hnone

end Sys2Proof.Machine
end

section
/-! PROOFS. The Governor (R381, R382, R397 to R399): an epoch and its limits, changes of a cluster's level, and the current limiter. -/

namespace Sys2Proof.Machine

/-! ### What the rows of an epoch leave as it is -/

/-- What the limits of an epoch rest on and change: the steps that throttle, the epochs with an unmet limit, the Binding, the part, and the
records on their way. -/
def State.epoch (s : State) : Tab Nat × Nat × Binding × Fuse × List LowCol := (s.gov.throttle, s.gov.unmet, s.bind, s.fuse, s.err.low)

theorem State.epoch_parts {s t : State} (h : t.epoch = s.epoch) :
    t.gov.throttle = s.gov.throttle ∧ t.gov.unmet = s.gov.unmet ∧ t.bind = s.bind ∧ t.fuse = s.fuse ∧ t.err.low = s.err.low := by
  simpa only [State.epoch, Prod.mk.injEq] using h

@[simp] theorem State.govLog_epoch (s : State) (kind reason qid old new target : Nat) (slack : Word) :
    (s.govLog kind reason qid old new target slack).epoch = s.epoch := by
  simp only [State.govLog, State.epoch, State.bind]

@[simp] theorem State.epochSlack_epoch (s : State) : s.epochSlack.2.epoch = s.epoch := by
  unfold State.epochSlack
  split <;> rfl

@[simp] theorem State.govLogAt_epoch (s : State) (kind reason qid old new target : Nat) :
    (s.govLogAt kind reason qid old new target).epoch = s.epoch := by
  rw [State.govLogAt, State.govLog_epoch, State.epochSlack_epoch]

@[simp] theorem State.flushWays_epoch (s : State) (n ways locked : Nat) : (s.flushWays n ways locked).epoch = s.epoch := by
  unfold State.flushWays
  extract_lets t hit s1 left
  refine foldl_frame State.epoch _ _ s fun r e => ?_
  unfold State.queueWrite
  split <;> rfl

@[simp] theorem State.epochQuire_epoch (s : State) (r : GovRec) : (s.epochQuire r).epoch = s.epoch := by
  unfold State.epochQuire
  extract_lets g d s1
  split
  · rfl
  · exact State.govLog_epoch ..

@[simp] theorem State.epochShare_epoch (s : State) (g : GovPkg) (n : Nat) : (s.epochShare g n).epoch = s.epoch := by
  unfold State.epochShare
  extract_lets old
  split
  · rfl
  · exact State.govLogAt_epoch ..

@[simp] theorem State.epochLend_epoch (s : State) (g : GovPkg) (n q : Nat) (m : BitVec 16) : (s.epochLend g n q m).epoch = s.epoch := by
  unfold State.epochLend
  extract_lets p adapts old s1 s2
  split
  · rfl
  · exact (State.govLogAt_epoch ..).trans (s.flushWays_epoch n (m ^^^ p.govMask).toNat 0)

@[simp] theorem State.epochPrefetch_epoch (s : State) (h n : Nat) : (s.epochPrefetch h n).epoch = s.epoch := by
  unfold State.epochPrefetch
  extract_lets x adapts
  split
  · rfl
  · exact State.govLogAt_epoch ..

@[simp] theorem State.epochRefresh_epoch (s : State) (g : GovPkg) (n : Nat) : (s.epochRefresh g n).epoch = s.epoch := by
  unfold State.epochRefresh
  extract_lets old
  split
  · rfl
  · exact State.govLogAt_epoch ..

@[simp] theorem State.epochAdjust_epoch (s : State) (t : Telemetry) : (s.epochAdjust t).epoch = s.epoch := by
  unfold State.epochAdjust
  split
  · rfl
  · next g _ =>
    extract_lets s1 s2 s3
    have h1 : s1.epoch = s.epoch := by
      unfold s1
      split
      · exact s.epochShare_epoch g _
      · rfl
    have h2 : s2.epoch = s1.epoch := foldl_frame State.epoch _ _ s1 fun r e => r.epochLend_epoch ..
    have h3 : s3.epoch = s2.epoch := foldl_frame State.epoch _ _ s2 fun r e => r.epochPrefetch_epoch ..
    rw [← h1, ← h2, ← h3]
    split
    · exact s3.epochRefresh_epoch g _
    · rfl

/-! ### A cluster's level (R381, R383) -/

theorem State.cluster_putCluster (s : State) (c k : Nat) (x : Cluster) : (s.putCluster c x).cluster k = if k = c then x else s.cluster k := by
  have hset : (s.setCluster c x).cluster k = if k = c then x else s.cluster k := by
    simp only [eq_comm (a := k)]
    exact Tab.get_set ..
  rw [← hset]
  unfold State.putCluster
  extract_lets old t
  split
  · rfl
  · refine foldl_frame (fun r : State => r.cluster k) _ _ t fun r h => ?_
    split <;> rfl

@[simp] theorem State.putCluster_gov (s : State) (c : Nat) (x : Cluster) : (s.putCluster c x).gov = s.gov := by
  unfold State.putCluster
  extract_lets old t
  split
  · rfl
  · refine foldl_frame State.gov _ _ t fun r h => ?_
    split <;> rfl

@[simp] theorem State.putCluster_low (s : State) (c : Nat) (x : Cluster) : (s.putCluster c x).err.low = s.err.low := by
  unfold State.putCluster
  extract_lets old t
  split
  · rfl
  · refine foldl_frame (fun r : State => r.err.low) _ _ t fun r h => ?_
    split <;> rfl

theorem State.deriveLevels_gov (s : State) (boost : Bool) : (s.deriveLevels boost).gov = s.gov :=
  foldl_frame State.gov _ _ s fun r _ => r.putCluster_gov ..

theorem State.deriveLevels_low (s : State) (boost : Bool) : (s.deriveLevels boost).err.low = s.err.low :=
  foldl_frame (fun r : State => r.err.low) _ _ s fun r _ => r.putCluster_low ..

theorem exec_frequencySwitch {s : State} {c k : Nat} (hramp : (s.cluster c).ramp = some k) (hon : s.fuse.clusterOk c = true) :
    ∃ t, exec (.frequencySwitch c) s = .next t ∧ (t.cluster c).granted = k ∧ (t.cluster c).ramp = none
      ∧ (t.cluster c).changes = (s.cluster c).changes + 1 := by
  refine ⟨s.putCluster c { s.cluster c with granted := k, changes := (s.cluster c).changes + 1, ramp := none }, ?_, ?_⟩
  · simp only [exec, execFrequencySwitch, frequencySwitch, hramp, hon, if_true]
  · rw [State.cluster_putCluster, if_pos rfl]
    exact ⟨rfl, rfl, rfl⟩

/-! ### The current limiter (R382) -/

/-- A cluster dropped to P4, its ramp to a boost level given up. -/
def State.limitOne (s : State) (c : Nat) : State :=
  let x := s.cluster c
  let x := { x with ramp := match x.ramp with | some t => if t < 4 then none else some t | none => none }
  if x.granted < 4 then s.putCluster c { x with granted := 4, changes := x.changes + 1 } else s.putCluster c x

theorem State.limitOne_gov (s : State) (c : Nat) : (s.limitOne c).gov = s.gov := by
  unfold State.limitOne
  extract_lets x y
  split <;> exact State.putCluster_gov ..

theorem State.limitOne_same (s : State) (c : Nat) : 4 ≤ ((s.limitOne c).cluster c).granted := by
  unfold State.limitOne
  extract_lets x y
  split
  · rw [State.cluster_putCluster, if_pos rfl]
  · next h =>
    rw [State.cluster_putCluster, if_pos rfl]
    exact Nat.le_of_not_lt h

theorem State.limitOne_other (s : State) {c k : Nat} (hk : k ≠ c) : (s.limitOne c).cluster k = s.cluster k := by
  unfold State.limitOne
  extract_lets x y
  split <;> rw [State.cluster_putCluster, if_neg hk]

theorem currentLimiterTrip_running {s : State} (hphase : s.boot.phase = .running) :
    currentLimiterTrip s = (s.clusterList.foldl State.limitOne { s with gov := { s.gov with boost := false } }).log
      (Syn.govLimitUnmet.record govNode 0x12 0 0) :=
  if_pos hphase

theorem exec_currentLimiterTrip {s : State} (hphase : s.boot.phase = .running) :
    ∃ t, exec .currentLimiterTrip s = .next t ∧ t.gov.boost = false ∧ t.carries Syn.govLimitUnmet = true
      ∧ ∀ c, c < clusterCount → s.fuse.clusterOk c = true → 4 ≤ (t.cluster c).granted := by
  refine ⟨_, congrArg Host.Outcome.next (currentLimiterTrip_running hphase), ?_, State.log_carries _ _ _ rfl, fun c hc hon => ?_⟩
  · rw [State.log_gov, foldl_frame State.gov _ _ _ State.limitOne_gov]
  · have hlisted : c ∈ s.clusterList := List.mem_filter.mpr ⟨List.mem_range.mpr hc, hon⟩
    have hclusters : ∀ t r, (State.log t r).cluster c = t.cluster c := fun t r => by rw [State.cluster, State.cluster, State.log_clusters]
    rw [hclusters]
    refine foldl_reaches (P := fun t : State => 4 ≤ (t.cluster c).granted) hlisted (fun t k ht => ?_) (fun t => t.limitOne_same c) _
    by_cases hk : c = k
    · subst hk
      exact t.limitOne_same c
    · rwa [t.limitOne_other hk]

/-! ### Limits (R398) -/

/-- The Quires' levels of an epoch (R397). -/
def State.epochQuires (s : State) : State :=
  if s.bind.govPkg.isSome then (s.bind.govs.filter (fun r => !r.fixedP)).foldl State.epochQuire s else s

theorem State.epochQuires_epoch (s : State) : s.epochQuires.epoch = s.epoch := by
  unfold State.epochQuires
  split
  · exact foldl_frame State.epoch _ _ s State.epochQuire_epoch
  · rfl

/-- Without policies no Quire's level moves. -/
theorem State.epochQuires_none {s : State} (hnone : s.bind.govs = []) : s.epochQuires = s := by
  unfold State.epochQuires
  rw [hnone]
  split <;> rfl

theorem State.govLimits_congr {s t : State} (hbind : t.bind = s.bind) (hfuse : t.fuse = s.fuse) : t.govLimits = s.govLimits := by
  rw [State.govLimits, State.govLimits, hbind, hfuse]

/-- The end of an epoch: boost is granted while nothing throttles and every limit is met. -/
def State.epochEnd (s : State) : State :=
  let boost := s.bind.allowBoost && s.gov.throttle.isEmpty && s.gov.unmet == 0
  let s : State := { s with gov := { s.gov with boost := boost,
                                                quires := s.gov.quires.mapAll (fun _ g => { g with slack := none, missed := false }) } }
  s.deriveLevels boost

theorem governorEpoch_running {s : State} (m : Telemetry) (hphase : s.boot.phase = .running) (hpk : s.pwr.pk < 2) :
    governorEpoch s m = ((s.epochQuires.epochLimits m).epochAdjust m).epochEnd := if_pos ⟨hphase, hpk⟩

theorem State.epochEnd_gov (s : State) : s.epochEnd.gov
    = { s.gov with boost := s.bind.allowBoost && s.gov.throttle.isEmpty && s.gov.unmet == 0,
                   quires := s.gov.quires.mapAll (fun _ g => { g with slack := none, missed := false }) } :=
  State.deriveLevels_gov ..

theorem State.epochEnd_govQ (s : State) (q : Nat) : (s.epochEnd.govQ q).slack = none ∧ (s.epochEnd.govQ q).missed = false := by
  have hquires := Tab.get_mapAll s.gov.quires GovQ.reset GovQ.reset (fun _ g => { g with slack := none, missed := false }) q rfl
  rw [State.govQ, State.epochEnd_gov]
  dsimp only
  rw [hquires]
  exact ⟨rfl, rfl⟩

theorem State.epochEnd_carries (s : State) (y : Syndrome) : s.epochEnd.carries y = s.carries y :=
  congrArg (fun l : List LowCol => l.any (fun c => c.upward.any (fun r => r.syndrome == y.code))) (State.deriveLevels_low ..)

theorem State.epochAdjust_carries (s : State) (m : Telemetry) (y : Syndrome) : (s.epochAdjust m).carries y = s.carries y := by
  obtain ⟨-, -, -, -, hlow⟩ := State.epoch_parts (s.epochAdjust_epoch m)
  rw [State.carries, State.carries, hlow]

/-- An epoch within its limits ends the throttling. -/
theorem State.epochLimits_met {s : State} {m : Telemetry} (htemp : m.tempC ≤ s.govLimits.2) (hpower : m.powerW ≤ s.govLimits.1) :
    s.epochLimits m = { s with gov := { s.gov with throttle := [], unmet := 0 } } :=
  if_neg (by simp [Nat.not_lt.mpr htemp, Nat.not_lt.mpr hpower])

theorem exec_governorEpoch_met {s : State} {m : Telemetry} (hphase : s.boot.phase = .running) (hpk : s.pwr.pk < 2)
    (htemp : m.tempC ≤ s.govLimits.2) (hpower : m.powerW ≤ s.govLimits.1) :
    ∃ t, exec (.governorEpoch m) s = .next t ∧ t.gov.throttle = [] ∧ t.gov.unmet = 0 ∧ t.gov.boost = s.bind.allowBoost
      ∧ ∀ q, (t.govQ q).slack = none ∧ (t.govQ q).missed = false := by
  obtain ⟨-, -, hbind, hfuse, -⟩ := State.epoch_parts s.epochQuires_epoch
  have hlimits := State.govLimits_congr hbind hfuse
  have hmet := State.epochLimits_met (s := s.epochQuires) (m := m) (by rwa [hlimits]) (by rwa [hlimits])
  obtain ⟨hthrottle, hunmet, hbind', -, -⟩ := State.epoch_parts ((s.epochQuires.epochLimits m).epochAdjust_epoch m)
  have hzero : (s.epochQuires.epochLimits m).gov.throttle = [] ∧ (s.epochQuires.epochLimits m).gov.unmet = 0
      ∧ (s.epochQuires.epochLimits m).bind = s.bind := by
    rw [hmet]
    exact ⟨rfl, rfl, hbind⟩
  obtain ⟨hempty, hnone, hsame⟩ := hzero
  refine ⟨_, congrArg Host.Outcome.next (governorEpoch_running m hphase hpk), ?_, ?_, ?_, fun q => State.epochEnd_govQ _ q⟩
  · rw [State.epochEnd_gov, hthrottle, hempty]
  · rw [State.epochEnd_gov, hunmet, hnone]
  · rw [State.epochEnd_gov, hthrottle, hunmet, hbind', hempty, hnone, hsame]
    simp

theorem State.throttleOne_throttle (s : State) (reason c : Nat) :
    (s.throttleOne reason c).gov.throttle = Tab.mod s.gov.throttle 0 c (· + 1) := by
  unfold State.throttleOne
  extract_lets old g t
  obtain ⟨hthrottle, -⟩ := State.epoch_parts (t.govLogAt_epoch 1 reason 0 old (t.derivedLevel c).1 c)
  exact hthrottle

/-- Each cluster of a list without repetition is moved one level slower, and no other. -/
theorem State.throttleAll_throttle (reason : Nat) (cs : List Nat) (hdistinct : cs.Nodup) (s : State) (k : Nat) :
    Tab.get (cs.foldl (fun s c => s.throttleOne reason c) s).gov.throttle 0 k
      = Tab.get s.gov.throttle 0 k + (if k ∈ cs then 1 else 0) := by
  induction cs generalizing s with
  | nil => rfl
  | cons c cs ih =>
    obtain ⟨hnew, hrest⟩ := List.nodup_cons.mp hdistinct
    rw [List.foldl_cons, ih hrest, State.throttleOne_throttle, Tab.get_mod]
    by_cases hk : k = c
    · subst hk
      simp [hnew]
    · simp [hk, Ne.symm hk]

theorem State.movable_nodup (s : State) : s.movable.Nodup := (List.nodup_range.filter _).filter _

/-- A temperature above its target moves every cluster that can move. -/
theorem State.epochLimits_hot {s : State} {m : Telemetry} (hhot : s.govLimits.2 < m.tempC) (hmovable : s.movable ≠ []) :
    ∃ t : State, s.epochLimits m = t.log (Syn.thermalThrottle.record govNode 0x12 0 0)
      ∧ t.gov.throttle = (s.movable.foldl (fun s c => s.throttleOne 5 c) s).gov.throttle := by
  unfold State.epochLimits
  extract_lets l hot
  have htrue : hot = true := decide_eq_true hhot
  rw [htrue]
  cases hcs : s.movable with
  | nil => exact absurd hcs hmovable
  | cons c cs => exact ⟨_, rfl, rfl⟩

theorem exec_governorEpoch_hot {s : State} {m : Telemetry} (hphase : s.boot.phase = .running) (hpk : s.pwr.pk < 2)
    (hhot : s.govLimits.2 < m.tempC) (hgovs : s.bind.govs = []) (hmovable : s.movable ≠ []) :
    ∃ t, exec (.governorEpoch m) s = .next t ∧ t.carries Syn.thermalThrottle = true ∧ t.gov.boost = false
      ∧ ∀ c ∈ s.movable, Tab.get t.gov.throttle 0 c = Tab.get s.gov.throttle 0 c + 1 := by
  obtain ⟨u, hlimits, hsteps⟩ := State.epochLimits_hot hhot hmovable
  obtain ⟨hthrottle, -⟩ := State.epoch_parts ((s.epochLimits m).epochAdjust_epoch m)
  have hmoved : ∀ c ∈ s.movable, Tab.get ((s.epochLimits m).epochAdjust m).gov.throttle 0 c = Tab.get s.gov.throttle 0 c + 1 := fun c hc => by
    rw [hthrottle, hlimits, State.log_gov, hsteps, State.throttleAll_throttle 5 _ s.movable_nodup, if_pos hc]
  refine ⟨_, congrArg Host.Outcome.next (governorEpoch_running m hphase hpk), ?_, ?_, ?_⟩
  · rw [State.epochQuires_none hgovs, State.epochEnd_carries, State.epochAdjust_carries, hlimits]
    exact State.log_carries _ _ _ rfl
  · obtain ⟨c, hc⟩ := List.exists_mem_of_ne_nil _ hmovable
    have hsome : ((s.epochLimits m).epochAdjust m).gov.throttle.isEmpty = false := by
      cases hnone : ((s.epochLimits m).epochAdjust m).gov.throttle with
      | nil => have := hmoved c hc; rw [hnone, Tab.get_nil] at this; omega
      | cons e es => rfl
    rw [State.epochQuires_none hgovs, State.epochEnd_gov, hsome, Bool.and_false, Bool.false_and]
  · rw [State.epochQuires_none hgovs, State.epochEnd_gov]
    exact hmoved

theorem State.limitUnmet_unmet (s : State) : s.limitUnmet.gov.unmet = s.gov.unmet + 1 ∧ s.limitUnmet.carries Syn.govLimitUnmet = true := by
  have hlogged : (s.log (Syn.govLimitUnmet.record govNode 0x12 0 0)).carries Syn.govLimitUnmet = true := State.log_carries _ _ _ rfl
  have hunmet : (s.log (Syn.govLimitUnmet.record govNode 0x12 0 0)).gov.unmet + 1 = s.gov.unmet + 1 := by rw [State.log_gov]
  unfold State.limitUnmet
  extract_lets t u
  split
  · exact ⟨hunmet, hlogged⟩
  · exact ⟨hunmet, hlogged⟩

/-- A limit that is passed with no cluster left to move is unmet. -/
theorem State.epochLimits_stuck {s : State} {m : Telemetry} (hover : s.govLimits.2 < m.tempC ∨ s.govLimits.1 < m.powerW)
    (hmovable : s.movable = []) : s.epochLimits m = s.limitUnmet := by
  unfold State.epochLimits
  rw [hmovable]
  exact if_pos (by simpa using hover)

theorem exec_governorEpoch_stuck {s : State} {m : Telemetry} (hphase : s.boot.phase = .running) (hpk : s.pwr.pk < 2)
    (hover : s.govLimits.2 < m.tempC ∨ s.govLimits.1 < m.powerW) (hgovs : s.bind.govs = []) (hmovable : s.movable = []) :
    ∃ t, exec (.governorEpoch m) s = .next t ∧ t.carries Syn.govLimitUnmet = true ∧ t.gov.unmet = s.gov.unmet + 1 := by
  obtain ⟨hunmet, hlogged⟩ := s.limitUnmet_unmet
  obtain ⟨-, hkept, -⟩ := State.epoch_parts (s.limitUnmet.epochAdjust_epoch m)
  refine ⟨_, congrArg Host.Outcome.next (governorEpoch_running m hphase hpk), ?_, ?_⟩
  · rw [State.epochQuires_none hgovs, State.epochLimits_stuck hover hmovable, State.epochEnd_carries, State.epochAdjust_carries, hlogged]
  · rw [State.epochQuires_none hgovs, State.epochLimits_stuck hover hmovable, State.epochEnd_gov, hkept, hunmet]

/-- Settles O48: the limits of an epoch rest on its `epoch` parts, which its other rows leave as they are. -/
theorem governor : Obligations.Governor := by
  unfold Obligations.Governor
  refine ⟨fun s m hphase hpk => ⟨fun htemp hpower => exec_governorEpoch_met hphase hpk htemp hpower,
      fun hhot hgovs hmovable => exec_governorEpoch_hot hphase hpk hhot hgovs hmovable,
      fun hover hgovs hmovable => exec_governorEpoch_stuck hphase hpk hover hgovs hmovable⟩,
    fun s c k hramp hon => exec_frequencySwitch hramp hon, fun s hphase => exec_currentLimiterTrip hphase⟩

end Sys2Proof.Machine
end

section
/-! PROOFS. The phase of start-up through a block's loss (R366): one lemma for each function that the loss of a block calls, in the order
of the model's files. -/

namespace Sys2Proof.Machine

/-- The phase of start-up that the package is in. -/
def State.phase (s : State) : Phase := s.boot.phase

/-- A record update has the phase of its start-up state. -/
@[simp] theorem State.phase_update (pending : List Instr) (free fuse pins boot time harts clusters slices net fabric links mem qe io sl chk err
    clasp dbg pwr ff gov) :
    State.phase ⟨pending, free, fuse, pins, boot, time, harts, clusters, slices, net, fabric, links, mem, qe, io, sl, chk, err, clasp, dbg,
      pwr, ff, gov⟩ = boot.phase := by simp [State.phase]

/-- The start-up state's own phase is the state's, as the lemmas below name it. -/
@[simp] theorem State.boot_phase (s : State) : s.boot.phase = s.phase := by rw [State.phase]

@[simp] theorem State.phase_ite (c : Prop) [Decidable c] (s t : State) : (if c then s else t).phase = if c then s.phase else t.phase :=
  apply_ite State.phase c s t

@[simp] theorem fst_ite_phase {α : Type} (c : Prop) [Decidable c] (r t : State × α) :
    (if c then r else t).1.phase = if c then r.1.phase else t.1.phase := apply_ite (fun r : State × α => r.1.phase) c r t

@[simp] theorem foldl_phase {α : Type} (f : State → α → State) (l : List α) (s : State) (h : ∀ s a, (f s a).phase = s.phase) :
    (l.foldl f s).phase = s.phase := foldl_frame State.phase f l s h

@[simp] theorem State.setHart_phase (s : State) (h : Nat) (x : Hart) : (s.setHart h x).phase = s.phase := by simp [State.setHart]
@[simp] theorem State.modHart_phase (s : State) (h : Nat) (f : Hart → Hart) : (s.modHart h f).phase = s.phase := by simp [State.modHart]
@[simp] theorem State.setSlice_phase (s : State) (n : Nat) (x : Slice) : (s.setSlice n x).phase = s.phase := by simp [State.setSlice]
@[simp] theorem State.modSlice_phase (s : State) (n : Nat) (f : Slice → Slice) : (s.modSlice n f).phase = s.phase := by simp [State.modSlice]
@[simp] theorem State.setStream_phase (s : State) (n : Nat) (v : Stream) : (s.setStream n v).phase = s.phase := by simp [State.setStream]
@[simp] theorem State.setGovQ_phase (s : State) (q : Nat) (v : GovQ) : (s.setGovQ q v).phase = s.phase := by simp [State.setGovQ]

@[simp] theorem State.sendMsi_phase (s : State) (hart file id : Nat) (secure : Bool) :
    (s.sendMsi hart file id secure).phase = s.phase := by simp [State.sendMsi]

@[simp] theorem State.noteAt_phase (s : State) (node core cls bytes : Nat) (lat : Option Nat) :
    (s.noteAt node core cls bytes lat).phase = s.phase := by simp [State.noteAt]

@[simp] theorem State.noteStats_phase (s : State) (i cls bytes : Nat) (lat : Option Nat) :
    (s.noteStats i cls bytes lat).phase = s.phase := by simp [State.noteStats]

@[simp] theorem State.sendCoh_phase (s : State) (m : CohMsg) : (s.sendCoh m).phase = s.phase := by simp [State.sendCoh]
@[simp] theorem State.takeCoh_phase (s : State) (m : CohMsg) : (s.takeCoh m).phase = s.phase := by simp [State.takeCoh]

@[simp] theorem State.pacedMsi_phase (s : State) (src hart file id : Nat) (secure : Bool) :
    (s.pacedMsi src hart file id secure).phase = s.phase := by simp [State.pacedMsi]

@[simp] theorem State.needResign_phase (s : State) : s.needResign.phase = s.phase := by simp [State.needResign]
@[simp] theorem State.fenceOne_phase (s : State) (u : UnitId) (syn : Nat) : (s.fenceOne u syn).phase = s.phase := by simp [State.fenceOne]
@[simp] theorem State.addFence_phase (s : State) (u : UnitId) (syn : Nat) : (s.addFence u syn).phase = s.phase := by simp [State.addFence]

@[simp] theorem State.raiseFatal_phase (s : State) (r : ErrRec) : (s.raiseFatal r).phase = s.phase := by
  unfold State.raiseFatal
  split <;> simp

@[simp] theorem State.log_phase (s : State) (r : ErrRec) : (s.log r).phase = s.phase := by simp [State.log]

@[simp] theorem State.deadlineMissOf_phase (s : State) (q : Nat) (r : ErrRec) : (s.deadlineMissOf q r).phase = s.phase := by
  simp only [State.deadlineMissOf]
  (repeat' split) <;> simp

@[simp] theorem State.queueWrite_phase (s : State) (l : Nat) (d : Line) (p : Poison) :
    (s.queueWrite l d p).phase = s.phase := by simp [State.queueWrite]

@[simp] theorem State.fillL3_phase (s : State) (n q l : Nat) (dirty : Bool) (d : Line) (p : Poison) : (s.fillL3 n q l dirty d p).phase = s.phase := by
  simp only [State.fillL3]
  (repeat' split) <;> simp

@[simp] theorem State.homeWrite_phase (s : State) (n q l : Nat) (alloc : Bool) (d : Line) (p : Poison) :
    (s.homeWrite n q l alloc d p).phase = s.phase := by
  simp only [State.homeWrite]
  (repeat' split) <;> simp

@[simp] theorem State.countStream_phase (s : State) (n : Option Nat) : (s.countStream n).phase = s.phase := by
  unfold State.countStream
  split <;> simp

@[simp] theorem State.countDemoted_phase (s : State) (n : Option Nat) : (s.countDemoted n).phase = s.phase := by
  unfold State.countDemoted
  split <;> simp

@[simp] theorem State.answerSnoop_phase (s : State) (m : CohMsg) : (s.answerSnoop m).phase = s.phase := by
  simp only [State.answerSnoop, State.sendCoh_phase]
  refine foldl_frame (fun r : State × _ => r.1.phase) _ _ _ fun r c => ?_
  simp

@[simp] theorem State.releaseSnoops_phase (s : State) (h : Nat) : (s.releaseSnoops h).phase = s.phase := by simp [State.releaseSnoops]
@[simp] theorem State.logUnexpected_phase (s : State) (m : CohMsg) : (s.logUnexpected m).phase = s.phase := by simp [State.logUnexpected]
@[simp] theorem State.sendAnswer_phase (s : State) (req m : CohMsg) : (s.sendAnswer req m).phase = s.phase := by simp [State.sendAnswer]

@[simp] theorem State.grantWith_phase (s : State) (n : Nat) (x : Txn) (d : Line × Poison) : (s.grantWith n x d).phase = s.phase := by
  simp only [State.grantWith]
  (repeat' split) <;> simp

@[simp] theorem State.advance_phase (fuel : Nat) (s : State) (n l : Nat) : (State.advance fuel s n l).phase = s.phase := by
  induction fuel generalizing s l with
  | zero => rfl
  | succ n ih => unfold State.advance; (repeat' split) <;> simp [ih]

@[simp] theorem State.takeResponse_phase (s : State) (n : Nat) (x : Txn) (o : SnoopOut) (kind : Opc) (have_ : Bool) (d : Option (Line × Poison)) :
    (s.takeResponse n x o kind have_ d).phase = s.phase := by
  unfold State.takeResponse
  split <;> simp

@[simp] theorem leavingArrives_phase (s : State) (m : CohMsg) : (leavingArrives s m).phase = s.phase := by
  simp only [leavingArrives]
  (repeat' split) <;> simp

@[simp] theorem State.channelMissAs_phase (s : State) (h n flags : Nat) : (s.channelMissAs h n flags).phase = s.phase := by simp [State.channelMissAs]

@[simp] theorem State.notifyQuire_phase (s : State) (q : Nat) : (s.notifyQuire q).phase = s.phase := by
  unfold State.notifyQuire
  split <;> simp

@[simp] theorem State.writeBackNow_phase (s : State) (h : Nat) (w : Wb) : (s.writeBackNow h w).phase = s.phase := by simp [State.writeBackNow]

@[simp] theorem State.flushDirty_phase (s : State) (h : Nat) (readable : Bool) : (s.flushDirty h readable).phase = s.phase :=
  foldl_phase _ _ _ fun s l => by split <;> simp

@[simp] theorem State.stopCore_phase (s : State) (h : Nat) (readable : Bool) : (s.stopCore h readable).phase = s.phase := by simp [State.stopCore]

@[simp] theorem State.notifyHolder_phase (s : State) (u : UnitId) : (s.notifyHolder u).phase = s.phase := by
  unfold State.notifyHolder
  split <;> simp

@[simp] theorem blockLost_phase (s : State) (u : UnitId) : (blockLost s u).phase = s.phase := by simp [blockLost]

end Sys2Proof.Machine
end

section
/-! PROOFS. Power edges, warm resets, REFCLK loss and thermal trips (R36, R356, R401, R413, R415, R417, R418). -/

namespace Sys2Proof.Machine

/-! ### What a hold of the domains leaves (R378, R413) -/

/-- Memory that is lost is a draw and other contents. -/
theorem State.loseMemory_only (s : State) (cxlOnly : Bool) : ∃ k m, s.loseMemory cxlOnly = { s with free := k, mem := m } := by
  unfold State.loseMemory
  split
  · exact ⟨_, _, rfl⟩
  · exact ⟨s.free, s.mem, rfl⟩

/-- Domains held in reset at once: STBY, the fuses, the flash and the key store stay. -/
theorem State.holdDomains_only (s : State) (phase : Phase) :
    ∃ k m, s.holdDomains phase = { (State.resetDomains { s with free := k, mem := m }) with
      boot := { (State.resetDomains { s with free := k, mem := m }).boot with phase := phase } } := by
  obtain ⟨k, m, h⟩ := s.loseMemory_only false
  exact ⟨k, m, by rw [State.holdDomains, h]⟩

/-! ### Power edges (R413, R415) -/

theorem exec_stbyPwrgoodRise_off {s : State} (hoff : s.boot.phase = .off) :
    ∃ t, exec .stbyPwrgoodRise s = .next t ∧ t.boot.phase = .standby ∧ t.pins.stbyPwrgood = true ∧ t.ff.booted = true ∧ t.ff.rules = []
      ∧ t.ff.chan = [] ∧ t.ff.alert = 0 :=
  ⟨_, congrArg Host.Outcome.next (if_pos hoff), rfl, rfl, rfl, rfl, rfl, rfl⟩

theorem exec_stbyPwrgoodFall_on {s : State} (hon : s.boot.phase ≠ .off) :
    ∃ t, exec .stbyPwrgoodFall s = .next t ∧ t.boot.phase = .off ∧ t.pins.stbyPwrgood = false ∧ t.harts = [] ∧ t.clusters = [] ∧ t.slices = []
      ∧ t.net = Net.reset ∧ t.err = Errors.reset ∧ t.ff.booted = false ∧ t.fuse = s.fuse ∧ t.clasp.owners = s.clasp.owners
      ∧ t.clasp.flash = s.clasp.flash ∧ t.clasp.floor = s.clasp.floor := by
  obtain ⟨k, m, hheld⟩ := s.holdDomains_only .off
  refine ⟨_, congrArg Host.Outcome.next (if_neg hon), ?_⟩
  rw [hheld]
  exact ⟨rfl, rfl, rfl, rfl, rfl, rfl, rfl, rfl, rfl, rfl, rfl, rfl⟩

theorem exec_pwrgoodFall_high {s : State} (hhigh : s.pins.pwrgood = true) :
    ∃ t, exec .pwrgoodFall s = .next t ∧ t.boot.phase = .standby ∧ t.boot.warm = false ∧ t.pins.pwrgood = false ∧ t.harts = []
      ∧ t.clusters = [] ∧ t.slices = [] ∧ t.net = Net.reset ∧ t.fabric = Fabric.reset ∧ t.qe = Qe.reset ∧ t.sl = SysLink.reset
      ∧ t.err = Errors.reset ∧ t.mem.wpq = [] ∧ t.ff = s.ff ∧ t.fuse = s.fuse ∧ t.clasp.flash = s.clasp.flash := by
  obtain ⟨k, m, hheld⟩ := s.holdDomains_only .standby
  refine ⟨_, congrArg Host.Outcome.next (if_pos hhigh), ?_⟩
  rw [hheld]
  exact ⟨rfl, rfl, rfl, rfl, rfl, rfl, rfl, rfl, rfl, rfl, rfl, rfl, rfl, rfl, rfl⟩

/-- Settles O1: what a hold of the domains leaves, as each edge of the power pins applies it. -/
theorem powerEdges : Obligations.Power_edges := by
  unfold Obligations.Power_edges
  exact ⟨⟨fun s hoff => exec_stbyPwrgoodRise_off hoff, fun s hon => exec_stbyPwrgoodFall_on hon⟩, fun s hhigh => exec_pwrgoodFall_high hhigh⟩

/-! ### A warm reset begins (R356, R418) -/

theorem State.stopHarts_run (s : State) (h : Nat) : (s.stopHarts.hart h).run ≠ .running ∧ (s.stopHarts.hart h).run ≠ .halted := by
  rw [State.hart, State.stopHarts, Tab.get_mapAll _ Hart.reset Hart.reset _ h (by simp [Hart.reset])]
  split
  · exact ⟨nofun, nofun⟩
  · next hrun => exact not_or.mp hrun

/-- Whatever the cause, the harts are those that stopped. -/
theorem State.startWarm_harts (s : State) (cause : ResetCause) :
    (s.startWarm cause).harts = (if cause = .fatal then s.copyFatal else s).stopHarts.harts := by
  cases cause <;> rfl

/-- What a warm reset's beginning leaves in place, whatever its cause. -/
theorem State.startWarm_begins (s : State) (cause : ResetCause) :
    (s.startWarm cause).boot.phase = .draining ∧ (s.startWarm cause).boot.warm = true ∧ (s.startWarm cause).boot.cause = cause
      ∧ (s.startWarm cause).pins.aliveToggling = false
      ∧ ∀ h, ((s.startWarm cause).hart h).run ≠ .running ∧ ((s.startWarm cause).hart h).run ≠ .halted := by
  refine ⟨rfl, rfl, rfl, rfl, fun h => ?_⟩
  rw [State.hart_congr (s.startWarm_harts cause)]
  exact State.stopHarts_run _ h

/-- But for a fatal event and a wake from PK4, the released ports send RIP and nothing else of the machine is read. -/
theorem State.startWarm_plain (s : State) {cause : ResetCause} (hfatal : cause ≠ .fatal) (hwake : cause ≠ .pk4Wake) :
    s.startWarm cause = { s.stopHarts with
      sl := { s.sl with ports := s.sl.ports.mapAll (fun _ p => { p with rip := p.released }) },
      pins := { s.pins with aliveToggling := false },
      boot := { s.boot with phase := .draining, warm := true, cause := cause, flush := .none } } := by
  unfold State.startWarm
  rw [if_neg hfatal]
  dsimp only
  rw [if_neg hwake]
  rfl

/-- RESET_N is low. -/
def State.resetLow (s : State) : State := { s with pins := { s.pins with resetN := false } }

theorem warmReset_pin {s : State} (hphase : s.boot.phase = .running) (hpower : s.pins.pwrgood = true) (hflush : s.boot.flush = .none)
    (hentering : s.pwr.pkEntering = none) : warmReset s .pin = s.resetLow.startWarm .pin := by
  have hruns : s.resetLow.resetWaits = false := by
    rw [State.resetWaits, show s.resetLow.boot.flush = .none from hflush, show s.resetLow.pwr.pkEntering = none from hentering]
    rfl
  have hfalls : s.resetFalls = s.resetLow.startWarm .pin := by
    unfold State.resetFalls
    rw [← State.resetLow]
    dsimp only
    rw [hruns, if_neg Bool.false_ne_true, show s.resetLow.boot.phase = .running from hphase]
  rw [← hfalls]
  exact if_pos hpower

theorem exec_warmReset_pin {s : State} (hphase : s.boot.phase = .running) (hpower : s.pins.pwrgood = true) (hflush : s.boot.flush = .none)
    (hentering : s.pwr.pkEntering = none) :
    ∃ t, exec (.warmReset .pin) s = .next t ∧ t.boot.phase = .draining ∧ t.boot.warm = true ∧ t.boot.cause = .pin
      ∧ t.pins.resetN = false ∧ t.pins.aliveToggling = false ∧ t.mem = s.mem ∧ (∀ p, (t.slPort p).rip = (s.slPort p).released)
      ∧ ∀ h, (t.hart h).run ≠ .running ∧ (t.hart h).run ≠ .halted := by
  have hbegun := s.resetLow.startWarm_plain (cause := .pin) (by decide) (by decide)
  obtain ⟨hdraining, hwarm, hcause, halive, hharts⟩ := s.resetLow.startWarm_begins .pin
  refine ⟨_, congrArg Host.Outcome.next (warmReset_pin hphase hpower hflush hentering), hdraining, hwarm, hcause, ?_, halive, ?_, fun p => ?_,
    hharts⟩
  · rw [hbegun]
    rfl
  · rw [hbegun]
    rfl
  · rw [hbegun, State.slPort, Tab.get_mapAll _ SlPort.reset SlPort.reset _ p rfl]
    rfl

theorem State.ffLog_advances (s : State) (rs : List ErrRec) :
    s.ff.logSeq ≤ (rs.foldl (fun s r => State.ffLog s 5 0 (ofLE (r.bytes false))) s).ff.logSeq := by
  induction rs generalizing s with
  | nil => exact Nat.le_refl _
  | cons r rs ih =>
    rw [List.foldl_cons]
    exact Nat.le_trans (by rw [State.ffLog_logSeq]; omega) (ih _)

/-- A fatal event is copied to the Firefly log (R356). -/
theorem State.copyFatal_logSeq {s : State} (hfatal : s.boot.fatal.isSome = true) : s.ff.logSeq < s.copyFatal.ff.logSeq := by
  obtain ⟨f, hf⟩ := Option.isSome_iff_exists.mp hfatal
  unfold State.copyFatal
  rw [hf]
  dsimp only
  rw [List.foldl_cons]
  exact Nat.lt_of_lt_of_le (by rw [State.ffLog_logSeq]; omega) (State.ffLog_advances _ _)

theorem State.startWarm_fatal_ff (s : State) : (s.startWarm .fatal).ff = s.copyFatal.ff := rfl

theorem exec_warmReset_fatal {s : State} (hphase : s.boot.phase = .running) (hfatal : s.boot.fatal.isSome = true)
    (hflush : s.boot.flush = .none) :
    ∃ t, exec (.warmReset .fatal) s = .next t ∧ t.boot.phase = .draining ∧ t.boot.cause = .fatal ∧ s.ff.logSeq < t.ff.logSeq
      ∧ ∀ h, (t.hart h).run ≠ .running ∧ (t.hart h).run ≠ .halted := by
  have hbegins : warmReset s .fatal = s.startWarm .fatal := by
    simp only [warmReset, hfatal, hflush, hphase, decide_true, Bool.and_self, if_true]
  obtain ⟨hdraining, -, hcause, -, hharts⟩ := s.startWarm_begins .fatal
  refine ⟨_, congrArg Host.Outcome.next hbegins, hdraining, hcause, ?_, hharts⟩
  rw [State.startWarm_fatal_ff]
  exact State.copyFatal_logSeq hfatal

/-! ### A warm reset has drained (R417, R418) -/

theorem exec_warmResetDrained {s : State} (hdraining : s.boot.phase = .draining) :
    ∃ t, exec .warmResetDrained s = .next t ∧ t.boot.phase = .ready 3 ∧ t.boot.bootCount = (s.boot.bootCount + 1) % 2 ^ 32 ∧ t.harts = []
      ∧ t.slices = [] ∧ t.err = Errors.reset ∧ t.mem.wpq = [] ∧ t.clasp.flash = s.clasp.flash ∧ t.clasp.owners = s.clasp.owners
      ∧ t.ff = s.ff := by
  obtain ⟨k, m, hlost⟩ := State.loseMemory_only { s with mem := s.mem.drain } (decide (s.boot.cause = .pk4Wake))
  refine ⟨_, congrArg Host.Outcome.next (if_neg (not_not.mpr hdraining)), ?_⟩
  dsimp only
  rw [hlost]
  exact ⟨rfl, rfl, rfl, rfl, rfl, rfl, rfl, rfl, rfl⟩

/-! ### REFCLK loss (R36) -/

/-- With REFCLK gone every domain except STBY is held in reset, and the Firefly logs it. -/
theorem State.refclkGone_holds (s : State) :
    s.refclkGone.boot.phase = .refclkLost ∧ s.refclkGone.pins.refclk = false ∧ s.refclkGone.harts = [] ∧ s.refclkGone.slices = []
      ∧ s.refclkGone.ff.logSeq = s.ff.logSeq + 1 := by
  obtain ⟨k, m, hheld⟩ := s.holdDomains_only .refclkLost
  unfold State.refclkGone
  rw [hheld]
  refine ⟨?_, ?_, ?_, ?_, ?_⟩ <;> simp only [State.ffLog, State.resetDomains]

theorem exec_refclkLost_clocked {s : State} (hclocked : s.clocked = true) :
    ∃ t, exec .refclkLost s = .next t ∧ t.boot.phase = .refclkLost ∧ t.pins.refclk = false ∧ t.harts = [] ∧ t.slices = []
      ∧ t.ff.logSeq = s.ff.logSeq + 1 :=
  ⟨_, congrArg Host.Outcome.next (if_pos hclocked), s.refclkGone_holds⟩

theorem exec_refclkRestored_lost {s : State} (hphase : s.boot.phase = .refclkLost) :
    ∃ t, exec .refclkRestored s = .next t ∧ t.boot.phase = .draining ∧ t.boot.cause = .refclk ∧ t.pins.refclk = true ∧ t.time.now = 0
      ∧ t.time.restarted = true := by
  refine ⟨_, congrArg Host.Outcome.next ((if_pos hphase).trans (State.startWarm_plain _ (by decide) (by decide))), ?_⟩
  exact ⟨rfl, rfl, rfl, rfl, rfl⟩

theorem exec_nocPllLockLost_iod {s : State} (hclocked : s.clocked = true) :
    ∃ t, exec (.nocPllLockLost iodDie) s = .next t ∧ t.boot.phase = .refclkLost := by
  obtain ⟨hphase, -⟩ := s.refclkGone_holds
  refine ⟨s.refclkGone, congrArg Host.Outcome.next ?_, hphase⟩
  have hlisted : packageDies.contains iodDie = true := by decide
  simp only [nocPllLockLost, hclocked, hlisted, Bool.not_true, Bool.or_self, Bool.false_eq_true, if_false, if_true]

/-! ### A die that loses PLL lock (R36) -/

theorem State.fenceOne_isFenced (s : State) (u : UnitId) (syn : Nat) : (s.fenceOne u syn).isFenced u = true := by
  unfold State.fenceOne
  split
  · assumption
  · simp [State.isFenced, State.needResign]

/-- The record of a die's loss fences the die. -/
theorem State.log_region {s : State} {d : Nat} (hiod : d ≠ iodDie) : (s.log (State.regionRecord d)).isFenced (dieUnit d) = true := by
  have hsev : (State.regionRecord d).severity = 2 := rfl
  have htype : (State.regionRecord d).unitType = 0x10 := rfl
  have hunit : (State.regionRecord d).unit = d := rfl
  unfold State.log
  extract_lets u r v s1 s2
  have hr : r.severity = 2 ∧ r.unitType = 0x10 ∧ r.unit = d := ⟨hsev, htype, hunit⟩
  obtain ⟨hsev, htype, hunit⟩ := hr
  have hfences : s2 = s1.fenceOne (dieUnit d) r.syndrome := by
    unfold s2
    rw [hsev, htype, hunit]
    simp [hiod, fenceable, State.addFence, UnitId.of, dieUnit]
  rw [hsev, if_neg (by simp), hfences]
  exact State.fenceOne_isFenced ..

theorem exec_nocPllLockLost_die {s : State} {d : Nat} (hclocked : s.clocked = true) (hlisted : packageDies.contains d = true)
    (hiod : d ≠ iodDie) :
    ∃ t, exec (.nocPllLockLost d) s = .next t ∧ t.boot.phase = s.boot.phase ∧ t.isFenced (dieUnit d) = true := by
  refine ⟨(if s.secureHeld (dieUnit d) then blockLost s (dieUnit d) else s).log (State.regionRecord d), congrArg Host.Outcome.next ?_, ?_,
    State.log_region hiod⟩
  · simp only [nocPllLockLost, hclocked, hlisted, hiod, Bool.not_true, Bool.or_self, Bool.false_eq_true, if_false]
  · change State.phase _ = State.phase _
    rw [State.log_phase, State.phase_ite, blockLost_phase, ite_self]

/-! ### Thermal trips (R401) -/

theorem exec_thermalTrip_clocked {s : State} (hclocked : s.clocked = true) :
    ∃ t, exec .thermalTrip s = .next t ∧ t.boot.phase = .tripped ∧ t.harts = [] ∧ t.slices = [] ∧ t.ff.alert.getLsbD 3 = true
      ∧ t.ff.logSeq = s.ff.logSeq + 1 := by
  obtain ⟨k, m, hheld⟩ := s.holdDomains_only .tripped
  refine ⟨_, congrArg Host.Outcome.next (if_pos hclocked), ?_⟩
  rw [hheld]
  refine ⟨?_, ?_, ?_, ?_, ?_⟩ <;> simp [State.ffLog, State.resetDomains, State.alert]

theorem exec_thermalRecovery_tripped {s : State} (hphase : s.boot.phase = .tripped) :
    ∃ t, exec .thermalRecovery s = .next t ∧ t.boot.phase = .draining ∧ t.boot.cause = .thermal := by
  obtain ⟨hdraining, -, hcause, -⟩ := s.startWarm_begins .thermal
  exact ⟨_, congrArg Host.Outcome.next (if_pos hphase), hdraining, hcause⟩

/-- Settles O3: warm resets through `startWarm`, losses of clock or temperature through what a hold of the domains leaves. -/
theorem resetsAndTrips : Obligations.Resets_and_trips := by
  unfold Obligations.Resets_and_trips
  exact ⟨⟨fun s hphase hpower hflush hentering => exec_warmReset_pin hphase hpower hflush hentering,
      fun s hphase hfatal hflush => exec_warmReset_fatal hphase hfatal hflush, fun s hdraining => exec_warmResetDrained hdraining⟩,
    fun s hclocked => exec_refclkLost_clocked hclocked, fun s hphase => exec_refclkRestored_lost hphase,
    fun s hclocked => exec_nocPllLockLost_iod hclocked, fun s d hclocked hlisted hiod => exec_nocPllLockLost_die hclocked hlisted hiod,
    fun s hclocked => exec_thermalTrip_clocked hclocked, fun s hphase => exec_thermalRecovery_tripped hphase⟩

end Sys2Proof.Machine
end

section
/-! PROOFS. Frames of the commands of one hart (R82, R89 to R91, R131, R161, R187): what they leave of the hart's registers and of the machine. -/

namespace Sys2Proof.Machine

/-! ### Registers that no command of one hart alone writes -/

/-- The x, f and vector registers of a hart, its QID, its world and the times of its deadline channels. -/
def Hart.registers (x : Hart) : Tab Word × Tab Word × Tab (BitVec 256) × Nat × Bool × Tab Word :=
  (x.x, x.f, x.vec, x.qid, x.secure, x.dlTime)

theorem Hart.registers_parts {x y : Hart} (h : y.registers = x.registers) :
    y.x = x.x ∧ y.f = x.f ∧ y.vec = x.vec ∧ y.qid = x.qid ∧ y.secure = x.secure ∧ y.dlTime = x.dlTime := by
  simpa only [Hart.registers, Prod.mk.injEq] using h

theorem Hart.sameBody.registers {x y : Hart} (h : x.sameBody y) : y.registers = x.registers := by
  obtain ⟨-, hqid, -, hsecure, hx, hf, hvec, htime, -⟩ := h
  rw [Hart.registers, hx, hf, hvec, hqid, hsecure, htime, Hart.registers]

@[simp] theorem Hart.retire_registers (x : Hart) (c : RetClass) : (x.retire c).registers = x.registers :=
  x.retire_frame Hart.registers c fun _ _ _ _ _ _ _ _ _ => rfl

@[simp] theorem Hart.count_registers (x : Hart) (n k : Nat) : (x.count n k).registers = x.registers := (x.count_sameBody n k).registers

@[simp] theorem Hart.addCnt_registers (fuel : Nat) (x : Hart) (n k : Nat) : (Hart.addCnt fuel x n k).registers = x.registers := by
  obtain ⟨c, o, h⟩ := Hart.addCnt_only fuel x n k
  rw [h]
  rfl

@[simp] theorem Hart.countRetire_registers (x : Hart) (c : RetClass) : (x.countRetire c).registers = x.registers := by
  obtain ⟨n, o, r, h⟩ := x.countRetire_only c
  rw [h]
  rfl

@[simp] theorem Hart.setLoop_registers (x : Hart) (level : Nat) (l : Loop) : (x.setLoop level l).registers = x.registers := by
  unfold Hart.setLoop
  split <;> rfl

theorem Hart.loopSetup_registers (x : Hart) (level endOff count : Nat) : (x.loopSetup level endOff count).registers = x.registers := by
  unfold Hart.loopSetup
  split
  · exact Hart.countRetire_registers ..
  · exact (Hart.retire_registers ..).trans (x.setLoop_registers ..)

theorem Hart.enterMode_registers (x : Hart) (to_ : Mode) (v : Bool) : (x.enterMode to_ v).registers = x.registers :=
  (x.enterMode_sameBody to_ v).registers

/-- A return of a trap redirects fetch and restores status, no more (R89). -/
theorem Hart.xret_registers (x : Hart) (k : XretKind) : (x.xret k).registers = x.registers := by
  cases k with
  | mret => exact Hart.enterMode_registers ..
  | sret =>
    unfold Hart.xret
    dsimp only
    split
    · exact Hart.enterMode_registers ..
    · exact Hart.enterMode_registers ..
  | mnret => exact Hart.enterMode_registers ..

/-! ### A command within one hart -/

/-- `t` is `s` but for one hart and the count of draws, and that hart keeps its registers. -/
structure State.Within (s : State) (h : Nat) (t : State) : Prop where
  parts : s.changesOnly [.harts, .free] t
  other : ∀ k, k ≠ h → t.hart k = s.hart k
  registers : (t.hart h).registers = (s.hart h).registers

theorem State.Within.refl (s : State) (h : Nat) : s.Within h s := ⟨s.changesOnly_refl _, fun _ _ => rfl, rfl⟩

theorem State.Within.trans {s t u : State} {h : Nat} (f : s.Within h t) (g : t.Within h u) : s.Within h u :=
  ⟨State.changesOnly_trans f.parts g.parts, fun k hk => (g.other k hk).trans (f.other k hk), g.registers.trans f.registers⟩

theorem State.modHart_within (s : State) (h : Nat) {f : Hart → Hart} (hf : (f (s.hart h)).registers = (s.hart h).registers) :
    s.Within h (s.modHart h f) := by
  obtain ⟨hother, hparts⟩ := s.modHart_inHart h f
  exact ⟨hparts.mono (by simp), hother, by rw [State.hart_modHart_same, hf]⟩

theorem State.draw_within (s : State) (h : Nat) : s.Within h s.draw.2 := by
  refine ⟨fun p hp => ?_, fun _ _ => rfl, rfl⟩
  cases p with
  | free => simp at hp
  | _ => rfl

/-- An exception changes neither the registers nor another hart (R89, R116). -/
theorem State.raiseCode_within (s : State) (h code : Nat) (v : Word) : s.Within h (s.raiseCode h code v) :=
  s.modHart_within h (f := fun x => x.trap false (Exc.of code v)) (Hart.trap_sameBody ..).registers

theorem State.raiseIllegal_within (s : State) (h code bits free : Nat) : s.Within h (s.raiseIllegal h code bits free) :=
  (s.draw_within h).trans (State.raiseCode_within ..)

/-- An instruction before which no trigger fires stays within its hart where its effect does. -/
theorem State.instr_within {s : State} {h : Nat} {f : State → State} (htrig : s.trigFirst h = false) (hf : s.Within h (f s)) :
    s.Within h (s.instr h f) := by
  unfold State.instr
  split
  · cases hdue : s.due h with
    | none => exact hf
    | some d =>
      cases d with
      | channel n =>
        refine State.Within.trans (State.modHart_within s h ?_) (State.raiseCode_within ..)
        rfl
      | trigger i =>
        rw [State.trigFirst, hdue] at htrig
        exact absurd htrig (by simp)
  · exact .refl s h

section
variable {s : State} {h : Nat} (htrig : s.trigFirst h = false)
include htrig

/-- A fence of translations that is not denied leaves entries out of the TLBs and retires (R131). -/
theorem fenceOp_within (k : FenceKind) (sel : Hart → TlbEnt → Bool) : s.Within h (fenceOp s h k sel) := by
  refine State.instr_within htrig ?_
  split
  · exact State.raiseIllegal_within ..
  · exact s.modHart_within h (Hart.retire_registers ..)

/-- A loop setup sets a level, skips the body, or raises exception 28 (R90, R91, R94). -/
theorem loopSetup_within (level endOff count : Nat) (range : Bool) : s.Within h (loopSetup s h level endOff count range) := by
  refine State.instr_within htrig ?_
  split
  · exact State.raiseCode_within ..
  · exact s.modHart_within h (Hart.loopSetup_registers ..)

theorem execFence_within : ∃ t, execFence h s = .next t ∧ s.Within h t := by
  refine ⟨_, rfl, State.instr_within htrig ?_⟩
  split
  · exact s.modHart_within h (Hart.retire_registers ..)
  · exact .refl s h

theorem execFenceI_within : ∃ t, execFenceI h s = .next t ∧ s.Within h t :=
  ⟨_, rfl, State.instr_within htrig (s.modHart_within h (Hart.retire_registers ..))⟩

theorem execLzSpecfence_within : ∃ t, execLzSpecfence h s = .next t ∧ s.Within h t :=
  ⟨_, rfl, State.instr_within htrig (s.modHart_within h ((Hart.retire_registers ..).trans (Hart.dropUnconfirmed_sameBody _).registers))⟩

theorem execWfi_within : ∃ t, execWfi h s = .next t ∧ s.Within h t := by
  refine ⟨_, rfl, State.instr_within htrig ?_⟩
  split
  · exact State.raiseIllegal_within ..
  · exact s.modHart_within h ((Hart.count_registers ..).trans (Hart.retire_registers ..))

theorem execXret_within (kind : XretKind) : ∃ t, execXret h kind s = .next t ∧ s.Within h t := by
  refine ⟨_, rfl, State.instr_within htrig ?_⟩
  split
  · exact State.raiseIllegal_within ..
  · exact s.modHart_within h ((Hart.xret_registers ..).trans (Hart.countRetire_registers ..))

end

theorem execCacheCtlDone_within (s : State) (h : Nat) : ∃ t, execCacheCtlDone h s = .next t ∧ s.Within h t := by
  refine ⟨_, rfl, ?_⟩
  split
  · exact s.modHart_within h rfl
  · exact .refl s h

theorem execInterruptTaken_within (s : State) (h cause : Nat) : ∃ t, execInterruptTaken h cause s = .next t ∧ s.Within h t := by
  refine ⟨_, rfl, ?_⟩
  split
  · exact s.modHart_within h (Hart.trapTo_sameBody ..).registers
  · exact .refl s h

theorem counterWrap_within (s : State) (h n : Nat) : s.Within h (counterWrap s h n) := by
  unfold counterWrap
  split
  · exact s.modHart_within h (Hart.addCnt_registers ..)
  · exact .refl s h

/-- Every command of one hart alone stays within it. -/
theorem exec_within {c : Instr} {h : Nat} {s : State} (hc : onlyHart c = some h) (htrig : s.trigFirst h = false) :
    ∃ t, exec c s = .next t ∧ s.Within h t := by
  cases c with
  | fence k => cases hc; exact execFence_within htrig
  | fenceI k => cases hc; exact execFenceI_within htrig
  | lzSpecfence k => cases hc; exact execLzSpecfence_within htrig
  | wfi k => cases hc; exact execWfi_within htrig
  | cacheCtlDone k => cases hc; exact execCacheCtlDone_within s h
  | sfenceVma k va asid => cases hc; exact ⟨_, rfl, fenceOp_within htrig _ _⟩
  | hfenceVvma k va asid => cases hc; exact ⟨_, rfl, fenceOp_within htrig _ _⟩
  | hfenceGvma k gpa vmid => cases hc; exact ⟨_, rfl, fenceOp_within htrig _ _⟩
  | trapEntry k cause tval => cases hc; exact ⟨_, rfl, State.instr_within htrig (State.raiseCode_within ..)⟩
  | lzLoop k level rs1 endOff => cases hc; exact ⟨_, rfl, loopSetup_within htrig _ _ _ _⟩
  | lzLoopi k level count endOff => cases hc; exact ⟨_, rfl, loopSetup_within htrig _ _ _ _⟩
  | interruptTaken k cause => cases hc; exact execInterruptTaken_within s h cause
  | xret k kind => cases hc; exact execXret_within htrig kind
  | counterWrap k n => cases hc; exact ⟨_, rfl, counterWrap_within s h n⟩
  | _ => exact absurd hc (by simp [onlyHart])

/-- Settles O17: every command of one hart alone stays within it. -/
theorem hartFrames : Obligations.Hart_frames := by
  unfold Obligations.Hart_frames
  intro c h s t hc htrig hexec
  obtain ⟨u, hnext, hparts, hother, hregisters⟩ := exec_within hc htrig
  obtain rfl : u = t := by
    rw [hexec] at hnext
    exact (Host.Outcome.next.inj hnext).symm
  obtain ⟨hx, hf, hvec, hqid, hsecure, htime⟩ := Hart.registers_parts hregisters
  exact ⟨hparts, hother, hx, hf, hvec, hqid, hsecure, htime⟩

end Sys2Proof.Machine
end

section
/-! PROOFS. Steps: the command at the front of the queue, and the cycle that passes with none waiting (R33, R37). -/

namespace Sys2Proof.Machine

/-- Every command has a meaning and leads to a next state: none of them stops the machine. -/
theorem exec_answers (c : Instr) (s : State) : ∃ t, exec c s = .next t := by
  cases c <;> exact ⟨_, rfl⟩

theorem State.changesOnly_time (s : State) (t : Time) : s.changesOnly [.time] { s with time := t } := by
  intro p hp
  cases p with
  | time => simp at hp
  | _ => rfl

theorem step_idle {s : State} (hnone : s.pending = []) : step s = .next { s with time := s.time.tick } := by
  rw [step, hnone]

/-- A cycle inside a frame advances the slot and the cycle count, and running package time in every second slot (R37). -/
theorem Time.tick_inside {t : Time} (hslot : t.slot < 19) :
    t.tick.slot = t.slot + 1 ∧ t.tick.cycle = t.cycle + 1
      ∧ t.tick.now = if t.started = true ∧ t.slot % 2 = 1 then t.now + 1 else t.now := by
  have heven : (t.slot + 1) % 2 = 0 ↔ t.slot % 2 = 1 := by omega
  simp only [Time.tick, hslot, if_true, Bool.and_eq_true, beq_iff_eq, heven]
  split
  · exact ⟨rfl, rfl, rfl⟩
  · exact ⟨rfl, rfl, rfl⟩

/-- Slot 19 waits for the frame boundary. -/
theorem Time.tick_last {t : Time} (hslot : 19 ≤ t.slot) : t.tick = t := if_neg (Nat.not_lt.mpr hslot)

/-- Settles O54: the step's two cases, the queue's head and the idle cycle. -/
theorem steps : Obligations.Steps := by
  unfold Obligations.Steps
  refine ⟨fun s c rest => rfl, fun s c => exec_answers c s, fun s hnone => ⟨_, step_idle hnone, s.changesOnly_time _, ?_, ?_⟩⟩
  · exact Time.tick_inside
  · exact Time.tick_last

end Sys2Proof.Machine
end
